-- ==== Sys2Proof/Word.lean ====
section
/-! DEFINITION. The word types and the sparse tables every part of the model uses. -/

namespace Sys2Proof

/-- A 32-bit register or memory word. -/
abbrev Word := BitVec 32

/-- One byte of a memory. -/
abbrev Byte := BitVec 8

/-- A table indexed by numbers, as key and value pairs with strictly rising keys. -/
abbrev Tab (α : Type) := List (Nat × α)

/-- A raw conversion: its 14-bit code after the slice's trims, and whether the input lay beyond the span (R260, R267). -/
abbrev RawSample := BitVec 14 × Bool

end Sys2Proof
end

