-- ==== Sys2Proof/Syntax.lean ====
section
/-! DEFINITION. The commands of the block (spec/opcode_table.json) and the data they carry. -/

namespace Sys2Proof

/-- The kinds of register page (R585). -/
inductive PKind
  | dev | mode | clk | pwr | flt | silo | sec | dbg | time | eth | cnt | brst | ucode | winn | host | aml | bw
  | ddr | dc | qdr | asn | ascan | acq | sq | gran | hop | grnd | gln | sh
  deriving DecidableEq, Repr

/-- A register page: its kind and its instance number (R584). -/
structure Page where
  kind : PKind
  inst : Nat
  deriving DecidableEq, Repr

/-- The requesters of a register access (R23). -/
inductive Requester
  | host
  | brewer (n : Fin 16)
  | i3c
  | jtag
  deriving DecidableEq, Repr

/-- The 48-bit counts of the Gleaner (R232). -/
inductive GCount
  | fc (ch : Fin 320)
  | sfv (n : Fin 32)
  | scv (n : Fin 32)
  deriving DecidableEq, Repr

/-- Classes of DDR requests that requesters send (R443). -/
inductive DdrClass
  | urgent | stream | host | brewer
  deriving DecidableEq, Repr

/-- What the DRAM interface finds in the beats of an access (R445, R446). -/
inductive DdrEcc
  | ok
  /-- A corrected error. -/
  | corrected
  /-- An uncorrectable error, with its beat and syndrome. -/
  | bad (beat : Fin 16) (syn : BitVec 8)
  /-- The command checker finds a timing violation. -/
  | violation
  deriving DecidableEq, Repr

/-- A request to one 64-byte burst of the DDR space: a read, or a write of bytes from its address up (R443). -/
structure DdrReq where
  cls : DdrClass
  addr : BitVec 37
  write : Option (List Byte)
  ecc : DdrEcc
  deriving DecidableEq, Repr

/-- The refresh-rate classes of an MR4 reading (R451). -/
inductive Mr4Class
  | normal | hot | limit
  deriving DecidableEq, Repr

/-- What training of a subchannel measured (R458, R459). -/
structure DdrTraining where
  /-- A rank did not answer its mode-register read. -/
  nodev : Bool
  /-- The routine ended at its restart limit (R387). -/
  limit : Bool
  rdEye : BitVec 8
  wrEye : BitVec 8
  vmarg : BitVec 8
  /-- Read and write delay of every lane, rank by rank. -/
  lanes : List (BitVec 8 × BitVec 8)
  deriving DecidableEq, Repr

/-- What a chip tells about a rendezvous group (R171 to R176). -/
inductive RdvMsg
  /-- A member arrives, or withdraws its arrival. -/
  | arrive (site : Fin 32)
  | withdraw (site : Fin 32)
  /-- A member becomes excused, or is no longer. -/
  | excused (site : Fin 32) (b : Bool)
  /-- The chip's members, and its RG_CHIPS. -/
  | members (mask : BitVec 32)
  | chips (mask : BitVec 16)
  deriving DecidableEq, Repr

/-- What a part of a span tells the others (R182 to R186). -/
inductive SpanMsg
  /-- The part exists, or no longer does. -/
  | part
  | gone
  /-- The part meets its start conditions. -/
  | ready
  /-- A vector of it failed. -/
  | fail (vec : Nat)
  /-- Requests that the lead forwards. -/
  | pause
  | resume
  | hjump (target : Nat)
  /-- The part ended with a cause other than STOP. -/
  | ended (cause : Nat)
  /-- A cause of its safe state is set, or all are cleared. -/
  | safe
  | release
  deriving DecidableEq, Repr

/-- What a CAL flit carries (R364, R365). -/
inductive CalMsg
  /-- A chip's phase of the reference edge in grains, and its reason; 0 where it passes. -/
  | mcskew (phase : Int) (reason : Nat)
  /-- The crossing time of a span's results on a chip, in grains. -/
  | loop (span : Fin 16) (t : Nat)
  deriving DecidableEq, Repr

/-- Messages of the Abamora Link (R492); `t` is an instant in grains. -/
inductive AmlMsg
  | ack
  | capx (chips major minor : Nat)
  | syncm (cnt : Nat)
  | trig (line t : Nat)
  | flag (idx op rank t : Nat)
  | rdv (g : Nat) (m : RdvMsg) (t : Nat)
  | span (span : Nat) (m : SpanMsg) (t : Nat)
  /-- The lead's adj for an application instant. -/
  | adj (a : Int) (t : Nat)
  /-- The lead's time (2^-16 ns) at the SYNC at t, and whether it steps there. -/
  | time (u : Nat) (step : Bool) (t : Nat)
  | cal (m : CalMsg)
  deriving DecidableEq, Repr

/-- A flit on a link (R492); its CRC is not held. -/
structure Flit where
  origin : Nat
  oseq : Nat
  lseq : Nat
  hops : Nat
  ack : Nat
  nak : Bool
  msg : AmlMsg
  deriving DecidableEq, Repr

/-- The header of a received flit whose CRC is right (R492). -/
structure FlitHdr where
  origin : Fin 16
  oseq : BitVec 8
  lseq : BitVec 8
  hops : Fin 4
  ack : BitVec 8
  nak : Bool
  deriving DecidableEq, Repr

/-- An instant in a flit: the SYNC number mod 256 and the field cycles since that SYNC (R492). -/
structure FlitTime where
  sync : BitVec 8
  cycles : Nat
  deriving DecidableEq, Repr

/-- What a TIME flit carries (R331): the lead's adj, or its time (2^-16 ns) at a SYNC and whether it steps there. -/
inductive TimeMsg
  | adj (a : Int)
  | at_ (u : Nat) (step : Bool)
  deriving DecidableEq, Repr

/-- What training of an AML port finds (R489): a failure (1 NOSIG, 2 LOCK, 3 LANE, 4 SKEW; 0 none), the corrections, and
the lane skew in 1/64 UI. -/
structure AmlTraining where
  reason : Fin 5
  polinv : BitVec 2
  swap : Bool
  skew : BitVec 16
  deriving DecidableEq, Repr

/-- What CONV finds for a slice (R359): its trims, the noise on ZERO, and the residuals, the LSB ones in 1/16 LSB. -/
structure ConvMeas where
  slice : Fin 4
  ofs : BitVec 16
  gain : BitVec 18
  skew : BitVec 9
  noise : Nat
  residOfs : Nat
  residGain : Nat
  residSkew : Nat
  deriving DecidableEq, Repr

/-- What DESKEW finds for an edge (R362): its three sweeps, the programmed position of a drive edge, and where the
verification finds it, in grains. -/
structure EdgeMeas where
  sweeps : Int × Int × Int
  at_ : Int
  verified : Int
  deriving DecidableEq, Repr

/-- What the Winnower measures for a unit at its commit point (R357, R359 to R367). Voltages are in µV, resistances in
milliohm, converter noise in 1/16 LSB and means in 1/256 LSB; `vref` is an external voltage reference as it reads. -/
inductive UnitMeas
  /-- A slice, or the slices of an interleave group together. -/
  | conv (slices : List ConvMeas) (vref : Option Nat)
  | level (c : Fin 320) (dgain dofs cgain cofs : BitVec 8) (noise resid : Nat) (vref : Option Nat)
  | cmp (c : Fin 320) (ofsA ofsB : BitVec 10) (width resid : Nat)
  | imp (c : Fin 320) (ztrim : BitVec 7) (zres : BitVec 8) (before spread : Nat)
  /-- Edges D1 to D4, C1, C2; MON2 in 0.25 °C. -/
  | deskew (c : Fin 320) (tref : Bool) (edges : List EdgeMeas) (mon2 : BitVec 16)
  /-- The markers of every sheaf of a site, for each acquisition, in grains. -/
  | loop (n : Fin 32) (markers : List (List Nat))
  | mcskew (tref : Bool) (phase : Int) (fctrim : BitVec 11) (dly : Nat) (spread resid : Nat)
  | eye (lane : Fin 10) (width : BitVec 10)
  | sysz (mean : Int) (noise : Nat)
  | sysf (mean : Int) (noise : Nat)
  deriving DecidableEq, Repr

/-- What SYNC_IN tells about the polarity of REFCLK in BOOT step 3 (R560). -/
inductive RefCheck
  | rising
  /-- The transitions follow the falling edges: the pair is reversed. -/
  | falling
  /-- No transition within 100 µs. -/
  | silent
  deriving DecidableEq, Repr

/-- What SREXIT of a subchannel finds (R455): the MR4 readings of its ranks, and whether the training pattern matched. -/
structure SrFindings where
  ranks : List (Mr4Class × BitVec 3)
  fits : Bool
  deriving DecidableEq, Repr, Inhabited

/-- What the checks of a BOOT find (R393, R558, R562): the CRC of every control ROM, the fault slots of the units whose
memory fails, training and SREXIT of the subchannels, the QDR read eyes, and whether the flash read succeeds. -/
structure BootFindings where
  sigs : List Word
  fails : List (Fin 256)
  train : List DdrTraining
  srexit : List SrFindings
  qa : BitVec 8
  qb : BitVec 8
  flashOk : Bool
  deriving DecidableEq, Repr, Inhabited

/-- What a SECDED check of a local memory word finds (R401). -/
inductive Secded
  | ok | corrected | bad
  deriving DecidableEq, Repr

/-- What an instruction of a Brewer core meets outside it: the slots before it retires by class (R427), the checks of its
fetch and of its data, the beats of a DDR access, the data of a host read, and a store-conditional that fails although its
reservation stands, as the A extension permits. -/
structure BrewerExt where
  wasted : Nat
  back : Nat
  front : Nat
  fetch : Secded
  data : Secded
  ddr : DdrEcc
  host : Word
  scFails : Bool
  deriving DecidableEq, Repr

/-- A request of the debug module to a Brewer (R548): register numbers are those of the RISC-V abstract commands. -/
inductive DmRequest
  | halt
  | resume
  | step (x : BrewerExt)
  | readReg (r : BitVec 16)
  | writeReg (r : BitVec 16) (v : Word)
  deriving DecidableEq, Repr

/-- A descriptor of a DMA command as it is read from host memory (R481), the bytes that its host source returns before a read
fails, and the beats of its DDR accesses. -/
structure DmaUnit where
  desc : BitVec 256
  data : List Byte
  ecc : DdrEcc
  deriving DecidableEq, Repr

/-- The commands of the block: one constructor per row of the opcode table. -/
inductive Instr where
  /-- REGISTER_WRITE (R5): A host, Brewer, I3C or JTAG write to a register field that has no row of its own takes effect according to the field's access type and class. -/
  | registerWrite (r : Requester) (a : BitVec 26) (len : Nat) (v : BitVec 64)
  /-- RC_READ (R5): A read of a read-clears field returns its value and then clears it, unless the read is JTAG at OBSERVE. -/
  | rcRead (r : Requester) (a : BitVec 26) (len : Nat)
  /-- COUNT_LOW_READ (R233): A read of the low word of a 48-bit Gleaner count copies its high half into a shadow for the next high-word read. -/
  | countLowRead (c : GCount)
  /-- PAGE_COMMIT_GO (R11): A write of 1 to PAGE_COMMIT.GO marks the page's pending STAGED copies for activation and sets PEND. -/
  | pageCommitGo (r : Requester) (p : Page)
  /-- COMMIT_APPLY (R11): At the block's first boundary after GO, or in its first idle field cycle, all pending copies of the page become active together and PEND clears. -/
  | commitApply (p : Page)
  /-- PAGE_COMMIT_DROP (R15): A write of 1 to PAGE_COMMIT.DROP discards all pending copies of the page and clears PEND. -/
  | pageCommitDrop (r : Requester) (p : Page)
  /-- PAGE_RESET (R588): A write of 1 to PAGE_CTL.RST resets the page's block, keeping its configuration and discarding its operating state. -/
  | pageReset (r : Requester) (p : Page)
  /-- PAGE_RESET_RELEASE (R588): At most 1 µs after an accepted RST, the block is released from reset unless EN is 0. -/
  | pageResetRelease (p : Page)
  /-- PAGE_ENABLE_WRITE (R588): A write of PAGE_CTL.EN holds the block in reset (0) or lets it run (1). -/
  | pageEnableWrite (r : Requester) (p : Page) (en : Bool)
  /-- PAGE_POWER_REQUEST (R587): A write of PAGE_CTL.PWR writes the PWR_REQ bit of the page's domain under the power request rules. -/
  | pagePowerRequest (r : Requester) (p : Page) (on : Bool)
  /-- PAGE_FLTL_CLEAR (R591): A write of 1 to PAGE_FLTL.ALATCH or BLATCH clears the corresponding FLT_LATCH bit through the management bridge. -/
  | pageFltlClear (r : Requester) (p : Page) (a : Bool) (b : Bool)
  /-- OVERCURRENT_TRIP (R58): A channel current stays above its threshold for the filter time, so CH_STAT.OC latches and the Silo is asked for the site's safe state. -/
  | overcurrentTrip (ch : Fin 320)
  /-- OC_CONDITION_CLEAR (R67): A channel's current stays below threshold for 1 µs, so its live overcurrent condition ends. -/
  | ocConditionClear (ch : Fin 320)
  /-- OUT_OF_RANGE_TRIP (R60): The pin lies outside −0.60 V to +2.20 V for 1 µs, so CH_STAT.OOR latches and, with OOR_SAFE, the safe state is requested. -/
  | outOfRangeTrip (ch : Fin 320)
  /-- OOR_CONDITION_CLEAR (R67): The pin stays within range for 1 µs, or OOR_EN is 0, so the out-of-range condition ends. -/
  | oorConditionClear (ch : Fin 320)
  /-- PMU_CTL_WRITE (R51): A write of CH_PMU_CTL changes the force-and-measure unit's mode, range or connection, resets the force on a mode change, and switches break-before-make. -/
  | pmuCtlWrite (r : Requester) (ch : Fin 320) (v : Word)
  /-- PMU_CLAMP_WRITE (R52): A write of CH_PMU_CLAMP sets the clamps, or is discarded when VCLL exceeds VCLH. -/
  | pmuClampWrite (r : Requester) (ch : Fin 320) (v : Word)
  /-- OPEN_PIN_CHECK_START (R71): A write of 1 to SH_OPC_CTL.START starts the open-pin check, or is refused with REFUSED. -/
  | openPinCheckStart (r : Requester) (sh : Fin 40) (v : Word)
  /-- OPC_SETTLE_ELAPSED (R68): The open-pin check's settle time expires and comparator sampling begins. -/
  | opcSettleElapsed (sh : Fin 40)
  /-- OPC_SAMPLING_END (R69): The 1 µs sampling of a pass ends, so results are recorded, the second pass begins or DONE is set and channels return to their configuration. -/
  | opcSamplingEnd (sh : Fin 40) (samples : List (BitVec 8 × BitVec 8))
  /-- VECTOR_START (R77): A vector starts at the previous start plus its period, fixing the action of each channel and scheduling its edges. -/
  | vectorStart (n : Fin 32)
  /-- EDGE_EVENT (R80): A scheduled drive or strobe edge acts on the channel with its vector's action and timing set. -/
  | edgeEvent (ch : Fin 320) (seen : List (Bool × Bool))
  /-- CLOCK_GENERATOR_START (R105): A write of 1 to CG_CTL.EN starts a clock generator with a phase reset at its boundary. -/
  | clockGeneratorStart (r : Requester) (n : Fin 8) (v : Word)
  /-- CLOCK_GENERATOR_STOP (R105): A write of 0 to CG_CTL.EN drives the generator low and cancels a phase reset waiting for SYNC. -/
  | clockGeneratorStop (r : Requester) (n : Fin 8) (v : Word)
  /-- CG_PHASE_RESET (R103): At a generator's boundary its pending values are checked and applied with a phase reset, or refused with BADCFG. -/
  | cgPhaseReset (n : Fin 8)
  /-- SYNC (R177): A SYNC is detected on SYNC_IN or from the generator, marking the internal SYNC instant for every user. -/
  | syncDetected (refclk : Nat)
  /-- SYNC_LOST (R179): No SYNC arrives for 2 × SYNC_PER REFCLK periods, so SYNC_STAT.LOST is set. -/
  | syncLost
  /-- SYNC_GENERATOR_START (R178): A write of 1 to SYNC_CTL.GEN starts the SYNC generator at the next rising REFCLK edge. -/
  | syncGeneratorStart (r : Requester) (v : Word)
  /-- SYNC_GENERATOR_STOP (R178): A write of 0 to SYNC_CTL.GEN stops the SYNC generator. -/
  | syncGeneratorStop (r : Requester) (v : Word)
  /-- SYNC_PULSE_GENERATE (R178): Every SYNC_PER REFCLK periods the generator issues a 3-period pulse on SYNC_OUT or as the internal SYNC. -/
  | syncPulseGenerate
  /-- SQ_CTL_START (R149): A write of 1 to SQ_CTL.START arms the site, clears its cause and vector count and empties the Hopper, or is refused with SREF. -/
  | sqCtlStart (r : Requester) (n : Fin 32)
  /-- LAUNCH (R149): When the start conditions hold, the burst starts at the burst start instant, the state becomes RUN and the first vector is released. -/
  | launch (n : Fin 32)
  /-- SQ_CTL_PAUSE (R150): A write of 1 to SQ_CTL.PAUSE requests a pause at the first segment boundary at least 256 fc later. -/
  | sqCtlPause (r : Requester) (n : Fin 32)
  /-- PAUSE (R150): At the due segment boundary the site pauses and applies keep-alive vectors. -/
  | pauseApply (n : Fin 32)
  /-- SQ_CTL_RESUME (R150): A write of 1 to SQ_CTL.RESUME requests resumption of a paused site. -/
  | sqCtlResume (r : Requester) (n : Fin 32)
  /-- RESUME (R150): At the first keep-alive vector boundary at least 256 fc after the request, the paused site resumes. -/
  | resumeApply (n : Fin 32)
  /-- SQ_CTL_ABORT (R151): A write of 1 to SQ_CTL.ABORT ends the burst at the end of the running vector, or ends an arm. -/
  | sqCtlAbort (r : Requester) (n : Fin 32)
  /-- SQ_CTL_HTRIG (R142): A write of 1 to SQ_CTL.HTRIG makes the HOST trigger active, releasing a waiting WAITT on HOST. -/
  | sqCtlHtrig (r : Requester) (n : Fin 32)
  /-- SQ_HJMP_WRITE (R154): A write to SQ_HJMP requests a host jump, replaces a pending one, or is refused while idle or ARMED. -/
  | sqHjmpWrite (r : Requester) (n : Fin 32) (v : Word)
  /-- HJUMP (R154): At the first segment boundary at least 256 fc after acceptance the host jump applies, emptying the stacks and ending any wait or MATCH. -/
  | hjumpApply (n : Fin 32)
  /-- SEGMENT_BOUNDARY (R114): The sequencer decides a segment boundary 8 fc before the next vector and applies the sequencer page's STAGED commits there. -/
  | segmentBoundary (n : Fin 32)
  /-- SEG (R121): The SEG word applies a resident or streamed vector segment. -/
  | segWord (n : Fin 32)
  /-- LOOP (R123): The LOOP word pushes a loop entry with its count, or skips the body when COUNT is 0. -/
  | loopWord (n : Fin 32)
  /-- ENDL (R123): The ENDL word decrements the innermost loop counter and repeats the body or pops the entry. -/
  | endlWord (n : Fin 32)
  /-- CALL (R127): The CALL word pushes its return address and continues at TARGET. -/
  | callWord (n : Fin 32)
  /-- RET (R127): The RET word pops the program stack and continues at the popped address. -/
  | retWord (n : Fin 32)
  /-- JMP (R125): The JMP word jumps to TARGET, popping loop entries whose body does not contain it. -/
  | jmpWord (n : Fin 32)
  /-- JF (R134): The JF word jumps to TARGET when the site fail bit FS is 1. -/
  | jfWord (n : Fin 32)
  /-- JP (R134): The JP word jumps to TARGET when FS is 0. -/
  | jpWord (n : Fin 32)
  /-- JFL (R134): The JFL word jumps to TARGET when a site flag equals POL. -/
  | jflWord (n : Fin 32)
  /-- MATCH (R138): The MATCH word repeats the following resident segment until a pass compares clean or the count expires. -/
  | matchWord (n : Fin 32)
  /-- WAITT (R142): The WAITT word makes the site wait on a trigger source, applying keep-alive vectors. -/
  | waittWord (n : Fin 32)
  /-- RDV (R144): The RDV word makes the site wait for the next SYNC or for its rendezvous group. -/
  | rdvWord (n : Fin 32)
  /-- MARK (R145): The MARK word clears FS, submits a work item, raises an acquisition trigger or pulses TRIG_OUT pins. -/
  | markWord (n : Fin 32)
  /-- FLAG (R147): The FLAG word clears, sets or toggles a site flag. -/
  | flagWord (n : Fin 32)
  /-- TSET (R148): The TSET word overrides or releases the timing-set index. -/
  | tsetWord (n : Fin 32)
  /-- STOP (R119): The STOP word ends the burst with cause STOP and its code. -/
  | stopWord (n : Fin 32)
  /-- ILLEGAL_OPCODE (R119): A word with a reserved opcode on the path taken ends the burst with cause ILLEGAL. -/
  | illegalOpcode (n : Fin 32)
  /-- DRAIN (R153): After the last compare result of the burst, the site becomes IDLE and PAGE_STAT.BUSY returns to 0. -/
  | drain (n : Fin 32)
  /-- WAIT_RESUME (R143): At the first keep-alive boundary at least 32 fc after its release, the site starts its next segment. -/
  | waitResume (n : Fin 32)
  /-- WAITT_TIMEOUT (R142): The WAITT keep-alive count reaches TIMEOUT, so TOACT continues or ends the burst with WAITTO. -/
  | waittTimeout (n : Fin 32)
  /-- RDV_TIMEOUT (R144): The RDV keep-alive count reaches TIMEOUT, so the member withdraws and TOACT continues or ends with RDVTO. -/
  | rdvTimeout (n : Fin 32)
  /-- RENDEZVOUS_RELEASE (R172): In the first cycle in which every member has arrived or is excused, the group releases all arrived members. -/
  | rendezvousRelease (g : Fin 16)
  /-- RENDEZVOUS_STALL (R174): A stall among waiting sites is detected within 128 fc and each takes its RDV timeout action. -/
  | rendezvousStall
  /-- SH_SITE_WRITE (R162): A write of SH_SITE reroutes sheaf channels to sites, or is discarded when it would change a running site's channels. -/
  | shSiteWrite (r : Requester) (sh : Fin 40) (v : Word)
  /-- SITE_FLAG_SET (R167): A write of 1 to a bit of SF_SET sets a site flag, locally or across the group when shared. -/
  | siteFlagSet (r : Requester) (i : Fin 2) (v : Word)
  /-- SITE_FLAG_CLEAR (R167): A write of 1 to a bit of SF_CLR clears a site flag. -/
  | siteFlagClear (r : Requester) (i : Fin 2) (v : Word)
  /-- SHARED_FLAG_APPLY (R168): A shared flag change is applied on this chip at t + 64 fc, or on late arrival with AMLLATE set. -/
  | sharedFlagApply
  /-- AT_PULSE (R181): A write of 1 to a bit of AT_PULSE pulses an AML trigger line. -/
  | atPulse (r : Requester) (v : Word)
  /-- AT_LINE_APPLY (R181): A trigger-line pulse is applied on this chip at t + 64 fc, merging with others in the same cycle. -/
  | atLineApply
  /-- HOPPER_FETCH (R203): The Hopper issues 512-byte read requests for the next bales while it has room. -/
  | hopperFetch (n : Fin 32)
  /-- HOPPER_DATA_ARRIVAL (R212): Data of a Hopper request arrives and is stored, or discarded when a discard has happened since it was issued. -/
  | hopperDataArrival (n : Fin 32) (data : List Byte) (ecc : DdrEcc)
  /-- BALE (R222): A complete bale is checked in order and becomes usable, or fails with a reason and stops the Hopper fetching. -/
  | baleCheck (n : Fin 32)
  /-- HOST_PRODUCER_WRITE (R201): A write of HOP_HPROD lets the Hopper fetch a host-fed stream up to the new offset. -/
  | hostProducerWrite (r : Requester) (n : Fin 32) (v : Word)
  /-- END (R216): The END token ends a lane's token stream. -/
  | endToken (n : Fin 32) (lane : Fin 321)
  /-- LIT (R216): The LIT token emits the following 1 to 32 bytes as unit bytes. -/
  | litToken (n : Fin 32) (lane : Fin 321)
  /-- REP (R216): The REP token emits the newest history byte c times. -/
  | repToken (n : Fin 32) (lane : Fin 321)
  /-- DICT (R216): The DICT token emits consecutive dictionary entries, 8 bytes each. -/
  | dictToken (n : Fin 32) (lane : Fin 321)
  /-- XOR (R217): The XOR token emits the history XORed with a dictionary entry, m + 1 times. -/
  | xorToken (n : Fin 32) (lane : Fin 321)
  /-- RESERVED_TOKEN (R218): A reserved token type fails the lane with reason TOKEN. -/
  | reservedToken (n : Fin 32) (lane : Fin 321)
  /-- BAR2_WRITE (R197): A BAR2 write stores on-chip memory bytes with fresh check bits, or is discarded for locked dictionaries, powered-off banks or errors. -/
  | bar2Write (a : BitVec 26) (bytes : List Byte)
  /-- COMPARE_RESULT_ARRIVAL (R232): A compare result reaches the Gleaner and is counted, logged and queued for the bitmap as configured. -/
  | compareResultArrival
  /-- UNDERRUN_MARK (R238): An underrun mark from the Hopper reaches the Gleaner and queues an UNDERRUN record. -/
  | underrunMark
  /-- RECORD_WRITE (R241): The Gleaner writes a queued record into the site's capture region. -/
  | recordWrite
  /-- RECORD_EXPORT (R252): A written record is copied to the datalog export ring when it has room, advancing GLN_DL_PROD. -/
  | recordExport
  /-- DATALOG_CONSUMER_WRITE (R256): A write of GLN_DL_CONS frees export ring entries from the next cycle. -/
  | datalogConsumerWrite (r : Requester) (v : Word)
  /-- GLEANER_COUNT_CLEAR (R234): A write of 1 to GLN_SCTL.CLR clears the site's fail counts while it is idle. -/
  | gleanerCountClear (r : Requester) (n : Fin 32)
  /-- BITMAP_UPDATE (R249): A queued bitmap update reads, ORs and writes back its QDR-IV word pair, merging with pending writes. -/
  | bitmapUpdate
  /-- QDR_ADDRESS_PARITY_ERROR (R465): The QDR-IV device reports an address parity error, setting APERR and asserting the QDR source. -/
  | qdrAddressParityError (port : Fin 2)
  /-- BITMAP_READOUT_START (R251): A write of 1 to GLN_BRD_CTL.START begins copying bitmap words to host memory, or is refused. -/
  | bitmapReadoutStart (r : Requester) (v : Word)
  /-- BITMAP_READOUT_DONE (R251): The last byte of a bitmap readout reaches the host and DONE is set. -/
  | bitmapReadoutDone
  /-- SCAN_START (R273): A write of 1 to ASCAN_CTL.START starts a scan, or is dropped or refused. -/
  | scanStart (r : Requester)
  /-- SCAN_PERIOD_START (R273): The ASCAN_PER period expires and starts a scan. -/
  | scanPeriodStart
  /-- SCAN_TRIGGER_START (R273): A TRIG_IN edge or AT pulse reaches the scan sequencer and starts a scan. -/
  | scanTriggerStart
  /-- SCAN_GROUP_START (R272): The next entry group starts once the queue has room and its slices are free, opening the previous channel switch. -/
  | scanGroupStart
  /-- ABUS_SWITCH_CLOSE (R270): 16 sample clocks after its group starts, a CHAN entry closes its channel's ABUS switch or marks NOCONN. -/
  | abusSwitchClose (bus : Fin 8)
  /-- SCAN_RESULT_QUEUE (R277): An entry's averaged result enters the channel-tagged queue, in entry order; the last one ends the scan. -/
  | scanResultQueue (raw : List RawSample)
  /-- SCAN_QUEUE_COPY (R277): A queue entry is copied to the host ring when it has room, advancing ASCAN_QPROD. -/
  | scanQueueCopy
  /-- SCAN_ABORT (R276): A write of 1 to ASCAN_CTL.ABORT ends the running scan at once and opens its switches. -/
  | scanAbort (r : Requester)
  /-- REFERENCE_SELECT (R264): A write of AREF_CTL.SRC selects the converter reference and begins its settling. -/
  | referenceSelect (r : Requester) (v : Word) (inWindow : Bool)
  /-- REFERENCE_SETTLED (R265): The settle time after a reference change expires and AREF_STAT.SETTLED becomes 1. -/
  | referenceSettled
  /-- EXT_REFERENCE_FALLBACK (R266): VREF_ADC lies outside its window for 10 µs, so the reference falls back to INT and EXTBAD is set. -/
  | extReferenceFallback
  /-- SINGLE_RUN_START (R281): A write of 1 to AS_SC_CTL.RUN starts a single-channel run at the next sample clock or SYNC. -/
  | singleRunStart (r : Requester) (n : Fin 4)
  /-- SINGLE_RUN_STOP (R282): A write of 1 to AS_SC_CTL.STOP ends the run at the next sample clock. -/
  | singleRunStop (r : Requester) (n : Fin 4)
  /-- SINGLE_BLOCK_WRITE (R281): A 256-byte block of kept samples is written to the host buffer and AS_SC_WPTR advances. -/
  | singleBlockWrite (n : Fin 4) (raw : List RawSample)
  /-- URGENT_REQUEST (R284): A write of 1 to AS_URGn.GO requests an urgent conversion, performed, dropped or refused. -/
  | urgentRequest (r : Requester) (n : Fin 4) (ch : Fin 2) (v : Word)
  /-- URGENT_RESULT (R284): An urgent conversion's result is written and its status becomes DONE. -/
  | urgentResult (n : Fin 4) (raw : List RawSample)
  /-- ACQ_ARM (R294): A write of 1 to ACQ_CTL.ARM enters REARM, or is refused with a reason. -/
  | acqArm (r : Requester)
  /-- ARM_INSTANT (R295): REARM ends once its time has passed and memory is free, and the first stream sample sets sample index 0. -/
  | armInstant
  /-- PRETRIGGER_FULL (R303): The pre-trigger memory fills and the engine moves from PREFILL to ARMED. -/
  | pretriggerFull
  /-- TRIGGER_ACCEPT (R301): After every source has reported, the trigger with the lowest trigger sample starts a record or is ignored and counted. -/
  | triggerAccept (raws : List (List RawSample)) (pats : List (BitVec 64))
  /-- ACQ_FORCE (R299): A write of 1 to ACQ_CTL.FORCE raises a HOST trigger event. -/
  | acqForce (r : Requester)
  /-- RECORD_LAST_SAMPLE (R297): A record's last sample enters the record memory and REARM decides to re-arm or return to IDLE. -/
  | recordLastSample (raws : List (List RawSample))
  /-- RECORD_OVERFLOW (R308): A post-trigger slot would overwrite an unreleased record, so capture stops and the record is marked OVFL. -/
  | recordOverflow
  /-- RECORD_COMPLETE (R311): A record's header and measurement blocks are written and ACQ_RDONE advances. -/
  | recordComplete
  /-- ACQ_STOP (R297): A write of 1 to ACQ_CTL.STOP stops further re-arms, or returns to IDLE at once outside CAPTURE. -/
  | acqStop (r : Requester)
  /-- ACQ_ABORT (R298): A write of 1 to ACQ_CTL.ABORT returns the engine to IDLE, ending a capture as ABORTED. -/
  | acqAbort (r : Requester)
  /-- ACQ_RELEASE (R309): A write of ACQ_RCONS releases completed records, or is discarded beyond RDONE. -/
  | acqRelease (r : Requester) (v : Word)
  /-- HELD_ITEM_ACCEPT (R418): A held work item, offered again each Barista clock, is accepted with ENQ at that instant. -/
  | heldItemAccept
  /-- TIME_NOW_READ (R320): A read of TIME_NOW0 samples the time and shadows its upper bits for TIME_NOW1 and TIME_NOW2. -/
  | timeNowRead
  /-- STEP_REQUEST (R321): A write of 1 to TIME_CTL.STEP requests a time step, or is refused with SREF. -/
  | stepRequest (r : Requester)
  /-- STEP_APPLY (R322): At its step instant the time changes by the step value, EPOCH increments and a discontinuity record is written. -/
  | stepApply
  /-- OFFSET_SUBMIT (R325): A write of TIME_OFS1 submits an offset to the servo, which updates adj or enters holdover. -/
  | offsetSubmit (r : Requester) (v : Word)
  /-- ADJ_WRITE (R326): A write of TIME_ADJ1 in DIRECT mode sets adj directly and leaves holdover. -/
  | adjWrite (r : Requester) (v : Word)
  /-- HOLD_REQUEST (R327): A write of 1 to TIME_CTL.HOLD enters holdover with cause HOST. -/
  | holdRequest (r : Requester)
  /-- WATCHDOG_EXPIRE (R327): No offset is submitted for TIME_WDOG ms, so the time base enters holdover with cause WDOG. -/
  | watchdogExpire
  /-- SHARED_ADJ_APPLY (R331): A LEAD chip's new adj is applied on every chip of the group at t + 64 fc. -/
  | sharedAdjApply
  /-- FRAME_RECEIVE (R337): A received Ethernet frame is stamped and passed to the receive ring, or dropped and counted. -/
  | frameReceive (p : Fin 2) (t : Nat) (frame : List Byte) (good : Bool)
  /-- FRAME_TRANSMIT (R339): The port sends the next transmit slot, applying its PTP mode and writing the descriptor back. -/
  | frameTransmit (p : Fin 2) (t : Nat) (slot : List Byte)
  /-- ETH_LINK_CHANGE (R345): An Ethernet port's link goes up or down and LINKCHG is set. -/
  | ethLinkChange (p : Fin 2) (up : Bool)
  /-- DATAGRAM_SEND (R342): When 44 entries are queued or EXP_HOLD expires, the port sends an export datagram. -/
  | datagramSend (p : Fin 2)
  /-- CONV (R359): Procedure CONV measures and trims offset, gain and skew of the named slices. -/
  | convProcedure (r : Requester)
  /-- LEVEL (R360): Procedure LEVEL calibrates the level DACs of the named sheaves' channels. -/
  | levelProcedure (r : Requester)
  /-- CMP (R360): Procedure CMP calibrates the comparator offsets of the named channels. -/
  | cmpProcedure (r : Requester)
  /-- IMP (R360): Procedure IMP measures and trims the driver impedance of the named channels. -/
  | impProcedure (r : Requester)
  /-- DESKEW (R362): Procedure DESKEW measures and corrects every edge of the named channels against the reference edge. -/
  | deskewProcedure (r : Requester)
  /-- LOOP_CALIBRATION (R364): Procedure LOOP measures the compare-result crossing time of the named sites and writes SQ_TLOOP. -/
  | loopCalibration (r : Requester)
  /-- MCSKEW (R365): Procedure MCSKEW aligns field clocks and SYNC across the chip group and clears UNCAL. -/
  | mcskewProcedure (r : Requester)
  /-- EYE (R366): Procedure EYE measures the eye width of the named receive lanes. -/
  | eyeProcedure (r : Requester)
  /-- SYSZ (R367): Procedure SYSZ takes the zero point of a system-calibration set. -/
  | syszProcedure (r : Requester)
  /-- SYSF (R367): Procedure SYSF takes the full-scale point and computes OFS and GAIN of the set. -/
  | sysfProcedure (r : Requester)
  /-- UNIT_COMMIT (R348): At a unit's commit point all its calibration results, valid bits and result are written together. -/
  | unitCommit (m : UnitMeas)
  /-- PROCEDURE_END (R347): A Winnower procedure ends, releasing its held units and setting its final state. -/
  | procedureEnd
  /-- WINN_ABORT (R350): A write of 1 to WINN_CTL.ABORT ends the procedure, leaving uncommitted units unchanged. -/
  | winnAbort (r : Requester)
  /-- AUTO_LOOP (R364): An automatic LOOP run starts after BOOT or an island restart, once the Winnower and the mode allow it. -/
  | autoLoop
  /-- IMGLOAD (R373): A write of 1 to WINN_IMG_CTL.LOAD reads and checks a calibration image from host memory and loads it. -/
  | imgload (r : Requester)
  /-- FLASHLOAD (R373): A write of 1 to WINN_IMG_CTL.FLASHLOAD loads the calibration image from the SPI flash. -/
  | flashload (r : Requester)
  /-- IMGSAVE (R374): A write of 1 to WINN_IMG_CTL.SAVE writes the active calibration as an image to host memory. -/
  | imgsave (r : Requester)
  /-- FLASHSAVE (R392): A write of 1 to WINN_IMG_CTL.FLASHSAVE erases the flash header, writes the body and writes the header last. -/
  | flashsave (r : Requester)
  /-- IMAGE_OPERATION_DONE (R373): An image operation completes, writing its values or refusal reason and setting DONE. -/
  | imageOperationDone (data : List Byte) (readOk : Bool)
  /-- NEXT (R379): A microword with SEQ NEXT continues at µPC + 1. -/
  | nextWord (u : Fin 10) (k : Fin 4) (at_ : BitVec 12) (w : BitVec 128) (sig : Bool) (load : Option (Fin 2))
  /-- BRANCH (R379): A microword with SEQ BRANCH continues at TARGET. -/
  | branchMicroword (u : Fin 10) (k : Fin 4) (at_ : BitVec 12) (w : BitVec 128) (sig : Bool) (load : Option (Fin 2))
  /-- CBRANCH (R379): A microword with SEQ CBRANCH continues at TARGET when its condition holds. -/
  | cbranchMicroword (u : Fin 10) (k : Fin 4) (at_ : BitVec 12) (w : BitVec 128) (sig : Bool) (load : Option (Fin 2))
  /-- MICRO_CALL (R379): A microword with SEQ CALL pushes µPC + 1 and continues at TARGET. -/
  | microCall (u : Fin 10) (k : Fin 4) (at_ : BitVec 12) (w : BitVec 128) (sig : Bool) (load : Option (Fin 2))
  /-- CCALL (R379): A microword with SEQ CCALL calls TARGET when its condition holds. -/
  | ccallMicroword (u : Fin 10) (k : Fin 4) (at_ : BitVec 12) (w : BitVec 128) (sig : Bool) (load : Option (Fin 2))
  /-- MICRO_RET (R379): A microword with SEQ RET pops the micro-stack and continues there. -/
  | microRet (u : Fin 10) (k : Fin 4) (at_ : BitVec 12) (w : BitVec 128) (sig : Bool) (load : Option (Fin 2))
  /-- DISPATCH (R379): A microword with SEQ DISPATCH continues at TARGET plus a datapath value. -/
  | dispatchMicroword (u : Fin 10) (k : Fin 4) (at_ : BitVec 12) (w : BitVec 128) (sig : Bool) (disp : BitVec 4) (load : Option (Fin 2))
  /-- MICRO_END (R379): A microword with SEQ END ends the routine and idles the context. -/
  | microEnd (u : Fin 10) (k : Fin 4) (at_ : BitVec 12) (w : BitVec 128) (sig : Bool) (load : Option (Fin 2))
  /-- MICROWORD_WAIT_END (R382): A waiting microword ends when its condition becomes true or its timeout expires. -/
  | microwordWaitEnd (u : Fin 10) (k : Fin 4) (w : BitVec 128) (cycles : Nat) (sig : Bool) (disp : BitVec 4) (load : Option (Fin 2))
  /-- BREWER_RUN (R398): A write of 1 to BW_CTL.RUN releases the core to fetch from BW_RESETVEC. -/
  | brewerRun (r : Requester) (n : Fin 16) (v : Word)
  /-- BREWER_HOLD (R398): A write of 0 to BW_CTL.RUN holds the core in reset, flushing its dispatched items. -/
  | brewerHold (r : Requester) (n : Fin 16) (v : Word)
  /-- BREWER_INSTRUCTION (R397): A Brewer core executes an RV32IMAC instruction under its memory map and PMP. -/
  | brewerInstruction (n : Fin 16) (x : BrewerExt)
  /-- MACHINE_TIMER_INTERRUPT (R398): mtime reaches mtimecmp and a machine timer interrupt becomes pending. -/
  | machineTimerInterrupt (n : Fin 16)
  /-- BARISTA_TAKE (R408): A read of CSR BARISTA_TAKE stalls the core until an item is given, an interrupt arrives or the Barista is unavailable. -/
  | baristaTake (n : Fin 16) (x : BrewerExt)
  /-- BARISTA_TRY (R408): A read of CSR BARISTA_TRY returns an item handle or 0 at once. -/
  | baristaTry (n : Fin 16) (x : BrewerExt)
  /-- BARISTA_DONE (R411): A write to CSR BARISTA_DONE completes the named item with a code, or is counted stale. -/
  | baristaDone (n : Fin 16) (x : BrewerExt)
  /-- BARISTA_SUB (R415): A csrrw of BARISTA_SUB submits a local work item and returns its submission result. -/
  | baristaSub (n : Fin 16) (x : BrewerExt)
  /-- BARISTA_CANCEL (R416): A csrrw of BARISTA_CANCEL cancels the oldest undispatched item of the Brewer with that token. -/
  | baristaCancel (n : Fin 16) (x : BrewerExt)
  /-- BRST_SUBGO (R415): A write of 1 to BRST_SUBGO.GO submits the host item in BRST_SUB0–7. -/
  | brstSubgo (r : Requester)
  /-- BRST_CANCEL (R416): A write of a token to BRST_CANCEL cancels an undispatched host item with that token. -/
  | brstCancel (r : Requester) (token : Word)
  /-- ITEM_DISPATCH (R407): In a Barista clock the oldest item of the highest permitted level is given to the longest-waiting Brewer. -/
  | itemDispatch
  /-- COMPLETION_REPORT (R412): A completion that needs reporting is written to the completion ring when it has room, freeing its entry. -/
  | completionReport
  /-- DISPATCH_TIMEOUT (R413): An item stays dispatched beyond BRST_DLIM, so it completes with TIMEOUT and TMO is set. -/
  | dispatchTimeout
  /-- BW_DOOR (R422): A write of 1 to a BW_DOOR bit rings a Brewer doorbell. -/
  | bwDoor (r : Requester) (n : Fin 16) (v : Word)
  /-- PEAK_CLEAR (R420): A write of 1 to BRST_CTL.PCLR sets every PEAK to the current DEPTH. -/
  | peakClear (r : Requester)
  /-- HISTOGRAM_CLEAR (R420): A write of 1 to BRST_CTL.HCLR clears the wait-time histogram. -/
  | histogramClear (r : Requester)
  /-- LOAD_WINDOW_END (R420): At the end of each BRST_LWIN window, each Brewer's LOAD is updated. -/
  | loadWindowEnd
  /-- CNT_L_READ (R429): A read of CNT_L copies the counter's upper bits into a shadow for CNT_H. -/
  | cntLRead (id : Fin 1024)
  /-- COUNTER_WRITE (R429): A write of CNT_L holds a value and a write of CNT_H writes the 48-bit counter, colliding with events per the collision rule. -/
  | counterWrite (r : Requester) (id : Fin 1024) (hi : Bool) (v : Word) (events : Nat)
  /-- COUNTER_CLEAR_ALL (R433): A write of 1 to CNT_CTL.CLRALL sets counters 0x000–0x3FF to 0. -/
  | counterClearAll (r : Requester) (coll : List (Fin 1024))
  /-- SNAPSHOT_DEMAND (R434): A write of 1 to CNT_CTL.SNAP demands a snapshot 1,000 ns later, or is ignored with SREF. -/
  | snapshotDemand (r : Requester)
  /-- SNAPSHOT_INSTANT (R435): At a snapshot instant every island latches its counters into shadows and a dump starts, or the instant is skipped. -/
  | snapshotInstant
  /-- DUMP_COMPLETE (R436): The whole dump slot has been written and CNT_DPROD advances. -/
  | dumpComplete (ecc : DdrEcc)
  /-- DDR_REQUEST (R443): A 64-byte DDR request is served in class order with ECC, or completes with an error. -/
  | ddrRequest (reqs : List DdrReq)
  /-- ALERT (R446): A DDR5 device asserts ALERT_n for a write CRC error, freezing the subchannel. -/
  | ddrAlert (n : Fin 4) (a : BitVec 37) (cls : DdrClass)
  /-- UNFREEZE (R448): A write of 1 to DC_CTL.UNFREEZE returns a frozen subchannel to READY. -/
  | ddrUnfreeze (r : Requester) (n : Fin 4)
  /-- REFRESH_TICK (R450): Every 1.95 µs the refresh debt D grows by one unit. -/
  | refreshTick (n : Fin 4)
  /-- REFRESH_SET (R450): The subchannel issues a refresh set, in class REFRESH or FORCED, paying the debt. -/
  | refreshSet (n : Fin 4) (waiting : Bool)
  /-- MR4_READ (R451): Every DC_MR4PER µs the controller reads MR4 and may change the refresh rate or set LIMIT. -/
  | mr4Read (n : Fin 4) (ranks : List (Mr4Class × BitVec 3))
  /-- SELF_REFRESH_ENTRY (R454): A write of 1 to DC_CTL.SRE drains the subchannel, pays the debt and enters self-refresh. -/
  | selfRefreshEntry (r : Requester) (n : Fin 4)
  /-- SREXIT (R455): A write of 1 to DC_CTL.SRX leaves self-refresh and checks the retained delays, retraining if needed. -/
  | srexit (r : Requester) (n : Fin 4) (ranks : List (Mr4Class × BitVec 3)) (fits : Bool)
  /-- TRAIN (R458): Routine TRAIN trains a subchannel and commits its delays, or fails it. -/
  | ddrTrain (n : Fin 4) (t : DdrTraining)
  /-- RETRAIN (R459): Every 8 ms routine RETRAIN updates a READY subchannel's read delays. -/
  | ddrRetrain (n : Fin 4) (delays : List (BitVec 8))
  /-- ZQCAL (R459): Every 128 ms routine ZQCAL calibrates DRAM impedance and writes the ZQ status. -/
  | zqcal (n : Fin 4) (status : BitVec 8)
  /-- DDR_CFG_WRITE (R442): A write of DDR_CFG sets the address map and enabled subchannels, or is discarded when MAP3 is not allowed. -/
  | ddrCfgWrite (r : Requester) (v : Word)
  /-- DC_CFG_WRITE (R442): A write of DC_CFG sets a subchannel's configuration, returns it to UNTRAINED and starts TRAIN. -/
  | dcCfgWrite (r : Requester) (n : Fin 4) (v : Word)
  /-- QDR_TRAIN (R466): A write of 1 to QDR_CTL.TRAIN retrains the QDR read capture while the Gleaner is idle. -/
  | qdrTrain (r : Requester) (qa : BitVec 8) (qb : BitVec 8)
  /-- BAR4_ACCESS (R471): A BAR4 access reaches DDR5 through HOST_DWIN, or fails and sets DWERR. -/
  | bar4Access (a : BitVec 30) (len : Nat) (data : Option (List Byte)) (ecc : DdrEcc)
  /-- CONVENTIONAL_RESET (R469): A PCIe conventional reset through PERST_N resets the endpoint. -/
  | conventionalReset
  /-- FUNCTION_LEVEL_RESET (R473): A Function Level Reset returns the HOST page, rings, DMA and MSI-X to reset and abandons commands. -/
  | functionLevelReset
  /-- ABI_SELECT (R475): A write of HOST_ABISEL selects a command ABI version, or is discarded. -/
  | abiSelect (r : Requester) (v : Word)
  /-- RING_ENABLE (R476): A write of HOST_CR_CFG.EN enables a command ring, or disables it letting started commands finish. -/
  | ringEnable (r : Requester) (n : Fin 8) (en : Bool)
  /-- COMMAND_FETCH (R476): A command is fetched from a submission queue and started once a completion entry is reserved. -/
  | commandFetch (n : Fin 8) (cmd : Option (BitVec 512))
  /-- NOP (R480): Command NOP completes with OK. -/
  | nopCommand (n : Fin 8)
  /-- DMA (R482): Command DMA moves the bytes of up to 64 descriptors and reports per-descriptor results. -/
  | dmaCommand (n : Fin 8) (units : Option (List DmaUnit))
  /-- REGWR (R484): Command REGWR stages or checks register pairs on many pages and commits or writes them together, or refuses. -/
  | regwrCommand (n : Fin 8)
  /-- BSUB (R480): Command BSUB submits a work item to the Barista. -/
  | bsubCommand (n : Fin 8)
  /-- BCANCEL (R480): Command BCANCEL cancels a host work item by its token. -/
  | bcancelCommand (n : Fin 8)
  /-- PROGLOAD (R483): Command PROGLOAD checks program words statically and writes them to the Granary, or refuses. -/
  | progloadCommand (n : Fin 8) (words : Option (List (BitVec 64)))
  /-- MULTI_SITE_START (R486): Command START writes SQ_CTL.START of several sites in one field cycle. -/
  | multiSiteStart (n : Fin 8)
  /-- COMMAND_COMPLETION (R478): A command's completion entry with status, counts and unit maps is written to its completion queue. -/
  | commandCompletion (n : Fin 8)
  /-- AML_TRAIN (R489): With AML_CFG.EN set, an AML port trains its lanes and enters capability exchange. -/
  | amlTrain (p : Fin 4) (t : AmlTraining)
  /-- AML_RETRAIN (R489): A write of 1 to AML_CTL.RETRAIN forces a new training of the port. -/
  | amlRetrain (r : Requester) (p : Fin 4)
  /-- AML_TRAIN_RETRY (R489): Every 10 ms after a failed training, the port retries. -/
  | amlTrainRetry (p : Fin 4)
  /-- AML_LINK_DOWN (R491): An AML link goes down, making chips unreachable for shared functions. -/
  | amlLinkDown (p : Fin 4) (reason : Fin 5) (lost : BitVec 16)
  /-- CAPX (R490): A capability exchange flit is received and the port becomes UP, SAFE or ERROR. -/
  | capxFlit (p : Fin 4) (chip : Fin 16) (chips : BitVec 16) (major : BitVec 8) (minor : BitVec 8) (reach : BitVec 16)
  /-- ACK (R494): An ACK flit acknowledges flits or, with NAK, triggers a replay. -/
  | ackFlit (p : Fin 4) (ack : BitVec 8) (nak : Bool)
  /-- IDLE_FLIT (R492): An IDLE flit is received on an AML link. -/
  | idleFlit (p : Fin 4) (ack : BitVec 8) (nak : Bool)
  /-- SYNCM (R494): A SYNC marker flit is received and its SYNC count checked. -/
  | syncmFlit (p : Fin 4) (h : FlitHdr) (cnt : Word)
  /-- TRIG (R493): A trigger-line flit is received, forwarded and applied at its instant. -/
  | trigFlit (p : Fin 4) (h : FlitHdr) (line : Fin 16) (f : FlitTime)
  /-- FLAG_FLIT (R493): A shared-flag flit is received, forwarded and scheduled for application. -/
  | flagFlit (p : Fin 4) (h : FlitHdr) (idx : Fin 64) (op : Fin 3) (rank : Fin 34) (f : FlitTime)
  /-- RDV_FLIT (R493): A shared rendezvous flit is received and applied to the group state. -/
  | rdvFlit (p : Fin 4) (h : FlitHdr) (g : Fin 16) (m : RdvMsg) (f : FlitTime)
  /-- SPAN (R186): A span control flit is received, carrying starts, forwarded requests or the end of a part. -/
  | spanFlit (p : Fin 4) (h : FlitHdr) (sp : Fin 16) (m : SpanMsg) (f : FlitTime)
  /-- TIME (R331): A shared-time flit is received, carrying the lead's adj or step time. -/
  | timeFlit (p : Fin 4) (h : FlitHdr) (m : TimeMsg) (f : FlitTime)
  /-- CAL (R365): A calibration flit is received, carrying LOOP or MCSKEW values. -/
  | calFlit (p : Fin 4) (h : FlitHdr) (m : CalMsg)
  /-- FAULT_SOURCE_ASSERT (R502): A fault source becomes live and, unless shadowed, is latched and reacts per its severity. -/
  | faultSourceAssert (slots : List (Fin 256))
  /-- WIRE_FAULT (R498): An error pair reads invalid in two consecutive samples, so its source counts asserted and F255 is asserted. -/
  | wireFault (slot : Fin 256) (high : Bool)
  /-- SHADOW_WINDOW_END (R509): A shadow window's last clock turns still-live downstream sources into secondary faults. -/
  | shadowWindowEnd (slot : Fin 256)
  /-- FAULT_SOURCE_CLEAR (R511): A reacting source clears and enters QUIET. -/
  | faultSourceClear (slot : Fin 256) (temps : List (BitVec 8))
  /-- QUIET_PERIOD_END (R511): A source's quiet period completes, so it recovers or locks at the recovery limit. -/
  | quietPeriodEnd (slot : Fin 256) (sr : SrFindings)
  /-- LOCK_CLEAR (R513): A write of 1 to FLT_SSTAT.LOCK unlocks a source, which enters QUIET or stays ACTIVE. -/
  | lockClear (r : Requester) (slot : Fin 256)
  /-- FAULT_INJECTION (R515): A write of 1 to FLT_INJ.GO in FACTORY drives a slot's error pair for DUR µs. -/
  | faultInjection (r : Requester) (v : Word)
  /-- INJECTION_END (R515): An injection's duration expires or the mode leaves FACTORY, and the block's own pair returns. -/
  | injectionEnd
  /-- SILO_ARM (R517): An I3C write of SILO_ARM performs an arming step, disarms, or counts a failure. -/
  | siloArm (v : Word)
  /-- SILO_ARM_EXPIRE (R517): The 10 ms step window or the 1 s armed period expires and the Silo disarms. -/
  | siloArmExpire
  /-- SILO_FORCE (R518): A write of SILO_FORCE forces sites into or out of the FORCE safe-state cause. -/
  | siloForce (i3c : Bool) (v : Word)
  /-- SAFE_N (R521): SAFE_N changes state after three equal samples, putting every channel in the safe state when active. -/
  | safeN (active : Bool)
  /-- GROUP_CURRENT_LIMIT (R522): A group's VDDP current exceeds its limit for 1 µs, so its sites enter the safe state. -/
  | groupCurrentLimit (g : Fin 8) (meas : BitVec 8)
  /-- THERMAL_WARNING (R523): A sensor reaches SILO_THR.WARN, so F113 becomes live. -/
  | thermalWarning (temps : List (BitVec 8))
  /-- THERMAL_CRITICAL (R523): A sensor reaches SILO_THR.CRIT, or two sensors are ignored, so F114 becomes live. -/
  | thermalCritical (temps : List (BitVec 8))
  /-- LOCKSTEP_MISMATCH (R524): The Silo controller's lockstep cores disagree and every site is held safe. -/
  | lockstepMismatch
  /-- SUPPLY_OUT_OF_WINDOW (R567): A supply leaves its ±6 % monitor window for 1 µs, so F116 becomes live. -/
  | supplyOutOfWindow
  /-- PLL_UNLOCK (R500): The field PLL unlocks or REFCLK goes absent, so F117 becomes live. -/
  | pllUnlock (absent : Bool)
  /-- IDLE_REQUEST (R529): A MODE_REQ write of IDLE returns the device to IDLE from CAL, FACTORY or STANDBY. -/
  | idleRequest (r : Requester)
  /-- STANDBY_REQUEST (R541): A MODE_REQ write of STANDBY turns off the domains of PWR_STBY. -/
  | standbyRequest (r : Requester)
  /-- CAL_REQUEST (R529): A MODE_REQ write of CAL enters CAL from IDLE. -/
  | calRequest (r : Requester)
  /-- FACTORY_REQUEST (R529): A MODE_REQ write of FACTORY enters FACTORY in OPEN or SERVICE. -/
  | factoryRequest (r : Requester)
  /-- OFF_REQUEST (R535): A MODE_REQ write of OFF puts DRAM in self-refresh, turns off every switched domain and enters OFF. -/
  | offRequest (r : Requester)
  /-- RESTART (R534): A MODE_REQ write of RESTART performs a warm restart through BOOT. -/
  | restartRequest (r : Requester) (ref : Option RefCheck) (b : BootFindings)
  /-- POWER_REQUEST (R539): A write of PWR_REQ turns domains on or off, refusing forbidden power-offs. -/
  | powerRequest (r : Requester) (w : Fin 3) (v : Word)
  /-- POWER_UP_COMPLETE (R540): A batch of domains finishes powering up and their retained configuration becomes active. -/
  | powerUpComplete
  /-- POWER_DOWN_COMPLETE (R540): A domain finishes powering down within 2 µs. -/
  | powerDownComplete (d : Fin 80)
  /-- SEAL (R543): A write of SEC_CTL with KEY and SEAL seals the device, blowing a fuse and zeroising. -/
  | sealDevice (r : Requester) (key : BitVec 16)
  /-- ZEROISE (R547): A write of 1 to SEC_CTL.ZERO empties the key slots and clears the Granary, dictionaries and Hoppers. -/
  | zeroise (r : Requester)
  /-- ZEROISATION_DONE (R547): Zeroisation completes and ZBUSY clears. -/
  | zeroisationDone
  /-- KEY_LOAD (R545): A write of 1 to SEC_KGO.GO loads a pattern key slot in clear or wrapped form, or refuses. -/
  | keyLoad (r : Requester)
  /-- DEBUG_LEVEL_REQUEST (R550): A write of DBG_REQ lowers or raises the debug level, or is refused. -/
  | debugLevelRequest (r : Requester) (level : Fin 4)
  /-- TOKEN_SUBMIT (R552): A write of 1 to DBG_TGO.GO submits a signed token for verification, or is refused. -/
  | tokenSubmit (r : Requester) (target : Fin 4)
  /-- TOKEN_VERIFIED (R551): A token's verification ends, zeroising and raising the level or lifecycle, or failing. -/
  | tokenVerified
  /-- ENTDAA (R554): The I3C target takes a dynamic address by ENTDAA. -/
  | entdaa (addr : BitVec 7)
  /-- I3C_SET_OFFSET (R554): A 4-byte I3C private write sets the BAR0 offset. -/
  | i3cSetOffset (off : Word)
  /-- I3C_WRITE (R554): An 8-byte I3C private write writes a value at an offset, where I3C may write. -/
  | i3cWrite (off : Word) (v : Word)
  /-- I3C_READ (R554): A 4-byte I3C private read returns the register at the last offset. -/
  | i3cRead
  /-- BYPASS (R548): TAP instruction BYPASS selects the bypass register. -/
  | bypass
  /-- IDCODE (R548): TAP instruction IDCODE selects the identification register. -/
  | idcode
  /-- SAMPLE_PRELOAD (R548): TAP instruction SAMPLE/PRELOAD samples or preloads the boundary scan cells. -/
  | samplePreload (pins : BitVec 320) (preload : BitVec 320)
  /-- EXTEST (R549): TAP instruction EXTEST drives balls from boundary scan, refusing site starts. -/
  | extest (pins : BitVec 320)
  /-- POWER_ON_RESET_RELEASE (R556): The AON power-on reset releases 1 ms after VDDAON enters its window and a cold BOOT begins. -/
  | powerOnResetRelease (ref : Option RefCheck) (b : BootFindings)
  /-- VDDAON_LOSS (R557): VDDAON leaves its window and the device, including its pattern keys, is lost. -/
  | vddaonLoss
  /-- REFCLK_DETECT (R560): REFCLK starts toggling in BOOT step 3 and its polarity is checked against SYNC_IN. -/
  | refclkDetect (c : RefCheck)
  /-- BOOT_END (R558): BOOT completes and the mode becomes IDLE, or HOLD when a HALT source stands. -/
  | bootEnd (us : Word)
  /-- TRIG_IN_EDGE (R574): A rising edge on TRIG_INn, not within 16 fc of the previous, is stamped and delivered to its users. -/
  | trigInEdge (n : Fin 4) (t : Nat) (width : Nat)
  /-- TRIG_OUT_PULSE_END (R575): A TRIG_OUT pulse ends 32 fc after its latest rise. -/
  | trigOutPulseEnd (k : Fin 4)
  /-- PCIE_LINK_CHANGE (R472): The PCIe link goes down or comes up, so device-initiated transfers to host memory wait or resume and host rings behave as full or drain. -/
  | pcieLinkChange (speed : Fin 6) (width : BitVec 4)
  /-- BUS_MASTER_ENABLE_WRITE (R472): A PCIe configuration write changes Bus Master Enable, stalling or releasing every device-initiated write to host memory. -/
  | busMasterEnableWrite (en : Bool)
  /-- FLIT_CRC_ERROR (R494): An AML flit arrives whose CRC check fails, so it is not acted on and the receiver sends NAK for a replay. -/
  | flitCrcError (p : Fin 4)
  /-- DEBUG_MODULE_REQUEST (R548): At level FULL, a JTAG debug module request halts, steps, resumes or accesses the registers of a Brewer. -/
  | debugModuleRequest (n : Fin 16) (q : DmRequest)
  deriving DecidableEq, Repr

end Sys2Proof
end

