-- ==== Sys2Proof/Decode.lean ====
section
/-! DEFINITION. The words of commands. The block has no instruction decoder: no row of spec/opcode_table.json gives a
command any bits, so no word spells one. -/

namespace Sys2Proof

/-- The command that a word of `nbits` bits spells by the table's bits: none, since no row of the table has bits. -/
def decodeTableWord (_nbits _w : Nat) : Option Instr := none

end Sys2Proof
end

