-- ==== Sys2Proof/Config.lean ====
section
/-! DEFINITION. What an implementation fixes and the values the spec leaves open. None has a body: no proof can see
what it is. -/

namespace Sys2Proof.Config

/-- A value the spec leaves open, by the number of the draw (assumption log entry 4). -/
opaque freeValue : Nat → Nat

/-- Fuse contents read in BOOT step 2 (R558, R594), by fuse field. -/
opaque fuse : Nat → Nat

/-- AES-256 XTS decryption (IEEE 1619) of a body: key, tweak, ciphertext (R220). -/
opaque aesXtsDecrypt : Nat → Nat → List Byte → List Byte

/-- RFC 3394 key unwrap under the chip's wrapping key: the wrapped words; none where the integrity check fails (R545). -/
opaque keyUnwrap : List Nat → Option Nat

/-- Verification of a signed debug token against the challenge: token words, challenge words, target (R551). -/
opaque tokenVerify : List Nat → List Nat → Nat → Bool

/-- What the checks of a BOOT find where no command brings them, by the number of the draw (assumption log entry 4). -/
opaque bootFindings : Nat → BootFindings

/-- What the REFCLK check of a BOOT finds where no command brings it, none while REFCLK is absent (assumption log entry 4). -/
opaque refCheck : Nat → Option RefCheck

/-- What SREXIT finds where no command brings it, by the number of the draw (assumption log entry 4). -/
opaque srFindings : Nat → SrFindings

/-- The bit error that strikes the Granary in a field cycle, if one does: the quarter, and whether two bits of it (R198). -/
opaque upset : Nat → Option (Nat × Bool)

/-- A Brewer's trap of this cause leaves 0 in `mtval` rather than what the privileged architecture lets it write (R397). -/
opaque mtvalZero : Nat → Bool

end Sys2Proof.Config
end

