-- ==== Sys2Proof/Machine/RegMap.lean ====
section
/-! DEFINITION. The register maps of every page, field by field, as the spec's tables give them:
offset in the page, array strides, bit place, width, access type (R5), class (R11), reset value (R20, R594)
and the values that are not reserved (R9). -/

namespace Sys2Proof.Machine

/-- Access types of R5. -/
inductive Acc | ro | rw | wo | w1c | w1s | rc
  deriving DecidableEq, Repr

/-- Field classes of R11; `none` is the class "—" of fields that are not configuration. -/
inductive Cls | none | live | staged | quiet
  deriving DecidableEq, Repr

/-- One row of a register map. Element (i, j) of an array of registers lies at `off + i * s1 + j * s2`, i < n1, j < n2. -/
structure Field where
  off : Nat
  lo : Nat
  width : Nat
  acc : Acc
  cls : Cls
  reset : Nat
  n1 : Nat := 1
  s1 : Nat := 0
  n2 : Nat := 1
  s2 : Nat := 0
  /-- The ranges of values that are not reserved (R9); the empty list reserves none. -/
  legal : List (Nat × Nat) := []
  deriving DecidableEq, Repr

namespace Reg

/-! ### The common header (R584 to R592) -/

def PAGE_ID_TYPE : Field := ⟨0, 0, 16, .ro, .none, 0, 1, 0, 1, 0, []⟩
def PAGE_ID_INST : Field := ⟨0, 16, 8, .ro, .none, 0, 1, 0, 1, 0, []⟩
def PAGE_VER_MINOR : Field := ⟨4, 0, 8, .ro, .none, 0, 1, 0, 1, 0, []⟩
def PAGE_VER_MAJOR : Field := ⟨4, 8, 8, .ro, .none, 1, 1, 0, 1, 0, []⟩
def PAGE_CAP_COMMIT : Field := ⟨8, 0, 1, .ro, .none, 0, 1, 0, 1, 0, []⟩
def PAGE_CAP_RST : Field := ⟨8, 1, 1, .ro, .none, 0, 1, 0, 1, 0, []⟩
def PAGE_CAP_PWR : Field := ⟨8, 2, 1, .ro, .none, 0, 1, 0, 1, 0, []⟩
def PAGE_CAP_FSRC : Field := ⟨8, 3, 1, .ro, .none, 0, 1, 0, 1, 0, []⟩
def PAGE_CAP_SIZE : Field := ⟨8, 16, 16, .ro, .none, 0, 1, 0, 1, 0, []⟩
def PAGE_CTL_EN : Field := ⟨0xc, 0, 1, .rw, .live, 1, 1, 0, 1, 0, []⟩
def PAGE_CTL_RST : Field := ⟨0xc, 1, 1, .w1s, .none, 0, 1, 0, 1, 0, []⟩
def PAGE_CTL_PWR : Field := ⟨0xc, 2, 1, .rw, .live, 1, 1, 0, 1, 0, []⟩
def PAGE_STAT_STATE : Field := ⟨0x10, 0, 4, .ro, .none, 0, 1, 0, 1, 0, []⟩
def PAGE_STAT_BUSY : Field := ⟨0x10, 8, 1, .ro, .none, 0, 1, 0, 1, 0, []⟩
def PAGE_STAT_WERR : Field := ⟨0x10, 9, 1, .w1c, .none, 0, 1, 0, 1, 0, []⟩
def PAGE_FLT_ALIVE : Field := ⟨0x14, 0, 1, .ro, .none, 0, 1, 0, 1, 0, []⟩
def PAGE_FLT_BLIVE : Field := ⟨0x14, 1, 1, .ro, .none, 0, 1, 0, 1, 0, []⟩
def PAGE_FLT_AVAL : Field := ⟨0x14, 8, 1, .ro, .none, 0, 1, 0, 1, 0, []⟩
def PAGE_FLT_BVAL : Field := ⟨0x14, 9, 1, .ro, .none, 0, 1, 0, 1, 0, []⟩
def PAGE_FLT_SLOTA : Field := ⟨0x14, 16, 8, .ro, .none, 0, 1, 0, 1, 0, []⟩
def PAGE_FLT_SLOTB : Field := ⟨0x14, 24, 8, .ro, .none, 0, 1, 0, 1, 0, []⟩
def PAGE_FLTL_ALATCH : Field := ⟨0x18, 0, 1, .w1c, .none, 0, 1, 0, 1, 0, []⟩
def PAGE_FLTL_BLATCH : Field := ⟨0x18, 1, 1, .w1c, .none, 0, 1, 0, 1, 0, []⟩
def PAGE_COMMIT_GO : Field := ⟨0x1c, 0, 1, .w1s, .none, 0, 1, 0, 1, 0, []⟩
def PAGE_COMMIT_DROP : Field := ⟨0x1c, 1, 1, .w1s, .none, 0, 1, 0, 1, 0, []⟩
def PAGE_COMMIT_PEND : Field := ⟨0x1c, 2, 1, .ro, .none, 0, 1, 0, 1, 0, []⟩

/-! ### DEV (R564, R595) -/

def DEV_BOOT_STEP : Field := ⟨0x80, 0, 4, .ro, .none, 0, 1, 0, 1, 0, []⟩
def DEV_BOOT_REFREV : Field := ⟨0x80, 4, 1, .ro, .none, 0, 1, 0, 1, 0, []⟩
def DEV_BOOT_REFUNCHK : Field := ⟨0x80, 5, 1, .ro, .none, 0, 1, 0, 1, 0, []⟩
def DEV_BOOT_STFAIL : Field := ⟨0x80, 6, 1, .ro, .none, 0, 1, 0, 1, 0, []⟩
def DEV_BOOT_IMGOK : Field := ⟨0x80, 7, 1, .ro, .none, 0, 1, 0, 1, 0, []⟩
def DEV_BOOT_DCRDY : Field := ⟨0x80, 8, 4, .ro, .none, 0, 1, 0, 1, 0, []⟩
def DEV_BOOTT_TIME : Field := ⟨0x84, 0, 32, .ro, .none, 0, 1, 0, 1, 0, []⟩
def DEV_PART_PART : Field := ⟨0x40, 0, 16, .ro, .none, 0x320, 1, 0, 1, 0, []⟩
def DEV_STEP_STEP : Field := ⟨0x44, 0, 16, .ro, .none, 0xa1, 1, 0, 1, 0, []⟩
def DEV_SERL_SER : Field := ⟨0x48, 0, 32, .ro, .none, 0, 1, 0, 1, 0, []⟩
def DEV_SERH_SER : Field := ⟨0x4c, 0, 32, .ro, .none, 0, 1, 0, 1, 0, []⟩
def DEV_SCRATCH_SCRATCH : Field := ⟨0x60, 0, 32, .rw, .live, 0, 1, 0, 1, 0, []⟩

/-! ### MODE (R555) -/

def MODE_REQ_REQ : Field := ⟨0x40, 0, 4, .wo, .none, 0, 1, 0, 1, 0, [(1, 6)]⟩
def MODE_STAT_MODE : Field := ⟨0x44, 0, 4, .ro, .none, 1, 1, 0, 1, 0, []⟩
def MODE_STAT_PREV : Field := ⟨0x44, 4, 4, .ro, .none, 0, 1, 0, 1, 0, []⟩
def MODE_STAT_PEND : Field := ⟨0x44, 8, 1, .ro, .none, 0, 1, 0, 1, 0, []⟩
def MODE_STAT_REF : Field := ⟨0x44, 9, 1, .w1c, .none, 0, 1, 0, 1, 0, []⟩
def MODE_STAT_REASON : Field := ⟨0x44, 12, 4, .ro, .none, 0, 1, 0, 1, 0, []⟩
def MODE_STAT_WARM : Field := ⟨0x44, 16, 1, .ro, .none, 0, 1, 0, 1, 0, []⟩
def MODE_TS0_TS : Field := ⟨0x48, 0, 32, .ro, .none, 0, 1, 0, 1, 0, []⟩
def MODE_TS1_TS : Field := ⟨0x4c, 0, 32, .ro, .none, 0, 1, 0, 1, 0, []⟩
def MODE_TS2_TS : Field := ⟨0x50, 0, 32, .ro, .none, 0, 1, 0, 1, 0, []⟩

/-! ### CLK (R113, R166, R167, R170, R174, R189) -/

def CG_CTL_EN : Field := ⟨0x200, 0, 1, .rw, .live, 0, 8, 0x20, 1, 0, []⟩
def CG_CTL_RSTMODE : Field := ⟨0x200, 1, 1, .rw, .staged, 0, 8, 0x20, 1, 0, []⟩
def CG_PER_VAL : Field := ⟨0x204, 0, 32, .rw, .staged, 0xc00, 8, 0x20, 1, 0, []⟩
def CG_HIGH_VAL : Field := ⟨0x208, 0, 32, .rw, .staged, 0x600, 8, 0x20, 1, 0, []⟩
def CG_PHASE_VAL : Field := ⟨0x20c, 0, 32, .rw, .staged, 0, 8, 0x20, 1, 0, []⟩
def CG_STAT_RUN : Field := ⟨0x210, 0, 1, .ro, .none, 0, 8, 0x20, 1, 0, []⟩
def CG_STAT_PENDSYNC : Field := ⟨0x210, 1, 1, .ro, .none, 0, 8, 0x20, 1, 0, []⟩
def CG_STAT_BADCFG : Field := ⟨0x210, 2, 1, .w1c, .none, 0, 8, 0x20, 1, 0, []⟩
def SYNC_CTL_SRC : Field := ⟨0x40, 0, 1, .rw, .quiet, 0, 1, 0, 1, 0, []⟩
def SYNC_CTL_OUT_EN : Field := ⟨0x40, 1, 1, .rw, .quiet, 0, 1, 0, 1, 0, []⟩
def SYNC_CTL_GEN : Field := ⟨0x40, 2, 1, .rw, .quiet, 0, 1, 0, 1, 0, []⟩
def SYNC_CTL_CHK_EN : Field := ⟨0x40, 3, 1, .rw, .live, 0, 1, 0, 1, 0, []⟩
def SYNC_PER_PER : Field := ⟨0x44, 0, 24, .rw, .quiet, 0x2710, 1, 0, 1, 0, [(100, 16777215)]⟩
def SYNC_DLY_DLY : Field := ⟨0x48, 0, 32, .rw, .quiet, 0, 1, 0, 1, 0, [(0, 65536)]⟩
def SYNC_CNT_CNT : Field := ⟨0x50, 0, 32, .ro, .none, 0, 1, 0, 1, 0, []⟩
def SYNC_STAT_IRREG : Field := ⟨0x4c, 0, 1, .w1c, .none, 0, 1, 0, 1, 0, []⟩
def SYNC_STAT_LOST : Field := ⟨0x4c, 1, 1, .w1c, .none, 0, 1, 0, 1, 0, []⟩
def SYNC_STAT_UNCAL : Field := ⟨0x4c, 2, 1, .ro, .none, 1, 1, 0, 1, 0, []⟩
def GRP_CFG_CHIP_ID : Field := ⟨0x54, 0, 4, .rw, .quiet, 0, 1, 0, 1, 0, []⟩
def GRP_CFG_CHIPS : Field := ⟨0x54, 16, 16, .rw, .quiet, 1, 1, 0, 1, 0, []⟩
def GRP_STAT_AMLLATE : Field := ⟨0x58, 0, 1, .w1c, .none, 0, 1, 0, 1, 0, []⟩
def SF_VAL0_FLAGS : Field := ⟨0x100, 0, 32, .ro, .none, 0, 1, 0, 1, 0, []⟩
def SF_VAL1_FLAGS : Field := ⟨0x104, 0, 32, .ro, .none, 0, 1, 0, 1, 0, []⟩
def SF_SET0_FLAGS : Field := ⟨0x108, 0, 32, .w1s, .none, 0, 1, 0, 1, 0, []⟩
def SF_SET1_FLAGS : Field := ⟨0x10c, 0, 32, .w1s, .none, 0, 1, 0, 1, 0, []⟩
def SF_CLR0_FLAGS : Field := ⟨0x110, 0, 32, .wo, .none, 0, 1, 0, 1, 0, []⟩
def SF_CLR1_FLAGS : Field := ⟨0x114, 0, 32, .wo, .none, 0, 1, 0, 1, 0, []⟩
def SF_SHARE0_FLAGS : Field := ⟨0x118, 0, 32, .rw, .quiet, 0, 1, 0, 1, 0, []⟩
def SF_SHARE1_FLAGS : Field := ⟨0x11c, 0, 32, .rw, .quiet, 0, 1, 0, 1, 0, []⟩
def SPAN_CFG_SPAN : Field := ⟨0x140, 0, 4, .rw, .quiet, 0, 32, 4, 1, 0, []⟩
def SPAN_CFG_EN : Field := ⟨0x140, 4, 1, .rw, .quiet, 0, 32, 4, 1, 0, []⟩
def SPAN_CFG_LEAD : Field := ⟨0x140, 5, 1, .ro, .none, 0, 32, 4, 1, 0, []⟩
def AT_MAP0_MAP : Field := ⟨0x1c0, 0, 32, .rw, .quiet, 0, 1, 0, 1, 0, []⟩
def AT_MAP1_MAP : Field := ⟨0x1c4, 0, 32, .rw, .quiet, 0, 1, 0, 1, 0, []⟩
def AT_PULSE_PULSE : Field := ⟨0x1c8, 0, 16, .w1s, .none, 0, 1, 0, 1, 0, []⟩
def RG_MEM_RG_MEM : Field := ⟨0x300, 0, 32, .rw, .quiet, 0, 16, 0x10, 1, 0, []⟩
def RG_CHIPS_RG_CHIPS : Field := ⟨0x304, 0, 16, .rw, .quiet, 0, 16, 0x10, 1, 0, []⟩
def RG_ARR_ARRIVED : Field := ⟨0x308, 0, 32, .ro, .none, 0, 16, 0x10, 1, 0, []⟩
def RG_STAT_STALL : Field := ⟨0x30c, 0, 1, .w1c, .none, 0, 16, 0x10, 1, 0, []⟩
def RG_STAT_MISMATCH : Field := ⟨0x30c, 1, 1, .ro, .none, 0, 16, 0x10, 1, 0, []⟩
def RG_STAT_LINKLOST : Field := ⟨0x30c, 2, 1, .ro, .none, 0, 16, 0x10, 1, 0, []⟩

/-! ### PWR (R555) -/

def PWR_REQ0_REQ : Field := ⟨0x40, 0, 32, .rw, .live, 0xffffffff, 1, 0, 1, 0, []⟩
def PWR_REQ1_REQ : Field := ⟨0x44, 0, 32, .rw, .live, 0xffffffff, 1, 0, 1, 0, []⟩
def PWR_REQ2_REQ : Field := ⟨0x48, 0, 16, .rw, .live, 0xffff, 1, 0, 1, 0, []⟩
def PWR_STAT0_ON : Field := ⟨0x50, 0, 32, .ro, .none, 0, 1, 0, 1, 0, []⟩
def PWR_STAT1_ON : Field := ⟨0x54, 0, 32, .ro, .none, 0, 1, 0, 1, 0, []⟩
def PWR_STAT2_ON : Field := ⟨0x58, 0, 16, .ro, .none, 0, 1, 0, 1, 0, []⟩
def PWR_STBY0_STBY : Field := ⟨0x60, 0, 32, .rw, .live, 0xffffffff, 1, 0, 1, 0, []⟩
def PWR_STBY1_STBY : Field := ⟨0x64, 0, 32, .rw, .live, 0xff0000ff, 1, 0, 1, 0, []⟩
def PWR_STBY2_STBY : Field := ⟨0x68, 0, 16, .rw, .live, 0x1f, 1, 0, 1, 0, []⟩
def PWR_ERR_DOM : Field := ⟨0x70, 0, 7, .ro, .none, 0, 1, 0, 1, 0, []⟩
def PWR_ERR_REFUSED : Field := ⟨0x70, 8, 1, .w1c, .none, 0, 1, 0, 1, 0, []⟩

/-! ### FLT (R526) -/

def FLT_SHWIN_SHWIN : Field := ⟨0x40, 0, 10, .rw, .live, 0x14, 1, 0, 1, 0, [(1, 1000)]⟩
def FLT_WIRE_SLOT : Field := ⟨0x44, 0, 8, .ro, .none, 0, 1, 0, 1, 0, []⟩
def FLT_WIRE_VAL : Field := ⟨0x44, 8, 2, .ro, .none, 0, 1, 0, 1, 0, []⟩
def FLT_WIRE_VALID : Field := ⟨0x44, 31, 1, .w1c, .none, 0, 1, 0, 1, 0, []⟩
def FLT_INJ_SLOT : Field := ⟨0x48, 0, 8, .rw, .live, 0, 1, 0, 1, 0, []⟩
def FLT_INJ_KIND : Field := ⟨0x48, 8, 2, .rw, .live, 0, 1, 0, 1, 0, [(0, 2)]⟩
def FLT_INJ_GO : Field := ⟨0x48, 11, 1, .w1s, .none, 0, 1, 0, 1, 0, []⟩
def FLT_INJ_DUR : Field := ⟨0x48, 16, 16, .rw, .live, 1, 1, 0, 1, 0, [(1, 65535)]⟩
def FLT_FFR_SRC : Field := ⟨0x60, 0, 8, .ro, .none, 0, 1, 0, 1, 0, []⟩
def FLT_FFR_SEV : Field := ⟨0x60, 8, 2, .ro, .none, 0, 1, 0, 1, 0, []⟩
def FLT_FFR_MODE : Field := ⟨0x60, 10, 4, .ro, .none, 0, 1, 0, 1, 0, []⟩
def FLT_FFR_INJ : Field := ⟨0x60, 14, 1, .ro, .none, 0, 1, 0, 1, 0, []⟩
def FLT_FFR_SECONDARY : Field := ⟨0x60, 15, 1, .ro, .none, 0, 1, 0, 1, 0, []⟩
def FLT_FFR_MULTI : Field := ⟨0x60, 16, 1, .ro, .none, 0, 1, 0, 1, 0, []⟩
def FLT_FFR_VALID : Field := ⟨0x60, 31, 1, .w1c, .none, 0, 1, 0, 1, 0, []⟩
def FLT_FFR_TS0_TS : Field := ⟨0x64, 0, 32, .ro, .none, 0, 1, 0, 1, 0, []⟩
def FLT_FFR_TS1_TS : Field := ⟨0x68, 0, 32, .ro, .none, 0, 1, 0, 1, 0, []⟩
def FLT_FFR_TS2_TS : Field := ⟨0x6c, 0, 32, .ro, .none, 0, 1, 0, 1, 0, []⟩
def FLT_FFR_SNAP_SNAP : Field := ⟨0x70, 0, 32, .ro, .none, 0, 1, 0, 1, 0, []⟩
def FLT_FFR_DETAIL_DETAIL : Field := ⟨0x74, 0, 32, .ro, .none, 0, 1, 0, 1, 0, []⟩
def FLT_LATCH_LATCH : Field := ⟨0x80, 0, 32, .w1c, .none, 0, 8, 4, 1, 0, []⟩
def FLT_LIVE_LIVE : Field := ⟨0xa0, 0, 32, .ro, .none, 0, 8, 4, 1, 0, []⟩
def FLT_SHAD_SHAD : Field := ⟨0xc0, 0, 32, .w1c, .none, 0, 8, 4, 1, 0, []⟩
def FLT_LOCKS_LOCK : Field := ⟨0xe0, 0, 32, .ro, .none, 0, 8, 4, 1, 0, []⟩
def FLT_CFG_SEV : Field := ⟨0x1000, 0, 2, .rw, .live, 0, 256, 0x10, 1, 0, []⟩
def FLT_CFG_QUIET : Field := ⟨0x1000, 16, 16, .rw, .live, 0x64, 256, 0x10, 1, 0, [(1, 16000)]⟩
def FLT_RLIM_LIMIT : Field := ⟨0x1004, 0, 8, .rw, .live, 5, 256, 0x10, 1, 0, [(1, 255)]⟩
def FLT_RLIM_WIN : Field := ⟨0x1004, 16, 16, .rw, .live, 0x258, 256, 0x10, 1, 0, [(1, 65535)]⟩
def FLT_SSTAT_STATE : Field := ⟨0x1008, 0, 3, .ro, .none, 0, 256, 0x10, 1, 0, []⟩
def FLT_SSTAT_SECONDARY : Field := ⟨0x1008, 3, 1, .ro, .none, 0, 256, 0x10, 1, 0, []⟩
def FLT_SSTAT_LOCK : Field := ⟨0x1008, 4, 1, .w1c, .none, 0, 256, 0x10, 1, 0, []⟩
def FLT_SSTAT_CAUSE : Field := ⟨0x1008, 8, 8, .ro, .none, 0, 256, 0x10, 1, 0, []⟩
def FLT_RCNT_RCNT : Field := ⟨0x100c, 0, 16, .rc, .none, 0, 256, 0x10, 1, 0, []⟩

/-! ### SILO (R527) -/

def SILO_SAFE_SAFE : Field := ⟨0x40, 0, 32, .ro, .none, 0, 1, 0, 1, 0, []⟩
def SILO_STAT_SAFEN : Field := ⟨0x44, 0, 1, .ro, .none, 1, 1, 0, 1, 0, []⟩
def SILO_STAT_ARMED : Field := ⟨0x44, 1, 1, .ro, .none, 0, 1, 0, 1, 0, []⟩
def SILO_STAT_LSOK : Field := ⟨0x44, 2, 1, .ro, .none, 0, 1, 0, 1, 0, []⟩
def SILO_STAT_WARN : Field := ⟨0x44, 3, 1, .ro, .none, 0, 1, 0, 1, 0, []⟩
def SILO_STAT_CRIT : Field := ⟨0x44, 4, 1, .ro, .none, 0, 1, 0, 1, 0, []⟩
def SILO_STAT_TSENS : Field := ⟨0x44, 5, 1, .ro, .none, 0, 1, 0, 1, 0, []⟩
def SILO_STAT_ARMFAIL : Field := ⟨0x44, 8, 4, .ro, .none, 0, 1, 0, 1, 0, []⟩
def SILO_FORCE_FORCE : Field := ⟨0x48, 0, 32, .rw, .live, 0, 1, 0, 1, 0, []⟩
def SILO_ARM_ARM : Field := ⟨0x4c, 0, 32, .wo, .none, 0, 1, 0, 1, 0, []⟩
def SILO_NONCE_NONCE : Field := ⟨0x50, 0, 16, .ro, .none, 0, 1, 0, 1, 0, []⟩
def SILO_THR_WARN : Field := ⟨0x54, 0, 8, .rw, .live, 0x64, 1, 0, 1, 0, [(70, 110)]⟩
def SILO_THR_CRIT : Field := ⟨0x54, 8, 8, .rw, .live, 0x6c, 1, 0, 1, 0, [(80, 115)]⟩
def SILO_TEMP_TEMP : Field := ⟨0x58, 0, 32, .ro, .none, 0, 1, 0, 1, 0, []⟩
def SILO_ILIM_LIMIT : Field := ⟨0x80, 0, 8, .rw, .live, 0x64, 8, 4, 1, 0, [(10, 240)]⟩
def SILO_ILIM_MEAS : Field := ⟨0x80, 16, 8, .ro, .none, 0, 8, 4, 1, 0, []⟩
def SILO_SCAUSE_CAUSE : Field := ⟨0x100, 0, 8, .ro, .none, 0, 32, 4, 1, 0, []⟩

/-! ### SEC (R555) -/

def SEC_LIFE_STATE : Field := ⟨0x40, 0, 2, .ro, .none, 0, 1, 0, 1, 0, []⟩
def SEC_CTL_SEAL : Field := ⟨0x44, 0, 1, .w1s, .none, 0, 1, 0, 1, 0, []⟩
def SEC_CTL_ZERO : Field := ⟨0x44, 1, 1, .w1s, .none, 0, 1, 0, 1, 0, []⟩
def SEC_CTL_KEY : Field := ⟨0x44, 16, 16, .wo, .none, 0, 1, 0, 1, 0, []⟩
def SEC_KSTAT_LOADED : Field := ⟨0x48, 0, 8, .ro, .none, 0, 1, 0, 1, 0, []⟩
def SEC_KSTAT_ZBUSY : Field := ⟨0x48, 8, 1, .ro, .none, 0, 1, 0, 1, 0, []⟩
def SEC_KSTAT_KREF : Field := ⟨0x48, 9, 1, .w1c, .none, 0, 1, 0, 1, 0, []⟩
def SEC_KSTAT_KREASON : Field := ⟨0x48, 12, 4, .ro, .none, 0, 1, 0, 1, 0, []⟩
def SEC_KSEL_SLOT : Field := ⟨0x4c, 0, 3, .rw, .live, 0, 1, 0, 1, 0, []⟩
def SEC_KSEL_WRAP : Field := ⟨0x4c, 8, 1, .rw, .live, 0, 1, 0, 1, 0, []⟩
def SEC_KDATA_DATA : Field := ⟨0x80, 0, 32, .wo, .none, 0, 18, 4, 1, 0, []⟩
def SEC_KGO_GO : Field := ⟨0xc8, 0, 1, .w1s, .none, 0, 1, 0, 1, 0, []⟩

/-! ### DBG (R555) -/

def DBG_LEVEL_LEVEL : Field := ⟨0x40, 0, 2, .ro, .none, 1, 1, 0, 1, 0, []⟩
def DBG_REQ_LEVEL : Field := ⟨0x44, 0, 2, .wo, .none, 0, 1, 0, 1, 0, [(0, 2)]⟩
def DBG_STAT_REASON : Field := ⟨0x48, 0, 4, .ro, .none, 0, 1, 0, 1, 0, []⟩
def DBG_STAT_BUSY : Field := ⟨0x48, 8, 1, .ro, .none, 0, 1, 0, 1, 0, []⟩
def DBG_STAT_REF : Field := ⟨0x48, 9, 1, .w1c, .none, 0, 1, 0, 1, 0, []⟩
def DBG_STAT_FAILS : Field := ⟨0x48, 12, 3, .ro, .none, 0, 1, 0, 1, 0, []⟩
def DBG_CHAL_CHAL : Field := ⟨0x80, 0, 32, .ro, .none, 0, 12, 4, 1, 0, []⟩
def DBG_TOK_TOK : Field := ⟨0x100, 0, 32, .wo, .none, 0, 24, 4, 1, 0, []⟩
def DBG_TGO_TARGET : Field := ⟨0x160, 0, 2, .rw, .live, 0, 1, 0, 1, 0, [(2, 3)]⟩
def DBG_TGO_GO : Field := ⟨0x160, 8, 1, .w1s, .none, 0, 1, 0, 1, 0, []⟩

/-! ### TIME (R344) -/

def TIME_CFG_ROLE : Field := ⟨0x40, 0, 2, .rw, .quiet, 0, 1, 0, 1, 0, [(0, 2)]⟩
def TIME_CFG_STEPSYNC : Field := ⟨0x40, 2, 1, .rw, .live, 0, 1, 0, 1, 0, []⟩
def TIME_CFG_SMODE : Field := ⟨0x40, 3, 1, .rw, .live, 0, 1, 0, 1, 0, []⟩
def TIME_CTL_STEP : Field := ⟨0x44, 0, 1, .w1s, .none, 0, 1, 0, 1, 0, []⟩
def TIME_CTL_HOLD : Field := ⟨0x44, 1, 1, .w1s, .none, 0, 1, 0, 1, 0, []⟩
def TIME_STAT_STEPPED : Field := ⟨0x48, 0, 1, .ro, .none, 0, 1, 0, 1, 0, []⟩
def TIME_STAT_STEPPEND : Field := ⟨0x48, 1, 1, .ro, .none, 0, 1, 0, 1, 0, []⟩
def TIME_STAT_HOLDOVER : Field := ⟨0x48, 2, 1, .ro, .none, 0, 1, 0, 1, 0, []⟩
def TIME_STAT_HCAUSE : Field := ⟨0x48, 3, 3, .ro, .none, 0, 1, 0, 1, 0, []⟩
def TIME_STAT_DISC : Field := ⟨0x48, 8, 1, .w1c, .none, 0, 1, 0, 1, 0, []⟩
def TIME_STAT_SREF : Field := ⟨0x48, 9, 1, .w1c, .none, 0, 1, 0, 1, 0, []⟩
def TIME_STAT_OIGN : Field := ⟨0x48, 10, 1, .w1c, .none, 0, 1, 0, 1, 0, []⟩
def TIME_STAT_CLAMP : Field := ⟨0x48, 11, 1, .w1c, .none, 0, 1, 0, 1, 0, []⟩
def TIME_STAT_SCANC : Field := ⟨0x48, 12, 1, .w1c, .none, 0, 1, 0, 1, 0, []⟩
def TIME_NOW0_NOW : Field := ⟨0x4c, 0, 32, .ro, .none, 0, 1, 0, 1, 0, []⟩
def TIME_NOW1_NOW : Field := ⟨0x50, 0, 32, .ro, .none, 0, 1, 0, 1, 0, []⟩
def TIME_NOW2_NOW : Field := ⟨0x54, 0, 32, .ro, .none, 0, 1, 0, 1, 0, []⟩
def TIME_DLT0_DFRAC : Field := ⟨0x58, 0, 16, .rw, .live, 0, 1, 0, 1, 0, []⟩
def TIME_DLT1_DNS : Field := ⟨0x5c, 0, 32, .rw, .live, 0, 1, 0, 1, 0, []⟩
def TIME_DLT2_DNS : Field := ⟨0x60, 0, 32, .rw, .live, 0, 1, 0, 1, 0, []⟩
def TIME_OFS0_OFS : Field := ⟨0x64, 0, 32, .rw, .live, 0, 1, 0, 1, 0, []⟩
def TIME_OFS1_OFS : Field := ⟨0x68, 0, 16, .rw, .live, 0, 1, 0, 1, 0, []⟩
def TIME_KP_KP : Field := ⟨0x6c, 0, 32, .rw, .live, 0xb740, 1, 0, 1, 0, []⟩
def TIME_KI_KI : Field := ⟨0x70, 0, 32, .rw, .live, 0x1253, 1, 0, 1, 0, []⟩
def TIME_ADJ0_ADJ : Field := ⟨0x74, 0, 32, .rw, .live, 0, 1, 0, 1, 0, []⟩
def TIME_ADJ1_ADJ : Field := ⟨0x78, 0, 8, .rw, .live, 0, 1, 0, 1, 0, []⟩
def TIME_INT0_INT : Field := ⟨0x7c, 0, 32, .rw, .live, 0, 1, 0, 1, 0, []⟩
def TIME_INT1_INT : Field := ⟨0x80, 0, 8, .rw, .live, 0, 1, 0, 1, 0, []⟩
def TIME_INC0_INC : Field := ⟨0x84, 0, 32, .ro, .none, 0x55555555, 1, 0, 1, 0, []⟩
def TIME_INC1_INC : Field := ⟨0x88, 0, 16, .ro, .none, 0x5555, 1, 0, 1, 0, []⟩
def TIME_THR_THR : Field := ⟨0x8c, 0, 20, .rw, .live, 0x3e8, 1, 0, 1, 0, [(1, 1000000)]⟩
def TIME_WDOG_WDOG : Field := ⟨0x90, 0, 16, .rw, .live, 0xbb8, 1, 0, 1, 0, []⟩
def TIME_HOLDT_HOLDT : Field := ⟨0x94, 0, 32, .ro, .none, 0, 1, 0, 1, 0, []⟩
def TIME_EPOCH_EPOCH : Field := ⟨0x98, 0, 16, .ro, .none, 0, 1, 0, 1, 0, []⟩
def TIME_DLOGN_DLOGN : Field := ⟨0x9c, 0, 16, .ro, .none, 0, 1, 0, 1, 0, []⟩
def TIME_DLOG0_W : Field := ⟨0x100, 0, 32, .ro, .none, 0, 8, 0x20, 1, 0, []⟩
def TIME_DLOG1_W : Field := ⟨0x104, 0, 32, .ro, .none, 0, 8, 0x20, 1, 0, []⟩
def TIME_DLOG2_W : Field := ⟨0x108, 0, 32, .ro, .none, 0, 8, 0x20, 1, 0, []⟩
def TIME_DLOG3_W : Field := ⟨0x10c, 0, 32, .ro, .none, 0, 8, 0x20, 1, 0, []⟩
def TIME_DLOG4_W : Field := ⟨0x110, 0, 32, .ro, .none, 0, 8, 0x20, 1, 0, []⟩
def TIME_DLOG5_W : Field := ⟨0x114, 0, 32, .ro, .none, 0, 8, 0x20, 1, 0, []⟩
def TIME_DLOG6_W : Field := ⟨0x118, 0, 32, .ro, .none, 0, 8, 0x20, 1, 0, []⟩
def TIME_DLOG7_W : Field := ⟨0x11c, 0, 32, .ro, .none, 0, 8, 0x20, 1, 0, []⟩

/-! ### ETH (R345) -/

def ETH_CFG_EN : Field := ⟨0x40, 0, 1, .rw, .live, 0, 1, 0, 1, 0, []⟩
def ETH_CFG_SPEED : Field := ⟨0x40, 1, 1, .rw, .quiet, 1, 1, 0, 1, 0, []⟩
def ETH_CFG_FEC : Field := ⟨0x40, 2, 1, .rw, .quiet, 0, 1, 0, 1, 0, []⟩
def ETH_CFG_LOC : Field := ⟨0x40, 3, 1, .rw, .quiet, 0, 1, 0, 1, 0, []⟩
def ETH_STAT_LINK : Field := ⟨0x44, 0, 1, .ro, .none, 0, 1, 0, 1, 0, []⟩
def ETH_STAT_LINKCHG : Field := ⟨0x44, 1, 1, .w1c, .none, 0, 1, 0, 1, 0, []⟩
def ETH_TXLAT_LAT : Field := ⟨0x48, 0, 32, .ro, .none, 0, 1, 0, 1, 0, []⟩
def ETH_RXLAT_LAT : Field := ⟨0x4c, 0, 32, .ro, .none, 0, 1, 0, 1, 0, []⟩
def ETH_TXASYM_ASYM : Field := ⟨0x50, 0, 32, .rw, .live, 0, 1, 0, 1, 0, []⟩
def ETH_RXASYM_ASYM : Field := ⟨0x54, 0, 32, .rw, .live, 0, 1, 0, 1, 0, []⟩
def ETH_MACL_MAC : Field := ⟨0x58, 0, 32, .rw, .quiet, 0, 1, 0, 1, 0, []⟩
def ETH_MACH_MAC : Field := ⟨0x5c, 0, 16, .rw, .quiet, 0, 1, 0, 1, 0, []⟩
def ETH_IP_IP : Field := ⟨0x60, 0, 32, .rw, .quiet, 0, 1, 0, 1, 0, []⟩
def ETH_RXDROP_RXDROP : Field := ⟨0x64, 0, 32, .rc, .none, 0, 1, 0, 1, 0, []⟩
def ETH_RXBASEL_BASE : Field := ⟨0x80, 0, 32, .rw, .quiet, 0, 1, 0, 1, 0, []⟩
def ETH_RXBASEH_BASE : Field := ⟨0x84, 0, 32, .rw, .quiet, 0, 1, 0, 1, 0, []⟩
def ETH_RXSIZE_SIZE : Field := ⟨0x88, 0, 16, .rw, .quiet, 0x10, 1, 0, 1, 0, [(16, 65535)]⟩
def ETH_RXPROD_PROD : Field := ⟨0x8c, 0, 16, .ro, .none, 0, 1, 0, 1, 0, []⟩
def ETH_RXCONS_CONS : Field := ⟨0x90, 0, 16, .rw, .live, 0, 1, 0, 1, 0, []⟩
def ETH_TXBASEL_BASE : Field := ⟨0xa0, 0, 32, .rw, .quiet, 0, 1, 0, 1, 0, []⟩
def ETH_TXBASEH_BASE : Field := ⟨0xa4, 0, 32, .rw, .quiet, 0, 1, 0, 1, 0, []⟩
def ETH_TXSIZE_SIZE : Field := ⟨0xa8, 0, 16, .rw, .quiet, 0x10, 1, 0, 1, 0, [(16, 65535)]⟩
def ETH_TXPROD_PROD : Field := ⟨0xac, 0, 16, .rw, .live, 0, 1, 0, 1, 0, []⟩
def ETH_TXCONS_CONS : Field := ⟨0xb0, 0, 16, .ro, .none, 0, 1, 0, 1, 0, []⟩
def EXP_CTL_EN : Field := ⟨0xc0, 0, 1, .rw, .live, 0, 1, 0, 1, 0, []⟩
def EXP_CTL_SRC : Field := ⟨0xc0, 8, 6, .rw, .live, 0, 1, 0, 1, 0, []⟩
def EXP_SITES_SITES : Field := ⟨0xc4, 0, 32, .rw, .live, 0, 1, 0, 1, 0, []⟩
def EXP_DMACL_DMAC : Field := ⟨0xc8, 0, 32, .rw, .quiet, 0, 1, 0, 1, 0, []⟩
def EXP_DMACH_DMAC : Field := ⟨0xcc, 0, 16, .rw, .quiet, 0, 1, 0, 1, 0, []⟩
def EXP_DIP_DIP : Field := ⟨0xd0, 0, 32, .rw, .quiet, 0, 1, 0, 1, 0, []⟩
def EXP_PORTS_PORTS : Field := ⟨0xd4, 0, 32, .rw, .quiet, 0, 1, 0, 1, 0, []⟩
def EXP_HOLD_HOLD : Field := ⟨0xd8, 0, 16, .rw, .live, 0x64, 1, 0, 1, 0, [(1, 65535)]⟩
def EXP_SEQ_SEQ : Field := ⟨0xdc, 0, 32, .ro, .none, 0, 1, 0, 1, 0, []⟩
def EXP_DROP_DROP : Field := ⟨0xe0, 0, 32, .rc, .none, 0, 1, 0, 1, 0, []⟩

/-! ### CNT (R439) -/

def CNT_CTL_USER : Field := ⟨0x40, 0, 1, .rw, .live, 0, 1, 0, 1, 0, []⟩
def CNT_CTL_SNAP : Field := ⟨0x40, 1, 1, .w1s, .none, 0, 1, 0, 1, 0, []⟩
def CNT_CTL_CLRALL : Field := ⟨0x40, 2, 1, .w1s, .none, 0, 1, 0, 1, 0, []⟩
def CNT_CFG_PEN : Field := ⟨0x44, 0, 1, .rw, .live, 0, 1, 0, 1, 0, []⟩
def CNT_CFG_DEST : Field := ⟨0x44, 1, 1, .rw, .quiet, 0, 1, 0, 1, 0, []⟩
def CNT_PER_PER : Field := ⟨0x48, 0, 20, .rw, .quiet, 0x3e8, 1, 0, 1, 0, [(1, 1000000)]⟩
def CNT_STAT_DUMPING : Field := ⟨0x4c, 0, 1, .ro, .none, 0, 1, 0, 1, 0, []⟩
def CNT_STAT_PEND : Field := ⟨0x4c, 1, 1, .ro, .none, 0, 1, 0, 1, 0, []⟩
def CNT_STAT_SREF : Field := ⟨0x4c, 2, 1, .w1c, .none, 0, 1, 0, 1, 0, []⟩
def CNT_STAT_SCANC : Field := ⟨0x4c, 3, 1, .w1c, .none, 0, 1, 0, 1, 0, []⟩
def CNT_STAT_SKIP : Field := ⟨0x4c, 4, 1, .w1c, .none, 0, 1, 0, 1, 0, []⟩
def CNT_SKIP_SKIP : Field := ⟨0x50, 0, 32, .rc, .none, 0, 1, 0, 1, 0, []⟩
def CNT_SEQ_SEQ : Field := ⟨0x54, 0, 32, .ro, .none, 0, 1, 0, 1, 0, []⟩
def CNT_LASTT0_TS : Field := ⟨0x58, 0, 32, .ro, .none, 0, 1, 0, 1, 0, []⟩
def CNT_LASTT1_TS : Field := ⟨0x5c, 0, 32, .ro, .none, 0, 1, 0, 1, 0, []⟩
def CNT_LASTT2_TS : Field := ⟨0x60, 0, 32, .ro, .none, 0, 1, 0, 1, 0, []⟩
def CNT_SKEW_SKEW : Field := ⟨0x64, 0, 16, .ro, .none, 0, 1, 0, 1, 0, []⟩
def CNT_DBASEL_BASE : Field := ⟨0x80, 0, 32, .rw, .quiet, 0, 1, 0, 1, 0, []⟩
def CNT_DBASEH_BASE : Field := ⟨0x84, 0, 32, .rw, .quiet, 0, 1, 0, 1, 0, []⟩
def CNT_DSIZE_SIZE : Field := ⟨0x88, 0, 16, .rw, .quiet, 2, 1, 0, 1, 0, [(2, 65535)]⟩
def CNT_DPROD_PROD : Field := ⟨0x8c, 0, 16, .ro, .none, 0, 1, 0, 1, 0, []⟩
def CNT_DCONS_CONS : Field := ⟨0x90, 0, 16, .rw, .live, 0, 1, 0, 1, 0, []⟩
def CNT_OVF_OVF : Field := ⟨0xc00, 0, 32, .w1c, .none, 0, 44, 4, 1, 0, []⟩
def CNT_COLL_COLL : Field := ⟨0xd00, 0, 32, .w1c, .none, 0, 44, 4, 1, 0, []⟩
def CNT_L_VAL : Field := ⟨0x1000, 0, 32, .rw, .none, 0, 1024, 8, 1, 0, []⟩
def CNT_H_VAL : Field := ⟨0x1004, 0, 16, .rw, .none, 0, 1024, 8, 1, 0, []⟩
def CNT_SHL_SH : Field := ⟨0x4000, 0, 32, .ro, .none, 0, 1408, 8, 1, 0, []⟩
def CNT_SHH_SH : Field := ⟨0x4004, 0, 16, .ro, .none, 0, 1408, 8, 1, 0, []⟩
def CNT_SHH_OVF : Field := ⟨0x4004, 16, 1, .ro, .none, 0, 1408, 8, 1, 0, []⟩
def CNT_SHH_COLL : Field := ⟨0x4004, 17, 1, .ro, .none, 0, 1408, 8, 1, 0, []⟩
def CNT_SHH_VALID : Field := ⟨0x4004, 18, 1, .ro, .none, 0, 1408, 8, 1, 0, []⟩

/-! ### BRST (R421) -/

def BRST_CFG_HWNOTIFY : Field := ⟨0x40, 0, 1, .rw, .live, 0, 1, 0, 1, 0, []⟩
def BRST_CTL_PCLR : Field := ⟨0x44, 0, 1, .w1s, .none, 0, 1, 0, 1, 0, []⟩
def BRST_CTL_HCLR : Field := ⟨0x44, 1, 1, .w1s, .none, 0, 1, 0, 1, 0, []⟩
def BRST_STAT_FULL : Field := ⟨0x48, 0, 1, .ro, .none, 0, 1, 0, 1, 0, []⟩
def BRST_STAT_STALE : Field := ⟨0x48, 1, 1, .w1c, .none, 0, 1, 0, 1, 0, []⟩
def BRST_STAT_TMO : Field := ⟨0x48, 2, 1, .w1c, .none, 0, 1, 0, 1, 0, []⟩
def BRST_STAT_CQFULL : Field := ⟨0x48, 3, 1, .w1c, .none, 0, 1, 0, 1, 0, []⟩
def BRST_FREE_FREE : Field := ⟨0x4c, 0, 13, .ro, .none, 0x1000, 1, 0, 1, 0, []⟩
def BRST_STALE_STALE : Field := ⟨0x50, 0, 16, .rc, .none, 0, 1, 0, 1, 0, []⟩
def BRST_HSEL_LEVELS : Field := ⟨0x54, 0, 8, .rw, .live, 0xff, 1, 0, 1, 0, []⟩
def BRST_LWSEL_SEL : Field := ⟨0x58, 0, 4, .rw, .live, 0, 1, 0, 1, 0, []⟩
def BRST_LWIN_LWIN : Field := ⟨0x5c, 0, 16, .rw, .live, 0x64, 1, 0, 1, 0, [(1, 65535)]⟩
def BRST_SUB_W : Field := ⟨0x60, 0, 32, .rw, .live, 0, 8, 4, 1, 0, []⟩
def BRST_SUBGO_GO : Field := ⟨0x80, 0, 1, .w1s, .none, 0, 1, 0, 1, 0, []⟩
def BRST_SUBRES_RES : Field := ⟨0x84, 0, 3, .ro, .none, 0, 1, 0, 1, 0, []⟩
def BRST_CANCEL_TOKEN : Field := ⟨0x88, 0, 32, .wo, .none, 0, 1, 0, 1, 0, []⟩
def BRST_CANRES_RES : Field := ⟨0x8c, 0, 2, .ro, .none, 0, 1, 0, 1, 0, []⟩
def BRST_CQBASEL_BASE : Field := ⟨0xa0, 0, 32, .rw, .quiet, 0, 1, 0, 1, 0, []⟩
def BRST_CQBASEH_BASE : Field := ⟨0xa4, 0, 32, .rw, .quiet, 0, 1, 0, 1, 0, []⟩
def BRST_CQSIZE_SIZE : Field := ⟨0xa8, 0, 16, .rw, .quiet, 0x10, 1, 0, 1, 0, [(16, 65535)]⟩
def BRST_CQPROD_PROD : Field := ⟨0xac, 0, 16, .ro, .none, 0, 1, 0, 1, 0, []⟩
def BRST_CQCONS_CONS : Field := ⟨0xb0, 0, 16, .rw, .live, 0, 1, 0, 1, 0, []⟩
def BRST_LIM_LIMIT : Field := ⟨0x100, 0, 13, .rw, .live, 0x1000, 8, 0x10, 1, 0, [(1, 4096)]⟩
def BRST_DLIM_DLIM : Field := ⟨0x104, 0, 24, .rw, .live, 0, 8, 0x10, 1, 0, []⟩
def BRST_DEPTH_DEPTH : Field := ⟨0x108, 0, 13, .ro, .none, 0, 8, 0x10, 1, 0, []⟩
def BRST_DEPTH_PEAK : Field := ⟨0x108, 16, 13, .ro, .none, 0, 8, 0x10, 1, 0, []⟩
def BRST_INFL_INFL : Field := ⟨0x10c, 0, 13, .ro, .none, 0, 8, 0x10, 1, 0, []⟩
def BRST_HIST_BIN : Field := ⟨0x200, 0, 32, .ro, .none, 0, 16, 4, 1, 0, []⟩
def BRST_BLOAD_LOAD : Field := ⟨0x300, 0, 16, .ro, .none, 0, 16, 0x10, 1, 0, []⟩
def BRST_BITEMS_ITEMS : Field := ⟨0x304, 0, 32, .rc, .none, 0, 16, 0x10, 1, 0, []⟩
def BRST_BSTAT_WAITING : Field := ⟨0x308, 0, 1, .ro, .none, 0, 16, 0x10, 1, 0, []⟩
def BRST_BSTAT_HELDN : Field := ⟨0x308, 16, 13, .ro, .none, 0, 16, 0x10, 1, 0, []⟩

/-! ### UCODE (R396) -/

def UC_SUM_SIGOK : Field := ⟨0x40, 0, 10, .ro, .none, 0, 1, 0, 1, 0, []⟩
def UC_SUM_SIGFAIL : Field := ⟨0x40, 16, 10, .ro, .none, 0, 1, 0, 1, 0, []⟩
def UC_VER_MINOR : Field := ⟨0x100, 0, 8, .ro, .none, 0, 10, 0x20, 1, 0, []⟩
def UC_VER_MAJOR : Field := ⟨0x100, 8, 8, .ro, .none, 0, 10, 0x20, 1, 0, []⟩
def UC_SIZE_WORDS : Field := ⟨0x104, 0, 13, .ro, .none, 0, 10, 0x20, 1, 0, []⟩
def UC_SIGC_SIGC : Field := ⟨0x108, 0, 32, .ro, .none, 0, 10, 0x20, 1, 0, []⟩
def UC_SIGF_SIGF : Field := ⟨0x10c, 0, 32, .ro, .none, 0, 10, 0x20, 1, 0, []⟩
def UC_STAT_SIGOK : Field := ⟨0x110, 0, 1, .ro, .none, 0, 10, 0x20, 1, 0, []⟩
def UC_STAT_SIGFAIL : Field := ⟨0x110, 1, 1, .ro, .none, 0, 10, 0x20, 1, 0, []⟩
def UC_STAT_STKERR : Field := ⟨0x110, 2, 1, .w1c, .none, 0, 10, 0x20, 1, 0, []⟩
def UC_STAT_ADDRERR : Field := ⟨0x110, 3, 1, .w1c, .none, 0, 10, 0x20, 1, 0, []⟩
def UC_STAT_RLIMIT : Field := ⟨0x110, 4, 1, .w1c, .none, 0, 10, 0x20, 1, 0, []⟩
def UC_STAT_ACTIVE : Field := ⟨0x110, 8, 4, .ro, .none, 0, 10, 0x20, 1, 0, []⟩
def UC_RESTART_CNT : Field := ⟨0x114, 0, 16, .rc, .none, 0, 10, 0x20, 1, 0, []⟩
def UC_LASTAB_UPC : Field := ⟨0x118, 0, 12, .ro, .none, 0, 10, 0x20, 1, 0, []⟩
def UC_LASTAB_CTX : Field := ⟨0x118, 12, 2, .ro, .none, 0, 10, 0x20, 1, 0, []⟩
def UC_LASTAB_ROUTINE : Field := ⟨0x118, 16, 8, .ro, .none, 0, 10, 0x20, 1, 0, []⟩

/-! ### WINN (R375) -/

def WINN_CTL_START : Field := ⟨0x40, 0, 1, .w1s, .none, 0, 1, 0, 1, 0, []⟩
def WINN_CTL_ABORT : Field := ⟨0x40, 1, 1, .w1s, .none, 0, 1, 0, 1, 0, []⟩
def WINN_PROC_PROC : Field := ⟨0x44, 0, 4, .rw, .quiet, 0, 1, 0, 1, 0, [(1, 10)]⟩
def WINN_PROC_EXTREF : Field := ⟨0x44, 4, 1, .rw, .quiet, 0, 1, 0, 1, 0, []⟩
def WINN_ARG0_ARG : Field := ⟨0x48, 0, 32, .rw, .quiet, 0, 1, 0, 1, 0, []⟩
def WINN_ARG1_ARG : Field := ⟨0x4c, 0, 32, .rw, .quiet, 0, 1, 0, 1, 0, []⟩
def WINN_STAT_STATE : Field := ⟨0x50, 0, 2, .ro, .none, 0, 1, 0, 1, 0, []⟩
def WINN_STAT_REASON : Field := ⟨0x50, 4, 4, .ro, .none, 0, 1, 0, 1, 0, []⟩
def WINN_STAT_PROC : Field := ⟨0x50, 8, 4, .ro, .none, 0, 1, 0, 1, 0, []⟩
def WINN_STAT_RESTARTS : Field := ⟨0x50, 12, 3, .ro, .none, 0, 1, 0, 1, 0, []⟩
def WINN_STAT_TDRIFT : Field := ⟨0x50, 16, 1, .ro, .none, 0, 1, 0, 1, 0, []⟩
def WINN_STAT_SREF : Field := ⟨0x50, 17, 1, .w1c, .none, 0, 1, 0, 1, 0, []⟩
def WINN_NFAIL_NFAIL : Field := ⟨0x54, 0, 16, .ro, .none, 0, 1, 0, 1, 0, []⟩
def WINN_DTEMP_DTEMP : Field := ⟨0x58, 0, 16, .ro, .none, 0, 1, 0, 1, 0, []⟩
def WINN_VREF_VREF : Field := ⟨0x5c, 0, 16, .rw, .quiet, 0x61a8, 1, 0, 1, 0, [(2000, 40000)]⟩
def WINN_VCH_VCH : Field := ⟨0x60, 0, 9, .rw, .quiet, 0, 1, 0, 1, 0, [(0, 319)]⟩
def WINN_TSKEW_TSKEW : Field := ⟨0x64, 0, 24, .rw, .quiet, 0, 1, 0, 1, 0, []⟩
def WINN_SZMEAN_SZMEAN : Field := ⟨0x68, 0, 32, .ro, .none, 0, 1, 0, 1, 0, []⟩
def WINN_SFULL_SFULL : Field := ⟨0x6c, 0, 16, .rw, .quiet, 0x199a, 1, 0, 1, 0, []⟩
def WINN_FCTRIM_FCTRIM : Field := ⟨0x70, 0, 11, .ro, .none, 0, 1, 0, 1, 0, []⟩
def WINN_QEDGE_EDGE : Field := ⟨0x80, 0, 8, .ro, .none, 0, 1, 0, 1, 0, []⟩
def WINN_QEDGE_SKEW : Field := ⟨0x80, 8, 8, .ro, .none, 0, 1, 0, 1, 0, []⟩
def WINN_QADC_ADC : Field := ⟨0x84, 0, 16, .ro, .none, 0, 1, 0, 1, 0, []⟩
def WINN_EYE_WIDTH : Field := ⟨0xc0, 0, 10, .ro, .none, 0, 10, 4, 1, 0, []⟩
def WINN_EYE_LOW : Field := ⟨0xc0, 30, 1, .ro, .none, 0, 10, 4, 1, 0, []⟩
def WINN_EYE_VALID : Field := ⟨0xc0, 31, 1, .ro, .none, 0, 10, 4, 1, 0, []⟩
def WINN_IMG_CTL_SAVE : Field := ⟨0x100, 0, 1, .w1s, .none, 0, 1, 0, 1, 0, []⟩
def WINN_IMG_CTL_LOAD : Field := ⟨0x100, 1, 1, .w1s, .none, 0, 1, 0, 1, 0, []⟩
def WINN_IMG_CTL_FLASHLOAD : Field := ⟨0x100, 2, 1, .w1s, .none, 0, 1, 0, 1, 0, []⟩
def WINN_IMG_CTL_FLASHSAVE : Field := ⟨0x100, 3, 1, .w1s, .none, 0, 1, 0, 1, 0, []⟩
def WINN_IMG_BASEL_BASE : Field := ⟨0x104, 0, 32, .rw, .quiet, 0, 1, 0, 1, 0, []⟩
def WINN_IMG_BASEH_BASE : Field := ⟨0x108, 0, 32, .rw, .quiet, 0, 1, 0, 1, 0, []⟩
def WINN_IMG_LEN_LEN : Field := ⟨0x10c, 0, 16, .rw, .quiet, 0, 1, 0, 1, 0, []⟩
def WINN_IMG_STAT_BUSY : Field := ⟨0x110, 0, 1, .ro, .none, 0, 1, 0, 1, 0, []⟩
def WINN_IMG_STAT_DONE : Field := ⟨0x110, 1, 1, .w1c, .none, 0, 1, 0, 1, 0, []⟩
def WINN_IMG_STAT_SKIP : Field := ⟨0x110, 2, 1, .w1c, .none, 0, 1, 0, 1, 0, []⟩
def WINN_IMG_STAT_ORIGIN : Field := ⟨0x110, 3, 1, .ro, .none, 0, 1, 0, 1, 0, []⟩
def WINN_IMG_STAT_REASON : Field := ⟨0x110, 8, 4, .ro, .none, 0, 1, 0, 1, 0, []⟩
def WINN_DSK_CORR : Field := ⟨0x1000, 0, 16, .rw, .quiet, 0, 320, 0x20, 6, 4, []⟩
def WINN_DSK_RES : Field := ⟨0x1000, 16, 8, .rw, .quiet, 0, 320, 0x20, 6, 4, []⟩
def WINN_FIX_FIX : Field := ⟨0x1018, 0, 24, .rw, .quiet, 0, 320, 0x20, 1, 0, []⟩
def WINN_DSTAT_VALID : Field := ⟨0x101c, 0, 1, .rw, .quiet, 0, 320, 0x20, 1, 0, []⟩
def WINN_DSTAT_REASON : Field := ⟨0x101c, 4, 4, .rw, .quiet, 0, 320, 0x20, 1, 0, []⟩
def WINN_DSTAT_WORST : Field := ⟨0x101c, 8, 8, .rw, .quiet, 0, 320, 0x20, 1, 0, []⟩
def WINN_SRES_REASON : Field := ⟨0x3800, 0, 4, .ro, .none, 0, 4, 4, 1, 0, []⟩
def WINN_SRES_VALID : Field := ⟨0x3800, 4, 1, .ro, .none, 0, 4, 4, 1, 0, []⟩
def WINN_LRES_REASON : Field := ⟨0x3900, 0, 4, .ro, .none, 0, 32, 4, 1, 0, []⟩
def WINN_LRES_VALID : Field := ⟨0x3900, 4, 1, .ro, .none, 0, 32, 4, 1, 0, []⟩
def WINN_YRES_REASON : Field := ⟨0x3a00, 0, 4, .ro, .none, 0, 16, 4, 1, 0, []⟩
def WINN_YRES_VALID : Field := ⟨0x3a00, 4, 1, .ro, .none, 0, 16, 4, 1, 0, []⟩
def WINN_YRES_ZDONE : Field := ⟨0x3a00, 5, 1, .ro, .none, 0, 16, 4, 1, 0, []⟩
def WINN_CRES_REASON : Field := ⟨0x4000, 0, 16, .ro, .none, 0, 320, 4, 1, 0, []⟩
def WINN_CRES_VALID : Field := ⟨0x4000, 16, 4, .ro, .none, 0, 320, 4, 1, 0, []⟩

/-! ### HOST (R476, R495) -/

def HOST_LINK_SPEED : Field := ⟨0x40, 0, 4, .ro, .none, 0, 1, 0, 1, 0, []⟩
def HOST_LINK_WIDTH : Field := ⟨0x40, 8, 4, .ro, .none, 0, 1, 0, 1, 0, []⟩
def HOST_ABICAP_ENT0 : Field := ⟨0x44, 0, 16, .ro, .none, 0x102, 1, 0, 1, 0, []⟩
def HOST_ABICAP_ENT1 : Field := ⟨0x44, 16, 16, .ro, .none, 0, 1, 0, 1, 0, []⟩
def HOST_ABISEL_MINOR : Field := ⟨0x48, 0, 8, .rw, .quiet, 0, 1, 0, 1, 0, []⟩
def HOST_ABISEL_MAJOR : Field := ⟨0x48, 8, 8, .rw, .quiet, 0, 1, 0, 1, 0, []⟩
def HOST_DWIN_GIB : Field := ⟨0x4c, 0, 6, .rw, .live, 0, 1, 0, 1, 0, []⟩
def HOST_ISTAT_PEND : Field := ⟨0x50, 0, 32, .w1c, .none, 0, 1, 0, 1, 0, []⟩
def HOST_SQIM_SITES : Field := ⟨0x54, 0, 32, .rw, .live, 0, 1, 0, 1, 0, []⟩
def HOST_BDOOR_BITS : Field := ⟨0x58, 0, 32, .w1s, .none, 0, 1, 0, 1, 0, []⟩
def HOST_BDOORC_CLR : Field := ⟨0x5c, 0, 32, .wo, .none, 0, 1, 0, 1, 0, []⟩
def HOST_STAT_DWERR : Field := ⟨0x60, 0, 1, .w1c, .none, 0, 1, 0, 1, 0, []⟩
def HOST_IMAP_VEC : Field := ⟨0x80, 0, 6, .rw, .live, 0, 23, 4, 1, 0, []⟩
def HOST_IMAP_EN : Field := ⟨0x80, 8, 1, .rw, .live, 0, 23, 4, 1, 0, []⟩
def HOST_CR_CFG_EN : Field := ⟨0x200, 0, 1, .rw, .live, 0, 8, 0x40, 1, 0, []⟩
def HOST_CR_SQBASEL_SQBASE : Field := ⟨0x204, 0, 32, .rw, .quiet, 0, 8, 0x40, 1, 0, []⟩
def HOST_CR_SQBASEH_SQBASE : Field := ⟨0x208, 0, 32, .rw, .quiet, 0, 8, 0x40, 1, 0, []⟩
def HOST_CR_SQSIZE_SQSIZE : Field := ⟨0x20c, 0, 16, .rw, .quiet, 0x10, 8, 0x40, 1, 0, [(16, 65535)]⟩
def HOST_CR_SQPROD_SQPROD : Field := ⟨0x210, 0, 16, .rw, .live, 0, 8, 0x40, 1, 0, []⟩
def HOST_CR_SQCONS_SQCONS : Field := ⟨0x214, 0, 16, .ro, .none, 0, 8, 0x40, 1, 0, []⟩
def HOST_CR_CQBASEL_CQBASE : Field := ⟨0x218, 0, 32, .rw, .quiet, 0, 8, 0x40, 1, 0, []⟩
def HOST_CR_CQBASEH_CQBASE : Field := ⟨0x21c, 0, 32, .rw, .quiet, 0, 8, 0x40, 1, 0, []⟩
def HOST_CR_CQSIZE_CQSIZE : Field := ⟨0x220, 0, 16, .rw, .quiet, 0x10, 8, 0x40, 1, 0, [(16, 65535)]⟩
def HOST_CR_CQPROD_CQPROD : Field := ⟨0x224, 0, 16, .ro, .none, 0, 8, 0x40, 1, 0, []⟩
def HOST_CR_CQCONS_CQCONS : Field := ⟨0x228, 0, 16, .rw, .live, 0, 8, 0x40, 1, 0, []⟩
def HOST_CR_STAT_RUN : Field := ⟨0x22c, 0, 1, .ro, .none, 0, 8, 0x40, 1, 0, []⟩
def HOST_CR_STAT_CQFULL : Field := ⟨0x22c, 1, 1, .w1c, .none, 0, 8, 0x40, 1, 0, []⟩
def HOST_CR_STAT_ERR : Field := ⟨0x22c, 2, 1, .w1c, .none, 0, 8, 0x40, 1, 0, []⟩
def HOST_CR_STAT_REFUSED : Field := ⟨0x22c, 3, 1, .w1c, .none, 0, 8, 0x40, 1, 0, []⟩

/-! ### AML (R496) -/

def AML_CFG_EN : Field := ⟨0x40, 0, 1, .rw, .quiet, 0, 1, 0, 1, 0, []⟩
def AML_CTL_RETRAIN : Field := ⟨0x44, 0, 1, .w1s, .none, 0, 1, 0, 1, 0, []⟩
def AML_STAT_STATE : Field := ⟨0x48, 0, 3, .ro, .none, 0, 1, 0, 1, 0, []⟩
def AML_STAT_REASON : Field := ⟨0x48, 4, 4, .ro, .none, 0, 1, 0, 1, 0, []⟩
def AML_STAT_POLINV : Field := ⟨0x48, 8, 2, .ro, .none, 0, 1, 0, 1, 0, []⟩
def AML_STAT_SWAP : Field := ⟨0x48, 10, 1, .ro, .none, 0, 1, 0, 1, 0, []⟩
def AML_STAT_CHG : Field := ⟨0x48, 11, 1, .w1c, .none, 0, 1, 0, 1, 0, []⟩
def AML_STAT_SYNCMIS : Field := ⟨0x48, 12, 1, .w1c, .none, 0, 1, 0, 1, 0, []⟩
def AML_STAT_RETRYFAIL : Field := ⟨0x48, 13, 1, .w1c, .none, 0, 1, 0, 1, 0, []⟩
def AML_VER_MINOR : Field := ⟨0x4c, 0, 8, .ro, .none, 2, 1, 0, 1, 0, []⟩
def AML_VER_MAJOR : Field := ⟨0x4c, 8, 8, .ro, .none, 1, 1, 0, 1, 0, []⟩
def AML_PEER_CHIP : Field := ⟨0x50, 0, 4, .ro, .none, 0, 1, 0, 1, 0, []⟩
def AML_PEER_PMINOR : Field := ⟨0x50, 8, 8, .ro, .none, 0, 1, 0, 1, 0, []⟩
def AML_PEER_PMAJOR : Field := ⟨0x50, 16, 8, .ro, .none, 0, 1, 0, 1, 0, []⟩
def AML_NEG_MINOR : Field := ⟨0x54, 0, 8, .ro, .none, 0, 1, 0, 1, 0, []⟩
def AML_SKEW_SKEW : Field := ⟨0x58, 0, 16, .ro, .none, 0, 1, 0, 1, 0, []⟩

/-! ### BW (R422) -/

def BW_CTL_RUN : Field := ⟨0x40, 0, 1, .rw, .live, 0, 1, 0, 1, 0, []⟩
def BW_CTL_UBAR : Field := ⟨0x40, 1, 1, .rw, .quiet, 0, 1, 0, 1, 0, []⟩
def BW_RESETVEC_VEC : Field := ⟨0x44, 0, 32, .rw, .quiet, 0, 1, 0, 1, 0, []⟩
def BW_TMASK_LEVELS : Field := ⟨0x48, 0, 8, .rw, .live, 0xff, 1, 0, 1, 0, []⟩
def BW_SMASK_SITES : Field := ⟨0x4c, 0, 32, .rw, .live, 0xffffffff, 1, 0, 1, 0, []⟩
def BW_IBUF_ADDR : Field := ⟨0x50, 0, 18, .rw, .live, 0x3ffe0, 1, 0, 1, 0, []⟩
def BW_DOOR_DOOR : Field := ⟨0x54, 0, 32, .w1s, .none, 0, 1, 0, 1, 0, []⟩
def BW_DOORCLR_CLR : Field := ⟨0x58, 0, 32, .wo, .none, 0, 1, 0, 1, 0, []⟩
def BW_IE_DOOR : Field := ⟨0x5c, 0, 1, .rw, .live, 0, 1, 0, 1, 0, []⟩
def BW_IE_ITEM : Field := ⟨0x5c, 1, 1, .rw, .live, 0, 1, 0, 1, 0, []⟩
def BW_IE_FAULT : Field := ⟨0x5c, 2, 1, .rw, .live, 0, 1, 0, 1, 0, []⟩
def BW_HWINL_BASE : Field := ⟨0x60, 31, 1, .rw, .live, 0, 1, 0, 1, 0, []⟩
def BW_HWINH_BASE : Field := ⟨0x64, 0, 32, .rw, .live, 0, 1, 0, 1, 0, []⟩
def BW_DWIN_GIB : Field := ⟨0x68, 0, 6, .rw, .live, 0, 1, 0, 1, 0, []⟩
def BW_STAT_RESET : Field := ⟨0x6c, 0, 1, .ro, .none, 1, 1, 0, 1, 0, []⟩
def BW_STAT_TAKING : Field := ⟨0x6c, 1, 1, .ro, .none, 0, 1, 0, 1, 0, []⟩
def BW_STAT_UE : Field := ⟨0x6c, 2, 1, .w1c, .none, 0, 1, 0, 1, 0, []⟩
def BW_PC_PC : Field := ⟨0x70, 0, 32, .ro, .none, 0, 1, 0, 1, 0, []⟩
def BW_CECNT_CNT : Field := ⟨0x74, 0, 16, .rc, .none, 0, 1, 0, 1, 0, []⟩

/-! ### DDR (R468) -/

def DDR_CFG_MAP : Field := ⟨0x40, 0, 2, .rw, .quiet, 3, 1, 0, 1, 0, []⟩
def DDR_CFG_SCEN : Field := ⟨0x40, 4, 4, .rw, .quiet, 0xf, 1, 0, 1, 0, []⟩
def DDR_SIZE_SIZE : Field := ⟨0x44, 0, 17, .ro, .none, 0, 1, 0, 1, 0, []⟩
def DDR_SUM_FROZEN : Field := ⟨0x48, 0, 4, .ro, .none, 0, 1, 0, 1, 0, []⟩
def DDR_SUM_SELFREF : Field := ⟨0x48, 4, 4, .ro, .none, 0, 1, 0, 1, 0, []⟩
def DDR_SUM_READY : Field := ⟨0x48, 8, 4, .ro, .none, 0, 1, 0, 1, 0, []⟩

/-! ### DC (R468) -/

def DC_CFG_WIDTH : Field := ⟨0x40, 0, 1, .rw, .quiet, 0, 1, 0, 1, 0, []⟩
def DC_CFG_DENS : Field := ⟨0x40, 1, 2, .rw, .quiet, 0, 1, 0, 1, 0, [(0, 1)]⟩
def DC_CFG_RANKS : Field := ⟨0x40, 3, 1, .rw, .quiet, 0, 1, 0, 1, 0, []⟩
def DC_CFG_RATE : Field := ⟨0x40, 4, 2, .rw, .quiet, 2, 1, 0, 1, 0, [(0, 2)]⟩
def DC_CTL_TRAIN : Field := ⟨0x44, 0, 1, .w1s, .none, 0, 1, 0, 1, 0, []⟩
def DC_CTL_SRE : Field := ⟨0x44, 1, 1, .w1s, .none, 0, 1, 0, 1, 0, []⟩
def DC_CTL_SRX : Field := ⟨0x44, 2, 1, .w1s, .none, 0, 1, 0, 1, 0, []⟩
def DC_CTL_UNFREEZE : Field := ⟨0x44, 3, 1, .w1s, .none, 0, 1, 0, 1, 0, []⟩
def DC_STAT_STATE : Field := ⟨0x48, 0, 3, .ro, .none, 0, 1, 0, 1, 0, []⟩
def DC_STAT_HOT : Field := ⟨0x48, 3, 1, .ro, .none, 0, 1, 0, 1, 0, []⟩
def DC_STAT_LIMIT : Field := ⟨0x48, 4, 1, .w1c, .none, 0, 1, 0, 1, 0, []⟩
def DC_STAT_CE : Field := ⟨0x48, 5, 1, .w1c, .none, 0, 1, 0, 1, 0, []⟩
def DC_STAT_UE : Field := ⟨0x48, 6, 1, .w1c, .none, 0, 1, 0, 1, 0, []⟩
def DC_STAT_ALERT : Field := ⟨0x48, 7, 1, .w1c, .none, 0, 1, 0, 1, 0, []⟩
def DC_STAT_CMDERR : Field := ⟨0x48, 8, 1, .w1c, .none, 0, 1, 0, 1, 0, []⟩
def DC_STAT_SRRETRAIN : Field := ⟨0x48, 9, 1, .w1c, .none, 0, 1, 0, 1, 0, []⟩
def DC_STAT_TRFAIL : Field := ⟨0x48, 10, 1, .w1c, .none, 0, 1, 0, 1, 0, []⟩
def DC_REF_DEBT : Field := ⟨0x4c, 0, 5, .ro, .none, 0, 1, 0, 1, 0, []⟩
def DC_REF_RATE : Field := ⟨0x4c, 5, 1, .ro, .none, 0, 1, 0, 1, 0, []⟩
def DC_REF_MR4 : Field := ⟨0x4c, 8, 3, .ro, .none, 0, 1, 0, 1, 0, []⟩
def DC_MR4PER_PER : Field := ⟨0x50, 0, 14, .rw, .live, 0x3e8, 1, 0, 1, 0, [(32, 16000)]⟩
def DC_TRQ_RDEYE : Field := ⟨0x54, 0, 8, .ro, .none, 0, 1, 0, 1, 0, []⟩
def DC_TRQ_WREYE : Field := ⟨0x54, 8, 8, .ro, .none, 0, 1, 0, 1, 0, []⟩
def DC_TRQ_VMARG : Field := ⟨0x54, 16, 8, .ro, .none, 0, 1, 0, 1, 0, []⟩
def DC_TRQ_REASON : Field := ⟨0x54, 24, 4, .ro, .none, 0, 1, 0, 1, 0, []⟩
def DC_CEADDRL_CEADDR : Field := ⟨0x58, 0, 32, .ro, .none, 0, 1, 0, 1, 0, []⟩
def DC_CEADDRH_CEADDR : Field := ⟨0x5c, 0, 4, .ro, .none, 0, 1, 0, 1, 0, []⟩
def DC_UEADDRL_UEADDR : Field := ⟨0x60, 0, 32, .ro, .none, 0, 1, 0, 1, 0, []⟩
def DC_UEADDRH_UEADDR : Field := ⟨0x64, 0, 4, .ro, .none, 0, 1, 0, 1, 0, []⟩
def DC_UESYN_SYN : Field := ⟨0x68, 0, 8, .ro, .none, 0, 1, 0, 1, 0, []⟩
def DC_UESYN_BEAT : Field := ⟨0x68, 8, 4, .ro, .none, 0, 1, 0, 1, 0, []⟩
def DC_UESYN_CAUSE : Field := ⟨0x68, 12, 2, .ro, .none, 0, 1, 0, 1, 0, []⟩
def DC_UESYN_CLASS : Field := ⟨0x68, 16, 3, .ro, .none, 0, 1, 0, 1, 0, []⟩
def DC_FRZTS0_FRZTS : Field := ⟨0x6c, 0, 32, .ro, .none, 0, 1, 0, 1, 0, []⟩
def DC_FRZTS1_FRZTS : Field := ⟨0x70, 0, 32, .ro, .none, 0, 1, 0, 1, 0, []⟩
def DC_FRZTS2_FRZTS : Field := ⟨0x74, 0, 32, .ro, .none, 0, 1, 0, 1, 0, []⟩
def DC_DLY_RDLY : Field := ⟨0x100, 0, 8, .rw, .quiet, 0, 2, 0x100, 40, 4, []⟩
def DC_DLY_WDLY : Field := ⟨0x100, 8, 8, .rw, .quiet, 0, 2, 0x100, 40, 4, []⟩

/-! ### QDR (R468) -/

def QDR_CFG_QAEN : Field := ⟨0x40, 0, 1, .rw, .quiet, 1, 1, 0, 1, 0, []⟩
def QDR_CFG_QBEN : Field := ⟨0x40, 1, 1, .rw, .quiet, 0, 1, 0, 1, 0, []⟩
def QDR_CFG_QASZ : Field := ⟨0x40, 2, 1, .rw, .quiet, 1, 1, 0, 1, 0, []⟩
def QDR_CFG_QBSZ : Field := ⟨0x40, 3, 1, .rw, .quiet, 1, 1, 0, 1, 0, []⟩
def QDR_CFG_FREQ : Field := ⟨0x40, 4, 2, .rw, .quiet, 2, 1, 0, 1, 0, [(0, 2)]⟩
def QDR_CFG_DINV : Field := ⟨0x40, 6, 1, .rw, .quiet, 0, 1, 0, 1, 0, []⟩
def QDR_CTL_TRAIN : Field := ⟨0x44, 0, 1, .w1s, .none, 0, 1, 0, 1, 0, []⟩
def QDR_STAT_QARDY : Field := ⟨0x48, 0, 1, .ro, .none, 0, 1, 0, 1, 0, []⟩
def QDR_STAT_QBRDY : Field := ⟨0x48, 1, 1, .ro, .none, 0, 1, 0, 1, 0, []⟩
def QDR_STAT_PERR : Field := ⟨0x48, 2, 1, .w1c, .none, 0, 1, 0, 1, 0, []⟩
def QDR_STAT_APERR : Field := ⟨0x48, 3, 1, .w1c, .none, 0, 1, 0, 1, 0, []⟩
def QDR_STAT_TRFAIL : Field := ⟨0x48, 4, 1, .w1c, .none, 0, 1, 0, 1, 0, []⟩
def QDR_ERRADDR_PAIR : Field := ⟨0x4c, 0, 21, .ro, .none, 0, 1, 0, 1, 0, []⟩
def QDR_ERRADDR_PORT : Field := ⟨0x4c, 24, 1, .ro, .none, 0, 1, 0, 1, 0, []⟩
def QDR_TRQ_QAEYE : Field := ⟨0x50, 0, 8, .ro, .none, 0, 1, 0, 1, 0, []⟩
def QDR_TRQ_QBEYE : Field := ⟨0x50, 8, 8, .ro, .none, 0, 1, 0, 1, 0, []⟩

/-! ### AS (R292) -/

def AS_CFG_OWNER : Field := ⟨0x40, 0, 2, .rw, .quiet, 0, 1, 0, 1, 0, []⟩
def AS_CFG_STARTMODE : Field := ⟨0x40, 2, 1, .rw, .quiet, 0, 1, 0, 1, 0, []⟩
def AS_SC_CTL_RUN : Field := ⟨0x44, 0, 1, .w1s, .none, 0, 1, 0, 1, 0, []⟩
def AS_SC_CTL_STOP : Field := ⟨0x44, 1, 1, .w1s, .none, 0, 1, 0, 1, 0, []⟩
def AS_SC_IN_INSEL : Field := ⟨0x48, 0, 6, .rw, .quiet, 0, 1, 0, 1, 0, [(0, 33)]⟩
def AS_SC_IN_CTR : Field := ⟨0x48, 8, 1, .rw, .quiet, 0, 1, 0, 1, 0, []⟩
def AS_SC_IN_DEC : Field := ⟨0x48, 16, 4, .rw, .quiet, 0, 1, 0, 1, 0, []⟩
def AS_SC_IN_STOPFULL : Field := ⟨0x48, 24, 1, .rw, .quiet, 0, 1, 0, 1, 0, []⟩
def AS_SC_BASEL_BASE : Field := ⟨0x4c, 0, 32, .rw, .quiet, 0, 1, 0, 1, 0, []⟩
def AS_SC_BASEH_BASE : Field := ⟨0x50, 0, 32, .rw, .quiet, 0, 1, 0, 1, 0, []⟩
def AS_SC_SIZE_SIZE : Field := ⟨0x54, 0, 17, .rw, .quiet, 1, 1, 0, 1, 0, [(1, 65536)]⟩
def AS_SC_WPTR_WPTR : Field := ⟨0x58, 0, 28, .ro, .none, 0, 1, 0, 1, 0, []⟩
def AS_SC_WRAP_WRAP : Field := ⟨0x5c, 0, 32, .ro, .none, 0, 1, 0, 1, 0, []⟩
def AS_SC_TS0_TS : Field := ⟨0x60, 0, 32, .ro, .none, 0, 1, 0, 1, 0, []⟩
def AS_SC_TS1_TS : Field := ⟨0x64, 0, 32, .ro, .none, 0, 1, 0, 1, 0, []⟩
def AS_SC_TS2_TS : Field := ⟨0x68, 0, 32, .ro, .none, 0, 1, 0, 1, 0, []⟩
def AS_SC_LOST_LOST : Field := ⟨0x6c, 0, 32, .rc, .none, 0, 1, 0, 1, 0, []⟩
def AS_SC_GAPL_GAP : Field := ⟨0x70, 0, 32, .ro, .none, 0, 1, 0, 1, 0, []⟩
def AS_SC_GAPH_GAP : Field := ⟨0x74, 0, 16, .ro, .none, 0, 1, 0, 1, 0, []⟩
def AS_URG_INSEL : Field := ⟨0x80, 0, 6, .rw, .live, 0, 2, 0x10, 1, 0, [(0, 34)]⟩
def AS_URG_CTR : Field := ⟨0x80, 8, 1, .rw, .live, 0, 2, 0x10, 1, 0, []⟩
def AS_URG_AVG : Field := ⟨0x80, 16, 4, .rw, .live, 0, 2, 0x10, 1, 0, [(0, 8)]⟩
def AS_URG_SHIFT : Field := ⟨0x80, 20, 4, .rw, .live, 0, 2, 0x10, 1, 0, [(0, 8)]⟩
def AS_URG_GO : Field := ⟨0x80, 31, 1, .w1s, .none, 0, 2, 0x10, 1, 0, []⟩
def AS_USET_SETTLE : Field := ⟨0x84, 0, 20, .rw, .live, 0, 2, 0x10, 1, 0, []⟩
def AS_URES_RESULT : Field := ⟨0x88, 0, 24, .ro, .none, 0, 2, 0x10, 1, 0, []⟩
def AS_URES_OVR : Field := ⟨0x88, 24, 1, .ro, .none, 0, 2, 0x10, 1, 0, []⟩
def AS_URES_SUSPECT : Field := ⟨0x88, 25, 1, .ro, .none, 0, 2, 0x10, 1, 0, []⟩
def AS_URES_STAT : Field := ⟨0x88, 28, 3, .ro, .none, 0, 2, 0x10, 1, 0, []⟩
def AS_URES_DRP : Field := ⟨0x88, 31, 1, .w1c, .none, 0, 2, 0x10, 1, 0, []⟩
def AS_DROP_DROP : Field := ⟨0xa0, 0, 16, .rc, .none, 0, 1, 0, 1, 0, []⟩
def AS_STAT_ACT : Field := ⟨0xa4, 0, 2, .ro, .none, 0, 1, 0, 1, 0, []⟩
def AS_STAT_URG : Field := ⟨0xa4, 2, 1, .ro, .none, 0, 1, 0, 1, 0, []⟩
def AS_STAT_GAP : Field := ⟨0xa4, 3, 1, .w1c, .none, 0, 1, 0, 1, 0, []⟩
def AS_STAT_OVR : Field := ⟨0xa4, 4, 1, .w1c, .none, 0, 1, 0, 1, 0, []⟩
def AS_STAT_SECONDARY : Field := ⟨0xa4, 5, 1, .ro, .none, 0, 1, 0, 1, 0, []⟩
def AS_SKEW_SKEW : Field := ⟨0xc8, 0, 9, .rw, .quiet, 0, 1, 0, 1, 0, []⟩
def AS_CALA_OFS : Field := ⟨0xc0, 0, 16, .rw, .quiet, 0, 1, 0, 1, 0, []⟩
def AS_CALB_GAIN : Field := ⟨0xc4, 0, 18, .rw, .quiet, 0x20000, 1, 0, 1, 0, [(98304, 163839)]⟩

/-! ### ASCAN (R292) -/

def ASCAN_CTL_START : Field := ⟨0x40, 0, 1, .w1s, .none, 0, 1, 0, 1, 0, []⟩
def ASCAN_CTL_ABORT : Field := ⟨0x40, 1, 1, .w1s, .none, 0, 1, 0, 1, 0, []⟩
def ASCAN_CFG_LAST : Field := ⟨0x44, 0, 6, .rw, .staged, 0, 1, 0, 1, 0, []⟩
def ASCAN_CFG_SSRC : Field := ⟨0x44, 8, 5, .rw, .staged, 0, 1, 0, 1, 0, [(0, 5), (16, 31)]⟩
def ASCAN_CFG_WI : Field := ⟨0x44, 13, 1, .rw, .staged, 0, 1, 0, 1, 0, []⟩
def ASCAN_CFG_PL : Field := ⟨0x44, 16, 3, .rw, .staged, 0, 1, 0, 1, 0, []⟩
def ASCAN_PER_PER : Field := ⟨0x48, 0, 32, .rw, .staged, 0x5dc, 1, 0, 1, 0, [(1500, 4294967295)]⟩
def ASCAN_ABUS_OWN : Field := ⟨0x4c, 0, 8, .rw, .quiet, 0, 1, 0, 1, 0, []⟩
def ASCAN_QBASEL_QBASE : Field := ⟨0x50, 0, 32, .rw, .quiet, 0, 1, 0, 1, 0, []⟩
def ASCAN_QBASEH_QBASE : Field := ⟨0x54, 0, 32, .rw, .quiet, 0, 1, 0, 1, 0, []⟩
def ASCAN_QSIZE_QSIZE : Field := ⟨0x58, 0, 25, .rw, .quiet, 0x40, 1, 0, 1, 0, [(64, 16777216)]⟩
def ASCAN_QPROD_PROD : Field := ⟨0x5c, 0, 24, .ro, .none, 0, 1, 0, 1, 0, []⟩
def ASCAN_QCONS_CONS : Field := ⟨0x60, 0, 24, .rw, .live, 0, 1, 0, 1, 0, []⟩
def ASCAN_STAT_RUN : Field := ⟨0x64, 0, 1, .ro, .none, 0, 1, 0, 1, 0, []⟩
def ASCAN_STAT_CFGERR : Field := ⟨0x64, 1, 1, .w1c, .none, 0, 1, 0, 1, 0, []⟩
def ASCAN_STAT_QWAIT : Field := ⟨0x64, 2, 1, .w1c, .none, 0, 1, 0, 1, 0, []⟩
def ASCAN_STAT_ABORTED : Field := ⟨0x64, 3, 1, .w1c, .none, 0, 1, 0, 1, 0, []⟩
def ASCAN_STAT_HELD : Field := ⟨0x64, 4, 1, .ro, .none, 0, 1, 0, 1, 0, []⟩
def ASCAN_STAT_DELAYED : Field := ⟨0x64, 5, 1, .w1c, .none, 0, 1, 0, 1, 0, []⟩
def ASCAN_SDROP_SDROP : Field := ⟨0x68, 0, 16, .rc, .none, 0, 1, 0, 1, 0, []⟩
def ASCAN_WDROP_WDROP : Field := ⟨0x6c, 0, 16, .rc, .none, 0, 1, 0, 1, 0, []⟩
def ASCAN_SCANNO_SCANNO : Field := ⟨0x70, 0, 16, .ro, .none, 0, 1, 0, 1, 0, []⟩
def AREF_CTL_SRC : Field := ⟨0x80, 0, 2, .rw, .quiet, 0, 1, 0, 1, 0, [(0, 2)]⟩
def AREF_STAT_ACTIVE : Field := ⟨0x84, 0, 2, .ro, .none, 0, 1, 0, 1, 0, []⟩
def AREF_STAT_SETTLED : Field := ⟨0x84, 2, 1, .ro, .none, 0, 1, 0, 1, 0, []⟩
def AREF_STAT_EXTBAD : Field := ⟨0x84, 3, 1, .w1c, .none, 0, 1, 0, 1, 0, []⟩
def AIN_CFG_TERM : Field := ⟨0x88, 0, 8, .rw, .quiet, 0, 1, 0, 1, 0, []⟩
def ILV_CTL_MODE : Field := ⟨0x8c, 0, 3, .rw, .quiet, 0, 1, 0, 1, 0, [(0, 4)]⟩
def ILV_CTL_PIN0 : Field := ⟨0x8c, 4, 2, .rw, .quiet, 0, 1, 0, 1, 0, []⟩
def ILV_CTL_PIN1 : Field := ⟨0x8c, 8, 2, .rw, .quiet, 0, 1, 0, 1, 0, []⟩
def ASYS_OFS_OFS : Field := ⟨0x100, 0, 16, .rw, .quiet, 0, 16, 8, 1, 0, []⟩
def ASYS_GAIN_GAIN : Field := ⟨0x104, 0, 18, .rw, .quiet, 0x20000, 16, 8, 1, 0, [(98304, 163839)]⟩
def ASL_SEL_INSEL : Field := ⟨0x200, 0, 6, .rw, .staged, 0, 64, 0x10, 1, 0, [(0, 34)]⟩
def ASL_SEL_CTR : Field := ⟨0x200, 8, 1, .rw, .staged, 0, 64, 0x10, 1, 0, []⟩
def ASL_SEL_PAR : Field := ⟨0x200, 9, 1, .rw, .staged, 0, 64, 0x10, 1, 0, []⟩
def ASL_SEL_SLICE : Field := ⟨0x200, 10, 2, .rw, .staged, 0, 64, 0x10, 1, 0, []⟩
def ASL_SEL_CHAN : Field := ⟨0x200, 16, 9, .rw, .staged, 0, 64, 0x10, 1, 0, [(0, 319)]⟩
def ASL_SET_SETTLE : Field := ⟨0x204, 0, 20, .rw, .staged, 0, 64, 0x10, 1, 0, []⟩
def ASL_AVG_AVG : Field := ⟨0x208, 0, 4, .rw, .staged, 0, 64, 0x10, 1, 0, [(0, 8)]⟩
def ASL_AVG_SHIFT : Field := ⟨0x208, 8, 4, .rw, .staged, 0, 64, 0x10, 1, 0, [(0, 8)]⟩

/-! ### ACQ (R315) -/

def ACQ_CTL_ARM : Field := ⟨0x40, 0, 1, .w1s, .none, 0, 1, 0, 1, 0, []⟩
def ACQ_CTL_STOP : Field := ⟨0x40, 1, 1, .w1s, .none, 0, 1, 0, 1, 0, []⟩
def ACQ_CTL_ABORT : Field := ⟨0x40, 2, 1, .w1s, .none, 0, 1, 0, 1, 0, []⟩
def ACQ_CTL_FORCE : Field := ⟨0x40, 3, 1, .w1s, .none, 0, 1, 0, 1, 0, []⟩
def ACQ_CTL_PREFULL : Field := ⟨0x40, 8, 1, .rw, .staged, 0, 1, 0, 1, 0, []⟩
def ACQ_CFG_SEN : Field := ⟨0x44, 0, 4, .rw, .quiet, 0, 1, 0, 1, 0, []⟩
def ACQ_CFG_REARM : Field := ⟨0x44, 4, 1, .rw, .staged, 0, 1, 0, 1, 0, []⟩
def ACQ_CFG_WI : Field := ⟨0x44, 5, 1, .rw, .staged, 0, 1, 0, 1, 0, []⟩
def ACQ_CFG_PL : Field := ⟨0x44, 8, 3, .rw, .staged, 0, 1, 0, 1, 0, []⟩
def ACQ_CFG_MEAS : Field := ⟨0x44, 11, 1, .rw, .staged, 0, 1, 0, 1, 0, []⟩
def ACQ_PRE_PRE : Field := ⟨0x48, 0, 23, .rw, .staged, 0, 1, 0, 1, 0, [(0, 4194304)]⟩
def ACQ_POST_POST : Field := ⟨0x4c, 0, 23, .rw, .staged, 1, 1, 0, 1, 0, [(1, 4194304)]⟩
def ACQ_DEC_D : Field := ⟨0x50, 0, 13, .rw, .staged, 1, 1, 0, 1, 0, [(1, 4096)]⟩
def ACQ_NREC_NREC : Field := ⟨0x54, 0, 16, .rw, .staged, 0, 1, 0, 1, 0, []⟩
def ACQ_STAT_STATE : Field := ⟨0x58, 0, 3, .ro, .none, 0, 1, 0, 1, 0, []⟩
def ACQ_STAT_REASON : Field := ⟨0x58, 4, 4, .ro, .none, 0, 1, 0, 1, 0, []⟩
def ACQ_STAT_CFGERR : Field := ⟨0x58, 8, 1, .w1c, .none, 0, 1, 0, 1, 0, []⟩
def ACQ_STAT_OVFL : Field := ⟨0x58, 9, 1, .w1c, .none, 0, 1, 0, 1, 0, []⟩
def ACQ_STAT_HELD : Field := ⟨0x58, 10, 1, .ro, .none, 0, 1, 0, 1, 0, []⟩
def ACQ_STAT_MEMWAIT : Field := ⟨0x58, 11, 1, .ro, .none, 0, 1, 0, 1, 0, []⟩
def ACQ_TSTAT_FIRED : Field := ⟨0x5c, 0, 4, .ro, .none, 0, 1, 0, 1, 0, []⟩
def ACQ_TSTAT_TUNIT : Field := ⟨0x5c, 4, 2, .ro, .none, 0, 1, 0, 1, 0, []⟩
def ACQ_TIDXL_TIDX : Field := ⟨0x60, 0, 32, .ro, .none, 0, 1, 0, 1, 0, []⟩
def ACQ_TIDXH_TIDX : Field := ⟨0x64, 0, 16, .ro, .none, 0, 1, 0, 1, 0, []⟩
def ACQ_MISSED_MISSED : Field := ⟨0x68, 0, 32, .rc, .none, 0, 1, 0, 1, 0, []⟩
def ACQ_PREIGN_PREIGN : Field := ⟨0x6c, 0, 32, .rc, .none, 0, 1, 0, 1, 0, []⟩
def ACQ_WDROP_WDROP : Field := ⟨0x70, 0, 16, .rc, .none, 0, 1, 0, 1, 0, []⟩
def ACQ_RDONE_RDONE : Field := ⟨0x74, 0, 16, .ro, .none, 0, 1, 0, 1, 0, []⟩
def ACQ_RCONS_RCONS : Field := ⟨0x78, 0, 16, .rw, .live, 0, 1, 0, 1, 0, []⟩
def ACQ_WIN_HALF : Field := ⟨0x7c, 0, 1, .rw, .live, 0, 1, 0, 1, 0, []⟩
def ACQ_TSEL_SRC : Field := ⟨0x80, 0, 8, .rw, .staged, 0, 4, 0x10, 1, 0, [(0, 4), (8, 8), (16, 19), (32, 64), (80, 95), (96, 96)]⟩
def ACQ_TANA_LEVEL : Field := ⟨0x84, 0, 16, .rw, .staged, 0, 4, 0x10, 1, 0, [(0, 8191), (57344, 65535)]⟩
def ACQ_TANA_HYST : Field := ⟨0x84, 16, 10, .rw, .staged, 0, 4, 0x10, 1, 0, []⟩
def ACQ_TANA_SLOPE : Field := ⟨0x84, 28, 2, .rw, .staged, 0, 4, 0x10, 1, 0, [(0, 2)]⟩
def ACQ_PVAL0_VAL : Field := ⟨0xc0, 0, 32, .rw, .staged, 0, 1, 0, 1, 0, []⟩
def ACQ_PVAL1_VAL : Field := ⟨0xc4, 0, 32, .rw, .staged, 0, 1, 0, 1, 0, []⟩
def ACQ_PCARE0_CARE : Field := ⟨0xc8, 0, 32, .rw, .staged, 0, 1, 0, 1, 0, []⟩
def ACQ_PCARE1_CARE : Field := ⟨0xcc, 0, 32, .rw, .staged, 0, 1, 0, 1, 0, []⟩
def ACQ_SIN_INSEL : Field := ⟨0xd0, 0, 6, .rw, .quiet, 0, 4, 4, 1, 0, [(0, 33)]⟩
def ACQ_SIN_CTR : Field := ⟨0xd0, 8, 1, .rw, .quiet, 0, 4, 4, 1, 0, []⟩
def ACQ_PSEL_CHAN : Field := ⟨0x100, 0, 9, .rw, .staged, 0, 64, 4, 1, 0, [(0, 319)]⟩
def ACQ_PSEL_STATE : Field := ⟨0x100, 9, 2, .rw, .staged, 0, 64, 4, 1, 0, [(0, 2)]⟩

/-! ### SQ (R158, R159) -/

def SQ_TPER_PER : Field := ⟨0x8000, 0, 32, .rw, .staged, 0xc00, 64, 4, 1, 0, [(512, 4294967295)]⟩
def SQ_CTL_START : Field := ⟨0x40, 0, 1, .w1s, .none, 0, 1, 0, 1, 0, []⟩
def SQ_CTL_PAUSE : Field := ⟨0x40, 1, 1, .w1s, .none, 0, 1, 0, 1, 0, []⟩
def SQ_CTL_RESUME : Field := ⟨0x40, 2, 1, .w1s, .none, 0, 1, 0, 1, 0, []⟩
def SQ_CTL_ABORT : Field := ⟨0x40, 3, 1, .w1s, .none, 0, 1, 0, 1, 0, []⟩
def SQ_CTL_HTRIG : Field := ⟨0x40, 4, 1, .w1s, .none, 0, 1, 0, 1, 0, []⟩
def SQ_CFG_STARTMODE : Field := ⟨0x44, 0, 1, .rw, .quiet, 0, 1, 0, 1, 0, []⟩
def SQ_CFG_UPOL : Field := ⟨0x44, 1, 1, .rw, .staged, 0, 1, 0, 1, 0, []⟩
def SQ_CFG_HOLDPAUSE : Field := ⟨0x44, 2, 1, .rw, .live, 0, 1, 0, 1, 0, []⟩
def SQ_PBASE_ADDR : Field := ⟨0x48, 0, 24, .rw, .quiet, 0, 1, 0, 1, 0, []⟩
def SQ_START_ADDR : Field := ⟨0x4c, 0, 24, .rw, .quiet, 0, 1, 0, 1, 0, []⟩
def SQ_LLAT_L : Field := ⟨0x50, 0, 16, .rw, .quiet, 0xff, 1, 0, 1, 0, [(1, 65535)]⟩
def SQ_TLOOP_T : Field := ⟨0x54, 0, 32, .ro, .none, 0xc000, 1, 0, 1, 0, []⟩
def SQ_KEEPA_CODE : Field := ⟨0x58, 0, 2, .rw, .staged, 0, 1, 0, 1, 0, []⟩
def SQ_HJMP_TARGET : Field := ⟨0x5c, 0, 24, .wo, .none, 0, 1, 0, 1, 0, []⟩
def SQ_JSTAT_PEND : Field := ⟨0x60, 0, 1, .ro, .none, 0, 1, 0, 1, 0, []⟩
def SQ_JSTAT_APPLIED : Field := ⟨0x60, 1, 1, .w1c, .none, 0, 1, 0, 1, 0, []⟩
def SQ_JSTAT_DEFER : Field := ⟨0x60, 2, 1, .w1c, .none, 0, 1, 0, 1, 0, []⟩
def SQ_JSTAT_OVR : Field := ⟨0x60, 3, 1, .w1c, .none, 0, 1, 0, 1, 0, []⟩
def SQ_JSTAT_REPL : Field := ⟨0x60, 4, 1, .w1c, .none, 0, 1, 0, 1, 0, []⟩
def SQ_JSTAT_REFUSED : Field := ⟨0x60, 5, 1, .w1c, .none, 0, 1, 0, 1, 0, []⟩
def SQ_JVEC_VEC : Field := ⟨0x64, 0, 32, .ro, .none, 0, 1, 0, 1, 0, []⟩
def SQ_STAT_STATE : Field := ⟨0x68, 0, 3, .ro, .none, 0, 1, 0, 1, 0, []⟩
def SQ_STAT_FS : Field := ⟨0x68, 3, 1, .ro, .none, 0, 1, 0, 1, 0, []⟩
def SQ_STAT_HELD : Field := ⟨0x68, 4, 1, .ro, .none, 0, 1, 0, 1, 0, []⟩
def SQ_STAT_SREF : Field := ⟨0x68, 5, 1, .w1c, .none, 0, 1, 0, 1, 0, []⟩
def SQ_STAT_KEEPING : Field := ⟨0x68, 6, 1, .ro, .none, 0, 1, 0, 1, 0, []⟩
def SQ_STAT_LDEPTH : Field := ⟨0x68, 8, 4, .ro, .none, 0, 1, 0, 1, 0, []⟩
def SQ_STAT_CDEPTH : Field := ⟨0x68, 12, 5, .ro, .none, 0, 1, 0, 1, 0, []⟩
def SQ_CAUSE_CAUSE : Field := ⟨0x6c, 0, 8, .ro, .none, 0, 1, 0, 1, 0, []⟩
def SQ_CAUSE_ALSO : Field := ⟨0x6c, 8, 1, .ro, .none, 0, 1, 0, 1, 0, []⟩
def SQ_CAUSE_CODE : Field := ⟨0x6c, 16, 16, .ro, .none, 0, 1, 0, 1, 0, []⟩
def SQ_PC_ADDR : Field := ⟨0x70, 0, 24, .ro, .none, 0, 1, 0, 1, 0, []⟩
def SQ_VECL_VEC : Field := ⟨0x74, 0, 32, .ro, .none, 0, 1, 0, 1, 0, []⟩
def SQ_VECH_VEC : Field := ⟨0x78, 0, 16, .ro, .none, 0, 1, 0, 1, 0, []⟩
def SQ_ENDTS0_TS : Field := ⟨0x7c, 0, 32, .ro, .none, 0, 1, 0, 1, 0, []⟩
def SQ_ENDTS1_TS : Field := ⟨0x80, 0, 32, .ro, .none, 0, 1, 0, 1, 0, []⟩
def SQ_ENDTS2_TS : Field := ⟨0x84, 0, 32, .ro, .none, 0, 1, 0, 1, 0, []⟩
def SQ_MSTAT_PASSES : Field := ⟨0x88, 0, 25, .ro, .none, 0, 1, 0, 1, 0, []⟩
def SQ_MSTAT_TO : Field := ⟨0x88, 25, 1, .ro, .none, 0, 1, 0, 1, 0, []⟩
def SQ_MDROP_CNT : Field := ⟨0x8c, 0, 16, .rc, .none, 0, 1, 0, 1, 0, []⟩

/-! ### GRAN (R226) -/

def GRAN_CFG_ILV : Field := ⟨0x40, 0, 1, .rw, .quiet, 0, 1, 0, 1, 0, []⟩
def GRAN_CFG_PSIZE : Field := ⟨0x40, 8, 10, .rw, .quiet, 0x40, 1, 0, 1, 0, [(1, 767)]⟩
def GRAN_STAT_UE : Field := ⟨0x44, 0, 1, .w1c, .none, 0, 1, 0, 1, 0, []⟩
def GRAN_STAT_SCRUBE : Field := ⟨0x44, 1, 1, .w1c, .none, 0, 1, 0, 1, 0, []⟩
def GRAN_STAT_WDROP : Field := ⟨0x44, 2, 1, .w1c, .none, 0, 1, 0, 1, 0, []⟩
def GRAN_CECNT_CNT : Field := ⟨0x48, 0, 32, .rc, .none, 0, 1, 0, 1, 0, []⟩
def GRAN_UEADDR_ADDR : Field := ⟨0x4c, 0, 21, .ro, .none, 0, 1, 0, 1, 0, []⟩
def GRAN_VBASE_BASE : Field := ⟨0x100, 0, 21, .rw, .quiet, 0, 32, 8, 1, 0, []⟩
def GRAN_VTILES_TILES : Field := ⟨0x104, 0, 20, .rw, .quiet, 0, 32, 8, 1, 0, []⟩

/-! ### HOP (R227) -/

def HOP_CFG_SRC : Field := ⟨0x100, 0, 1, .rw, .quiet, 0, 32, 0x80, 1, 0, []⟩
def HOP_CFG_KEYEN : Field := ⟨0x100, 8, 8, .rw, .quiet, 0, 32, 0x80, 1, 0, []⟩
def HOP_BASEL_BASEL : Field := ⟨0x104, 0, 32, .rw, .quiet, 0, 32, 0x80, 1, 0, []⟩
def HOP_BASEH_BASEH : Field := ⟨0x108, 0, 32, .rw, .quiet, 0, 32, 0x80, 1, 0, []⟩
def HOP_ITAB_ITAB : Field := ⟨0x10c, 0, 32, .rw, .quiet, 0, 32, 0x80, 1, 0, []⟩
def HOP_NBALE_NBALE : Field := ⟨0x110, 0, 32, .rw, .quiet, 0, 32, 0x80, 1, 0, []⟩
def HOP_THR_START : Field := ⟨0x114, 0, 7, .rw, .staged, 0x10, 32, 0x80, 1, 0, [(1, 64)]⟩
def HOP_THR_URGENT : Field := ⟨0x114, 8, 7, .rw, .staged, 8, 32, 0x80, 1, 0, [(0, 64)]⟩
def HOP_START_START : Field := ⟨0x118, 0, 32, .rw, .quiet, 0, 32, 0x80, 1, 0, []⟩
def HOP_HPROD_PROD : Field := ⟨0x11c, 0, 26, .rw, .live, 0, 32, 0x80, 1, 0, []⟩
def HOP_HCONS_CONS : Field := ⟨0x120, 0, 26, .ro, .none, 0, 32, 0x80, 1, 0, []⟩
def HOP_FILL_FILL : Field := ⟨0x124, 0, 17, .ro, .none, 0, 32, 0x80, 1, 0, []⟩
def HOP_RPOS_POS : Field := ⟨0x128, 0, 32, .ro, .none, 0, 32, 0x80, 1, 0, []⟩
def HOP_STAT_UNDER : Field := ⟨0x12c, 0, 1, .w1c, .none, 0, 32, 0x80, 1, 0, []⟩
def HOP_STAT_ERR : Field := ⟨0x12c, 1, 1, .w1c, .none, 0, 32, 0x80, 1, 0, []⟩
def HOP_STAT_DISC : Field := ⟨0x12c, 2, 1, .w1c, .none, 0, 32, 0x80, 1, 0, []⟩
def HOP_STAT_URG : Field := ⟨0x12c, 3, 1, .ro, .none, 0, 32, 0x80, 1, 0, []⟩
def HOP_STAT_FETCH : Field := ⟨0x12c, 4, 1, .ro, .none, 0, 32, 0x80, 1, 0, []⟩
def HOP_ERR_REASON : Field := ⟨0x130, 0, 4, .ro, .none, 0, 32, 0x80, 1, 0, []⟩
def HOP_ERR_LANE : Field := ⟨0x130, 16, 9, .ro, .none, 0, 32, 0x80, 1, 0, []⟩
def HOP_ERR_USED : Field := ⟨0x130, 31, 1, .ro, .none, 0, 32, 0x80, 1, 0, []⟩
def HOP_EBALE_EBALE : Field := ⟨0x134, 0, 32, .ro, .none, 0, 32, 0x80, 1, 0, []⟩
def HOP_EUNUSED_EUNUSED : Field := ⟨0x138, 0, 16, .rc, .none, 0, 32, 0x80, 1, 0, []⟩
def HOP_UVECL_VEC : Field := ⟨0x13c, 0, 32, .ro, .none, 0, 32, 0x80, 1, 0, []⟩
def HOP_UVECH_VEC : Field := ⟨0x140, 0, 16, .ro, .none, 0, 32, 0x80, 1, 0, []⟩
def HOP_UBALE_UBALE : Field := ⟨0x144, 0, 32, .ro, .none, 0, 32, 0x80, 1, 0, []⟩
def HOP_UOFF_UOFF : Field := ⟨0x148, 0, 12, .ro, .none, 0, 32, 0x80, 1, 0, []⟩
def HOP_UTS0_TS : Field := ⟨0x14c, 0, 32, .ro, .none, 0, 32, 0x80, 1, 0, []⟩
def HOP_UTS1_TS : Field := ⟨0x150, 0, 32, .ro, .none, 0, 32, 0x80, 1, 0, []⟩
def HOP_UTS2_TS : Field := ⟨0x154, 0, 32, .ro, .none, 0, 32, 0x80, 1, 0, []⟩
def HOP_KCNT_KCNT : Field := ⟨0x158, 0, 32, .rc, .none, 0, 32, 0x80, 1, 0, []⟩
def HOP_UCNT_UCNT : Field := ⟨0x15c, 0, 16, .rc, .none, 0, 32, 0x80, 1, 0, []⟩

/-! ### GRND (R219) -/

def GRND_DID_DID : Field := ⟨0x100, 0, 16, .rw, .quiet, 0, 32, 4, 1, 0, []⟩

/-! ### GLN (R258) -/

def GLN_PMASK_MASK : Field := ⟨0xc0, 0, 32, .rw, .staged, 0, 10, 4, 1, 0, []⟩
def GLN_FCL_FC : Field := ⟨0x1000, 0, 32, .ro, .none, 0, 320, 8, 1, 0, []⟩
def GLN_FCH_FC : Field := ⟨0x1004, 0, 16, .ro, .none, 0, 320, 8, 1, 0, []⟩
def GLN_BSCR_PINA : Field := ⟨0x2000, 0, 9, .rw, .quiet, 0, 32, 0x80, 28, 4, []⟩
def GLN_BSCR_INV : Field := ⟨0x2000, 13, 1, .rw, .quiet, 0, 32, 0x80, 28, 4, []⟩
def GLN_BSCR_SRC : Field := ⟨0x2000, 14, 2, .rw, .quiet, 0, 32, 0x80, 28, 4, [(0, 2)]⟩
def GLN_BSCR_PINB : Field := ⟨0x2000, 16, 9, .rw, .quiet, 0, 32, 0x80, 28, 4, []⟩
def GLN_BSCR_XEN : Field := ⟨0x2000, 25, 1, .rw, .quiet, 0, 32, 0x80, 28, 4, []⟩
def GLN_BIO_PIN0 : Field := ⟨0x3000, 0, 9, .rw, .quiet, 0, 32, 0x80, 32, 4, []⟩
def GLN_BIO_PIN1 : Field := ⟨0x3000, 16, 9, .rw, .quiet, 0, 32, 0x80, 32, 4, []⟩
def GLN_BIO_VALID0 : Field := ⟨0x3000, 15, 1, .rw, .quiet, 0, 32, 0x80, 32, 4, []⟩
def GLN_BIO_VALID1 : Field := ⟨0x3000, 31, 1, .rw, .quiet, 0, 32, 0x80, 32, 4, []⟩
def GLN_CFG_BMEN : Field := ⟨0x40, 0, 1, .rw, .quiet, 0, 1, 0, 1, 0, []⟩
def GLN_CFG_PORTS : Field := ⟨0x40, 1, 2, .rw, .quiet, 1, 1, 0, 1, 0, [(1, 2)]⟩
def GLN_STAT_RATE : Field := ⟨0x44, 0, 1, .w1c, .none, 0, 1, 0, 1, 0, []⟩
def GLN_STAT_BLOST : Field := ⟨0x44, 1, 1, .w1c, .none, 0, 1, 0, 1, 0, []⟩
def GLN_STAT_BPEND : Field := ⟨0x44, 2, 1, .ro, .none, 0, 1, 0, 1, 0, []⟩
def GLN_RLOST_RLOST : Field := ⟨0x48, 0, 32, .rc, .none, 0, 1, 0, 1, 0, []⟩
def GLN_BLOST_BLOST : Field := ⟨0x4c, 0, 32, .rc, .none, 0, 1, 0, 1, 0, []⟩
def GLN_BADDR_BADDR : Field := ⟨0x50, 0, 32, .rc, .none, 0, 1, 0, 1, 0, []⟩
def GLN_BRD_ADDR_W : Field := ⟨0x60, 0, 23, .rw, .quiet, 0, 1, 0, 1, 0, []⟩
def GLN_BRD_LEN_N : Field := ⟨0x64, 0, 24, .rw, .quiet, 0, 1, 0, 1, 0, [(1, 8388608)]⟩
def GLN_BRD_DSTL_DST : Field := ⟨0x68, 0, 32, .rw, .quiet, 0, 1, 0, 1, 0, []⟩
def GLN_BRD_DSTH_DST : Field := ⟨0x6c, 0, 32, .rw, .quiet, 0, 1, 0, 1, 0, []⟩
def GLN_BRD_CTL_START : Field := ⟨0x70, 0, 1, .w1s, .none, 0, 1, 0, 1, 0, []⟩
def GLN_BRD_CTL_CLR : Field := ⟨0x70, 1, 1, .rw, .quiet, 0, 1, 0, 1, 0, []⟩
def GLN_BRD_CTL_REFUSED : Field := ⟨0x70, 2, 1, .w1c, .none, 0, 1, 0, 1, 0, []⟩
def GLN_BRD_CTL_BUSY : Field := ⟨0x70, 3, 1, .ro, .none, 0, 1, 0, 1, 0, []⟩
def GLN_BRD_CTL_DONE : Field := ⟨0x70, 4, 1, .w1c, .none, 0, 1, 0, 1, 0, []⟩
def GLN_DL_BASEL_BASE : Field := ⟨0x80, 0, 32, .rw, .quiet, 0, 1, 0, 1, 0, []⟩
def GLN_DL_BASEH_BASE : Field := ⟨0x84, 0, 32, .rw, .quiet, 0, 1, 0, 1, 0, []⟩
def GLN_DL_SIZE_SIZE : Field := ⟨0x88, 0, 25, .rw, .quiet, 0, 1, 0, 1, 0, [(64, 16777216)]⟩
def GLN_DL_PROD_PROD : Field := ⟨0x8c, 0, 24, .ro, .none, 0, 1, 0, 1, 0, []⟩
def GLN_DL_CONS_CONS : Field := ⟨0x90, 0, 24, .rw, .live, 0, 1, 0, 1, 0, []⟩
def GLN_DL_STAT_STALL : Field := ⟨0x94, 0, 1, .w1c, .none, 0, 1, 0, 1, 0, []⟩
def GLN_SCFG_MODE : Field := ⟨0x100, 0, 2, .rw, .quiet, 0, 32, 0x40, 1, 0, []⟩
def GLN_SCFG_MATCH : Field := ⟨0x100, 2, 1, .rw, .quiet, 0, 32, 0x40, 1, 0, []⟩
def GLN_SCFG_FCCLR : Field := ⟨0x100, 3, 1, .rw, .quiet, 1, 32, 0x40, 1, 0, []⟩
def GLN_SCFG_RECYCLE : Field := ⟨0x100, 4, 1, .rw, .quiet, 0, 32, 0x40, 1, 0, []⟩
def GLN_SCFG_EXPORT : Field := ⟨0x100, 5, 1, .rw, .quiet, 0, 32, 0x40, 1, 0, []⟩
def GLN_SCFG_WI : Field := ⟨0x100, 6, 2, .rw, .quiet, 0, 32, 0x40, 1, 0, []⟩
def GLN_SCFG_PL : Field := ⟨0x100, 8, 3, .rw, .quiet, 0, 32, 0x40, 1, 0, []⟩
def GLN_SCFG_BMEN : Field := ⟨0x100, 11, 1, .rw, .quiet, 0, 32, 0x40, 1, 0, []⟩
def GLN_SREG_BASE : Field := ⟨0x104, 0, 10, .rw, .quiet, 0, 32, 0x40, 1, 0, []⟩
def GLN_SREG_SIZE : Field := ⟨0x104, 16, 11, .rw, .quiet, 1, 32, 0x40, 1, 0, [(1, 1024)]⟩
def GLN_SN_N : Field := ⟨0x108, 0, 24, .rw, .quiet, 1, 32, 0x40, 1, 0, []⟩
def GLN_SFIRST_FIRST : Field := ⟨0x10c, 0, 18, .ro, .none, 0, 32, 0x40, 1, 0, []⟩
def GLN_SWR_CNT : Field := ⟨0x110, 0, 19, .ro, .none, 0, 32, 0x40, 1, 0, []⟩
def GLN_SSTAT_FULL : Field := ⟨0x114, 0, 1, .ro, .none, 0, 32, 0x40, 1, 0, []⟩
def GLN_SSTAT_LIMIT : Field := ⟨0x114, 1, 1, .ro, .none, 0, 32, 0x40, 1, 0, []⟩
def GLN_SSTAT_RATE : Field := ⟨0x114, 2, 1, .ro, .none, 0, 32, 0x40, 1, 0, []⟩
def GLN_SSTAT_HELD : Field := ⟨0x114, 3, 1, .ro, .none, 0, 32, 0x40, 1, 0, []⟩
def GLN_SSTAT_BCFG : Field := ⟨0x114, 4, 1, .ro, .none, 0, 32, 0x40, 1, 0, []⟩
def GLN_SSTAT_ISO : Field := ⟨0x114, 5, 1, .ro, .none, 0, 32, 0x40, 1, 0, []⟩
def GLN_SLOST_LOST : Field := ⟨0x118, 0, 32, .ro, .none, 0, 32, 0x40, 1, 0, []⟩
def GLN_SFVL_SFV : Field := ⟨0x11c, 0, 32, .ro, .none, 0, 32, 0x40, 1, 0, []⟩
def GLN_SFVH_SFV : Field := ⟨0x120, 0, 16, .ro, .none, 0, 32, 0x40, 1, 0, []⟩
def GLN_SCVL_SCV : Field := ⟨0x124, 0, 32, .ro, .none, 0, 32, 0x40, 1, 0, []⟩
def GLN_SCVH_SCV : Field := ⟨0x128, 0, 16, .ro, .none, 0, 32, 0x40, 1, 0, []⟩
def GLN_BBASE_BBASE : Field := ⟨0x12c, 0, 23, .rw, .quiet, 0, 32, 0x40, 1, 0, []⟩
def GLN_BSIZE_BSIZE : Field := ⟨0x130, 0, 24, .rw, .quiet, 0, 32, 0x40, 1, 0, []⟩
def GLN_BADLY_D : Field := ⟨0x134, 0, 8, .rw, .quiet, 0, 32, 0x40, 1, 0, []⟩
def GLN_SWDROP_WDROP : Field := ⟨0x138, 0, 16, .rc, .none, 0, 32, 0x40, 1, 0, []⟩
def GLN_SCTL_CLR : Field := ⟨0x13c, 0, 1, .w1s, .none, 0, 32, 0x40, 1, 0, []⟩

/-! ### SH (R75, R76, R110, R111, R189) -/

def SH_PROT_OC_THR : Field := ⟨0x40, 0, 3, .rw, .staged, 1, 1, 0, 1, 0, []⟩
def SH_PROT_OC_FILT : Field := ⟨0x40, 4, 3, .rw, .staged, 2, 1, 0, 1, 0, []⟩
def SH_PROT_OOR_EN : Field := ⟨0x40, 8, 1, .rw, .staged, 1, 1, 0, 1, 0, []⟩
def SH_PROT_OOR_SAFE : Field := ⟨0x40, 9, 1, .rw, .staged, 1, 1, 0, 1, 0, []⟩
def SH_PROT_CMP_HYST : Field := ⟨0x40, 12, 2, .rw, .staged, 0, 1, 0, 1, 0, []⟩
def SH_FCAUSE_OC : Field := ⟨0x44, 0, 1, .ro, .none, 0, 1, 0, 1, 0, []⟩
def SH_FCAUSE_OOR : Field := ⟨0x44, 1, 1, .ro, .none, 0, 1, 0, 1, 0, []⟩
def SH_FCAUSE_OCMAP : Field := ⟨0x44, 8, 8, .ro, .none, 0, 1, 0, 1, 0, []⟩
def SH_FCAUSE_OORMAP : Field := ⟨0x44, 16, 8, .ro, .none, 0, 1, 0, 1, 0, []⟩
def SH_SAFE_SAFE : Field := ⟨0x48, 0, 8, .ro, .none, 0, 1, 0, 1, 0, []⟩
def SH_OPC_CTL_START : Field := ⟨0x50, 0, 1, .w1s, .none, 0, 1, 0, 1, 0, []⟩
def SH_OPC_CTL_ADJ : Field := ⟨0x50, 1, 1, .rw, .quiet, 0, 1, 0, 1, 0, []⟩
def SH_OPC_CTL_CHMASK : Field := ⟨0x50, 8, 8, .rw, .quiet, 0xff, 1, 0, 1, 0, []⟩
def SH_OPC_CTL_SETTLE : Field := ⟨0x50, 16, 8, .rw, .quiet, 0x14, 1, 0, 1, 0, [(1, 255)]⟩
def SH_OPC_CTL_REFUSED : Field := ⟨0x50, 30, 1, .w1c, .none, 0, 1, 0, 1, 0, []⟩
def SH_OPC_CTL_BUSY : Field := ⟨0x50, 31, 1, .ro, .none, 0, 1, 0, 1, 0, []⟩
def SH_OPC_LVL_VLO : Field := ⟨0x54, 0, 14, .rw, .quiet, 0x1180, 1, 0, 1, 0, [(0, 16000)]⟩
def SH_OPC_LVL_VHI : Field := ⟨0x54, 16, 14, .rw, .quiet, 0x2440, 1, 0, 1, 0, [(0, 16000)]⟩
def SH_OPC_RES_RES : Field := ⟨0x58, 0, 24, .ro, .none, 0, 1, 0, 1, 0, []⟩
def SH_OPC_RES_DONE : Field := ⟨0x58, 31, 1, .ro, .none, 0, 1, 0, 1, 0, []⟩
def CH_CTL_ENABLE : Field := ⟨0x100, 0, 1, .rw, .quiet, 0, 8, 0x40, 1, 0, []⟩
def CH_CTL_IDLE_DRV : Field := ⟨0x100, 1, 2, .rw, .staged, 0, 8, 0x40, 1, 0, []⟩
def CH_CTL_TERM_EN : Field := ⟨0x100, 3, 1, .rw, .staged, 0, 8, 0x40, 1, 0, []⟩
def CH_CTL_CMP_EN : Field := ⟨0x100, 4, 1, .rw, .staged, 1, 8, 0x40, 1, 0, []⟩
def CH_VIH_LVL : Field := ⟨0x104, 0, 14, .rw, .staged, 0x7d0, 8, 0x40, 1, 0, [(0, 14000)]⟩
def CH_VIL_LVL : Field := ⟨0x108, 0, 14, .rw, .staged, 0x7d0, 8, 0x40, 1, 0, [(0, 14000)]⟩
def CH_VTT_LVL : Field := ⟨0x10c, 0, 14, .rw, .staged, 0x7d0, 8, 0x40, 1, 0, [(0, 14000)]⟩
def CH_VOH_LVL : Field := ⟨0x110, 0, 14, .rw, .staged, 0xc80, 8, 0x40, 1, 0, [(0, 16000)]⟩
def CH_VOL_LVL : Field := ⟨0x114, 0, 14, .rw, .staged, 0xc80, 8, 0x40, 1, 0, [(0, 16000)]⟩
def CH_PMU_CTL_MODE : Field := ⟨0x118, 0, 2, .rw, .live, 0, 8, 0x40, 1, 0, []⟩
def CH_PMU_CTL_RANGE : Field := ⟨0x118, 2, 2, .rw, .live, 0, 8, 0x40, 1, 0, []⟩
def CH_PMU_CTL_CONNECT : Field := ⟨0x118, 4, 1, .rw, .live, 0, 8, 0x40, 1, 0, []⟩
def CH_PMU_CTL_ABUS_EN : Field := ⟨0x118, 5, 1, .rw, .live, 0, 8, 0x40, 1, 0, []⟩
def CH_PMU_FORCE_FORCE : Field := ⟨0x11c, 0, 14, .rw, .live, 0, 8, 0x40, 1, 0, []⟩
def CH_PMU_CLAMP_VCLL : Field := ⟨0x120, 0, 14, .rw, .live, 0, 8, 0x40, 1, 0, [(0, 16000)]⟩
def CH_PMU_CLAMP_VCLH : Field := ⟨0x120, 16, 14, .rw, .live, 0x3e80, 8, 0x40, 1, 0, [(0, 16000)]⟩
def CH_STAT_OC : Field := ⟨0x124, 0, 1, .w1c, .none, 0, 8, 0x40, 1, 0, []⟩
def CH_STAT_OOR : Field := ⟨0x124, 1, 1, .w1c, .none, 0, 8, 0x40, 1, 0, []⟩
def CH_STAT_ABUSBLK : Field := ⟨0x124, 2, 1, .w1c, .none, 0, 8, 0x40, 1, 0, []⟩
def CH_STAT_CLAMP : Field := ⟨0x124, 3, 1, .w1c, .none, 0, 8, 0x40, 1, 0, []⟩
def CH_STAT_SAFE : Field := ⟨0x124, 8, 1, .ro, .none, 0, 8, 0x40, 1, 0, []⟩
def CH_STAT_PMU_ON : Field := ⟨0x124, 9, 1, .ro, .none, 0, 8, 0x40, 1, 0, []⟩
def CH_STAT_ABOVE : Field := ⟨0x124, 10, 1, .ro, .none, 0, 8, 0x40, 1, 0, []⟩
def CH_STAT_BELOW : Field := ⟨0x124, 11, 1, .ro, .none, 0, 8, 0x40, 1, 0, []⟩
def CH_CALZ_ZTRIM : Field := ⟨0x128, 0, 7, .rw, .quiet, 0, 8, 0x40, 1, 0, []⟩
def CH_CALZ_ZRES : Field := ⟨0x128, 8, 8, .rw, .quiet, 0, 8, 0x40, 1, 0, []⟩
def CH_CALC_OFSA : Field := ⟨0x12c, 0, 10, .rw, .quiet, 0, 8, 0x40, 1, 0, []⟩
def CH_CALC_OFSB : Field := ⟨0x12c, 16, 10, .rw, .quiet, 0, 8, 0x40, 1, 0, []⟩
def CH_CALL_DGAIN : Field := ⟨0x130, 0, 8, .rw, .quiet, 0, 8, 0x40, 1, 0, []⟩
def CH_CALL_DOFS : Field := ⟨0x130, 8, 8, .rw, .quiet, 0, 8, 0x40, 1, 0, []⟩
def CH_CALL_CGAIN : Field := ⟨0x130, 16, 8, .rw, .quiet, 0, 8, 0x40, 1, 0, []⟩
def CH_CALL_COFS : Field := ⟨0x130, 24, 8, .rw, .quiet, 0, 8, 0x40, 1, 0, []⟩
def TS_D1_EDGE : Field := ⟨0x4000, 0, 32, .rw, .staged, 0, 64, 0x100, 8, 0x20, []⟩
def TS_D2_EDGE : Field := ⟨0x4004, 0, 32, .rw, .staged, 0, 64, 0x100, 8, 0x20, []⟩
def TS_D3_EDGE : Field := ⟨0x4008, 0, 32, .rw, .staged, 0, 64, 0x100, 8, 0x20, []⟩
def TS_D4_EDGE : Field := ⟨0x400c, 0, 32, .rw, .staged, 0, 64, 0x100, 8, 0x20, []⟩
def TS_C1_EDGE : Field := ⟨0x4010, 0, 32, .rw, .staged, 0, 64, 0x100, 8, 0x20, []⟩
def TS_C2_EDGE : Field := ⟨0x4014, 0, 32, .rw, .staged, 0, 64, 0x100, 8, 0x20, []⟩
def TS_FMT_FMT : Field := ⟨0x4018, 0, 2, .rw, .staged, 0, 64, 0x100, 8, 0x20, []⟩
def TS_FMT_STRB : Field := ⟨0x4018, 2, 1, .rw, .staged, 0, 64, 0x100, 8, 0x20, []⟩
def TS_FMT_ACT0 : Field := ⟨0x4018, 4, 4, .rw, .staged, 1, 64, 0x100, 8, 0x20, [(0, 9)]⟩
def TS_FMT_ACT1 : Field := ⟨0x4018, 8, 4, .rw, .staged, 2, 64, 0x100, 8, 0x20, [(0, 9)]⟩
def TS_FMT_ACT2 : Field := ⟨0x4018, 12, 4, .rw, .staged, 4, 64, 0x100, 8, 0x20, [(0, 9)]⟩
def TS_FMT_ACT3 : Field := ⟨0x4018, 16, 4, .rw, .staged, 5, 64, 0x100, 8, 0x20, [(0, 9)]⟩
def SH_CGSEL_SEL : Field := ⟨0x8000, 0, 32, .rw, .staged, 0, 1, 0, 1, 0, []⟩
def SH_TSTAT_EDGECOL : Field := ⟨0x8004, 0, 8, .w1c, .none, 0, 1, 0, 1, 0, []⟩
def SH_TSTAT_LATE : Field := ⟨0x8004, 8, 8, .w1c, .none, 0, 1, 0, 1, 0, []⟩
def SH_TSTAT_ODDSW : Field := ⟨0x8004, 16, 1, .w1c, .none, 0, 1, 0, 1, 0, []⟩
def SH_SITE_LO_SITE : Field := ⟨0x80, 0, 5, .rw, .quiet, 0, 1, 0, 1, 0, []⟩
def SH_SITE_LO_EN : Field := ⟨0x80, 5, 1, .rw, .quiet, 0, 1, 0, 1, 0, []⟩
def SH_SITE_HI_SITE : Field := ⟨0x80, 8, 5, .rw, .quiet, 0, 1, 0, 1, 0, []⟩
def SH_SITE_HI_EN : Field := ⟨0x80, 13, 1, .rw, .quiet, 0, 1, 0, 1, 0, []⟩
def SH_SITE_SPLIT : Field := ⟨0x80, 16, 1, .rw, .quiet, 0, 1, 0, 1, 0, []⟩
def SH_RSTAT_LO_PIN : Field := ⟨0x84, 0, 9, .ro, .none, 0, 1, 0, 1, 0, []⟩
def SH_RSTAT_HI_PIN : Field := ⟨0x84, 16, 9, .ro, .none, 0, 1, 0, 1, 0, []⟩

/-! ### The fields of each page -/

/-- The common header's fields (R584). -/
def headerFields : List Field :=
  [PAGE_ID_TYPE, PAGE_ID_INST, PAGE_VER_MINOR, PAGE_VER_MAJOR, PAGE_CAP_COMMIT, PAGE_CAP_RST,
   PAGE_CAP_PWR, PAGE_CAP_FSRC, PAGE_CAP_SIZE, PAGE_CTL_EN, PAGE_CTL_RST, PAGE_CTL_PWR,
   PAGE_STAT_STATE, PAGE_STAT_BUSY, PAGE_STAT_WERR, PAGE_FLT_ALIVE, PAGE_FLT_BLIVE, PAGE_FLT_AVAL,
   PAGE_FLT_BVAL, PAGE_FLT_SLOTA, PAGE_FLT_SLOTB, PAGE_FLTL_ALATCH, PAGE_FLTL_BLATCH, PAGE_COMMIT_GO,
   PAGE_COMMIT_DROP, PAGE_COMMIT_PEND]
/-- The fields of a DEV page beyond the header. -/
def devFields : List Field :=
  [DEV_BOOT_STEP, DEV_BOOT_REFREV, DEV_BOOT_REFUNCHK, DEV_BOOT_STFAIL, DEV_BOOT_IMGOK, DEV_BOOT_DCRDY, DEV_BOOTT_TIME, DEV_PART_PART, DEV_STEP_STEP, DEV_SERL_SER, DEV_SERH_SER, DEV_SCRATCH_SCRATCH]
/-- The fields of a MODE page beyond the header. -/
def modeFields : List Field :=
  [ MODE_REQ_REQ, MODE_STAT_MODE, MODE_STAT_PREV, MODE_STAT_PEND, MODE_STAT_REF, MODE_STAT_REASON, MODE_STAT_WARM, MODE_TS0_TS, MODE_TS1_TS, MODE_TS2_TS]
/-- The fields of a CLK page beyond the header. -/
def clkFields : List Field :=
  [CG_CTL_EN, CG_CTL_RSTMODE, CG_PER_VAL, CG_HIGH_VAL, CG_PHASE_VAL, CG_STAT_RUN, CG_STAT_PENDSYNC, CG_STAT_BADCFG, SYNC_CTL_SRC, SYNC_CTL_OUT_EN, SYNC_CTL_GEN, SYNC_CTL_CHK_EN, SYNC_PER_PER, SYNC_DLY_DLY, SYNC_CNT_CNT, SYNC_STAT_IRREG, SYNC_STAT_LOST, SYNC_STAT_UNCAL, GRP_CFG_CHIP_ID, GRP_CFG_CHIPS] ++
  [GRP_STAT_AMLLATE, SF_VAL0_FLAGS, SF_VAL1_FLAGS, SF_SET0_FLAGS, SF_SET1_FLAGS, SF_CLR0_FLAGS, SF_CLR1_FLAGS, SF_SHARE0_FLAGS, SF_SHARE1_FLAGS, SPAN_CFG_SPAN, SPAN_CFG_EN, SPAN_CFG_LEAD, AT_MAP0_MAP, AT_MAP1_MAP, AT_PULSE_PULSE, RG_MEM_RG_MEM, RG_CHIPS_RG_CHIPS, RG_ARR_ARRIVED, RG_STAT_STALL, RG_STAT_MISMATCH] ++
  [RG_STAT_LINKLOST]
/-- The fields of a PWR page beyond the header. -/
def pwrFields : List Field :=
  [PWR_REQ0_REQ, PWR_REQ1_REQ, PWR_REQ2_REQ, PWR_STAT0_ON, PWR_STAT1_ON, PWR_STAT2_ON, PWR_STBY0_STBY, PWR_STBY1_STBY, PWR_STBY2_STBY, PWR_ERR_DOM, PWR_ERR_REFUSED]
/-- The fields of a FLT page beyond the header. -/
def fltFields : List Field :=
  [FLT_SHWIN_SHWIN, FLT_WIRE_SLOT, FLT_WIRE_VAL, FLT_WIRE_VALID, FLT_INJ_SLOT, FLT_INJ_KIND, FLT_INJ_GO, FLT_INJ_DUR, FLT_FFR_SRC, FLT_FFR_SEV, FLT_FFR_MODE, FLT_FFR_INJ, FLT_FFR_SECONDARY, FLT_FFR_MULTI, FLT_FFR_VALID, FLT_FFR_TS0_TS, FLT_FFR_TS1_TS, FLT_FFR_TS2_TS, FLT_FFR_SNAP_SNAP, FLT_FFR_DETAIL_DETAIL] ++
  [FLT_LATCH_LATCH, FLT_LIVE_LIVE, FLT_SHAD_SHAD, FLT_LOCKS_LOCK, FLT_CFG_SEV, FLT_CFG_QUIET, FLT_RLIM_LIMIT, FLT_RLIM_WIN, FLT_SSTAT_STATE, FLT_SSTAT_SECONDARY, FLT_SSTAT_LOCK, FLT_SSTAT_CAUSE, FLT_RCNT_RCNT]
/-- The fields of a SILO page beyond the header. -/
def siloFields : List Field :=
  [SILO_SAFE_SAFE, SILO_STAT_SAFEN, SILO_STAT_ARMED, SILO_STAT_LSOK, SILO_STAT_WARN, SILO_STAT_CRIT, SILO_STAT_TSENS, SILO_STAT_ARMFAIL, SILO_FORCE_FORCE, SILO_ARM_ARM, SILO_NONCE_NONCE, SILO_THR_WARN, SILO_THR_CRIT, SILO_TEMP_TEMP, SILO_ILIM_LIMIT, SILO_ILIM_MEAS, SILO_SCAUSE_CAUSE]
/-- The fields of a SEC page beyond the header. -/
def secFields : List Field :=
  [SEC_LIFE_STATE, SEC_CTL_SEAL, SEC_CTL_ZERO, SEC_CTL_KEY, SEC_KSTAT_LOADED, SEC_KSTAT_ZBUSY, SEC_KSTAT_KREF, SEC_KSTAT_KREASON, SEC_KSEL_SLOT, SEC_KSEL_WRAP, SEC_KDATA_DATA, SEC_KGO_GO]
/-- The fields of a DBG page beyond the header. -/
def dbgFields : List Field :=
  [DBG_LEVEL_LEVEL, DBG_REQ_LEVEL, DBG_STAT_REASON, DBG_STAT_BUSY, DBG_STAT_REF, DBG_STAT_FAILS, DBG_CHAL_CHAL, DBG_TOK_TOK, DBG_TGO_TARGET, DBG_TGO_GO]
/-- The fields of a TIME page beyond the header. -/
def timeFields : List Field :=
  [TIME_CFG_ROLE, TIME_CFG_STEPSYNC, TIME_CFG_SMODE, TIME_CTL_STEP, TIME_CTL_HOLD, TIME_STAT_STEPPED, TIME_STAT_STEPPEND, TIME_STAT_HOLDOVER, TIME_STAT_HCAUSE, TIME_STAT_DISC, TIME_STAT_SREF, TIME_STAT_OIGN, TIME_STAT_CLAMP, TIME_STAT_SCANC, TIME_NOW0_NOW, TIME_NOW1_NOW, TIME_NOW2_NOW, TIME_DLT0_DFRAC, TIME_DLT1_DNS, TIME_DLT2_DNS] ++
  [TIME_OFS0_OFS, TIME_OFS1_OFS, TIME_KP_KP, TIME_KI_KI, TIME_ADJ0_ADJ, TIME_ADJ1_ADJ, TIME_INT0_INT, TIME_INT1_INT, TIME_INC0_INC, TIME_INC1_INC, TIME_THR_THR, TIME_WDOG_WDOG, TIME_HOLDT_HOLDT, TIME_EPOCH_EPOCH, TIME_DLOGN_DLOGN, TIME_DLOG0_W, TIME_DLOG1_W, TIME_DLOG2_W, TIME_DLOG3_W, TIME_DLOG4_W] ++
  [TIME_DLOG5_W, TIME_DLOG6_W, TIME_DLOG7_W]
/-- The fields of a ETH page beyond the header. -/
def ethFields : List Field :=
  [ETH_CFG_EN, ETH_CFG_SPEED, ETH_CFG_FEC, ETH_CFG_LOC, ETH_STAT_LINK, ETH_STAT_LINKCHG, ETH_TXLAT_LAT, ETH_RXLAT_LAT, ETH_TXASYM_ASYM, ETH_RXASYM_ASYM, ETH_MACL_MAC, ETH_MACH_MAC, ETH_IP_IP, ETH_RXDROP_RXDROP, ETH_RXBASEL_BASE, ETH_RXBASEH_BASE, ETH_RXSIZE_SIZE, ETH_RXPROD_PROD, ETH_RXCONS_CONS, ETH_TXBASEL_BASE] ++
  [ETH_TXBASEH_BASE, ETH_TXSIZE_SIZE, ETH_TXPROD_PROD, ETH_TXCONS_CONS, EXP_CTL_EN, EXP_CTL_SRC, EXP_SITES_SITES, EXP_DMACL_DMAC, EXP_DMACH_DMAC, EXP_DIP_DIP, EXP_PORTS_PORTS, EXP_HOLD_HOLD, EXP_SEQ_SEQ, EXP_DROP_DROP]
/-- The fields of a CNT page beyond the header. -/
def cntFields : List Field :=
  [CNT_CTL_USER, CNT_CTL_SNAP, CNT_CTL_CLRALL, CNT_CFG_PEN, CNT_CFG_DEST, CNT_PER_PER, CNT_STAT_DUMPING, CNT_STAT_PEND, CNT_STAT_SREF, CNT_STAT_SCANC, CNT_STAT_SKIP, CNT_SKIP_SKIP, CNT_SEQ_SEQ, CNT_LASTT0_TS, CNT_LASTT1_TS, CNT_LASTT2_TS, CNT_SKEW_SKEW, CNT_DBASEL_BASE, CNT_DBASEH_BASE, CNT_DSIZE_SIZE] ++
  [CNT_DPROD_PROD, CNT_DCONS_CONS, CNT_OVF_OVF, CNT_COLL_COLL, CNT_L_VAL, CNT_H_VAL, CNT_SHL_SH, CNT_SHH_SH, CNT_SHH_OVF, CNT_SHH_COLL, CNT_SHH_VALID]
/-- The fields of a BRST page beyond the header. -/
def brstFields : List Field :=
  [BRST_CFG_HWNOTIFY, BRST_CTL_PCLR, BRST_CTL_HCLR, BRST_STAT_FULL, BRST_STAT_STALE, BRST_STAT_TMO, BRST_STAT_CQFULL, BRST_FREE_FREE, BRST_STALE_STALE, BRST_HSEL_LEVELS, BRST_LWSEL_SEL, BRST_LWIN_LWIN, BRST_SUB_W, BRST_SUBGO_GO, BRST_SUBRES_RES, BRST_CANCEL_TOKEN, BRST_CANRES_RES, BRST_CQBASEL_BASE, BRST_CQBASEH_BASE, BRST_CQSIZE_SIZE] ++
  [BRST_CQPROD_PROD, BRST_CQCONS_CONS, BRST_LIM_LIMIT, BRST_DLIM_DLIM, BRST_DEPTH_DEPTH, BRST_DEPTH_PEAK, BRST_INFL_INFL, BRST_HIST_BIN, BRST_BLOAD_LOAD, BRST_BITEMS_ITEMS, BRST_BSTAT_WAITING, BRST_BSTAT_HELDN]
/-- The fields of a UCODE page beyond the header. -/
def ucodeFields : List Field :=
  [UC_SUM_SIGOK, UC_SUM_SIGFAIL, UC_VER_MINOR, UC_VER_MAJOR, UC_SIZE_WORDS, UC_SIGC_SIGC, UC_SIGF_SIGF, UC_STAT_SIGOK, UC_STAT_SIGFAIL, UC_STAT_STKERR, UC_STAT_ADDRERR, UC_STAT_RLIMIT, UC_STAT_ACTIVE, UC_RESTART_CNT, UC_LASTAB_UPC, UC_LASTAB_CTX, UC_LASTAB_ROUTINE]
/-- The fields of a WINN page beyond the header. -/
def winnFields : List Field :=
  [WINN_CTL_START, WINN_CTL_ABORT, WINN_PROC_PROC, WINN_PROC_EXTREF, WINN_ARG0_ARG, WINN_ARG1_ARG, WINN_STAT_STATE, WINN_STAT_REASON, WINN_STAT_PROC, WINN_STAT_RESTARTS, WINN_STAT_TDRIFT, WINN_STAT_SREF, WINN_NFAIL_NFAIL, WINN_DTEMP_DTEMP, WINN_VREF_VREF, WINN_VCH_VCH, WINN_TSKEW_TSKEW, WINN_SZMEAN_SZMEAN, WINN_SFULL_SFULL, WINN_FCTRIM_FCTRIM] ++
  [WINN_QEDGE_EDGE, WINN_QEDGE_SKEW, WINN_QADC_ADC, WINN_EYE_WIDTH, WINN_EYE_LOW, WINN_EYE_VALID, WINN_IMG_CTL_SAVE, WINN_IMG_CTL_LOAD, WINN_IMG_CTL_FLASHLOAD, WINN_IMG_CTL_FLASHSAVE, WINN_IMG_BASEL_BASE, WINN_IMG_BASEH_BASE, WINN_IMG_LEN_LEN, WINN_IMG_STAT_BUSY, WINN_IMG_STAT_DONE, WINN_IMG_STAT_SKIP, WINN_IMG_STAT_ORIGIN, WINN_IMG_STAT_REASON, WINN_DSK_CORR, WINN_DSK_RES] ++
  [WINN_FIX_FIX, WINN_DSTAT_VALID, WINN_DSTAT_REASON, WINN_DSTAT_WORST, WINN_SRES_REASON, WINN_SRES_VALID, WINN_LRES_REASON, WINN_LRES_VALID, WINN_YRES_REASON, WINN_YRES_VALID, WINN_YRES_ZDONE, WINN_CRES_REASON, WINN_CRES_VALID]
/-- The fields of a HOST page beyond the header. -/
def hostFields : List Field :=
  [HOST_LINK_SPEED, HOST_LINK_WIDTH, HOST_ABICAP_ENT0, HOST_ABICAP_ENT1, HOST_ABISEL_MINOR, HOST_ABISEL_MAJOR, HOST_DWIN_GIB, HOST_ISTAT_PEND, HOST_SQIM_SITES, HOST_BDOOR_BITS, HOST_BDOORC_CLR, HOST_STAT_DWERR, HOST_IMAP_VEC, HOST_IMAP_EN, HOST_CR_CFG_EN, HOST_CR_SQBASEL_SQBASE, HOST_CR_SQBASEH_SQBASE, HOST_CR_SQSIZE_SQSIZE, HOST_CR_SQPROD_SQPROD, HOST_CR_SQCONS_SQCONS] ++
  [HOST_CR_CQBASEL_CQBASE, HOST_CR_CQBASEH_CQBASE, HOST_CR_CQSIZE_CQSIZE, HOST_CR_CQPROD_CQPROD, HOST_CR_CQCONS_CQCONS, HOST_CR_STAT_RUN, HOST_CR_STAT_CQFULL, HOST_CR_STAT_ERR, HOST_CR_STAT_REFUSED]
/-- The fields of a AML page beyond the header. -/
def amlFields : List Field :=
  [AML_CFG_EN, AML_CTL_RETRAIN, AML_STAT_STATE, AML_STAT_REASON, AML_STAT_POLINV, AML_STAT_SWAP, AML_STAT_CHG, AML_STAT_SYNCMIS, AML_STAT_RETRYFAIL, AML_VER_MINOR, AML_VER_MAJOR, AML_PEER_CHIP, AML_PEER_PMINOR, AML_PEER_PMAJOR, AML_NEG_MINOR, AML_SKEW_SKEW]
/-- The fields of a BW page beyond the header. -/
def bwFields : List Field :=
  [BW_CTL_RUN, BW_CTL_UBAR, BW_RESETVEC_VEC, BW_TMASK_LEVELS, BW_SMASK_SITES, BW_IBUF_ADDR, BW_DOOR_DOOR, BW_DOORCLR_CLR, BW_IE_DOOR, BW_IE_ITEM, BW_IE_FAULT, BW_HWINL_BASE, BW_HWINH_BASE, BW_DWIN_GIB, BW_STAT_RESET, BW_STAT_TAKING, BW_STAT_UE, BW_PC_PC, BW_CECNT_CNT]
/-- The fields of a DDR page beyond the header. -/
def ddrFields : List Field :=
  [DDR_CFG_MAP, DDR_CFG_SCEN, DDR_SIZE_SIZE, DDR_SUM_FROZEN, DDR_SUM_SELFREF, DDR_SUM_READY]
/-- The fields of a DC page beyond the header. -/
def dcFields : List Field :=
  [DC_CFG_WIDTH, DC_CFG_DENS, DC_CFG_RANKS, DC_CFG_RATE, DC_CTL_TRAIN, DC_CTL_SRE, DC_CTL_SRX, DC_CTL_UNFREEZE, DC_STAT_STATE, DC_STAT_HOT, DC_STAT_LIMIT, DC_STAT_CE, DC_STAT_UE, DC_STAT_ALERT, DC_STAT_CMDERR, DC_STAT_SRRETRAIN, DC_STAT_TRFAIL, DC_REF_DEBT, DC_REF_RATE, DC_REF_MR4] ++
  [DC_MR4PER_PER, DC_TRQ_RDEYE, DC_TRQ_WREYE, DC_TRQ_VMARG, DC_TRQ_REASON, DC_CEADDRL_CEADDR, DC_CEADDRH_CEADDR, DC_UEADDRL_UEADDR, DC_UEADDRH_UEADDR, DC_UESYN_SYN, DC_UESYN_BEAT, DC_UESYN_CAUSE, DC_UESYN_CLASS, DC_FRZTS0_FRZTS, DC_FRZTS1_FRZTS, DC_FRZTS2_FRZTS, DC_DLY_RDLY, DC_DLY_WDLY]
/-- The fields of a QDR page beyond the header. -/
def qdrFields : List Field :=
  [QDR_CFG_QAEN, QDR_CFG_QBEN, QDR_CFG_QASZ, QDR_CFG_QBSZ, QDR_CFG_FREQ, QDR_CFG_DINV, QDR_CTL_TRAIN, QDR_STAT_QARDY, QDR_STAT_QBRDY, QDR_STAT_PERR, QDR_STAT_APERR, QDR_STAT_TRFAIL, QDR_ERRADDR_PAIR, QDR_ERRADDR_PORT, QDR_TRQ_QAEYE, QDR_TRQ_QBEYE]
/-- The fields of a AS page beyond the header. -/
def asnFields : List Field :=
  [AS_CFG_OWNER, AS_CFG_STARTMODE, AS_SC_CTL_RUN, AS_SC_CTL_STOP, AS_SC_IN_INSEL, AS_SC_IN_CTR, AS_SC_IN_DEC, AS_SC_IN_STOPFULL, AS_SC_BASEL_BASE, AS_SC_BASEH_BASE, AS_SC_SIZE_SIZE, AS_SC_WPTR_WPTR, AS_SC_WRAP_WRAP, AS_SC_TS0_TS, AS_SC_TS1_TS, AS_SC_TS2_TS, AS_SC_LOST_LOST, AS_SC_GAPL_GAP, AS_SC_GAPH_GAP, AS_URG_INSEL] ++
  [AS_URG_CTR, AS_URG_AVG, AS_URG_SHIFT, AS_URG_GO, AS_USET_SETTLE, AS_URES_RESULT, AS_URES_OVR, AS_URES_SUSPECT, AS_URES_STAT, AS_URES_DRP, AS_DROP_DROP, AS_STAT_ACT, AS_STAT_URG, AS_STAT_GAP, AS_STAT_OVR, AS_STAT_SECONDARY, AS_SKEW_SKEW, AS_CALA_OFS, AS_CALB_GAIN]
/-- The fields of a ASCAN page beyond the header. -/
def ascanFields : List Field :=
  [ASCAN_CTL_START, ASCAN_CTL_ABORT, ASCAN_CFG_LAST, ASCAN_CFG_SSRC, ASCAN_CFG_WI, ASCAN_CFG_PL, ASCAN_PER_PER, ASCAN_ABUS_OWN, ASCAN_QBASEL_QBASE, ASCAN_QBASEH_QBASE, ASCAN_QSIZE_QSIZE, ASCAN_QPROD_PROD, ASCAN_QCONS_CONS, ASCAN_STAT_RUN, ASCAN_STAT_CFGERR, ASCAN_STAT_QWAIT, ASCAN_STAT_ABORTED, ASCAN_STAT_HELD, ASCAN_STAT_DELAYED, ASCAN_SDROP_SDROP] ++
  [ASCAN_WDROP_WDROP, ASCAN_SCANNO_SCANNO, AREF_CTL_SRC, AREF_STAT_ACTIVE, AREF_STAT_SETTLED, AREF_STAT_EXTBAD, AIN_CFG_TERM, ILV_CTL_MODE, ILV_CTL_PIN0, ILV_CTL_PIN1, ASYS_OFS_OFS, ASYS_GAIN_GAIN, ASL_SEL_INSEL, ASL_SEL_CTR, ASL_SEL_PAR, ASL_SEL_SLICE, ASL_SEL_CHAN, ASL_SET_SETTLE, ASL_AVG_AVG, ASL_AVG_SHIFT]
/-- The fields of a ACQ page beyond the header. -/
def acqFields : List Field :=
  [ACQ_CTL_ARM, ACQ_CTL_STOP, ACQ_CTL_ABORT, ACQ_CTL_FORCE, ACQ_CTL_PREFULL, ACQ_CFG_SEN, ACQ_CFG_REARM, ACQ_CFG_WI, ACQ_CFG_PL, ACQ_CFG_MEAS, ACQ_PRE_PRE, ACQ_POST_POST, ACQ_DEC_D, ACQ_NREC_NREC, ACQ_STAT_STATE, ACQ_STAT_REASON, ACQ_STAT_CFGERR, ACQ_STAT_OVFL, ACQ_STAT_HELD, ACQ_STAT_MEMWAIT] ++
  [ACQ_TSTAT_FIRED, ACQ_TSTAT_TUNIT, ACQ_TIDXL_TIDX, ACQ_TIDXH_TIDX, ACQ_MISSED_MISSED, ACQ_PREIGN_PREIGN, ACQ_WDROP_WDROP, ACQ_RDONE_RDONE, ACQ_RCONS_RCONS, ACQ_WIN_HALF, ACQ_TSEL_SRC, ACQ_TANA_LEVEL, ACQ_TANA_HYST, ACQ_TANA_SLOPE, ACQ_PVAL0_VAL, ACQ_PVAL1_VAL, ACQ_PCARE0_CARE, ACQ_PCARE1_CARE, ACQ_SIN_INSEL, ACQ_SIN_CTR] ++
  [ACQ_PSEL_CHAN, ACQ_PSEL_STATE]
/-- The fields of a SQ page beyond the header. -/
def sqFields : List Field :=
  [SQ_TPER_PER, SQ_CTL_START, SQ_CTL_PAUSE, SQ_CTL_RESUME, SQ_CTL_ABORT, SQ_CTL_HTRIG, SQ_CFG_STARTMODE, SQ_CFG_UPOL, SQ_CFG_HOLDPAUSE, SQ_PBASE_ADDR, SQ_START_ADDR, SQ_LLAT_L, SQ_TLOOP_T, SQ_KEEPA_CODE, SQ_HJMP_TARGET, SQ_JSTAT_PEND, SQ_JSTAT_APPLIED, SQ_JSTAT_DEFER, SQ_JSTAT_OVR, SQ_JSTAT_REPL] ++
  [SQ_JSTAT_REFUSED, SQ_JVEC_VEC, SQ_STAT_STATE, SQ_STAT_FS, SQ_STAT_HELD, SQ_STAT_SREF, SQ_STAT_KEEPING, SQ_STAT_LDEPTH, SQ_STAT_CDEPTH, SQ_CAUSE_CAUSE, SQ_CAUSE_ALSO, SQ_CAUSE_CODE, SQ_PC_ADDR, SQ_VECL_VEC, SQ_VECH_VEC, SQ_ENDTS0_TS, SQ_ENDTS1_TS, SQ_ENDTS2_TS, SQ_MSTAT_PASSES, SQ_MSTAT_TO] ++
  [SQ_MDROP_CNT]
/-- The fields of a GRAN page beyond the header. -/
def granFields : List Field :=
  [GRAN_CFG_ILV, GRAN_CFG_PSIZE, GRAN_STAT_UE, GRAN_STAT_SCRUBE, GRAN_STAT_WDROP, GRAN_CECNT_CNT, GRAN_UEADDR_ADDR, GRAN_VBASE_BASE, GRAN_VTILES_TILES]
/-- The fields of a HOP page beyond the header. -/
def hopFields : List Field :=
  [HOP_CFG_SRC, HOP_CFG_KEYEN, HOP_BASEL_BASEL, HOP_BASEH_BASEH, HOP_ITAB_ITAB, HOP_NBALE_NBALE, HOP_THR_START, HOP_THR_URGENT, HOP_START_START, HOP_HPROD_PROD, HOP_HCONS_CONS, HOP_FILL_FILL, HOP_RPOS_POS, HOP_STAT_UNDER, HOP_STAT_ERR, HOP_STAT_DISC, HOP_STAT_URG, HOP_STAT_FETCH, HOP_ERR_REASON, HOP_ERR_LANE] ++
  [HOP_ERR_USED, HOP_EBALE_EBALE, HOP_EUNUSED_EUNUSED, HOP_UVECL_VEC, HOP_UVECH_VEC, HOP_UBALE_UBALE, HOP_UOFF_UOFF, HOP_UTS0_TS, HOP_UTS1_TS, HOP_UTS2_TS, HOP_KCNT_KCNT, HOP_UCNT_UCNT]
/-- The fields of a GRND page beyond the header. -/
def grndFields : List Field :=
  [GRND_DID_DID]
/-- The fields of a GLN page beyond the header. -/
def glnFields : List Field :=
  [GLN_PMASK_MASK, GLN_FCL_FC, GLN_FCH_FC, GLN_BSCR_PINA, GLN_BSCR_INV, GLN_BSCR_SRC, GLN_BSCR_PINB, GLN_BSCR_XEN, GLN_BIO_PIN0, GLN_BIO_PIN1, GLN_BIO_VALID0, GLN_BIO_VALID1, GLN_CFG_BMEN, GLN_CFG_PORTS, GLN_STAT_RATE, GLN_STAT_BLOST, GLN_STAT_BPEND, GLN_RLOST_RLOST, GLN_BLOST_BLOST, GLN_BADDR_BADDR] ++
  [GLN_BRD_ADDR_W, GLN_BRD_LEN_N, GLN_BRD_DSTL_DST, GLN_BRD_DSTH_DST, GLN_BRD_CTL_START, GLN_BRD_CTL_CLR, GLN_BRD_CTL_REFUSED, GLN_BRD_CTL_BUSY, GLN_BRD_CTL_DONE, GLN_DL_BASEL_BASE, GLN_DL_BASEH_BASE, GLN_DL_SIZE_SIZE, GLN_DL_PROD_PROD, GLN_DL_CONS_CONS, GLN_DL_STAT_STALL, GLN_SCFG_MODE, GLN_SCFG_MATCH, GLN_SCFG_FCCLR, GLN_SCFG_RECYCLE, GLN_SCFG_EXPORT] ++
  [GLN_SCFG_WI, GLN_SCFG_PL, GLN_SCFG_BMEN, GLN_SREG_BASE, GLN_SREG_SIZE, GLN_SN_N, GLN_SFIRST_FIRST, GLN_SWR_CNT, GLN_SSTAT_FULL, GLN_SSTAT_LIMIT, GLN_SSTAT_RATE, GLN_SSTAT_HELD, GLN_SSTAT_BCFG, GLN_SSTAT_ISO, GLN_SLOST_LOST, GLN_SFVL_SFV, GLN_SFVH_SFV, GLN_SCVL_SCV, GLN_SCVH_SCV, GLN_BBASE_BBASE] ++
  [GLN_BSIZE_BSIZE, GLN_BADLY_D, GLN_SWDROP_WDROP, GLN_SCTL_CLR]
/-- The fields of a SH page beyond the header. -/
def shFields : List Field :=
  [SH_PROT_OC_THR, SH_PROT_OC_FILT, SH_PROT_OOR_EN, SH_PROT_OOR_SAFE, SH_PROT_CMP_HYST, SH_FCAUSE_OC, SH_FCAUSE_OOR, SH_FCAUSE_OCMAP, SH_FCAUSE_OORMAP, SH_SAFE_SAFE, SH_OPC_CTL_START, SH_OPC_CTL_ADJ, SH_OPC_CTL_CHMASK, SH_OPC_CTL_SETTLE, SH_OPC_CTL_REFUSED, SH_OPC_CTL_BUSY, SH_OPC_LVL_VLO, SH_OPC_LVL_VHI, SH_OPC_RES_RES, SH_OPC_RES_DONE] ++
  [CH_CTL_ENABLE, CH_CTL_IDLE_DRV, CH_CTL_TERM_EN, CH_CTL_CMP_EN, CH_VIH_LVL, CH_VIL_LVL, CH_VTT_LVL, CH_VOH_LVL, CH_VOL_LVL, CH_PMU_CTL_MODE, CH_PMU_CTL_RANGE, CH_PMU_CTL_CONNECT, CH_PMU_CTL_ABUS_EN, CH_PMU_FORCE_FORCE, CH_PMU_CLAMP_VCLL, CH_PMU_CLAMP_VCLH, CH_STAT_OC, CH_STAT_OOR, CH_STAT_ABUSBLK, CH_STAT_CLAMP] ++
  [CH_STAT_SAFE, CH_STAT_PMU_ON, CH_STAT_ABOVE, CH_STAT_BELOW, CH_CALZ_ZTRIM, CH_CALZ_ZRES, CH_CALC_OFSA, CH_CALC_OFSB, CH_CALL_DGAIN, CH_CALL_DOFS, CH_CALL_CGAIN, CH_CALL_COFS, TS_D1_EDGE, TS_D2_EDGE, TS_D3_EDGE, TS_D4_EDGE, TS_C1_EDGE, TS_C2_EDGE, TS_FMT_FMT, TS_FMT_STRB] ++
  [TS_FMT_ACT0, TS_FMT_ACT1, TS_FMT_ACT2, TS_FMT_ACT3, SH_CGSEL_SEL, SH_TSTAT_EDGECOL, SH_TSTAT_LATE, SH_TSTAT_ODDSW, SH_SITE_LO_SITE, SH_SITE_LO_EN, SH_SITE_HI_SITE, SH_SITE_HI_EN, SH_SITE_SPLIT, SH_RSTAT_LO_PIN, SH_RSTAT_HI_PIN]

end Reg

/-- The fields of a page of a kind, without the header. -/
def blockFields : PKind → List Field
  | .dev => Reg.devFields
  | .mode => Reg.modeFields
  | .clk => Reg.clkFields
  | .pwr => Reg.pwrFields
  | .flt => Reg.fltFields
  | .silo => Reg.siloFields
  | .sec => Reg.secFields
  | .dbg => Reg.dbgFields
  | .time => Reg.timeFields
  | .eth => Reg.ethFields
  | .cnt => Reg.cntFields
  | .brst => Reg.brstFields
  | .ucode => Reg.ucodeFields
  | .winn => Reg.winnFields
  | .host => Reg.hostFields
  | .aml => Reg.amlFields
  | .bw => Reg.bwFields
  | .ddr => Reg.ddrFields
  | .dc => Reg.dcFields
  | .qdr => Reg.qdrFields
  | .asn => Reg.asnFields
  | .ascan => Reg.ascanFields
  | .acq => Reg.acqFields
  | .sq => Reg.sqFields
  | .gran => Reg.granFields
  | .hop => Reg.hopFields
  | .grnd => Reg.grndFields
  | .gln => Reg.glnFields
  | .sh => Reg.shFields

end Sys2Proof.Machine
end

