-- ==== Sys2Proof/Machine/Store.lean ====
section
/-! DEFINITION. Operations on sparse tables and byte memories. A table keeps its keys strictly rising and never
lists an entry equal to what an unlisted key reads as, so equal tables are equal data. -/

namespace Sys2Proof.Machine

/-- The entry listed for a key, if any. -/
def tabFind {α : Type} : Tab α → Nat → Option α
  | [], _ => none
  | (a, v) :: t, k => if a = k then some v else tabFind t k

/-- The table without a key's entry. -/
def tabErase {α : Type} : Tab α → Nat → Tab α
  | [], _ => []
  | (a, v) :: t, k => if a = k then tabErase t k else (a, v) :: tabErase t k

/-- The table with a key listed, in key order. -/
def tabInsert {α : Type} : Tab α → Nat → α → Tab α
  | [], k, v => [(k, v)]
  | (a, w) :: t, k, v =>
    if k < a then (k, v) :: (a, w) :: t
    else if k = a then (k, v) :: t
    else (a, w) :: tabInsert t k v

/-- The value of a key, where `d` is what an unlisted key reads as. -/
def tabGet {α : Type} (d : α) (m : Tab α) (k : Nat) : α := (tabFind m k).getD d

/-- A key's value set, keeping the canonical form for the default `d`. -/
def tabPut {α : Type} [DecidableEq α] (d : α) (m : Tab α) (k : Nat) (v : α) : Tab α :=
  if v = d then tabErase m k else tabInsert m k v

/-- A key's value changed by a function. -/
def tabMod {α : Type} [DecidableEq α] (d : α) (m : Tab α) (k : Nat) (f : α → α) : Tab α :=
  tabPut d m k (f (tabGet d m k))

/-- Keys strictly rise from above `lo`. -/
def tabRising {α : Type} : Nat → Tab α → Bool
  | _, [] => true
  | lo, (a, _) :: t => decide (lo ≤ a) && tabRising (a + 1) t

/-- The canonical form: keys strictly rise and no entry equals the default. -/
def tabWf {α : Type} [DecidableEq α] (d : α) (m : Tab α) : Bool :=
  tabRising 0 m && m.all fun p => decide (p.2 ≠ d)

/-- Every key for which a test holds loses its entry. -/
def tabDrop {α : Type} (m : Tab α) (p : Nat → Bool) : Tab α := m.filter fun e => !p e.1

/-- A byte of a memory; an unlisted byte reads 0. -/
def memGet (m : Tab Byte) (a : Nat) : Byte := tabGet 0#8 m a

/-- A byte of a memory written. -/
def memPut (m : Tab Byte) (a : Nat) (b : Byte) : Tab Byte := tabPut 0#8 m a b

/-- Bytes written from an address upward. -/
def memPutBytes (m : Tab Byte) (a : Nat) : List Byte → Tab Byte
  | [] => m
  | b :: bs => memPutBytes (memPut m a b) (a + 1) bs

/-- `n` bytes read from an address upward. -/
def memBytes (m : Tab Byte) (a : Nat) : Nat → List Byte
  | 0 => []
  | n + 1 => memGet m a :: memBytes m (a + 1) n

/-- A little-endian number from bytes (R2). -/
def leNat : List Byte → Nat
  | [] => 0
  | b :: bs => b.toNat + 256 * leNat bs

/-- The `n` bytes of a number, little-endian (R2). -/
def leBytes : Nat → Nat → List Byte
  | 0, _ => []
  | n + 1, v => BitVec.ofNat 8 v :: leBytes n (v / 256)

/-- A little-endian number of `n` bytes read from memory. -/
def memNat (m : Tab Byte) (a n : Nat) : Nat := leNat (memBytes m a n)

/-- A number written as `n` little-endian bytes. -/
def memPutNat (m : Tab Byte) (a n v : Nat) : Tab Byte := memPutBytes m a (leBytes n v)

/-- Bit `k` of a number. -/
def bitAt (v k : Nat) : Bool := v / 2 ^ k % 2 = 1

/-- Bits [lo + w - 1 : lo] of a number. -/
def bitsAt (v lo w : Nat) : Nat := v / 2 ^ lo % 2 ^ w

/-- A number with bit `k` set to `b`. -/
def setBit (v k : Nat) (b : Bool) : Nat :=
  if bitAt v k = b then v else if b then v + 2 ^ k else v - 2 ^ k

/-- The signed value of a `w`-bit two's complement number (R3). -/
def toSigned (w v : Nat) : Int :=
  if v % 2 ^ w < 2 ^ (w - 1) then (v % 2 ^ w : Nat) else (v % 2 ^ w : Nat) - (2 ^ w : Nat)

/-- The `w`-bit two's complement form of an integer (R3). -/
def ofSigned (w : Nat) (v : Int) : Nat := (v % (2 ^ w : Nat)).toNat

/-- An integer held to a range. -/
def clampInt (lo hi v : Int) : Int := if v < lo then lo else if hi < v then hi else v

/-- 1 for true, 0 for false. -/
def b2n (b : Bool) : Nat := if b then 1 else 0

/-- The set bits of a `w`-bit number, lowest first. -/
def setBits (v : Nat) : Nat → List Nat
  | 0 => []
  | w + 1 => setBits v w ++ (if bitAt v w then [w] else [])

/-- One step of a reflected CRC on one bit. -/
def crcBit (poly c : Nat) : Nat := if c % 2 = 1 then (c / 2) ^^^ poly else c / 2

/-- A reflected CRC over one byte. -/
def crcByte (poly c : Nat) (b : Byte) : Nat :=
  let x := c ^^^ b.toNat
  crcBit poly (crcBit poly (crcBit poly (crcBit poly (crcBit poly (crcBit poly (crcBit poly (crcBit poly x)))))))

/-- CRC-32C (Castagnoli, reflected) of a list of bytes. -/
def crc32c (bs : List Byte) : Nat := (bs.foldl (crcByte 0x82F63B78) 0xFFFFFFFF) ^^^ 0xFFFFFFFF

end Sys2Proof.Machine
end

