-- ==== Sys2Proof/Machine/Pages.lean ====
section
/-! DEFINITION. The page index (R581, R585, R596): bases, sizes, types, capabilities, domains and fault sources. -/

namespace Sys2Proof.Machine

/-- How many pages a kind has. -/
def pageCount : PKind → Nat
  | .eth => 2 | .aml => 4 | .bw => 16 | .dc => 4 | .asn => 4 | .sq => 32 | .sh => 40
  | _ => 1

/-- The base of a kind's first page in BAR0 (R596). -/
def kindBase : PKind → Nat
  | .dev => 0 | .mode => 0x10000 | .clk => 0x20000 | .pwr => 0x30000 | .flt => 0x40000 | .silo => 0x50000
  | .sec => 0x60000 | .dbg => 0x70000 | .time => 0x80000 | .eth => 0x90000 | .cnt => 0xB0000 | .brst => 0xC0000
  | .ucode => 0xD0000 | .winn => 0xE0000 | .host => 0xF0000 | .aml => 0x100000 | .bw => 0x200000
  | .ddr => 0x300000 | .dc => 0x310000 | .qdr => 0x350000 | .asn => 0x400000 | .ascan => 0x440000
  | .acq => 0x450000 | .sq => 0x800000 | .gran => 0xA00000 | .hop => 0xA10000 | .grnd => 0xA20000
  | .gln => 0xA30000 | .sh => 0x1000000

/-- The size of a page of a kind in bytes. -/
def pageSize : PKind → Nat
  | .aml => 0x1000
  | _ => 0x10000

/-- The base of a page in BAR0. -/
def pageBase (p : Page) : Nat := kindBase p.kind + p.inst * pageSize p.kind

/-- PAGE_ID.TYPE (R585). -/
def pageType : PKind → Nat
  | .dev => 1 | .mode => 2 | .clk => 3 | .pwr => 4 | .flt => 5 | .silo => 6 | .sec => 7 | .dbg => 8 | .time => 9
  | .eth => 10 | .cnt => 11 | .brst => 12 | .ucode => 13 | .winn => 14 | .host => 15 | .aml => 16 | .bw => 17
  | .ddr => 18 | .dc => 19 | .qdr => 20 | .asn => 21 | .ascan => 22 | .acq => 23 | .sq => 24 | .gran => 25
  | .hop => 26 | .grnd => 27 | .gln => 28 | .sh => 29

/-- Every page kind. -/
def allKinds : List PKind :=
  [.dev, .mode, .clk, .pwr, .flt, .silo, .sec, .dbg, .time, .eth, .cnt, .brst, .ucode, .winn, .host, .aml, .bw,
   .ddr, .dc, .qdr, .asn, .ascan, .acq, .sq, .gran, .hop, .grnd, .gln, .sh]

/-- The page of a kind that holds a BAR0 offset. -/
def pageIn (k : PKind) (addr : Nat) : Option Page :=
  if kindBase k ≤ addr ∧ addr < kindBase k + pageCount k * pageSize k then
    some ⟨k, (addr - kindBase k) / pageSize k⟩
  else none

/-- The page that holds a BAR0 offset (R581); none where the offset is reserved. -/
def pageOf (addr : Nat) : Option Page := allKinds.findSome? fun k => pageIn k addr

/-- Every page of a kind. -/
def pagesOf (k : PKind) : List Page := (List.range (pageCount k)).map fun n => ⟨k, n⟩

/-- PAGE_CAP.COMMIT (R596). -/
def capCommit : PKind → Bool
  | .clk | .ascan | .acq | .sq | .hop | .gln | .sh => true
  | _ => false

/-- PAGE_CAP.RST (R596). -/
def capRst : PKind → Bool
  | .time | .eth | .brst | .winn | .aml | .bw | .dc | .qdr | .asn | .ascan | .acq | .sq | .gln | .sh => true
  | _ => false

/-- PAGE_CAP.PWR (R596). -/
def capPwr : PKind → Bool
  | .dc | .asn | .sh => true
  | _ => false

/-- The power domains of a page's block; the empty list is AON (R596). -/
def pageDomains (p : Page) : List Nat :=
  match p.kind with
  | .time | .eth | .aml => [78]
  | .cnt | .brst | .winn => [77]
  | .host => [79]
  | .bw => [75 + p.inst / 8]
  | .ddr => [69, 70, 71, 72]
  | .dc => [69 + p.inst]
  | .qdr => [73, 74]
  | .asn => [64 + p.inst]
  | .ascan | .acq => [68]
  | .sq => [56 + p.inst / 4]
  | .gran => (List.range 16).map (40 + ·)
  | .hop | .grnd => (List.range 8).map (56 + ·)
  | .gln => [73]
  | .sh => [p.inst]
  | _ => []

/-- Every page of the device. -/
def allPages : List Page := allKinds.flatMap pagesOf

/-- The pages whose block lies in a domain. -/
def domainPages (d : Nat) : List Page := allPages.filter fun p => (pageDomains p).contains d

/-- Kinds whose block spans several domains: their parts are lost with the domains that hold them. -/
def spreadKind : PKind → Bool
  | .gran | .hop | .grnd | .ddr | .qdr => true
  | _ => false

/-- The fault sources A and B that a page header names (R596). -/
def pageSources (p : Page) : List Nat :=
  match p.kind with
  | .dev => [118]
  | .clk => [75, 117]
  | .flt => [255]
  | .silo => [119, 120]
  | .time => [77]
  | .eth => [82 + p.inst]
  | .brst => [103, 102]
  | .winn => [56]
  | .host => [104]
  | .aml => [78 + p.inst]
  | .bw => [84 + p.inst, 100 + p.inst / 8]
  | .dc => if p.inst = 0 then [71, 57] else [71 + p.inst]
  | .qdr => [64]
  | .asn => [65 + p.inst]
  | .ascan => [69]
  | .acq => [70]
  | .sq => [40 + p.inst / 4, 48 + p.inst / 4]
  | .gran => [58]
  | .gln => [63]
  | .sh => [p.inst]
  | _ => []

/-- The key under which element (i, j) of a field is stored: the BAR0 bit number of its lowest bit, and below it the type
of its page. -/
def fieldKey (p : Page) (f : Field) (i j : Nat) : Nat :=
  ((pageBase p + f.off + i * f.s1 + j * f.s2) * 8 + f.lo) * 32 + pageType p.kind

/-- The elements of a field that lie in the 32-bit register at a page offset. -/
def fieldElem (f : Field) (off : Nat) : Option (Nat × Nat) :=
  if off < f.off then none else
  let d := off - f.off
  let i := if f.s1 = 0 then 0 else d / f.s1
  let r := if f.s1 = 0 then d else d % f.s1
  let j := if f.s2 = 0 then 0 else r / f.s2
  let q := if f.s2 = 0 then r else r % f.s2
  if i < f.n1 ∧ j < f.n2 ∧ q = 0 then some (i, j) else none

/-- A field of a register together with its element indices. -/
structure FieldAt where
  f : Field
  i : Nat
  j : Nat
  deriving DecidableEq, Repr

/-- The fields of the register at an offset of a page of a kind; the empty list is a reserved offset. -/
def fieldsAt (k : PKind) (off : Nat) : List FieldAt :=
  (if off < 0x40 then Reg.headerFields else blockFields k).filterMap fun f =>
    (fieldElem f off).map fun (i, j) => ⟨f, i, j⟩

end Sys2Proof.Machine
end

