-- ==== Sys2Proof/Machine/State.lean ====
section
/-! DEFINITION. The state of the block: everything the spec gives it, as plain data. Register fields are held in
`regs`, by the key of Machine/Pages.lean; what no register shows is held in the records below.
Tables are sparse and canonical: an unlisted key reads the record's default. Instants are in grains. -/

namespace Sys2Proof.Machine

/-- Why a step stops. No command of this block stops the machine: a fault of the hardware is an effect on the state. -/
inductive Fault
  /-- Raised by no command; kept so that the type is inhabited. Safe. -/
  | none
  deriving DecidableEq, Repr

/-- Why a command has no meaning. -/
inductive Refusal
  /-- Raised by an arm of the dispatcher for a command that has no meaning yet. Safe. -/
  | notModelled (mnemonic : String)
  deriving DecidableEq, Repr

/-- What holds a page's block beside its enable and its domains (R590). -/
structure PageOp where
  /-- An accepted RST holds the block. -/
  rst : Bool := false
  /-- The fault collector isolates the block's unit. -/
  iso : Bool := false
  /-- Restoration runs. -/
  restoring : Bool := false
  deriving DecidableEq, Repr

/-! ### Pin channels and sheaves -/

/-- The six edge generators of a channel (R79 table, R98). -/
inductive Gen | d1 | d2 | d3 | d4 | c1 | c2
  deriving DecidableEq, Repr

/-- The place of a vector in pair mode (R96). -/
inductive PairPos | single | first | second
  deriving DecidableEq, Repr

/-- An edge of an applied vector that has not acted yet (R80). -/
structure Edge where
  gen : Gen
  t : Nat
  site : Nat
  vec : Nat
  act : Nat
  fmt : Nat
  pair : PairPos
  /-- Strobe mode WINDOW with a close to come (R92). -/
  window : Bool
  /-- Pass of a MATCH body, 0 outside a body (R139). -/
  pass : Nat
  /-- Timing set of the vector, any override included. -/
  ts : Nat
  /-- SEG field of the vector's records (R242): address of its SEG word, open loop entries in [27:24]. -/
  seg : Nat
  /-- Number of the segment instance (R229). -/
  inst : Nat
  deriving DecidableEq, Repr

/-- Operating state of a channel. -/
structure ChOp where
  /-- Driver on (R42, R599). -/
  drv : Bool := false
  /-- Level on the driver: true is VIH. -/
  lvl : Bool := false
  /-- The vector whose D2 acted while the driver was off (R91). -/
  dataVec : Option Nat := none
  /-- In state BURST (R42). -/
  burst : Bool := false
  /-- Pending edges in order of issue (R80). -/
  edges : List Edge := []
  /-- Last event of each generator D1, D2, D3, D4, C1, C2, as its instant + 1; 0 is none (R82). -/
  last : Tab Nat := []
  ocLive : Bool := false
  oorLive : Bool := false
  /-- Logic levels driven in the burst with the vector that drove them, newest first (R247). -/
  drives : List (Nat × Bool) := []
  /-- Origins and outcomes of the compare results of the burst, newest first (R305). -/
  fails : List (Nat × Bool) := []
  deriving DecidableEq, Repr

/-- A running open-pin check of a sheaf (R68). -/
structure Opc where
  /-- Second pass of a check with ADJ = 1 (R69). -/
  second : Bool
  sampling : Bool
  due : Nat
  /-- Channels selected, enabled and not in the safe state at the start. -/
  mask : Nat
  /-- Channels that tripped during the check (R73). -/
  tripped : Nat
  deriving DecidableEq, Repr

/-- Operating state of a sheaf. -/
structure ShOp where
  opc : Option Opc := none
  deriving DecidableEq, Repr

/-- Operating state of a clock generator (R102). -/
structure CgOp where
  /-- Instant of the last phase reset. -/
  base : Nat := 0
  /-- A commit waits for its boundary (R103). -/
  commit : Bool := false
  /-- A start waits for its boundary (R105). -/
  start : Bool := false
  /-- Instant of the request. -/
  reqAt : Nat := 0
  deriving DecidableEq, Repr

/-! ### Flags, rendezvous and SYNC -/

/-- A site-flag change that decisions may still see or not see (R137, R167, R168). -/
structure FlagChange where
  flag : Nat
  val : Bool
  /-- The instant at which it acts. -/
  t : Nat
  /-- The site whose FLAG word made it, if one did. -/
  site : Option Nat
  /-- A shared change acts everywhere at its instant; a local one is seen by other sites 32 fc later. -/
  shared : Bool
  deriving DecidableEq, Repr

/-- A shared flag change or trigger pulse on its way to its application instant (R168, R181). -/
structure SharedEvent where
  /-- Flag number or trigger line. -/
  idx : Nat
  /-- 0 clear, 1 set, 2 toggle (flags). -/
  op : Nat
  /-- Application instant. -/
  t : Nat
  chip : Nat
  /-- Order of R170 within a chip: site number, 32 host, 33 Brewer. -/
  rank : Nat
  deriving DecidableEq, Repr

/-- SYNC, flags, trigger lines and rendezvous state of the CLK page. -/
structure ClkOp where
  /-- Instant of the last SYNC, if one has come since BOOT. -/
  lastSync : Option Nat := none
  /-- SYNCs seen since BOOT or since CHK_EN was set, at most 1 counted (R179). -/
  chkSeen : Bool := false
  /-- When CHK_EN was set. -/
  chkFrom : Nat := 0
  /-- The next pulse of the SYNC generator, while it runs (R178). -/
  genNext : Option Nat := none
  /-- Flag values before the oldest change of the log, SF63 to SF0. -/
  flagBase : Nat := 0
  /-- Flag changes, newest first. -/
  flagLog : List FlagChange := []
  sharedFlags : List SharedEvent := []
  atPulses : List SharedEvent := []
  /-- Last application instant of each trigger line (R181). -/
  atLast : Tab Nat := []
  /-- Arrivals of sites at groups not yet applied: (group, (chip, site), instant) (R171). -/
  arrivals : List (Nat × (Nat × Nat) × Nat) := []
  /-- Members of other chips that have arrived or are excused: keys group * 16 + chip, site masks (R171). -/
  remArrived : Tab Nat := []
  remExcused : Tab Nat := []
  remMembers : Tab Nat := []
  /-- RG_CHIPS as another chip holds it, plus 1, by group * 16 + chip (R176). -/
  remChips : Tab Nat := []
  /-- Chips that no path of at most three links reaches, as a mask (R491). -/
  unreachable : Nat := 0
  /-- Parts of spans on other chips with a safe-state cause, by site * 16 + chip (R186). -/
  spanSafe : Tab Nat := []
  /-- Last rising edge of each TRIG_IN input, as its instant + 1 (R574), and the pulses as they reach the
  sequencers (R36, R142): input, rise, fall, newest first. -/
  trigLast : Tab Nat := []
  trigPulses : List (Nat × Nat × Nat) := []
  /-- Parts of spans on other chips, by span * 16 + chip: 0 none known, 1 not ready, else the instant + 2 at which it met
  its start conditions (R182, R183). -/
  spanParts : Tab Nat := []
  /-- End of the pulse on SYNC_OUT (R178). -/
  syncOutEnd : Nat := 0
  /-- End of the pulse on each TRIG_OUT (R575). -/
  toutEnd : Tab Nat := []
  deriving DecidableEq, Repr

/-! ### Sequencers -/

/-- A vector segment being applied (R121). -/
structure Seg where
  strm : Bool
  addr : Nat
  nvec : Nat
  /-- Vectors of it applied. -/
  pos : Nat
  deriving DecidableEq, Repr

/-- A loop entry (R123). -/
structure LoopEntry where
  body : Nat
  enda : Nat
  count : Nat
  /-- Depth of the program stack when the loop was opened (R127). -/
  depth : Nat
  deriving DecidableEq, Repr

/-- What a waiting site waits on (R142, R144). -/
inductive WaitKind
  | trig (src : Nat) (edge : Bool)
  | sync
  | rdv (g : Nat)
  deriving DecidableEq, Repr

/-- A WAITT or RDV in progress. -/
structure Wait where
  kind : WaitKind
  timeout : Nat
  toact : Nat
  /-- Keep-alive vectors applied in it. -/
  count : Nat
  /-- Instant at which the word was decoded. -/
  since : Nat
  /-- The release as it reaches the sequencer (R143). -/
  released : Option Nat
  /-- The timeout action falls due at the next keep-alive boundary (R174, R176). -/
  forced : Bool
  deriving DecidableEq, Repr

/-- A MATCH in progress (R138, R139). -/
structure Match where
  n : Nat
  toact : Nat
  target : Nat
  addr : Nat
  nvec : Nat
  /-- Pass being applied, from 1. -/
  pass : Nat
  deriving DecidableEq, Repr

/-- A W = 1 watch over the current segment (R135). -/
structure Watch where
  /-- Opcode: 7 JF, 8 JP, 9 JFL. -/
  op : Nat
  flg : Nat
  pol : Bool
  target : Nat
  deriving DecidableEq, Repr

/-- A delivered compare result whose arrival may be too late for a decision (R130). -/
structure Arrival where
  vec : Nat
  pass : Nat
  /-- Instant at which it reaches the sequencer. -/
  t : Nat
  deriving DecidableEq, Repr

/-- A work item (R403). ENQ is written at acceptance. -/
structure Item where
  typ : Nat
  pl : Nat
  notify : Bool
  src : Nat
  site : Nat
  nosite : Bool
  token : Nat
  arg : Nat
  data : Nat
  /-- Stamp from which a MARK's DATA is counted (R404). -/
  origin : Option Nat
  deriving DecidableEq, Repr

/-- Operating state of a sequencer. -/
structure SqOp where
  /-- Acceptance instant of the last start. -/
  acceptAt : Nat := 0
  /-- Burst start instant. -/
  startAt : Nat := 0
  /-- Start of the next vector. -/
  next : Nat := 0
  /-- Start and timing set of the vector applied last. -/
  lastStart : Nat := 0
  lastTs : Nat := 0
  /-- Vectors applied, keep-alive vectors included. -/
  vec : Nat := 0
  /-- Relative address of the next word. -/
  pc : Nat := 0
  seg : Option Seg := none
  /-- Segment instances begun in the burst, and the address of the SEG word of the current one (R229, R242). -/
  inst : Nat := 0
  segPc : Nat := 0
  /-- A boundary is decided and no word after it has been decoded yet. -/
  atBoundary : Bool := false
  loops : List LoopEntry := []
  calls : List Nat := []
  /-- MARK, FLAG and TSET words waiting for the next segment (R115), oldest first. -/
  acts : List Nat := []
  tsHold : Option Nat := none
  /-- Override in force for the current segment only (TSET NEXT). -/
  tsSeg : Option Nat := none
  /-- Smallest number of a failing vector since the last MARKF (R128). -/
  firstFail : Option Nat := none
  /-- Vector at which the last MARKF acted. -/
  markVec : Nat := 0
  /-- FS set by a MATCH timeout (R140). -/
  forced : Bool := false
  /-- Smallest failing vector that another part of the span reported (R184). -/
  remoteFail : Option Nat := none
  arrivals : List Arrival := []
  /-- Per MATCH pass: bit 0 a result exists, bit 1 one failed (R139). -/
  passRes : Tab Nat := []
  mtch : Option Match := none
  watch : Option Watch := none
  /-- A watch word was decoded and the next word must be a SEG (R135). -/
  watchNext : Option Watch := none
  /-- A MATCH word was decoded: its N, TOACT, TARGET wait for the body (R138). -/
  matchNext : Option (Nat × Nat × Nat) := none
  wait : Option Wait := none
  pauseReq : Option Nat := none
  paused : Bool := false
  /-- Paused because a MARK item is held (R146). -/
  heldPause : Bool := false
  resumeReq : Option Nat := none
  hjump : Option (Nat × Nat) := none
  /-- The host jump that waits has passed a segment boundary (R155). -/
  hjumpPassed : Bool := false
  held : Option Item := none
  /-- First vector of an open pair: its timing set (R96). -/
  pairTs : Option Nat := none
  /-- Burst end instant while ENDING. -/
  endAt : Nat := 0
  /-- An underrun event is running (R208). -/
  under : Bool := false
  /-- An underrun has been latched in this burst (R210). -/
  underSeen : Bool := false
  /-- The boundary came from a taken jump (R157). -/
  jumped : Bool := false
  /-- SQ_JVEC takes the number of the next program vector (R154). -/
  jvec : Bool := false
  /-- Granary clusters read since the start, as a mask (R187). -/
  clusters : Nat := 0
  /-- For a part of a span: the instant + 1 at which it met its start conditions and told the others, 0 before (R183). -/
  spanReady : Nat := 0
  deriving DecidableEq, Repr

/-- A compare result on its way to the Gleaner (R95, R229). -/
structure CmpResult where
  site : Nat
  vec : Nat
  ch : Nat
  fail : Bool
  t : Nat
  /-- Pass of a MATCH body, 0 outside one. -/
  pass : Nat
  above : Bool
  below : Bool
  /-- Expectation: 0 low, 1 high, 2 mid, 3 valid (R243). -/
  exp : Nat
  ts : Nat
  seg : Nat
  /-- Number of the segment instance (R229). -/
  inst : Nat
  deriving DecidableEq, Repr

/-! ### Hopper and Grinders -/

/-- A lane of a bale being decoded (R215, R217). -/
structure Lane where
  /-- Token bytes consumed. -/
  pos : Nat := 0
  /-- Unit bytes emitted, newest first. -/
  out : List Byte := []
  ended : Bool := false
  /-- 0, or the reason that stopped the lane: 8 LENGTH, 9 TOKEN (R218). -/
  err : Nat := 0
  deriving DecidableEq, Repr

/-- A bale that passed the checks before decoding (R222). -/
structure BaleOp where
  idx : Nat
  nv : Nat
  nlane : Nat
  ctll : Bool
  ctldef : Nat
  /-- Body after decryption. -/
  body : List Byte
  /-- Stored bytes, header included. -/
  bytes : Nat
  /-- Instant at which it became usable. -/
  usable : Nat
  lanes : Tab Lane
  deriving DecidableEq, Repr

/-- A 512-byte read request in flight (R203). -/
structure HopReq where
  /-- Discards made when it was issued (R212). -/
  epoch : Nat
  /-- Byte address in DDR, or ring offset in bytes for a host-fed stream. -/
  addr : Nat
  len : Nat
  /-- It reads an entry of the index table (R200). -/
  table : Bool
  deriving DecidableEq, Repr

/-- Operating state of a Hopper. -/
structure HopOp where
  /-- Position in its bale of the next streamed vector. -/
  vpos : Nat := 0
  /-- Index of the bale being assembled. -/
  idx : Nat := 0
  /-- Byte address of the next request. -/
  addr : Nat := 0
  /-- The index table must be read before bales are fetched (R200). -/
  needTable : Bool := false
  /-- Fetching is allowed. -/
  on : Bool := false
  /-- Index of the bale whose failure stopped fetching, with its reason (R223). -/
  failed : Option (Nat × Nat) := none
  epoch : Nat := 0
  reqs : List HopReq := []
  /-- Bytes of the bale being assembled, and whether the data after them was lost to an uncorrectable error. -/
  cur : List Byte := []
  curErr : Bool := false
  bales : List BaleOp := []
  deriving DecidableEq, Repr

/-! ### Memories -/

/-- The byte memories on the chip and attached to it; an unlisted byte reads 0. -/
structure Mems where
  /-- Granary, 48 MiB (R190). -/
  gran : Tab Byte := []
  /-- Quarters of Granary words in error, 1 for two bits and 2 for one: keys word * 4 + quarter (R198). -/
  granErr : Tab Nat := []
  /-- Grinder dictionaries, 352 × 2 KiB (R219). -/
  dict : Tab Byte := []
  /-- Gleaner capture memory, 8 MiB (R237). -/
  cap : Tab Byte := []
  /-- Record memory, 8 MiB (R306). -/
  record : Tab Byte := []
  /-- Record header table, 64 entries of 512 bytes (R310). -/
  recHdr : Tab Byte := []
  /-- Brewer local memories, 256 KiB each (R400). -/
  bw : Tab Byte := []
  /-- DDR5 bytes by subchannel * 2^35 + burst in the subchannel * 64 + byte (R441). -/
  ddr : Tab Byte := []
  /-- QDR-IV 36-bit device words, by port * 2^22 + device word (R461, R462). -/
  qdr : Tab Nat := []
  /-- SPI flash (R392). -/
  flash : Tab Byte := []
  /-- Host memory as the device has written it. -/
  host : Tab Byte := []
  deriving DecidableEq, Repr

/-! ### Barista -/

/-- Where an occupied Barista entry stands (R406, R411, R412). -/
inductive EntryState
  | queued
  | dispatched (brewer : Nat) (at_ : Nat)
  /-- Completed; its report waits for the completion ring. -/
  | reporting (code : Nat) (brewer : Nat) (ts : Nat)
  deriving DecidableEq, Repr

/-- An occupied entry of the Barista. -/
structure Entry where
  item : Item
  /-- ENQ as a full time value, and as an instant. -/
  enq : Nat
  enqAt : Nat
  /-- Order of acceptance. -/
  order : Nat
  st : EntryState
  deriving DecidableEq, Repr

/-- Operating state of the Barista. -/
structure BrstOp where
  /-- The occupied entries; an unlisted entry is free. -/
  entries : Tab Entry := []
  /-- Allocation count of each entry (R408). -/
  seqs : Tab Nat := []
  epoch : Bool := false
  order : Nat := 0
  /-- Entries whose completions wait for the ring, oldest first. -/
  reports : List Nat := []
  /-- Brewers stalled in a take, with the instant from which they wait. -/
  takers : List (Nat × Nat) := []
  /-- Grains of the load window in which each Brewer ran, without the stretch that lasts; start of that stretch plus 1, 0
  for a Brewer that does not run; start of the window (R420). -/
  ran : Tab Nat := []
  runSince : Tab Nat := []
  winStart : Nat := 0
  deriving DecidableEq, Repr

/-! ### Counters and snapshots -/

/-- Operating state of the counter and snapshot logic. -/
structure CntOp where
  /-- Counter values by id (R423). -/
  vals : Tab Nat := []
  /-- Held CNT_L write per counter: value + 1 (R429). -/
  heldLow : Tab Nat := []
  /-- Shadow of bits [47:32] loaded by the last CNT_L read (R429): id and value. -/
  readShadow : Tab Nat := []
  /-- Pending demanded instant, as a full time value without FRAC scaling (2^-16 ns units). -/
  demand : Option Nat := none
  /-- First-fault record waits for the demanded snapshot (R503). -/
  ffrWaits : Bool := false
  /-- No periodic instant before this time value (R434, R438). -/
  notBefore : Nat := 0
  /-- Instants skipped since the previous dump (R437). -/
  skipped : Nat := 0
  /-- The dump being written: its SRC bits and instant. -/
  dump : Option (Nat × Nat) := none
  /-- The dump being written holds the snapshot of the first-fault record. -/
  dumpFfr : Bool := false
  /-- Instants skipped before the dump being written, and EPOCH at its instant. -/
  dumpSkipped : Nat := 0
  dumpEpoch : Nat := 0
  /-- Dumps made since BOOT. -/
  seq : Nat := 0
  deriving DecidableEq, Repr

/-! ### Faults and the Silo -/

/-- A collector slot beyond its registers (R511). -/
structure FltOp where
  wcnt : Nat := 0
  wstart : Nat := 0
  /-- The block asserts its pair. -/
  pair : Bool := false
  /-- The pair reads invalid (R498). -/
  invalid : Bool := false
  /-- End of the quiet period. -/
  quietAt : Nat := 0
  /-- End of the shadow window that this source's reaction opened (R508). -/
  winEnd : Option Nat := none
  /-- The slot whose window shadows this source. -/
  shadowBy : Option Nat := none
  /-- Its reaction isolates its reaction unit. -/
  iso : Bool := false
  /-- Its reaction, or its lock, holds the device in HOLD. -/
  halt : Bool := false
  /-- A memory self-test found the unit failing: the source stays live until the next BOOT (R562). -/
  stuck : Bool := false
  deriving DecidableEq, Repr

/-- Operating state of the collector and the Silo that no register shows. -/
structure SafetyOp where
  /-- Slot under injection, its kind and the end of the injection (R515). -/
  inj : Option (Nat × Nat × Nat) := none
  /-- Last AON clock in which the first-fault record was filled (R504). -/
  ffrClock : Nat := 0
  /-- First arming step done, and its limit (R517). -/
  armStep : Option Nat := none
  /-- End of the armed period. -/
  armedUntil : Nat := 0
  /-- Channels that belong to no site and are held safe, by cause mask. -/
  lone : Tab Nat := []
  /-- SAFE_N holds every channel safe: from its active state until F115 has recovered (R521). -/
  allSafe : Bool := true
  /-- The lockstep cores disagree: releases are ignored (R524). -/
  lockstepBad : Bool := false
  deriving DecidableEq, Repr

/-! ### Host, Ethernet export -/

/-- The completion of a command before it is written (R478), with the per-unit records that precede it (R482). -/
structure Compl where
  tag : Nat
  opcode : Nat
  status : Nat
  reason : Nat
  count : Nat
  okmap : Nat
  failmap : Nat
  /-- STATADDR, 0 for no records. -/
  stat : Nat
  recs : List (List Byte)
  deriving DecidableEq, Repr

/-- Operating state of a command ring (R476). Commands are their 64 bytes; none is one that could not be read. -/
structure RingOp where
  /-- Fetched and not started, oldest first. -/
  waiting : List (Option (List Byte)) := []
  /-- Started, without their effect yet. -/
  running : List (List Byte) := []
  /-- Ended; their completions are not written. -/
  ended : List Compl := []
  deriving DecidableEq, Repr

/-- A START command that waits for the ends of its bursts (R486). -/
structure StartOp where
  ring : Nat
  tag : Nat
  stat : Nat
  /-- Sites whose accepted start has not ended, as a mask. -/
  left : Nat
  /-- Units in ascending order: site, reason, cause, vectors applied. -/
  units : List (Nat × Nat × Nat × Nat)
  deriving DecidableEq, Repr

/-- Operating state of the host interface. -/
structure HostOp where
  rings : Tab RingOp := []
  starts : List StartOp := []
  /-- MSI-X messages sent, by vector, newest first (R474). -/
  sent : List Nat := []
  /-- MSI-X table words written, and the pending bits (R470). -/
  msix : Tab Nat := []
  pba : Nat := 0
  /-- The PCIe link is up (R472). -/
  link : Bool := false
  /-- Bus Master Enable (R472). -/
  bme : Bool := false
  deriving DecidableEq, Repr

/-- Operating state of an Ethernet port: its export queue (R340) and its transmit side. -/
structure EthOp where
  queue : List (List Byte) := []
  /-- Entries dropped since the previous datagram, and the number of the next datagram (R342). -/
  dropped : Nat := 0
  seq : Nat := 0
  /-- When the first entry of the next datagram was queued (R342). -/
  firstAt : Nat := 0
  /-- Frames that the port has sent, newest first. -/
  sent : List (List Byte) := []
  deriving DecidableEq, Repr

/-- A stretch of field cycles over which the time grows by one increment per cycle (R318, R319). -/
structure Piece where
  /-- Its first field cycle. -/
  k : Nat
  /-- The time at the start of that field cycle, in 2^-48 ns. -/
  tb : Nat
  inc : Nat
  deriving DecidableEq, Repr

/-- Operating state of the time base beyond its registers. -/
structure TimeOp where
  /-- The time scale, newest stretch first; with none listed the time counts from 0 at the nominal rate. -/
  pieces : List Piece := []
  /-- Shadow of TIME_NOW bits [95:32] (R320). -/
  shadow : Nat := 0
  /-- Acceptance instant of the pending step, and whether it waits for SYNC (R321). -/
  step : Option (Nat × Bool) := none
  /-- Instant of the last offset used (R328). -/
  lastUsed : Option Nat := none
  /-- Start of the holdover in force. -/
  holdFrom : Nat := 0
  /-- Values of adj on their way to their application instants, oldest first (R331). -/
  adjQ : List (Int × Nat) := []
  /-- FOLLOW: the lead's time for the next SYNC (2^-16 ns), and whether the lead steps there (R331). -/
  leadTime : Option Nat := none
  leadStep : Bool := false
  /-- FOLLOW: a copy of the lead's time waits for a SYNC (R331 to R333). -/
  copy : Bool := false
  /-- FOLLOW: a comparison with the lead's time waits for a SYNC (R332). -/
  compare : Bool := false
  /-- FOLLOW: the chip whose time it last took, if any. -/
  lead : Option Nat := none
  /-- FOLLOW: the link to the lead is down (R332). -/
  linkDown : Bool := false
  deriving DecidableEq, Repr

/-! ### Gleaner -/

/-- A record waiting in the Gleaner's queue (R241). -/
structure GRec where
  site : Nat
  typ : Nat
  bytes : List Byte
  /-- Records of its failing vector, on the vector's first record; 0 on the others; 1 for START, END, UNDERRUN. -/
  group : Nat
  /-- Vector number and stamp, for the FULL record (R239). -/
  vec : Nat
  ts : Nat
  /-- Its vector is the Nth of the burst or of its segment instance (R236). -/
  limit : Bool
  deriving DecidableEq, Repr

/-- The Gleaner's record of a site. -/
structure GlnSite where
  /-- Results of vectors whose results have not all arrived, by vector (R237). -/
  acc : Tab (List CmpResult) := []
  /-- Failing vectors logged in the burst, and in the current segment instance (R236). -/
  logged : Nat := 0
  inst : Nat := 0
  instLogged : Nat := 0
  /-- Next slot of the region to write, counted from its first slot, and slots in use. -/
  wpos : Nat := 0
  used : Nat := 0
  /-- The next record carries GAP (R241). -/
  gap : Bool := false
  held : Option Item := none
  /-- Logging stopped for the burst, FULL or region lost (R239). -/
  stopped : Bool := false
  /-- A STOPLOG item has been offered in the burst. -/
  stopItem : Bool := false
  deriving DecidableEq, Repr

/-- An underrun mark on its way from a Hopper (R208, R238). -/
structure UMark where
  site : Nat
  vec : Nat
  bale : Nat
  off : Nat
  t : Nat
  tset : Nat
  seg : Nat
  deriving DecidableEq, Repr

/-- Operating state of the Gleaner. -/
structure GlnOp where
  queue : List GRec := []
  /-- Bitmap updates in the queue: word and bit, oldest first (R249). -/
  updates : List (Nat × Nat) := []
  sites : Tab GlnSite := []
  /-- Slots whose records wait for export, in order of writing: site, slot (R252). -/
  exports : List (Nat × Nat) := []
  /-- Records copied to the ring and not yet passed by CONS, oldest first: the site whose slot they keep, or 32 (R253). -/
  inRing : List Nat := []
  /-- Shadow of the high half of a low-word read, by the page offset of the high word (R233). -/
  shadow : Tab Nat := []
  /-- Underrun marks from the Hoppers, oldest first (R208). -/
  marks : List UMark := []
  deriving DecidableEq, Repr

/-! ### Converter slices and the scan sequencer -/

/-- A scan entry whose group has started and whose result is not queued (R270 to R272). -/
structure ScanEntry where
  idx : Nat
  slice : Nat
  /-- Sample clocks of its group start and of its first sample. -/
  start : Nat
  first : Nat
  /-- ABUS and channel of a CHAN entry. -/
  chan : Option (Nat × Nat)
  /-- The instant of the switch has passed. -/
  switched : Bool := false
  noconn : Bool := false
  deriving DecidableEq, Repr

/-- Operating state of the scan sequencer and the reference. -/
structure ScanOp where
  /-- Next entry to start, and the sample clock at which its group may start. -/
  next : Nat := 0
  due : Nat := 0
  /-- Last sample clock of the group that started last, and its slices as a mask. -/
  gEnd : Nat := 0
  slices : Nat := 0
  /-- Started entries without a queued result, in entry order. -/
  out : List ScanEntry := []
  /-- Entries waiting for the ring, oldest first (R277). -/
  queue : List (List Byte) := []
  /-- Per bus: the channel + 1 whose switch the scan holds closed, and the channel + 1 that the bus last carried. -/
  closed : Tab Nat := []
  carried : Tab Nat := []
  /-- Ring position of the scan's first entry. -/
  firstPos : Nat := 0
  held : Option Item := none
  /-- Instant of the next period start (R273). -/
  perNext : Nat := 0
  /-- Triggers on their way: source code and instant of arrival (R273). -/
  trigs : List (Nat × Nat) := []
  /-- End of the reference's settle time (R265). -/
  refDue : Nat := 614400000
  deriving DecidableEq, Repr

/-- An urgent conversion in progress (R284). -/
structure UrgOp where
  chan : Nat
  /-- Sample clock of the request, and of the first sample. -/
  req : Nat
  first : Nat
  insel : Nat
  avg : Nat
  shift : Nat
  deriving DecidableEq, Repr

/-- A single-channel run (R281 to R283). -/
structure SingleOp where
  /-- Instant of the request of a run that waits for SYNC. -/
  wait : Option Nat
  /-- Sample clock of sample 0. -/
  start : Nat
  /-- Kept samples accounted for, held in the slice's buffer, and written to the host. -/
  seen : Nat := 0
  inBuf : Nat := 0
  /-- Sample clock at which the run ended. -/
  stop : Option Nat := none
  deriving DecidableEq, Repr

/-- Operating state of a slice. -/
structure AsOp where
  /-- Sample clock + 1 of the last sample with OVR. -/
  ovrAt : Nat := 0
  urg : Option UrgOp := none
  single : Option SingleOp := none
  deriving DecidableEq, Repr

/-- A converted sample (R260). -/
structure Sample where
  code : Int
  ovr : Bool
  suspect : Bool
  deriving DecidableEq, Repr

/-! ### Acquisition -/

/-- A record (R306, R310). -/
structure Rec where
  rseq : Nat
  base : Nat
  armAt : Nat
  /-- Enabled streams as a mask, stream sample period in grains, settings in force at the arm instant. -/
  streams : Nat
  period : Nat
  dec : Nat
  pre : Nat
  post : Nat
  tidx : Nat := 0
  tAt : Nat := 0
  fired : Nat := 0
  tunit : Nat := 0
  apre : Nat := 0
  /-- Output samples per stream, once the record has ended. -/
  nout : Nat := 0
  short : Bool := false
  ovfl : Bool := false
  aborted : Bool := false
  deriving DecidableEq, Repr

/-- Operating state of the acquisition engine. -/
structure AcqOp where
  /-- Instant at which REARM was entered. -/
  rearmAt : Nat := 0
  /-- Records ended since the accepted arm, and a STOP since it (R297). -/
  ended : Nat := 0
  stop : Bool := false
  rseq : Nat := 0
  /-- Start of the next record's region. -/
  base : Nat := 0
  /-- Unreleased records: RSEQ and BASE, oldest first (R308, R309). -/
  recs : List (Nat × Nat) := []
  /-- The record of the current arm. -/
  cur : Option Rec := none
  /-- Stream samples since the arm instant, per enabled stream in ascending order. -/
  smp : List (List Sample) := []
  /-- Trigger events reported and not decided: source code and trigger instant (R299, R300). -/
  evs : List (Nat × Nat) := []
  /-- Analog detectors ready to fire, per unit: bit 0 rising, bit 1 falling (R304). -/
  ready : Tab Nat := []
  /-- Pattern samples taken since the arm instant, and whether the condition held at the last one (R305). -/
  patSeen : Nat := 0
  patHeld : Bool := false
  /-- Ended records whose header is not written, oldest first, with their samples per stream. -/
  finishing : List (Rec × List (List Sample)) := []
  held : Option Item := none
  deriving DecidableEq, Repr

/-! ### DDR5 subchannels and control ROMs -/

/-- Operating state of a subchannel beyond its registers. -/
structure DcOp where
  /-- Self-refresh was entered while FROZEN (R457). -/
  frozen : Bool := false
  /-- The last MR4 reading showed NORMAL (R452). -/
  cool : Bool := true
  /-- ZQ status and time of the last calibration (R391). -/
  zq : Nat := 0
  zqAt : Nat := 0
  deriving DecidableEq, Repr

/-- A context of a control ROM's engine (R377 to R387). -/
structure MicroCtx where
  active : Bool := false
  /-- The word it stands at, and the instant at which that word began. -/
  upc : Nat := 0
  since : Nat := 0
  /-- First word of the routine, and its number within the ROM. -/
  entry : Nat := 0
  routine : Nat := 0
  /-- Micro-stack, top first. -/
  stack : List Nat := []
  /-- The current word waits. -/
  waiting : Bool := false
  timer0 : Nat := 0
  timer1 : Nat := 0
  /-- The commit point has passed. -/
  committed : Bool := false
  restarts : Nat := 0
  deriving DecidableEq, Repr
/-! ### Brewer cores -/

/-- What holds up a Brewer core. -/
inductive Stall
  | none
  /-- In BARISTA_TAKE, with the destination register. -/
  | take (rd : Nat)
  | wfi
  deriving DecidableEq, Repr

/-- A Brewer core (R397, R398): RV32IMAC with machine and user modes. -/
structure BwOp where
  /-- Registers x1 to x31. -/
  x : Tab Nat := []
  pc : Nat := 0
  /-- User mode. -/
  user : Bool := false
  mstatus : Nat := 0
  mie : Nat := 0
  mtvec : Nat := 0
  mscratch : Nat := 0
  mepc : Nat := 0
  mcause : Nat := 0
  mtval : Nat := 0
  mcounteren : Nat := 0
  menvcfg : Nat := 0
  /-- PMP configuration bytes and addresses of the 8 entries. -/
  pmpcfg : Tab Nat := []
  pmpaddr : Tab Nat := []
  /-- `mtime` at an instant, and that instant; `mtimecmp`. -/
  mtime : Nat := 0
  mtimeAt : Nat := 0
  mtimecmp : Nat := 0
  /-- Address that LR.W reserved. -/
  reserved : Option Nat := none
  stall : Stall := .none
  /-- Instant at which its next clock begins. -/
  t : Nat := 0
  /-- A notice of the fault collector stands (R499). -/
  notice : Bool := false
  /-- The debug module has halted it (R548), and its debug registers. -/
  halted : Bool := false
  /-- A halt request waits for the end of a take. -/
  haltReq : Bool := false
  dcsr : Nat := 0x40000003
  dpc : Nat := 0
  deriving DecidableEq, Repr

/-! ### The Abamora Link -/

/-- Operating state of an AML port (R489 to R494). -/
structure AmlOp where
  /-- LSEQ of the next flit to send, and the last one received in order. -/
  next : Nat := 0
  lastRx : Nat := 0
  /-- Flits sent and not acknowledged, oldest first; those that wait until fewer than 32 are. -/
  unacked : List Flit := []
  waiting : List Flit := []
  /-- What was put on the link, newest first. -/
  sent : List Flit := []
  /-- Consecutive replays without an acknowledgement. -/
  replays : Nat := 0
  deriving DecidableEq, Repr


/-! ### Winnower and test access -/

/-- Operating state of the Winnower beyond its registers (R347). -/
structure WinnOp where
  /-- Sheaves, sites and slices held, as masks. -/
  sheaves : Nat := 0
  sites : Nat := 0
  slices : Nat := 0
  /-- Units of the running procedure that have neither committed nor failed. -/
  todo : List Nat := []
  /-- Acceptance instant of the last procedure. -/
  startAt : Nat := 0
  /-- Sites whose automatic LOOP run is due, as a mask (R364, R369). -/
  due : Nat := 0
  /-- The zero point of each system-calibration set, in 1/256 LSB (R367). -/
  zeros : Tab Int := []
  /-- A DESKEW has recorded its temperature (R363). -/
  deskewed : Bool := false
  /-- The active voltage calibration used external references (R355). -/
  trace : Bool := false
  /-- A factory image was loaded and no calibration field has changed since (R374). -/
  factory : Bool := false
  /-- The running image operation: 0 SAVE, 1 LOAD, 2 FLASHLOAD, 3 FLASHSAVE (R373, R374). -/
  img : Option Nat := none
  /-- MCSKEW runs; a chip of the group was lost while it ran (R365, R491). -/
  mc : Bool := false
  mcLost : Bool := false
  /-- Phases and reasons of the chips for MCSKEW, as (chip, phase, reason); crossing times of span parts for LOOP, by
  span * 16 + chip (R364, R365). -/
  farPhase : List (Nat × Int × Nat) := []
  farLoop : Tab Nat := []
  deriving DecidableEq, Repr

/-- Instructions of the TAP (R548). -/
inductive TapInstr | bypass | idcode | samplePreload | extest
  deriving DecidableEq, Repr

/-- The JTAG TAP (R548, R549). -/
structure TapOp where
  /-- The instruction in force. -/
  ir : TapInstr := .idcode
  /-- What the last capture of the selected register took, and the boundary-scan cells as preloaded. -/
  captured : Nat := 0
  cells : Nat := 0
  /-- EXTEST drives channel balls. -/
  extest : Bool := false
  deriving DecidableEq, Repr

/-! ### Modes, power, security -/

/-- Operating state of the mode controller, the power sequencer, the key store and the I3C target. -/
structure MgmtOp where
  /-- The mode to which a change in progress leads (R530). -/
  target : Option Nat := none
  /-- Domains powering down and domains waiting for their batch, as masks (R540). -/
  down : Nat := 0
  up : Nat := 0
  /-- What the checks of a BOOT that waits for REFCLK will find (R558, R560). -/
  boot : Option BootFindings := none
  /-- Instant from which the BOOT is counted (R564). -/
  bootFrom : Nat := 0
  /-- The lifecycle fuse is blown (R543). -/
  sealed : Bool := false
  /-- A token is being verified: it verifies, and its TARGET (R551). -/
  token : Option (Bool × Nat) := none
  /-- The level or lifecycle that becomes active when zeroisation ends: TARGET of the token (R551). -/
  afterZero : Option Nat := none
  /-- Dynamic address of the I3C target, and the last offset set (R554). -/
  i3cAddr : Option Nat := none
  i3cOff : Nat := 0
  deriving DecidableEq, Repr

/-- The state of the block. -/
structure State where
  /-- The instant of the latest event, in grains since the first field cycle. -/
  now : Nat := 0
  /-- Active register fields. -/
  regs : Tab Nat := []
  /-- Pending copies of STAGED fields (R11). -/
  staged : Tab Nat := []
  pageOps : Tab PageOp := []
  ch : Tab ChOp := []
  sh : Tab ShOp := []
  cg : Tab CgOp := []
  clk : ClkOp := {}
  sq : Tab SqOp := []
  hop : Tab HopOp := []
  /-- Compare results on their way to the Gleaner, oldest first. -/
  results : List CmpResult := []
  mem : Mems := {}
  /-- AML ports; the next origin sequence number; origins and sequence numbers of flits seen, newest first (R493). -/
  aml : Tab AmlOp := []
  amlOseq : Nat := 0
  amlSeen : List (Nat × Nat) := []
  gln : GlnOp := {}
  brst : BrstOp := {}
  cnt : CntOp := {}
  scan : ScanOp := {}
  slice : Tab AsOp := []
  acq : AcqOp := {}
  dc : Tab DcOp := []
  /-- What the requests of the last DDR_REQUEST completed with, in order of service: their places in the command, and the
  data of a read; none is an error. -/
  ddrReplies : List (Nat × Option (List Byte)) := []
  /-- Contexts of the control ROMs, by 4 * u + context. -/
  micro : Tab MicroCtx := []
  bwc : Tab BwOp := []
  winn : WinnOp := {}
  tap : TapOp := {}
  mgmt : MgmtOp := {}
  /-- Pattern keys by slot, plus 1; 0 is an empty slot (R545). -/
  keys : Tab Nat := []
  host : HostOp := {}
  eth : Tab EthOp := []
  time : TimeOp := {}
  flt : Tab FltOp := []
  safety : SafetyOp := {}
  /-- The model's own counter of free values drawn. -/
  free : Nat := 0
  /-- The value that the last register read returned. -/
  rdata : Nat := 0
  /-- The commands that wait, first in, first out. -/
  pending : List Instr := []
  deriving DecidableEq, Repr

/-- The machine right after it enters BOOT (R20, R558): every register field at its reset value, every record at its
default, no command waiting. -/
def State.reset : State := {}

end Sys2Proof.Machine
end

