-- ==== Sys2Proof/Machine/Ops.lean ====
section
/-! DEFINITION. The shared operations: time, register fields, ownership, power, counters, interrupts, error pairs. -/

namespace Sys2Proof.Machine

open Reg

/-! ### Time (R4, R316 to R319) -/

/-- Grains in a field cycle. -/
def fcG : Nat := 1024

/-- Grains in a microsecond: 3,000 field cycles. -/
def usG : Nat := 3072000

/-- Grains in a millisecond. -/
def msG : Nat := 3072000000

/-- The first field-cycle boundary at or after an instant. -/
def fcCeil (t : Nat) : Nat := (t + 1023) / 1024 * 1024

/-- The nominal increment per field cycle, 2^48 / 3 rounded down, in 2^-48 ns (R319). -/
def incNom : Nat := 93824992236885

/-- The limit of the servo's correction, 1,000 ppm (R319). -/
def adjMax : Int := 93824992236

/-- One second in 2^-48 ns. -/
def secUnits : Nat := 1000000000 * 2 ^ 48

/-- A time in 2^-16 ns as the 96-bit full format (R316). -/
def packTime (u : Nat) : Nat :=
  let sec := u / (1000000000 * 65536)
  let r := u % (1000000000 * 65536)
  sec % 2 ^ 48 * 2 ^ 48 + r / 65536 * 65536 + r % 65536

/-- The 2^-16 ns count of a 96-bit full time (R316). -/
def unpackTime (t : Nat) : Nat :=
  t / 2 ^ 48 % 2 ^ 48 * (1000000000 * 65536) + t / 65536 % 2 ^ 32 * 65536 + t % 65536

/-- The short format of a full time value (R317). -/
def shortTime (t : Nat) : Nat :=
  t / 2 ^ 48 % 2 ^ 32 * 2 ^ 32 + (t / 65536 % 2 ^ 32 * 4 + t / 16384 % 4) % 2 ^ 32

/-! ### Register fields -/

/-- The default severity of a fault slot (R500). -/
def sevReset (n : Nat) : Nat :=
  if n < 40 then 1
  else if n < 58 then 2
  else if n = 58 then 1
  else if n < 64 then 2
  else if n = 64 then 1
  else if n < 69 then 2
  else if n = 69 then 1
  else if n = 70 then 2
  else if n < 76 then 1
  else if n = 76 then 0
  else if n = 77 then 2
  else if n < 100 then 1
  else if n < 102 then 2
  else if n = 102 then 1
  else if n = 103 then 2
  else if n < 114 then 1
  else if n = 114 then 3
  else if n = 115 then 1
  else if n < 118 then 3
  else if n = 118 then 0
  else if n = 119 then 3
  else if n = 255 then 1
  else 0

/-- The lowest severity that a slot may be set to (R500). -/
def sevFloor (n : Nat) : Nat :=
  if n < 40 then 1
  else if 105 ≤ n ∧ n ≤ 113 then 1
  else if n = 114 then 3
  else if n = 115 ∨ n = 116 then 1
  else if n = 117 ∨ n = 119 then 3
  else if n = 255 then 1
  else 0

/-- Reset value of an element of a field: the map's, or the slot's for the fields marked "per table". -/
def resetVal (p : Page) (f : Field) (i : Nat) : Nat :=
  if p.kind = .flt ∧ f = FLT_CFG_SEV then sevReset i else f.reset

/-- The active value of a register field, cut to its width. -/
def State.rd (s : State) (p : Page) (f : Field) (i : Nat := 0) (j : Nat := 0) : Nat :=
  tabGet (resetVal p f i) s.regs (fieldKey p f i j) % 2 ^ f.width

/-- A register field given a value, cut to its width. -/
def State.wr (s : State) (p : Page) (f : Field) (v : Nat) (i : Nat := 0) (j : Nat := 0) : State :=
  { s with regs := tabPut (resetVal p f i) s.regs (fieldKey p f i j) (v % 2 ^ f.width) }

/-- A one-bit field as a Bool. -/
def State.bit (s : State) (p : Page) (f : Field) (i : Nat := 0) (j : Nat := 0) : Bool := s.rd p f i j ≠ 0

/-- A field raised by a number, stopping at its largest value. -/
def State.satAdd (s : State) (p : Page) (f : Field) (n : Nat) (i : Nat := 0) (j : Nat := 0) : State :=
  s.wr p f (min (s.rd p f i j + n) (2 ^ f.width - 1)) i j

/-- Bit `k` of a field set or cleared. -/
def State.wrBit (s : State) (p : Page) (f : Field) (k : Nat) (b : Bool) (i : Nat := 0) (j : Nat := 0) : State :=
  s.wr p f (setBit (s.rd p f i j) k b) i j

/-- A 96-bit value written to a trio of 32-bit fields. -/
def State.wr3 (s : State) (p : Page) (f0 f1 f2 : Field) (v : Nat) (i : Nat := 0) : State :=
  ((s.wr p f0 v i).wr p f1 (v / 2 ^ 32) i).wr p f2 (v / 2 ^ 64) i

/-! ### Page names -/

def pSh (n : Nat) : Page := ⟨.sh, n⟩
def pSq (n : Nat) : Page := ⟨.sq, n⟩
def pBw (n : Nat) : Page := ⟨.bw, n⟩
def pAs (n : Nat) : Page := ⟨.asn, n⟩
def pDc (n : Nat) : Page := ⟨.dc, n⟩
def pEth (n : Nat) : Page := ⟨.eth, n⟩
def pAml (n : Nat) : Page := ⟨.aml, n⟩
def pClk : Page := ⟨.clk, 0⟩
def pFlt : Page := ⟨.flt, 0⟩
def pSilo : Page := ⟨.silo, 0⟩
def pMode : Page := ⟨.mode, 0⟩
def pPwr : Page := ⟨.pwr, 0⟩
def pSec : Page := ⟨.sec, 0⟩
def pDbg : Page := ⟨.dbg, 0⟩
def pDev : Page := ⟨.dev, 0⟩
def pTime : Page := ⟨.time, 0⟩
def pCnt : Page := ⟨.cnt, 0⟩
def pBrst : Page := ⟨.brst, 0⟩
def pUc : Page := ⟨.ucode, 0⟩
def pWinn : Page := ⟨.winn, 0⟩
def pHost : Page := ⟨.host, 0⟩
def pDdr : Page := ⟨.ddr, 0⟩
def pQdr : Page := ⟨.qdr, 0⟩
def pAscan : Page := ⟨.ascan, 0⟩
def pAcq : Page := ⟨.acq, 0⟩
def pGran : Page := ⟨.gran, 0⟩
def pHop : Page := ⟨.hop, 0⟩
def pGrnd : Page := ⟨.grnd, 0⟩
def pGln : Page := ⟨.gln, 0⟩

/-- The key under which a Granary cluster's isolation is held beside the pages. -/
def clusterKey (c : Nat) : Nat := 0x10000000 + c

/-- The key under which the training engine's isolation is held beside the pages. -/
def trainerKey : Nat := 0x10000010

/-! ### Records by index -/

/-- The record of channel `c`. -/
def State.chan (s : State) (c : Nat) : ChOp := tabGet {} s.ch c
/-- The record of channel `c` changed. -/
def State.modCh (s : State) (c : Nat) (f : ChOp → ChOp) : State := { s with ch := tabMod {} s.ch c f }
/-- The record of sequencer `n`. -/
def State.sqo (s : State) (n : Nat) : SqOp := tabGet {} s.sq n
/-- The record of sequencer `n` changed. -/
def State.modSq (s : State) (n : Nat) (f : SqOp → SqOp) : State := { s with sq := tabMod {} s.sq n f }
/-- The record of Hopper `n`. -/
def State.hopo (s : State) (n : Nat) : HopOp := tabGet {} s.hop n
/-- The record of Hopper `n` changed. -/
def State.modHop (s : State) (n : Nat) (f : HopOp → HopOp) : State := { s with hop := tabMod {} s.hop n f }
/-- The collector's record of slot `n`. -/
def State.flto (s : State) (n : Nat) : FltOp := tabGet {} s.flt n
/-- The collector's record of slot `n` changed. -/
def State.modFlt (s : State) (n : Nat) (f : FltOp → FltOp) : State := { s with flt := tabMod {} s.flt n f }
/-- What holds the block of a page. -/
def State.pageo (s : State) (p : Page) : PageOp := tabGet {} s.pageOps (pageBase p)
/-- What holds the block of a page changed. -/
def State.modPage (s : State) (p : Page) (f : PageOp → PageOp) : State :=
  { s with pageOps := tabMod {} s.pageOps (pageBase p) f }

/-- A free value drawn, and the state with the draw counted. -/
def State.draw (s : State) : Nat × State := (Config.freeValue s.free, { s with free := s.free + 1 })

/-- A delay of 64 fc ± 1 fc, free within its bounds (R36, R273); the value of the next draw. -/
def State.delay64 (s : State) : Nat := 63 * fcG + s.draw.1 % (2 * fcG + 1)

/-! ### Passing of time -/

/-- The stretch of the time scale that holds a field cycle. -/
def State.piece (s : State) (k : Nat) : Piece :=
  (s.time.pieces.find? fun p => decide (p.k ≤ k)).getD { k := 0, tb := 0, inc := incNom }

/-- The increment per field cycle in force (R319). -/
def State.inc (s : State) : Nat := (s.piece (s.now / fcG)).inc

/-- The time in 2^-48 ns at an instant: the time of its field cycle plus its grains (R318). -/
def State.timeUnits (s : State) (t : Nat) : Nat :=
  let p := s.piece (t / fcG)
  p.tb + (t / fcG - p.k) * p.inc + t % fcG * p.inc / fcG

/-- The time at an instant in 2^-16 ns, rounded half up (R318). -/
def State.timeFrac (s : State) (t : Nat) : Nat := (s.timeUnits t + 2 ^ 31) / 2 ^ 32

/-- The time-stamp of an instant in the full format (R29, R316). -/
def State.stampAt (s : State) (t : Nat) : Nat := packTime (s.timeFrac t)

/-- The state once time has come to an instant. -/
def State.advanceTo (s : State) (t : Nat) : State := if s.now < t then { s with now := t } else s

/-! ### Power and modes -/

/-- Operating modes (R528). -/
def modeOff : Nat := 0

/-- Power domain `d` is on (R537). -/
def State.domainOn (s : State) (d : Nat) : Bool :=
  bitAt (if d < 32 then s.rd pPwr PWR_STAT0_ON else if d < 64 then s.rd pPwr PWR_STAT1_ON else s.rd pPwr PWR_STAT2_ON)
    (d % 32)

/-! ### Sites (R160 to R163, R598) -/

/-- Site n is ARMED or running (R598). -/
def State.siteBusy (s : State) (n : Nat) : Bool := s.rd (pSq n) SQ_STAT_STATE ≠ 0

/-- Any site is ARMED or running. -/
def State.anySiteBusy (s : State) : Bool := (List.range 32).any s.siteBusy

/-- The site that owns channel c of the device, given the routing fields of its sheaf (R160). -/
def routeSite (split loEn hiEn : Bool) (lo hi k : Nat) : Option Nat :=
  if split && decide (4 ≤ k) then (if hiEn then some hi else none) else (if loEn then some lo else none)

/-- The site that owns a channel (R160). -/
def State.siteOf (s : State) (c : Nat) : Option Nat :=
  let p := pSh (c / 8)
  routeSite (s.bit p SH_SITE_SPLIT) (s.bit p SH_SITE_LO_EN) (s.bit p SH_SITE_HI_EN) (s.rd p SH_SITE_LO_SITE)
    (s.rd p SH_SITE_HI_SITE) (c % 8)

/-- The channels of a site in site-pin order (R161). -/
def State.channelsOf (s : State) (n : Nat) : List Nat := (List.range 320).filter fun c => s.siteOf c = some n

/-- The sites that own a channel of a sheaf. -/
def State.sitesOfSheaf (s : State) (k : Nat) : List Nat :=
  ((List.range 8).filterMap fun i => s.siteOf (8 * k + i)).eraseDups

/-- The Winnower holds site n, or a sheaf of which it owns a channel, or an automatic LOOP run of it is due (R347, R364). -/
def State.winnHolds (s : State) (n : Nat) : Bool :=
  bitAt s.winn.sites n || bitAt s.winn.due n || (List.range 40).any fun k => bitAt s.winn.sheaves k && (s.sitesOfSheaf k).contains n

/-- A site counts as running for its QUIET fields: it is ARMED or running, or the Winnower holds it (R347, R598). -/
def State.siteOccupied (s : State) (n : Nat) : Bool := s.siteBusy n || s.winnHolds n

/-- Site n is a part of a span (R182). -/
def State.inSpan (s : State) (n : Nat) : Bool := s.bit pClk SPAN_CFG_EN n

/-- Site n is the lead of its span: no part is known on a chip with a lower number (R182). -/
def State.isLead (s : State) (n : Nat) : Bool :=
  s.inSpan n && !((List.range (s.rd pClk GRP_CFG_CHIP_ID)).any fun c =>
    tabGet 0 s.clk.spanParts (s.rd pClk SPAN_CFG_SPAN n * 16 + c) ≠ 0)

/-- A domain's reaction unit is isolated: a request to turn it on waits (R542). -/
def State.domainIso (s : State) (d : Nat) : Bool :=
  ((domainPages d).filter fun p => !spreadKind p.kind).any (fun p => (s.pageo p).iso)
    || (decide (40 ≤ d ∧ d < 56) && (tabGet {} s.pageOps (clusterKey ((d - 40) / 4))).iso)

/-- The next batch: at most eight domains in ascending order (R540). -/
def State.upBatch (s : State) : List Nat := ((setBits s.mgmt.up 80).filter fun d => !s.domainIso d).take 8

/-! ### Command rings (R476, R486) -/

/-- The record of ring n. -/
def State.ring (s : State) (n : Nat) : RingOp := tabGet {} s.host.rings n

/-- The record of ring n changed. -/
def State.modRing (s : State) (n : Nat) (f : RingOp → RingOp) : State :=
  { s with host := { s.host with rings := tabMod {} s.host.rings n f } }

/-- Commands of ring n that started and whose completion is not written: each has its entry reserved. -/
def State.ringReserved (s : State) (n : Nat) : Nat :=
  (s.ring n).running.length + (s.ring n).ended.length + (s.host.starts.filter fun x => x.ring = n).length

/-- A command of ring n runs. -/
def State.ringRuns (s : State) (n : Nat) : Bool := decide (0 < s.ringReserved n)

/-! ### Page state (R22, R590) and busy conditions -/

/-- The pages of a sequencer group read RESET while their control ROM's signature fails (R394). -/
def State.romHolds (s : State) (p : Page) : Bool :=
  match p.kind with
  | .sq => s.bit pUc UC_STAT_SIGFAIL (p.inst / 4)
  | .winn => s.bit pUc UC_STAT_SIGFAIL 8
  | _ => false

/-- PAGE_STAT.STATE (R590): the lowest value of the causes that hold. -/
def State.pageState (s : State) (p : Page) : Nat :=
  if (pageDomains p).any fun d => !s.domainOn d then 0
  else if (capRst p.kind && !s.bit p PAGE_CTL_EN) || (s.pageo p).rst || s.romHolds p then 1
  else if (s.pageo p).iso then 2
  else if (s.pageo p).restoring then 3
  else 4

/-- The page's busy condition, as its chapter defines it, before R590's restriction to READY. -/
def State.busyCond (s : State) (p : Page) : Bool :=
  match p.kind with
  | .sh => (s.sitesOfSheaf p.inst).any s.siteBusy || bitAt s.winn.sheaves p.inst
  | .sq => s.siteOccupied p.inst
  | .clk | .gran | .hop | .grnd | .time => s.anySiteBusy
  | .gln => s.anySiteBusy || s.bit pGln GLN_BRD_CTL_BUSY
      || (List.range 32).any fun n => s.bit pGln GLN_SCFG_EXPORT n && s.siteBusy n
  | .ascan => s.bit pAscan ASCAN_STAT_RUN || (List.range 4).any (fun n => s.rd (pAs n) AS_STAT_ACT ≠ 0 || s.bit (pAs n) AS_STAT_URG)
      || s.rd pAcq ACQ_STAT_STATE ≠ 0
  | .asn => s.rd p AS_STAT_ACT ≠ 0 || s.bit p AS_STAT_URG || bitAt s.winn.slices p.inst
  | .qdr => !s.gln.updates.isEmpty || s.bit pGln GLN_BRD_CTL_BUSY
  | .acq => s.rd pAcq ACQ_STAT_STATE ≠ 0 || !s.acq.finishing.isEmpty
  | .eth => s.bit p ETH_CFG_EN
  | .winn => s.rd pWinn WINN_STAT_STATE = 1 || s.bit pWinn WINN_IMG_STAT_BUSY
  | .brst => s.brst.entries ≠ []
  | .bw => s.bit p BW_CTL_RUN && !s.bit p BW_STAT_RESET
  | .cnt => s.bit pCnt CNT_CFG_PEN || s.cnt.demand.isSome || s.cnt.dump.isSome
  | .flt => ((List.range 256).any fun n => s.rd pFlt FLT_SSTAT_STATE n ≠ 0 || (s.flto n).winEnd.isSome) || s.safety.inj.isSome
  | .silo => s.rd pSilo SILO_SAFE_SAFE ≠ 0
  | .mode => s.bit pMode MODE_STAT_PEND
  | .pwr => s.mgmt.down ≠ 0 || !s.upBatch.isEmpty
  | .sec => s.bit pSec SEC_KSTAT_ZBUSY
  | .dbg => s.bit pDbg DBG_STAT_BUSY
  | .host => (List.range 8).any fun n => s.bit pHost HOST_CR_CFG_EN n
  | .aml => s.bit p AML_CFG_EN
  | .ddr => (List.range 4).any fun n => let st := s.rd (pDc n) DC_STAT_STATE; st ≠ 2 && st ≠ 4 && st ≠ 5
  | .dc => let st := s.rd p DC_STAT_STATE; st = 1 || st = 3
  | _ => false

/-- PAGE_STAT.BUSY: 0 in every state but READY (R584). -/
def State.pageBusy (s : State) (p : Page) : Bool := s.pageState p = 4 && s.busyCond p

/-- A write to the page was discarded (R9, R10). -/
def State.werr (s : State) (p : Page) : State := s.wr p PAGE_STAT_WERR 1

/-! ### Counters (R423, R431) -/

/-- The power domain of a counter's island, none for AON (R424). -/
def counterDomain (id : Nat) : Option Nat :=
  if id < 0x100 then some (56 + id / 8 / 4)
  else if id < 0x200 then some (56 + (id - 0x100) / 8 / 4)
  else if id < 0x280 then some (75 + (id - 0x200) / 64)
  else if id < 0x2C0 then some 77
  else if id < 0x300 then some 73
  else if id < 0x320 then some (64 + (id - 0x300) / 8)
  else if id < 0x340 then some 68
  else if id < 0x360 then some (69 + (id - 0x340) / 8)
  else if id < 0x364 then some 73
  else if id < 0x380 then some 74
  else if id < 0x398 then some 78
  else if id < 0x3A0 then some 77
  else if id < 0x3B0 then some 78
  else if id < 0x3C0 then none
  else if id < 0x3D0 then some (40 + (id - 0x3C0) / 4 * 4)
  else if id < 0x3D8 then some 79
  else some 73

/-- The ids of the catalogue; the others are reserved (R423). -/
def counterValid (id : Nat) : Bool :=
  decide (id < 0x100) || (decide (0x100 ≤ id ∧ id < 0x200) && decide (id % 8 ≠ 7)) || decide (0x200 ≤ id ∧ id < 0x2A4)
  || decide (0x2C0 ≤ id ∧ id < 0x2C8) || (decide (0x300 ≤ id ∧ id < 0x320) && decide (id % 8 < 4))
  || decide (0x320 ≤ id ∧ id < 0x324) || decide (0x328 ≤ id ∧ id < 0x32E) || decide (0x340 ≤ id ∧ id < 0x360)
  || (decide (0x360 ≤ id ∧ id < 0x368) && decide (id % 4 ≠ 3)) || decide (0x380 ≤ id ∧ id < 0x384)
  || decide (0x388 ≤ id ∧ id < 0x39C) || decide (0x3A0 ≤ id ∧ id < 0x3D6) || decide (0x400 ≤ id ∧ id < 0x580)

/-- Counter `id` counts `n` events; a wrap sets its OVF bit (R431). -/
def State.count (s : State) (id : Nat) (n : Nat := 1) : State :=
  let v := tabGet 0 s.cnt.vals id + n
  let s1 := { s with cnt := { s.cnt with vals := tabPut 0 s.cnt.vals id (v % 2 ^ 48) } }
  if 2 ^ 48 ≤ v then s1.wrBit pCnt CNT_OVF_OVF (id % 32) true (id / 32) else s1

/-- The value of a counter. -/
def State.counter (s : State) (id : Nat) : Nat := tabGet 0 s.cnt.vals id

/-! ### Brewer local memories (R399, R401) -/

/-- Bytes written to the local memories, 256 KiB per Brewer; a core's reservation on a word of them ends. -/
def State.bwPut (s : State) (a : Nat) (bs : List Byte) : State :=
  let s1 : State := { s with mem := { s.mem with bw := memPutBytes s.mem.bw a bs } }
  (List.range 16).foldl (fun s n =>
    match (tabGet {} s.bwc n).reserved with
    | some w =>
      if bs ≠ [] && decide (a / 4 ≤ w ∧ w ≤ (a + bs.length - 1) / 4) then
        { s with bwc := tabMod {} s.bwc n fun c => { c with reserved := none } }
      else s
    | none => s) s1

/-! ### Host memory and interrupts (R472, R474) -/

/-- The device can reach host memory (R472). -/
def State.hostOk (s : State) : Bool := s.host.link && s.host.bme && s.domainOn 79

/-- Bytes written to host memory by the device. -/
def State.hostWrite (s : State) (a : Nat) (bs : List Byte) : State :=
  { s with mem := { s.mem with host := memPutBytes s.mem.host a bs } }

/-- Bytes written to host memory by the DMA engine (R423, R482). -/
def State.dmaWrite (s : State) (a : Nat) (bs : List Byte) : State := (s.hostWrite a bs).count 0x3D3 bs.length

/-- Message of vector v is sent, or becomes pending while the vector is masked (R474). -/
def State.sendMsi (s : State) (v : Nat) : State :=
  if bitAt (tabGet 1 s.host.msix (4 * v + 3)) 0 || !s.hostOk then
    { s with host := { s.host with pba := setBit s.host.pba v true } }
  else { s with host := { s.host with sent := v :: s.host.sent } }

/-- The event of interrupt cause c (R474). -/
def State.raiseCause (s : State) (c : Nat) : State :=
  if bitAt (s.rd pHost HOST_ISTAT_PEND) c then s
  else
    let s1 := s.wrBit pHost HOST_ISTAT_PEND c true
    if s.bit pHost HOST_IMAP_EN c then s1.sendMsi (s.rd pHost HOST_IMAP_VEC c) else s1

/-- A ring of `size` slots is full (producer + 1 = consumer); a host ring also while host memory cannot be written. -/
def ringFull (prod cons size : Nat) : Bool := (prod + 1) % size = cons

/-! ### Error pairs (R497) -/

/-- A block drives its error pair: asserted or clear. -/
def State.drivePair (s : State) (slot : Nat) (b : Bool) : State := s.modFlt slot fun o => { o with pair := b }

/-- The pairs that follow the status bits of a page: each is asserted while its bits are set (R500). -/
def State.pagePairs (s : State) (p : Page) : State :=
  match p.kind with
  | .gran => s.drivePair 58 (s.bit p GRAN_STAT_UE || s.bit p GRAN_STAT_SCRUBE)
  | .qdr => s.drivePair 64 (s.bit p QDR_STAT_PERR || s.bit p QDR_STAT_APERR || s.bit p QDR_STAT_TRFAIL)
  | .ascan => s.drivePair 69 (s.bit p AREF_STAT_EXTBAD)
  | .dc =>
    let st := s.rd p DC_STAT_STATE
    s.drivePair (71 + p.inst) (st = 4 || st = 5 || s.bit p DC_STAT_LIMIT)
  | .clk => (s.drivePair 75 (s.bit p SYNC_STAT_IRREG || s.bit p SYNC_STAT_LOST)).drivePair 76 (s.bit p GRP_STAT_AMLLATE)
  | .aml => s.drivePair (78 + p.inst) (s.bit p AML_STAT_SYNCMIS || s.bit p AML_STAT_RETRYFAIL)
  | .bw => s.drivePair (84 + p.inst) (s.bit p BW_STAT_UE)
  | .brst => s.drivePair 102 (s.bit p BRST_STAT_TMO)
  | .ucode => (List.range 10).foldl (fun s u => s.drivePair (48 + u) (s.bit p UC_STAT_SIGFAIL u || s.bit p UC_STAT_STKERR u
      || s.bit p UC_STAT_ADDRERR u || s.bit p UC_STAT_RLIMIT u)) s
  | _ => s

/-- The level that a sheaf's conditions give its pair (R67). -/
def State.sheafPair (s : State) (k : Nat) : State :=
  s.drivePair k ((List.range 8).any fun i => (s.chan (8 * k + i)).ocLive || (s.chan (8 * k + i)).oorLive)

/-! ### Sending over the Abamora Link (R490, R493, R494) -/

/-- A port in state UP or SAFE carries a message under the minor version in use (R490). -/
def State.amlCarries (s : State) (p : Nat) (m : AmlMsg) : Bool :=
  let st := s.rd (pAml p) AML_STAT_STATE
  let minor := s.rd (pAml p) AML_NEG_MINOR
  s.pageState (pAml p) = 4 && (match m with
    | .ack | .syncm _ | .trig _ _ | .flag _ _ _ _ => st = 3 || st = 4
    | .capx _ _ _ => st = 2
    | .rdv _ _ _ => st = 3
    | .span _ _ _ => st = 3 && decide (1 ≤ minor)
    | .adj _ _ | .time _ _ _ | .cal _ => st = 3 && decide (2 ≤ minor))

/-- A flit goes out on a port with the port's next LSEQ, or waits while 32 are not acknowledged (R494). -/
def State.amlPut (s : State) (p : Nat) (f : Flit) : State :=
  let o := tabGet {} s.aml p
  let g := { f with lseq := o.next, ack := o.lastRx }
  let o1 := { o with next := (o.next + 1) % 256 }
  if o.unacked.length < 32 then
    ({ s with aml := tabPut {} s.aml p { o1 with unacked := o.unacked ++ [g], sent := g :: o.sent } }).count (0x3A0 + 4 * p)
  else { s with aml := tabPut {} s.aml p { o1 with waiting := o.waiting ++ [g] } }

/-- A message of this chip floods every port that carries it (R493). -/
def State.amlSend (s : State) (m : AmlMsg) : State :=
  let f : Flit := { origin := s.rd pClk GRP_CFG_CHIP_ID, oseq := s.amlOseq, lseq := 0, hops := 0, ack := 0, nak := false, msg := m }
  (List.range 4).foldl (fun s p => if s.amlCarries p m then s.amlPut p f else s)
    { s with amlOseq := (s.amlOseq + 1) % 256 }

/-! ### Export events (R340) -/

/-- An event of source `src` (0 BURST, 1 MARK, 2 TRIG, 3 ACQ, 4 GLN, 5 TIME) is offered to a port's export queue, which
drops it when it is full or the link is down (R340, R343). -/
def State.exportPort (s : State) (n src : Nat) (e : List Byte) : State :=
  let p := pEth n
  if s.pageState p = 4 && s.bit p EXP_CTL_EN && bitAt (s.rd p EXP_CTL_SRC) src then
    let o := tabGet {} s.eth n
    if 1024 ≤ o.queue.length || !s.bit p ETH_STAT_LINK then
      let s1 : State := { s with eth := tabPut {} s.eth n { o with dropped := min (o.dropped + 1) (2 ^ 32 - 1) } }
      (s1.satAdd p EXP_DROP_DROP 1).count (0x388 + 8 * n + 6)
    else
      let o1 := { o with queue := o.queue ++ [e], firstAt := if o.queue = [] then s.now else o.firstAt }
      { s with eth := tabPut {} s.eth n o1 }
  else s

/-- An event offered to both ports. -/
def State.exportEvent (s : State) (src : Nat) (e : List Byte) : State := (s.exportPort 0 src e).exportPort 1 src e

/-- The 32-byte record layout of R242. -/
def recordBytes (typ site sheaf tset vec data seg ts : Nat) : List Byte :=
  leBytes 1 typ ++ leBytes 1 site ++ leBytes 1 sheaf ++ leBytes 1 tset ++ leBytes 6 vec ++ leBytes 6 data ++ leBytes 4 seg
    ++ leBytes 12 ts

/-! ### The Barista's acceptance of items (R406, R418) -/

/-- The Barista is available (R418). -/
def State.brstUp (s : State) : Bool := s.pageState pBrst = 4

/-- Occupied entries of a level. -/
def State.levelCount (s : State) (l : Nat) : Nat := (s.brst.entries.filter fun e => e.2.item.pl = l).length

/-- Items queued at a level, not yet dispatched. -/
def State.queuedCount (s : State) (l : Nat) : Nat :=
  (s.brst.entries.filter fun e => e.2.item.pl = l && e.2.st = .queued).length

/-- The lowest free entry. -/
def State.freeEntry (s : State) : Option Nat := (List.range 4096).find? fun e => (tabFind s.brst.entries e).isNone

/-- The Barista accepts an item: it occupies an entry, enters its level and is stamped (R406). None where no entry is
free or the level is at its limit. -/
def State.brstAccept (s : State) (it : Item) : Option State :=
  match s.freeEntry with
  | none => none
  | some e =>
    if s.levelCount it.pl < s.rd pBrst BRST_LIM_LIMIT it.pl then
      let enqF := s.timeFrac s.now
      let it1 := match it.origin with
        | some o => { it with data := enqF - unpackTime o, origin := none }
        | none => it
      let ent : Entry := { item := it1, enq := packTime enqF, enqAt := s.now, order := s.brst.order, st := .queued }
      let d := s.queuedCount it.pl + 1
      let s1 := { s with brst := { s.brst with
        entries := tabInsert s.brst.entries e ent, order := s.brst.order + 1,
        seqs := tabMod 0 s.brst.seqs e fun q => (q + 1) % 128 } }
      let s2 := s1.wr pBrst BRST_DEPTH_PEAK (max d (s.rd pBrst BRST_DEPTH_PEAK it.pl)) it.pl
      some (s2.count (0x280 + 4 * it.pl))
    else none

/-- Four items have been accepted in the running Barista clock of 2 fc (R406). -/
def State.brstClockFull (s : State) : Bool :=
  decide (4 ≤ (s.brst.entries.filter fun e => e.2.enqAt / (2 * fcG) = s.now / (2 * fcG)).length)

/-- What a hardware source's offer leads to (R418). -/
inductive Offer
  | accepted (s : State)
  | held (s : State)
  | lost

/-- A hardware source offers an item: accepted, to be held by the source, or discarded while the Barista is
unavailable (R34, R418). A first offer that is held counts as refused (R423). -/
def State.offer (s : State) (it : Item) : Offer :=
  if s.brstUp then
    match if s.brstClockFull then none else s.brstAccept it with
    | some s1 => .accepted s1
    | none => .held (s.count (0x283 + 4 * it.pl))
  else .lost

end Sys2Proof.Machine
end

