-- ==== Sys2Proof/Machine/Commit.lean ====
section
/-! DEFINITION. Commits of STAGED fields (R11 to R18, R592, R593, R600): the boundary of each page, and the copies that
become active there. -/

namespace Sys2Proof.Machine

open Reg

/-- The field of a page that lies at a key. -/
def fieldAtKey (p : Page) (k : Nat) : Option FieldAt :=
  let off := (k / 256 - pageBase p) / 4 * 4
  (fieldsAt p.kind off).find? fun fa => fieldKey p fa.f fa.i fa.j = k

/-- The key lies in the page. -/
def keyInPage (p : Page) (k : Nat) : Bool :=
  decide (k % 32 = pageType p.kind ∧ pageBase p ≤ k / 256 ∧ k / 256 < pageBase p + pageSize p.kind)

/-- Pending copies of a page chosen by their fields become active together. -/
def State.commitWhere (s : State) (p : Page) (sel : FieldAt → Bool) : State :=
  let mine := s.staged.filter fun e => keyInPage p e.1
  let chosen := mine.filter fun e => match fieldAtKey p e.1 with | some fa => fa.f.cls = .staged && sel fa | none => false
  let s1 := { s with staged := s.staged.filter fun e => !(chosen.any fun c => c.1 = e.1) }
  chosen.foldl (fun s e => match fieldAtKey p e.1 with | some fa => s.wr p fa.f e.2 fa.i fa.j | none => s) s1

/-- The page has pending copies. -/
def State.hasStaged (s : State) (p : Page) : Bool := s.staged.any fun e => keyInPage p e.1

/-- Every pending copy of the page becomes active and PEND clears (R11, R17). -/
def State.commitAll (s : State) (p : Page) : State := (s.commitWhere p fun _ => true).wr p PAGE_COMMIT_PEND 0

/-- Pending copies of the page are discarded (R15, R21). -/
def State.dropStaged (s : State) (p : Page) : State :=
  ({ s with staged := s.staged.filter fun e => !keyInPage p e.1 }).wr p PAGE_COMMIT_PEND 0

/-- A commit of the scan sequencer's page; one that selects PERIOD starts the period (R273, R280). -/
def State.scanCommit (s : State) : State :=
  let sel := tabFind s.staged (fieldKey pAscan ASCAN_CFG_SSRC 0 0) = some 1
  let s1 := s.commitAll pAscan
  if sel then { s1 with scan := { s1.scan with perNext := s1.now + s1.rd pAscan ASCAN_PER_PER * (2 * fcG) } } else s1

/-- A site owns a channel whose mask bit a pending copy of GLN_PMASK changes. -/
def State.maskChanges (s : State) (n : Nat) : Bool :=
  (s.channelsOf n).any fun c =>
    match tabFind s.staged (fieldKey pGln GLN_PMASK_MASK (c / 32) 0) with
    | some v => bitAt v (c % 32) ≠ bitAt (s.rd pGln GLN_PMASK_MASK (c / 32)) (c % 32)
    | none => false

/-- The block of a page is idle for its commits: no owning site of a sheaf is ARMED or running (R48), the site of a
sequencer (R16), the sites of changed mask bits (R258), the scan sequencer (R280), the acquisition engine (R296). -/
def State.commitIdle (s : State) (p : Page) : Bool :=
  match p.kind with
  | .sh => !(s.sitesOfSheaf p.inst).any s.siteBusy
  | .sq => !s.siteBusy p.inst
  | .gln => !(List.range 32).any fun n => s.siteBusy n && s.maskChanges n
  | .ascan => !s.bit pAscan ASCAN_STAT_RUN
  | .acq => s.rd pAcq ACQ_STAT_STATE = 0
  | _ => true

/-- The HOP page's blocks of the chosen sites apply their copies; PEND clears with the last of them (R227). -/
def State.hopCommit (s : State) (sel : Nat → Bool) : State :=
  let s1 := s.commitWhere pHop fun fa => sel fa.i
  if s1.hasStaged pHop then s1 else s1.wr pHop PAGE_COMMIT_PEND 0

/-- A commit that waits on a page whose block is idle applies (R16, R600). The clock generators have boundaries of their
own (R103). -/
def State.applyCommit (s : State) (p : Page) : State :=
  if !s.bit p PAGE_COMMIT_PEND then s
  else match p.kind with
    | .hop => s.hopCommit fun n => !s.siteBusy n
    | .ascan => if s.commitIdle p then s.scanCommit else s
    | .clk => s
    | _ => if s.commitIdle p then s.commitAll p else s

/-- The commits that apply in the first idle field cycle of a site: of its sequencer page, its HOP block, its sheaves,
and the channel mask (R48, R227, R258, R600). -/
def State.idleCommits (s : State) (n : Nat) : State :=
  let sheaves := (List.range 40).filter fun k => (s.sitesOfSheaf k).contains n
  ((sheaves.foldl (fun s k => s.applyCommit (pSh k)) (s.applyCommit (pSq n))).applyCommit pHop).applyCommit pGln

end Sys2Proof.Machine
end

