-- ==== Sys2Proof/Machine/Micro.lean ====
section
/-! DEFINITION. The engines of the control ROMs (R377 to R391). The spec gives no ROM contents: a command brings the
word, its address, and the signals that no state holds. What a routine commits is the meaning of the routine's own
command. -/

namespace Sys2Proof.Machine

open Reg

/-- Words in the store of ROM u (R377). -/
def ucWords (u : Nat) : Nat := if u < 8 then 2048 else if u = 8 then 4096 else 3072

/-- Contexts of ROM u (R377). -/
def ucContexts (u : Nat) : Nat := if u < 8 then 4 else 1

/-- The power domain of ROM u (R377). -/
def ucDomain (u : Nat) : Nat := if u < 8 then 56 + u else if u = 8 then 77 else 69

/-- A microcycle of ROM u in grains: 1.500 GHz, and 1.600 GHz for the DDR training engine (R377). -/
def ucCycle (u : Nat) : Nat := if u = 9 then 1920 else 2048

/-- Context k of ROM u. -/
def State.uctx (s : State) (u k : Nat) : MicroCtx := tabGet {} s.micro (4 * u + k)

/-- Context k of ROM u changed. -/
def State.modUctx (s : State) (u k : Nat) (f : MicroCtx → MicroCtx) : State :=
  { s with micro := tabMod {} s.micro (4 * u + k) f }

/-- UC_LASTAB records the word, the context and the routine of an abandon or an error (R380, R396). -/
def State.ucLast (s : State) (u k upc : Nat) : State :=
  ((s.wr pUc UC_LASTAB_UPC upc u).wr pUc UC_LASTAB_CTX k u).wr pUc UC_LASTAB_ROUTINE (s.uctx u k).routine u

/-- The context idles, and its micro-stack, wait state and timers are emptied. -/
def MicroCtx.idle (_ : MicroCtx) : MicroCtx := {}

/-- A micro-sequencing error stops the routine (R380). -/
def State.ucError (s : State) (u k upc : Nat) (stack : Bool) : State :=
  let s1 := s.ucLast u k upc
  let s2 := if stack then s1.wr pUc UC_STAT_STKERR 1 u else s1.wr pUc UC_STAT_ADDRERR 1 u
  (s2.modUctx u k MicroCtx.idle).pagePairs pUc

/-- An abandon event reaches a context: a routine before its commit point restarts from its first word, and after its
fourth restart it ends with RLIMIT; a routine past its commit point runs on (R386, R387). -/
def State.ucAbandon (s : State) (u k : Nat) : State :=
  let c := s.uctx u k
  if !c.active || c.committed then s
  else
    let s1 := s.ucLast u k c.upc
    if 4 ≤ c.restarts then ((s1.wr pUc UC_STAT_RLIMIT 1 u).modUctx u k MicroCtx.idle).pagePairs pUc
    else
      (s1.satAdd pUc UC_RESTART_CNT 1 u).modUctx u k fun c =>
        { c with upc := c.entry, since := s.now + ucCycle u, stack := [], waiting := false, timer0 := 0, timer1 := 0,
                 restarts := c.restarts + 1 }

/-- A reset, isolation or power-down of an engine drops its routines (R388). -/
def State.ucDrop (s : State) (u : Nat) : State :=
  (List.range (ucContexts u)).foldl (fun s k => s.modUctx u k MicroCtx.idle) s

/-! ### Words -/

/-- A microword as a number, with its fields (R378). -/
structure MicroWord where
  target : Nat
  cond : Nat
  cpol : Bool
  wait : Bool
  commit : Bool
  tmo : Nat
  imm : Nat

/-- The fields of a 128-bit word (R378). -/
def microFields (w : BitVec 128) : MicroWord :=
  let v := w.toNat
  { target := bitsAt v 116 12, cond := bitsAt v 107 6, cpol := bitAt v 106, wait := bitAt v 105, commit := bitAt v 104,
    tmo := bitsAt v 100 4, imm := bitsAt v 32 32 }

/-- SEQ of a word (R379). -/
def microSeq (w : BitVec 128) : Nat := bitsAt w.toNat 113 3

/-- The signal that COND selects: always 1, a timer at 0, or a signal from outside the engine's state (R381). -/
def microSignal (c : MicroCtx) (cond : Nat) (sig : Bool) : Bool :=
  if cond = 0 then true else if cond = 4 then decide (c.timer0 = 0) else if cond = 5 then decide (c.timer1 = 0) else sig

/-- The condition result of a word (R381). -/
def microCond (c : MicroCtx) (w : MicroWord) (sig : Bool) : Bool := microSignal c w.cond sig == w.cpol

/-- The address that follows a word (R379, R380). -/
inductive MicroNext
  | goes (upc : Nat) (stack : List Nat)
  | ended
  | stackError

/-- Next-address forming (R379); `c` is the condition result and `disp` the value that DISP selects. -/
def microNext (seq upc : Nat) (stack : List Nat) (w : MicroWord) (c : Bool) (disp : Nat) : MicroNext :=
  match seq with
  | 0 => .goes (upc + 1) stack
  | 1 => .goes w.target stack
  | 2 => .goes (if c then w.target else upc + 1) stack
  | 3 => if stack.length < 4 then .goes w.target ((upc + 1) :: stack) else .stackError
  | 4 => if c then (if stack.length < 4 then .goes w.target ((upc + 1) :: stack) else .stackError) else .goes (upc + 1) stack
  | 5 => match stack with | a :: t => .goes a t | [] => .stackError
  | 6 => .goes (w.target + disp) stack
  | _ => if stack.isEmpty then .ended else .stackError

/-- A context completes its word: the datapath loads a timer where the word does so, the commit point passes, the timers
count the microcycle, and the next address is formed. -/
def State.microComplete (s : State) (u k : Nat) (w : BitVec 128) (c : Bool) (disp : Nat) (load : Option (Fin 2)) : State :=
  let f := microFields w
  let x := s.uctx u k
  let t0 := if load = some 0 then f.imm else x.timer0
  let t1 := if load = some 1 then f.imm else x.timer1
  let s1 := s.advanceTo x.since
  match microNext (microSeq w) x.upc x.stack f c disp with
  | .ended => s1.modUctx u k MicroCtx.idle
  | .stackError => s1.ucError u k x.upc true
  | .goes upc stack =>
    if ucWords u ≤ upc then s1.ucError u k upc false
    else s1.modUctx u k fun x =>
      { x with upc := upc, stack := stack, timer0 := t0 - 1, timer1 := t1 - 1, committed := x.committed || f.commit,
               waiting := false, since := x.since + ucCycle u }

/-- A word of an engine begins: in an idle context it is the first word of a routine, whose number is a free value. A word
with WAIT = 1 waits, unless its condition holds at once; any other completes in this microcycle (R382). -/
def State.microWord (s : State) (seq u k at_ : Nat) (w : BitVec 128) (sig : Bool) (disp : Nat) (load : Option (Fin 2)) : State :=
  let x := s.uctx u k
  if microSeq w ≠ seq ∨ ucContexts u ≤ k ∨ ucWords u ≤ at_ ∨ !s.domainOn (ucDomain u) ∨ s.bit pUc UC_STAT_SIGFAIL u then s
  else if x.active && (x.upc ≠ at_ || x.waiting) then s
  else
    let s0 :=
      if x.active then s
      else
        let d := s.draw
        d.2.modUctx u k fun _ => { active := true, upc := at_, since := s.now, entry := at_, routine := d.1 % 256 }
    let c := microCond (s0.uctx u k) (microFields w) sig
    if (microFields w).wait && !c then s0.modUctx u k fun x => { x with waiting := true }
    else s0.microComplete u k w c disp load

/-- NEXT (R379). -/
def execNextWord (u : Fin 10) (k : Fin 4) (at_ : BitVec 12) (w : BitVec 128) (sig : Bool) (load : Option (Fin 2)) (s : State) :
    Host.Outcome State Fault Refusal := .next (s.microWord 0 u.val k.val at_.toNat w sig 0 load)

/-- BRANCH (R379). -/
def execBranchMicroword (u : Fin 10) (k : Fin 4) (at_ : BitVec 12) (w : BitVec 128) (sig : Bool) (load : Option (Fin 2)) (s : State) :
    Host.Outcome State Fault Refusal := .next (s.microWord 1 u.val k.val at_.toNat w sig 0 load)

/-- CBRANCH (R379, R381). -/
def execCbranchMicroword (u : Fin 10) (k : Fin 4) (at_ : BitVec 12) (w : BitVec 128) (sig : Bool) (load : Option (Fin 2)) (s : State) :
    Host.Outcome State Fault Refusal := .next (s.microWord 2 u.val k.val at_.toNat w sig 0 load)

/-- CALL of a microroutine (R379, R380). -/
def execMicroCall (u : Fin 10) (k : Fin 4) (at_ : BitVec 12) (w : BitVec 128) (sig : Bool) (load : Option (Fin 2)) (s : State) :
    Host.Outcome State Fault Refusal := .next (s.microWord 3 u.val k.val at_.toNat w sig 0 load)

/-- CCALL (R379 to R381). -/
def execCcallMicroword (u : Fin 10) (k : Fin 4) (at_ : BitVec 12) (w : BitVec 128) (sig : Bool) (load : Option (Fin 2)) (s : State) :
    Host.Outcome State Fault Refusal := .next (s.microWord 4 u.val k.val at_.toNat w sig 0 load)

/-- RET of a microroutine (R379, R380). -/
def execMicroRet (u : Fin 10) (k : Fin 4) (at_ : BitVec 12) (w : BitVec 128) (sig : Bool) (load : Option (Fin 2)) (s : State) :
    Host.Outcome State Fault Refusal := .next (s.microWord 5 u.val k.val at_.toNat w sig 0 load)

/-- DISPATCH (R379): `disp` is the 4-bit value that DISP selects from the datapath. -/
def execDispatchMicroword (u : Fin 10) (k : Fin 4) (at_ : BitVec 12) (w : BitVec 128) (sig : Bool) (disp : BitVec 4)
    (load : Option (Fin 2)) (s : State) :
    Host.Outcome State Fault Refusal := .next (s.microWord 6 u.val k.val at_.toNat w sig disp.toNat load)

/-- END of a microroutine (R379, R380). -/
def execMicroEnd (u : Fin 10) (k : Fin 4) (at_ : BitVec 12) (w : BitVec 128) (sig : Bool) (load : Option (Fin 2)) (s : State) :
    Host.Outcome State Fault Refusal := .next (s.microWord 7 u.val k.val at_.toNat w sig 0 load)

/-- A waiting word ends after `cycles` microcycles of waiting: by its condition, or by its timeout of 2^(TMO + 3)
microcycles; when both come in one microcycle it ends by the condition (R382, R383). -/
def execMicrowordWaitEnd (u : Fin 10) (k : Fin 4) (w : BitVec 128) (cycles : Nat) (sig : Bool) (disp : BitVec 4)
    (load : Option (Fin 2)) (s : State) : Host.Outcome State Fault Refusal :=
  let x := s.uctx u.val k.val
  let f := microFields w
  let y := { x with timer0 := x.timer0 - cycles, timer1 := x.timer1 - cycles, since := x.since + cycles * ucCycle u.val }
  let c := microCond y f sig
  let within : Bool := decide (f.tmo = 0) || decide (cycles ≤ 2 ^ (f.tmo + 3))
  let out : Bool := decide (f.tmo ≠ 0) && decide (cycles = 2 ^ (f.tmo + 3))
  .next <|
    if x.active && x.waiting && f.wait && within && (c || out) then
      (s.modUctx u.val k.val fun _ => y).microComplete u.val k.val w c disp.toNat load
    else s

end Sys2Proof.Machine
end

