-- ==== Sys2Proof/Machine/Burst.lean ====
section
/-! DEFINITION. What several families share of a burst: Hopper discards, Gleaner records, the actions of MARK, FLAG
and TSET words, the end of a burst or an arm, and the safe state. -/

namespace Sys2Proof.Machine

open Reg

/-! ### Site states (R159) and ending causes (R158) -/

def stIdle : Nat := 0
def stArmed : Nat := 1
def stRun : Nat := 2
def stPaused : Nat := 3
def stWait : Nat := 4
def stEnding : Nat := 5

/-- SQ_STAT.STATE. -/
def State.sqState (s : State) (n : Nat) : Nat := s.rd (pSq n) SQ_STAT_STATE

/-- The site applies vectors: RUN, PAUSED or WAIT. -/
def State.sqRunning (s : State) (n : Nat) : Bool := let st := s.sqState n; st = stRun || st = stPaused || st = stWait

/-- Rank of an ending cause for coincidences, lowest first (R158). -/
def causeRank (c : Nat) : Nat := if c = 3 then 0 else if c = 4 then 1 else if c = 5 then 2 else if c = 2 then 3 else c + 4

/-- The cause ends pending edges and channels at once (R153). -/
def causeAtOnce (c : Nat) : Bool := c = 3 || c = 4 || c = 5

/-! ### Channel states (R42, R61) -/

/-- The channel is OFF: domain off, sheaf not running, or not enabled. -/
def State.chanOff (s : State) (c : Nat) : Bool :=
  s.pageState (pSh (c / 8)) ≠ 4 || !s.bit (pSh (c / 8)) CH_CTL_ENABLE (c % 8)

/-- The channel is in the safe state: its site is, it is held alone, SAFE_N holds it, or the lockstep cores
disagree (R42, R58, R521, R524). -/
def State.chanSafe (s : State) (c : Nat) : Bool :=
  !s.chanOff c && ((match s.siteOf c with | some n => bitAt (s.rd pSilo SILO_SAFE_SAFE) n | none => false)
    || tabGet 0 s.safety.lone c ≠ 0 || s.safety.allSafe || s.safety.lockstepBad)

/-- The open-pin check has switched the channel's unit to the pin (R68). -/
def State.opcOn (s : State) (c : Nat) : Bool :=
  match (tabGet {} s.sh (c / 8)).opc with
  | some k => bitAt k.mask (c % 8)
  | none => false

/-- The force-and-measure switch is closed (R43, R61, R68). -/
def State.pmuOn (s : State) (c : Nat) : Bool :=
  !s.chanOff c && !s.chanSafe c && (s.opcOn c || s.bit (pSh (c / 8)) CH_PMU_CTL_CONNECT (c % 8)
    && s.rd (pSh (c / 8)) CH_PMU_CTL_MODE (c % 8) ≠ 0)

/-! ### Operating modes (R528, R529) -/

/-- The operating mode. -/
def State.mode (s : State) : Nat := s.rd pMode MODE_STAT_MODE

/-- The mode changes: the previous mode and the time of the change are recorded, and host cause MODE is raised (R474, R529). -/
def State.setMode (s : State) (m : Nat) : State :=
  let s1 := (s.wr pMode MODE_STAT_PREV s.mode).wr pMode MODE_STAT_MODE m
  (s1.wr3 pMode MODE_TS0_TS MODE_TS1_TS MODE_TS2_TS (s.stampAt s.now)).raiseCause 16

/-- The mode controller follows the sites between IDLE (3) and RUN (5) (R27, R529). -/
def State.followSites (s : State) : State :=
  if s.mode = 3 && s.anySiteBusy then s.setMode 5
  else if s.mode = 5 && !s.anySiteBusy then s.setMode 3
  else s

/-! ### Hopper discards (R203, R212) -/

/-- The Hopper discards what it holds; the bytes count as wasted, and a bale that had failed counts as unused. -/
def State.hopDiscard (s : State) (n : Nat) : State :=
  let h := s.hopo n
  let held := h.cur.length + (h.bales.map (·.bytes)).sum
  let s1 := s.modHop n fun o => { o with
    epoch := o.epoch + 1, cur := [], curErr := false, bales := [], on := false, failed := none, vpos := 0 }
  let s3 := if h.failed.isSome && !s.bit pHop HOP_ERR_USED n then s1.satAdd pHop HOP_EUNUSED_EUNUSED 1 n else s1
  if held = 0 then s3 else s3.count (0x100 + 8 * n + 1) held

/-! ### Gleaner records (R238, R241) -/

/-- The Gleaner's record of a site. -/
def State.glnSite (s : State) (n : Nat) : GlnSite := tabGet {} s.gln.sites n

/-- The Gleaner's record of a site changed. -/
def State.modGln (s : State) (n : Nat) (f : GlnSite → GlnSite) : State :=
  { s with gln := { s.gln with sites := tabMod {} s.gln.sites n f } }

/-- The Gleaner runs and watches the site (R244). -/
def State.glnUp (s : State) (n : Nat) : Bool := s.pageState pGln = 4 && !s.bit pGln GLN_SSTAT_ISO n

/-- A START, END or UNDERRUN record joins the queue, in every mode but OFF; a pending GAP goes with it (R241). -/
def State.glnMark (s : State) (n typ tset vec data seg t : Nat) : State :=
  if s.rd pGln GLN_SCFG_MODE n = 0 || !s.glnUp n then s
  else
    let g := s.glnSite n
    let ts := s.stampAt t
    let r : GRec := { site := n, typ := typ, group := 1, vec := vec, ts := ts, limit := false,
                      bytes := recordBytes typ n 0 tset vec data (seg + if g.gap && typ ≠ 4 then 2 ^ 28 else 0) ts }
    let s1 := s.modGln n fun o => { o with gap := false }
    { s1 with gln := { s1.gln with queue := s1.gln.queue ++ [r] } }

/-! ### Site flags (R166 to R170) -/

/-- The value of a site flag as applied on this chip. -/
def State.flag (s : State) (f : Nat) : Bool :=
  bitAt (if f < 32 then s.rd pClk SF_VAL0_FLAGS else s.rd pClk SF_VAL1_FLAGS) (f % 32)

/-- A flag set or cleared in SF_VAL. -/
def State.putFlag (s : State) (f : Nat) (b : Bool) : State :=
  if f < 32 then s.wrBit pClk SF_VAL0_FLAGS f b else s.wrBit pClk SF_VAL1_FLAGS (f % 32) b

/-- A flag is shared across the group (R168). -/
def State.flagShared (s : State) (f : Nat) : Bool :=
  bitAt (if f < 32 then s.rd pClk SF_SHARE0_FLAGS else s.rd pClk SF_SHARE1_FLAGS) (f % 32)

/-- The value an operation gives a flag: 0 clear, 1 set, 2 toggle (R147). -/
def flagOp (op : Nat) (old : Bool) : Bool := if op = 0 then false else if op = 1 then true else !old

/-- A flag change is put in the log of what decisions may see. -/
def State.logFlag (s : State) (c : FlagChange) : State :=
  { s with clk := { s.clk with flagLog := c :: s.clk.flagLog } }

/-- A change of a flag at instant t, by a FLAG word of a site or by a register write of rank 32 host or 33 Brewer:
a local flag changes now and is seen by other sites 32 fc later (R167); a shared one is sent and applied at t + 64 fc
(R168), and its own site sees it at once (R137). A span part that is not the lead changes its chip only (R185). -/
def State.changeFlag (s : State) (f op t : Nat) (site : Option Nat) (rank : Nat) : State :=
  let v := flagOp op (s.flag f)
  let leaves := match site with
    | some n => !s.inSpan n || s.isLead n
    | none => true
  if s.flagShared f && leaves then
    let chip := s.rd pClk GRP_CFG_CHIP_ID
    let e : SharedEvent := { idx := f, op := op, t := t + 64 * fcG, chip := chip, rank := rank }
    let s1 := { s.amlSend (.flag f op rank t) with clk := { s.clk with sharedFlags := s.clk.sharedFlags ++ [e] } }
    match site with
    | some n => s1.logFlag { flag := f, val := v, t := t, site := some n, shared := true }
    | none => s1
  else (s.putFlag f v).logFlag { flag := f, val := v, t := t, site := site, shared := false }

/-- A logged change is visible to a decision of site n at a vector that starts at x (R137, R167, R168). -/
def flagVisible (n x : Nat) (c : FlagChange) : Bool :=
  if c.site = some n then decide (c.t < x)
  else if c.shared then c.site = none && decide (c.t ≤ x)
  else decide (c.t + 32 * fcG ≤ x)

/-- The value of a flag that a decision of site n sees at a vector that starts at x. -/
def State.flagSeen (s : State) (n f x : Nat) : Bool :=
  match s.clk.flagLog.find? fun c => c.flag = f && flagVisible n x c with
  | some c => c.val
  | none => bitAt s.clk.flagBase f

/-! ### Trigger lines and TRIG_OUT (R145, R181, R575) -/

/-- A local pulse of an AML trigger line raised at instant t (R181). -/
def State.raiseAt (s : State) (line t : Nat) : State :=
  let chip := s.rd pClk GRP_CFG_CHIP_ID
  let e : SharedEvent := { idx := line, op := 1, t := t + 64 * fcG, chip := chip, rank := 0 }
  { s.amlSend (.trig line t) with clk := { s.clk with atPulses := s.clk.atPulses ++ [e] } }

/-- AT_MAP of a line (R181). -/
def State.atMap (s : State) (line : Nat) : Nat :=
  if line < 8 then bitsAt (s.rd pClk AT_MAP0_MAP) (4 * line) 4 else bitsAt (s.rd pClk AT_MAP1_MAP) (4 * (line - 8)) 4

/-- Every line whose local source is `src` is pulsed at t. -/
def State.raiseMapped (s : State) (src t : Nat) : State :=
  ((List.range 16).filter fun l => s.atMap l = src).foldl (fun s l => s.raiseAt l t) s

/-- A pulse on TRIG_OUTk that rises at t: it ends 32 fc after its latest rise, and pulses the mapped lines (R145, R181, R575). -/
def State.pulseTout (s : State) (k t : Nat) : State :=
  let e := max (t + 32 * fcG) (tabGet 0 s.clk.toutEnd k)
  let s1 := { s with clk := { s.clk with toutEnd := tabPut 0 s.clk.toutEnd k e } }
  s1.raiseMapped (5 + k) t

/-! ### MARK, FLAG and TSET (R145 to R148) -/

/-- The MARK item of a word (R404). -/
def markItem (n word vec origin : Nat) : Item :=
  { typ := 1, pl := bitsAt word 53 3, notify := false, src := n, site := n, nosite := false,
    token := vec % 2 ^ 32, arg := vec / 2 ^ 32 % 65536 + bitsAt word 0 16 * 65536, data := 0, origin := some origin }

/-- MARK with W = 1: the event is exported, and the item is offered; a further item while one is held is discarded and
counted (R146). -/
def State.markSubmit (s : State) (n word vec tset seg t : Nat) : State :=
  let s1 := s.exportEvent 1 (recordBytes 0x10 n 0 tset vec (bitsAt word 0 16) seg (s.stampAt t))
  if (s1.sqo n).held.isSome then s1.satAdd (pSq n) SQ_MDROP_CNT 1
  else
    let it := markItem n word vec (s.stampAt t)
    match s1.offer it with
    | .accepted s2 => s2
    | .held s2 => s2.modSq n fun o => { o with held := some it }
    | .lost => s1

/-- A trigger event is reported to the acquisition engine; events in IDLE do not count (R301). -/
def State.acqEvent (s : State) (src t : Nat) : State :=
  if s.pageState pAcq = 4 && s.rd pAcq ACQ_STAT_STATE ≠ 0 then
    { s with acq := { s.acq with evs := s.acq.evs ++ [(src, t)] } }
  else s

/-- A MARK word acts at instant t, at vector `vec` (R145). -/
def State.doMark (s : State) (n word vec tset seg t : Nat) : State :=
  let s1 := if bitAt word 57 then
      s.modSq n fun o => { o with markVec := vec, firstFail := none, forced := false, remoteFail := none }
    else s
  let s2 := if bitAt word 56 then s1.markSubmit n word vec tset seg t else s1
  let s3 := if bitAt word 52 then s2.acqEvent (0x20 + n) t else s2
  (setBits (bitsAt word 48 4) 4).foldl (fun s k => s.pulseTout k (t + 56 * fcG)) s3

/-- A TSET word acts (R148). -/
def State.doTset (s : State) (n word : Nat) : State :=
  let ts := bitsAt word 48 6
  let m := bitsAt word 56 2
  s.modSq n fun o =>
    if m = 1 then { o with tsHold := none, tsSeg := some ts }
    else if m = 2 then { o with tsHold := some ts, tsSeg := none }
    else { o with tsHold := none, tsSeg := none }

/-- One waiting word acts at instant t, at vector `vec` (R115). -/
def State.doAct (s : State) (n word vec tset seg t : Nat) : State :=
  let op := word / 2 ^ 58 % 64
  if op = 0x0D then s.doMark n word vec tset seg t
  else if op = 0x0E then s.changeFlag (bitsAt word 48 6) (bitsAt word 56 2) t (some n) n
  else s.doTset n word

/-- All waiting words act, in program order (R115). -/
def State.doActs (s : State) (n vec tset seg t : Nat) : State :=
  let ws := (s.sqo n).acts
  ws.foldl (fun s w => s.doAct n w vec tset seg t) (s.modSq n fun o => { o with acts := [] })

/-! ### Rendezvous (R171 to R173) -/

/-- The group is shared: its RG_CHIPS names more than this chip (R171). -/
def State.rgShared (s : State) (g : Nat) : Bool :=
  let c := s.rd pClk RG_CHIPS_RG_CHIPS g
  c ≠ 0 && c ≠ 2 ^ s.rd pClk GRP_CFG_CHIP_ID

/-- The other chips are told of a member of the shared groups that it belongs to. -/
def State.rdvTell (s : State) (n : Nat) (m : RdvMsg) (t : Nat) : State :=
  (List.range 16).foldl (fun s g =>
    if s.rgShared g && bitAt (s.rd pClk RG_MEM_RG_MEM g) n then s.amlSend (.rdv g m t) else s) s

/-- A member becomes excused, or is no longer (R172). -/
def State.tellExcused (s : State) (n : Nat) (b : Bool) (t : Nat) : State := s.rdvTell n (.excused (Fin.ofNat 32 n) b) t

/-- A part of a span tells the others. -/
def State.spanTell (s : State) (n : Nat) (m : SpanMsg) (t : Nat) : State :=
  if s.inSpan n then s.amlSend (.span (s.rd pClk SPAN_CFG_SPAN n) m t) else s

/-- A site's arrival is withdrawn from every group (R173). -/
def State.withdraw (s : State) (n : Nat) : State :=
  let here : Bool := (List.range 16).any fun g => bitAt (s.rd pClk RG_ARR_ARRIVED g) n
  let s := if here then s.rdvTell n (.withdraw (Fin.ofNat 32 n)) s.now else s
  let s1 := (List.range 16).foldl (fun s g => s.wrBit pClk RG_ARR_ARRIVED n false g) s
  let chip := s.rd pClk GRP_CFG_CHIP_ID
  { s1 with clk := { s1.clk with arrivals := s1.clk.arrivals.filter fun a => a.2.1 ≠ (chip, n) } }

/-! ### The end of a burst or an arm (R152, R153, R158) -/

/-- The channels of a site leave the burst at once: their pending edges are discarded (R153). -/
def State.dropEdges (s : State) (n : Nat) : State :=
  (s.channelsOf n).foldl (fun s c =>
    s.modCh c fun o => { o with edges := o.edges.filter fun e => e.site ≠ n, burst := false, drv := false }) s

/-- A channel whose last pending edge of an ended burst has acted enters IDLE (R153). -/
def State.idleChannel (s : State) (c : Nat) : State :=
  if (s.chan c).edges.isEmpty then s.modCh c fun o => { o with burst := false, drv := false } else s

/-- The registers of an end: cause, code, time-stamp, state. -/
def State.endRegs (s : State) (n cause code t st : Nat) : State :=
  let p := pSq n
  let s1 := ((s.wr p SQ_CAUSE_CAUSE cause).wr p SQ_CAUSE_ALSO 0).wr p SQ_CAUSE_CODE code
  let s2 := (s1.wr3 p SQ_ENDTS0_TS SQ_ENDTS1_TS SQ_ENDTS2_TS (s.stampAt t)).wr p SQ_STAT_STATE st
  s2.wr p SQ_STAT_KEEPING 0

/-- The DATA bytes of an END record (R243). -/
def endData (cause code : Nat) : Nat := cause + code * 65536

/-- A burst of a site ends at instant t: the waiting words act, but not at an isolation; the registers record it, the
stacks, overrides, waits and requests go, the Hopper discards its contents, and the other parts of a span are told
(R115, R148, R153, R186, R188). -/
def State.endBurst (s : State) (n cause code t : Nat) : State :=
  let o := s.sqo n
  let s1 := if cause = 4 then s else s.doActs n o.vec o.lastTs o.segPc t
  let s2 := (s1.endRegs n cause code t stEnding).wr (pSq n) SQ_CTL_HTRIG 0
  let s3 := s2.modSq n fun o => { o with
    endAt := t, seg := none, atBoundary := false, loops := [], calls := [], acts := [], tsHold := none,
    tsSeg := none, mtch := none, watch := none, watchNext := none, matchNext := none, wait := none, pauseReq := none,
    paused := false, heldPause := false, resumeReq := none, hjump := none, pairTs := none, under := false }
  let s4 := ((s3.withdraw n).hopDiscard n).count (8 * n + 6)
  let s5 := if causeAtOnce cause then s4.dropEdges n else (s4.channelsOf n).foldl (fun s c => s.idleChannel c) s4
  (if cause ≠ 1 then s5.spanTell n (.ended cause) t else s5).tellExcused n true t

/-- A START command that waits for a site notes its end; a burst that ended with cause STOP counts as OK (R486). -/
def StartOp.ends (x : StartOp) (n cause vecs : Nat) : StartOp :=
  let u := (n, (if cause = 1 then 0 else 10), cause, vecs)
  if bitAt x.left n then { x with left := setBit x.left n false, units := x.units.map fun v => if v.1 = n then u else v } else x

/-- Every START command that waits for a site notes its end. -/
def State.startsEnd (s : State) (n : Nat) : State :=
  let c := s.rd (pSq n) SQ_CAUSE_CAUSE
  { s with host := { s.host with starts := s.host.starts.map fun x => x.ends n c (s.sqo n).vec } }

/-- A burst or an arm of a site has become IDLE: commits that wait apply, host cause BURST is raised for a site of
HOST_SQIM, and the mode follows (R474, R600). -/
def State.burstDone (s : State) (n : Nat) : State :=
  let s1 := (s.startsEnd n).idleCommits n
  (if bitAt (s1.rd pHost HOST_SQIM_SITES) n then s1.raiseCause 17 else s1).followSites

/-- An ARMED site leaves ARMED without a burst: START and END records of 0 vectors, IDLE; the other parts
of a span are told (R152, R186). -/
def State.endArm (s : State) (n cause t : Nat) : State :=
  let s1 := (s.endRegs n cause 0 t stIdle).wr (pSq n) SQ_CTL_HTRIG 0
  let s2 := s1.modSq n fun o => { o with endAt := t, spanReady := 0 }
  let s3 := (s2.hopDiscard n).count (8 * n + 6)
  let s4 := (s3.glnMark n 4 0 0 0 0 t).glnMark n 5 0 0 (endData cause 0) 0 t
  let s5 := (s4.exportEvent 0 (recordBytes 4 n 0 0 0 0 0 (s.stampAt t))).exportEvent 0
    (recordBytes 5 n 0 0 0 (endData cause 0) 0 (s.stampAt t))
  (if cause ≠ 1 then s5.spanTell n (.ended cause) t else s5).burstDone n

/-- A cause ends the burst or the arm of a site at instant t. A second cause at the same end is ranked by R158. A safe
state, an abort, an isolation and a HALT abandon the routine of the site's context (R384). -/
def State.siteEnd (s : State) (n cause code t : Nat) : State :=
  let s := if causeAtOnce cause || cause = 2 then s.ucAbandon (n / 4) (n % 4) else s
  let st := s.sqState n
  if s.sqRunning n then s.endBurst n cause code t
  else if st = stArmed then s.endArm n cause t
  else if st = stEnding ∧ (s.sqo n).endAt = t ∧ s.rd (pSq n) SQ_CAUSE_CAUSE ≠ cause then
    let p := pSq n
    let s1 := s.wr p SQ_CAUSE_ALSO 1
    let s2 := if causeRank cause < causeRank (s.rd p SQ_CAUSE_CAUSE) then
        (s1.wr p SQ_CAUSE_CAUSE cause).wr p SQ_CAUSE_CODE code else s1
    if causeAtOnce cause then s2.dropEdges n else s2
  else s

/-! ### The safe state (R61 to R63, R518) -/

/-- Cause bits of SILO_SCAUSE (R518, R527). -/
def scOC : Nat := 0
def scOOR : Nat := 1
def scSPAN : Nat := 2
def scSAFEN : Nat := 3
def scILIM : Nat := 4
def scHALT : Nat := 5
def scFORCE : Nat := 6

/-- A site enters its safe state on a request: its cause bit is set, and a burst or arm ends with cause SAFE, or HALT
for a HALT reaction (R63, R499, R518). A span tells the Silos of its other parts (R186). -/
def State.safeEnter (s : State) (n bit t : Nat) : State :=
  let s1 := ((s.wrBit pSilo SILO_SCAUSE_CAUSE bit true n).wrBit pSilo SILO_SAFE_SAFE n true).count 0x3B6
  let s2 := s1.siteEnd n (if bit = scHALT then 5 else 3) 0 t
  if bit ≠ scSPAN then (s2.spanTell n .safe t).tellExcused n true t else s2.tellExcused n true t

/-- One cause bit of a site clears; the site leaves its safe state when no bit is left (R519). Releases are ignored while
the lockstep cores disagree (R524). -/
def State.safeClear (s : State) (n bit : Nat) : State :=
  if s.safety.lockstepBad then s else
  let s1 := s.wrBit pSilo SILO_SCAUSE_CAUSE bit false n
  if s1.rd pSilo SILO_SCAUSE_CAUSE n = 0 then
    let s2 := s1.wrBit pSilo SILO_SAFE_SAFE n false
    (if bit ≠ scSPAN then s2.spanTell n .release s.now else s2).tellExcused n (s.sqState n = stIdle || s.sqState n = stEnding) s.now
  else s1

end Sys2Proof.Machine
end

