-- ==== Sys2Proof/Machine/DdrMap.lean ====
section
/-! DEFINITION. The DDR address space: how a byte address maps to a subchannel and a burst in it (R440 to R442). -/

namespace Sys2Proof.Machine

open Reg

/-- Radices of a subchannel: bank groups, rows and ranks (R441). -/
def State.dcGroups (s : State) (n : Nat) : Nat := if s.bit (pDc n) DC_CFG_WIDTH then 4 else 8
def State.dcRows (s : State) (n : Nat) : Nat := if s.rd (pDc n) DC_CFG_DENS = 0 then 65536 else 98304
def State.dcRanks (s : State) (n : Nat) : Nat := s.rd (pDc n) DC_CFG_RANKS + 1

/-- Bursts of 64 bytes that a subchannel holds (R440, R441). -/
def State.dcBursts (s : State) (n : Nat) : Nat := 256 * s.dcGroups n * s.dcRows n * s.dcRanks n

/-- The enabled subchannels in ascending number. -/
def State.dcEnabled (s : State) : List Nat := setBits (s.rd pDdr DDR_CFG_SCEN) 4

/-- DDR_SIZE: the address space in MiB (R442, R468). -/
def State.ddrMiB (s : State) : Nat := ((s.dcEnabled.map s.dcBursts).sum) / 16384

/-- The subchannel and the burst in it of an address range in MAP0 to MAP2 (R441). -/
def findRange (size : Nat → Nat) : List Nat → Nat → Option (Nat × Nat)
  | [], _ => none
  | n :: ns, b => if b < size n then some (n, b) else findRange size ns (b - size n)

/-- The burst of a subchannel numbered by C, B, G, R, K from its number in the order of the map (R441). -/
def State.dcInner (s : State) (n m b : Nat) : Nat :=
  let g := s.dcGroups n
  let hi := b / (256 * g)
  let x :=
    if m = 0 then (b % 64, b / 64 % 4, b / 256 % g)
    else if m = 1 then (b / (4 * g) % 64, b % 4, b / 4 % g)
    else (b / g % 64, b / (64 * g) % 4, b % g)
  x.1 + 64 * (x.2.1 + 4 * (x.2.2 + g * hi))

/-- The subchannel and the burst in it that hold a DDR byte address; none at or beyond DDR_SIZE (R441, R442). -/
def State.ddrPlace (s : State) (a : Nat) : Option (Nat × Nat) :=
  let b := a / 64
  let m := s.rd pDdr DDR_CFG_MAP
  let es := s.dcEnabled
  if m = 3 then
    match es[b % 4]? with
    | some n => if b / 4 < s.dcBursts n then some (n, s.dcInner n 3 (b / 4)) else none
    | none => none
  else (findRange s.dcBursts es b).map fun x => (x.1, s.dcInner x.1 m x.2)

/-- The place of a burst in the byte memory. -/
def ddrKey (n b : Nat) : Nat := n * 2 ^ 35 + b * 64

end Sys2Proof.Machine
end

