-- ==== Sys2Proof/Machine/Registers.lean ====
section
/-! DEFINITION. Register accesses: who may reach a page (R22, R516, R548, R554, R559, R584), reserved values (R9),
field classes (R11, R597), the values reads return, commits (R11 to R17, R600) and block resets (R20, R21). -/

namespace Sys2Proof.Machine

open Reg

/-! ### Admission of a write -/

/-- A write of a requester to a page may act; `hdr` is an offset in the page header. -/
def State.admits (s : State) (r : Requester) (p : Page) (hdr : Bool) : Bool :=
  (hdr || s.pageState p = 4)
  && (hdr || s.rd pMode MODE_STAT_MODE ≠ 1)
  && (match r with
      | .host => p.kind ≠ .silo || hdr
      | .brewer _ => p.kind ≠ .silo || hdr
      | .i3c => p.kind = .mode && !hdr || p.kind = .silo && s.bit pSilo SILO_STAT_ARMED
      | .jtag => (s.rd pDbg DBG_LEVEL_LEVEL = 2 && (p.kind ≠ .silo || hdr)) || p.kind = .dbg)

/-! ### Reserved values (R9) -/

/-- A value is in one of the ranges; the empty list allows all. -/
def inRanges (rs : List (Nat × Nat)) (v : Nat) : Bool :=
  rs.isEmpty || rs.any fun r => decide (r.1 ≤ v ∧ v ≤ r.2)

/-- Every 4-bit digit of a word is allowed. -/
def nibblesOk (ok : Nat → Bool) (v : Nat) : Bool := (List.range 8).all fun k => ok (bitsAt v (4 * k) 4)

/-- The force value is valid for the mode that is active (R50). -/
def forceOk (mode v : Nat) : Bool :=
  if mode = 1 then decide (v ≤ 14000)
  else if mode = 2 then let x := toSigned 14 v; decide (-8000 ≤ x ∧ x ≤ 8000)
  else true

/-- Input selections that are reserved for a single-channel run or an acquisition stream (R262). -/
def reservedHere : List Nat := [0x22]

/-- Values that a rule reserves in the light of other fields or of a part of the field. -/
def State.fieldReserved (s : State) (p : Page) (fa : FieldAt) (word v : Nat) : Bool :=
  let f := fa.f
  let i := fa.i
  if !inRanges f.legal v then true
  else match p.kind with
  | .sh =>
    if f = SH_CGSEL_SEL then !nibblesOk (fun d => d = 0 || decide (8 ≤ d)) v
    else if f = CH_PMU_FORCE_FORCE then !forceOk (s.rd p CH_PMU_CTL_MODE i) v
    else f = CH_PMU_CLAMP_VCLL && decide (bitsAt word 16 14 < v)
  | .clk => (f = AT_MAP0_MAP || f = AT_MAP1_MAP) && !nibblesOk (fun d => decide (d ≤ 8)) v
  | .gln =>
    if f = GLN_SN_N then v = 0 && (let m := s.rd p GLN_SCFG_MODE i; m = 1 || m = 2)
    else if f = GLN_SCFG_MODE then (v = 1 || v = 2) && s.rd p GLN_SN_N i = 0
    else if f = GLN_SCFG_RECYCLE then v = 1 && !bitAt word 5
    else f = GLN_SREG_BASE && decide (1024 < v + bitsAt word 16 11)
  | .silo => f = SILO_THR_CRIT && decide (v ≤ bitsAt word 0 8)
  | .eth => f = ETH_CFG_FEC && v = 1 && !bitAt word 1
  | .time =>
    f = TIME_ADJ1_ADJ &&
      (let a := toSigned 40 (v * 2 ^ 32 + s.rd p TIME_ADJ0_ADJ)
       decide (a < -adjMax ∨ adjMax < a))
  | .flt =>
    (f = FLT_CFG_SEV && (decide (v < sevFloor i) || decide (121 ≤ i ∧ i ≤ 254)))
      || (f = FLT_RLIM_LIMIT && decide (121 ≤ i ∧ i ≤ 254))
  | .asn => f = AS_SC_IN_INSEL && reservedHere.contains v
  | .acq => f = ACQ_SIN_INSEL && reservedHere.contains v
  | _ => false

/-- A write of `word` to the register with these fields holds a reserved value. -/
def State.writeReserved (s : State) (p : Page) (fs : List FieldAt) (word : Nat) : Bool :=
  fs.any fun fa => (fa.f.acc = .rw || fa.f.acc = .wo || fa.f.acc = .w1s)
    && s.fieldReserved p fa word (bitsAt word fa.f.lo fa.f.width)

/-! ### Classes -/

/-- The block that judges a QUIET field is running: per site for the GRAN, HOP, GRND and GLN blocks (R226, R228, R258),
per ring for the command rings (R495), per sheaf for the deskew table (R375), else the page. -/
def State.quietBusy (s : State) (p : Page) (fa : FieldAt) : Bool :=
  match p.kind with
  | .gran | .hop | .grnd => if 0x100 ≤ fa.f.off then s.siteOccupied fa.i else s.pageBusy p
  | .gln => if 0x100 ≤ fa.f.off ∧ fa.f.off ≠ 0x1000 then s.siteOccupied fa.i else s.pageBusy p
  | .host => if 0x200 ≤ fa.f.off then s.bit p HOST_CR_CFG_EN fa.i || s.ringRuns fa.i else s.pageBusy p
  | .winn => if 0x1000 ≤ fa.f.off then s.pageBusy (pSh (fa.i / 8)) else s.pageBusy p
  | _ => s.pageBusy p

/-- A STAGED field's pending copy is set (R11, R14). -/
def State.stage (s : State) (p : Page) (f : Field) (v i j : Nat) : State :=
  { s with staged := tabInsert s.staged (fieldKey p f i j) (v % 2 ^ f.width) }

/-- Low bits of an address field that are always 0. -/
def lowZero (k : PKind) (f : Field) : Nat :=
  match k with
  | .cnt => if f = CNT_DBASEL_BASE then 12 else 0
  | .asn => if f = AS_SC_BASEL_BASE then 12 else 0
  | .eth => if f = ETH_RXBASEL_BASE ∨ f = ETH_TXBASEL_BASE then 11 else 0
  | .winn => if f = WINN_IMG_BASEL_BASE then 6 else 0
  | .host => if f = HOST_CR_SQBASEL_SQBASE then 6 else if f = HOST_CR_CQBASEL_CQBASE then 5 else 0
  | .bw => if f = BW_IBUF_ADDR then 5 else if f = BW_RESETVEC_VEC then 1 else 0
  | .gln => if f = GLN_DL_BASEL_BASE then 5 else if f = GLN_BRD_DSTL_DST then 2 else 0
  | .ascan => if f = ASCAN_QBASEL_QBASE then 5 else 0
  | .brst => if f = BRST_CQBASEL_BASE then 4 else 0
  | _ => 0

/-- The write of one field under its access type and class; `busy` is what `quietBusy` says of it before the write, `mixed` a
register that holds other classes (R597). -/
def State.writeField (s : State) (p : Page) (fa : FieldAt) (v : Nat) (mixed busy : Bool) : State :=
  match fa.f.acc with
  | .rw =>
    match fa.f.cls with
    | .staged => s.stage p fa.f v fa.i fa.j
    | .quiet =>
      if busy then
        if mixed && v = s.rd p fa.f fa.i fa.j then s else s.werr p
      else s.wr p fa.f (v / 2 ^ lowZero p.kind fa.f * 2 ^ lowZero p.kind fa.f) fa.i fa.j
    | _ => s.wr p fa.f (v / 2 ^ lowZero p.kind fa.f * 2 ^ lowZero p.kind fa.f) fa.i fa.j
  | .w1c => s.wr p fa.f (s.rd p fa.f fa.i fa.j &&& (2 ^ fa.f.width - 1 - v)) fa.i fa.j
  | _ => s

/-- Some field of the register is not QUIET and can be written. -/
def mixedRegister (fs : List FieldAt) : Bool :=
  fs.any fun fa => (fa.f.acc = .rw && fa.f.cls ≠ .quiet) || fa.f.acc = .w1s || fa.f.acc = .w1c || fa.f.acc = .wo

/-- The fields of a register are written, each judged by what the block does before the write. -/
def State.writeFields (s : State) (p : Page) (fs : List FieldAt) (word : Nat) : State :=
  (fs.map fun fa => (fa, s.quietBusy p fa)).foldl (fun s x =>
    s.writeField p x.1 (bitsAt word x.1.f.lo x.1.f.width) (mixedRegister fs) x.2) s

/-- A full 32-bit write to a register by the access types and classes of its fields alone (R5, R9, R11, R22, R597). -/
def State.writePlain (s : State) (r : Requester) (p : Page) (off word : Nat) : State :=
  let fs := fieldsAt p.kind off
  if fs.isEmpty then s
  else if !s.admits r p (off < 0x40) then s.werr p
  else if s.writeReserved p fs word then s.werr p
  else (s.writeFields p fs word).pagePairs p

/-- A write with actions of its own: admission and reserved values are judged first, the plain fields are written, and
then the register's actions take place. -/
def State.writeWith (s : State) (r : Requester) (p : Page) (off word : Nat) (act : State → State) : State :=
  let fs := fieldsAt p.kind off
  if !s.admits r p (off < 0x40) then s.werr p
  else if s.writeReserved p fs word then s.werr p
  else act ((s.writeFields p fs word).pagePairs p)

/-! ### Values that reads return -/

/-- The site-pin number of a channel within its site (R161). -/
def State.pinOf (s : State) (c : Nat) : Nat :=
  match s.siteOf c with
  | none => 0
  | some n => ((List.range c).filter fun d => s.siteOf d = some n).length

/-- Fields of the page header (R584 to R591). -/
def State.viewHeader (s : State) (p : Page) (f : Field) : Nat :=
  let src := pageSources p
  let live := fun k => match src[k]? with | some n => bitAt (s.rd pFlt FLT_LIVE_LIVE (n / 32)) (n % 32) | none => false
  let latch := fun k => match src[k]? with | some n => bitAt (s.rd pFlt FLT_LATCH_LATCH (n / 32)) (n % 32) | none => false
  if f = PAGE_ID_TYPE then pageType p.kind
  else if f = PAGE_ID_INST then p.inst
  else if f = PAGE_CAP_COMMIT then b2n (capCommit p.kind)
  else if f = PAGE_CAP_RST then b2n (capRst p.kind)
  else if f = PAGE_CAP_PWR then b2n (capPwr p.kind)
  else if f = PAGE_CAP_FSRC then b2n (!src.isEmpty)
  else if f = PAGE_CAP_SIZE then pageSize p.kind / 1024
  else if f = PAGE_CTL_EN then (if capRst p.kind then s.rd p f else 1)
  else if f = PAGE_CTL_PWR then
    (if capPwr p.kind then
      b2n ((pageDomains p).all fun d => bitAt
        (if d < 32 then s.rd pPwr PWR_REQ0_REQ else if d < 64 then s.rd pPwr PWR_REQ1_REQ else s.rd pPwr PWR_REQ2_REQ) (d % 32))
     else b2n ((pageDomains p).all fun d => s.domainOn d))
  else if f = PAGE_STAT_STATE then s.pageState p
  else if f = PAGE_STAT_BUSY then b2n (s.pageBusy p)
  else if f = PAGE_FLT_ALIVE then b2n (live 0)
  else if f = PAGE_FLT_BLIVE then b2n (live 1)
  else if f = PAGE_FLT_AVAL then b2n (decide (0 < src.length))
  else if f = PAGE_FLT_BVAL then b2n (decide (1 < src.length))
  else if f = PAGE_FLT_SLOTA then src.getD 0 0
  else if f = PAGE_FLT_SLOTB then src.getD 1 0
  else if f = PAGE_FLTL_ALATCH then b2n (latch 0)
  else if f = PAGE_FLTL_BLATCH then b2n (latch 1)
  else s.rd p f

/-- A mask of eight channel conditions of a sheaf. -/
def mask8 (g : Nat → Bool) : Nat := ((List.range 8).map fun i => if g i then 2 ^ i else 0).sum

/-- Sheaf fields that show other state (R75, R76, R161). -/
def State.viewSh (s : State) (p : Page) (f : Field) (i : Nat) : Nat :=
  let k := p.inst
  if f = SH_FCAUSE_OCMAP then mask8 fun i => s.bit p CH_STAT_OC i
  else if f = SH_FCAUSE_OORMAP then mask8 fun i => s.bit p CH_STAT_OOR i
  else if f = SH_FCAUSE_OC then b2n ((List.range 8).any fun i => s.bit p CH_STAT_OC i)
  else if f = SH_FCAUSE_OOR then b2n ((List.range 8).any fun i => s.bit p CH_STAT_OOR i)
  else if f = SH_SAFE_SAFE then mask8 fun i => s.chanSafe (8 * k + i)
  else if f = SH_OPC_CTL_BUSY then b2n (tabGet {} s.sh k).opc.isSome
  else if f = CH_STAT_SAFE then b2n (s.chanSafe (8 * k + i))
  else if f = CH_STAT_PMU_ON then b2n (s.pmuOn (8 * k + i))
  else if f = CH_STAT_ABOVE ∨ f = CH_STAT_BELOW then
    (if s.chanOff (8 * k + i) || !s.bit p CH_CTL_CMP_EN i then 0 else Config.freeValue (s.free + (f.lo - 10)) % 2)
  else if f = SH_RSTAT_LO_PIN then s.pinOf (8 * k)
  else if f = SH_RSTAT_HI_PIN then (if s.bit p SH_SITE_SPLIT then s.pinOf (8 * k + 4) else 0)
  else s.rd p f i

/-- Sequencer and Hopper fields that show operating state (R159, R227). -/
def State.viewSq (s : State) (p : Page) (f : Field) (i : Nat) : Nat :=
  let o := s.sqo p.inst
  if f = SQ_STAT_HELD then b2n o.held.isSome
  else if f = SQ_STAT_LDEPTH then o.loops.length
  else if f = SQ_STAT_CDEPTH then o.calls.length
  else if f = SQ_JSTAT_PEND then b2n o.hjump.isSome
  else if f = SQ_VECL_VEC then o.vec % 2 ^ 32
  else if f = SQ_VECH_VEC then o.vec / 2 ^ 32 % 65536
  else s.rd p f i

/-- The usable bytes a Hopper holds. -/
def State.hopFill (s : State) (n : Nat) : Nat := ((s.hopo n).bales.map (·.bytes)).sum

/-- The Barista fields that show its entries (R421). -/
def State.viewBrst (s : State) (p : Page) (f : Field) (i : Nat) : Nat :=
  let es := s.brst.entries.map (·.2)
  let disp := fun (e : Entry) => match e.st with | .dispatched _ _ => true | _ => false
  if f = BRST_FREE_FREE then 4096 - es.length
  else if f = BRST_STAT_FULL then b2n (decide (4096 ≤ es.length))
  else if f = BRST_DEPTH_DEPTH then s.queuedCount i
  else if f = BRST_INFL_INFL then (es.filter fun e => e.item.pl = i && disp e).length
  else if f = BRST_BSTAT_WAITING then b2n (s.brst.takers.any fun k => k.1 = i)
  else if f = BRST_BSTAT_HELDN then (es.filter fun e => match e.st with | .dispatched b _ => b = i | _ => false).length
  else s.rd p f i

/-- TIME_HOLDT (R328): whole ms since the last offset the servo used, or since holdover began. -/
def State.holdMs (s : State) : Nat :=
  match s.time.lastUsed with
  | some t => min ((s.now - t) / msG) (2 ^ 32 - 1)
  | none => if s.bit pTime TIME_STAT_HOLDOVER then min ((s.now - s.time.holdFrom) / msG) (2 ^ 32 - 1) else 0

/-- Fixed transmit latency of an Ethernet mode in 2^-16 ns (R336): 9.600, 4.240, 6.080 ns. -/
def txLat (fast fec : Bool) : Nat := if !fast then 629146 else if fec then 398459 else 277873

/-- Fixed receive latency of an Ethernet mode in 2^-16 ns (R336): 14.080, 6.720, 92.160 ns. -/
def rxLat (fast fec : Bool) : Nat := if !fast then 922747 else if fec then 6039798 else 440402

/-- Summary fields of the other pages. -/
def State.viewOther (s : State) (p : Page) (f : Field) (i j : Nat) : Nat :=
  match p.kind with
  | .clk =>
    if f = SF_SET0_FLAGS then s.rd p SF_VAL0_FLAGS
    else if f = SF_SET1_FLAGS then s.rd p SF_VAL1_FLAGS
    else if f = SPAN_CFG_LEAD then b2n (s.isLead i)
    else s.rd p f i j
  | .asn =>
    if f = AS_STAT_ACT ∧ s.rd p f = 2 then b2n (decide (s.now / (2 * fcG) ≤ s.scan.gEnd)) * 2
    else s.rd p f i j
  | .hop =>
    if f = HOP_FILL_FILL then s.hopFill i
    else if f = HOP_STAT_URG then
      b2n (s.sqRunning i && decide (s.hopFill i + ((s.hopo i).reqs.map (·.len)).sum < s.rd p HOP_THR_URGENT i * 1024))
    else if f = HOP_STAT_FETCH then b2n (s.hopo i).on
    else s.rd p f i j
  | .gln =>
    if f = GLN_SSTAT_HELD then b2n (s.glnSite i).held.isSome
    else if f = GLN_STAT_BPEND then b2n (!s.gln.updates.isEmpty)
    else if f = GLN_FCL_FC then s.counter (0x400 + i) % 2 ^ 32
    else if f = GLN_SFVL_SFV then s.counter (0x540 + i) % 2 ^ 32
    else if f = GLN_SCVL_SCV then s.counter (0x560 + i) % 2 ^ 32
    else if f = GLN_FCH_FC then
      (match tabFind s.gln.shadow (f.off + i * f.s1) with | some v => v | none => s.counter (0x400 + i) / 2 ^ 32)
    else if f = GLN_SFVH_SFV then
      (match tabFind s.gln.shadow (f.off + i * f.s1) with | some v => v | none => s.counter (0x540 + i) / 2 ^ 32)
    else if f = GLN_SCVH_SCV then
      (match tabFind s.gln.shadow (f.off + i * f.s1) with | some v => v | none => s.counter (0x560 + i) / 2 ^ 32)
    else s.rd p f i j
  | .ddr =>
    if f = DDR_SIZE_SIZE then s.ddrMiB
    else if f = DDR_SUM_FROZEN then ((List.range 4).map fun n => if s.rd (pDc n) DC_STAT_STATE = 4 then 2 ^ n else 0).sum
    else if f = DDR_SUM_SELFREF then ((List.range 4).map fun n => if s.rd (pDc n) DC_STAT_STATE = 3 then 2 ^ n else 0).sum
    else if f = DDR_SUM_READY then ((List.range 4).map fun n => if s.rd (pDc n) DC_STAT_STATE = 2 then 2 ^ n else 0).sum
    else s.rd p f i j
  | .bw =>
    if f = BW_PC_PC then (tabGet {} s.bwc p.inst).pc
    else s.rd p f i j
  | .ucode =>
    if f = UC_STAT_ACTIVE then ((List.range 4).map fun k => b2n (s.uctx i k).active * 2 ^ k).sum
    else if f = UC_SUM_SIGOK then ((List.range 10).map fun n => if s.bit pUc UC_STAT_SIGOK n then 2 ^ n else 0).sum
    else if f = UC_SUM_SIGFAIL then ((List.range 10).map fun n => if s.bit pUc UC_STAT_SIGFAIL n then 2 ^ n else 0).sum
    else s.rd p f i j
  | .cnt =>
    if f = CNT_STAT_DUMPING then b2n s.cnt.dump.isSome
    else if f = CNT_STAT_PEND then b2n s.cnt.demand.isSome
    else if f = CNT_L_VAL then s.counter i % 2 ^ 32
    else if f = CNT_H_VAL then (match tabFind s.cnt.readShadow i with | some v => v | none => s.counter i / 2 ^ 32)
    else s.rd p f i j
  | .host =>
    if f = HOST_CR_STAT_RUN then b2n (s.ringRuns i)
    else s.rd p f i j
  | .winn =>
    if f = WINN_STAT_TDRIFT then b2n (s.winn.deskewed &&
      decide (40 < (4 * toSigned 8 (bitsAt (s.rd pSilo SILO_TEMP_TEMP) 16 8) - toSigned 16 (s.rd pWinn WINN_DTEMP_DTEMP)).natAbs))
    else s.rd p f i j
  | .time =>
    if f = TIME_INC0_INC then s.inc % 2 ^ 32
    else if f = TIME_INC1_INC then s.inc / 2 ^ 32
    else if f = TIME_HOLDT_HOLDT then s.holdMs
    else if f = TIME_NOW0_NOW then s.stampAt s.now % 2 ^ 32
    else if f = TIME_NOW1_NOW then s.time.shadow % 2 ^ 32
    else if f = TIME_NOW2_NOW then s.time.shadow / 2 ^ 32
    else s.rd p f i j
  | .eth =>
    if f = ETH_TXLAT_LAT then txLat (s.bit p ETH_CFG_SPEED) (s.bit p ETH_CFG_FEC)
    else if f = ETH_RXLAT_LAT then rxLat (s.bit p ETH_CFG_SPEED) (s.bit p ETH_CFG_FEC)
    else s.rd p f i j
  | _ => s.rd p f i j

/-- The value of a field as a read shows it. -/
def State.view (s : State) (p : Page) (f : Field) (i j : Nat) : Nat :=
  if f.off < 0x40 then s.viewHeader p f
  else match p.kind with
    | .sh => s.viewSh p f i
    | .sq => s.viewSq p f i
    | .brst => s.viewBrst p f i
    | _ => s.viewOther p f i j

/-- The 32-bit value that a read of the register at a page offset returns (R5, R6, R22). -/
def State.readReg (s : State) (p : Page) (off : Nat) : Nat :=
  if 0x40 ≤ off ∧ s.pageState p ≠ 4 then 0
  else ((fieldsAt p.kind off).map fun fa =>
    if fa.f.acc = .wo then 0 else s.view p fa.f fa.i fa.j % 2 ^ fa.f.width * 2 ^ fa.f.lo).sum

/-! ### Block resets (R20, R21) -/

/-- Latched fault bits of a kind of page: they assert a fault source until software clears them (R64, R500). -/
def latchedBits (k : PKind) : List Field :=
  match k with
  | .sh => [CH_STAT_OC, CH_STAT_OOR]
  | .gran => [GRAN_STAT_UE, GRAN_STAT_SCRUBE]
  | .qdr => [QDR_STAT_PERR, QDR_STAT_APERR]
  | .ascan => [AREF_STAT_EXTBAD]
  | .dc => [DC_STAT_LIMIT]
  | .clk => [SYNC_STAT_IRREG, SYNC_STAT_LOST, GRP_STAT_AMLLATE]
  | .aml => [AML_STAT_SYNCMIS, AML_STAT_RETRYFAIL]
  | .bw => [BW_STAT_UE]
  | .brst => [BRST_STAT_TMO]
  | _ => []

/-- A field survives a block reset: configuration, latched fault bits, the block's own counts, which are the fields that a
read clears, and SQ_TLOOP, which only LOOP writes (R20, R21, R64, R588). -/
def keepsOnReset (k : PKind) (f : Field) : Bool :=
  f.cls ≠ .none || f.acc = .rc || (latchedBits k).contains f || (k = .sq && f = SQ_TLOOP_T)

/-- Every field of class "—" of a page, chosen by its element, returns to its reset value (R21). -/
def State.resetFields (s : State) (p : Page) (sel : FieldAt → Bool) : State :=
  { s with regs := s.regs.filter fun e => !(keyInPage p e.1 && decide (pageBase p + 0x40 ≤ e.1 / 256) &&
      (match fieldAtKey p e.1 with | some fa => !keepsOnReset p.kind fa.f && sel fa | none => true)) }

end Sys2Proof.Machine
end

