-- ==== Sys2Proof/Machine/Converters.lean ====
section
/-! DEFINITION. Converter slices, the shared reference, the scan sequencer, single-channel runs and urgent conversions
(chapter Converter slices and the scan sequencer). The raw codes that the converters take are operands of the commands. -/

namespace Sys2Proof.Machine

open Reg

/-- Grains in a sample clock of 2 fc. -/
def sampleG : Nat := 2 * fcG

/-- The sample clock that holds the instant of the latest event. -/
def State.sclk (s : State) : Nat := s.now / sampleG

/-- The record of slice n. -/
def State.aso (s : State) (n : Nat) : AsOp := tabGet {} s.slice n

/-- The record of slice n changed. -/
def State.modAs (s : State) (n : Nat) (f : AsOp → AsOp) : State := { s with slice := tabMod {} s.slice n f }

/-- PD68 is on and not isolated, so slices convert (R259). -/
def State.pd68 (s : State) : Bool := s.pageState pAscan = 4

/-! ### Interleave (R289, R290) -/

/-- The slices of the interleave group of a slice, primary first; a slice that is not joined is alone. -/
def ilvGroup (mode n : Nat) : List Nat :=
  if mode = 4 then [0, 1, 2, 3]
  else if (mode = 1 ∨ mode = 3) ∧ n < 2 then [0, 1]
  else if (mode = 2 ∨ mode = 3) ∧ 2 ≤ n then [2, 3]
  else [n]

/-- The interleave group of slice n. -/
def State.groupOf (s : State) (n : Nat) : List Nat := ilvGroup (s.rd pAscan ILV_CTL_MODE) n

/-- The input that a slice's group converts: the AIN of the group, or the slice's own selection (R289). -/
def State.groupInput (s : State) (n insel : Nat) : Nat :=
  if (s.groupOf n).length = 1 then insel
  else if s.rd pAscan ILV_CTL_MODE = 4 then 0
  else if n < 2 then s.rd pAscan ILV_CTL_PIN0 else s.rd pAscan ILV_CTL_PIN1

/-- Slice n is a secondary of an interleave group. -/
def State.isSecondary (s : State) (n : Nat) : Bool := (s.groupOf n).head? ≠ some n

/-- Sample instants of slice n: its clock, the offset within its group in grains, and its skew trim (R261, R290). -/
def State.sampleAt (s : State) (n clk : Nat) : Nat :=
  let g := s.groupOf n
  let k := g.idxOf n
  let off := if g.length = 4 then k * 512 else k * 1024
  (((clk * sampleG + off : Nat) : Int) + toSigned 9 (s.rd (pAs n) AS_SKEW_SKEW)).toNat

/-! ### Samples and results (R265, R267, R268, R271, R291) -/

/-- The system-calibration set of an input: AIN 0–7, ABUS 8–15, none for the others. -/
def calSet (insel chan : Nat) : Option Nat :=
  if insel < 16 then some insel else if insel = 0x22 then some (8 + chan / 40) else none

/-- A raw code corrected by a set, rounded half up and clipped: the code and its OVR bit (R291). -/
def State.correct (s : State) (set : Option Nat) (x : RawSample) : Int × Bool :=
  let raw := x.1.toInt
  match set with
  | none => (raw, x.2)
  | some i =>
    if x.2 then (raw, true)
    else
      let num := (4 * raw - toSigned 16 (s.rd pAscan ASYS_OFS_OFS i)) * (s.rd pAscan ASYS_GAIN_GAIN i : Int)
      let c := (2 * num + 524288) / 1048576
      (clampInt (-8192) 8191 c, decide (c < -8192 ∨ 8191 < c))

/-- The samples of a run of sample clocks from `clk` on. SUSPECT follows an OVR for `win` sample clocks and an unsettled
reference; `last` is the clock + 1 of the last OVR before. -/
def State.samplesFrom (s : State) (set : Option Nat) (win : Nat) : Nat → Nat → List RawSample → List Sample
  | _, _, [] => []
  | clk, last, x :: xs =>
    let (c, o) := s.correct set x
    let unsettled : Bool := !s.bit pAscan AREF_STAT_SETTLED && decide (clk * sampleG < s.scan.refDue)
    let sus : Bool := unsettled || decide (last ≠ 0 ∧ clk < last + win)
    { code := c, ovr := o, suspect := sus } :: s.samplesFrom set win (clk + 1) (if o then clk + 1 else last) xs

/-- The clock + 1 of the last OVR after a run of samples. -/
def lastOvr : Nat → Nat → List Sample → Nat
  | _, last, [] => last
  | clk, last, x :: xs => lastOvr (clk + 1) (if x.ovr then clk + 1 else last) xs

/-- The result of R271 as a 24-bit number. -/
def resultOf (shift : Nat) (xs : List Sample) : Nat :=
  let sum := (xs.map (·.code)).sum
  ofSigned 24 (if shift = 0 then sum else (sum + 2 ^ (shift - 1)) / 2 ^ shift)

/-- The samples are counted and the slice's OVR bit is set. -/
def State.noteSamples (s : State) (n clk : Nat) (xs : List Sample) : State :=
  let k := (xs.filter (·.ovr)).length
  let s1 := (s.count (0x300 + 8 * n) xs.length).count (0x300 + 8 * n + 1) k
  let s2 := if k = 0 then s1 else s1.wr (pAs n) AS_STAT_OVR 1
  s2.modAs n fun o => { o with ovrAt := lastOvr clk o.ovrAt xs }

/-! ### Running conversions (R269) -/

/-- A group of the scan holds slice n at a sample clock. -/
def State.scanHolds (s : State) (n clk : Nat) : Bool :=
  s.bit pAscan ASCAN_STAT_RUN && bitAt s.scan.slices n && decide (clk ≤ s.scan.gEnd)

/-- Slice n runs a conversion. -/
def State.sliceRuns (s : State) (n : Nat) : Bool :=
  s.rd (pAs n) AS_STAT_ACT = 1 || s.rd (pAs n) AS_STAT_ACT = 3 || s.scanHolds n s.sclk || (s.aso n).urg.isSome

/-! ### The reference (R264 to R266) -/

/-- The reference in use changes and settles anew. -/
def State.setActive (s : State) (a : Nat) : State :=
  if s.rd pAscan AREF_STAT_ACTIVE = a then s
  else
    let s1 := (s.wr pAscan AREF_STAT_ACTIVE a).wr pAscan AREF_STAT_SETTLED 0
    { s1 with scan := { s1.scan with refDue := s1.now + (if a = 1 then 500 else 200) * usG } }

/-- A write of AREF_CTL; `inWindow` says that the VREF_ADC ball lies inside its window at the write. -/
def State.refWrite (s : State) (r : Requester) (word : Nat) (inWindow : Bool) : State :=
  let e := s.rd pAscan PAGE_STAT_WERR
  let s1 := s.wr pAscan PAGE_STAT_WERR 0
  let s2 := s1.writePlain r pAscan 0x80 word
  let taken := !s2.bit pAscan PAGE_STAT_WERR
  let s3 := if e = 0 then s2 else s2.wr pAscan PAGE_STAT_WERR 1
  if !taken then s3
  else
    let a := s3.rd pAscan AREF_CTL_SRC
    if a = 1 && !inWindow then ((s3.setActive 0).wr pAscan AREF_STAT_EXTBAD 1).pagePairs pAscan
    else s3.setActive a

def execReferenceSelect (r : Requester) (v : Word) (inWindow : Bool) (s : State) : Host.Outcome State Fault Refusal :=
  .next (s.refWrite r v.toNat inWindow)

/-- REFERENCE_SETTLED. -/
def execReferenceSettled (s : State) : Host.Outcome State Fault Refusal :=
  .next (if s.pd68 && !s.bit pAscan AREF_STAT_SETTLED then (s.advanceTo s.scan.refDue).wr pAscan AREF_STAT_SETTLED 1 else s)

/-- EXT_REFERENCE_FALLBACK: the ball has been outside its window for 10 µs. -/
def execExtReferenceFallback (s : State) : Host.Outcome State Fault Refusal :=
  .next (if s.pd68 && s.rd pAscan AREF_STAT_ACTIVE = 1 then
    ((s.setActive 0).wr pAscan AREF_STAT_EXTBAD 1).pagePairs pAscan else s)

/-! ### Scan starts (R272 to R275) -/

/-- The entries of the group that begins at an entry: the entry and those joined to it by PAR. -/
def State.groupFrom (s : State) (last : Nat) : Nat → Nat → List Nat
  | 0, _ => []
  | fuel + 1, i =>
    if i < last ∧ s.bit pAscan ASL_SEL_PAR (i + 1) then i :: s.groupFrom last fuel (i + 1) else [i]

/-- The bus that a CHAN entry uses. -/
def State.entryBus (s : State) (i : Nat) : Option Nat :=
  if s.rd pAscan ASL_SEL_INSEL i = 0x22 then some (s.rd pAscan ASL_SEL_CHAN i / 40) else none

/-- An entry that makes a scan start refuse by itself (R275); a slice that the Winnower holds cannot be scanned (R347). -/
def State.entryBad (s : State) (i : Nat) : Bool :=
  let n := s.rd pAscan ASL_SEL_SLICE i
  s.rd (pAs n) AS_CFG_OWNER ≠ 2 || (s.groupOf n).length ≠ 1 || bitAt s.winn.slices n
    || (match s.entryBus i with | some b => !bitAt (s.rd pAscan ASCAN_ABUS_OWN) b | none => false)

/-- Two entries of a group share a slice, or two CHAN entries of it a bus. -/
def State.groupBad (s : State) (es : List Nat) : Bool :=
  es.any fun i => es.any fun j => decide (i < j) &&
    (s.rd pAscan ASL_SEL_SLICE i = s.rd pAscan ASL_SEL_SLICE j
      || (s.entryBus i).isSome && s.entryBus i = s.entryBus j)

/-- The configuration makes a start refuse (R275). -/
def State.scanBad (s : State) : Bool :=
  let last := s.rd pAscan ASCAN_CFG_LAST
  (List.range (last + 1)).any fun i => s.entryBad i || (s.groupBad (s.groupFrom last 64 i))

/-- A start of any source (R273 to R275). -/
def State.scanStart (s : State) : State :=
  if !s.pd68 then s
  else if s.bit pAscan ASCAN_STAT_RUN then (s.satAdd pAscan ASCAN_SDROP_SDROP 1).count 0x322
  else if s.scanBad then s.wr pAscan ASCAN_STAT_CFGERR 1
  else
    let s1 := (s.wr pAscan ASCAN_STAT_RUN 1).wr pAscan ASCAN_SCANNO_SCANNO (s.rd pAscan ASCAN_SCANNO_SCANNO + 1)
    { s1 with scan := { s1.scan with next := 0, due := s1.sclk + 1, gEnd := 0, slices := 0, out := [], carried := [] } }

/-! ### The end of a scan, and its commits (R270, R276, R280) -/

/-- The slices that a scan holds are given back. -/
def State.scanFree (s : State) : State :=
  (List.range 4).foldl (fun s n => if s.rd (pAs n) AS_STAT_ACT = 2 then s.wr (pAs n) AS_STAT_ACT 0 else s) s

/-- The scan is no longer running: its switches open and a commit that waits is applied. -/
def State.scanOver (s : State) : State :=
  let s1 := (s.wr pAscan ASCAN_STAT_RUN 0).scanFree
  let s2 := { s1 with scan := { s1.scan with out := [], closed := [], slices := 0 } }
  if s2.bit pAscan PAGE_COMMIT_PEND then s2.scanCommit else s2

/-- A running scan ends at once (R276). -/
def State.scanAbort (s : State) : State :=
  if s.bit pAscan ASCAN_STAT_RUN then (s.wr pAscan ASCAN_STAT_ABORTED 1).scanOver else s

/-- A write of ASCAN_CTL. -/
def State.scanCtlWrite (s : State) (r : Requester) (word : Nat) : State :=
  s.writeWith r pAscan 0x40 word fun s =>
    let s1 := if bitAt word 0 then s.scanStart else s
    if bitAt word 1 then s1.scanAbort else s1

def execScanStart (r : Requester) (s : State) : Host.Outcome State Fault Refusal := .next (s.scanCtlWrite r 1)

def execScanAbort (r : Requester) (s : State) : Host.Outcome State Fault Refusal := .next (s.scanCtlWrite r 2)

/-- SCAN_PERIOD_START. -/
def execScanPeriodStart (s : State) : Host.Outcome State Fault Refusal :=
  if s.pd68 && s.rd pAscan ASCAN_CFG_SSRC = 1 then
    let t := s.scan.perNext
    let s1 := s.advanceTo t
    .next { s1 with scan := { s1.scan with perNext := t + s.rd pAscan ASCAN_PER_PER * sampleG } }.scanStart
  else .next s

/-- SCAN_TRIGGER_START: the oldest trigger on its way reaches the scan sequencer. -/
def execScanTriggerStart (s : State) : Host.Outcome State Fault Refusal :=
  match s.scan.trigs with
  | (src, t) :: rest =>
    let s1 := s.advanceTo t
    let s2 := { s1 with scan := { s1.scan with trigs := rest } }
    .next (if s2.rd pAscan ASCAN_CFG_SSRC = src then s2.scanStart else s2)
  | [] => .next s

/-! ### Groups (R270 to R272, R277, R286) -/

/-- The started form of an entry whose group starts at a sample clock. -/
def State.startEntry (s : State) (c i : Nat) : ScanEntry :=
  let chan := (s.entryBus i).map fun b => (b, s.rd pAscan ASL_SEL_CHAN i)
  { idx := i, slice := s.rd pAscan ASL_SEL_SLICE i, start := c, chan := chan,
    first := c + (if chan.isSome then 16 else 0) + s.rd pAscan ASL_SET_SETTLE i }

/-- The last sample clock of a started entry. -/
def State.entryEnd (s : State) (e : ScanEntry) : Nat := e.first + 2 ^ s.rd pAscan ASL_AVG_AVG e.idx - 1

/-- The switch that the bus of an entry last carried opens, unless it is the same channel. -/
def State.openSwitch (s : State) (e : ScanEntry) : State :=
  match e.chan with
  | none => s
  | some (b, c) =>
    { s with scan := { s.scan with
      closed := if tabGet 0 s.scan.carried b = c + 1 then s.scan.closed else tabPut 0 s.scan.closed b 0,
      carried := tabPut 0 s.scan.carried b (c + 1) } }

/-- An urgent request is dropped (R285 to R288). -/
def State.urgDrop (s : State) (n ch : Nat) : State :=
  let s1 := (s.satAdd (pAs n) AS_DROP_DROP 1).wr (pAs n) AS_URES_DRP 1 ch
  let busy : Bool := match (s.aso n).urg with | some u => u.chan = ch | none => false
  (if busy then s1 else s1.wr (pAs n) AS_URES_STAT 3 ch).count (0x300 + 8 * n + 3)

/-- The urgent conversion of a slice ends without a result. -/
def State.urgEnd (s : State) (n : Nat) : State :=
  match (s.aso n).urg with
  | some u => (((s.modAs n fun o => { o with urg := none }).wr (pAs n) AS_STAT_URG 0)).urgDrop n u.chan
  | none => s

/-- A group starts at a sample clock. -/
def State.startGroup (s : State) (c : Nat) (es : List ScanEntry) : State :=
  let s0 := s.advanceTo (c * sampleG)
  let s1 := es.foldl State.openSwitch (es.foldl (fun s e => s.urgEnd e.slice) s0)
  let s2 := (es.foldl (fun s e => s.wr (pAs e.slice) AS_STAT_ACT 2) s1.scanFree)
  { s2 with scan := { s2.scan with
    next := s2.scan.next + es.length, out := s2.scan.out ++ es,
    gEnd := es.foldl (fun m e => max m (s.entryEnd e)) 0,
    due := es.foldl (fun m e => max m (s.entryEnd e)) 0 + 1,
    slices := es.foldl (fun m e => setBit m e.slice true) 0 } }

/-- SCAN_GROUP_START: the next group starts, or waits for queue room or for an urgent conversion. -/
def State.scanGroup (s : State) : State :=
  let last := s.rd pAscan ASCAN_CFG_LAST
  if !s.bit pAscan ASCAN_STAT_RUN || decide (last < s.scan.next) then s
  else
    let c := max s.scan.due s.sclk
    let es := (s.groupFrom last 64 s.scan.next).map (s.startEntry c)
    if 256 < s.scan.queue.length + s.scan.out.length + es.length then s.wr pAscan ASCAN_STAT_QWAIT 1
    else if es.any fun e => (match (s.aso e.slice).urg with | some u => decide (u.req < c) | none => false) then
      s.wr pAscan ASCAN_STAT_DELAYED 1
    else (if s.bit pAscan ASCAN_STAT_QWAIT then s.count 0x323 (c - s.scan.due) else s).startGroup c es

def execScanGroupStart (s : State) : Host.Outcome State Fault Refusal := .next s.scanGroup

/-- The switch of a CHAN entry closes, or stays open with NOCONN. -/
def State.closeSwitch (s : State) (e : ScanEntry) : State :=
  match e.chan with
  | none => s
  | some (b, c) =>
    if e.switched then s
    else
      let p := pSh (c / 8)
      let ok := !s.chanOff c && s.bit p CH_PMU_CTL_CONNECT (c % 8) && s.rd p CH_PMU_CTL_MODE (c % 8) ≠ 0 && !s.chanSafe c
      { s with scan := { s.scan with
        closed := tabPut 0 s.scan.closed b (if ok then c + 1 else 0),
        out := s.scan.out.map fun x => if x.idx = e.idx then { x with switched := true, noconn := !ok } else x } }

/-- ABUS_SWITCH_CLOSE on a bus: the oldest started CHAN entry of the bus whose switch has not acted. -/
def execAbusSwitchClose (bus : Fin 8) (s : State) : Host.Outcome State Fault Refusal :=
  match s.scan.out.find? fun e => !e.switched && (match e.chan with | some (b, _) => b = bus.val | none => false) with
  | some e => .next ((s.advanceTo ((e.start + 16) * sampleG)).closeSwitch e)
  | none => .next s

/-! ### Results and the queue (R277 to R279) -/

/-- The 32 bytes of a queue entry. -/
def State.scanBytes (s : State) (e : ScanEntry) (xs : List Sample) : List Byte :=
  let avg := s.rd pAscan ASL_AVG_AVG e.idx
  let shift := s.rd pAscan ASL_AVG_SHIFT e.idx
  let word := resultOf shift xs + b2n (xs.any (·.ovr)) * 2 ^ 24 + b2n (xs.any (·.suspect)) * 2 ^ 25 + b2n e.noconn * 2 ^ 26
    + b2n (e.idx = s.rd pAscan ASCAN_CFG_LAST) * 2 ^ 27
  leBytes 4 word ++ leBytes 1 e.idx ++ leBytes 1 e.slice ++ leBytes 2 (s.rd pAscan ASL_SEL_INSEL e.idx)
    ++ leBytes 2 (match e.chan with | some (_, c) => c | none => 0) ++ leBytes 2 (s.rd pAscan ASCAN_SCANNO_SCANNO)
    ++ leBytes 1 avg ++ leBytes 1 shift ++ leBytes 2 0 ++ leBytes 12 (s.stampAt (s.sampleAt e.slice e.first)) ++ leBytes 4 0

/-- The work item of a completed scan: accepted, held, or discarded while one is held (R279). -/
def State.scanItem (s : State) : State :=
  let it : Item := { typ := 5, pl := s.rd pAscan ASCAN_CFG_PL, notify := false, src := 0x21, site := 0, nosite := true,
                     token := s.rd pAscan ASCAN_SCANNO_SCANNO, arg := 0, data := s.scan.firstPos, origin := none }
  if s.scan.held.isSome then s.satAdd pAscan ASCAN_WDROP_WDROP 1
  else match s.offer it with
    | .accepted s1 => s1
    | .held s1 => { s1 with scan := { s1.scan with held := some it } }.wr pAscan ASCAN_STAT_HELD 1
    | .lost => s

/-- The result of the oldest started entry enters the queue; the last one ends the scan. -/
def State.queueResult (s : State) (e : ScanEntry) (raw : List RawSample) : State :=
  let s0 := s.advanceTo ((e.first + raw.length) * sampleG)
  let set := calSet (s.rd pAscan ASL_SEL_INSEL e.idx) (s.rd pAscan ASL_SEL_CHAN e.idx)
  let xs := s0.samplesFrom set 60 e.first (s0.aso e.slice).ovrAt raw
  let pos := (s0.rd pAscan ASCAN_QPROD_PROD + s0.scan.queue.length) % s0.rd pAscan ASCAN_QSIZE_QSIZE
  let s1 := s0.noteSamples e.slice e.first xs
  let s2 := { s1 with scan := { s1.scan with
    out := s1.scan.out.drop 1, queue := s1.scan.queue ++ [s0.scanBytes e xs],
    firstPos := if e.idx = 0 then pos else s1.scan.firstPos } }.count 0x321
  if e.idx = s.rd pAscan ASCAN_CFG_LAST then
    let s3 := s2.count 0x320
    (if s3.bit pAscan ASCAN_CFG_WI then s3.scanItem else s3).scanOver
  else s2

/-- SCAN_RESULT_QUEUE: the raw samples of the oldest started entry. -/
def execScanResultQueue (raw : List RawSample) (s : State) : Host.Outcome State Fault Refusal :=
  match s.scan.out with
  | e :: _ =>
    let s1 := s.closeSwitch e
    match s1.scan.out with
    | e1 :: _ => .next (if raw.length = 2 ^ s1.rd pAscan ASL_AVG_AVG e1.idx then s1.queueResult e1 raw else s)
    | [] => .next s
  | [] => .next s

/-- SCAN_QUEUE_COPY: the oldest queue entry is copied to the ring when it has room (R277). -/
def execScanQueueCopy (s : State) : Host.Outcome State Fault Refusal :=
  match s.scan.queue with
  | e :: rest =>
    let size := s.rd pAscan ASCAN_QSIZE_QSIZE
    let prod := s.rd pAscan ASCAN_QPROD_PROD
    if ringFull prod (s.rd pAscan ASCAN_QCONS_CONS) size || !s.hostOk || !s.pd68 then .next s
    else
      let a := s.rd pAscan ASCAN_QBASEH_QBASE * 2 ^ 32 + s.rd pAscan ASCAN_QBASEL_QBASE + 32 * prod
      let s1 := (s.hostWrite a e).wr pAscan ASCAN_QPROD_PROD ((prod + 1) % size)
      .next ({ s1 with scan := { s1.scan with queue := rest } }.raiseCause 10)
  | [] => .next s

/-! ### Single-channel runs (R281 to R283) -/

/-- ACT of every slice of a group. -/
def State.putAct (s : State) (n a : Nat) : State := (s.groupOf n).foldl (fun s k => s.wr (pAs k) AS_STAT_ACT a) s

/-- Sample 0 of a run is taken at a sample clock. -/
def State.singleBegin (s : State) (n clk : Nat) : State :=
  let s1 := s.modAs n fun o => { o with single := some { wait := none, start := clk } }
  s1.wr3 (pAs n) AS_SC_TS0_TS AS_SC_TS1_TS AS_SC_TS2_TS (s.stampAt (s.sampleAt n clk))

/-- RUN: on an idle slice with OWNER = SINGLE that is no secondary; it begins at once or waits for SYNC. -/
def State.singleRun (s : State) (n : Nat) : State :=
  let p := pAs n
  if !s.pd68 || s.rd p AS_CFG_OWNER ≠ 1 || s.isSecondary n || (s.groupOf n).any (fun k => s.sliceRuns k || bitAt s.winn.slices k) then s
  else
    let s1 := ((s.putAct n 1).wr p AS_SC_WPTR_WPTR 0).wr p AS_SC_WRAP_WRAP 0
    if s1.bit p AS_CFG_STARTMODE then s1.modAs n fun o => { o with single := some { wait := some s.now, start := 0 } }
    else s1.singleBegin n (s1.sclk + 1)

/-- Runs that wait for SYNC begin at the first sample clock from it on. -/
def State.singleSync (s : State) (t : Nat) : State :=
  (List.range 4).foldl (fun s n => match (s.aso n).single with
    | some o => (match o.wait with
      | some w => if w ≤ t then s.singleBegin n ((t + sampleG - 1) / sampleG) else s
      | none => s)
    | none => s) s

/-- Kept samples taken by a run up to a sample clock: one in every 2^DEC of the group's stream. -/
def State.keptBy (s : State) (n : Nat) (o : SingleOp) (clk : Nat) : Nat :=
  let c := match o.stop with | some e => min e clk | none => clk
  if o.wait.isSome ∨ c < o.start then 0
  else ((c - o.start) * (s.groupOf n).length + (s.groupOf n).length - 1) / 2 ^ s.rd (pAs n) AS_SC_IN_DEC + 1

/-- The kept samples of the time that has passed enter the 64 KiB buffer; those that meet it full are lost (R283). -/
def State.singleFill (s : State) (n : Nat) (o : SingleOp) : State × SingleOp :=
  let got := s.keptBy n o s.sclk - o.seen
  let stay := min got (32768 - o.inBuf)
  let lost := got - stay
  let o1 := { o with seen := o.seen + got, inBuf := o.inBuf + stay }
  let s1 := s.modAs n fun a => { a with single := some o1 }
  if lost = 0 then (s1, o1)
  else
    let first := o.seen + stay
    let s2 := if s1.bit (pAs n) AS_STAT_GAP then s1 else
      (s1.wr (pAs n) AS_SC_GAPL_GAP (first % 2 ^ 32)).wr (pAs n) AS_SC_GAPH_GAP (first / 2 ^ 32)
    ((s2.satAdd (pAs n) AS_SC_LOST_LOST lost).wr (pAs n) AS_STAT_GAP 1, o1)

/-- The run ends at a sample clock. -/
def State.singleEnd (s : State) (n clk : Nat) : State :=
  match (s.aso n).single with
  | some o => (s.modAs n fun a => { a with single := if o.wait.isSome then none else some { o with stop := some clk } }).putAct n 0
  | none => s

/-- A write of AS_SC_CTL. -/
def State.scCtlWrite (s : State) (r : Requester) (n word : Nat) : State :=
  s.writeWith r (pAs n) 0x44 word fun s =>
    let s1 := if bitAt word 0 then s.singleRun n else s
    if bitAt word 1 then (if s1.rd (pAs n) AS_STAT_ACT = 1 then s1.singleEnd n (s1.sclk + 1) else s1) else s1

def execSingleRunStart (r : Requester) (n : Fin 4) (s : State) : Host.Outcome State Fault Refusal := .next (s.scCtlWrite r n 1)

def execSingleRunStop (r : Requester) (n : Fin 4) (s : State) : Host.Outcome State Fault Refusal := .next (s.scCtlWrite r n 2)

/-- The sample word of a sample (R260). -/
def sampleWord (x : Sample) : Nat := ofSigned 14 x.code * 4 + b2n x.ovr * 2 + b2n x.suspect

/-- The samples of a group's stream from stream sample `j` on, sample 0 at clock `start`: sample j is taken by slice j mod m
of the group, and SUSPECT follows an OVR of the same slice (R267, R290). `lasts` holds each slice's last OVR. -/
def State.streamFrom (s : State) (set : Option Nat) (start m : Nat) : Nat → List Nat → List RawSample → List Sample
  | _, _, [] => []
  | j, lasts, x :: xs =>
    let clk := start + j / m
    match s.samplesFrom set 2 clk (lasts.getD (j % m) 0) [x] with
    | y :: _ => y :: s.streamFrom set start m (j + 1) (if y.ovr then lasts.set (j % m) (clk + 1) else lasts) xs
    | [] => []

/-- The elements of a list at the positions that are k modulo m. -/
def everyNth {α : Type} (m k : Nat) (xs : List α) : List α := (xs.zipIdx.filter fun x => x.2 % m = k).map (·.1)

/-- A block of 128 kept samples reaches the host buffer (R281, R282). `raw` is the stream that holds them. -/
def State.singleBlock (s : State) (n : Nat) (o : SingleOp) (raw : List RawSample) : State :=
  let p := pAs n
  let g := s.groupOf n
  let m := g.length
  let dec := 2 ^ s.rd p AS_SC_IN_DEC
  let j := (o.seen - o.inBuf) * dec
  let all := s.streamFrom (calSet (s.groupInput n (s.rd p AS_SC_IN_INSEL)) 0) o.start m j (g.map fun k => (s.aso k).ovrAt) raw
  let xs := everyNth dec 0 all
  let size := s.rd p AS_SC_SIZE_SIZE * 4096
  let w := s.rd p AS_SC_WPTR_WPTR
  let a := s.rd p AS_SC_BASEH_BASE * 2 ^ 32 + s.rd p AS_SC_BASEL_BASE + w
  let s1 := (s.hostWrite a (xs.flatMap fun x => leBytes 2 (sampleWord x)))
  let s2 := (List.range m).foldl (fun s k => s.noteSamples (g.getD k n) (o.start + j / m) (everyNth m k all)) s1
  let wrap : Bool := decide (size ≤ w + 256)
  let s3 := (s2.wr p AS_SC_WPTR_WPTR (if wrap then 0 else w + 256)).modAs n fun x =>
    { x with single := some { o with inBuf := o.inBuf - 128 } }
  let s4 := if wrap then s3.wr p AS_SC_WRAP_WRAP (s3.rd p AS_SC_WRAP_WRAP + 1) else s3
  (if wrap && s4.bit p AS_SC_IN_STOPFULL && s4.rd p AS_STAT_ACT = 1 then s4.singleEnd n s4.sclk else s4).raiseCause 18

/-- SINGLE_BLOCK_WRITE: the raw codes of the stream that holds the block's 128 kept samples, each the first of 2^DEC. -/
def execSingleBlockWrite (n : Fin 4) (raw : List RawSample) (s : State) : Host.Outcome State Fault Refusal :=
  match (s.aso n).single with
  | some o =>
    let (s1, o1) := s.singleFill n o
    .next (if raw.length = 128 * 2 ^ s.rd (pAs n) AS_SC_IN_DEC && decide (128 ≤ o1.inBuf) && s.hostOk then
      s1.singleBlock n o1 raw else s1)
  | none => .next s

/-! ### Urgent conversions (R284 to R288) -/

/-- A request is refused: CHAN, a secondary slice, no power, or a slice that the Winnower holds (R285, R347). -/
def State.urgRefused (s : State) (n insel : Nat) : Bool := insel = 0x22 || s.isSecondary n || !s.pd68 || bitAt s.winn.slices n

/-- A request is performed from the next sample clock. -/
def State.urgTake (s : State) (n ch : Nat) : State :=
  let p := pAs n
  let u : UrgOp := { chan := ch, req := s.sclk, first := s.sclk + 1 + s.rd p AS_USET_SETTLE ch,
                     insel := s.rd p AS_URG_INSEL ch, avg := s.rd p AS_URG_AVG ch, shift := s.rd p AS_URG_SHIFT ch }
  ((s.modAs n fun o => { o with urg := some u }).wr p AS_STAT_URG 1).wr p AS_URES_STAT 1 ch

/-- GO of an urgent channel. URG0 in the sample clock of a request of URG1 takes its place (R287). -/
def State.urgGo (s : State) (n ch : Nat) : State :=
  if s.urgRefused n (s.rd (pAs n) AS_URG_INSEL ch) then s.wr (pAs n) AS_URES_STAT 4 ch
  else
    let yields : Bool := match (s.aso n).urg with
      | some u => ch = 0 && u.chan = 1 && u.req = s.sclk
      | none => false
    if yields then (s.urgEnd n).urgTake n ch
    else if s.sliceRuns n then s.urgDrop n ch
    else s.urgTake n ch

/-- A write of AS_URGn. -/
def State.urgWrite (s : State) (r : Requester) (n ch word : Nat) : State :=
  s.writeWith r (pAs n) (0x80 + 0x10 * ch) word fun s => if bitAt word 31 then s.urgGo n ch else s

def execUrgentRequest (r : Requester) (n : Fin 4) (ch : Fin 2) (v : Word) (s : State) : Host.Outcome State Fault Refusal :=
  .next (s.urgWrite r n ch (setBit v.toNat 31 true))

/-- The result of an urgent conversion is written. -/
def State.urgResult (s : State) (n : Nat) (u : UrgOp) (raw : List RawSample) : State :=
  let p := pAs n
  let s0 := s.advanceTo ((u.first + raw.length) * sampleG)
  let xs := s0.samplesFrom (calSet u.insel 0) 2 u.first (s0.aso n).ovrAt raw
  let s1 := ((s0.noteSamples n u.first xs).modAs n fun o => { o with urg := none }).wr p AS_STAT_URG 0
  let s2 := (s1.wr p AS_URES_RESULT (resultOf u.shift xs) u.chan).wr p AS_URES_OVR (b2n (xs.any (·.ovr))) u.chan
  ((s2.wr p AS_URES_SUSPECT (b2n (xs.any (·.suspect))) u.chan).wr p AS_URES_STAT 2 u.chan).count (0x300 + 8 * n + 2)

/-- URGENT_RESULT: the raw samples of the conversion. -/
def execUrgentResult (n : Fin 4) (raw : List RawSample) (s : State) : Host.Outcome State Fault Refusal :=
  match (s.aso n).urg with
  | some u => .next (if raw.length = 2 ^ u.avg then s.urgResult n u raw else s)
  | none => .next s

/-- What an isolation or a reset of slice n does to the uses of it (R276, R288). -/
def State.sliceLost (s : State) (n : Nat) : State :=
  let s1 := (s.urgEnd n).modAs n fun o => { o with single := none }
  let uses : Bool := s1.bit pAscan ASCAN_STAT_RUN &&
    (List.range (s1.rd pAscan ASCAN_CFG_LAST + 1)).any fun i => s1.rd pAscan ASL_SEL_SLICE i = n
  (if uses then s1.scanAbort else s1).wr (pAs n) AS_STAT_ACT 0

end Sys2Proof.Machine
end

