-- ==== Sys2Proof/Machine/Measure.lean ====
section
/-! DEFINITION. The waveform measurements of a record (R313, R314), over its output samples in 1/256 LSB. -/

namespace Sys2Proof.Machine

/-- n / d rounded half up, for a positive d (R3). -/
def roundDiv (n : Int) (d : Nat) : Int := (2 * n + d) / (2 * d : Nat)

/-- The largest number whose square does not exceed n, found bit by bit from 2^b down. -/
def isqrtFrom (n : Nat) : Nat → Nat → Nat
  | 0, r => if (r + 1) * (r + 1) ≤ n then r + 1 else r
  | b + 1, r => isqrtFrom n b (if (r + 2 ^ (b + 1)) * (r + 2 ^ (b + 1)) ≤ n then r + 2 ^ (b + 1) else r)

/-- The integer square root of a number below 2^128. -/
def isqrt (n : Nat) : Nat := isqrtFrom n 63 0

/-- The square root of s / n rounded half up. -/
def rootRound (s n : Nat) : Nat :=
  let r := isqrt (s / n)
  if (2 * r + 1) * (2 * r + 1) * n ≤ 4 * s then r + 1 else r

/-- The bin of a value in the histogram over [lo, hi]. -/
def binOf (lo hi x : Int) : Nat := min 255 ((x - lo) * 256 / (hi - lo)).toNat

/-- The centre of a bin, rounded half up. -/
def binCentre (lo hi : Int) (b : Nat) : Int := lo + roundDiv ((2 * b + 1 : Nat) * (hi - lo)) 512

/-- The most populated of some bins; the later one of the list on a tie. -/
def topBin (counts : List Nat) : List Nat → Nat
  | [] => 0
  | [b] => b
  | b :: bs => let c := topBin counts bs; if counts.getD c 0 < counts.getD b 0 then b else c

/-- Adds one to a bin. -/
def addBin (counts : List Nat) (b : Nat) : List Nat := counts.set b (counts.getD b 0 + 1)

/-- TOP and BASE from the histogram. -/
def topBase (lo hi : Int) (xs : List Int) : Int × Int :=
  let counts := xs.foldl (fun c x => addBin c (binOf lo hi x)) (List.replicate 256 0)
  (binCentre lo hi (topBin counts ((List.range 128).map (128 + ·))),
   binCentre lo hi (topBin counts ((List.range 128).reverse)))

/-- The instant at which the line from (t, x) to (t + dt, x') crosses y / 100, rounded half up. -/
def crossAt (t dt : Nat) (x x' y : Int) : Nat :=
  t + (roundDiv ((y - 100 * x) * (if x ≤ x' then 1 else -1) * dt) (100 * (x' - x)).natAbs).toNat

/-- A level is crossed upward between two samples; levels are in hundredths. -/
def rises (x x' y : Int) : Bool := decide (100 * x < y ∧ y ≤ 100 * x')

/-- A level is crossed downward between two samples. -/
def falls (x x' y : Int) : Bool := decide (y < 100 * x ∧ 100 * x' ≤ y)

/-- The first rising transition: a rising low crossing followed by a rising high crossing before any falling low one.
`open_` is the instant of a low crossing that waits. -/
def riseTime (lo hi : Int) (dt : Nat) : Nat → Option Nat → List Int → Option Nat
  | t, open_, x :: x' :: xs =>
    let o1 := if rises x x' lo then some (crossAt t dt x x' lo) else open_
    match o1 with
    | some a =>
      if rises x x' hi then some (crossAt t dt x x' hi - a)
      else riseTime lo hi dt (t + dt) (if falls x x' lo then none else o1) (x' :: xs)
    | none => riseTime lo hi dt (t + dt) none (x' :: xs)
  | _, _, _ => none

/-- The first falling transition: a falling high crossing followed by a falling low one before any rising high one. -/
def fallTime (lo hi : Int) (dt : Nat) : Nat → Option Nat → List Int → Option Nat
  | t, open_, x :: x' :: xs =>
    let o1 := if falls x x' hi then some (crossAt t dt x x' hi) else open_
    match o1 with
    | some a =>
      if falls x x' lo then some (crossAt t dt x x' lo - a)
      else fallTime lo hi dt (t + dt) (if rises x x' hi then none else o1) (x' :: xs)
    | none => fallTime lo hi dt (t + dt) none (x' :: xs)
  | _, _, _ => none

/-- The counted mid crossings in order: true for a rising one. A rising one counts after a sample at or below the 45 %
level, a falling one after a sample at or above the 55 % level. -/
def midCrossings (mid l45 l55 : Int) (dt : Nat) : Nat → Bool → Bool → List Int → List (Bool × Nat)
  | t, up, dn, x :: x' :: xs =>
    let up1 := up || decide (100 * x ≤ l45)
    let dn1 := dn || decide (l55 ≤ 100 * x)
    if up1 && rises x x' mid then (true, crossAt t dt x x' mid) :: midCrossings mid l45 l55 dt (t + dt) false dn1 (x' :: xs)
    else if dn1 && falls x x' mid then
      (false, crossAt t dt x x' mid) :: midCrossings mid l45 l55 dt (t + dt) up1 false (x' :: xs)
    else midCrossings mid l45 l55 dt (t + dt) up1 dn1 (x' :: xs)
  | _, _, _, _ => []

/-- The time spent above mid: from each rising crossing to the next falling one, up to `last`. -/
def timeAbove (last : Nat) : Option Nat → List (Bool × Nat) → Nat
  | _, [] => 0
  | none, (up, t) :: es => timeAbove last (if up then some t else none) es
  | some a, (up, t) :: es =>
    if last ≤ a then 0
    else if up then timeAbove last (some a) es
    else (min t last - a) + timeAbove last none es

/-- A measurement block (R313). -/
structure Meas where
  min_ : Int := 0
  max_ : Int := 0
  mean : Int := 0
  rms : Nat := 0
  top : Int := 0
  base : Int := 0
  rise : Nat := 0
  fall : Nat := 0
  duty : Nat := 0
  period : Nat := 0
  freq : Nat := 0
  ncyc : Nat := 0
  valid : Nat := 0

/-- The measurements of output samples `xs`, the first at instant `t0`, one every `dt` grains (R313, R314). -/
def measure (t0 dt : Nat) (xs : List Int) : Meas :=
  match xs with
  | [] => {}
  | x0 :: _ =>
    let lo := xs.foldl min x0
    let hi := xs.foldl max x0
    let n := xs.length
    let m : Meas := { min_ := lo, max_ := hi, mean := roundDiv xs.sum n,
                      rms := rootRound (xs.map fun x => x.natAbs * x.natAbs).sum n, valid := 1 }
    if hi - lo < 4096 then m
    else
      let (top, base) := topBase lo hi xs
      let lvl := fun (p : Int) => 100 * base + p * (top - base)
      let rise := riseTime (lvl 10) (lvl 90) dt t0 none xs
      let fall := fallTime (lvl 10) (lvl 90) dt t0 none xs
      let mids := midCrossings (lvl 50) (lvl 45) (lvl 55) dt t0 false false xs
      let ups := (mids.filter (·.1)).map (·.2)
      let ncyc := ups.length - 1
      let first := ups.headD 0
      let last := ups.getLastD 0
      let per := if ncyc = 0 then 0 else (roundDiv (last - first : Nat) ncyc).toNat
      let cyc : Bool := decide (1 ≤ ncyc)
      { m with
        top := top, base := base, rise := min (rise.getD 0) (2 ^ 32 - 1), fall := min (fall.getD 0) (2 ^ 32 - 1),
        duty := if cyc then min (roundDiv (timeAbove last none mids * 65536 : Nat) (last - first)).toNat (2 ^ 32 - 1) else 0,
        period := per, freq := if cyc then (roundDiv (3072 * 10 ^ 15) per).toNat else 0, ncyc := ncyc,
        valid := 3 + 4 * b2n rise.isSome + 8 * b2n fall.isSome + 16 * b2n cyc }

/-- The 64 bytes of a measurement block. -/
def Meas.bytes (m : Meas) : List Byte :=
  leBytes 4 (ofSigned 32 m.min_) ++ leBytes 4 (ofSigned 32 m.max_) ++ leBytes 4 (ofSigned 32 m.mean) ++ leBytes 4 m.rms
    ++ leBytes 4 (ofSigned 32 m.top) ++ leBytes 4 (ofSigned 32 m.base) ++ leBytes 4 (ofSigned 32 (m.top - m.base))
    ++ leBytes 4 m.rise ++ leBytes 4 m.fall ++ leBytes 4 m.duty ++ leBytes 8 m.period ++ leBytes 8 m.freq
    ++ leBytes 4 m.ncyc ++ leBytes 4 m.valid

end Sys2Proof.Machine
end

