-- ==== Sys2Proof/Machine/Acquisition.lean ====
section
/-! DEFINITION. The acquisition engine: arming, trigger units, records and their completion (chapter Triggers, records
and measurements). The raw codes of the streams and the comparator bits of the pattern are operands of the commands. -/

namespace Sys2Proof.Machine

open Reg

/-! ### Streams (R293, R294) -/

/-- The engine's state. -/
def State.acqState (s : State) : Nat := s.rd pAcq ACQ_STAT_STATE

/-- The enabled streams, ascending. -/
def State.acqStreams (s : State) : List Nat := setBits (s.rd pAcq ACQ_CFG_SEN) 4

/-- The stream sample period of a slice in grains (R293). -/
def State.streamPeriod (s : State) (k : Nat) : Nat := sampleG / (s.groupOf k).length

/-- Bytes of an output sample of a record (R306). -/
def Rec.width (r : Rec) : Nat := if r.dec = 1 then 2 else 4

/-- The enabled streams of a record, ascending. -/
def Rec.list (r : Rec) : List Nat := setBits r.streams 4

/-- Bytes of a slot: one output sample of every enabled stream. -/
def Rec.slot (r : Rec) : Nat := r.list.length * r.width

/-- The record that the present settings describe, were it armed at an instant. -/
def State.recordOf (s : State) (t : Nat) : Rec :=
  { rseq := s.acq.rseq, base := s.acq.base, armAt := t, streams := s.rd pAcq ACQ_CFG_SEN,
    period := match s.acqStreams with | k :: _ => s.streamPeriod k | [] => sampleG,
    dec := s.rd pAcq ACQ_DEC_D, pre := s.rd pAcq ACQ_PRE_PRE, post := s.rd pAcq ACQ_POST_POST }

/-- Why an arm is refused, 0 where it is not (R294); a slice that the Winnower holds cannot be armed (R347). -/
def State.armReason (s : State) : Nat :=
  let ks := s.acqStreams
  let r := s.recordOf 0
  if ks.isEmpty then 1
  else if ks.any fun k => s.rd (pAs k) AS_CFG_OWNER ≠ 3 || s.isSecondary k || bitAt s.winn.slices k then 2
  else if ks.any fun k => s.streamPeriod k ≠ r.period then 3
  else if (List.range 4).any fun u =>
      let src := s.rd pAcq ACQ_TSEL_SRC u
      decide (1 ≤ src ∧ src ≤ 4) && !ks.contains (src - 1) then 4
  else if 8388608 < (r.pre + r.post) * r.slot then 5
  else 0

/-! ### The cycle of arms (R295 to R298) -/

/-- ACT of the slices of the enabled streams, their groups included. -/
def State.acqAct (s : State) (a : Nat) : State := s.acqStreams.foldl (fun s k => s.putAct k a) s

/-- The engine enters REARM. -/
def State.rearm (s : State) : State :=
  { s.wr pAcq ACQ_STAT_STATE 1 with acq := { s.acq with
    rearmAt := s.now, cur := none, smp := [], ready := [], patSeen := 0, patHeld := false } }

/-- The engine returns to IDLE; a region without a record is given back, and a commit that waits is applied. -/
def State.acqIdle (s : State) : State :=
  let s1 := ((s.wr pAcq ACQ_STAT_STATE 0).wr pAcq ACQ_STAT_MEMWAIT 0).acqAct 0
  let s2 := { s1 with acq := { s1.acq with
    recs := match s1.acq.cur with
      | some r => s1.acq.recs.filter fun x => x.1 ≠ r.rseq
      | none => s1.acq.recs,
    cur := none, smp := [], evs := [] } }
  if s2.bit pAcq PAGE_COMMIT_PEND then s2.commitAll pAcq else s2

/-- ARM in IDLE; without effect in any other state. -/
def State.acqArm (s : State) : State :=
  if s.acqState ≠ 0 then s
  else
    let why := s.armReason
    if why ≠ 0 then (s.wr pAcq ACQ_STAT_CFGERR 1).wr pAcq ACQ_STAT_REASON why
    else
      let s1 := (s.acqAct 3).count 0x328
      { s1 with acq := { s1.acq with ended := 0, stop := false, evs := [] } }.rearm

/-- Records that are not released, the current arm's included. -/
def State.freeBytes (s : State) : Nat :=
  match s.acq.recs with
  | [] => 8388608
  | (_, b) :: _ => (b + 8388608 - s.acq.base) % 8388608

/-- The arm instant: the first stream sample instant once REARM has lasted 64 sample clocks (R295). -/
def State.armInstant (s : State) (period : Nat) : Nat :=
  (max s.now (s.acq.rearmAt + 64 * sampleG) + period - 1) / period * period

/-- ARM_INSTANT: REARM ends when a header entry and the pre-trigger memory are free; it waits otherwise (R295, R296). -/
def execArmInstant (s : State) : Host.Outcome State Fault Refusal :=
  if s.acqState ≠ 1 then .next s
  else
    let s1 := if s.bit pAcq PAGE_COMMIT_PEND then s.commitAll pAcq else s
    let t := s1.armInstant (s1.recordOf 0).period
    let r := s1.recordOf t
    if 64 ≤ s1.acq.recs.length || decide (s1.freeBytes < r.pre * r.slot) then .next (s.wr pAcq ACQ_STAT_MEMWAIT 1)
    else
      let s2 := ((s1.advanceTo t).wr pAcq ACQ_STAT_MEMWAIT 0).wr pAcq ACQ_STAT_STATE 2
      .next { s2 with acq := { s2.acq with
        cur := some r, recs := s2.acq.recs ++ [(r.rseq, r.base)], smp := r.list.map fun _ => [] } }

/-- PRETRIGGER_FULL (R303). -/
def execPretriggerFull (s : State) : Host.Outcome State Fault Refusal :=
  match s.acq.cur with
  | some r =>
    if s.acqState = 2 then .next ((s.advanceTo (r.armAt + r.pre * r.dec * r.period)).wr pAcq ACQ_STAT_STATE 3) else .next s
  | none => .next s

/-! ### Trigger conditions (R299 to R305) -/

/-- An analog unit's detectors over stream samples from index i: the indices at which it fires, and the ready bits after. -/
def anaFires (level hyst : Int) (slope : Nat) : Nat → Nat → List Sample → List Nat × Nat
  | _, ready, [] => ([], ready)
  | i, ready, x :: xs =>
    let up := bitAt ready 0
    let dn := bitAt ready 1
    let fireUp := up && decide (level ≤ x.code) && slope ≠ 1
    let fireDn := dn && decide (x.code ≤ level) && slope ≠ 0
    let up1 := if fireUp then false else up || decide (x.code ≤ level - hyst)
    let dn1 := if fireDn then false else dn || decide (level + hyst ≤ x.code)
    let (fs, r) := anaFires level hyst slope (i + 1) (b2n up1 + 2 * b2n dn1) xs
    (if fireUp || fireDn then i :: fs else fs, r)

/-- The state of a pattern entry at an instant: its comparator bit, or the outcome of its channel's last result (R305). -/
def State.patEntry (s : State) (e t : Nat) (bits : BitVec 64) : Bool :=
  let c := s.rd pAcq ACQ_PSEL_CHAN e
  if s.chanOff c then false
  else if s.rd pAcq ACQ_PSEL_STATE e = 2 then
    (match (s.chan c).fails.find? fun f => decide (f.1 ≤ t) with | some f => f.2 | none => false)
  else bits.getLsbD e

/-- The pattern condition at an instant. -/
def State.patHolds (s : State) (t : Nat) (bits : BitVec 64) : Bool :=
  (List.range 64).all fun e =>
    !bitAt (if e < 32 then s.rd pAcq ACQ_PCARE0_CARE else s.rd pAcq ACQ_PCARE1_CARE) (e % 32)
      || s.patEntry e t bits = bitAt (if e < 32 then s.rd pAcq ACQ_PVAL0_VAL else s.rd pAcq ACQ_PVAL1_VAL) (e % 32)

/-- The instants at which PAT fires over pattern samples from sample clock `clk` on, and whether it holds at the last. -/
def State.patFires (s : State) : Nat → Bool → List (BitVec 64) → List Nat × Bool
  | _, held, [] => ([], held)
  | clk, held, b :: bs =>
    let h := s.patHolds (clk * sampleG) b
    let (fs, r) := s.patFires (clk + 1) h bs
    (if h && !held then clk * sampleG :: fs else fs, r)

/-- A unit's source matches a reported event's (R299). -/
def srcMatches (src ev : Nat) : Bool := src = ev || (src = 0x40 && decide (0x20 ≤ ev ∧ ev < 0x40))

/-- The trigger sample of an instant: the first stream sample at or after it; none before the arm instant (R300). -/
def Rec.sampleOf (r : Rec) (t : Nat) : Option Nat :=
  if t < r.armAt then none else some ((t - r.armAt + r.period - 1) / r.period)

/-- A firing of a unit: unit, trigger sample (none before the arm), trigger instant. -/
abbrev Firing := Nat × Option Nat × Nat

/-- The firings of the analog units over the new samples. -/
def State.anaFirings (s : State) (r : Rec) (i : Nat) (new : List (List Sample)) (u : Nat) : List Firing × Nat :=
  let src := s.rd pAcq ACQ_TSEL_SRC u
  let old := tabGet 0 s.acq.ready u
  if 1 ≤ src ∧ src ≤ 4 then
    let xs := new.getD (r.list.idxOf (src - 1)) []
    let level := toSigned 16 (s.rd pAcq ACQ_TANA_LEVEL u)
    let (fs, rd) := anaFires level (s.rd pAcq ACQ_TANA_HYST u) (s.rd pAcq ACQ_TANA_SLOPE u) i old xs
    (fs.map fun k => (u, some k, r.armAt + k * r.period), rd)
  else ([], old)

/-- All firings up to stream sample `upto`: analog, pattern, and the reported events whose trigger sample lies below it. -/
def State.firings (s : State) (r : Rec) (ana : List Firing) (pats : List Nat) (evs : List (Nat × Nat)) : List Firing :=
  let pat := (List.range 4).flatMap fun u =>
    if s.rd pAcq ACQ_TSEL_SRC u = 8 then pats.map fun t => (u, r.sampleOf t, t) else []
  let dig := evs.flatMap fun e => ((List.range 4).filter fun u => srcMatches (s.rd pAcq ACQ_TSEL_SRC u) e.1).map fun u =>
    (u, r.sampleOf e.2, e.2)
  ana ++ pat ++ dig

/-- The lowest trigger sample of some firings. -/
def lowestSample : List Firing → Option Nat
  | [] => none
  | (_, k, _) :: fs => match k, lowestSample fs with
    | some a, some b => some (min a b)
    | some a, none => some a
    | none, x => x

/-- The firing of a trigger sample with the lowest unit. -/
def lowestUnit (k : Nat) (fs : List Firing) : Firing :=
  (fs.filter fun f => f.2.1 = some k).foldl (fun b f => if f.1 < b.1 then f else b) (4, some k, 0)

/-- Triggers before the pre-trigger memory is full are ignored with PREFULL = 1 (R303). -/
def State.tooEarly (s : State) (r : Rec) (f : Firing) : Bool :=
  s.bit pAcq ACQ_CTL_PREFULL && (match f.2.1 with | some k => decide (k < r.pre * r.dec) | none => false)

/-- MISSED counts ignored trigger events (R301). -/
def State.missed (s : State) (n : Nat) : State := if n = 0 then s else (s.satAdd pAcq ACQ_MISSED_MISSED n).count 0x32C n

/-- A trigger is accepted (R302, R303, R306, R340). -/
def State.acceptTrigger (s : State) (r : Rec) (k : Nat) (fs : List Firing) : State :=
  let first := lowestUnit k fs
  let fired := fs.foldl (fun m f => if f.2.1 = some k then setBit m f.1 true else m) 0
  let mt := k / r.dec
  let r1 := { r with
    tidx := k, tAt := first.2.2, fired := fired, tunit := first.1, apre := min r.pre mt,
    short := decide (k < r.pre * r.dec) }
  let s1 := (s.wr pAcq ACQ_TSTAT_FIRED fired).wr pAcq ACQ_TSTAT_TUNIT first.1
  let s2 := (s1.wr pAcq ACQ_TIDXL_TIDX k).wr pAcq ACQ_TIDXH_TIDX (k / 2 ^ 32)
  let s3 := { s2.wr pAcq ACQ_STAT_STATE 4 with acq := { s2.acq with cur := some r1 } }.count 0x32B
  s3.exportEvent 3 (recordBytes 0x12 0 0 0 k (r.rseq + (fired + 16 * first.1) * 65536) 0 (s3.stampAt first.2.2))

/-- The decision over a set of firings (R301 to R303). -/
def State.decideTriggers (s : State) (r : Rec) (fs : List Firing) : State :=
  if s.acqState = 2 || s.acqState = 3 then
    let early := (fs.filter (s.tooEarly r)).length
    let s1 := if early = 0 then s else s.satAdd pAcq ACQ_PREIGN_PREIGN early
    let rest := fs.filter fun f => !s.tooEarly r f
    match lowestSample rest with
    | some k => (s1.missed (rest.filter fun f => f.2.1 ≠ some k).length).acceptTrigger r k rest
    | none => s1.missed rest.length
  else s.missed fs.length

/-- New stream samples of every enabled stream, converted. -/
def State.acqSamples (s : State) (r : Rec) (raws : List (List RawSample)) : List (List Sample) :=
  (r.list.zip raws).map fun (k, raw) =>
    let old := s.acq.smp.getD (r.list.idxOf k) []
    let g := s.groupOf k
    let set := calSet (s.groupInput k (s.rd pAcq ACQ_SIN_INSEL k)) 0
    s.streamFrom set (r.armAt / sampleG) g.length old.length (g.map fun n => (s.aso n).ovrAt) raw

/-- The new samples join the streams, and are counted. -/
def State.acqTake (s : State) (r : Rec) (new : List (List Sample)) : State :=
  let i := (s.acq.smp.headD []).length
  let s1 := (r.list.zip new).foldl (fun s (k, xs) =>
    let g := s.groupOf k
    (List.range g.length).foldl (fun s j =>
      s.noteSamples (g.getD j k) ((r.armAt / sampleG) + i / g.length) (everyNth g.length j xs)) s) s
  { s1 with acq := { s1.acq with smp := (s1.acq.smp.zip new).map fun (a, b) => a ++ b } }

/-- TRIGGER_ACCEPT: every source has reported all events up to the end of these stream samples: the raw codes of each
enabled stream, all of one length, and the comparator bits of the pattern entries at each sample clock. -/
def State.triggers (s : State) (r : Rec) (raws : List (List RawSample)) (pats : List (BitVec 64)) : State :=
  let i := (s.acq.smp.headD []).length
  let new := s.acqSamples r raws
  let upto := i + (raws.headD []).length
  let due := fun (e : Nat × Nat) => match r.sampleOf e.2 with | some k => decide (k < upto) | none => true
  let ana := (List.range 4).map fun u => s.anaFirings r i new u
  let clk := (r.armAt + sampleG - 1) / sampleG + s.acq.patSeen
  let (pat, held) := s.patFires clk s.acq.patHeld pats
  let fs := s.firings r (ana.flatMap (·.1)) pat (s.acq.evs.filter due)
  let s1 := s.acqTake r new
  let s2 := { s1 with acq := { s1.acq with
    evs := s1.acq.evs.filter fun e => !due e, patSeen := s1.acq.patSeen + pats.length, patHeld := held,
    ready := (List.range 4).foldl (fun t u => tabPut 0 t u ((ana.getD u ([], 0)).2)) s1.acq.ready } }
  s2.decideTriggers r fs

/-- The raw codes fit the record: one list per enabled stream, all of one length. -/
def Rec.fits (r : Rec) (raws : List (List RawSample)) : Bool :=
  raws.length = r.list.length && raws.all fun x => x.length = (raws.headD []).length

/-- Events reported in REARM are ignored and counted (R301). -/
def State.rearmTriggers (s : State) : State :=
  let n := (s.acq.evs.flatMap fun e => (List.range 4).filter fun u => srcMatches (s.rd pAcq ACQ_TSEL_SRC u) e.1).length
  { s with acq := { s.acq with evs := [] } }.missed n

def execTriggerAccept (raws : List (List RawSample)) (pats : List (BitVec 64)) (s : State) :
    Host.Outcome State Fault Refusal :=
  match s.acq.cur with
  | some r => .next (if r.fits raws then s.triggers r raws pats else s)
  | none => .next (if s.acqState = 1 then s.rearmTriggers else s)

/-! ### Records (R306 to R311) -/

/-- First output sample of a record. -/
def Rec.m0 (r : Rec) : Nat := r.tidx / r.dec - r.apre

/-- The output sample word of D stream samples (R307). -/
def outWord (dec : Nat) (xs : List Sample) : Nat :=
  if dec = 1 then (match xs with | x :: _ => sampleWord x | [] => 0)
  else
    let sum := (xs.map (·.code)).sum
    ofSigned 24 (roundDiv (sum * 256) dec) * 256 + b2n (xs.any (·.ovr)) * 2 + b2n (xs.any (·.suspect))

/-- The stream samples of output sample j of a record. -/
def Rec.span (r : Rec) (xs : List Sample) (j : Nat) : List Sample := (xs.drop ((r.m0 + j) * r.dec)).take r.dec

/-- The record-memory address of output sample j of the stream of a rank (R308). -/
def Rec.addr (r : Rec) (j rank : Nat) : Nat :=
  let slot := if j < r.apre then (r.m0 + j) % r.pre else r.pre + (j - r.apre)
  (r.base + (slot * r.list.length + rank) * r.width) % 8388608

/-- The output samples of an ended record are in the record memory. -/
def State.writeRecordMem (s : State) (r : Rec) (smp : List (List Sample)) : State :=
  let m := (List.range r.nout).foldl (fun m j => (List.range r.list.length).foldl (fun m k =>
    memPutNat m (r.addr j k) r.width (outWord r.dec (r.span (smp.getD k []) j))) m) s.mem.record
  { s with mem := { s.mem with record := m } }

/-- Post-trigger slots that do not overwrite the oldest unreleased record (R308). -/
def State.postRoom (s : State) (r : Rec) : Nat :=
  let dist := match s.acq.recs with
    | (q, b) :: _ => if q = r.rseq then 8388608 else (b + 8388608 - r.base) % 8388608
    | [] => 8388608
  (dist - r.pre * r.slot) / r.slot

/-- A capture ends with `nout` output samples per stream. -/
def State.endRecord (s : State) (r : Rec) (nout : Nat) (ovfl aborted : Bool) : State :=
  let r1 := { r with nout := nout, ovfl := ovfl, aborted := aborted }
  let used := (r.pre + (nout - r.apre)) * r.slot
  let s1 := s.writeRecordMem r1 s.acq.smp
  { s1 with acq := { s1.acq with
    finishing := s1.acq.finishing ++ [(r1, s1.acq.smp)], cur := none, rseq := (s1.acq.rseq + 1) % 65536,
    ended := s1.acq.ended + 1, base := (r.base + used + 63) / 64 * 64 % 8388608 } }

/-- What follows a record (R297). -/
def State.afterRecord (s : State) (ovfl : Bool) : State :=
  let n := s.rd pAcq ACQ_NREC_NREC
  if s.bit pAcq ACQ_CFG_REARM && !ovfl && !s.acq.stop && !(n ≠ 0 && decide (n ≤ s.acq.ended)) then s.rearm else s.acqIdle

/-- Output samples per stream that the samples taken so far hold. -/
def State.outSoFar (s : State) (r : Rec) : Nat := (s.acq.smp.headD []).length / r.dec - r.m0

/-- RECORD_LAST_SAMPLE: with these raw codes of each stream the record's last sample has entered the record memory, 32
sample clocks after its sample instant. -/
def execRecordLastSample (raws : List (List RawSample)) (s : State) : Host.Outcome State Fault Refusal :=
  match s.acq.cur with
  | some r =>
    if s.acqState ≠ 4 || !r.fits raws then .next s
    else
      let s1 := s.acqTake r (s.acqSamples r raws)
      let nout := r.apre + r.post
      if s1.outSoFar r < nout || decide (s1.postRoom r < r.post) then .next s1
      else
        let last := r.armAt + ((r.tidx / r.dec + r.post) * r.dec - 1) * r.period
        .next (((s1.advanceTo (last + 32 * sampleG)).endRecord r nout false false).afterRecord false)
  | none => .next s

/-- RECORD_OVERFLOW: the next post-trigger slot would overwrite the oldest unreleased record. -/
def execRecordOverflow (s : State) : Host.Outcome State Fault Refusal :=
  match s.acq.cur with
  | some r =>
    let room := s.postRoom r
    if s.acqState = 4 && decide (room < r.post) && decide (r.apre + room ≤ s.outSoFar r) then
      .next (((((s.endRecord r (r.apre + room) true false).wr pAcq ACQ_STAT_OVFL 1).count 0x32D).acqIdle))
    else .next s
  | none => .next s

/-- The engine ends at once; a capture ends with the samples written so far (R298). -/
def State.acqAbort (s : State) : State :=
  match s.acq.cur with
  | some r =>
    if s.acqState = 4 then
      (s.endRecord r (min (s.outSoFar r) (r.apre + min r.post (s.postRoom r))) false true).acqIdle
    else s.acqIdle
  | none => if s.acqState = 0 then s else s.acqIdle

/-- STOP: at once outside CAPTURE, else after the record (R297). -/
def State.acqStop (s : State) : State :=
  if s.acqState = 0 then s
  else if s.acqState = 4 then { s with acq := { s.acq with stop := true } }
  else s.acqIdle

/-- A write of ACQ_CTL. -/
def State.acqCtlWrite (s : State) (r : Requester) (word : Nat) : State :=
  s.writeWith r pAcq 0x40 word fun s =>
    let s1 := if bitAt word 0 then s.acqArm else s
    let s2 := if bitAt word 3 then s1.acqEvent 0x60 (s1.now / fcG * fcG) else s1
    let s3 := if bitAt word 1 then s2.acqStop else s2
    let s4 := if bitAt word 2 then s3.acqAbort else s3
    if s4.acqState = 0 && s4.bit pAcq PAGE_COMMIT_PEND then s4.commitAll pAcq else s4

/-- The word of ACQ_CTL that sets one command bit and leaves PREFULL as its pending or active copy has it. -/
def State.acqWord (s : State) (k : Nat) : Nat :=
  2 ^ k + 256 * (tabFind s.staged (fieldKey pAcq ACQ_CTL_PREFULL 0 0)).getD (s.rd pAcq ACQ_CTL_PREFULL)

def execAcqArm (r : Requester) (s : State) : Host.Outcome State Fault Refusal := .next (s.acqCtlWrite r (s.acqWord 0))

def execAcqForce (r : Requester) (s : State) : Host.Outcome State Fault Refusal := .next (s.acqCtlWrite r (s.acqWord 3))

def execAcqStop (r : Requester) (s : State) : Host.Outcome State Fault Refusal := .next (s.acqCtlWrite r (s.acqWord 1))

def execAcqAbort (r : Requester) (s : State) : Host.Outcome State Fault Refusal := .next (s.acqCtlWrite r (s.acqWord 2))

/-! ### Completion and release (R309 to R313) -/

/-- The instant of output sample j of a record, in grains (R313). -/
def Rec.outAt (r : Rec) (j : Nat) : Nat := r.armAt + (r.m0 + j) * r.dec * r.period + (r.dec - 1) * r.period / 2

/-- An output sample in 1/256 LSB. -/
def outValue (dec : Nat) (xs : List Sample) : Int := roundDiv ((xs.map (·.code)).sum * 256) dec

/-- The measurement block of the stream of a rank. -/
def Rec.block (r : Rec) (meas : Bool) (xs : List Sample) : List Byte :=
  (if meas then measure (r.outAt 0) (r.dec * r.period) ((List.range r.nout).map fun j => outValue r.dec (r.span xs j)) else {}).bytes

/-- Some output sample of a record has a bit set. -/
def Rec.anyBit (r : Rec) (smp : List (List Sample)) (f : Sample → Bool) : Bool :=
  smp.any fun xs => ((xs.drop (r.m0 * r.dec)).take (r.nout * r.dec)).any f

/-- The FLAGS byte. -/
def Rec.flags (r : Rec) (smp : List (List Sample)) : Nat :=
  b2n r.short + 2 * b2n r.ovfl + 4 * b2n r.aborted + 8 * b2n (r.anyBit smp (·.ovr)) + 16 * b2n (r.anyBit smp (·.suspect))

/-- The 64-byte header (R310). -/
def State.recHeader (s : State) (r : Rec) (smp : List (List Sample)) : List Byte :=
  let tofs : Int := (r.tAt : Int) - (r.armAt + r.tidx / r.dec * r.dec * r.period : Nat)
  leBytes 2 r.rseq ++ leBytes 1 (r.flags smp) ++ leBytes 1 (r.fired + 16 * r.tunit) ++ leBytes 1 r.streams ++ leBytes 1 r.width
    ++ leBytes 2 (r.dec - 1) ++ leBytes 4 r.apre ++ leBytes 4 r.nout ++ leBytes 4 r.base
    ++ leBytes 4 (if r.pre = 0 then 0 else r.m0 % r.pre) ++ leBytes 4 r.pre ++ leBytes 4 (ofSigned 32 tofs)
    ++ leBytes 6 r.tidx ++ leBytes 2 0 ++ leBytes 12 (s.stampAt r.tAt) ++ leBytes 12 (s.stampAt r.armAt)

/-- The work item of a completed record: accepted, held, or discarded while one is held (R312, R404). -/
def State.acqItem (s : State) (r : Rec) (smp : List (List Sample)) : State :=
  let it : Item := { typ := 6, pl := s.rd pAcq ACQ_CFG_PL, notify := false, src := 0x22, site := 0, nosite := true,
                     token := r.rseq, arg := 0x13300000 + 512 * (r.rseq % 64), data := r.flags smp, origin := none }
  if s.acq.held.isSome then s.satAdd pAcq ACQ_WDROP_WDROP 1
  else match s.offer it with
    | .accepted s1 => s1
    | .held s1 => { s1 with acq := { s1.acq with held := some it } }.wr pAcq ACQ_STAT_HELD 1
    | .lost => s

/-- RECORD_COMPLETE: the header and measurement blocks of the oldest ended record are written. -/
def State.completeRecord (s : State) (r : Rec) (smp : List (List Sample)) : State :=
  let e := 512 * (r.rseq % 64)
  let meas := s.bit pAcq ACQ_CFG_MEAS
  let m0 := memPutBytes s.mem.recHdr e (List.replicate 512 0#8)
  let m1 := memPutBytes m0 e (s.recHeader r smp)
  let m2 := (r.list.zip smp).foldl (fun m (k, xs) => memPutBytes m (e + 0x40 + 0x40 * k) (r.block meas xs)) m1
  let s1 := { s with mem := { s.mem with recHdr := m2 }, acq := { s.acq with finishing := s.acq.finishing.drop 1 } }
  let s2 := (s1.wr pAcq ACQ_RDONE_RDONE (r.rseq + 1)).raiseCause 11
  let s3 := (s2.count 0x329).count 0x32A (r.nout * r.list.length)
  if s3.bit pAcq ACQ_CFG_WI then s3.acqItem r smp else s3

def execRecordComplete (s : State) : Host.Outcome State Fault Refusal :=
  match s.acq.finishing with
  | (r, smp) :: _ => .next (s.completeRecord r smp)
  | [] => .next s

/-- A write of ACQ_RCONS: beyond RDONE it is discarded, else the records before it are released (R309). -/
def State.rconsWrite (s : State) (r : Requester) (word : Nat) : State :=
  let old := s.rd pAcq ACQ_RCONS_RCONS
  let ahead := fun v => (v + 65536 - old) % 65536
  let v := bitsAt word 0 16
  if s.admits r pAcq false && decide (ahead (s.rd pAcq ACQ_RDONE_RDONE) < ahead v) then s.werr pAcq
  else s.writeWith r pAcq 0x78 word fun s =>
    { s with acq := { s.acq with recs := s.acq.recs.filter fun x => decide (ahead v ≤ ahead x.1) } }

def execAcqRelease (r : Requester) (v : Word) (s : State) : Host.Outcome State Fault Refusal := .next (s.rconsWrite r v.toNat)

/-- An isolation of the acquisition island: the arm or the capture ends, and the record in capture is lost (R298). -/
def State.acqLost (s : State) : State := if s.acqState = 0 then s else s.acqIdle

end Sys2Proof.Machine
end

