-- ==== Sys2Proof/Machine/Vectors.lean ====
section
/-! DEFINITION. Vectors on the pins: the edges that a vector issues, what each edge does, and the compare results that
strobes yield (chapter Periods, edges, formats and character maps). -/

namespace Sys2Proof.Machine

open Reg

/-! ### Actions (R86 to R88) -/

/-- The action drives. -/
def drives (a : Nat) : Bool := a = 1 || a = 2 || a = 8 || a = 9

/-- The action compares. -/
def compares (a : Nat) : Bool := decide (4 ≤ a)

/-- The action turns the driver off (R90). -/
def undrives (a : Nat) : Bool := decide (3 ≤ a ∧ a ≤ 7)

/-- The logic level that an action drives. -/
def driveLevel (a : Nat) : Bool := a = 2 || a = 9

/-- The expectation of a compare action: 0 low, 1 high, 2 mid, 3 valid (R87). -/
def expectOf (a : Nat) : Nat := if a = 4 || a = 8 then 0 else if a = 5 || a = 9 then 1 else if a = 6 then 2 else 3

/-- A compare passes on these comparator bits (R87). -/
def comparePasses (exp : Nat) (above below : Bool) : Bool :=
  if exp = 0 then !above && below
  else if exp = 1 then above && !below
  else if exp = 2 then !above && !below
  else above != below

/-- The action that a channel's character map gives a code (R88). -/
def State.actionOf (s : State) (c ts code : Nat) : Nat :=
  let p := pSh (c / 8)
  if code = 0 then s.rd p TS_FMT_ACT0 ts (c % 8)
  else if code = 1 then s.rd p TS_FMT_ACT1 ts (c % 8)
  else if code = 2 then s.rd p TS_FMT_ACT2 ts (c % 8)
  else s.rd p TS_FMT_ACT3 ts (c % 8)

/-! ### Issue of edges (R80 to R82, R95 to R99) -/

/-- The number of a generator: D1, D2, D3, D4, C1, C2. -/
def Gen.ix : Gen → Nat
  | .d1 => 0 | .d2 => 1 | .d3 => 2 | .d4 => 3 | .c1 => 4 | .c2 => 5

/-- The programmed delay of a generator of a channel in a timing set. -/
def State.edgeDelay (s : State) (c ts : Nat) (g : Gen) : Nat :=
  let p := pSh (c / 8)
  match g with
  | .d1 => s.rd p TS_D1_EDGE ts (c % 8)
  | .d2 => s.rd p TS_D2_EDGE ts (c % 8)
  | .d3 => s.rd p TS_D3_EDGE ts (c % 8)
  | .d4 => s.rd p TS_D4_EDGE ts (c % 8)
  | .c1 => s.rd p TS_C1_EDGE ts (c % 8)
  | .c2 => s.rd p TS_C2_EDGE ts (c % 8)

/-- The drive generators that a vector uses (R89, R90, R98, R99). -/
def driveGens (pos : PairPos) (fmt act : Nat) : List Gen :=
  match pos with
  | .single => if drives act then (if fmt = 0 then [.d1, .d2] else [.d1, .d2, .d3]) else if undrives act then [.d4] else []
  | .first => if drives act then [.d1, .d2] else if undrives act then [.d4] else []
  | .second => if drives act then [.d3] else []

/-- One event is issued: dropped when it lies more than 64 fc after the end of its vector, or less than 1 fc after the
previous event of its generator. The answer says whether it will act (R81, R82). -/
def State.issue (s : State) (c per : Nat) (start : Nat) (e : Edge) : State × Bool :=
  let p := pSh (c / 8)
  if start + per + 65536 < e.t then (s.wrBit p SH_TSTAT_LATE (c % 8) true, false)
  else if (match tabFind (s.chan c).last e.gen.ix with | some l => decide (e.t + 1 < l + 1024) | none => false) then (s.wrBit p SH_TSTAT_EDGECOL (c % 8) true, false)
  else (s.modCh c fun o => { o with edges := o.edges ++ [e], last := tabPut 0 o.last e.gen.ix (e.t + 1) }, true)

/-- The strobes of a vector are issued: C1, and in WINDOW mode C2 when it lies after C1; a dropped C1 leaves no compare
result, and a dropped C2 leaves the judgement to C1 (R92 to R95, R98). -/
def State.issueStrobes (s : State) (c per start : Nat) (e : Edge) : State :=
  match e.pair with
  | .first => (s.issue c per start { e with gen := .c1, t := start + s.edgeDelay c e.ts .c1 }).1
  | .second => (s.issue c per start { e with gen := .c2, t := start + s.edgeDelay c e.ts .c2 }).1
  | .single =>
    let t1 := start + s.edgeDelay c e.ts .c1
    let t2 := start + s.edgeDelay c e.ts .c2
    let (s1, ok) := s.issue c per start { e with gen := .c1, t := t1 }
    if ok && s.bit (pSh (c / 8)) TS_FMT_STRB e.ts (c % 8) && decide (t1 < t2) then
      let (s2, ok2) := s1.issue c per start { e with gen := .c2, t := t2, window := true }
      if ok2 then s2.modCh c fun o => { o with edges := o.edges.map fun x =>
        if x.gen = .c1 ∧ x.vec = e.vec ∧ x.site = e.site then { x with window := true } else x }
      else s2
    else s1

/-- A channel receives its action for a vector: the edges are issued, and a driven logic level is remembered for the
bitmap (R85, R229, R247). -/
def State.applyAction (s : State) (c per start : Nat) (e : Edge) (judged : Bool) : State :=
  let gens := driveGens e.pair e.fmt e.act
  let s1 := gens.foldl (fun s g => (s.issue c per start { e with gen := g, t := start + s.edgeDelay c e.ts g }).1) s
  let s2 := if compares e.act && judged then s1.issueStrobes c per start e else s1
  s2.modCh c fun o => { o with
    burst := true,
    drives := if drives e.act && o.drives.head?.map (·.2) ≠ some (driveLevel e.act) then
        (e.vec, driveLevel e.act) :: o.drives else o.drives }

/-- The place of the next vector in pair mode: a period below 1 fc opens a pair, and the vector after completes it
(R96, R97). -/
def pairOf (pairTs : Option Nat) (per : Nat) : PairPos :=
  match pairTs with
  | some _ => .second
  | none => if per < 1024 then .first else .single

/-- A vector of a site starts at `next` with timing set `ts` and a code for every site-pin; `judged` is false for
CMASK = 1 and for keep-alive vectors (R77, R79, R118, R193). -/
def State.applyVector (s : State) (n ts seg : Nat) (code : Nat → Nat) (judged : Bool) : State :=
  let o := s.sqo n
  let t := o.next
  let per := s.rd (pSq n) SQ_TPER_PER ts
  let pos := pairOf o.pairTs per
  let pass := match o.mtch with | some m => m.pass | none => 0
  let cs := (s.channelsOf n).zipIdx
  let s1 := cs.foldl (fun s (c, k) =>
      let e : Edge := { gen := .d1, t := t, site := n, vec := o.vec, act := s.actionOf c ts (code k),
                        fmt := s.rd (pSh (c / 8)) TS_FMT_FMT ts (c % 8), pair := pos, window := false,
                        pass := pass, ts := ts, seg := seg, inst := o.inst }
      s.applyAction c per t e judged) s
  s1.modSq n fun o => { o with
    vec := o.vec + 1, lastStart := t, lastTs := ts, next := t + per,
    pairTs := if pos = .first then some ts else none,
    arrivals := o.arrivals.filter fun a => decide (t < a.t + 8 * fcG) }

/-! ### Edges act (R83, R84, R87, R89 to R91, R98, R108) -/

/-- A strobe, or a window's open or close. -/
def Gen.strobe : Gen → Bool
  | .c1 => true | .c2 => true | _ => false

/-- Order of events at a channel: by instant, strobes before drive events, then by vector and generator (R83, R84). -/
def edgeBefore (a b : Edge) : Bool :=
  decide (a.t < b.t) || a.t = b.t && (
    (a.gen.strobe && !b.gen.strobe) || a.gen.strobe = b.gen.strobe &&
      (decide (a.vec < b.vec) || a.vec = b.vec && decide (a.gen.ix < b.gen.ix)))

/-- The event of a channel that acts first. -/
def firstEdge : List Edge → Option Edge
  | [] => none
  | e :: es => match firstEdge es with
    | none => some e
    | some x => if edgeBefore x e then some x else some e

/-- The clock generator that a channel drives, if its SH_CGSEL selects one. -/
def State.cgOf (s : State) (c : Nat) : Option Nat :=
  let v := bitsAt (s.rd (pSh (c / 8)) SH_CGSEL_SEL) (4 * (c % 8)) 4
  if v < 8 then none else some (v - 8)

/-- What a drive edge does to the driver. -/
def driveEdge (e : Edge) (o : ChOp) : ChOp :=
  let d := driveLevel e.act
  match e.gen with
  | .d1 =>
    if e.pair ≠ .single ∨ e.fmt = 0 ∨ (o.dataVec = some e.vec ∧ o.drv = false) then { o with drv := true, dataVec := none }
    else { o with drv := true, dataVec := none, lvl := if e.fmt = 1 then false else if e.fmt = 2 then true else !d }
  | .d2 => { o with lvl := d, dataVec := if o.drv then none else some e.vec }
  | .d3 => { o with lvl := if e.pair = .second then d else if e.fmt = 1 then false else if e.fmt = 2 then true else !d }
  | .d4 => { o with drv := false }
  | _ => o

/-- The comparator bits that a judgement reads: 0 and 0 where the comparator is off. -/
def State.comparatorSees (s : State) (c : Nat) (seen : List (Bool × Bool)) : List (Bool × Bool) :=
  if s.chanOff c || !s.bit (pSh (c / 8)) CH_CTL_CMP_EN (c % 8) || seen.isEmpty then [(false, false)] else seen

/-- The verdict on comparator bits in order of time: fail, and the bits at the failing instant or the last ones. -/
def judge (exp : Nat) (bits : List (Bool × Bool)) : Bool × Bool × Bool :=
  match bits.find? fun b => !comparePasses exp b.1 b.2 with
  | some b => (true, b)
  | none => (false, bits.getLastD (false, false))

/-- A compare result joins those on their way, to the sequencer and to the Gleaner (R95, R128 to R130, R139). -/
def State.addResult (s : State) (r : CmpResult) : State :=
  let due := r.t + s.rd (pSq r.site) SQ_TLOOP_T
  let s1 := s.modSq r.site fun o => { o with
    arrivals := o.arrivals ++ [{ vec := r.vec, pass := r.pass, t := due }],
    firstFail := if r.fail && r.pass = 0 && decide (o.markVec ≤ r.vec) then
        some (match o.firstFail with | some v => min v r.vec | none => r.vec) else o.firstFail,
    passRes := if r.pass = 0 then o.passRes else tabMod 0 o.passRes r.pass fun v => v ||| (1 + 2 * b2n r.fail) }
  let s1 := s1.modCh r.ch fun o => { o with fails := (r.t, r.fail) :: o.fails }
  let tell := s.inSpan r.site && r.fail && r.pass = 0
  let s2 : State := { s1 with results := s1.results ++ [r] }
  if tell then s2.spanTell r.site (.fail r.vec) r.t else s2

/-- A strobe judges the pin and yields the compare result of its vector. -/
def State.strobeActs (s : State) (c : Nat) (e : Edge) (seen : List (Bool × Bool)) : State :=
  let exp := expectOf e.act
  let bits := s.comparatorSees c seen
  let (fail, above, below) := judge exp (if e.gen = .c2 && e.window then bits else bits.take 1)
  s.addResult { site := e.site, vec := e.vec, ch := c, fail := fail, t := e.t, pass := e.pass, above := above,
                below := below, exp := exp, ts := e.ts, seg := e.seg, inst := e.inst }

/-- The next pending event of a channel acts. Its channel enters IDLE after the last event of an ended burst (R153). -/
def State.edgeActs (s : State) (c : Nat) (e : Edge) (seen : List (Bool × Bool)) : State :=
  let s1 := (s.advanceTo e.t).modCh c fun o => { o with edges := o.edges.erase e }
  let s2 := if e.gen.strobe then (if e.gen = .c1 && e.window then s1 else s1.strobeActs c e seen)
    else if (s.cgOf c).isSome then s1 else s1.modCh c (driveEdge e)
  if s2.sqState e.site = stEnding ∨ s2.sqState e.site = stIdle then s2.idleChannel c else s2

/-- EDGE_EVENT: `seen` holds the comparator bits that the strobe sees, or those of the window in order of time. -/
def execEdgeEvent (ch : Fin 320) (seen : List (Bool × Bool)) (s : State) : Host.Outcome State Fault Refusal :=
  match firstEdge (s.chan ch).edges with
  | some e => .next (s.edgeActs ch e seen)
  | none => .next s

end Sys2Proof.Machine
end

