-- ==== Sys2Proof/Machine/Program.lean ====
section
/-! DEFINITION. What the words of a vector program do: fetching from the Granary, the stacks, jumps, decisions on the
site fail bit and on flags, and the path that a jump leaves (chapter Sequencers and vector programs; R190 to R202). -/

namespace Sys2Proof.Machine

open Reg

/-! ### The Granary (R190 to R194, R198, R199) -/

/-- Words of the Granary. -/
def granWords : Nat := 1572864

/-- The bank of a Granary word (R190). -/
def State.granBank (s : State) (w : Nat) : Nat :=
  if s.rd pGran GRAN_CFG_ILV = 0 then w % 16 else 4 * (w / 393216) + w % 4

/-- The cluster is isolated or restoring. -/
def State.clusterHeld (s : State) (c : Nat) : Bool :=
  (tabGet {} s.pageOps (clusterKey c)).iso || (tabGet {} s.pageOps (clusterKey c)).restoring

/-- What a site finds when it needs Granary words. -/
inductive GranAccess
  | ok
  | addr
  | isolated
  /-- The word of an uncorrectable error. -/
  | ue (w : Nat)
  deriving DecidableEq, Repr

/-- Access to words, each with the quarter needed, by a site; `lo` and `hi` bound the region (R191, R194, R198, R199). -/
def State.granAccess (s : State) (ws : List (Nat × Nat)) (lo hi : Nat) : GranAccess :=
  if ws.any fun x => decide (x.1 < lo ∨ hi ≤ x.1) || !s.domainOn (40 + s.granBank x.1) then .addr
  else if ws.any fun x => s.clusterHeld (s.granBank x.1 / 4) then .isolated
  else match ws.find? fun x => tabGet 0 s.mem.granErr (4 * x.1 + x.2) = 1 with
    | some x => .ue x.1
    | none => .ok

/-- The first Granary word of the vector region (R191). -/
def State.vecRegion (s : State) : Nat := s.rd pGran GRAN_CFG_PSIZE * 2048

/-- An uncorrectable error met by a site read (R198). -/
def State.granError (s : State) (w : Nat) : State :=
  ((s.wr pGran GRAN_STAT_UE 1).wr pGran GRAN_UEADDR_ADDR w).pagePairs pGran

/-- Single-bit errors among the quarters of a read are corrected and counted (R198, R423). -/
def State.granCorrect (s : State) (qs : List Nat) : State :=
  (qs.filter fun q => tabGet 0 s.mem.granErr q = 2).foldl (fun s q =>
    (s.satAdd pGran GRAN_CECNT_CNT 1).count (0x3C2 + 4 * (s.granBank (q / 4) / 4))) s

/-- The quarters of a word. -/
def quartersOf (w : Nat) : List Nat := [4 * w, 4 * w + 1, 4 * w + 2, 4 * w + 3]

/-- A site reads a word: its cluster is one that the site has read from since its start (R187), and the read is counted. -/
def State.touch (s : State) (n w : Nat) : State :=
  ((s.modSq n fun o => { o with clusters := setBit o.clusters (s.granBank w / 4) true }).count
    (0x3C0 + 4 * (s.granBank w / 4))).granCorrect (quartersOf w)

/-- A field cycle passes without a command; a bit error may strike a quarter of a bank that is on (R198; DESIGN CHOICE,
assumption log entry 1). -/
def State.passCycle (s : State) : State :=
  let s1 := { s.advanceTo (s.now + fcG) with free := s.free + 1 }
  match Config.upset s.free with
  | some (q, two) =>
    if q < 4 * granWords && s.domainOn (40 + s.granBank (q / 4)) then
      { s1 with mem := { s1.mem with
          granErr := tabPut 0 s1.mem.granErr q (if two || tabGet 0 s1.mem.granErr q ≠ 0 then 1 else 2) } }
    else s1
  | none => s1

/-- The Granary word of the program word at a relative address of a site's program (R120, R191). -/
def State.progAddr (s : State) (n a : Nat) : Nat := s.rd (pSq n) SQ_PBASE_ADDR + a

/-- Access to a program word. -/
def State.progAccess (s : State) (n a : Nat) : GranAccess :=
  let x := s.progAddr n a
  s.granAccess [(x / 4, x % 4)] 0 s.vecRegion

/-- The 64-bit program word at a relative address; a double-bit error decodes as 0 (R198). -/
def State.progWord (s : State) (n a : Nat) : Nat :=
  match s.progAccess n a with
  | .ok => memNat s.mem.gran (8 * s.progAddr n a) 8
  | _ => 0

/-- The opcode of a program word (R119). -/
def opcode (w : Nat) : Nat := w / 2 ^ 58 % 64

/-- The words and quarters that resident vector v of a site needs: one per lane, and one of the control lane (R192). -/
def State.tileWords (s : State) (n v : Nat) : List (Nat × Nat) :=
  let p := (s.channelsOf n).length
  let base := s.rd pGran GRAN_VBASE_BASE n + v / 128 * (p + 4)
  let k := v % 128
  (List.range p).map (fun i => (base + i, k / 32)) ++ [(base + p + k / 32, k % 32 / 8)]

/-- The words that resident vector v of a site is the first of its segment to need; `pos` is its place there. -/
def State.newWords (s : State) (n v pos : Nat) : List Nat :=
  let ws := (s.tileWords n v).map (·.1)
  if pos = 0 ∨ v % 128 = 0 then ws else if v % 32 = 0 then ws.drop (s.channelsOf n).length else []

/-- Access to resident vector v (R194). -/
def State.vecAccess (s : State) (n v : Nat) : GranAccess :=
  let p := (s.channelsOf n).length
  let base := s.rd pGran GRAN_VBASE_BASE n + v / 128 * (p + 4)
  if s.rd pGran GRAN_VTILES_TILES n * 128 ≤ v then .addr
  else if base < s.vecRegion ∨ granWords < base + p + 4 then .addr
  else s.granAccess (s.tileWords n v) s.vecRegion granWords

/-- The code of lane i for resident vector v. -/
def State.resCode (s : State) (n v i : Nat) : Nat :=
  let p := (s.channelsOf n).length
  let base := s.rd pGran GRAN_VBASE_BASE n + v / 128 * (p + 4)
  let k := v % 128
  (memGet s.mem.gran (32 * (base + i) + k / 4)).toNat / 4 ^ (k % 4) % 4

/-- The control byte of resident vector v. -/
def State.resCtrl (s : State) (n v : Nat) : Nat :=
  let p := (s.channelsOf n).length
  let base := s.rd pGran GRAN_VBASE_BASE n + v / 128 * (p + 4)
  (memGet s.mem.gran (32 * (base + p) + v % 128)).toNat

/-! ### Streamed vectors (R202, R205, R208 to R211, R223) -/

/-- Unit byte i of a lane, once it is decoded. -/
def Lane.byte (l : Lane) (i : Nat) : Option Byte := if i < l.out.length then l.out[l.out.length - 1 - i]? else none

/-- The lane of a bale. -/
def BaleOp.lane (b : BaleOp) (k : Nat) : Lane := tabGet {} b.lanes k

/-- Lanes of a bale, the control lane last. -/
def BaleOp.laneCount (b : BaleOp) : Nat := b.nlane + b2n b.ctll

/-- The unit byte of lane k that holds vector v. -/
def BaleOp.unitOf (b : BaleOp) (k v : Nat) : Nat := if k < b.nlane then v / 4 else v

/-- The unit bytes that lane k decodes to (R215). -/
def BaleOp.units (b : BaleOp) (k : Nat) : Nat := if k < b.nlane then (b.nv + 3) / 4 else b.nv

/-- The first vector that a failed lane could not decode (R223). -/
def BaleOp.firstBad (b : BaleOp) (k : Nat) : Nat :=
  if k < b.nlane then 4 * (b.lane k).out.length else (b.lane k).out.length

/-- The failed lane that is reported: the earliest first undecodable vector, then the lowest lane (R223). -/
def BaleOp.badLane (b : BaleOp) : Option Nat :=
  ((List.range b.laneCount).filter fun k => (b.lane k).err ≠ 0).foldl (fun best k =>
    match best with
    | none => some k
    | some j => if b.firstBad k < b.firstBad j then some k else some j) none

/-- Whether vector v of a bale can be applied. -/
inductive StreamAccess
  | ok
  /-- Underrun. -/
  | under
  /-- A lane failed before the vector. -/
  | bad (lane reason : Nat)
  deriving DecidableEq, Repr

/-- Vector v of a bale (R205, R211, R223, R224). -/
def BaleOp.vecAccess (b : BaleOp) (v : Nat) : StreamAccess :=
  let missing := (List.range b.laneCount).filter fun k => ((b.lane k).byte (b.unitOf k v)).isNone
  if missing = [] then .ok
  else if missing.any fun k => (b.lane k).err ≠ 0 then
    match b.badLane with
    | some k => .bad k (b.lane k).err
    | none => .under
  else .under

/-- The code of lane i for vector v of a bale. -/
def BaleOp.code (b : BaleOp) (v i : Nat) : Nat := (((b.lane i).byte (v / 4)).getD 0).toNat / 4 ^ (v % 4) % 4

/-- The control byte of vector v of a bale. -/
def BaleOp.ctrl (b : BaleOp) (v : Nat) : Nat :=
  if b.ctll then (((b.lane b.nlane).byte v).getD 0).toNat else b.ctldef

/-- Index of the bale to be consumed next. -/
def State.hopPos (s : State) (n : Nat) : Nat := s.rd pHop HOP_RPOS_POS n

/-- The bale of an index, among those usable. -/
def State.baleAt (s : State) (n i : Nat) : Option BaleOp := (s.hopo n).bales.find? fun b => b.idx = i

/-- The stream comes from host memory (R201). -/
def State.hostFed (s : State) (n : Nat) : Bool := s.bit pHop HOP_CFG_SRC n

/-- A bale is released: the position moves past it, and a host-fed stream's consumer offset with it (R201, R202). -/
def State.hopRelease (s : State) (n : Nat) : State :=
  let i := s.hopPos n
  let len := match s.baleAt n i with | some b => b.bytes | none => 0
  let s1 := (s.wr pHop HOP_RPOS_POS (i + 1) n).modHop n fun h => { h with bales := h.bales.filter fun b => b.idx ≠ i, vpos := 0 }
  if s.hostFed n then
    s1.wr pHop HOP_HCONS_CONS ((s.rd pHop HOP_HCONS_CONS n + len / 64) % max 1 (s.rd pHop HOP_ITAB_ITAB n)) n
  else s1

/-- An error of the stream is reported (R222, R223). -/
def State.hopError (s : State) (n reason lane idx : Nat) (used : Bool) : State :=
  let s1 := ((s.wr pHop HOP_ERR_REASON reason n).wr pHop HOP_ERR_LANE lane n).wr pHop HOP_ERR_USED (b2n used) n
  (s1.wr pHop HOP_EBALE_EBALE idx n).wr pHop HOP_STAT_ERR 1 n

/-- The Hopper is set to fetch from bale i (R200, R203, R204). -/
def State.hopSeek (s : State) (n i : Nat) : State :=
  let host := s.hostFed n
  let a := s.rd pHop HOP_HCONS_CONS n * 64
  (s.wr pHop HOP_RPOS_POS i n).modHop n fun h => { h with
    idx := i, addr := if host then a else 0, needTable := !host, on := true, vpos := 0, failed := none }

/-- The sequencer reaches a streamed segment that names bale i: nothing where the Hopper stands there and fetches, else
a reposition; the answer is a reason TABLE or SEQ where the index is rejected (R200, R201, R204). -/
def State.hopReach (s : State) (n i : Nat) : State ⊕ Nat :=
  if s.hostFed n then
    if i ≠ s.hopPos n then .inr 10
    else if (s.hopo n).on || (s.hopo n).failed.isSome then .inl s else .inl (s.hopSeek n i)
  else if s.rd pHop HOP_NBALE_NBALE n ≤ i then .inr 11
  else if (s.hopo n).on || (s.hopo n).failed.isSome then
    if i = s.hopPos n then .inl s
    else .inl ((((s.hopDiscard n).wr pHop HOP_STAT_DISC 1 n).count (0x100 + 8 * n + 4)).hopSeek n i)
  else .inl (s.hopSeek n i)

/-! ### The end of a burst at the next vector start -/

/-- The burst of a site ends at the start of its next vector, after the last one applied. -/
def State.endNext (s : State) (n cause code : Nat) : State :=
  let t := (s.sqo n).next
  (s.advanceTo t).endBurst n cause code t

/-! ### Stacks and jumps, on a sequencer's record alone (R123 to R127) -/

/-- What a control-flow word leads to: it goes on, or the burst ends with a cause. -/
inductive Ctl
  | go (o : SqOp)
  | stop (cause : Nat)

/-- The body range of a loop entry contains an address. -/
def LoopEntry.contains (e : LoopEntry) (a : Nat) : Bool := decide (e.body ≤ a ∧ a ≤ e.enda)

/-- A jump pops every loop entry whose body does not contain the target (R125). -/
def ctlJump (o : SqOp) (target : Nat) : SqOp :=
  { o with loops := o.loops.filter fun e => e.contains target, pc := target }

/-- LOOP (R123, R124). -/
def ctlLoop (o : SqOp) (w : Nat) : Ctl :=
  let cnt := bitsAt w 0 32
  let enda := bitsAt w 32 24
  if cnt = 0 then .go { o with pc := enda + 1 }
  else if 8 ≤ o.loops.length then .stop 0x0C
  else .go { o with loops := ⟨o.pc + 1, enda, cnt, o.calls.length⟩ :: o.loops, pc := o.pc + 1 }

/-- ENDL (R123, R124). -/
def ctlEndl (o : SqOp) : Ctl :=
  match o.loops with
  | [] => .stop 0x0C
  | e :: es =>
    if e.enda ≠ o.pc then .stop 0x0C
    else if e.count ≤ 1 then .go { o with loops := es, pc := o.pc + 1 }
    else .go { o with loops := { e with count := e.count - 1 } :: es, pc := e.body }

/-- CALL (R127). -/
def ctlCall (o : SqOp) (w : Nat) : Ctl :=
  if 16 ≤ o.calls.length then .stop 0x0B
  else .go { o with calls := (o.pc + 1) :: o.calls, pc := bitsAt w 0 24 }

/-- RET (R127). -/
def ctlRet (o : SqOp) : Ctl :=
  match o.calls with
  | [] => .stop 0x0B
  | a :: as =>
    if o.loops.any fun e => decide (o.calls.length ≤ e.depth) then .stop 0x0C
    else .go { o with calls := as, pc := a }

/-- The segment that a SEG word names (R121). -/
def segOf (w : Nat) : Seg := { strm := bitAt w 57, addr := bitsAt w 0 32, nvec := bitsAt w 32 24 + 1, pos := 0 }

/-- What a TSET word does to the overrides (R148). -/
def tsetOf (o : SqOp) (w : Nat) : SqOp :=
  let ts := bitsAt w 48 6
  let m := bitsAt w 56 2
  if m = 1 then { o with tsHold := none, tsSeg := some ts }
  else if m = 2 then { o with tsHold := some ts, tsSeg := none }
  else { o with tsHold := none, tsSeg := none }

/-- The overrides once the waiting TSET words have acted (R115, R148). -/
def afterTsets (o : SqOp) : SqOp := o.acts.foldl (fun o w => if opcode w = 0x0F then tsetOf o w else o) o

/-- The override index in force, if any (R122). -/
def overrideOf (o : SqOp) : Option Nat := match o.tsSeg with | some t => some t | none => o.tsHold

/-! ### The path that a jump leaves (R426) and the first segment (R133) -/

/-- A point on the old path: the sequencer's record with its bale and position there. -/
structure Walk where
  o : SqOp
  bale : Nat
  vpos : Nat

/-- One word on the old path with conditions not taken; none where the burst would end or a wait begin. -/
def State.walkWord (s : State) (n : Nat) (k : Walk) : Option Walk :=
  let o := k.o
  if s.progAccess n o.pc ≠ .ok then none else
  let w := s.progWord n o.pc
  let op := opcode w
  let plain : Option Walk := some { k with o := { o with pc := o.pc + 1 } }
  let ctl : Ctl → Option Walk := fun c => match c with | .go o => some { k with o := o } | .stop _ => none
  if op = 0x01 then
    let g := segOf w
    if g.strm && !o.loops.isEmpty then none
    else
      let m : Option Match := match o.matchNext with | some (a, b, c) => some ⟨a, b, c, g.addr, g.nvec, 1⟩ | none => none
      let o1 := { o with seg := some g, pc := o.pc + 1, matchNext := none, mtch := m }
      some { o := o1, bale := if g.strm then g.addr else k.bale, vpos := if g.strm then 0 else k.vpos }
  else if op = 0x02 then ctl (ctlLoop o w)
  else if op = 0x03 then ctl (ctlEndl o)
  else if op = 0x04 then ctl (ctlCall o w)
  else if op = 0x05 then ctl (ctlRet o)
  else if op = 0x06 then some { k with o := ctlJump o (bitsAt w 0 24) }
  else if op = 0x07 ∨ op = 0x08 ∨ op = 0x09 then plain
  else if op = 0x0A then some { k with o := { o with pc := o.pc + 1, matchNext := some (1, 0, 0) } }
  else if op = 0x0D ∨ op = 0x0E then plain
  else if op = 0x0F then some { k with o := { tsetOf o w with pc := o.pc + 1 } }
  else none

/-- The control byte of the next vector on the old path; none where it would not be a program vector. -/
def State.walkCtrl (s : State) (n : Nat) (k : Walk) (g : Seg) : Option Nat :=
  if g.strm then
    match s.baleAt n k.bale with
    | some b => if b.vecAccess k.vpos = .ok then some (b.ctrl k.vpos) else none
    | none => none
  else if s.vecAccess n (g.addr + g.pos) = .ok then some (s.resCtrl n (g.addr + g.pos)) else none

/-- One vector on the old path. -/
def State.walkVec (s : State) (n : Nat) (k : Walk) (g : Seg) : Option Walk :=
  match s.walkCtrl n k g with
  | none => none
  | some c =>
    let o := k.o
    let ts := match o.pairTs with | some t => t | none => (overrideOf o).getD (c % 64)
    let per := s.rd (pSq n) SQ_TPER_PER ts
    let last := match s.baleAt n k.bale with | some b => b.nv | none => 0
    let o1 := { o with next := o.next + per, pairTs := if pairOf o.pairTs per = .first then some ts else none,
                       seg := some { g with pos := g.pos + 1 } }
    let past := g.strm && decide (last ≤ k.vpos + 1)
    some { o := o1, bale := if past then k.bale + 1 else k.bale,
           vpos := if past then 0 else if g.strm then k.vpos + 1 else k.vpos }

/-- Vectors that the old path would have started before `limit`; `fuel` bounds the words and vectors followed. -/
def State.walkCount (s : State) (n limit : Nat) : Nat → Walk → Nat → Nat
  | 0, _, acc => acc
  | fuel + 1, k, acc =>
    if limit ≤ k.o.next then acc
    else match k.o.seg with
      | none => match s.walkWord n k with
        | some k1 => s.walkCount n limit fuel k1 acc
        | none => acc
      | some g =>
        if g.pos < g.nvec then
          match s.walkVec n k g with
          | some k1 => s.walkCount n limit fuel k1 (acc + 1)
          | none => acc
        else
          let o1 : SqOp := if k.o.mtch.isSome then { k.o with seg := some { g with pos := 0 } } else
            { k.o with seg := none, tsSeg := none }
          s.walkCount n limit fuel { k with o := o1 } acc

/-- Words and vectors that the model follows on a path. -/
def walkFuel : Nat := 4096

/-- Program vectors that a jump at the next vector start discards (R426). -/
def State.wastedOf (s : State) (n : Nat) : Nat :=
  let o := s.sqo n
  if o.wait.isSome || o.paused || o.jumped then 0
  else s.walkCount n (o.next + 8 * fcG) walkFuel
    { o := afterTsets o, bale := s.hopPos n, vpos := (s.hopo n).vpos } 0

/-- The first segment on the path with conditions not taken, and whether a W = 0 conditional word lies before it. -/
def State.firstSeg (s : State) (n : Nat) : Nat → Walk → Bool → Option Seg × Bool
  | 0, _, c => (none, c)
  | fuel + 1, k, c =>
    match k.o.seg with
    | some g => (some g, c)
    | none =>
      let w := s.progWord n k.o.pc
      let c1 := c || (decide (0x07 ≤ opcode w ∧ opcode w ≤ 0x09) && !bitAt w 57)
      match s.walkWord n k with
      | some k1 => s.firstSeg n fuel k1 c1
      | none => (none, c1)

/-- The words on the path with conditions not taken end the burst before another segment or a wait. -/
def State.wordsEnd (s : State) (n : Nat) : Nat → Walk → Bool
  | 0, _ => false
  | fuel + 1, k =>
    if k.o.seg.isSome then false
    else match s.walkWord n k with
      | some k1 => s.wordsEnd n fuel k1
      | none => s.progAccess n k.o.pc ≠ .ok || (opcode (s.progWord n k.o.pc) ≠ 0x0B && opcode (s.progWord n k.o.pc) ≠ 0x0C)

/-- The first segment of an armed site's program. -/
def State.firstSegOf (s : State) (n : Nat) : Option Seg × Bool :=
  s.firstSeg n walkFuel { o := s.sqo n, bale := 0, vpos := 0 } false

/-! ### Decisions (R128 to R130, R133, R134, R184) -/

/-- The loop latency L. -/
def State.latency (s : State) (n : Nat) : Nat := s.rd (pSq n) SQ_LLAT_L

/-- FS as a decision at vector v sees it (R128, R129, R140, R184). -/
def State.fsSeen (s : State) (n v : Nat) : Bool :=
  let o := s.sqo n
  let old : Option Nat → Bool := fun f => match f with | some x => decide (x + s.latency n ≤ v) | none => false
  o.forced || old o.firstFail || old o.remoteFail

/-- The site has strobes that have not acted yet and that a test selects. -/
def State.strobePending (s : State) (n : Nat) (sel : Edge → Bool) : Bool :=
  (s.channelsOf n).any fun c => (s.chan c).edges.any fun e => e.site = n && e.gen.strobe && sel e

/-- A result that a decision on FS at vector v uses does not reach the sequencer in time (R130). -/
def State.fsLate (s : State) (n v : Nat) : Bool :=
  let o := s.sqo n
  (o.arrivals.any fun a => a.pass = 0 && decide (a.vec + s.latency n ≤ v ∧ o.next < a.t + 8 * fcG))
    || s.strobePending n fun e => e.pass = 0 && decide (e.vec + s.latency n ≤ v)

/-- A result of pass j of a MATCH body does not reach the sequencer in time (R130, R139). -/
def State.passLate (s : State) (n j : Nat) : Bool :=
  let o := s.sqo n
  (o.arrivals.any fun a => a.pass = j && decide (o.next < a.t + 8 * fcG)) || s.strobePending n fun e => e.pass = j

/-- A decision: not taken, taken, or its results are late. -/
inductive Verdict
  | no | yes | late
  deriving DecidableEq, Repr

/-- A conditional word's condition at the last vector applied (R133, R134). -/
def State.verdict (s : State) (n op flg : Nat) (pol : Bool) : Verdict :=
  let o := s.sqo n
  if op = 0x09 then (if s.flagSeen n flg o.lastStart = pol then .yes else .no)
  else if o.vec = 0 then (if op = 0x08 then .yes else .no)
  else if s.fsLate n (o.vec - 1) then .late
  else if s.fsSeen n (o.vec - 1) = decide (op = 0x07) then .yes else .no

/-- SQ_STAT.FS shows the bit as the last decision saw it. -/
def State.noteFs (s : State) (n op : Nat) : State :=
  if op = 0x09 then s
  else s.wr (pSq n) SQ_STAT_FS (b2n (decide ((s.sqo n).vec ≠ 0) && s.fsSeen n ((s.sqo n).vec - 1)))

/-- A W = 1 watch over the current segment at the last vector applied from it (R135). -/
def State.watchVerdict (s : State) (n : Nat) : Verdict :=
  let o := s.sqo n
  match o.watch, o.seg with
  | some w, some g => if g.pos = 0 || s.bit (pSq n) SQ_STAT_KEEPING then .no else s.verdict n w.op w.flg w.pol
  | _, _ => .no

/-! ### What falls due at the next vector start -/

/-- A segment boundary is undecided: the segment is at its end, or its watch ends it (R114, R135). -/
def State.boundaryDue (s : State) (n : Nat) : Bool :=
  match (s.sqo n).seg with
  | some g => g.pos = g.nvec || s.watchVerdict n ≠ .no
  | none => false

/-- The next vector starts at least 256 fc after a request's acceptance (R114). -/
def SqOp.ripe (o : SqOp) (acc : Nat) : Bool := decide (acc + 256 * fcG ≤ o.next)

/-- The next vector is the first of a segment, or of a pass of a MATCH body, after an earlier one. -/
def SqOp.betweenSegments (o : SqOp) : Bool :=
  o.wait.isNone && !o.paused && decide (0 < o.vec) && (match o.seg with | some g => decide (g.pos = 0) | none => true)

/-- A host jump applies at this boundary (R154, R155). -/
def SqOp.hjumpDue (o : SqOp) : Bool :=
  match o.hjump with
  | some (_, acc) => o.ripe acc && (o.atBoundary || o.wait.isSome || o.paused)
  | none => false

/-- A requested pause applies at this boundary (R150), after a host jump that is due there (R154). -/
def SqOp.pauseDue (o : SqOp) : Bool :=
  match o.pauseReq with
  | some acc => o.ripe acc && o.wait.isNone && !o.paused && !o.hjumpDue
      && (o.atBoundary || (match o.seg with | some g => g.pos = 0 && decide (1 < o.inst) | none => false))
  | none => false

/-- A paused site resumes at this keep-alive boundary (R146, R150). -/
def SqOp.resumeDue (o : SqOp) : Bool :=
  o.paused && ((match o.resumeReq with | some acc => o.ripe acc | none => false) || (o.heldPause && o.held.isNone))

/-- A released wait ends at this keep-alive boundary (R143). -/
def SqOp.releaseDue (o : SqOp) : Bool :=
  match o.wait with
  | some w => (match w.released with | some r => decide (r + 32 * fcG ≤ o.next) | none => false)
  | none => false

/-- How long before its boundary the timeout of a wait is judged: a rendezvous is judged in the cycle of the boundary itself
(R175), the others with the word that follows (R114). -/
def WaitKind.lead : WaitKind → Nat
  | .rdv _ => 0
  | _ => 8 * fcG

/-- A wait's timeout action applies at this keep-alive boundary (R142, R174, R176); a release that came in time wins. -/
def SqOp.timeoutDue (o : SqOp) : Bool :=
  match o.wait with
  | some w => (match w.released with | none => true | some r => decide (o.next < r + w.kind.lead)) && ((w.timeout ≠ 0 && decide (w.timeout ≤ w.count)) || (w.forced && decide (1 ≤ w.count)))
  | none => false

/-- Something other than a vector comes first at the next vector start. -/
def State.held (s : State) (n : Nat) : Bool :=
  let o := s.sqo n
  s.boundaryDue n || o.hjumpDue || o.pauseDue || o.resumeDue || o.releaseDue || o.timeoutDue

/-- The running vector is the last of its segment, and the words after it end the burst (R158). -/
def State.endsHere (s : State) (n : Nat) : Bool :=
  let o := s.sqo n
  match o.seg with
  | some g => g.pos = g.nvec && o.watch.isNone && o.mtch.isNone && o.wait.isNone && !o.paused
      && !(match o.hjump with | some (_, acc) => o.ripe acc | none => false)
      && !(match o.pauseReq with | some acc => o.ripe acc | none => false)
      && s.wordsEnd n walkFuel { o := { o with seg := none }, bale := 0, vpos := 0 }
  | none => false

/-! ### Jumps (R125, R136, R204, R426) -/

/-- A partly consumed bale is released when its segment ends (R202). -/
def State.hopEndSeg (s : State) (n : Nat) : State :=
  match (s.sqo n).seg with
  | some g => if g.strm && (s.hopo n).vpos ≠ 0 then s.hopRelease n else s
  | none => s

/-- A taken jump: the old path's vectors are wasted, the Hopper's contents are discarded, and the program goes on at the
target. -/
def State.takeJump (s : State) (n target : Nat) : State :=
  let s1 := ((s.count (8 * n + 1) (s.wastedOf n)).count (8 * n + 5)).hopEndSeg n
  let s2 := s1.modSq n fun o =>
    { ctlJump o target with seg := none, watch := none, mtch := none, tsSeg := none }
  ((s2.hopDiscard n).wr pHop HOP_STAT_DISC 1 n).count (0x100 + 8 * n + 4)

/-! ### Words (R115, R119) -/

/-- The word that the site decodes next, where its opcode is `op`: the site runs, neither waits nor pauses, has no
segment in hand, and no host jump or pause comes first. -/
def State.wordAt (s : State) (n op : Nat) : Option Nat :=
  let o := s.sqo n
  if s.sqRunning n && o.wait.isNone && !o.paused && o.seg.isNone && !o.hjumpDue && !o.pauseDue
      && s.progAccess n o.pc = .ok && opcode (s.progWord n o.pc) = op then some (s.progWord n o.pc) else none

/-- A word is decoded on the path taken: SQ_PC shows it, and it is counted unless it is a taken ENDL (R123, R159). -/
def State.decoded (s : State) (n : Nat) (counted : Bool) : State :=
  let a := (s.sqo n).pc
  let s1 := ((s.wr (pSq n) SQ_PC_ADDR a).touch n (s.progAddr n a / 4)).modSq n fun o => { o with atBoundary := false, jumped := false }
  if counted then s1.count (8 * n + 4) else s1

/-- A watch or a MATCH waits for its segment, and the word is not a SEG (R135, R138). -/
def SqOp.mustSeg (o : SqOp) : Bool := o.watchNext.isSome || o.matchNext.isSome

/-- A word other than SEG acts, unless a SEG had to stand there. -/
def State.word (s : State) (n op : Nat) (act : State → Nat → State) : State :=
  match s.wordAt n op with
  | none => s
  | some w =>
    let s1 := s.decoded n true
    if (s.sqo n).mustSeg then s1.endNext n 0x09 0 else act s1 w

/-- The sequencer goes on as a control-flow word says. -/
def State.ctl (s : State) (n : Nat) : Ctl → State
  | .go o => s.modSq n fun _ => o
  | .stop cause => s.endNext n cause 0

/-- The sequencer goes on with the following word. -/
def State.nextPc (s : State) (n : Nat) (f : SqOp → SqOp := id) : State := s.modSq n fun o => { f o with pc := o.pc + 1 }

/-- A conditional word (R134, R135). -/
def State.condWord (s : State) (n op : Nat) (w : Nat) : State :=
  let flg := bitsAt w 48 6
  let pol := bitAt w 56
  let target := bitsAt w 0 24
  if bitAt w 57 then s.nextPc n fun o => { o with watchNext := some ⟨op, flg, pol, target⟩ }
  else match s.verdict n op flg pol with
    | .late => s.endNext n 0x0E 0
    | .yes => (s.noteFs n op).takeJump n target
    | .no => (s.noteFs n op).nextPc n

/-- SEG (R121, R126, R138). -/
def State.segWord (s : State) (n w : Nat) : State :=
  let o := s.sqo n
  let g := segOf w
  let s1 := s.decoded n true
  if g.strm && (!o.loops.isEmpty || o.matchNext.isSome) then s1.endNext n 0x0D 0
  else if o.matchNext.isSome && decide (g.nvec < s.latency n) then s1.endNext n 0x10 0
  else
    let m : Option Match := match o.matchNext with | some (a, b, c) => some ⟨a, b, c, g.addr, g.nvec, 1⟩ | none => none
    let s2 := s1.modSq n fun o => { o with
      seg := some g, segPc := o.pc, pc := o.pc + 1, inst := o.inst + 1, watch := o.watchNext, watchNext := none,
      mtch := m, matchNext := none, passRes := [] }
    if g.strm then
      match s2.hopReach n g.addr with
      | .inl s3 => s3
      | .inr reason => (s2.hopError n reason 0 g.addr true).endNext n 0x08 0
    else s2

def execSegWord (n : Fin 32) (s : State) : Host.Outcome State Fault Refusal :=
  .next (match s.wordAt n 0x01 with | some w => s.segWord n w | none => s)

/-- LOOP (R123, R124). -/
def execLoopWord (n : Fin 32) (s : State) : Host.Outcome State Fault Refusal :=
  .next (s.word n 0x02 fun s w => s.ctl n (ctlLoop (s.sqo n) w))

/-- An ENDL is taken: it repeats the body. -/
def endlTaken (o : SqOp) : Bool :=
  match o.loops with | e :: _ => e.enda = o.pc && decide (1 < e.count) | [] => false

/-- ENDL (R123, R124). -/
def State.endlWord (s : State) (n : Nat) : State :=
  let o := s.sqo n
  let s1 := s.decoded n (!endlTaken o || o.mustSeg)
  if o.mustSeg then s1.endNext n 0x09 0 else s1.ctl n (ctlEndl (s1.sqo n))

def execEndlWord (n : Fin 32) (s : State) : Host.Outcome State Fault Refusal :=
  .next (match s.wordAt n 0x03 with | some _ => s.endlWord n | none => s)

/-- CALL (R127). -/
def execCallWord (n : Fin 32) (s : State) : Host.Outcome State Fault Refusal :=
  .next (s.word n 0x04 fun s w => s.ctl n (ctlCall (s.sqo n) w))

/-- RET (R127). -/
def execRetWord (n : Fin 32) (s : State) : Host.Outcome State Fault Refusal :=
  .next (s.word n 0x05 fun s _ => s.ctl n (ctlRet (s.sqo n)))

/-- JMP (R125). -/
def execJmpWord (n : Fin 32) (s : State) : Host.Outcome State Fault Refusal :=
  .next (s.word n 0x06 fun s w => s.modSq n fun o => ctlJump o (bitsAt w 0 24))

/-- JF (R134). -/
def execJfWord (n : Fin 32) (s : State) : Host.Outcome State Fault Refusal :=
  .next (s.word n 0x07 fun s w => s.condWord n 0x07 w)

/-- JP (R134). -/
def execJpWord (n : Fin 32) (s : State) : Host.Outcome State Fault Refusal :=
  .next (s.word n 0x08 fun s w => s.condWord n 0x08 w)

/-- JFL (R134). -/
def execJflWord (n : Fin 32) (s : State) : Host.Outcome State Fault Refusal :=
  .next (s.word n 0x09 fun s w => s.condWord n 0x09 w)

/-- MATCH (R138, R140). -/
def State.matchWord (s : State) (n w : Nat) : State :=
  let cnt := bitsAt w 32 24
  let toact := bitsAt w 56 2
  if cnt = 0 ∨ toact = 3 then s.endNext n 0x09 0
  else s.nextPc n fun o => { o with matchNext := some (cnt, toact, bitsAt w 0 24) }

def execMatchWord (n : Fin 32) (s : State) : Host.Outcome State Fault Refusal :=
  .next (s.word n 0x0A fun s w => s.matchWord n w)

/-- The trigger source is at its active level as the sequencer sees it (R142). -/
def State.trigActive (s : State) (n src : Nat) : Bool :=
  if src < 4 then s.clk.trigPulses.any fun p => p.1 = src && decide (p.2.1 ≤ s.now ∧ s.now < p.2.2)
  else if 0x10 ≤ src ∧ src < 0x20 then
    (match tabFind s.clk.atLast (src - 0x10) with | some t => decide (s.now < t + 32 * fcG) | none => false)
  else s.bit (pSq n) SQ_CTL_HTRIG

/-- When an edge of TRIG_INn that is on its way reaches the sequencer (R36, R143). -/
def State.trigComing (s : State) (src : Nat) : Option Nat :=
  ((s.clk.trigPulses.filter fun p => p.1 = src && decide (s.now < p.2.1)).map fun p => p.2.1).getLast?

/-- WAITT (R142, R185). A release by HOST consumes it. -/
def State.waittWord (s : State) (n w : Nat) : State :=
  let src := bitsAt w 50 6
  let edge := bitAt w 48
  let toact := bitsAt w 56 2
  let known := decide (src < 4) || decide (0x10 ≤ src ∧ src < 0x20) || src = 0x20
  if toact = 1 ∨ toact = 3 ∨ !known then s.endNext n 0x09 0
  else if s.inSpan n && !decide (0x10 ≤ src ∧ src < 0x20) then s.endNext n 0x09 0
  else
    let now := !edge && s.trigActive n src
    let s1 := s.nextPc n fun o => { o with wait := some ⟨.trig src edge, bitsAt w 0 32, toact, 0, s.now,
                                                        if now then some s.now else s.trigComing src, false⟩ }
    if now && src = 0x20 then s1.wr (pSq n) SQ_CTL_HTRIG 0 else s1

def execWaittWord (n : Fin 32) (s : State) : Host.Outcome State Fault Refusal :=
  .next (s.word n 0x0B fun s w => s.waittWord n w)

/-- RDV (R144, R171). -/
def State.rdvWord (s : State) (n w : Nat) : State :=
  let kind := bitAt w 55
  let g := bitsAt w 48 4
  let toact := bitsAt w 56 2
  if toact = 1 ∨ toact = 3 then s.endNext n 0x09 0
  else if kind && !bitAt (s.rd pClk RG_MEM_RG_MEM g) n then s.endNext n 0x09 0
  else s.nextPc n fun o =>
    { o with wait := some ⟨if kind then .rdv g else .sync, bitsAt w 0 32, toact, 0, s.now, none, false⟩ }

def execRdvWord (n : Fin 32) (s : State) : Host.Outcome State Fault Refusal :=
  .next (s.word n 0x0C fun s w => s.rdvWord n w)

/-- A MARK, FLAG or TSET word waits for the next segment (R115). -/
def State.waitingWord (s : State) (n w : Nat) : State := s.nextPc n fun o => { o with acts := o.acts ++ [w] }

/-- MARK (R145). -/
def execMarkWord (n : Fin 32) (s : State) : Host.Outcome State Fault Refusal :=
  .next (s.word n 0x0D fun s w => s.waitingWord n w)

/-- FLAG (R147). -/
def execFlagWord (n : Fin 32) (s : State) : Host.Outcome State Fault Refusal :=
  .next (s.word n 0x0E fun s w => if bitsAt w 56 2 = 3 then s.endNext n 0x09 0 else s.waitingWord n w)

/-- TSET (R148). -/
def execTsetWord (n : Fin 32) (s : State) : Host.Outcome State Fault Refusal :=
  .next (s.word n 0x0F fun s w => if bitsAt w 56 2 = 3 then s.endNext n 0x09 0 else s.waitingWord n w)

/-- STOP (R119). -/
def execStopWord (n : Fin 32) (s : State) : Host.Outcome State Fault Refusal :=
  .next (s.word n 0x10 fun s w => s.endNext n 0x01 (bitsAt w 0 16))

/-- ILLEGAL_OPCODE: a reserved opcode, or a program word with a double-bit error, which decodes as 0x00 (R119, R198). -/
def State.illegalWord (s : State) (n : Nat) : State :=
  let o := s.sqo n
  if s.sqRunning n && o.wait.isNone && !o.paused && o.seg.isNone && !o.hjumpDue && !o.pauseDue then
    match s.progAccess n o.pc with
    | .ue w => ((s.decoded n true).granError w).endNext n 0x09 0
    | .ok =>
      let op := opcode (s.progWord n o.pc)
      if op = 0 ∨ 0x11 ≤ op then (s.decoded n true).endNext n 0x09 0 else s
    | _ => s
  else s

def execIllegalOpcode (n : Fin 32) (s : State) : Host.Outcome State Fault Refusal := .next (s.illegalWord n)

end Sys2Proof.Machine
end

