-- ==== Sys2Proof/Machine/Gleaner.lean ====
section
/-! DEFINITION. The Gleaner: compare results, fail counts, capture records, the failure bitmap, the datalog export and
the readout (chapter Compare results and fail capture; R461 to R467). -/

namespace Sys2Proof.Machine

open Reg

/-! ### The accepted start of a burst (R234, R239, R244, R246) -/

/-- The site's fail counts become 0: those of its channels, GLN_SFV and GLN_SCV. -/
def State.glnClear (s : State) (n : Nat) : State :=
  let ids := (s.channelsOf n).map (0x400 + ·) ++ [0x540 + n, 0x560 + n]
  { s with cnt := { s.cnt with vals := ids.foldl (fun m i => tabPut 0 m i 0) s.cnt.vals } }

/-- The scramble table of a site names a site-pin that it does not have (R246). -/
def State.scrambleBad (s : State) (n : Nat) : Bool :=
  let p := (s.channelsOf n).length
  (List.range 28).any fun j => s.rd pGln GLN_BSCR_SRC n j = 1 &&
    (decide (p ≤ s.rd pGln GLN_BSCR_PINA n j) || (s.bit pGln GLN_BSCR_XEN n j && decide (p ≤ s.rd pGln GLN_BSCR_PINB n j)))

/-- A start of the site is accepted: its flags and records are set anew. -/
def State.glnStart (s : State) (n : Nat) : State :=
  let s1 := if s.bit pGln GLN_SCFG_FCCLR n then s.glnClear n else s
  let s2 := (((s1.wr pGln GLN_SSTAT_FULL 0 n).wr pGln GLN_SSTAT_LIMIT 0 n).wr pGln GLN_SSTAT_RATE 0 n)
  let s3 := (s2.wr pGln GLN_SSTAT_BCFG (b2n (s.scrambleBad n)) n).wr pGln GLN_SSTAT_ISO 0 n
  let s4 := ((s3.wr pGln GLN_SFIRST_FIRST (s.rd pGln GLN_SREG_BASE n * 256) n).wr pGln GLN_SWR_CNT 0 n).wr pGln
    GLN_SLOST_LOST 0 n
  s4.modGln n fun g => { g with acc := [], logged := 0, inst := 0, instLogged := 0, gap := false, stopItem := false }

/-! ### Work items (R254, R255, R404) -/

/-- The address of a capture slot in Brewer space. -/
def slotAddr (slot : Nat) : Nat := 0x13800000 + 32 * slot

/-- A work item of the Gleaner for a site: offered, held, or discarded while one is held. -/
def State.glnItem (s : State) (n typ token arg data : Nat) : State :=
  let it : Item := { typ := typ, pl := s.rd pGln GLN_SCFG_PL n, notify := false, src := 0x20, site := n, nosite := false,
                     token := token, arg := arg, data := data, origin := none }
  if (s.glnSite n).held.isSome then s.satAdd pGln GLN_SWDROP_WDROP 1 n
  else match s.offer it with
    | .accepted s1 => s1
    | .held s1 => s1.modGln n fun g => { g with held := some it }
    | .lost => s

/-- The item that says that logging stopped: 1 FULL, 2 LIMIT; once per burst. -/
def State.stopLog (s : State) (n why : Nat) : State :=
  if s.rd pGln GLN_SCFG_WI n = 3 && !(s.glnSite n).stopItem then
    (s.modGln n fun g => { g with stopItem := true }).glnItem n 4 (s.rd pGln GLN_SWR_CNT n)
      (slotAddr (s.rd pGln GLN_SFIRST_FIRST n)) why
  else s

/-! ### Failing vectors (R236, R237, R239 to R243) -/

/-- The sheaves with a failing result, ascending. -/
def failSheaves (rs : List CmpResult) : List Nat := (List.range 40).filter fun k => rs.any fun r => r.fail && r.ch / 8 = k

/-- A mask over the channels of a sheaf for which a result satisfies a test. -/
def resultMask (rs : List CmpResult) (k : Nat) (f : CmpResult → Bool) : Nat :=
  mask8 fun i => rs.any fun r => r.ch = 8 * k + i && f r

/-- The EXP bytes of a record. -/
def expMask (rs : List CmpResult) (k : Nat) : Nat :=
  ((rs.filter fun r => r.ch / 8 = k).map fun r => r.exp * 4 ^ (r.ch % 8)).sum

/-- The earliest origin among failing results of a sheaf. -/
def firstOrigin (rs : List CmpResult) (k : Nat) : Nat :=
  ((rs.filter fun r => r.fail && r.ch / 8 = k).map (·.t)).foldl (fun a b => if a = 0 then b else min a b) 0

/-- The FAIL or MFAIL records of a failing vector. -/
def State.failRecords (s : State) (n v typ : Nat) (rs : List CmpResult) (gap limit : Bool) : List GRec :=
  let ks := failSheaves rs
  let r0 := rs.head?
  let tset := match r0 with | some r => r.ts | none => 0
  let seg := match r0 with | some r => r.seg | none => 0
  (ks.zipIdx).map fun (k, i) =>
    let ts := s.stampAt (firstOrigin rs k)
    let data := resultMask rs k (·.fail) + resultMask rs k (fun _ => true) * 2 ^ 8 + resultMask rs k (·.above) * 2 ^ 16
      + resultMask rs k (·.below) * 2 ^ 24 + expMask rs k * 2 ^ 32
    { site := n, typ := typ, group := if i = 0 then ks.length else 0, vec := v, ts := ts, limit := limit && i = 0,
      bytes := recordBytes typ n k tset v data (seg + if gap && i = 0 then 2 ^ 28 else 0) ts }

/-- Records of failing vectors in the queue. -/
def GlnOp.failCount (g : GlnOp) : Nat := (g.queue.filter fun r => r.typ = 1 || r.typ = 2).length

/-- A START, END or UNDERRUN record of the site waits for one of the 64 entries kept for them (R241). -/
def GlnOp.markWaits (g : GlnOp) (n : Nat) : Bool :=
  ((g.queue.filter fun r => r.typ ≠ 1 && r.typ ≠ 2).drop 64).any fun r => r.site = n

/-- The mode and N admit another failing vector; `inst` is its segment instance (R236). -/
def State.mayLog (s : State) (n inst : Nat) : Bool :=
  let g := s.glnSite n
  let m := s.rd pGln GLN_SCFG_MODE n
  if m = 1 then decide (g.logged < s.rd pGln GLN_SN_N n)
  else if m = 2 then decide ((if g.inst = inst then g.instLogged else 0) < s.rd pGln GLN_SN_N n)
  else m = 3

/-- A failing vector is logged as the mode gives, or lost to a full region or to rate. -/
def State.logVector (s : State) (n v typ : Nat) (rs : List CmpResult) : State :=
  let g := s.glnSite n
  let inst := match rs.head? with | some r => r.inst | none => 0
  let m := s.rd pGln GLN_SCFG_MODE n
  if m = 0 then s
  else if g.stopped then s.satAdd pGln GLN_SLOST_LOST 1 n
  else if !s.mayLog n inst then s
  else
    let k := (failSheaves rs).length
    if decide (s.gln.failCount + k ≤ 8128) && !s.gln.markWaits n then
      let il := (if g.inst = inst then g.instLogged else 0) + 1
      let limit := (m = 1 && g.logged + 1 = s.rd pGln GLN_SN_N n) || (m = 2 && il = s.rd pGln GLN_SN_N n)
      let new := s.failRecords n v typ rs g.gap limit
      let s1 := s.modGln n fun g => { g with logged := g.logged + 1, inst := inst, instLogged := il, gap := false }
      { s1 with gln := { s1.gln with queue := s1.gln.queue ++ new } }
    else
      let s1 := ((s.satAdd pGln GLN_RLOST_RLOST 1).satAdd pGln GLN_SLOST_LOST 1 n).wr pGln GLN_SSTAT_RATE 1 n
      (s1.wr pGln GLN_STAT_RATE 1).modGln n fun g => { g with gap := true }

/-- All results of a vector have arrived: it is counted, and logged when it failed (R231, R232, R237). -/
def State.endVector (s : State) (n v : Nat) (rs : List CmpResult) : State :=
  let fails := rs.any (·.fail)
  if rs.any fun r => r.pass ≠ 0 then (if fails then s.logVector n v 2 rs else s)
  else
    let s1 := s.count (0x560 + n)
    if fails then (s1.count (0x540 + n)).logVector n v 1 rs else s1

/-- A vector of the site at or before v has a strobe or a result that has not arrived. -/
def State.resultsOutstanding (s : State) (n v : Nat) : Bool :=
  (s.results.any fun r => r.site = n && decide (r.vec ≤ v)) || s.strobePending n fun e => decide (e.vec ≤ v)

/-- Vectors whose results have all arrived are counted and logged in ascending order (R237). -/
def State.endVectors (s : State) (n : Nat) : List (Nat × List CmpResult) → State
  | [] => s
  | (v, rs) :: rest =>
    if s.resultsOutstanding n v then s
    else ((s.modGln n fun g => { g with acc := rest }).endVector n v rs).endVectors n rest

/-! ### Bitmap updates (R245 to R250, R467) -/

/-- The site-pin that entry i of a site's I/O map names, if it is in use. -/
def State.bioPin (s : State) (n i : Nat) : Option Nat :=
  if i % 2 = 0 then (if s.bit pGln GLN_BIO_VALID0 n (i / 2) then some (s.rd pGln GLN_BIO_PIN0 n (i / 2)) else none)
  else (if s.bit pGln GLN_BIO_VALID1 n (i / 2) then some (s.rd pGln GLN_BIO_PIN1 n (i / 2)) else none)

/-- The I/O number of a site-pin: the lowest entry that names it. -/
def State.ioOf (s : State) (n pin : Nat) : Option Nat := (List.range 64).find? fun i => s.bioPin n i = some pin

/-- The level last driven on a channel at or before vector v in the burst. -/
def ChOp.drivenAt (o : ChOp) (v : Nat) : Bool :=
  match o.drives.find? fun d => decide (d.1 ≤ v) with | some d => d.2 | none => false

/-- The address value of a site-pin for failing vector v (R247). -/
def State.pinValue (s : State) (n pin v : Nat) : Bool :=
  let d := s.rd pGln GLN_BADLY_D n
  match (s.channelsOf n)[pin]? with
  | some c => decide (d ≤ v) && (s.chan c).drivenAt (v - d)
  | none => false

/-- Bit j of the bit address (R246). -/
def State.addrBit (s : State) (n v io j : Nat) : Bool :=
  let a := s.rd pGln GLN_BSCR_PINA n j
  let src := s.rd pGln GLN_BSCR_SRC n j
  let b := if src = 1 then
      (s.pinValue n a v != (s.bit pGln GLN_BSCR_XEN n j && s.pinValue n (s.rd pGln GLN_BSCR_PINB n j) v))
    else if src = 2 then decide (a ≤ 5) && bitAt io a
    else false
  b != s.bit pGln GLN_BSCR_INV n j

/-- The bit address A[27:0] of an update. -/
def State.bitAddr (s : State) (n v io : Nat) : Nat :=
  ((List.range 28).map fun j => if s.addrBit n v io j then 2 ^ j else 0).sum

/-- The port and device word of a bitmap word (R248). -/
def State.qdrPlace (s : State) (w : Nat) : Nat × Nat :=
  if s.rd pGln GLN_CFG_PORTS = 2 then (w % 2, w / 2) else (0, w)

/-- The device word is fitted: its port is trained and enabled, and holds it (R248, R466). -/
def State.qdrFitted (s : State) (port d : Nat) : Bool :=
  let rdy := if port = 0 then s.bit pQdr QDR_STAT_QARDY else s.bit pQdr QDR_STAT_QBRDY
  let big := if port = 0 then s.bit pQdr QDR_CFG_QASZ else s.bit pQdr QDR_CFG_QBSZ
  rdy && decide (d < if big then 4194304 else 2097152)

/-- The failing result of a data pin makes a bitmap update. -/
def State.bitmapUpdate (s : State) (r : CmpResult) : State :=
  let n := r.site
  if !(s.bit pGln GLN_CFG_BMEN && s.bit pGln GLN_SCFG_BMEN n) then s
  else match s.ioOf n (s.pinOf r.ch) with
    | none => s
    | some io =>
      let a := s.bitAddr n r.vec io
      let w := s.rd pGln GLN_BBASE_BBASE n + a / 32
      let (port, d) := s.qdrPlace w
      if s.rd pGln GLN_BSIZE_BSIZE n ≤ a / 32 || !s.qdrFitted port d then s.satAdd pGln GLN_BADDR_BADDR 1
      else if (port = 1 && (!s.domainOn 74 || (s.pageo pQdr).iso)) || decide (16384 ≤ s.gln.updates.length) then
        (s.satAdd pGln GLN_BLOST_BLOST 1).wr pGln GLN_STAT_BLOST 1
      else { s with gln := { s.gln with updates := s.gln.updates ++ [(w, a % 32)] } }

/-! ### The arrival of a result (R230 to R232, R244) -/

/-- A channel is masked in the Gleaner (R230). -/
def State.masked (s : State) (c : Nat) : Bool := bitAt (s.rd pGln GLN_PMASK_MASK (c / 32)) (c % 32)

/-- A vector's results gain one, keys ascending. -/
def addAcc (t : Tab (List CmpResult)) (r : CmpResult) : Tab (List CmpResult) := tabMod [] t r.vec fun rs => rs ++ [r]

/-- A result that is neither masked nor a match result to be ignored. -/
def State.takeResult (s : State) (r : CmpResult) : State :=
  let s1 := if r.fail then s.count 0x2C1 else s
  let s2 := if r.fail && r.pass = 0 then (s1.count (0x400 + r.ch)).bitmapUpdate r else s1
  s2.modGln r.site fun g => { g with acc := addAcc g.acc r }

/-- The oldest result on its way reaches the Gleaner. -/
def State.resultArrives (s : State) (r : CmpResult) (rest : List CmpResult) : State :=
  let s1 := { s with results := rest }
  if s.pageState pGln ≠ 4 then s1
  else
    let s2 := s1.count 0x2C0
    let ignored := s.bit pGln GLN_SSTAT_ISO r.site || s.masked r.ch || (r.pass ≠ 0 && !s.bit pGln GLN_SCFG_MATCH r.site)
    let s3 := if ignored then s2 else s2.takeResult r
    s3.endVectors r.site (s3.glnSite r.site).acc

/-- COMPARE_RESULT_ARRIVAL. -/
def execCompareResultArrival (s : State) : Host.Outcome State Fault Refusal :=
  match s.results with
  | r :: rest => .next (s.resultArrives r rest)
  | [] => .next s

/-- UNDERRUN_MARK: the oldest mark reaches the Gleaner (R238). -/
def execUnderrunMark (s : State) : Host.Outcome State Fault Refusal :=
  match s.gln.marks with
  | m :: rest =>
    let s1 := { s with gln := { s.gln with marks := rest } }
    .next (s1.glnMark m.site 3 m.tset m.vec (m.bale % 2 ^ 32 + m.off * 2 ^ 32) m.seg m.t)
  | [] => .next s

/-! ### Writing records (R235, R238 to R240, R252 to R254, R257) -/

/-- Records that the site's region holds. -/
def State.regionSize (s : State) (n : Nat) : Nat := s.rd pGln GLN_SREG_SIZE n * 256

/-- Written records of a site wait for export. -/
def State.exportPending (s : State) (n : Nat) : Bool := s.gln.exports.any fun e => e.1 = n

/-- The first record that may be written: a START record, with all later records of its site, waits while the site's
earlier records wait for export (R257). -/
def State.nextRecord (s : State) : List GRec → List Nat → Option GRec
  | [], _ => none
  | r :: rest, blocked =>
    if blocked.contains r.site then s.nextRecord rest blocked
    else if r.typ = 4 && s.exportPending r.site then s.nextRecord rest (r.site :: blocked)
    else some r

/-- A written record is offered to a port's export queue for a site of EXP_SITES (R340). -/
def State.exportGln (s : State) (p n : Nat) (bytes : List Byte) : State :=
  if bitAt (s.rd (pEth p) EXP_SITES_SITES) n then s.exportPort p 4 bytes else s

/-- The record goes to a slot of the site's region, counted from the region's first. -/
def State.putRecord (s : State) (n pos : Nat) (bytes : List Byte) : State :=
  let slot := s.rd pGln GLN_SREG_BASE n * 256 + pos
  let s1 := { s with mem := { s.mem with cap := memPutBytes s.mem.cap (32 * slot) bytes } }
  let s2 := (s1.satAdd pGln GLN_SWR_CNT 1 n).count 0x2C2
  let s3 := if s.bit pGln GLN_SCFG_EXPORT n then { s2 with gln := { s2.gln with exports := s2.gln.exports ++ [(n, slot)] } } else s2
  (s3.exportGln 0 n bytes).exportGln 1 n bytes

/-- The item of the END or FULL record (R254). -/
def State.endItem (s : State) (n typ : Nat) : State :=
  if s.rd pGln GLN_SCFG_WI n = 1 then
    s.glnItem n 2 (s.rd pGln GLN_SWR_CNT n) (slotAddr (s.rd pGln GLN_SFIRST_FIRST n)) typ
  else s

/-- The region is full for this record: the FULL record is written in the last free slot, and logging stops (R239). -/
def State.fullRecord (s : State) (r : GRec) : State :=
  let n := r.site
  let g := s.glnSite n
  let size := s.regionSize n
  let pos := (g.wpos + (size - g.used) - 1) % size
  let s1 := s.putRecord n pos (recordBytes 6 n 0 0 r.vec r.typ 0 r.ts)
  let s2 := (s1.wr pGln GLN_SSTAT_FULL 1 n).modGln n fun g => { g with stopped := true, used := size }
  let s3 := if r.typ = 1 || r.typ = 2 then s2.satAdd pGln GLN_SLOST_LOST 1 n else s2
  (s3.endItem n 6).stopLog n 1

/-- A record that fits is written in the next slot of its region. -/
def State.fitRecord (s : State) (r : GRec) : State :=
  let n := r.site
  let g := s.glnSite n
  let size := s.regionSize n
  let s1 := s.putRecord n g.wpos r.bytes
  let s2 := s1.modGln n fun g => { g with wpos := (g.wpos + 1) % size, used := g.used + 1 }
  let slot := s.rd pGln GLN_SREG_BASE n * 256 + g.wpos
  if (r.typ = 1 || r.typ = 2) && r.group ≠ 0 then
    let s3 := if s.rd pGln GLN_SCFG_WI n = 2 then
        s2.glnItem n 3 (r.vec % 2 ^ 32) (slotAddr slot) (r.vec / 2 ^ 32 % 65536 + r.group * 65536) else s2
    if r.limit then (s3.wr pGln GLN_SSTAT_LIMIT 1 n).stopLog n 2 else s3
  else if r.typ = 5 then s2.endItem n 5
  else s2

/-- A queued record is written, or finds its region full, or its burst's logging stopped. -/
def State.writeRecord (s : State) (r : GRec) : State :=
  let n := r.site
  let s1 := { s with gln := { s.gln with queue := s.gln.queue.erase r } }
  if r.typ = 4 then
    let s2 := s1.modGln n fun g => { g with wpos := 0, used := 0, stopped := false }
    let s3 := { s2 with gln := { s2.gln with inRing := s2.gln.inRing.map fun k => if k = n then 32 else k } }
    (s3.wr pGln GLN_SFIRST_FIRST (s.rd pGln GLN_SREG_BASE n * 256) n).fitRecord r
  else
    let g := s.glnSite n
    if g.stopped then (if (r.typ = 1 || r.typ = 2) && r.group ≠ 0 then s1.satAdd pGln GLN_SLOST_LOST 1 n else s1)
    else if s.regionSize n ≤ g.used + r.group then s1.fullRecord r
    else s1.fitRecord r

/-- RECORD_WRITE. -/
def execRecordWrite (s : State) : Host.Outcome State Fault Refusal :=
  if s.pageState pGln ≠ 4 then .next s
  else match s.nextRecord s.gln.queue [] with
    | some r => .next (s.writeRecord r)
    | none => .next s

/-! ### Datalog export (R252, R253, R256) -/

/-- The bus address of an entry of the export ring. -/
def State.dlAddr (s : State) (i : Nat) : Nat :=
  s.rd pGln GLN_DL_BASEH_BASE * 2 ^ 32 + s.rd pGln GLN_DL_BASEL_BASE + 32 * i

/-- The oldest written record that waits for export is copied to the ring, or waits on a full ring. -/
def State.exportRecord (s : State) (n slot : Nat) (rest : List (Nat × Nat)) : State :=
  let size := s.rd pGln GLN_DL_SIZE_SIZE
  let prod := s.rd pGln GLN_DL_PROD_PROD
  if size = 0 ∨ ringFull prod (s.rd pGln GLN_DL_CONS_CONS) size ∨ !s.hostOk then s.wr pGln GLN_DL_STAT_STALL 1
  else
    let s1 := s.dmaWrite (s.dlAddr prod) (memBytes s.mem.cap (32 * slot) 32)
    let s2 := (s1.wr pGln GLN_DL_PROD_PROD ((prod + 1) % size)).count 0x2C3
    let keep := if s.bit pGln GLN_SCFG_RECYCLE n then n else 32
    { s2 with gln := { s2.gln with exports := rest, inRing := s2.gln.inRing ++ [keep] } }

/-- RECORD_EXPORT. -/
def execRecordExport (s : State) : Host.Outcome State Fault Refusal :=
  match s.gln.exports with
  | (n, slot) :: rest => if s.pageState pGln ≠ 4 then .next s else .next (s.exportRecord n slot rest)
  | [] => .next s

/-- The slot of an exported record whose copy CONS has passed becomes free. -/
def State.freeSlot (s : State) (n : Nat) : State :=
  if n < 32 then (s.modGln n fun g => { g with used := g.used - 1 }).count 0x2C7 else s

/-- The consumer offset moves: the entries it passes are free. -/
def State.dlConsumed (s : State) (old new : Nat) : State :=
  let size := s.rd pGln GLN_DL_SIZE_SIZE
  let k := if size = 0 then 0 else (new + size - old % size) % size
  let s1 := { s with gln := { s.gln with inRing := s.gln.inRing.drop k } }
  (s.gln.inRing.take k).foldl State.freeSlot s1

/-- A write of GLN_DL_CONS. -/
def State.dlConsWrite (s : State) (r : Requester) (word : Nat) : State :=
  let old := s.rd pGln GLN_DL_CONS_CONS
  s.writeWith r pGln 0x90 word fun s => s.dlConsumed old (s.rd pGln GLN_DL_CONS_CONS)

def execDatalogConsumerWrite (r : Requester) (v : Word) (s : State) : Host.Outcome State Fault Refusal :=
  .next (s.dlConsWrite r v.toNat)

/-- A write of GLN_SCTL: CLR clears the site's counts while it is idle (R234). -/
def State.sctlWrite (s : State) (r : Requester) (n word : Nat) : State :=
  s.writeWith r pGln (0x13C + 0x40 * n) word fun s =>
    if !bitAt word 0 then s else if s.siteBusy n then s.werr pGln else s.glnClear n

def execGleanerCountClear (r : Requester) (n : Fin 32) (s : State) : Host.Outcome State Fault Refusal :=
  .next (s.sctlWrite r n 1)

/-! ### The bitmap in QDR-IV (R249, R251, R462 to R465) -/

/-- The key of a device word of a port. -/
def qdrKey (port d : Nat) : Nat := port * 2 ^ 22 + d

/-- Even parity of a byte. -/
def parity8 (b : Nat) : Bool := ((List.range 8).filter fun k => bitAt b k).length % 2 = 1

/-- A bitmap word with its parity bits (R462). -/
def qdrEncode (w : Nat) : Nat := w + (((List.range 4).map fun k => if parity8 (w / 256 ^ k % 256) then 2 ^ (32 + k) else 0).sum)

/-- The bytes of a device word whose parity is wrong, and the word with each of them replaced by 0xFF (R464). -/
def qdrDecode (v : Nat) : Bool × Nat :=
  let bad := (List.range 4).filter fun k => parity8 (v / 256 ^ k % 256) != bitAt v (32 + k)
  (!bad.isEmpty, bad.foldl (fun w k => w - w / 256 ^ k % 256 * 256 ^ k + 255 * 256 ^ k) (v % 2 ^ 32))

/-- A parity error is reported. -/
def State.qdrError (s : State) (port d : Nat) : State :=
  let s1 := ((s.wr pQdr QDR_STAT_PERR 1).wr pQdr QDR_ERRADDR_PAIR (d / 2)).wr pQdr QDR_ERRADDR_PORT port
  (s1.count (0x362 + 4 * port)).pagePairs pQdr

/-- A device word read, with the reports of R464. -/
def State.qdrRead (s : State) (port d : Nat) : Nat × State :=
  let (bad, w) := qdrDecode (tabGet 0 s.mem.qdr (qdrKey port d))
  (w, if bad then s.qdrError port d else s)

/-- A device word written with its parity. -/
def State.qdrWrite (s : State) (port d w : Nat) : State :=
  { s with mem := { s.mem with qdr := tabPut 0 s.mem.qdr (qdrKey port d) (qdrEncode w) } }

/-- A pair is read: every byte with wrong parity becomes 0xFF with one report, and both words are written back with
correct parity (R463, R464). -/
def State.qdrPair (s : State) (port pair : Nat) : State :=
  let lo := qdrDecode (tabGet 0 s.mem.qdr (qdrKey port (2 * pair)))
  let hi := qdrDecode (tabGet 0 s.mem.qdr (qdrKey port (2 * pair + 1)))
  let s1 := if lo.1 || hi.1 then s.qdrError port (2 * pair) else s
  (s1.qdrWrite port (2 * pair) lo.2).qdrWrite port (2 * pair + 1) hi.2

/-- One queued update ORs its bit into its word. -/
def State.orBit (s : State) (u : Nat × Nat) : State :=
  let (port, d) := s.qdrPlace u.1
  s.qdrWrite port d ((qdrDecode (tabGet 0 s.mem.qdr (qdrKey port d))).2 ||| 2 ^ u.2)

/-- The pair of device words that an update touches. -/
def State.pairOfWord (s : State) (w : Nat) : Nat × Nat := let (port, d) := s.qdrPlace w; (port, d / 2)

/-- The oldest update is made, and every update of the same pair in the queue is merged into its write (R249, R463). -/
def State.updateBitmap (s : State) (u : Nat × Nat) : State :=
  let pr := s.pairOfWord u.1
  let mine := s.gln.updates.filter fun x => s.pairOfWord x.1 = pr
  let s1 := { s with gln := { s.gln with updates := s.gln.updates.filter fun x => s.pairOfWord x.1 ≠ pr } }
  let s2 := mine.foldl State.orBit (s1.qdrPair pr.1 pr.2)
  let words := (mine.map (·.1)).eraseDups.length
  let merged := mine.length - 1
  (((s2.count (0x360 + 4 * pr.1)).count (0x361 + 4 * pr.1) merged).count 0x2C5 words).count 0x2C6 merged

/-- BITMAP_UPDATE. -/
def execBitmapUpdate (s : State) : Host.Outcome State Fault Refusal :=
  match s.gln.updates with
  | u :: _ => if s.pageState pGln ≠ 4 then .next s else .next (s.updateBitmap u)
  | [] => .next s

/-- QDR_ADDRESS_PARITY_ERROR (R465). -/
def execQdrAddressParityError (port : Fin 2) (s : State) : Host.Outcome State Fault Refusal :=
  .next (((s.wr pQdr QDR_STAT_APERR 1).count (0x362 + 4 * port)).pagePairs pQdr)

/-- A write of GLN_BRD_CTL with START: refused while a site in bitmap mode is ARMED or running, or while a readout runs
(R251). -/
def State.brdCtlWrite (s : State) (r : Requester) (word : Nat) : State :=
  s.writeWith r pGln 0x70 word fun s =>
    if !bitAt word 0 then s
    else if s.bit pGln GLN_BRD_CTL_BUSY || (List.range 32).any fun n => s.bit pGln GLN_SCFG_BMEN n && s.siteBusy n then
      s.wr pGln GLN_BRD_CTL_REFUSED 1
    else s.wr pGln GLN_BRD_CTL_BUSY 1

def execBitmapReadoutStart (r : Requester) (v : Word) (s : State) : Host.Outcome State Fault Refusal :=
  .next (s.brdCtlWrite r v.toNat)

/-- Word k of a readout reaches host memory; a word that is not fitted reads as a free value (log entry 4). -/
def State.readoutWord (s : State) (k : Nat) : State :=
  let (port, d) := s.qdrPlace (s.rd pGln GLN_BRD_ADDR_W + k)
  let dst := s.rd pGln GLN_BRD_DSTH_DST * 2 ^ 32 + s.rd pGln GLN_BRD_DSTL_DST + 4 * k
  if s.qdrFitted port d then
    let (w, s1) := s.qdrRead port d
    let s2 := s1.dmaWrite dst (leBytes 4 w)
    if s.bit pGln GLN_BRD_CTL_CLR then s2.qdrWrite port d 0 else s2
  else
    let (x, s1) := s.draw
    s1.dmaWrite dst (leBytes 4 x)

/-- BITMAP_READOUT_DONE: the copy, made once every queued update has been written (R251). -/
def execBitmapReadoutDone (s : State) : Host.Outcome State Fault Refusal :=
  if s.bit pGln GLN_BRD_CTL_BUSY && s.gln.updates.isEmpty && s.hostOk && s.pageState pGln = 4 then
    let s1 := (List.range (s.rd pGln GLN_BRD_LEN_N)).foldl State.readoutWord s
    .next ((s1.wr pGln GLN_BRD_CTL_BUSY 0).wr pGln GLN_BRD_CTL_DONE 1)
  else .next s

/-! ### Reads of the 48-bit counts (R233) -/

/-- The counter and the place of the high word for a low-word offset of the GLN page. -/
def glnCountAt (off : Nat) : Option (Nat × Nat) :=
  if 0x1000 ≤ off ∧ off < 0x1A00 ∧ off % 8 = 0 then some (0x400 + (off - 0x1000) / 8, off + 4)
  else if 0x100 ≤ off ∧ off < 0x900 ∧ off % 0x40 = 0x1C then some (0x540 + (off - 0x100) / 0x40, off + 4)
  else if 0x100 ≤ off ∧ off < 0x900 ∧ off % 0x40 = 0x24 then some (0x560 + (off - 0x100) / 0x40, off + 4)
  else none

/-- A read of a register of the GLN page returns its value in `rdata`; a low word copies the high half of its count into
a shadow, and a high word uses the shadow up. -/
def State.glnRead (s : State) (off : Nat) : State :=
  let s1 := { s with rdata := s.readReg pGln off, gln := { s.gln with shadow := tabErase s.gln.shadow off } }
  match glnCountAt off with
  | some (id, hi) =>
    if s.pageState pGln = 4 then
      { s1 with gln := { s1.gln with shadow := tabInsert s1.gln.shadow hi (s.counter id / 2 ^ 32) } }
    else s1
  | none => s1

/-- COUNT_LOW_READ: which count is read: a channel's fail counter, or a site's GLN_SFV or GLN_SCV. -/
def execCountLowRead (c : GCount) (s : State) : Host.Outcome State Fault Refusal :=
  .next (s.glnRead (match c with
    | .fc ch => 0x1000 + 8 * ch
    | .sfv n => 0x11C + 0x40 * n
    | .scv n => 0x124 + 0x40 * n))

end Sys2Proof.Machine
end

