-- ==== Sys2Proof/Machine/Sites.lean ====
section
/-! DEFINITION. The running of sites: arming and launch, the vector stream and its boundaries, pauses, waits and host
jumps, rendezvous groups, site flags and trigger lines (chapters Sequencers and vector programs; Sites, pin maps and
alignment). -/

namespace Sys2Proof.Machine

open Reg

/-! ### Arming (R149, R152, R182, R183, R201, R203, R210, R533, R549) -/

/-- A host-fed stream's ring length is outside its limits (R201). -/
def State.ringBad (s : State) (n : Nat) : Bool :=
  s.hostFed n && (decide (s.rd pHop HOP_ITAB_ITAB n < 512) || decide (67108864 < s.rd pHop HOP_ITAB_ITAB n))

/-- Another part of the same span on this chip comes first (R182). -/
def State.extraPart (s : State) (n : Nat) : Bool :=
  s.inSpan n && (List.range n).any fun m => s.inSpan m && s.rd pClk SPAN_CFG_SPAN m = s.rd pClk SPAN_CFG_SPAN n

/-- The span of a part names an unreachable chip (R491). -/
def State.spanCut (s : State) (n : Nat) : Bool :=
  s.inSpan n && (List.range 16).any fun c =>
    tabGet 0 s.clk.spanParts (s.rd pClk SPAN_CFG_SPAN n * 16 + c) ≠ 0 && bitAt s.clk.unreachable c

/-- A start of the site is refused. -/
def State.startRefused (s : State) (n : Nat) : Bool :=
  s.pageBusy (pSq n) || !(s.mode = 3 || s.mode = 5 || s.mode = 7) || s.ringBad n || s.tap.extest
    || s.bit pSec SEC_KSTAT_ZBUSY
    || (s.inSpan n && !s.bit (pSq n) SQ_CFG_STARTMODE) || s.extraPart n || s.spanCut n

/-- The Hopper of a starting site: emptied, set to HOP_START, its underrun latches cleared (R203, R210). -/
def State.hopStart (s : State) (n : Nat) : State :=
  let s1 := (s.hopDiscard n).hopSeek n (s.rd pHop HOP_START_START n)
  let s2 := ((s1.wr pHop HOP_STAT_UNDER 0 n).wr pHop HOP_UVECL_VEC 0 n).wr pHop HOP_UVECH_VEC 0 n
  ((s2.wr pHop HOP_UBALE_UBALE 0 n).wr pHop HOP_UOFF_UOFF 0 n).wr3 pHop HOP_UTS0_TS HOP_UTS1_TS HOP_UTS2_TS 0 n

/-- A step that waits for SYNC is cancelled by an accepted start (R324). -/
def State.cancelStep (s : State) : State :=
  match s.time.step with
  | some (_, true) =>
    let s1 := { s with time := { s.time with step := none } }
    (s1.wr pTime TIME_STAT_SCANC 1).wr pTime TIME_STAT_STEPPEND 0
  | _ => s

/-- The sequencer of an armed site: everything of the last burst is gone but a held MARK item (R146). -/
def State.armedSq (s : State) (n : Nat) : SqOp :=
  { held := (s.sqo n).held, acceptAt := s.now, pc := s.rd (pSq n) SQ_START_ADDR }

/-- The first segment of the program that a start would begin. -/
def State.armedSeg (s : State) (n : Nat) : Option Seg := ((s.modSq n fun _ => s.armedSq n).firstSegOf n).1

/-- An accepted start arms the site. A first segment that names another bale than HOP_START moves the Hopper there, or
ends the arm where its index is rejected (R152, R204). -/
def State.arm (s : State) (n : Nat) : State :=
  let p := pSq n
  let s1 := ((s.wr p SQ_CAUSE_CAUSE 0).wr p SQ_CAUSE_ALSO 0).wr p SQ_CAUSE_CODE 0
  let s2 := ((s1.wr p SQ_STAT_STATE stArmed).wr p SQ_STAT_KEEPING 0).wr p SQ_CTL_HTRIG 0
  let s3 := s2.modSq n fun _ => s.armedSq n
  let s4 := ((((s3.hopStart n).glnStart n).cancelStep).followSites).tellExcused n (bitAt (s.rd pSilo SILO_SAFE_SAFE) n) s.now
  match s.armedSeg n with
  | some g =>
    if g.strm then
      match s4.hopReach n g.addr with
      | .inl s5 => s5
      | .inr reason => (s4.hopError n reason 0 g.addr true).endArm n 0x08 s.now
    else s4
  | none => s4

/-- START: accepted, or refused with SREF (R149). -/
def State.startSite (s : State) (n : Nat) : State :=
  if s.startRefused n then s.wr (pSq n) SQ_STAT_SREF 1 else s.arm n

/-! ### Launch (R133, R149, R183, R206, R599) -/

/-- The Hopper holds its start threshold from a bale onward (R206). -/
def State.thresholdMet (s : State) (n i : Nat) : Bool :=
  let bs := (s.hopo n).bales.filter fun b => decide (i ≤ b.idx)
  let fill := (bs.map (·.bytes)).sum
  let last := !s.hostFed n && (List.range (s.rd pHop HOP_NBALE_NBALE n - i)).all fun k => bs.any fun b => b.idx = i + k
  decide (s.rd pHop HOP_THR_START n * 1024 ≤ fill) || (!bs.isEmpty && last)

/-- The first two conditions of R149 hold once 512 fc have passed: the first segment's data are there. -/
def State.dataReady (s : State) (n : Nat) : Bool :=
  match (s.firstSegOf n).1 with
  | some g => !g.strm || s.thresholdMet n g.addr
  | none => true

/-- The instant D at which the start conditions hold, if they do (R133, R149, R183). -/
def State.launchAt (s : State) (n : Nat) : Option Nat :=
  let o := s.sqo n
  let base := o.acceptAt + 512 * fcG
  if s.inSpan n then
    let key := fun c => s.rd pClk SPAN_CFG_SPAN n * 16 + c
    let parts := (List.range 16).map fun c => tabGet 0 s.clk.spanParts (key c)
    let latest := parts.foldl (fun a v => max a (v - 2)) (o.spanReady - 1)
    match s.clk.lastSync with
    | some x => if o.spanReady ≠ 0 && !parts.contains 1 && decide (latest + 64 * fcG ≤ x) then some (fcCeil x) else none
    | none => none
  else if s.bit (pSq n) SQ_CFG_STARTMODE then
    match s.clk.lastSync with
    | some x => if base ≤ x then some (fcCeil (max x s.now)) else none
    | none => none
  else some (fcCeil (max s.now base))

/-- A channel of a starting site enters BURST with the state that IDLE_DRV gave it (R599). -/
def State.enterBurst (s : State) (c : Nat) : State :=
  let d := s.rd (pSh (c / 8)) CH_CTL_IDLE_DRV (c % 8)
  s.modCh c fun o => { o with
    burst := true, drv := d = 2 || d = 3, lvl := d = 3, dataVec := none, edges := [], last := [], drives := [],
    fails := [] }

/-- The burst starts at its burst start instant. -/
def State.launch (s : State) (n d : Nat) : State :=
  let t := if (s.firstSegOf n).2 then d + 8 * fcG else d
  let s1 := (s.advanceTo t).wr (pSq n) SQ_STAT_STATE stRun
  let s2 := (s1.wr (pSq n) SQ_STAT_FS 0).modSq n fun o => { o with startAt := t, next := t, lastStart := d }
  let s3 := (s2.channelsOf n).foldl State.enterBurst s2
  (s3.glnMark n 4 0 0 0 0 t).exportEvent 0 (recordBytes 4 n 0 0 0 0 0 (s3.stampAt t))

/-- LAUNCH. A part of a span first tells the other parts that its own conditions hold. -/
def execLaunch (n : Fin 32) (s : State) : Host.Outcome State Fault Refusal :=
  if s.sqState n ≠ stArmed || !s.dataReady n then .next s
  else if s.inSpan n && (s.sqo n).spanReady = 0 then
    let s1 := s.advanceTo ((s.sqo n).acceptAt + 512 * fcG)
    let s2 := s1.modSq n fun o => { o with spanReady := s1.now + 1 }
    .next (s2.spanTell n .ready s1.now)
  else match s.launchAt n with
    | some d => .next (s.launch n d)
    | none => .next s

/-! ### Rendezvous arrivals (R171, R176) -/

/-- A member starts its first keep-alive vector in its RDV and so arrives. -/
def State.arrive (s : State) (n g t : Nat) : State :=
  let bad := s.bit pClk RG_STAT_MISMATCH g || s.bit pClk RG_STAT_LINKLOST g
  let s1 := if bad then s.modSq n fun o => { o with wait := o.wait.map fun w => { w with forced := true } } else s
  if s.rgShared g then
    let chip := s.rd pClk GRP_CFG_CHIP_ID
    { s1.amlSend (.rdv g (.arrive (Fin.ofNat 32 n)) t) with
      clk := { s1.clk with arrivals := s1.clk.arrivals ++ [(g, (chip, n), t + 64 * fcG)] } }
  else s1.wrBit pClk RG_ARR_ARRIVED n true g

/-! ### The vector stream (R77, R117, R118, R208 to R211, R425) -/

/-- The SEG field of a vector's records: the address of its SEG word, and the open loop entries (R242). -/
def SqOp.segField (o : SqOp) : Nat := o.segPc % 2 ^ 24 + o.loops.length * 2 ^ 24

/-- A keep-alive vector starts (R118). -/
def State.keepAlive (s : State) (n : Nat) : State :=
  let o := s.sqo n
  let ts := if o.vec = 0 then 0 else o.lastTs
  let code := s.rd (pSq n) SQ_KEEPA_CODE
  let s0 := s.advanceTo o.next
  let s1 := s0.applyVector n ts o.segField (fun _ => code) false
  let s2 := s1.wr (pSq n) SQ_STAT_KEEPING 1
  let s3 := if o.wait.isSome then s2.wr (pSq n) SQ_STAT_STATE stWait
    else if o.paused then s2.wr (pSq n) SQ_STAT_STATE stPaused else s2
  let s4 := s3.count (8 * n + if s3.sqState n = stWait ∨ s3.sqState n = stPaused then 3 else 2)
  match o.wait with
  | none => s4
  | some w =>
    let s5 := s4.modSq n fun o => { o with wait := o.wait.map fun w => { w with count := w.count + 1 } }
    match w.kind with
    | .rdv g => if w.count = 0 && w.released.isNone then s5.arrive n g o.next else s5
    | _ => s5

/-- The timing set of the next program vector: that of its pair's first vector, the override, or its control byte's
index; and whether the second vector of a pair carries another index (R96, R97, R122). -/
def SqOp.vectorTs (o : SqOp) (ctrl : Nat) : Nat × Bool :=
  let first : Bool := match o.seg with | some g => g.pos = 0 | none => false
  let idx := (overrideOf (if first then afterTsets o else o)).getD (ctrl % 64)
  match o.pairTs with
  | some t => (t, t ≠ idx)
  | none => (idx, false)

/-- ODDSW is set on every sheaf of the site (R97). -/
def State.oddSwitch (s : State) (n : Nat) : State :=
  (((s.channelsOf n).map (· / 8)).eraseDups).foldl (fun s k => s.wr (pSh k) SH_TSTAT_ODDSW 1) s

/-- A program vector starts: the waiting words act at the first vector of a segment, and the vector is applied (R115). -/
def State.programVector (s : State) (n ctrl : Nat) (code : Nat → Nat) (g : Seg) : State :=
  let o := s.sqo n
  let (ts, odd) := o.vectorTs ctrl
  let s0 := s.advanceTo o.next
  let s1 := if g.pos = 0 then s0.doActs n o.vec ts o.segField o.next else s0
  let s2 := if odd then s1.oddSwitch n else s1
  let s3 := s2.applyVector n ts o.segField code (!bitAt ctrl 6)
  let s4 := if o.jvec then s3.wr (pSq n) SQ_JVEC_VEC (o.vec % 2 ^ 32) else s3
  let s5 := s4.modSq n fun o => { o with
    seg := some { g with pos := g.pos + 1 }, atBoundary := false, jumped := false, jvec := false, under := false }
  ((s5.wr (pSq n) SQ_STAT_STATE stRun).wr (pSq n) SQ_STAT_KEEPING 0).count (8 * n)

/-- The first underrun of a burst is latched (R210). -/
def State.latchUnder (s : State) (n off : Nat) : State :=
  let o := s.sqo n
  if o.underSeen then s
  else
    let s1 := ((s.wr pHop HOP_STAT_UNDER 1 n).wr pHop HOP_UVECL_VEC (o.vec % 2 ^ 32) n).wr pHop HOP_UVECH_VEC (o.vec / 2 ^ 32) n
    let s2 := ((s1.wr pHop HOP_UBALE_UBALE (s.hopPos n) n).wr pHop HOP_UOFF_UOFF off n).wr3 pHop HOP_UTS0_TS HOP_UTS1_TS
      HOP_UTS2_TS (s.stampAt o.next) n
    s2.modSq n fun o => { o with underSeen := true }

/-- An underrun vector: replaced by a keep-alive vector, or the end of the burst (R208, R209). -/
def State.underrun (s : State) (n : Nat) : State :=
  let o := s.sqo n
  let off := (s.hopo n).vpos
  let s1 := s.latchUnder n off
  if s.bit (pSq n) SQ_CFG_UPOL then s1.endNext n 0x06 0
  else
    let m : UMark := { site := n, vec := o.vec, bale := s.hopPos n, off := off, t := o.next,
                       tset := if o.vec = 0 then 0 else o.lastTs, seg := o.segField }
    let s2 := if o.under then s1 else
      let s3 := (s1.satAdd pHop HOP_UCNT_UCNT 1 n).modSq n fun o => { o with under := true }
      { s3 with gln := { s3.gln with marks := s3.gln.marks ++ [m] } }
    (s2.satAdd pHop HOP_KCNT_KCNT 1 n).keepAlive n

/-- The vector is looked for in its bale. -/
def State.streamBale (s : State) (n : Nat) (g : Seg) (i v : Nat) : State :=
  match s.baleAt n i with
  | none =>
    if !s.hostFed n && decide (s.rd pHop HOP_NBALE_NBALE n ≤ i) then (s.hopError n 11 0 i true).endNext n 0x08 0
    else s.underrun n
  | some b =>
    match b.vecAccess v with
    | .bad lane reason => (s.hopError n reason lane i true).endNext n 0x08 0
    | .under => s.underrun n
    | .ok =>
      if (s.sqo n).next < b.usable + 4 * fcG then s.underrun n
      else
        let s1 := s.programVector n (b.ctrl v) (b.code v) g
        let s2 := s1.modHop n fun h => { h with vpos := v + 1 }
        if v + 1 = b.nv || g.pos + 1 = g.nvec then s2.hopRelease n else s2

/-- A streamed vector: applied, an underrun, or the end of the burst for a stream error (R200, R202, R205, R211, R223). -/
def State.streamVector (s : State) (n : Nat) (g : Seg) : State :=
  let i := s.hopPos n
  let v := (s.hopo n).vpos
  match (s.hopo n).failed with
  | some (fi, _) =>
    if fi = i && (s.baleAt n i).isNone then (s.wr pHop HOP_ERR_USED 1 n).endNext n 0x08 0
    else s.streamBale n g i v
  | none => s.streamBale n g i v

/-- A resident vector: applied, or the end of the burst (R194, R198, R199). -/
def State.residentVector (s : State) (n : Nat) (g : Seg) : State :=
  let v := g.addr + g.pos
  match s.vecAccess n v with
  | .addr => s.endNext n 0x0A 0
  | .isolated => s.endNext n 0x04 0
  | .ue w => (s.granError w).endNext n 0x08 0
  | .ok =>
    let s1 := (s.newWords n v g.pos).foldl (fun s w => s.touch n w) s
    s1.programVector n (s.resCtrl n v) (s.resCode n v) g

/-- No vector is decoded at a vector start: the program word cannot be read, or the front end starves (R117, R120, R199). -/
def State.noVector (s : State) (n : Nat) : State :=
  match s.progAccess n (s.sqo n).pc with
  | .addr => (s.wr (pSq n) SQ_PC_ADDR (s.sqo n).pc).endNext n 0x0A 0
  | .isolated => (s.wr (pSq n) SQ_PC_ADDR (s.sqo n).pc).endNext n 0x04 0
  | _ => if s.bit (pSq n) SQ_CFG_UPOL then s.endNext n 0x07 0 else s.keepAlive n

/-- SQ_STAT.FS after a watch that was decided without effect. -/
def State.noteWatch (s : State) (n : Nat) : State :=
  match (s.sqo n).watch, (s.sqo n).seg with
  | some w, some g => if g.pos = 0 || s.bit (pSq n) SQ_STAT_KEEPING then s else s.noteFs n w.op
  | _, _ => s

/-! ### Segment boundaries (R114, R135, R139 to R141, R146, R155, R227) -/

/-- The site's blocks of staged fields that apply at its boundaries: its sequencer page and its block of the HOP page. -/
def State.commitAtBoundary (s : State) (n : Nat) : State :=
  let s1 := if s.bit (pSq n) PAGE_COMMIT_PEND then s.commitAll (pSq n) else s
  if s1.bit pHop PAGE_COMMIT_PEND then s1.hopCommit (· = n) else s1

/-- The end of a pass of a MATCH body (R139 to R141). -/
def State.passEnd (s : State) (n : Nat) (m : Match) (g : Seg) : State :=
  let s0 := s.count (8 * n + 7)
  let j := m.pass
  let again := s0.modSq n fun o => { o with
    mtch := some { m with pass := j + 1 }, seg := some { g with pos := 0 }, inst := o.inst + 1 }
  let done := fun (s : State) (late : Nat) => ((s.wr (pSq n) SQ_MSTAT_PASSES j).wr (pSq n) SQ_MSTAT_TO late).modSq n fun o =>
    { o with mtch := none, seg := none, tsSeg := none, watch := none }
  if j < 2 then again
  else if s.passLate n (j - 1) then s0.endNext n 0x0E 0
  else if tabGet 0 (s.sqo n).passRes (j - 1) = 1 then done s0 0
  else if j ≤ m.n then again
  else
    let s1 := done s0 1
    if m.toact = 0 then s1.modSq n fun o => { o with forced := true }
    else if m.toact = 1 then (s1.takeJump n m.target).modSq n fun o => { o with jumped := true }
    else s1.endNext n 0x0F 0

/-- The end of a segment without a jump. -/
def State.segEnd (s : State) (n : Nat) : State :=
  s.modSq n fun o => { o with seg := none, watch := none, tsSeg := none, jumped := false }

/-- What the boundary decides: the end of a pass, a watch that ends the segment, or the end of the segment. -/
def State.decideBoundary (s : State) (n : Nat) (g : Seg) : State :=
  match s.watchVerdict n with
  | .late => s.endNext n 0x0E 0
  | .yes =>
    match (s.sqo n).watch with
    | some w => ((s.noteFs n w.op).takeJump n w.target).modSq n fun o => { o with jumped := true }
    | none => s
  | .no =>
    match (s.sqo n).mtch with
    | some m => s.passEnd n m g
    | none => (s.noteWatch n).segEnd n

/-- A boundary of a site that goes on: staged fields, HOLDPAUSE, a host jump that passes it (R114, R146, R155). -/
def State.afterBoundary (s : State) (n : Nat) : State :=
  if !s.sqRunning n then s
  else
    let o := s.sqo n
    let s1 := (s.commitAtBoundary n).modSq n fun o => { o with atBoundary := true }
    let late := match o.hjump with | some (_, acc) => !o.ripe acc | none => false
    let s2 := if late then s1.modSq n fun o => { o with hjumpPassed := true } else s1
    if s.bit (pSq n) SQ_CFG_HOLDPAUSE && o.held.isSome then s2.modSq n fun o => { o with paused := true, heldPause := true }
    else s2

/-- The boundary that is due is decided, 8 fc before the next vector start. -/
def State.boundary (s : State) (n : Nat) : State :=
  match (s.sqo n).seg with
  | some g => ((s.advanceTo ((s.sqo n).next - 8 * fcG)).decideBoundary n g).afterBoundary n
  | none => s

/-- SEGMENT_BOUNDARY. -/
def execSegmentBoundary (n : Fin 32) (s : State) : Host.Outcome State Fault Refusal :=
  .next (if s.sqRunning n && s.boundaryDue n then s.boundary n else s)

/-- The next vector of a running site starts; a boundary that is due is decided in its place, with the watch or the
MATCH pass of it (R135, R139). -/
def State.vectorStart (s : State) (n : Nat) : State :=
  let o := s.sqo n
  if !s.sqRunning n then s
  else if s.boundaryDue n then s.boundary n
  else if s.held n then s
  else if o.wait.isSome || o.paused then s.keepAlive n
  else match o.seg with
    | none => s.noVector n
    | some g => let s1 := s.noteWatch n; if g.strm then s1.streamVector n g else s1.residentVector n g

/-- VECTOR_START. -/
def execVectorStart (n : Fin 32) (s : State) : Host.Outcome State Fault Refusal := .next (s.vectorStart n)

/-! ### Requests of the host (R142, R150, R151, R154 to R157, R185) -/

/-- The acceptance instant of a request to a span's lead is 64 fc later (R185). -/
def State.acceptance (s : State) (n : Nat) : Nat := if s.inSpan n then s.now + 64 * fcG else s.now

/-- A pause is requested, accepted at `acc` (R150). -/
def State.takePause (s : State) (n acc : Nat) : State :=
  let o := s.sqo n
  if !s.sqRunning n || o.paused || o.pauseReq.isSome then s else s.modSq n fun o => { o with pauseReq := some acc }

/-- A resume is requested, accepted at `acc` (R150). -/
def State.takeResume (s : State) (n acc : Nat) : State :=
  let o := s.sqo n
  if !o.paused || o.resumeReq.isSome then s else s.modSq n fun o => { o with resumeReq := some acc }

/-- A request written to a part that is not the lead has no effect (R185). -/
def State.spanDeaf (s : State) (n : Nat) : Bool := s.inSpan n && !s.isLead n

/-- ABORT; a program that ends the burst after the same vector coincides with it (R151, R152, R158). -/
def State.abortSite (s : State) (n : Nat) : State :=
  if s.sqRunning n then
    let s1 := s.endNext n 2 0
    if s.endsHere n then s1.wr (pSq n) SQ_CAUSE_ALSO 1 else s1
  else if s.sqState n = stArmed then s.endArm n 2 s.now
  else s

/-- HTRIG: the HOST trigger becomes active, or releases a WAITT on HOST, which consumes it (R142, R143). -/
def State.hostTrigger (s : State) (n : Nat) : State :=
  match (s.sqo n).wait with
  | some w =>
    if w.released.isNone && (match w.kind with | .trig 0x20 _ => true | _ => false) then
      (s.modSq n fun o => { o with wait := some { w with released := some s.now } }).wr (pSq n) SQ_CTL_HTRIG 0
    else s.wr (pSq n) SQ_CTL_HTRIG 1
  | none => s.wr (pSq n) SQ_CTL_HTRIG 1

/-- A write of SQ_CTL: each bit written 1 acts. -/
def State.sqCtlWrite (s : State) (r : Requester) (n word : Nat) : State :=
  s.writeWith r (pSq n) 0x40 word fun s =>
    let s1 := if bitAt word 0 then s.startSite n else s
    let s2 := if bitAt word 1 && !s1.spanDeaf n then (s1.takePause n (s1.acceptance n)).spanTell n .pause s1.now else s1
    let s3 := if bitAt word 2 && !s2.spanDeaf n then (s2.takeResume n (s2.acceptance n)).spanTell n .resume s2.now else s2
    let s4 := if bitAt word 3 then s3.abortSite n else s3
    if bitAt word 4 then s4.hostTrigger n else s4

def execSqCtlStart (r : Requester) (n : Fin 32) (s : State) : Host.Outcome State Fault Refusal :=
  .next (s.sqCtlWrite r n 1)

def execSqCtlPause (r : Requester) (n : Fin 32) (s : State) : Host.Outcome State Fault Refusal :=
  .next (s.sqCtlWrite r n 2)

def execSqCtlResume (r : Requester) (n : Fin 32) (s : State) : Host.Outcome State Fault Refusal :=
  .next (s.sqCtlWrite r n 4)

def execSqCtlAbort (r : Requester) (n : Fin 32) (s : State) : Host.Outcome State Fault Refusal :=
  .next (s.sqCtlWrite r n 8)

def execSqCtlHtrig (r : Requester) (n : Fin 32) (s : State) : Host.Outcome State Fault Refusal :=
  .next (s.sqCtlWrite r n 16)

/-- A host jump is requested, accepted at `acc`; it replaces a pending one (R154, R156). -/
def State.takeHjump (s : State) (n target acc : Nat) : State :=
  let s1 := if (s.sqo n).hjump.isSome then s.wr (pSq n) SQ_JSTAT_REPL 1 else s
  s1.modSq n fun o => { o with hjump := some (target, acc), hjumpPassed := o.betweenSegments }

/-- A write of SQ_HJMP (R152, R154, R156, R185). -/
def State.hjmpWrite (s : State) (r : Requester) (n word : Nat) : State :=
  s.writeWith r (pSq n) 0x5C word fun s =>
    let target := bitsAt word 0 24
    if !s.sqRunning n || s.spanDeaf n then s.wr (pSq n) SQ_JSTAT_REFUSED 1
    else (s.takeHjump n target (s.acceptance n)).spanTell n (.hjump target) s.now

def execSqHjmpWrite (r : Requester) (n : Fin 32) (v : Word) (s : State) : Host.Outcome State Fault Refusal :=
  .next (s.hjmpWrite r n v.toNat)

/-- PAUSE: the site pauses at its due boundary; STATE shows it with the first keep-alive vector (R150). -/
def execPauseApply (n : Fin 32) (s : State) : Host.Outcome State Fault Refusal :=
  if s.sqRunning n && (s.sqo n).pauseDue then
    .next ((s.advanceTo ((s.sqo n).next - 8 * fcG)).modSq n fun o =>
      { o with paused := true, heldPause := false, pauseReq := none })
  else .next s

/-- RESUME: the paused site resumes at a keep-alive boundary (R146, R150). -/
def execResumeApply (n : Fin 32) (s : State) : Host.Outcome State Fault Refusal :=
  if s.sqRunning n && (s.sqo n).resumeDue then
    .next ((s.advanceTo ((s.sqo n).next - 8 * fcG)).modSq n fun o =>
      { o with paused := false, heldPause := false, resumeReq := none })
  else .next s

/-- The host jump applies at its boundary and ends a pause: the next vector applied is the target's first (R154, R157,
R173). -/
def State.applyHjump (s : State) (n target : Nat) : State :=
  let o := s.sqo n
  let s0 := s.advanceTo (o.next - 8 * fcG)
  let s1 := if o.jumped then s0.wr (pSq n) SQ_JSTAT_OVR 1 else s0
  let s2 := ((s1.takeJump n target).wr (pSq n) SQ_JSTAT_APPLIED 1).withdraw n
  let s3 := if o.hjumpPassed then s2.wr (pSq n) SQ_JSTAT_DEFER 1 else s2
  s3.modSq n fun o => { o with
    loops := [], calls := [], wait := none, mtch := none, matchNext := none, watchNext := none, hjump := none,
    hjumpPassed := false, jvec := true, paused := false, heldPause := false, resumeReq := none }

/-- HJUMP. -/
def execHjumpApply (n : Fin 32) (s : State) : Host.Outcome State Fault Refusal :=
  match (s.sqo n).hjump with
  | some (target, _) => if s.sqRunning n && (s.sqo n).hjumpDue then .next (s.applyHjump n target) else .next s
  | none => .next s

/-! ### The end of waits (R142 to R144, R173 to R175) -/

/-- WAIT_RESUME: a released site goes on at a keep-alive boundary at least 32 fc after its release. -/
def execWaitResume (n : Fin 32) (s : State) : Host.Outcome State Fault Refusal :=
  if s.sqRunning n && (s.sqo n).releaseDue then
    .next ((s.advanceTo ((s.sqo n).next - 8 * fcG)).modSq n fun o => { o with wait := none })
  else .next s

/-- The timeout action of a wait: CONT goes on after the word, END ends the burst with the cause. -/
def State.waitTimeout (s : State) (n : Nat) (w : Wait) (cause : Nat) : State :=
  let s1 := s.withdraw n
  if w.toact = 2 then s1.endNext n cause 0
  else (s1.advanceTo ((s.sqo n).next - w.kind.lead)).modSq n fun o => { o with wait := none }

/-- WAITT_TIMEOUT. -/
def execWaittTimeout (n : Fin 32) (s : State) : Host.Outcome State Fault Refusal :=
  match (s.sqo n).wait with
  | some w =>
    match w.kind with
    | .trig _ _ => if s.sqRunning n && (s.sqo n).timeoutDue then .next (s.waitTimeout n w 0x11) else .next s
    | _ => .next s
  | none => .next s

/-- The local members of a group, as a test. -/
def State.rgMember (s : State) (g n : Nat) : Bool := bitAt (s.rd pClk RG_MEM_RG_MEM g) n

/-- A local member is excused: IDLE or ENDING, in its safe state, or of an isolated sequencer group (R172). -/
def State.excused (s : State) (n : Nat) : Bool :=
  s.sqState n = stIdle || s.sqState n = stEnding || bitAt (s.rd pSilo SILO_SAFE_SAFE) n || (s.pageo (pSq n)).iso

/-- A local member has arrived: applied, or on its way through a shared group. -/
def State.hasArrived (s : State) (g n : Nat) : Bool :=
  bitAt (s.rd pClk RG_ARR_ARRIVED g) n ||
    s.clk.arrivals.any fun a => a.1 = g && a.2.1 = (s.rd pClk GRP_CFG_CHIP_ID, n)

/-- The chips of other parts of a shared group. -/
def State.rgOthers (s : State) (g : Nat) : List Nat :=
  if s.rgShared g then (List.range 16).filter fun c => c ≠ s.rd pClk GRP_CFG_CHIP_ID && bitAt (s.rd pClk RG_CHIPS_RG_CHIPS g) c
  else []

/-- A member of another chip has arrived. -/
def State.remArrivedAt (s : State) (g c n : Nat) : Bool :=
  bitAt (tabGet 0 s.clk.remArrived (g * 16 + c)) n || s.clk.arrivals.any fun a => a.1 = g && a.2.1 = (c, n)

/-- Members of a group as (chip, site), this chip's included. -/
def State.rgMembers (s : State) (g : Nat) : List (Nat × Nat) :=
  let me := s.rd pClk GRP_CFG_CHIP_ID
  ((List.range 32).filter (s.rgMember g)).map (fun n => (me, n)) ++
    (s.rgOthers g).flatMap fun c => ((List.range 32).filter fun n => bitAt (tabGet 0 s.clk.remMembers (g * 16 + c)) n).map fun n => (c, n)

/-- A member has arrived. -/
def State.memArrived (s : State) (g : Nat) (m : Nat × Nat) : Bool :=
  if m.1 = s.rd pClk GRP_CFG_CHIP_ID then s.hasArrived g m.2 else s.remArrivedAt g m.1 m.2

/-- A member is excused. -/
def State.memExcused (s : State) (g : Nat) (m : Nat × Nat) : Bool :=
  if m.1 = s.rd pClk GRP_CFG_CHIP_ID then s.excused m.2 else bitAt (tabGet 0 s.clk.remExcused (g * 16 + m.1)) m.2

/-- The group's release condition (R172). -/
def State.rgReady (s : State) (g : Nat) : Bool :=
  let ms := s.rgMembers g
  (ms.any fun m => s.memArrived g m) && ms.all fun m => s.memArrived g m || s.memExcused g m

/-- RDV_TIMEOUT; a release in the same cycle comes first (R175). -/
def execRdvTimeout (n : Fin 32) (s : State) : Host.Outcome State Fault Refusal :=
  match (s.sqo n).wait with
  | some w =>
    let due := s.sqRunning n && (s.sqo n).timeoutDue
    match w.kind with
    | .rdv g => if due && !(s.rgReady g && !w.forced) then .next (s.waitTimeout n w 0x12) else .next s
    | .sync => if due then .next (s.waitTimeout n w 0x12) else .next s
    | .trig _ _ => .next s
  | none => .next s

/-- Every site that waits on what a test names, and is not released yet, is released at t. -/
def State.releaseWaits (s : State) (t : Nat) (sel : Nat → WaitKind → Bool) : State :=
  (List.range 32).foldl (fun s n => match (s.sqo n).wait with
    | some w => if w.released.isNone && sel n w.kind then
        s.modSq n fun o => { o with wait := some { w with released := some t } } else s
    | none => s) s

/-- A group releases all its arrived members at one instant (R172). -/
def State.rgRelease (s : State) (g : Nat) : State :=
  let t := (s.clk.arrivals.filter fun a => a.1 = g).foldl (fun t a => max t a.2.2) s.now
  let s1 := (s.advanceTo t).releaseWaits t fun n k => k = .rdv g && s.hasArrived g n
  let s2 := s1.wr pClk RG_ARR_ARRIVED 0 g
  { s2 with clk := { s2.clk with
    arrivals := s2.clk.arrivals.filter fun a => a.1 ≠ g,
    remArrived := tabDrop s2.clk.remArrived fun k => k / 16 = g } }

/-- RENDEZVOUS_RELEASE. -/
def execRendezvousRelease (g : Fin 16) (s : State) : Host.Outcome State Fault Refusal :=
  .next (if s.rgReady g then s.rgRelease g else s)

/-- The waiting members of all chips: (chip, site) with the group they wait on (R174). -/
def State.rgWaiting (s : State) : List ((Nat × Nat) × Nat) :=
  (List.range 16).flatMap fun g => ((s.rgMembers g).filter fun m => s.memArrived g m && !s.memExcused g m).map fun m => (m, g)

/-- One refinement of a candidate stall: a member stays while the missing members of its group all belong to the set. -/
def State.stallRefine (s : State) (w : List ((Nat × Nat) × Nat)) : List ((Nat × Nat) × Nat) :=
  w.filter fun x => (s.rgMembers x.2).all fun m =>
    s.memArrived x.2 m || s.memExcused x.2 m || w.any fun y => y.1 = m

/-- The largest stall (R174). -/
def State.stallSet (s : State) : List ((Nat × Nat) × Nat) :=
  let w := s.rgWaiting.filter fun x => !s.rgReady x.2
  (List.range w.length).foldl (fun w _ => s.stallRefine w) w

/-- RENDEZVOUS_STALL: each site of the stall will take its RDV timeout action, and STALL is set on each group. -/
def execRendezvousStall (s : State) : Host.Outcome State Fault Refusal :=
  let w := s.stallSet
  let me := s.rd pClk GRP_CFG_CHIP_ID
  .next (w.foldl (fun s x =>
    let s1 := s.wr pClk RG_STAT_STALL 1 x.2
    if x.1.1 = me then s1.modSq x.1.2 fun o => { o with wait := o.wait.map fun k => { k with forced := true } } else s1) s)

/-! ### The end of a burst (R153, R598) -/

/-- A channel of the site has an event to come, or a result of it is on its way. -/
def State.draining (s : State) (n : Nat) : Bool :=
  ((List.range 320).any fun c => (s.chan c).edges.any fun e => e.site = n) || s.results.any fun r => r.site = n

/-- The ended burst becomes IDLE: its END record is written and its entry exported. -/
def State.drain (s : State) (n : Nat) : State :=
  let o := s.sqo n
  let p := pSq n
  let data := endData (s.rd p SQ_CAUSE_CAUSE) (s.rd p SQ_CAUSE_CODE)
  let s1 := (s.endVectors n (s.glnSite n).acc).wr p SQ_STAT_STATE stIdle
  let s2 := s1.glnMark n 5 0 o.vec data 0 o.endAt
  (s2.exportEvent 0 (recordBytes 5 n 0 0 o.vec data 0 (s.stampAt o.endAt))).burstDone n

/-- DRAIN. -/
def execDrain (n : Fin 32) (s : State) : Host.Outcome State Fault Refusal :=
  .next (if s.sqState n = stEnding && !s.draining n then s.drain n else s)

/-! ### Site flags and trigger lines (R166 to R170, R181) -/

/-- The rank of a requester's flag changes within a chip (R170). -/
def requesterRank : Requester → Nat
  | .brewer _ => 33
  | _ => 32

/-- A write of SF_SETi or SF_CLRi: every bit written 1 changes its flag. -/
def State.flagWrite (s : State) (r : Requester) (i op word : Nat) : State :=
  let off := (if op = 1 then 0x108 else 0x110) + 4 * i
  s.writeWith r pClk off word fun s =>
    (setBits word 32).foldl (fun s k => s.changeFlag (32 * i + k) op s.now none (requesterRank r)) s

def execSiteFlagSet (r : Requester) (i : Fin 2) (v : Word) (s : State) : Host.Outcome State Fault Refusal :=
  .next (s.flagWrite r i 1 v.toNat)

def execSiteFlagClear (r : Requester) (i : Fin 2) (v : Word) (s : State) : Host.Outcome State Fault Refusal :=
  .next (s.flagWrite r i 0 v.toNat)

/-- The order of changes: field cycle, other chips before this one, chip, rank (R170). -/
def sharedBefore (me : Nat) (a b : SharedEvent) : Bool :=
  let key := fun (e : SharedEvent) => ((e.t / fcG * 2 + b2n (e.chip = me)) * 16 + e.chip) * 64 + e.rank
  decide (key a < key b)

/-- The shared change or pulse that applies first. -/
def firstShared (me : Nat) : List SharedEvent → Option SharedEvent
  | [] => none
  | e :: es => match firstShared me es with
    | none => some e
    | some x => if sharedBefore me x e then some x else some e

/-- A shared flag change is applied at its instant. -/
def State.applyFlag (s : State) (e : SharedEvent) : State :=
  let s1 := s.advanceTo e.t
  let v := flagOp e.op (s1.flag e.idx)
  let s2 := { s1 with clk := { s1.clk with sharedFlags := s1.clk.sharedFlags.erase e } }
  (s2.putFlag e.idx v).logFlag { flag := e.idx, val := v, t := e.t, site := none, shared := true }

/-- SHARED_FLAG_APPLY. -/
def execSharedFlagApply (s : State) : Host.Outcome State Fault Refusal :=
  match firstShared (s.rd pClk GRP_CFG_CHIP_ID) s.clk.sharedFlags with
  | some e => .next (s.applyFlag e)
  | none => .next s

/-- A write of AT_PULSE: every bit written 1 pulses its line. -/
def State.atPulseWrite (s : State) (r : Requester) (word : Nat) : State :=
  s.writeWith r pClk 0x1C8 word fun s => (setBits word 16).foldl (fun s k => s.raiseAt k s.now) s

def execAtPulse (r : Requester) (v : Word) (s : State) : Host.Outcome State Fault Refusal :=
  .next (s.atPulseWrite r v.toNat)

/-- A pulse is applied: pulses of the line in the same field cycle merge, and sites that wait on the line are released
at the instant of application (R143, R181). -/
def State.applyAt (s : State) (e : SharedEvent) : State :=
  let s0 := s.advanceTo e.t
  let d := s0.delay64
  let s1 := s0.draw.2
  let s2 := { s1 with
    clk := { s1.clk with
      atPulses := s1.clk.atPulses.filter fun x => !(x.idx = e.idx && x.t / fcG = e.t / fcG),
      atLast := tabInsert s1.clk.atLast e.idx e.t },
    scan := { s1.scan with trigs := s1.scan.trigs ++ [(0x10 + e.idx, e.t + d)] } }
  (s2.acqEvent (0x50 + e.idx) e.t).releaseWaits e.t fun _ k =>
    match k with | .trig src _ => src = 0x10 + e.idx | _ => false

/-- AT_LINE_APPLY. -/
def execAtLineApply (s : State) : Host.Outcome State Fault Refusal :=
  match firstShared (s.rd pClk GRP_CFG_CHIP_ID) s.clk.atPulses with
  | some e => .next (s.applyAt e)
  | none => .next s

end Sys2Proof.Machine
end

