-- ==== Sys2Proof/Machine/Time.lean ====
section
/-! DEFINITION. The time base: its reading, its steps and discontinuity records, the rate servo, holdover, and the time
of a chip group (chapter Time base, PTP and time-stamps; R438). -/

namespace Sys2Proof.Machine

open Reg

/-! ### The rate (R319, R331) -/

/-- The time scale goes on from field cycle `k` with a time at its start and an increment. -/
def State.newPiece (s : State) (k tb inc : Nat) : State :=
  { s with time := { s.time with pieces := { k := k, tb := tb, inc := inc } :: s.time.pieces } }

/-- The time at the start of a field cycle, in 2^-48 ns. -/
def State.unitsAt (s : State) (k : Nat) : Nat := s.timeUnits (k * fcG)

/-- The adj registers. -/
def State.putAdj (s : State) (a : Int) : State :=
  let v := ofSigned 40 a
  (s.wr pTime TIME_ADJ0_ADJ v).wr pTime TIME_ADJ1_ADJ (v / 2 ^ 32)

/-- The adj in force from field cycle `k` on. -/
def State.setAdj (s : State) (a : Int) (k : Nat) : State :=
  (s.newPiece k (s.unitsAt k) (incNom + a).toNat).putAdj a

/-- A new adj: in force in the next field cycle, or sent to the group on a LEAD chip (R325, R331). -/
def State.newAdj (s : State) (a : Int) : State :=
  if s.rd pTime TIME_CFG_ROLE = 1 then
    let t := s.now + 64 * fcG
    { s.amlSend (.adj a t) with time := { s.time with adjQ := s.time.adjQ ++ [(a, t)] } }
  else s.setAdj a (s.now / fcG + 1)

/-- SHARED_ADJ_APPLY: the oldest shared adj reaches its application instant (R331). -/
def State.applySharedAdj (s : State) (a : Int) (t : Nat) (rest : List (Int × Nat)) : State :=
  let s1 := s.advanceTo t
  { s1 with time := { s1.time with adjQ := rest } }.setAdj a (t / fcG)

def execSharedAdjApply (s : State) : Host.Outcome State Fault Refusal :=
  match s.time.adjQ with
  | (a, t) :: rest => .next (s.applySharedAdj a t rest)
  | [] => .next s

/-! ### Reading (R320) -/

/-- A read of TIME_NOW0: the time of the field cycle, with bits [95:32] copied to the shadow. -/
def State.readNow (s : State) : State :=
  let t := s.stampAt (s.now / fcG * fcG)
  if s.pageState pTime ≠ 4 then { s with rdata := 0 }
  else { s with rdata := t % 2 ^ 32, time := { s.time with shadow := t / 2 ^ 32 } }

def execTimeNowRead (s : State) : Host.Outcome State Fault Refusal :=
  .next (if s.pageState pTime = 4 then s.readNow else { s with rdata := 0 })

/-! ### Holdover (R327 to R329, R340) -/

/-- A HOLD event (R340). -/
def State.holdEvent (s : State) (cause dir : Nat) : State :=
  s.exportEvent 5 (recordBytes 0x14 0 0 0 0 (cause + 256 * dir) 0 (s.stampAt s.now))

/-- Holdover is entered with a cause; while it is in force only the cause is replaced (R327). -/
def State.enterHold (s : State) (cause : Nat) : State :=
  if s.bit pTime TIME_STAT_HOLDOVER then s.wr pTime TIME_STAT_HCAUSE cause
  else
    let s1 := (s.wr pTime TIME_STAT_HOLDOVER 1).wr pTime TIME_STAT_HCAUSE cause
    let s2 := { s1 with time := { s1.time with holdFrom := s1.now } }
    ((s2.count 0x383).holdEvent cause 1).raiseCause 21

/-- Holdover ends. -/
def State.leaveHold (s : State) : State :=
  if s.bit pTime TIME_STAT_HOLDOVER then
    let c := s.rd pTime TIME_STAT_HCAUSE
    (((s.wr pTime TIME_STAT_HOLDOVER 0).wr pTime TIME_STAT_HCAUSE 0).holdEvent c 0).raiseCause 21
  else s

/-- TIME_STAT.DISC is set (R474). -/
def State.setDisc (s : State) : State := (s.wr pTime TIME_STAT_DISC 1).raiseCause 21

/-- WATCHDOG_EXPIRE: in SERVO mode, after the initial step, with a watchdog set (R327). -/
def execWatchdogExpire (s : State) : Host.Outcome State Fault Refusal :=
  .next (if !s.bit pTime TIME_CFG_SMODE && s.bit pTime TIME_STAT_STEPPED && s.rd pTime TIME_WDOG_WDOG ≠ 0
    then s.enterHold 3 else s)

/-! ### Discontinuities (R321 to R324, R341, R438) -/

/-- The signed change in TIME_DLT, in 2^-16 ns (R321). -/
def State.stepValue (s : State) : Int :=
  toSigned 64 (s.rd pTime TIME_DLT1_DNS + s.rd pTime TIME_DLT2_DNS * 2 ^ 32) * 65536 + (s.rd pTime TIME_DLT0_DFRAC : Nat)

/-- The bytes of a discontinuity record (R341). -/
def discBytes (epoch kind : Nat) (delta : Int) (ts : Nat) : List Byte :=
  leBytes 4 0x13 ++ leBytes 2 epoch ++ leBytes 2 kind ++ leBytes 8 (ofSigned 64 (delta / 65536))
    ++ leBytes 4 (delta % 65536).toNat ++ leBytes 12 ts

/-- The eight words of a log entry. -/
def State.putDlog (s : State) (d : Nat) (bs : List Byte) : State :=
  let w := fun k => leNat ((bs.drop (4 * k)).take 4)
  let s1 := (((s.wr pTime TIME_DLOG0_W (w 0) d).wr pTime TIME_DLOG1_W (w 1) d).wr pTime TIME_DLOG2_W (w 2) d).wr pTime
    TIME_DLOG3_W (w 3) d
  (((s1.wr pTime TIME_DLOG4_W (w 4) d).wr pTime TIME_DLOG5_W (w 5) d).wr pTime TIME_DLOG6_W (w 6) d).wr pTime TIME_DLOG7_W
    (w 7) d

/-- A step cancels a pending demanded snapshot, and periodic instants start anew 1 µs later (R438). -/
def State.stepSnapshots (s : State) : State :=
  let s1 := if s.cnt.demand.isSome then s.wr pCnt CNT_STAT_SCANC 1 else s
  { s1 with cnt := { s1.cnt with demand := none, ffrWaits := false, notBefore := s1.timeFrac s1.now + 1000 * 65536 } }

/-- The time changes by `delta` (2^-16 ns) at the start of field cycle `k`: STEPPED, EPOCH, the record (R322, R323). -/
def State.discontinuity (s : State) (k kind : Nat) (delta : Int) : State :=
  let s1 := s.advanceTo (k * fcG)
  let s2 := s1.newPiece k ((s1.unitsAt k : Int) + delta * 2 ^ 32).toNat (s1.piece k).inc
  let s3 := (s2.wr pTime TIME_STAT_STEPPED 1).wr pTime TIME_EPOCH_EPOCH (s2.rd pTime TIME_EPOCH_EPOCH + 1)
  let rec_ := discBytes (s3.rd pTime TIME_EPOCH_EPOCH) kind delta (s3.stampAt (k * fcG))
  let n := s3.rd pTime TIME_DLOGN_DLOGN
  let s4 := (s3.putDlog (n % 8) rec_).wr pTime TIME_DLOGN_DLOGN (n + 1)
  (s4.exportEvent 5 rec_).stepSnapshots

/-- A FOLLOW chip may step only in holdover with cause LINK or DISC (R331). -/
def State.followStepOk (s : State) : Bool :=
  s.bit pTime TIME_STAT_HOLDOVER && (s.rd pTime TIME_STAT_HCAUSE = 4 || s.rd pTime TIME_STAT_HCAUSE = 2)

/-- A step request is refused (R321, R331). -/
def State.stepRefused (s : State) : Bool :=
  let r := (s.timeFrac s.now : Int) + s.stepValue
  let follow : Bool := s.rd pTime TIME_CFG_ROLE = 2
  s.anySiteBusy || s.time.step.isSome || (follow && !s.followStepOk)
    || (!follow && decide (r < 0 ∨ (2 ^ 48 * (1000000000 * 65536) : Int) ≤ r))

/-- STEP (R321): a step on a LEAD or FOLLOW chip, or with STEPSYNC, waits for SYNC. -/
def State.requestStep (s : State) : State :=
  if s.stepRefused then s.wr pTime TIME_STAT_SREF 1
  else
    let sync := s.bit pTime TIME_CFG_STEPSYNC || s.rd pTime TIME_CFG_ROLE ≠ 0
    { s with time := { s.time with step := some (s.now, sync) } }.wr pTime TIME_STAT_STEPPEND 1

/-- A write of TIME_CTL. -/
def State.timeCtlWrite (s : State) (r : Requester) (word : Nat) : State :=
  s.writeWith r pTime 0x44 word fun s =>
    let s1 := if bitAt word 0 then s.requestStep else s
    if bitAt word 1 then s1.enterHold 1 else s1

def execStepRequest (r : Requester) (s : State) : Host.Outcome State Fault Refusal := .next (s.timeCtlWrite r 1)

def execHoldRequest (r : Requester) (s : State) : Host.Outcome State Fault Refusal := .next (s.timeCtlWrite r 2)

/-- The step instant of the pending step of a chip that does not follow, as a field cycle (R321). -/
def State.stepCycle (s : State) : Option Nat :=
  match s.time.step with
  | none => none
  | some (acc, sync) =>
    if s.rd pTime TIME_CFG_ROLE = 2 then none
    else if sync then
      match s.clk.lastSync with
      | some x => if acc + 64 * fcG ≤ x then some (fcCeil x / fcG) else none
      | none => none
    else some (fcCeil (acc + 64 * fcG) / fcG)

/-- The pending step applies; a lead sends its new time (R322, R331). -/
def State.applyStep (s : State) (k : Nat) : State :=
  let kind := b2n (s.bit pTime TIME_STAT_STEPPED)
  let s1 := ({ s with time := { s.time with step := none } }.wr pTime TIME_STAT_STEPPEND 0).discontinuity k kind s.stepValue
  let s2 := s1.count 0x382
  if s2.rd pTime TIME_CFG_ROLE = 1 then s2.amlSend (.time (s2.timeFrac (k * fcG)) true (k * fcG)) else s2

def execStepApply (s : State) : Host.Outcome State Fault Refusal :=
  match s.stepCycle with
  | some k => .next (s.applyStep k)
  | none => .next s

/-! ### The rate servo (R325, R326, R330) -/

/-- The offset in TIME_OFS, in 2^-16 ns. -/
def State.offset (s : State) : Int := toSigned 48 (s.rd pTime TIME_OFS0_OFS + s.rd pTime TIME_OFS1_OFS * 2 ^ 32)

/-- The integrator i. -/
def State.integrator (s : State) : Int := toSigned 40 (s.rd pTime TIME_INT0_INT + s.rd pTime TIME_INT1_INT * 2 ^ 32)

/-- The servo takes an offset within the threshold. -/
def State.servo (s : State) (o : Int) : State :=
  let s0 := s.leaveHold
  let p := o * (s0.rd pTime TIME_KP_KP : Int) / 65536
  let i0 := s0.integrator - o * (s0.rd pTime TIME_KI_KI : Int) / 65536
  let i := clampInt (-adjMax) adjMax i0
  let a := clampInt (-adjMax) adjMax (i - p)
  let s1 := if i ≠ i0 ∨ a ≠ i - p then s0.wr pTime TIME_STAT_CLAMP 1 else s0
  let v := ofSigned 40 i
  let s2 := (s1.wr pTime TIME_INT0_INT v).wr pTime TIME_INT1_INT (v / 2 ^ 32)
  { s2 with time := { s2.time with lastUsed := some s2.now } }.newAdj a |>.count 0x381

/-- An offset is submitted (R325, R326, R329). -/
def State.submitOffset (s : State) : State :=
  let s0 := s.count 0x380
  let o := s0.offset
  if s0.bit pTime TIME_CFG_SMODE || !s0.bit pTime TIME_STAT_STEPPED || s0.bit pTime TIME_STAT_STEPPEND
      || s0.rd pTime TIME_CFG_ROLE = 2 then s0.wr pTime TIME_STAT_OIGN 1
  else if s0.rd pTime TIME_THR_THR * 1000 * 65536 < o.natAbs then s0.setDisc.enterHold 2
  else s0.servo o

/-- A write of TIME_OFS1. -/
def State.ofsWrite (s : State) (r : Requester) (word : Nat) : State :=
  s.writeWith r pTime 0x68 word fun s => s.submitOffset

def execOffsetSubmit (r : Requester) (v : Word) (s : State) : Host.Outcome State Fault Refusal := .next (s.ofsWrite r v.toNat)

/-- Writes of TIME_ADJ0 and TIME_ADJ1 act: DIRECT mode, and not the lead's adj of a FOLLOW chip (R326, R331). -/
def State.adjOpen (s : State) : Bool := s.bit pTime TIME_CFG_SMODE && s.rd pTime TIME_CFG_ROLE ≠ 2

/-- A write of TIME_ADJ1: adj is applied and holdover left; in SERVO mode the write does not act (R326, R329). -/
def State.adjWrite (s : State) (r : Requester) (word : Nat) : State :=
  if s.admits r pTime false && !s.adjOpen && !s.writeReserved pTime (fieldsAt .time 0x78) word then s
  else s.writeWith r pTime 0x78 word fun s =>
    s.leaveHold.newAdj (toSigned 40 (s.rd pTime TIME_ADJ0_ADJ + s.rd pTime TIME_ADJ1_ADJ * 2 ^ 32))

def execAdjWrite (r : Requester) (v : Word) (s : State) : Host.Outcome State Fault Refusal := .next (s.adjWrite r v.toNat)

/-- A write of TIME_ADJ0, which only an open adj takes. -/
def State.adj0Write (s : State) (r : Requester) (word : Nat) : State :=
  if s.admits r pTime false && !s.adjOpen then s else s.writePlain r pTime 0x74 word

/-- A write of TIME_CFG: a chip that becomes FOLLOW joins (R331). -/
def State.timeCfgWrite (s : State) (r : Requester) (word : Nat) : State :=
  let old := s.rd pTime TIME_CFG_ROLE
  let s1 := s.writePlain r pTime 0x40 word
  if s1.rd pTime TIME_CFG_ROLE = 2 && old ≠ 2 then { s1 with time := { s1.time with copy := true } } else s1

/-! ### A FOLLOW chip at a SYNC (R331 to R333) -/

/-- The lead's time is copied for the SYNC in field cycle `k`; a copy that a holdover waited for ends it. -/
def State.copyTime (s : State) (k kind lead : Nat) : State :=
  let s1 := { s with time := { s.time with copy := false, compare := false, step := none } }
  let s2 := s1.wr pTime TIME_STAT_STEPPEND 0
  let s3 := s2.discontinuity k kind ((lead : Int) - (s2.timeFrac (k * fcG) : Int))
  if s3.rd pTime TIME_STAT_HCAUSE = 2 || s3.rd pTime TIME_STAT_HCAUSE = 4 then s3.leaveHold else s3

/-- The lead's time is not copied while a site is ARMED or running (R333). -/
def State.copyLate (s : State) : State :=
  { s with time := { s.time with copy := true } }.setDisc.enterHold 2

/-- The comparison of a link that has returned: within one grain holdover ends, else it stays with cause DISC (R332). -/
def State.compareTime (s : State) (k lead : Nat) : State :=
  let d := (lead : Int) - (s.timeFrac (k * fcG) : Int)
  let s1 := { s with time := { s.time with compare := false } }
  if d.natAbs * 2 ^ 32 ≤ (s.piece k).inc / 1024 then s1.leaveHold else s1.setDisc.enterHold 2

/-- FOLLOW_TIME_COPY: what a FOLLOW chip does with the lead's time at a SYNC. -/
def State.followSync (s : State) (t : Nat) : State :=
  let k := fcCeil t / fcG
  if s.rd pTime TIME_CFG_ROLE ≠ 2 then s
  else match s.time.leadTime with
    | none => s
    | some lead =>
      let s0 := { s with time := { s.time with leadTime := none, leadStep := false } }
      if s.time.leadStep then
        if s0.anySiteBusy then s0.copyLate else s0.copyTime k (b2n (s0.bit pTime TIME_STAT_STEPPED)) lead
      else if s.time.copy || s.time.step.isSome then
        if s0.anySiteBusy then s0.copyLate else s0.copyTime k 2 lead
      else if s.time.compare then s0.compareTime k lead
      else s0

end Sys2Proof.Machine
end

