-- ==== Sys2Proof/Machine/Clock.lean ====
section
/-! DEFINITION. SYNC, its generator and its checks, and the clock generators (R102 to R108, R177 to R180). -/

namespace Sys2Proof.Machine

open Reg

/-- Grains in a REFCLK period of 30 field cycles. -/
def refG : Nat := 30 * fcG

/-- Grains in the SYNC period. -/
def State.syncPer (s : State) : Nat := s.rd pClk SYNC_PER_PER * refG

/-! ### SYNC (R177, R179) -/

/-- The check of the period: the second SYNC after BOOT or after CHK_EN was set is the first that is judged. -/
def State.syncCheck (s : State) (t : Nat) : State :=
  let s1 :=
    if s.bit pClk SYNC_CTL_CHK_EN && s.clk.chkSeen && s.clk.lastSync.map (· + s.syncPer) ≠ some t then
      (s.wr pClk SYNC_STAT_IRREG 1).pagePairs pClk
    else s
  { s1 with clk := { s1.clk with chkSeen := true, lastSync := some t } }

/-- An internal SYNC at an instant: counted, checked, sent as a marker, and used by the waiting sites and a FOLLOW chip. -/
def State.syncAt (s : State) (t : Nat) : State :=
  let s0 := s.advanceTo t
  let s1 := (s0.wr pClk SYNC_CNT_CNT (s0.rd pClk SYNC_CNT_CNT + 1)).syncCheck t
  let s2 := s1.releaseWaits t fun _ k => k = .sync
  let s3 := (s2.followSync t).singleSync t
  let s4 := s3.amlSend (.syncm (s3.rd pClk SYNC_CNT_CNT))
  if s4.rd pTime TIME_CFG_ROLE = 1 then s4.amlSend (.time (s4.timeFrac (fcCeil t)) false t) else s4

/-- SYNC: a sample of SYNC_IN at 1 after one at 0, at a rising REFCLK edge. With SRC = 1 SYNC_IN makes no SYNC. -/
def execSyncDetected (refclk : Nat) (s : State) : Host.Outcome State Fault Refusal :=
  .next (if s.bit pClk SYNC_CTL_SRC then s else s.syncAt (refclk * refG + s.rd pClk SYNC_DLY_DLY))

/-- SYNC_LOST: no SYNC for two periods since the last one, or since CHK_EN was set. -/
def execSyncLost (s : State) : Host.Outcome State Fault Refusal :=
  if s.bit pClk SYNC_CTL_CHK_EN then
    let since := max s.clk.chkFrom (s.clk.lastSync.getD 0)
    .next (((s.advanceTo (since + 2 * s.syncPer)).wr pClk SYNC_STAT_LOST 1).pagePairs pClk)
  else .next s

/-! ### The generator (R178) -/

/-- A write of SYNC_CTL. -/
def State.syncCtlWrite (s : State) (r : Requester) (word : Nat) : State :=
  let gen := s.bit pClk SYNC_CTL_GEN
  let chk := s.bit pClk SYNC_CTL_CHK_EN
  s.writeWith r pClk 0x40 word fun s =>
    let g := s.bit pClk SYNC_CTL_GEN
    let next := if !g then none else if gen then s.clk.genNext else some ((s.now / refG + 1) * refG)
    let s1 := { s with clk := { s.clk with genNext := next } }
    if s.bit pClk SYNC_CTL_CHK_EN && !chk then { s1 with clk := { s1.clk with chkSeen := false, chkFrom := s1.now } } else s1

def execSyncGeneratorStart (r : Requester) (v : Word) (s : State) : Host.Outcome State Fault Refusal :=
  .next (s.syncCtlWrite r (setBit v.toNat 2 true))

def execSyncGeneratorStop (r : Requester) (v : Word) (s : State) : Host.Outcome State Fault Refusal :=
  .next (s.syncCtlWrite r (setBit v.toNat 2 false))

/-- A pulse of the generator begins at a REFCLK edge. -/
def State.syncPulse (s : State) (t : Nat) : State :=
  let s0 := s.advanceTo t
  let s1 := { s0 with clk := { s0.clk with
    genNext := some (t + s.syncPer),
    syncOutEnd := if s.bit pClk SYNC_CTL_OUT_EN then t + 3 * refG else s.clk.syncOutEnd } }
  if s.bit pClk SYNC_CTL_SRC then s1.syncAt (t + s.rd pClk SYNC_DLY_DLY) else s1

def execSyncPulseGenerate (s : State) : Host.Outcome State Fault Refusal :=
  match s.clk.genNext with
  | some t => .next (s.syncPulse t)
  | none => .next s

/-! ### Clock generators (R102 to R107) -/

/-- The record of generator n. -/
def State.cgo (s : State) (n : Nat) : CgOp := tabGet {} s.cg n

/-- The record of generator n changed. -/
def State.modCg (s : State) (n : Nat) (f : CgOp → CgOp) : State := { s with cg := tabMod {} s.cg n f }

/-- The pending copy of a STAGED field, or its active value where none is pending. -/
def State.pendingOf (s : State) (p : Page) (f : Field) (i : Nat) : Nat :=
  (tabFind s.staged (fieldKey p f i 0)).getD (s.rd p f i)

/-- Generator n has pending copies. -/
def State.cgStaged (s : State) (n : Nat) : Bool :=
  [CG_CTL_RSTMODE, CG_PER_VAL, CG_HIGH_VAL, CG_PHASE_VAL].any fun f => (tabFind s.staged (fieldKey pClk f n 0)).isSome

/-- RSTMODE that decides a generator's boundary: the committed one for a commit, the active one for a start (R103, R105). -/
def State.cgSyncMode (s : State) (n : Nat) : Bool :=
  (if (s.cgo n).commit then s.pendingOf pClk CG_CTL_RSTMODE n else s.rd pClk CG_CTL_RSTMODE n) = 1

/-- PENDSYNC: a commit or start waits for SYNC. -/
def State.cgPendSync (s : State) (n : Nat) : State :=
  s.wr pClk CG_STAT_PENDSYNC (b2n (((s.cgo n).commit || (s.cgo n).start) && s.cgSyncMode n)) n

/-- GO of the CLK page: every generator with pending copies waits for its boundary (R103). -/
def State.cgGo (s : State) : State :=
  let ns := (List.range 8).filter s.cgStaged
  let s1 := if ns.isEmpty then s else s.wr pClk PAGE_COMMIT_PEND 1
  ns.foldl (fun s n => (s.modCg n fun o => { o with commit := true, reqAt := s.now }).cgPendSync n) s1

/-- A write of CG_CTL. A generator that runs goes on when EN is written 1. -/
def State.cgCtlWrite (s : State) (r : Requester) (n word : Nat) : State :=
  let was := s.bit pClk CG_CTL_EN n
  s.writeWith r pClk (0x200 + 0x20 * n) word fun s =>
    let en := s.bit pClk CG_CTL_EN n
    if en && !was then (s.modCg n fun o => { o with start := true, reqAt := s.now }).cgPendSync n
    else if !en then ((s.modCg n fun o => { o with start := false }).wr pClk CG_STAT_RUN 0 n).cgPendSync n
    else s

def execClockGeneratorStart (r : Requester) (n : Fin 8) (v : Word) (s : State) : Host.Outcome State Fault Refusal :=
  .next (s.cgCtlWrite r n (setBit v.toNat 0 true))

def execClockGeneratorStop (r : Requester) (n : Fin 8) (v : Word) (s : State) : Host.Outcome State Fault Refusal :=
  .next (s.cgCtlWrite r n (setBit v.toNat 0 false))

/-- The boundary of a generator's request: the next field cycle, or a SYNC in a later field cycle (R103, R106). -/
def State.cgBoundary (s : State) (n : Nat) : Option Nat :=
  let o := s.cgo n
  if !o.commit && !o.start then none
  else if s.cgSyncMode n then
    match s.clk.lastSync with
    | some x => if o.reqAt / fcG < x / fcG then some x else none
    | none => none
  else some ((o.reqAt / fcG + 1) * fcG)

/-- The values that would become active satisfy R104. -/
def State.cgValuesOk (s : State) (n : Nat) : Bool :=
  let per := s.pendingOf pClk CG_PER_VAL n
  let high := s.pendingOf pClk CG_HIGH_VAL n
  decide (1024 ≤ per ∧ 512 ≤ high ∧ high + 512 ≤ per ∧ s.pendingOf pClk CG_PHASE_VAL n < per)

/-- The field belongs to generator n. -/
def cgField (n : Nat) (fa : FieldAt) : Bool := decide (fa.f.off / 0x20 = 0x10 ∧ fa.i = n)

/-- The pending copies of generator n are applied, or discarded. -/
def State.cgCommit (s : State) (n : Nat) : State :=
  if s.cgValuesOk n then s.commitWhere pClk (cgField n)
  else
    { s with staged := s.staged.filter fun e =>
        !(keyInPage pClk e.1 && (match fieldAtKey pClk e.1 with | some fa => cgField n fa | none => false)) }.wr pClk
      CG_STAT_BADCFG 1 n

/-- CG_PHASE_RESET at its boundary. -/
def State.cgReset (s : State) (n t : Nat) : State :=
  let o := s.cgo n
  let ok := o.start || s.cgValuesOk n
  let s1 := if o.commit then (s.advanceTo t).cgCommit n else s.advanceTo t
  let s2 := s1.modCg n fun o => { o with commit := false, start := false, base := if ok then t else o.base }
  let s3 := (if o.start then s2.wr pClk CG_STAT_RUN 1 n else s2).wr pClk CG_STAT_PENDSYNC 0 n
  if (List.range 8).any fun m => (s3.cgo m).commit then s3 else s3.wr pClk PAGE_COMMIT_PEND 0

def execCgPhaseReset (n : Fin 8) (s : State) : Host.Outcome State Fault Refusal :=
  match s.cgBoundary n with
  | some t => .next (s.cgReset n t)
  | none => .next s

end Sys2Proof.Machine
end

