-- ==== Sys2Proof/Machine/Aml.lean ====
section
/-! DEFINITION. The Abamora Link (R488 to R496): training, capability exchange, flits received, acknowledgement and
replay, and what messages of other chips do here. -/

namespace Sys2Proof.Machine

open Reg

/-- An AML port's record. -/
def State.amlo (s : State) (p : Nat) : AmlOp := tabGet {} s.aml p

/-- An AML port's record changed. -/
def State.modAml (s : State) (p : Nat) (f : AmlOp → AmlOp) : State := { s with aml := tabMod {} s.aml p f }

/-- AML_STAT.STATE of a port. -/
def State.amlState (s : State) (p : Nat) : Nat := s.rd (pAml p) AML_STAT_STATE

/-- The port's block runs and the port is enabled. -/
def State.amlOn (s : State) (p : Nat) : Bool := s.pageState (pAml p) = 4 && s.bit (pAml p) AML_CFG_EN

/-- The state of a port changes, with a reason: CHG and host cause AML (R474, R489, R496). -/
def State.setAml (s : State) (p st reason : Nat) : State :=
  let s1 := s.wr (pAml p) AML_STAT_REASON reason
  if s.amlState p = st then s1
  else ((s1.wr (pAml p) AML_STAT_STATE st).wr (pAml p) AML_STAT_CHG 1).raiseCause 20

/-- A link starts anew: no flit of it is outstanding. -/
def State.amlFresh (s : State) (p : Nat) : State :=
  s.modAml p fun o => { o with next := 0, lastRx := 0, unacked := [], waiting := [], replays := 0 }

/-- Training begins (R489). -/
def State.amlTrain (s : State) (p reason : Nat) : State := (s.amlFresh p).setAml p 1 reason

/-! ### Reachability (R176, R331, R332, R491) -/

/-- MISMATCH and LINKLOST of a shared group follow what is known of its chips; either forces the timeout action of its
waiting members (R176). -/
def State.rgCheck (s : State) (g : Nat) : State :=
  let others := s.rgOthers g
  let mism : Bool := others.any fun c =>
    let v := tabGet 0 s.clk.remChips (g * 16 + c)
    v ≠ 0 && v - 1 ≠ s.rd pClk RG_CHIPS_RG_CHIPS g
  let lost : Bool := others.any fun c => bitAt s.clk.unreachable c
  let s1 := (s.wr pClk RG_STAT_MISMATCH (b2n mism) g).wr pClk RG_STAT_LINKLOST (b2n lost) g
  if mism || lost then
    (List.range 32).foldl (fun s n => match (s.sqo n).wait with
      | some w => if w.kind = .rdv g then s.modSq n fun o => { o with wait := some { w with forced := true } } else s
      | none => s) s1
  else s1

/-- The part of a span on this chip. -/
def State.spanSite (s : State) (sp : Nat) : Option Nat :=
  (List.range 32).find? fun n => s.inSpan n && s.rd pClk SPAN_CFG_SPAN n = sp

/-- Chips become unreachable: LINKLOST, the end of running spans with cause ISOLATED, holdover of a FOLLOW chip whose lead
is among them (R176, R186, R332, R491). -/
def State.chipsLost (s : State) (mask : Nat) : State :=
  let s1 : State := { s with clk := { s.clk with unreachable := s.clk.unreachable ||| mask } }
  let s2 := (List.range 16).foldl State.rgCheck s1
  let s3 := (List.range 32).foldl (fun s n =>
    if s.spanCut n && s.sqRunning n then s.endNext n 4 0 else s) s2
  let leadLost : Bool := match s.time.lead with | some c => bitAt mask c | none => false
  let s4 := if s.winn.mc && mask ≠ 0 then { s3 with winn := { s3.winn with mcLost := true } } else s3
  if s.rd pTime TIME_CFG_ROLE = 2 && leadLost then
    { s4 with time := { s4.time with linkDown := true } }.enterHold 4
  else s4

/-- Chips become reachable: a FOLLOW chip whose lead returns compares its time at the next SYNC (R332). -/
def State.chipsBack (s : State) (mask : Nat) : State :=
  let u := s.clk.unreachable
  let s1 : State := { s with clk := { s.clk with unreachable := u - (u &&& mask) } }
  let s2 := (List.range 16).foldl State.rgCheck s1
  let leadBack : Bool := match s.time.lead with | some c => bitAt mask c | none => false
  if s.time.linkDown && leadBack then { s2 with time := { s2.time with linkDown := false, compare := true } } else s2

/-- AML_LINK_DOWN: a port in CAPX, UP or SAFE loses its link for a reason of the line (1 NOSIG to 4 SKEW); `lost` are the
chips that no path reaches any more. -/
def execAmlLinkDown (p : Fin 4) (reason : Fin 5) (lost : BitVec 16) (s : State) : Host.Outcome State Fault Refusal :=
  let st := s.amlState p.val
  let s1 := if 2 ≤ st ∧ st ≤ 4 then (s.amlFresh p.val).setAml p.val 0 reason.val else s
  .next (s1.chipsLost lost.toNat)

/-! ### Training (R488, R489) -/

/-- Training ends: a lane skew above 20 ns (33,000 in 1/64 UI) fails, else the port enters capability exchange. -/
def State.amlTrained (s : State) (p : Nat) (t : AmlTraining) : State :=
  let pg := pAml p
  let s1 := ((s.wr pg AML_STAT_POLINV t.polinv.toNat).wr pg AML_STAT_SWAP (b2n t.swap)).wr pg AML_SKEW_SKEW t.skew.toNat
  if t.reason.val ≠ 0 then s.setAml p 0 t.reason.val
  else if 33000 < t.skew.toNat then s.setAml p 0 4
  else
    let s2 := s1.setAml p 2 0
    s2.amlPut p { origin := s.rd pClk GRP_CFG_CHIP_ID, oseq := 0, lseq := 0, hops := 0, ack := 0, nak := false,
                  msg := .capx (s.rd pClk GRP_CFG_CHIPS) (s.rd pg AML_VER_MAJOR) (s.rd pg AML_VER_MINOR) }

/-- AML_TRAIN: an enabled port trains; `t` is what training finds. -/
def execAmlTrain (p : Fin 4) (t : AmlTraining) (s : State) : Host.Outcome State Fault Refusal :=
  .next (if s.amlOn p.val && s.amlState p.val = 1 then s.amlTrained p.val t else s)

/-- A write of AML_CFG: a port that is enabled trains. -/
def State.amlCfgWrite (s : State) (r : Requester) (p word : Nat) : State :=
  let was := s.bit (pAml p) AML_CFG_EN
  s.writeWith r (pAml p) 0x40 word fun s =>
    if !was && s.bit (pAml p) AML_CFG_EN then s.amlTrain p 0 else s

/-- A write of AML_CTL. -/
def State.amlCtlWrite (s : State) (r : Requester) (p word : Nat) : State :=
  s.writeWith r (pAml p) 0x44 word fun s => if bitAt word 0 && s.bit (pAml p) AML_CFG_EN then s.amlTrain p 0 else s

/-- AML_RETRAIN. -/
def execAmlRetrain (r : Requester) (p : Fin 4) (s : State) : Host.Outcome State Fault Refusal := .next (s.amlCtlWrite r p.val 1)

/-- AML_TRAIN_RETRY: 10 ms after a failed training, or after a link went down, the port trains again. -/
def execAmlTrainRetry (p : Fin 4) (s : State) : Host.Outcome State Fault Refusal :=
  .next (if s.amlOn p.val && s.amlState p.val = 0 then s.amlTrain p.val (s.rd (pAml p.val) AML_STAT_REASON) else s)

/-- CAPX: the peer's CHIP_ID, CHIPS and version arrive; `reach` are the chips that become reachable (R490). -/
def State.capx (s : State) (p chip chips major minor reach : Nat) : State :=
  let pg := pAml p
  let s1 := ((s.wr pg AML_PEER_CHIP chip).wr pg AML_PEER_PMAJOR major).wr pg AML_PEER_PMINOR minor
  if chip = s.rd pClk GRP_CFG_CHIP_ID then s1.setAml p 5 5
  else if chips ≠ s.rd pClk GRP_CFG_CHIPS then s1.setAml p 5 6
  else if major = s.rd pg AML_VER_MAJOR then
    (((s1.wr pg AML_NEG_MINOR (min minor (s.rd pg AML_VER_MINOR))).setAml p 3 0)).chipsBack reach
  else (s1.setAml p 4 0).chipsBack reach

def execCapxFlit (p : Fin 4) (chip : Fin 16) (chips : BitVec 16) (major minor : BitVec 8) (reach : BitVec 16) (s : State) :
    Host.Outcome State Fault Refusal :=
  .next (if s.amlOn p.val && s.amlState p.val = 2 then
      s.capx p.val chip.val chips.toNat major.toNat minor.toNat reach.toNat
    else s)

/-! ### Acknowledgement and replay (R494) -/

/-- Flits up to the acknowledged LSEQ leave the replay buffer, and waiting ones go out. -/
def State.amlAcked (s : State) (p ack : Nat) : State :=
  let o := s.amlo p
  let i := o.unacked.findIdx fun f => f.lseq = ack
  if i < o.unacked.length then
    let left := o.unacked.drop (i + 1)
    let out := o.waiting.take (32 - left.length)
    (s.modAml p fun o => { o with
      unacked := left ++ out, waiting := o.waiting.drop (32 - left.length), sent := out.reverse ++ o.sent, replays := 0 }).count
        (0x3A0 + 4 * p) out.length
  else s

/-- A NAK: the flits not acknowledged are replayed; after 16 consecutive failed replays the port goes down and retrains. -/
def State.amlReplay (s : State) (p : Nat) : State :=
  let o := s.amlo p
  if 16 ≤ o.replays then ((s.wr (pAml p) AML_STAT_RETRYFAIL 1).amlTrain p 7).pagePairs (pAml p)
  else (s.modAml p fun o => { o with sent := o.unacked.reverse ++ o.sent, replays := o.replays + 1 }).count (0x3A3 + 4 * p)

/-- The acknowledgement of a received flit. -/
def State.amlAck (s : State) (p ack : Nat) (nak : Bool) : State :=
  let s1 := s.amlAcked p ack
  if nak then s1.amlReplay p else s1

/-- The port is UP or SAFE. -/
def State.amlLive (s : State) (p : Nat) : Bool := s.amlOn p && (s.amlState p = 3 || s.amlState p = 4)

/-- ACK. -/
def execAckFlit (p : Fin 4) (ack : BitVec 8) (nak : Bool) (s : State) : Host.Outcome State Fault Refusal :=
  .next (if s.amlLive p.val then (s.count (0x3A1 + 4 * p.val)).amlAck p.val ack.toNat nak else s)

/-- IDLE_FLIT: it carries an acknowledgement like every flit, and nothing else. -/
def execIdleFlit (p : Fin 4) (ack : BitVec 8) (nak : Bool) (s : State) : Host.Outcome State Fault Refusal :=
  .next (if s.amlLive p.val then s.amlAck p.val ack.toNat nak else s)

/-- FLIT_CRC_ERROR: the flit is counted and not acted on, and an ACK flit with NAK goes out. -/
def State.flitBad (s : State) (p : Nat) : State :=
  let s1 := s.count (0x3A2 + 4 * p)
  let f : Flit := { origin := s.rd pClk GRP_CFG_CHIP_ID, oseq := 0, lseq := 0, hops := 0, ack := (s.amlo p).lastRx, nak := true, msg := .ack }
  s1.modAml p fun o => { o with sent := f :: o.sent }

def execFlitCrcError (p : Fin 4) (s : State) : Host.Outcome State Fault Refusal :=
  .next (if s.amlLive p.val then s.flitBad p.val else s)

/-! ### Receiving a message (R493) -/

/-- The instant that a flit names, from the SYNCs this chip has seen (R492). -/
def State.flitAt (s : State) (f : FlitTime) : Nat :=
  let d := (s.rd pClk SYNC_CNT_CNT + 256 - f.sync.toNat) % 256
  let base := s.clk.lastSync.getD 0
  let x := if d < 128 then base - d * s.syncPer else base + (256 - d) * s.syncPer
  x + f.cycles * fcG

/-- A flit with a message arrives: its acknowledgement acts, it is forwarded, and the first copy of its origin and
sequence number that is not this chip's own acts. The last 128 flits of all origins are remembered. -/
def State.flitIn (s : State) (p : Nat) (h : FlitHdr) (m : AmlMsg) (act : State → State) : State :=
  if !s.amlLive p || !s.amlCarries p m then s
  else
    let s1 := (s.count (0x3A1 + 4 * p)).amlAck p h.ack.toNat h.nak
    let s2 := s1.modAml p fun o => { o with lastRx := h.lseq.toNat }
    let f : Flit := { origin := h.origin.val, oseq := h.oseq.toNat, lseq := 0, hops := h.hops.val + 1, ack := 0, nak := false, msg := m }
    let s3 := if h.hops.val < 2 then
        (List.range 4).foldl (fun s q => if q ≠ p && s.amlCarries q m then s.amlPut q f else s) s2
      else s2
    let key := (h.origin.val, h.oseq.toNat)
    if h.origin.val = s.rd pClk GRP_CFG_CHIP_ID || s.amlSeen.contains key then s3
    else act { s3 with amlSeen := (key :: s3.amlSeen).take 128 }

/-- A message for an instant that has passed is applied on arrival, and AMLLATE is set (R169, R494). -/
def State.onTime (s : State) (t : Nat) : Nat × State :=
  if t < s.now then (s.now, (s.wr pClk GRP_STAT_AMLLATE 1).pagePairs pClk) else (t, s)

/-- SYNCM: the origin's count is compared with this chip's (R494). -/
def execSyncmFlit (p : Fin 4) (h : FlitHdr) (cnt : Word) (s : State) : Host.Outcome State Fault Refusal :=
  .next (s.flitIn p.val h (.syncm cnt.toNat) fun s =>
    if cnt.toNat = s.rd pClk SYNC_CNT_CNT then s else (s.wr (pAml p.val) AML_STAT_SYNCMIS 1).pagePairs (pAml p.val))

/-- A pulse of a trigger line from another chip (R181). -/
def State.farPulse (s : State) (chip line t : Nat) : State :=
  let x := s.onTime (t + 64 * fcG)
  let e : SharedEvent := { idx := line, op := 1, t := x.1, chip := chip, rank := 0 }
  { x.2 with clk := { x.2.clk with atPulses := x.2.clk.atPulses ++ [e] } }

/-- TRIG. -/
def execTrigFlit (p : Fin 4) (h : FlitHdr) (line : Fin 16) (f : FlitTime) (s : State) : Host.Outcome State Fault Refusal :=
  let t := s.flitAt f
  .next (s.flitIn p.val h (.trig line.val t) fun s => s.farPulse h.origin.val line.val t)

/-- A shared flag change of another chip (R168, R169). -/
def State.farFlag (s : State) (chip idx op rank t : Nat) : State :=
  let x := s.onTime (t + 64 * fcG)
  let e : SharedEvent := { idx := idx, op := op, t := x.1, chip := chip, rank := rank }
  { x.2 with clk := { x.2.clk with sharedFlags := x.2.clk.sharedFlags ++ [e] } }

/-- FLAG_FLIT: `op` 0 clears, 1 sets, 2 toggles; `rank` is a site, 32 the host, 33 a Brewer. -/
def execFlagFlit (p : Fin 4) (h : FlitHdr) (idx : Fin 64) (op : Fin 3) (rank : Fin 34) (f : FlitTime) (s : State) :
    Host.Outcome State Fault Refusal :=
  let t := s.flitAt f
  .next (s.flitIn p.val h (.flag idx.val op.val rank.val t) fun s => s.farFlag h.origin.val idx.val op.val rank.val t)

/-- What another chip tells about a shared group (R171 to R176). -/
def State.farRdv (s : State) (chip g : Nat) (m : RdvMsg) (t : Nat) : State :=
  let k := g * 16 + chip
  match m with
  | .arrive site =>
    let x := s.onTime (t + 64 * fcG)
    { x.2 with clk := { x.2.clk with arrivals := x.2.clk.arrivals ++ [(g, (chip, site.val), x.1)] } }
  | .withdraw site =>
    { s with clk := { s.clk with
        arrivals := s.clk.arrivals.filter fun a => !(a.1 = g && a.2.1 = (chip, site.val)),
        remArrived := tabMod 0 s.clk.remArrived k fun v => setBit v site.val false } }
  | .excused site b => { s with clk := { s.clk with remExcused := tabMod 0 s.clk.remExcused k fun v => setBit v site.val b } }
  | .members mask => { s with clk := { s.clk with remMembers := tabPut 0 s.clk.remMembers k mask.toNat } }
  | .chips mask => { s with clk := { s.clk with remChips := tabPut 0 s.clk.remChips k (mask.toNat + 1) } }.rgCheck g

/-- RDV_FLIT. -/
def execRdvFlit (p : Fin 4) (h : FlitHdr) (g : Fin 16) (m : RdvMsg) (f : FlitTime) (s : State) : Host.Outcome State Fault Refusal :=
  let t := s.flitAt f
  .next (s.flitIn p.val h (.rdv g.val m t) fun s => s.farRdv h.origin.val g.val m t)

/-- A write of RG_MEM or RG_CHIPS: the other chips are told, and the group is checked (R171, R176). -/
def State.rgWrite (s : State) (r : Requester) (g off word : Nat) : State :=
  s.writeWith r pClk (0x300 + 16 * g + off) word fun s =>
    let s1 := s.rgCheck g
    let m1 : RdvMsg := .members (BitVec.ofNat 32 (s.rd pClk RG_MEM_RG_MEM g))
    let m2 : RdvMsg := .chips (BitVec.ofNat 16 (s.rd pClk RG_CHIPS_RG_CHIPS g))
    if s1.rgShared g then (s1.amlSend (.rdv g m1 s.now)).amlSend (.rdv g m2 s.now) else s1

/-- A write of SPAN_CFG: the other parts learn that the part exists, or no longer does (R182). -/
def State.spanCfgWrite (s : State) (r : Requester) (n word : Nat) : State :=
  let was := s.inSpan n
  let sp := s.rd pClk SPAN_CFG_SPAN n
  s.writeWith r pClk (0x140 + 4 * n) word fun s =>
    let s1 := if was && (!s.inSpan n || s.rd pClk SPAN_CFG_SPAN n ≠ sp) then s.amlSend (.span sp .gone s.now) else s
    s1.spanTell n .part s1.now

/-- The state of a part on another chip: 0 none, 1 not ready, else its instant + 2. -/
def State.putPart (s : State) (sp chip v : Nat) : State :=
  { s with clk := { s.clk with spanParts := tabPut 0 s.clk.spanParts (sp * 16 + chip) v } }

/-- What a message of another part does to the part on this chip (R183 to R186). -/
def State.farPart (s : State) (chip n : Nat) (m : SpanMsg) (t : Nat) : State :=
  match m with
  | .fail vec => if s.sqRunning n then
        s.modSq n fun o => { o with remoteFail := some (match o.remoteFail with | some v => min v vec | none => vec) }
      else s
  | .pause => s.takePause n (t + 64 * fcG)
  | .resume => s.takeResume n (t + 64 * fcG)
  | .hjump target => if s.sqRunning n then s.takeHjump n target (t + 64 * fcG) else s
  | .ended cause => if s.sqRunning n then s.endNext n cause 0 else if s.sqState n = stArmed then s.endArm n cause s.now else s
  | .safe => { s with clk := { s.clk with spanSafe := tabPut 0 s.clk.spanSafe (n * 16 + chip) 1 } }.safeEnter n scSPAN s.now
  | .release =>
    let s1 : State := { s with clk := { s.clk with spanSafe := tabErase s.clk.spanSafe (n * 16 + chip) } }
    if s1.clk.spanSafe.any fun e => e.1 / 16 = n then s1 else s1.safeClear n scSPAN
  | .part | .gone | .ready => s

/-- What a span control message says of another chip's part: 0 does not take part, 1 takes part, t + 2 is ready at t. -/
def spanPart (m : SpanMsg) (t : Nat) : Option Nat :=
  match m with
  | .part | .ended _ => some 1
  | .gone => some 0
  | .ready => some (t + 2)
  | _ => none

/-- A chip's part in a span is noted where the message says one. -/
def State.notePart (s : State) (sp chip : Nat) : Option Nat → State
  | some v => s.putPart sp chip v
  | none => s

/-- A span control message of another chip. -/
def State.farSpan (s : State) (chip sp : Nat) (m : SpanMsg) (t : Nat) : State :=
  let s1 := s.notePart sp chip (spanPart m t)
  match s1.spanSite sp with
  | some n => s1.farPart chip n m t
  | none => s1

/-- SPAN. -/
def execSpanFlit (p : Fin 4) (h : FlitHdr) (sp : Fin 16) (m : SpanMsg) (f : FlitTime) (s : State) :
    Host.Outcome State Fault Refusal :=
  let t := s.flitAt f
  .next (s.flitIn p.val h (.span sp.val m t) fun s => s.farSpan h.origin.val sp.val m t)

/-- Shared time of the lead (R331, R332): an adj for its application instant, at once for a chip whose link has
returned, or the lead's time at a SYNC. A time for a SYNC that has passed here is used at once. -/
def State.farTime (s : State) (chip : Nat) (m : TimeMsg) (t : Nat) : State :=
  if s.rd pTime TIME_CFG_ROLE ≠ 2 || s.pageState pTime ≠ 4 then s
  else
    let s0 : State := { s with time := { s.time with lead := some chip } }
    match m with
    | .adj a =>
      if s.time.compare then s0.setAdj a (s.now / fcG + 1)
      else { s0 with time := { s0.time with adjQ := s0.time.adjQ ++ [(a, max s.now (t + 64 * fcG))] } }
    | .at_ u step =>
      let s1 : State := { s0 with time := { s0.time with leadTime := some u, leadStep := step } }
      if s.clk.lastSync = some t then s1.followSync t else s1

/-- TIME: `f` names the instant of a new adj, or the SYNC of a time. -/
def execTimeFlit (p : Fin 4) (h : FlitHdr) (m : TimeMsg) (f : FlitTime) (s : State) : Host.Outcome State Fault Refusal :=
  let t := s.flitAt f
  let msg : AmlMsg := match m with | .adj a => .adj a t | .at_ u step => .time u step t
  .next (s.flitIn p.val h msg fun s => s.farTime h.origin.val m t)

/-- CAL: another chip's phase and reason of MCSKEW, or its crossing time of a span (R364, R365). -/
def execCalFlit (p : Fin 4) (h : FlitHdr) (m : CalMsg) (s : State) : Host.Outcome State Fault Refusal :=
  .next (s.flitIn p.val h (.cal m) fun s =>
    match m with
    | .mcskew phase reason => { s with winn := { s.winn with farPhase := (h.origin.val, phase, reason) :: s.winn.farPhase } }
    | .loop sp t => { s with winn := { s.winn with farLoop := tabInsert s.winn.farLoop (sp.val * 16 + h.origin.val) t } })

end Sys2Proof.Machine
end

