-- ==== Sys2Proof/Machine/Ddr.lean ====
section
/-! DEFINITION. DDR5 subchannels and QDR-IV training (R440 to R468): the address space, requests, ECC and freezes,
refresh, self-refresh and training. -/

namespace Sys2Proof.Machine

open Reg

/-! ### Requests, ECC and freezes (R443 to R448) -/

/-- Number of a request class (R443). -/
def ddrClassNo : DdrClass → Nat
  | .urgent => 2 | .stream => 3 | .host => 4 | .brewer => 5

/-- A subchannel serves requests. -/
def State.dcReady (s : State) (n : Nat) : Bool := s.pageState (pDc n) = 4 && s.rd (pDc n) DC_STAT_STATE = 2

/-- A subchannel freezes: its state and cause, the diagnosis registers and its fault source (R446). -/
def State.dcFreeze (s : State) (n cause addr syn beat cls : Nat) : State :=
  let p := pDc n
  let s1 := s.wr p DC_STAT_STATE 4
  let s2 := if cause = 1 then s1.wr p DC_STAT_UE 1 else if cause = 2 then s1.wr p DC_STAT_ALERT 1 else s1.wr p DC_STAT_CMDERR 1
  let s3 := (s2.wr p DC_UEADDRL_UEADDR addr).wr p DC_UEADDRH_UEADDR (addr / 2 ^ 32)
  let s4 := (((s3.wr p DC_UESYN_SYN syn).wr p DC_UESYN_BEAT beat).wr p DC_UESYN_CAUSE cause).wr p DC_UESYN_CLASS cls
  (s4.wr3 p DC_FRZTS0_FRZTS DC_FRZTS1_FRZTS DC_FRZTS2_FRZTS (s.stampAt s.now)).pagePairs p

/-- A freeze without a failing beat: the syndrome and the beat are free values. -/
def State.dcFreezeOpen (s : State) (n cause addr cls : Nat) : State :=
  let a := s.draw
  let b := a.2.draw
  b.2.dcFreeze n cause addr (a.1 % 256) (b.1 % 16) cls

/-- A corrected error (R445). -/
def State.dcCorrected (s : State) (n addr : Nat) : State :=
  let p := pDc n
  (((s.wr p DC_STAT_CE 1).wr p DC_CEADDRL_CEADDR addr).wr p DC_CEADDRH_CEADDR (addr / 2 ^ 32)).count (0x340 + 8 * n + 5)

/-- The array read of a burst: the state after it, and whether it delivered its data (R445, R446). -/
def State.dcArrayRead (s : State) (n cls a : Nat) (ecc : DdrEcc) : Bool × State :=
  let s1 := s.count (0x340 + 8 * n)
  let s2 := if cls = 2 then s1.count (0x340 + 8 * n + 6) else s1
  match ecc with
  | .ok => (true, s2)
  | .corrected => (true, s2.dcCorrected n (a / 64 * 64))
  | .bad beat syn => (false, s2.dcFreeze n 1 (a / 64 * 64) syn.toNat beat.val cls)
  | .violation => (false, s.dcFreezeOpen n 3 (a / 64 * 64) cls)

/-- A request to the burst that holds a byte address: the bytes of the whole burst for a read, none on an error, and the
state after it. A write of part of a burst reads, merges and writes the burst (R443, R445, R447). -/
def State.ddrAccess (s : State) (cls : DdrClass) (a : Nat) (write : Option (List Byte)) (ecc : DdrEcc) :
    Option (List Byte) × State :=
  match s.ddrPlace a with
  | none => (none, s)
  | some (n, b) =>
    if !s.dcReady n then (none, s)
    else
      let c := ddrClassNo cls
      let k := ddrKey n b
      match write with
      | none =>
        let r := s.dcArrayRead n c a ecc
        if r.1 then (some (memBytes s.mem.ddr k 64), r.2) else (none, r.2)
      | some bs =>
        let data := bs.take (64 - a % 64)
        let put := fun (s : State) =>
          { s with mem := { s.mem with ddr := memPutBytes s.mem.ddr (k + a % 64) data } }.count (0x340 + 8 * n + 1)
        if data.length = 64 then
          (if ecc = .violation then (none, s.dcFreezeOpen n 3 (a / 64 * 64) c) else (some [], put s))
        else
          let r := s.dcArrayRead n c a ecc
          if r.1 then (some [], put r.2) else (none, r.2)

/-- Bytes read from the DDR space as one requester's bursts: those before the first burst that completes with an error,
whether none does, and the state after them. The findings of the interface apply to the first burst. -/
def State.ddrReadGo (s : State) (cls : DdrClass) (a len : Nat) (ecc : DdrEcc) : Nat → (List Byte × Bool) × State
  | 0 => (([], true), s)
  | fuel + 1 =>
    if len = 0 then (([], true), s)
    else
      let off := a % 64
      let k := min len (64 - off)
      let r := s.ddrAccess cls a none ecc
      let rest := r.2.ddrReadGo cls (a + k) (len - k) .ok fuel
      match r.1 with
      | some bs => (((bs.drop off).take k ++ rest.1.1, rest.1.2), rest.2)
      | none => (([], false), rest.2)

/-- Bytes read from the DDR space, and whether all arrived. -/
def State.ddrRead (s : State) (cls : DdrClass) (a len : Nat) (ecc : DdrEcc) : (List Byte × Bool) × State :=
  s.ddrReadGo cls a len ecc (len / 64 + 2)

/-- Bytes written to the DDR space, burst by burst; false where any burst completes with an error. -/
def State.ddrWriteGo (s : State) (cls : DdrClass) (a : Nat) (bs : List Byte) (ecc : DdrEcc) : Nat → Bool × State
  | 0 => (true, s)
  | fuel + 1 =>
    if bs.isEmpty then (true, s)
    else
      let k := 64 - a % 64
      let r := s.ddrAccess cls a (some (bs.take k)) ecc
      let rest := r.2.ddrWriteGo cls (a + k) (bs.drop k) .ok fuel
      (r.1.isSome && rest.1, rest.2)

/-- Bytes written to the DDR space. -/
def State.ddrWrite (s : State) (cls : DdrClass) (a : Nat) (bs : List Byte) (ecc : DdrEcc) : Bool × State :=
  s.ddrWriteGo cls a bs ecc (bs.length / 64 + 2)

/-- The request that a subchannel serves next, by class and the bound of one burst in 16 (R443); `since` counts the
bursts since the last one of class HOST or BREWER. -/
def nextRequest (q : List (Nat × DdrReq)) (since : Nat) : Option (Nat × DdrReq) :=
  let first := fun c => q.find? fun x => x.2.cls = c
  let low := (first .host).orElse fun _ => first .brewer
  match first .urgent with
  | some x => some x
  | none =>
    if 15 ≤ since && low.isSome then low
    else (first .stream).orElse fun _ => low

/-- The order in which a subchannel serves waiting requests; those of one class keep their order (R443, R444). -/
def serveOrder : Nat → List (Nat × DdrReq) → Nat → List (Nat × DdrReq)
  | 0, _, _ => []
  | fuel + 1, q, since =>
    match nextRequest q since with
    | none => []
    | some x =>
      let low : Bool := x.2.cls = .host || x.2.cls = .brewer
      x :: serveOrder fuel (q.filter fun y => y.1 ≠ x.1) (if low then 0 else since + 1)

/-- The subchannel that serves an address, 4 for an address beyond the space. -/
def State.ddrServer (s : State) (a : Nat) : Nat := match s.ddrPlace a with | some (n, _) => n | none => 4

/-- Waiting requests are served, each subchannel in its own order; every request's outcome is recorded. -/
def State.ddrServe (s : State) (reqs : List DdrReq) : State :=
  let q := (List.range reqs.length).zip reqs
  let order := (List.range 5).flatMap fun n => serveOrder q.length (q.filter fun x => s.ddrServer x.2.addr.toNat = n) 0
  order.foldl (fun s x =>
    let r := s.ddrAccess x.2.cls x.2.addr.toNat x.2.write x.2.ecc
    { r.2 with ddrReplies := r.2.ddrReplies ++ [(x.1, r.1)] }) { s with ddrReplies := [] }

/-- DDR_REQUEST. -/
def execDdrRequest (reqs : List DdrReq) (s : State) : Host.Outcome State Fault Refusal := .next (s.ddrServe reqs)

/-- Free bytes drawn. -/
def State.drawBytes (s : State) : Nat → List Byte × State
  | 0 => ([], s)
  | n + 1 =>
    let d := s.draw
    let r := d.2.drawBytes n
    (BitVec.ofNat 8 d.1 :: r.1, r.2)

/-- ALERT: a device reports a write CRC error of a burst, whose contents become undefined (R446, R447). -/
def State.dcAlert (s : State) (n a : Nat) (cls : DdrClass) : State :=
  match s.ddrPlace a with
  | some (m, b) =>
    if m = n && s.dcReady n then
      let d := s.drawBytes 64
      let s1 := { d.2 with mem := { d.2.mem with ddr := memPutBytes d.2.mem.ddr (ddrKey n b) d.1 } }
      s1.dcFreezeOpen n 2 (a / 64 * 64) (ddrClassNo cls)
    else s
  | none => s

def execDdrAlert (n : Fin 4) (a : BitVec 37) (cls : DdrClass) (s : State) : Host.Outcome State Fault Refusal :=
  .next (s.dcAlert n.val a.toNat cls)

/-! ### Refresh (R450 to R453) -/

/-- The controller of a subchannel refreshes: it is in service and not in self-refresh. -/
def State.dcRefreshes (s : State) (n : Nat) : Bool :=
  let st := s.rd (pDc n) DC_STAT_STATE
  s.pageState (pDc n) = 4 && st ≠ 0 && st ≠ 3

/-- Units that a set pays, and the cap, at the rate in force (R450). -/
def State.refPay (s : State) (n : Nat) : Nat := if s.bit (pDc n) DC_REF_RATE then 1 else 2
def State.refCap (s : State) (n : Nat) : Nat := if s.bit (pDc n) DC_REF_RATE then 2 else 8

/-- The rate in force changes (R452). -/
def State.setRate (s : State) (n : Nat) (double : Bool) : State :=
  (s.wr (pDc n) DC_REF_RATE (b2n double)).wr (pDc n) DC_STAT_HOT (b2n double)

/-- The debt changes; the normal rate returns when it becomes 0 after readings show NORMAL (R452). -/
def State.setDebt (s : State) (n d : Nat) : State :=
  let s1 := s.wr (pDc n) DC_REF_DEBT d
  if d = 0 && s.bit (pDc n) DC_REF_RATE && (tabGet {} s.dc n).cool then s1.setRate n false else s1

/-- REFRESH_TICK. -/
def State.refTick (s : State) (n : Nat) : State :=
  if s.dcRefreshes n then
    let d := min (s.rd (pDc n) DC_REF_DEBT + 1) 31
    let s1 := s.wr (pDc n) DC_REF_DEBT d
    if s.refPay n ≤ d then s1.count (0x340 + 8 * n + 3) else s1
  else s

def execRefreshTick (n : Fin 4) (s : State) : Host.Outcome State Fault Refusal := .next (s.refTick n.val)

/-- REFRESH_SET: forced while D exceeds the cap, otherwise in class REFRESH while a payment is owed and no request of
another class waits (R450). -/
def State.refSet (s : State) (n : Nat) (waiting : Bool) : State :=
  let d := s.rd (pDc n) DC_REF_DEBT
  let id := 0x340 + 8 * n
  if !s.dcRefreshes n then s
  else if s.refCap n < d then ((s.setDebt n (d - s.refPay n)).count (id + 2)).count (id + 4)
  else if s.refPay n ≤ d && !waiting then (s.setDebt n (d - s.refPay n)).count (id + 2)
  else s

def execRefreshSet (n : Fin 4) (waiting : Bool) (s : State) : Host.Outcome State Fault Refusal :=
  .next (s.refSet n.val waiting)

/-- Rank of an MR4 class, the worst highest. -/
def mr4Rank : Mr4Class → Nat
  | .normal => 0 | .hot => 1 | .limit => 2

/-- The worst of the readings of the ranks. -/
def worstMr4 : List (Mr4Class × BitVec 3) → Mr4Class × BitVec 3
  | [] => (.normal, 0)
  | x :: xs => let y := worstMr4 xs; if mr4Rank y.1 ≤ mr4Rank x.1 then x else y

/-- A reading of MR4 of every rank (R451, R452). -/
def State.mr4Apply (s : State) (n : Nat) (ranks : List (Mr4Class × BitVec 3)) : State :=
  let w := worstMr4 ranks
  let p := pDc n
  let s1 := s.wr p DC_REF_MR4 w.2.toNat
  let s2 := if w.1 = .limit then s1.wr p DC_STAT_LIMIT 1 else s1
  let s3 : State := { s2 with dc := tabMod {} s2.dc n fun o => { o with cool := w.1 = .normal } }
  let s4 := if w.1 = .normal then s3.setDebt n (s3.rd p DC_REF_DEBT) else s3.setRate n true
  s4.pagePairs p

/-- MR4_READ. -/
def execMr4Read (n : Fin 4) (ranks : List (Mr4Class × BitVec 3)) (s : State) : Host.Outcome State Fault Refusal :=
  .next (if s.dcRefreshes n.val && ranks.length = s.dcRanks n.val then s.mr4Apply n.val ranks else s)

/-! ### Self-refresh (R454 to R457, R460) -/

/-- Sets that pay a debt. -/
def paySets (d pay : Nat) : Nat := (d + pay - 1) / pay

/-- A subchannel enters self-refresh: it pays its debt with forced sets and stops its clocks. An entry while FROZEN is
remembered (R454, R457). -/
def State.dcSelfRefresh (s : State) (n : Nat) : State :=
  let p := pDc n
  let st := s.rd p DC_STAT_STATE
  if st = 3 then s
  else
    let sets := paySets (s.rd p DC_REF_DEBT) (s.refPay n)
    let s1 : State := { s.ucAbandon 9 0 with dc := tabMod {} s.dc n fun o => { o with frozen := o.frozen || st = 4 } }
    let s2 := ((s1.setDebt n 0).count (0x340 + 8 * n + 2) sets).count (0x340 + 8 * n + 4) sets
    (s2.wr p DC_STAT_STATE 3).pagePairs p

/-- The training engine is available: its domain is on, its ROM's signature matched, and it is not isolated (R377, R394, R500). -/
def State.trainerUp (s : State) : Bool :=
  s.domainOn 69 && !s.bit pUc UC_STAT_SIGFAIL 9 && !(tabGet {} s.pageOps trainerKey).iso

/-- The state in which service resumes after self-refresh or training (R457). -/
def State.dcResume (s : State) (n : Nat) : State :=
  let fr := (tabGet {} s.dc n).frozen
  let s1 : State := { s with dc := tabMod {} s.dc n fun o => { o with frozen := false } }
  (s1.wr (pDc n) DC_STAT_STATE (if fr then 4 else 2)).pagePairs (pDc n)

/-- SREXIT: MR4 is read and the retained delays are checked; where they no longer fit, TRAIN follows (R455). -/
def State.srexit (s : State) (n : Nat) (ranks : List (Mr4Class × BitVec 3)) (fits : Bool) : State :=
  let p := pDc n
  if s.rd p DC_STAT_STATE ≠ 3 || !s.trainerUp || ranks.length ≠ s.dcRanks n then s
  else
    let s1 := ((s.wr p DC_REF_DEBT 0).mr4Apply n ranks).ucDrop 9
    if fits then s1.dcResume n else (s1.wr p DC_STAT_SRRETRAIN 1).wr p DC_STAT_STATE 1

/-! ### Training (R458, R459) -/

/-- TRAIN is requested for a subchannel. -/
def State.trainStart (s : State) (n : Nat) : State := (s.wr (pDc n) DC_STAT_STATE 1).pagePairs (pDc n)

/-- The reason for which a training fails; 0 where it commits (R459). -/
def State.trainReason (s : State) (t : DdrTraining) : Nat :=
  if !s.trainerUp then 5
  else if t.nodev then 1
  else if t.limit then 4
  else if t.rdEye.toNat < 64 ∨ t.wrEye.toNat < 64 then 2
  else if t.vmarg.toNat < 20 then 3
  else 0

/-- The delays of a training are written, lane by lane. -/
def State.writeDelays (s : State) (n : Nat) (lanes : List (BitVec 8 × BitVec 8)) (wr : Bool) : State :=
  ((List.range lanes.length).zip lanes).foldl (fun s x =>
    let s1 := s.wr (pDc n) DC_DLY_RDLY x.2.1.toNat (x.1 / 40) (x.1 % 40)
    if wr then s1.wr (pDc n) DC_DLY_WDLY x.2.2.toNat (x.1 / 40) (x.1 % 40) else s1) s

/-- TRAIN reaches its commit point, or fails (R458, R459). -/
def State.trainEnd (s : State) (n : Nat) (t : DdrTraining) : State :=
  let p := pDc n
  if s.rd p DC_STAT_STATE ≠ 1 || s.pageState p ≠ 4 || t.lanes.length ≠ 40 * s.dcRanks n then s
  else
    let why := s.trainReason t
    let s1 := (s.wr p DC_TRQ_REASON why).count (0x340 + 8 * n + 7)
    if why = 0 then
      let s2 := ((s1.wr p DC_TRQ_RDEYE t.rdEye.toNat).wr p DC_TRQ_WREYE t.wrEye.toNat).wr p DC_TRQ_VMARG t.vmarg.toNat
      (s2.writeDelays n t.lanes true).dcResume n
    else ((s1.wr p DC_STAT_STATE 5).wr p DC_STAT_TRFAIL 1).pagePairs p

def execDdrTrain (n : Fin 4) (t : DdrTraining) (s : State) : Host.Outcome State Fault Refusal := .next (s.trainEnd n.val t)

/-- RETRAIN updates the read delays of a READY subchannel (R459). -/
def execDdrRetrain (n : Fin 4) (delays : List (BitVec 8)) (s : State) : Host.Outcome State Fault Refusal :=
  .next (if s.dcReady n.val && s.trainerUp && delays.length = 40 * s.dcRanks n.val then
      s.writeDelays n.val (delays.map fun d => (d, 0)) false
    else s)

/-- ZQCAL writes the ZQ status of a READY subchannel and the time of the calibration (R391, R459). -/
def execZqcal (n : Fin 4) (status : BitVec 8) (s : State) : Host.Outcome State Fault Refusal :=
  .next (if s.dcReady n.val && s.trainerUp then
      { s with dc := tabMod {} s.dc n.val fun o => { o with zq := status.toNat, zqAt := s.stampAt s.now } }
    else s)

/-! ### Register writes -/

/-- A write to a DC page is discarded while the subchannel's clocks are stopped, but for the header and DC_CTL.SRX (R454). -/
def State.dcStopped (s : State) (n off word : Nat) : Bool :=
  s.rd (pDc n) DC_STAT_STATE = 3 && decide (0x40 ≤ off) && !(off = 0x44 && word % 16 = 4)

/-- A write of DC_CTL (R448, R454, R455, R458): `ranks` and `fits` are what a requested SREXIT finds. -/
def State.dcCtlWrite (s : State) (r : Requester) (n word : Nat) (ranks : List (Mr4Class × BitVec 3)) (fits : Bool) : State :=
  let p := pDc n
  if s.dcStopped n 0x44 word then
    (if bitAt word 2 then (s.writeWith r p 0x44 word fun s => s.srexit n ranks fits).werr p else s.werr p)
  else s.writeWith r p 0x44 word fun s =>
    let st := s.rd p DC_STAT_STATE
    let s1 := if bitAt word 3 && st = 4 then (s.wr p DC_STAT_STATE 2).pagePairs p else s
    let s2 := if bitAt word 0 && (let x := s1.rd p DC_STAT_STATE; x ≠ 1 && x ≠ 3 && x ≠ 4) then s1.trainStart n else s1
    let s3 := if bitAt word 1 then s2.dcSelfRefresh n else s2
    if bitAt word 2 && st = 3 then s3.srexit n ranks fits else s3

/-- UNFREEZE. -/
def execDdrUnfreeze (r : Requester) (n : Fin 4) (s : State) : Host.Outcome State Fault Refusal :=
  .next (s.dcCtlWrite r n.val 8 [] false)

/-- SELF_REFRESH_ENTRY. -/
def execSelfRefreshEntry (r : Requester) (n : Fin 4) (s : State) : Host.Outcome State Fault Refusal :=
  .next (s.dcCtlWrite r n.val 2 [] false)

/-- SREXIT, requested by DC_CTL.SRX; `ranks` are the MR4 readings and `fits` tells whether the training pattern matched. -/
def execSrexit (r : Requester) (n : Fin 4) (ranks : List (Mr4Class × BitVec 3)) (fits : Bool) (s : State) :
    Host.Outcome State Fault Refusal := .next (s.dcCtlWrite r n.val 4 ranks fits)

/-- The DC_CFG word in force. -/
def State.dcCfgWord (s : State) (n : Nat) : Nat :=
  s.rd (pDc n) DC_CFG_WIDTH + 2 * s.rd (pDc n) DC_CFG_DENS + 8 * s.rd (pDc n) DC_CFG_RANKS + 16 * s.rd (pDc n) DC_CFG_RATE

/-- A write of DDR_CFG; MAP3 needs all four subchannels with identical DC_CFG, and one must be enabled (R442). -/
def State.ddrCfgWrite (s : State) (r : Requester) (word : Nat) : State :=
  let same := (List.range 4).all fun n => s.dcCfgWord n = s.dcCfgWord 0
  if bitsAt word 4 4 = 0 || (bitsAt word 0 2 = 3 && (bitsAt word 4 4 ≠ 15 || !same)) then s.werr pDdr
  else s.writePlain r pDdr 0x40 word

/-- DDR_CFG_WRITE. -/
def execDdrCfgWrite (r : Requester) (v : Word) (s : State) : Host.Outcome State Fault Refusal := .next (s.ddrCfgWrite r v.toNat)

/-- A write of DC_CFG (R442, R458): the subchannel becomes UNTRAINED, and TRAIN starts. -/
def State.dcCfgWrite (s : State) (r : Requester) (n word : Nat) : State :=
  let p := pDc n
  let breaks : Bool := s.rd pDdr DDR_CFG_MAP = 3 && ((List.range 4).any fun m => m ≠ n && s.dcCfgWord m ≠ word % 64)
  if s.dcStopped n 0x40 word || breaks || s.pageBusy p then s.werr p
  else s.writeWith r p 0x40 word fun s => (s.wr p DC_STAT_STATE 0).trainStart n

/-- DC_CFG_WRITE. -/
def execDcCfgWrite (r : Requester) (n : Fin 4) (v : Word) (s : State) : Host.Outcome State Fault Refusal :=
  .next (s.dcCfgWrite r n.val v.toNat)

/-! ### QDR-IV training (R466) -/

/-- One port trains: it counts as fitted only when it is enabled, powered and its eye reaches 64/256 UI (R466). -/
def State.qdrPortTrain (s : State) (port eye : Nat) : State :=
  let en : Bool := (if port = 0 then s.bit pQdr QDR_CFG_QAEN else s.bit pQdr QDR_CFG_QBEN) && s.domainOn (73 + port)
  let rdy := fun (s : State) v => if port = 0 then s.wr pQdr QDR_STAT_QARDY v else s.wr pQdr QDR_STAT_QBRDY v
  if !en then rdy s 0
  else if 64 ≤ eye then rdy (if port = 0 then s.wr pQdr QDR_TRQ_QAEYE eye else s.wr pQdr QDR_TRQ_QBEYE eye) 1
  else rdy (s.wr pQdr QDR_STAT_TRFAIL 1) 0

/-- Both ports train. -/
def State.qdrTrain (s : State) (qa qb : Nat) : State := ((s.qdrPortTrain 0 qa).qdrPortTrain 1 qb).pagePairs pQdr

/-- A write of QDR_CTL: training runs while the Gleaner is idle (R466). -/
def State.qdrCtlWrite (s : State) (r : Requester) (word qa qb : Nat) : State :=
  s.writeWith r pQdr 0x44 word fun s =>
    if bitAt word 0 && !s.busyCond pGln && s.gln.updates.isEmpty then s.qdrTrain qa qb else s

/-- QDR_TRAIN: `qa` and `qb` are the read eyes found. -/
def execQdrTrain (r : Requester) (qa qb : BitVec 8) (s : State) : Host.Outcome State Fault Refusal :=
  .next (s.qdrCtlWrite r 1 qa.toNat qb.toNat)

end Sys2Proof.Machine
end

