-- ==== Sys2Proof/Machine/Counters.lean ====
section
/-! DEFINITION. The CNT page (R423 to R439): counter accesses, snapshots and dumps. -/

namespace Sys2Proof.Machine

open Reg

/-! ### Counter accesses (R423, R429 to R433) -/

/-- A counter id that the CNT page reads and writes. -/
def cntWritable (id : Nat) : Bool := decide (id < 0x400) && counterValid id

/-- The counter's domain is on; the counters of AON always count (R424). -/
def State.counterOn (s : State) (id : Nat) : Bool := match counterDomain id with | some d => s.domainOn d | none => true

/-- Counters of what no command shows: the sequencer clocks of URGCLK, the Gleaner clocks of QSUM, the waiting cycles of
STALL, corrected codewords of a link, and the packets, replays and corrected errors of PCIe (R423). -/
def countsOutside (id : Nat) : Bool :=
  (decide (0x100 ≤ id ∧ id < 0x200) && decide (id % 8 = 5)) || decide (id = 0x2C4) || decide (id = 0x38F ∨ id = 0x397)
  || (decide (0x3C0 ≤ id ∧ id < 0x3D0) && decide (id % 4 = 3)) || decide (id = 0x3D0 ∨ id = 0x3D1 ∨ id = 0x3D4 ∨ id = 0x3D5)

/-- Such a counter has counted a free number of events by the time it is read or latched. -/
def State.accrue (s : State) (id : Nat) : State :=
  if countsOutside id && s.counterOn id then s.draw.2.count id (s.draw.1 % 2 ^ 48) else s

/-- A counter is written. Events of its own-clock cycle are not counted: they set COLL, and OVF where they would have
wrapped it (R432). -/
def State.putCounter (s : State) (id v events : Nat) : State :=
  let wraps : Bool := decide (2 ^ 48 ≤ s.counter id + events)
  let s1 : State := { s with cnt := { s.cnt with vals := tabPut 0 s.cnt.vals id (v % 2 ^ 48) } }
  let s2 := if events = 0 then s1 else s1.wrBit pCnt CNT_COLL_COLL (id % 32) true (id / 32)
  if wraps then s2.wrBit pCnt CNT_OVF_OVF (id % 32) true (id / 32) else s2

/-- CNT_L_READ: the low bits are returned and bits [47:32] go to the shadow (R429). -/
def State.cntLowRead (s : State) (id : Nat) : State :=
  if s.pageState pCnt ≠ 4 then { s with rdata := 0 }
  else
    let s1 := s.accrue id
    let v := s1.counter id
    { s1 with rdata := v % 2 ^ 32, cnt := { s1.cnt with readShadow := tabInsert s1.cnt.readShadow id (v / 2 ^ 32) } }

def execCntLRead (id : Fin 1024) (s : State) : Host.Outcome State Fault Refusal := .next (s.cntLowRead id.val)

/-- A read of CNT_H uses the shadow up (R429). -/
def State.cntHighRead (s : State) (id : Nat) : State :=
  if s.pageState pCnt ≠ 4 then { s with rdata := 0 }
  else
    let s1 := if (tabFind s.cnt.readShadow id).isSome then s else s.accrue id
    { s1 with rdata := s1.readReg pCnt (0x1004 + 8 * id), cnt := { s1.cnt with readShadow := tabErase s1.cnt.readShadow id } }

/-- A write of CNT_L holds its value; a write of CNT_H writes the counter with the held value, or its high bits alone. -/
def State.counterWrite (s : State) (r : Requester) (id : Nat) (hi : Bool) (word events : Nat) : State :=
  if !s.admits r pCnt false then s.werr pCnt
  else if !cntWritable id || !s.counterOn id then s
  else if !hi then { s with cnt := { s.cnt with heldLow := tabInsert s.cnt.heldLow id (word % 2 ^ 32) } }
  else
    let s0 := if (tabFind s.cnt.heldLow id).isSome then s else s.accrue id
    let low := (tabFind s.cnt.heldLow id).getD (s0.counter id % 2 ^ 32)
    let s1 : State := { s0 with cnt := { s0.cnt with heldLow := tabErase s0.cnt.heldLow id } }
    s1.putCounter id (word % 65536 * 2 ^ 32 + low) events

/-- COUNTER_WRITE: `hi` is a write of CNT_H, `events` the counting events of the own-clock cycle in which it takes effect. -/
def execCounterWrite (r : Requester) (id : Fin 1024) (hi : Bool) (v : Word) (events : Nat) (s : State) :
    Host.Outcome State Fault Refusal := .next (s.counterWrite r id.val hi v.toNat events)

/-- CLRALL: every counter below 0x400 becomes 0; `coll` are the counters with an event in that cycle (R432, R433). -/
def State.clearAll (s : State) (coll : List (Fin 1024)) : State :=
  let s1 := coll.foldl (fun s id => if counterValid id.val then s.putCounter id.val 0 1 else s) s
  { s1 with cnt := { s1.cnt with vals := tabDrop s1.cnt.vals fun id => decide (id < 0x400) } }

/-- The counters of a domain that powers down become 0, and their OVF and COLL bits clear (R424). -/
def State.countersOff (s : State) (d : Nat) : State :=
  let mine := (List.range 0x580).filter fun id => counterDomain id = some d
  let s1 : State := { s with cnt := { s.cnt with
    vals := tabDrop s.cnt.vals fun id => counterDomain id = some d,
    heldLow := tabDrop s.cnt.heldLow fun id => counterDomain id = some d } }
  mine.foldl (fun s id =>
    (s.wrBit pCnt CNT_OVF_OVF (id % 32) false (id / 32)).wrBit pCnt CNT_COLL_COLL (id % 32) false (id / 32)) s1

/-! ### Snapshots (R434 to R438) -/

/-- SNAP: an instant 1,000 ns from now is demanded, or the demand is ignored with SREF (R434). -/
def State.demandSnapshot (s : State) : State :=
  if s.cnt.demand.isSome then s.wr pCnt CNT_STAT_SREF 1
  else { s with cnt := { s.cnt with demand := some (s.timeFrac s.now + 1000 * 65536) } }

/-- A write of CNT_CTL. -/
def State.cntCtlWrite (s : State) (r : Requester) (word : Nat) (coll : List (Fin 1024)) : State :=
  s.writeWith r pCnt 0x40 word fun s =>
    let s1 := if bitAt word 1 then s.demandSnapshot else s
    if bitAt word 2 then s1.clearAll coll else s1

/-- A write of CNT_CFG: the first periodic instant is at least 1 µs after PEN is set (R434). -/
def State.cntCfgWrite (s : State) (r : Requester) (word : Nat) : State :=
  let was := s.bit pCnt CNT_CFG_PEN
  s.writeWith r pCnt 0x44 word fun s =>
    if !was && s.bit pCnt CNT_CFG_PEN then { s with cnt := { s.cnt with notBefore := s.timeFrac s.now + 1000 * 65536 } } else s

/-- COUNTER_CLEAR_ALL. -/
def execCounterClearAll (r : Requester) (coll : List (Fin 1024)) (s : State) : Host.Outcome State Fault Refusal :=
  .next (s.cntCtlWrite r (4 + s.rd pCnt CNT_CTL_USER) coll)

/-- SNAPSHOT_DEMAND. -/
def execSnapshotDemand (r : Requester) (s : State) : Host.Outcome State Fault Refusal :=
  .next (s.cntCtlWrite r (2 + s.rd pCnt CNT_CTL_USER) [])

/-- The next periodic instant (2^-16 ns): the first multiple of the period that is not passed and not excluded (R434, R438). -/
def State.periodicNext (s : State) : Option Nat :=
  if s.bit pCnt CNT_CFG_PEN then
    let p := s.rd pCnt CNT_PER_PER * 1000 * 65536
    let from_ := max s.cnt.notBefore (s.timeFrac s.now)
    some ((from_ + p - 1) / p * p)
  else none

/-- The first grain at which the time has reached a value, on the present stretch of the time scale. -/
def State.instantOf (s : State) (u : Nat) : Nat :=
  let p := s.piece (s.now / fcG)
  let d := u * 2 ^ 32 - p.tb
  p.k * fcG + (d * fcG + p.inc - 1) / max p.inc 1

/-- The dump ring has no slot free (R436). -/
def State.dumpFull (s : State) : Bool := ringFull (s.rd pCnt CNT_DPROD_PROD) (s.rd pCnt CNT_DCONS_CONS) (s.rd pCnt CNT_DSIZE_SIZE)

/-- SKEW: the longest own-clock period among the islands whose entries are valid, in grains (R435). -/
def State.skew (s : State) : Nat :=
  if s.domainOn 79 then 3072 else if s.domainOn 73 || s.domainOn 74 then 2882 else 2048

/-- Every counter of what no command shows has counted. -/
def State.accrueAll (s : State) : State := ((List.range 0x400).filter countsOutside).foldl State.accrue s

/-- Every island latches its counters with their OVF and COLL bits (R435). -/
def State.latchCounters (s : State) : State :=
  (List.range 0x580).foldl (fun s id =>
    let ok := counterValid id && s.counterOn id
    let v := if ok then s.counter id else 0
    let s1 := ((s.wr pCnt CNT_SHL_SH v id).wr pCnt CNT_SHH_SH (v / 2 ^ 32) id).wr pCnt CNT_SHH_VALID (b2n ok) id
    (s1.wr pCnt CNT_SHH_OVF (b2n (ok && bitAt (s.rd pCnt CNT_OVF_OVF (id / 32)) (id % 32))) id).wr pCnt CNT_SHH_COLL
      (b2n (ok && bitAt (s.rd pCnt CNT_COLL_COLL (id / 32)) (id % 32))) id) s.accrueAll

/-- An instant T is taken, or skipped while a dump runs or the ring is full (R435, R437). `src` holds the SRC bits. -/
def State.takeSnapshot (s : State) (src t : Nat) : State :=
  let s1 := s.advanceTo (s.instantOf t)
  let per := bitAt src 0
  let dem := bitAt src 1
  let s2 : State := { s1 with cnt := { s1.cnt with
    demand := if dem then none else s1.cnt.demand, ffrWaits := s1.cnt.ffrWaits && !dem,
    notBefore := if per then t + 1 else s1.cnt.notBefore } }
  if s.cnt.dump.isSome || s.dumpFull then
    let s3 : State := { s2 with cnt := { s2.cnt with skipped := min (s2.cnt.skipped + 1) (2 ^ 32 - 1) } }
    (s3.satAdd pCnt CNT_SKIP_SKIP 1).wr pCnt CNT_STAT_SKIP 1
  else
    let s3 := s2.latchCounters
    let s4 := (s3.wr3 pCnt CNT_LASTT0_TS CNT_LASTT1_TS CNT_LASTT2_TS (packTime t)).wr pCnt CNT_SKEW_SKEW s.skew
    let q := (s.cnt.seq + 1) % 2 ^ 32
    { s4.wr pCnt CNT_SEQ_SEQ q with cnt := { s4.cnt with
        seq := q, dump := some (src, t), dumpFfr := dem && s.cnt.ffrWaits, skipped := 0, dumpSkipped := s.cnt.skipped, dumpEpoch := s.rd pTime TIME_EPOCH_EPOCH } }

/-- The instant due next, with its SRC bits: a demanded and a periodic instant that are equal make one (R434). -/
def State.snapshotDue (s : State) : Option (Nat × Nat) :=
  match s.periodicNext, s.cnt.demand with
  | some p, some d => if p < d then some (1, p) else if d < p then some (2, d) else some (3, p)
  | some p, none => some (1, p)
  | none, some d => some (2, d)
  | none, none => none

/-- SNAPSHOT_INSTANT. -/
def execSnapshotInstant (s : State) : Host.Outcome State Fault Refusal :=
  match s.snapshotDue with
  | some (src, t) => .next (if s.pageState pCnt = 4 then s.takeSnapshot src t else s)
  | none => .next s

/-- The 8-byte dump entry of a counter, from its shadow (R436). -/
def State.dumpEntry (s : State) (id : Nat) : List Byte :=
  leBytes 8 (s.rd pCnt CNT_SHL_SH id + s.rd pCnt CNT_SHH_SH id * 2 ^ 32 + s.rd pCnt CNT_SHH_OVF id * 2 ^ 48
    + s.rd pCnt CNT_SHH_COLL id * 2 ^ 49 + s.rd pCnt CNT_SHH_VALID id * 2 ^ 50)

/-- The 11,328 bytes of a dump (R436). -/
def State.dumpBytes (s : State) (src t : Nat) : List Byte :=
  let head := leBytes 4 0x4E544E43 ++ leBytes 1 1 ++ leBytes 1 src ++ leBytes 2 1408 ++ leBytes 4 s.cnt.seq
    ++ leBytes 4 s.cnt.dumpSkipped ++ leBytes 12 (packTime t) ++ leBytes 4 (s.rd pCnt CNT_SKEW_SKEW) ++ leBytes 2 s.cnt.dumpEpoch
    ++ leBytes 1 (s.rd pClk GRP_CFG_CHIP_ID % 16) ++ leBytes 25 0
  let entries := (List.range 0x580).flatMap s.dumpEntry
  head ++ leBytes 4 (crc32c (head ++ entries)) ++ entries

/-- Where the next dump's slot lies (R436). -/
def State.dumpAddr (s : State) : Nat :=
  s.rd pCnt CNT_DBASEL_BASE + s.rd pCnt CNT_DBASEH_BASE * 2 ^ 32 + s.rd pCnt CNT_DPROD_PROD * 12288

/-- The dump is no longer in progress. -/
def State.dumpIdle (s : State) : State := { s with cnt := { s.cnt with dump := none, dumpFfr := false } }

/-- Writing the slot, and whether DDR5 took it. -/
def State.dumpStore (s : State) (src t : Nat) (ecc : DdrEcc) : Bool × State :=
  if s.bit pCnt CNT_CFG_DEST then s.ddrWrite .host s.dumpAddr (s.dumpBytes src t) ecc
  else (true, s.dmaWrite s.dumpAddr (s.dumpBytes src t))

/-- The producer advances and host cause CNT is raised; a waiting first-fault record takes the dump's number
(R436, R474, R503). -/
def State.dumpProduced (s : State) (ffr : Bool) : State :=
  let s1 := (s.wr pCnt CNT_DPROD_PROD ((s.rd pCnt CNT_DPROD_PROD + 1) % s.rd pCnt CNT_DSIZE_SIZE)).raiseCause 12
  if ffr then s1.wr pFlt FLT_FFR_SNAP_SNAP s.cnt.seq else s1

/-- The whole slot has been written (R436). A dump that DDR5 refuses ends without advancing the producer. -/
def State.dumpDone (s : State) (src t : Nat) (ecc : DdrEcc) : State :=
  if (s.dumpStore src t ecc).1 then (s.dumpStore src t ecc).2.dumpIdle.dumpProduced s.cnt.dumpFfr
  else (s.dumpStore src t ecc).2.dumpIdle

/-- DUMP_COMPLETE: `ecc` is what the DDR5 interface finds. A dump to host memory waits while that cannot be reached. -/
def execDumpComplete (ecc : DdrEcc) (s : State) : Host.Outcome State Fault Refusal :=
  match s.cnt.dump with
  | some (src, t) => .next (if s.bit pCnt CNT_CFG_DEST || s.hostOk then s.dumpDone src t ecc else s)
  | none => .next s

end Sys2Proof.Machine
end

