-- ==== Sys2Proof/Machine/Barista.lean ====
section
/-! DEFINITION. The Barista dispatcher (R403 to R421) and what of a Brewer core it touches: items given, completed,
submitted and cancelled, and a core held in reset or released (R398, R402, R419, R422). -/

namespace Sys2Proof.Machine

open Reg

/-! ### A Brewer core as the Barista sees it -/

/-- Grains in a Brewer or Barista clock, 666.67 ps. -/
def clockG : Nat := 2048

/-- The core of BWn. -/
def State.core (s : State) (n : Nat) : BwOp := tabGet {} s.bwc n

/-- The core of BWn changed. -/
def State.modCore (s : State) (n : Nat) (f : BwOp → BwOp) : State := { s with bwc := tabMod {} s.bwc n f }

/-- Register x_i of a core; x0 reads 0. -/
def BwOp.get (c : BwOp) (i : Nat) : Nat := if i = 0 then 0 else tabGet 0 c.x i

/-- Register x_i of a core written; writes of x0 are discarded. -/
def BwOp.set (c : BwOp) (i v : Nat) : BwOp := if i = 0 then c else { c with x := tabPut 0 c.x i (v % 2 ^ 32) }

/-- The core of BWn runs. -/
def State.coreRuns (s : State) (n : Nat) : Bool := s.pageState (pBw n) = 4 && !s.bit (pBw n) BW_STAT_RESET

/-- `mtime` of BWn (R398). -/
def State.mtime (s : State) (n : Nat) : Nat := ((s.core n).mtime + (s.now - (s.core n).mtimeAt) / clockG) % 2 ^ 64

/-- BWn may take an item (R407). -/
def State.mayTake (s : State) (n : Nat) (it : Item) : Bool :=
  bitAt (s.rd (pBw n) BW_TMASK_LEVELS) it.pl && (it.nosite || bitAt (s.rd (pBw n) BW_SMASK_SITES) it.site)

/-- The item that would be given to BWn: the oldest queued one of the highest level that it may take (R407). -/
def State.nextItem (s : State) (n : Nat) : Option (Nat × Entry) :=
  let can := s.brst.entries.filter fun e => e.2.st = .queued && s.mayTake n e.2.item
  can.foldl (fun best e =>
    match best with
    | none => some e
    | some b => if e.2.item.pl < b.2.item.pl ∨ (e.2.item.pl = b.2.item.pl ∧ e.2.order < b.2.order) then some e else best) none

/-- Pending interrupts of BWn: the machine timer in bit 7, the external interrupt in bit 11 (R398, R422). -/
def State.mip (s : State) (n : Nat) : Nat :=
  let c := s.core n
  let p := pBw n
  let ext : Bool := (s.bit p BW_IE_DOOR && s.rd p BW_DOOR_DOOR ≠ 0) || (s.bit p BW_IE_ITEM && s.brstUp && (s.nextItem n).isSome)
    || (s.bit p BW_IE_FAULT && c.notice)
  (if c.mtimecmp ≤ s.mtime n then 128 else 0) + (if ext then 2048 else 0)

/-- The clocks of a stall end: they count in CYCLES, STARVED_BACK and the counter of the stall (R427). -/
def State.stallCount (s : State) (n k : Nat) : State :=
  let d := (s.now - (s.core n).t) / clockG
  if d = 0 then s else ((s.count (0x204 + 8 * n) d).count (0x203 + 8 * n) d).count (0x200 + 8 * n + k) d

/-- BWn runs, or stops running, for its LOAD (R420). -/
def State.loadRun (s : State) (n : Nat) (b : Bool) : State :=
  let since := tabGet 0 s.brst.runSince n
  if b then (if since = 0 then { s with brst := { s.brst with runSince := tabPut 0 s.brst.runSince n (s.now + 1) } } else s)
  else if since = 0 then s
  else { s with brst := { s.brst with
    runSince := tabErase s.brst.runSince n,
    ran := tabMod 0 s.brst.ran n fun r => r + (s.now - max (since - 1) s.brst.winStart) } }

/-- A blocking take of BWn ends and returns a value; its CSR instruction retires (R408, R409). -/
def State.takeEnd (s : State) (n v : Nat) : State :=
  match (s.core n).stall with
  | .take rd =>
    let s1 := ((s.stallCount n 5).count (0x200 + 8 * n)).count (0x204 + 8 * n)
    let s2 := s1.modCore n fun c => { (c.set rd v) with pc := (c.pc + 4) % 2 ^ 32, stall := .none, t := s.now + clockG }
    let s3 : State := { s2 with brst := { s2.brst with takers := s2.brst.takers.filter fun k => k.1 ≠ n } }
    (s3.wr (pBw n) BW_STAT_TAKING 0).loadRun n true
  | _ => s

/-- A pending interrupt ends a blocking take, with `mstatus.MIE` = 1, and WFI (R409). -/
def State.coreWake (s : State) (n : Nat) : State :=
  let c := s.core n
  if s.mip n &&& c.mie = 0 then s
  else match c.stall with
    | .take _ => if bitAt c.mstatus 3 then s.takeEnd n 0 else s
    | .wfi => (s.stallCount n 6).modCore n fun c => { c with stall := .none, t := s.now }
    | .none => s

/-! ### Completion (R411 to R414) -/

/-- SRC values (R405). -/
def srcHost : Nat := 0x30
def srcBrewer (n : Nat) : Nat := 0x40 + n

/-- The completion of an item is reported (R412). -/
def State.reported (s : State) (it : Item) : Bool :=
  if it.src = srcHost then true
  else if 0x40 ≤ it.src then it.notify
  else s.bit pBrst BRST_CFG_HWNOTIFY

/-- The completion ring is full (R412). -/
def State.brstRingFull (s : State) : Bool :=
  ringFull (s.rd pBrst BRST_CQPROD_PROD) (s.rd pBrst BRST_CQCONS_CONS) (s.rd pBrst BRST_CQSIZE_SIZE)

/-- The item of entry e completes with a code; `brewer` is 0xFF when it was never dispatched (R411, R412). -/
def State.complete (s : State) (e : Nat) (en : Entry) (code brewer : Nat) : State :=
  let s1 := s.count (0x282 + 4 * en.item.pl)
  if s.reported en.item then
    let en1 := { en with st := .reporting code brewer (shortTime (s.stampAt s.now)) }
    let s2 : State := { s1 with brst := { s1.brst with
      entries := tabInsert s1.brst.entries e en1, reports := s1.brst.reports ++ [e] } }
    if s.brstRingFull then s2.wr pBrst BRST_STAT_CQFULL 1 else s2
  else { s1 with brst := { s1.brst with entries := tabErase s1.brst.entries e } }

/-- The entries dispatched to BWn. -/
def State.dispatchedTo (s : State) (n : Nat) : List (Nat × Entry) :=
  s.brst.entries.filter fun e => match e.2.st with | .dispatched b _ => b = n | _ => false

/-- Every item dispatched to BWn completes with FLUSHED (R419). -/
def State.flushItems (s : State) (n : Nat) : State :=
  (s.dispatchedTo n).foldl (fun s e => (s.complete e.1 e.2 0x82 n).count 0x2A3) s

/-- A write of BARISTA_DONE by BWn (R411, R414). -/
def State.brstDone (s : State) (n v : Nat) : State :=
  let stale := ((s.satAdd pBrst BRST_STALE_STALE 1).wr pBrst BRST_STAT_STALE 1).count 0x2A1
  let e := v % 4096
  match tabFind s.brst.entries e with
  | some en =>
    match en.st with
    | .dispatched b _ =>
      if b = n ∧ v / 4096 % 128 = tabGet 0 s.brst.seqs e ∧ bitAt v 19 = s.brst.epoch then
        (s.complete e en (v / 2 ^ 24 % 128) n).count (0x207 + 8 * n)
      else stale
    | _ => stale
  | none => stale

/-- The dispatched item whose limit expires first, with the instant (R413). -/
def State.nextTimeout (s : State) : Option (Nat × Entry × Nat × Nat) :=
  let due := s.brst.entries.filterMap fun e =>
    match e.2.st with
    | .dispatched b t =>
      let d := s.rd pBrst BRST_DLIM_DLIM e.2.item.pl
      if d = 0 then none else some (e.1, e.2, b, t + d * usG)
    | _ => none
  due.foldl (fun best x => match best with | some b => if x.2.2.2 < b.2.2.2 then some x else best | none => some x) none

/-- DISPATCH_TIMEOUT. -/
def execDispatchTimeout (s : State) : Host.Outcome State Fault Refusal :=
  match s.nextTimeout with
  | some (e, en, b, t) =>
    .next <| if s.brstUp then
        ((((s.advanceTo t).complete e en 0x81 b).count 0x2A2).wr pBrst BRST_STAT_TMO 1).pagePairs pBrst
      else s
  | none => .next s

/-- A waiting completion is written to the ring: TOKEN, CODE, SRC, BREWER, TYPE, TS; its entry becomes free (R412). -/
def State.reportFirst (s : State) (e : Nat) (rest : List Nat) (en : Entry) (code brewer ts : Nat) : State :=
  let p := s.rd pBrst BRST_CQPROD_PROD
  let a := s.rd pBrst BRST_CQBASEL_BASE + s.rd pBrst BRST_CQBASEH_BASE * 2 ^ 32 + 16 * p
  let bs := leBytes 4 en.item.token ++ leBytes 1 code ++ leBytes 1 en.item.src ++ leBytes 1 brewer ++ leBytes 1 en.item.typ
    ++ leBytes 8 ts
  let s1 : State := { s.hostWrite a bs with brst := { s.brst with entries := tabErase s.brst.entries e, reports := rest } }
  (s1.wr pBrst BRST_CQPROD_PROD ((p + 1) % s.rd pBrst BRST_CQSIZE_SIZE)).raiseCause 8

/-- COMPLETION_REPORT: the oldest waiting completion, when the ring has room and host memory can be reached. -/
def execCompletionReport (s : State) : Host.Outcome State Fault Refusal :=
  match s.brst.reports with
  | e :: rest =>
    match tabFind s.brst.entries e with
    | some en =>
      match en.st with
      | .reporting code brewer ts =>
        .next <| if !s.brstUp || !s.hostOk then s
          else if s.brstRingFull then s.wr pBrst BRST_STAT_CQFULL 1
          else s.reportFirst e rest en code brewer ts
      | _ => .next s
    | none => .next s
  | [] => .next s

/-! ### Dispatch (R407 to R410) -/

/-- The 32 bytes of a work item (R403). -/
def itemBytes (it : Item) (enq : Nat) : List Byte :=
  leBytes 1 it.typ ++ leBytes 1 (it.pl + 128 * b2n it.notify) ++ leBytes 1 it.src ++ leBytes 1 (it.site + 128 * b2n it.nosite)
    ++ leBytes 4 it.token ++ leBytes 4 it.arg ++ leBytes 8 it.data ++ leBytes 12 enq

/-- The handle of a given item (R408). -/
def State.handle (s : State) (e : Nat) (it : Item) : Nat :=
  e + tabGet 0 s.brst.seqs e * 2 ^ 12 + b2n s.brst.epoch * 2 ^ 19 + it.pl * 2 ^ 20 + it.typ * 2 ^ 23 + 2 ^ 31

/-- The histogram bin of a wait in grains: 20 ns are 61,440 grains (R420). -/
def waitBin (g : Nat) : Nat := ((List.range 15).filter fun k => decide (61440 * 2 ^ k ≤ g)).length

/-- An item is given to BWn: it is dispatched, its bytes go to BW_IBUF, and its wait is counted. -/
def State.giveItem (s : State) (n e : Nat) (en : Entry) : State :=
  let a := s.rd (pBw n) BW_IBUF_ADDR
  let s1 := { s with brst := { s.brst with
    entries := tabInsert s.brst.entries e { en with st := .dispatched n s.now } } }.bwPut (n * 0x40000 + a)
      (itemBytes en.item en.enq)
  let s2 := if bitAt (s.rd pBrst BRST_HSEL_LEVELS) en.item.pl then s1.satAdd pBrst BRST_HIST_BIN 1 (waitBin (s.now - en.enqAt)) else s1
  (s2.satAdd pBrst BRST_BITEMS_ITEMS 1 n).count (0x281 + 4 * en.item.pl)

/-- The waiting Brewer that is served next: the one that has waited longest among those with an item, the lowest number
on a tie (R407). -/
def State.nextTaker (s : State) : Option (Nat × Nat) :=
  (s.brst.takers.filter fun k => (s.nextItem k.1).isSome).foldl (fun best k =>
    match best with
    | none => some k
    | some b => if k.2 < b.2 ∨ (k.2 = b.2 ∧ k.1 < b.1) then some k else best) none

/-- ITEM_DISPATCH. -/
def execItemDispatch (s : State) : Host.Outcome State Fault Refusal :=
  match s.nextTaker with
  | some (n, _) =>
    match s.nextItem n with
    | some (e, en) => .next (if s.brstUp then (s.giveItem n e en).takeEnd n (s.handle e en.item) else s)
    | none => .next s
  | none => .next s

/-! ### Submission and cancellation (R405, R415 to R417) -/

/-- An item from 32 submitted bytes; SRC and ENQ are the Barista's own (R405). -/
def itemOf (src : Nat) (bs : List Byte) : Item :=
  let v := leNat bs
  { typ := bitsAt v 0 8, pl := bitsAt v 8 3, notify := bitAt v 15, src := src, site := bitsAt v 24 5, nosite := bitAt v 31,
    token := bitsAt v 32 32, arg := bitsAt v 64 32, data := bitsAt v 96 64, origin := none }

/-- The bytes are no valid item: a type below 0x40, or a reserved field not 0 (R415). -/
def badItem (bs : List Byte) : Bool :=
  let v := leNat bs
  decide (bitsAt v 0 8 < 0x40) || decide (bitsAt v 11 4 ≠ 0) || decide (bitsAt v 29 2 ≠ 0)

/-- A submission by the host or a Brewer: its result and the state after it (R415). -/
def State.submit (s : State) (src : Nat) (bs : List Byte) : Nat × State :=
  if !s.brstUp then (0, s)
  else if badItem bs then (3, s)
  else match s.brstAccept (itemOf src bs) with
    | some s1 => (1, s1)
    | none => (2, s.count (0x283 + 4 * (itemOf src bs).pl))

/-- A cancel by a submitter: its result and the state after it (R416). -/
def State.cancel (s : State) (src token : Nat) : Nat × State :=
  if !s.brstUp then (0, s)
  else
    let mine := s.brst.entries.filter fun e => e.2.item.src = src && e.2.item.token = token
    let old := (mine.filter fun e => e.2.st = .queued).foldl (fun best e =>
      match best with | some (b : Nat × Entry) => if e.2.order < b.2.order then some e else best | none => some e) none
    match old with
    | some (e, en) => (1, (s.complete e en 0x80 0xFF).count 0x2A0)
    | none =>
      if mine.any fun e => match e.2.st with | .dispatched _ _ => true | _ => false then (2, s) else (3, s)

/-- The item in BRST_SUB0 to BRST_SUB7. -/
def State.subBytes (s : State) : List Byte := (List.range 8).flatMap fun i => leBytes 4 (s.rd pBrst BRST_SUB_W i)

/-- A write of BRST_SUBGO (R415). -/
def State.subGoWrite (s : State) (r : Requester) (word : Nat) : State :=
  s.writeWith r pBrst 0x80 word fun s =>
    if bitAt word 0 then
      let x := s.submit srcHost s.subBytes
      x.2.wr pBrst BRST_SUBRES_RES x.1
    else s

/-- BRST_SUBGO. -/
def execBrstSubgo (r : Requester) (s : State) : Host.Outcome State Fault Refusal := .next (s.subGoWrite r 1)

/-- A write of BRST_CANCEL (R416). -/
def State.cancelWrite (s : State) (r : Requester) (word : Nat) : State :=
  s.writeWith r pBrst 0x88 word fun s =>
    let x := s.cancel srcHost (word % 2 ^ 32)
    x.2.wr pBrst BRST_CANRES_RES x.1

/-- BRST_CANCEL. -/
def execBrstCancel (r : Requester) (token : Word) (s : State) : Host.Outcome State Fault Refusal :=
  .next (s.cancelWrite r token.toNat)

/-! ### Observation (R420) -/

/-- A write of BRST_CTL: PCLR sets every PEAK to DEPTH, HCLR clears the histogram. -/
def State.brstCtlWrite (s : State) (r : Requester) (word : Nat) : State :=
  s.writeWith r pBrst 0x44 word fun s =>
    let s1 := if bitAt word 0 then (List.range 8).foldl (fun s l => s.wr pBrst BRST_DEPTH_PEAK (s.queuedCount l) l) s else s
    if bitAt word 1 then (List.range 16).foldl (fun s k => s.wr pBrst BRST_HIST_BIN 0 k) s1 else s1

/-- PEAK_CLEAR. -/
def execPeakClear (r : Requester) (s : State) : Host.Outcome State Fault Refusal := .next (s.brstCtlWrite r 1)

/-- HISTOGRAM_CLEAR. -/
def execHistogramClear (r : Requester) (s : State) : Host.Outcome State Fault Refusal := .next (s.brstCtlWrite r 2)

/-- The end of a load window: each Brewer's LOAD is the fraction of it in which its core ran; the field's largest value
stands for the whole window. -/
def State.windowEnd (s : State) : State :=
  let len := s.rd pBrst BRST_LWIN_LWIN * usG
  let s1 := s.advanceTo (s.brst.winStart + len)
  let s2 := (List.range 16).foldl (fun s n =>
    let since := tabGet 0 s.brst.runSince n
    let ran := tabGet 0 s.brst.ran n + (if since = 0 then 0 else s.now - max (since - 1) s.brst.winStart)
    s.wr pBrst BRST_BLOAD_LOAD (min 65535 (ran * 65536 / max 1 len)) n) s1
  { s2 with brst := { s2.brst with ran := [], winStart := s2.now } }

/-- LOAD_WINDOW_END. -/
def execLoadWindowEnd (s : State) : Host.Outcome State Fault Refusal := .next (if s.brstUp then s.windowEnd else s)

/-! ### Held items (R146, R255, R279, R312, R418) -/

/-- The sources that hold an item, in ascending SRC order: 0 to 31 sequencers, then sites of the Gleaner from 32, the
scan sequencer 64, the acquisition engine 65. -/
def State.heldItem (s : State) (k : Nat) : Option Item :=
  if k < 32 then (s.sqo k).held
  else if k < 64 then (s.glnSite (k - 32)).held
  else if k = 64 then s.scan.held
  else s.acq.held

/-- A source no longer holds its item. -/
def State.dropHeld (s : State) (k : Nat) : State :=
  if k < 32 then s.modSq k fun o => { o with held := none }
  else if k < 64 then s.modGln (k - 32) fun g => { g with held := none }
  else if k = 64 then { s with scan := { s.scan with held := none } }.wr pAscan ASCAN_STAT_HELD 0
  else { s with acq := { s.acq with held := none } }.wr pAcq ACQ_STAT_HELD 0

/-- The held item of a source that the Barista can accept. -/
def State.canAcceptHeld (s : State) (k : Nat) : Bool :=
  match s.heldItem k with
  | some it => !s.brstClockFull && (s.brstAccept it).isSome
  | none => false

/-- The held item of a source is accepted. -/
def State.acceptHeldOf (s : State) (k : Nat) : State :=
  match s.heldItem k with
  | some it => (match s.brstAccept it with
    | some s1 => s1.dropHeld k
    | none => s)
  | none => s

/-- The first held item that the Barista can accept is accepted. -/
def State.acceptHeld (s : State) : State :=
  match (List.range 66).find? s.canAcceptHeld with
  | some k => if s.brstUp then s.acceptHeldOf k else s
  | none => s

/-- HELD_ITEM_ACCEPT. -/
def execHeldItemAccept (s : State) : Host.Outcome State Fault Refusal := .next s.acceptHeld

/-! ### The Barista becomes unavailable (R418) -/

/-- Every item is lost without a completion, held items too, and every take ends with 0. -/
def State.brstLost (s : State) : State :=
  let s1 := (List.range 16).foldl (fun s n => s.takeEnd n 0) s
  let s2 := (List.range 66).foldl (fun s k => if (s.heldItem k).isSome then s.dropHeld k else s) s1
  { s2 with brst := { s2.brst with entries := [], reports := [], takers := [] } }

/-- The Barista is restored: all entries are free, and EPOCH toggles. -/
def State.brstBack (s : State) : State := { s with brst := { s.brst with entries := [], epoch := !s.brst.epoch } }

/-! ### Release and hold of a core (R398, R402, R419, R422) -/

/-- A core leaves reset: it will fetch from BW_RESETVEC in machine mode, and mtime counts from 0. -/
def State.coreRelease (s : State) (n : Nat) : State :=
  let s1 := s.modCore n fun _ => { pc := s.rd (pBw n) BW_RESETVEC_VEC, mtimeAt := s.now, t := s.now }
  (s1.wr (pBw n) BW_STAT_RESET 0).loadRun n true

/-- A core is held in reset: its dispatched items are flushed, and a take goes with it. -/
def State.coreHold (s : State) (n : Nat) : State :=
  if s.bit (pBw n) BW_STAT_RESET then s
  else
    let s1 := (s.flushItems n).loadRun n false
    let s2 : State := { s1 with brst := { s1.brst with takers := s1.brst.takers.filter fun k => k.1 ≠ n } }
    ((s2.wr (pBw n) BW_STAT_RESET 1).wr (pBw n) BW_STAT_TAKING 0).modCore n fun c =>
      { c with stall := .none, reserved := none, halted := false, haltReq := false }

/-- A write of BW_CTL. -/
def State.bwCtlWrite (s : State) (r : Requester) (n word : Nat) : State :=
  s.writeWith r (pBw n) 0x40 word fun s =>
    let held := s.bit (pBw n) BW_STAT_RESET
    if bitAt word 0 && held then s.coreRelease n
    else if !bitAt word 0 && !held then s.coreHold n
    else s

/-- BREWER_RUN: `v` is the word written, with RUN = 1. -/
def execBrewerRun (r : Requester) (n : Fin 16) (v : Word) (s : State) : Host.Outcome State Fault Refusal :=
  .next (s.bwCtlWrite r n.val (v ||| 1).toNat)

/-- BREWER_HOLD: `v` is the word written, with RUN = 0. -/
def execBrewerHold (r : Requester) (n : Fin 16) (v : Word) (s : State) : Host.Outcome State Fault Refusal :=
  .next (s.bwCtlWrite r n.val (v &&& ~~~1).toNat)

/-- A write of BW_DOOR sets doorbell bits (R422). -/
def State.bwDoorWrite (s : State) (r : Requester) (n word : Nat) : State :=
  s.writeWith r (pBw n) 0x54 word fun s =>
    (s.wr (pBw n) BW_DOOR_DOOR (s.rd (pBw n) BW_DOOR_DOOR ||| word % 2 ^ 32)).coreWake n

/-- BW_DOOR. -/
def execBwDoor (r : Requester) (n : Fin 16) (v : Word) (s : State) : Host.Outcome State Fault Refusal :=
  .next (s.bwDoorWrite r n.val v.toNat)

/-- A write of BW_DOORCLR clears doorbell bits (R422). -/
def State.bwDoorClrWrite (s : State) (r : Requester) (n word : Nat) : State :=
  s.writeWith r (pBw n) 0x58 word fun s =>
    s.wr (pBw n) BW_DOOR_DOOR (s.rd (pBw n) BW_DOOR_DOOR &&& (2 ^ 32 - 1 - word % 2 ^ 32))

/-- A write of BW_IE. -/
def State.bwIeWrite (s : State) (r : Requester) (n word : Nat) : State :=
  s.writeWith r (pBw n) 0x5C word fun s => s.coreWake n

/-- MACHINE_TIMER_INTERRUPT: `mtime` reaches `mtimecmp` (R398, R409). -/
def execMachineTimerInterrupt (n : Fin 16) (s : State) : Host.Outcome State Fault Refusal :=
  let c := s.core n.val
  .next <| if s.coreRuns n.val then
      (s.advanceTo (c.mtimeAt + (c.mtimecmp - c.mtime) * clockG)).coreWake n.val
    else s

end Sys2Proof.Machine
end

