-- ==== Sys2Proof/Machine/HostRegs.lean ====
section
/-! DEFINITION. The HOST page (R470, R474 to R478, R495): the MSI-X table, the ABI selection, the rings' control, the
doorbells, and the start of fetched commands. -/

namespace Sys2Proof.Machine

open Reg

/-! ### MSI-X (R470, R474) -/

/-- Reset value of a word of the MSI-X table: every vector is masked. -/
def msixReset (k : Nat) : Nat := if k % 4 = 3 then 1 else 0

/-- Word k of the MSI-X table. -/
def State.msixWord (s : State) (k : Nat) : Nat := tabGet (msixReset k) s.host.msix k

/-- Pending messages of vectors that are not masked are sent once host memory can be reached. -/
def State.msiFlush (s : State) : State :=
  (List.range 64).foldl (fun s v =>
    if bitAt s.host.pba v && s.hostOk && !bitAt (s.msixWord (4 * v + 3)) 0 then
      { s with host := { s.host with pba := setBit s.host.pba v false, sent := v :: s.host.sent } }
    else s) s

/-- A write to the MSI-X table. -/
def State.msixWrite (s : State) (r : Requester) (k word : Nat) : State :=
  if !s.admits r pHost false then s.werr pHost
  else
    let v := if k % 4 = 3 then word % 2 else if k % 4 = 0 then word / 4 * 4 else word
    { s with host := { s.host with msix := tabPut (msixReset k) s.host.msix k v } }.msiFlush

/-! ### Command rings (R475 to R478) -/

/-- A little-endian field of a command. -/
def cmdNat (c : List Byte) (off len : Nat) : Nat := leNat ((c.drop off).take len)

/-- The ABI minor that an opcode needs, none for a reserved opcode (R480). -/
def opcodeMinor (op : Nat) : Option Nat :=
  if op = 0 ∨ 7 < op then none else if op = 7 then some 2 else if op = 6 then some 1 else some 0

/-- A command that the selected ABI does not have. -/
def State.cmdBad (s : State) (c : List Byte) : Bool :=
  match opcodeMinor (cmdNat c 0 1) with
  | none => true
  | some m => decide (s.rd pHost HOST_ABISEL_MINOR < m)

/-- A completion of a command that names no units. -/
def plainCompl (c : List Byte) (status reason count : Nat) : Compl :=
  { tag := cmdNat c 4 4, opcode := cmdNat c 0 1, status := status, reason := reason, count := count, okmap := 0, failmap := 0,
    stat := 0, recs := [] }

/-- A command of ring n has ended. -/
def State.ringEnd (s : State) (n : Nat) (c : Compl) : State := s.modRing n fun o => { o with ended := o.ended ++ [c] }

/-- Entries of the completion queue that are neither written nor reserved (R476). -/
def State.ringRoom (s : State) (n : Nat) : Bool :=
  let size := s.rd pHost HOST_CR_CQSIZE_CQSIZE n
  decide (s.ringReserved n < (s.rd pHost HOST_CR_CQCONS_CQCONS n + size - 1 - s.rd pHost HOST_CR_CQPROD_CQPROD n % size) % size)

/-- The oldest fetched command starts; one that the ABI does not have, or that could not be read, ends at once. Of a command
that could not be read, TAG and OPCODE are free values. -/
def State.startCmd (s : State) (n : Nat) (c : Option (List Byte)) (rest : List (Option (List Byte))) : State :=
  let s1 := s.modRing n fun o => { o with waiting := rest }
  match c with
  | some bs =>
    if s.cmdBad bs then s1.ringEnd n (plainCompl bs 3 0 0) else s1.modRing n fun o => { o with running := o.running ++ [bs] }
  | none =>
    let a := s1.draw
    let b := a.2.draw
    (b.2.wr pHost HOST_CR_STAT_ERR 1 n).ringEnd n
      { tag := a.1 % 2 ^ 32, opcode := b.1 % 256, status := 5, reason := 0, count := 0, okmap := 0, failmap := 0, stat := 0, recs := [] }

/-- Command FENCE (R477). -/
def cmdFence (c : Option (List Byte)) : Bool := match c with | some bs => bitAt (cmdNat bs 1 1) 0 | none => false

/-- Fetched commands start in ring order, each with a completion entry reserved. -/
def State.ringGo (s : State) (n : Nat) : Nat → State
  | 0 => s
  | fuel + 1 =>
    match (s.ring n).waiting with
    | [] => s
    | c :: rest =>
      if !s.bit pHost HOST_CR_CFG_EN n || (cmdFence c && s.ringRuns n) then s
      else if !s.ringRoom n then s.wr pHost HOST_CR_STAT_CQFULL 1 n
      else (s.startCmd n c rest).ringGo n fuel

/-- Fetched commands of a ring start as far as they may. -/
def State.ringKick (s : State) (n : Nat) : State := s.ringGo n (s.ring n).waiting.length

/-! ### Register writes -/

/-- A write of HOST_ABISEL: a version that HOST_ABICAP does not list is discarded. -/
def State.abiSelWrite (s : State) (r : Requester) (word : Nat) : State :=
  if 0x100 ≤ word % 65536 ∧ word % 65536 ≤ 0x102 then s.writePlain r pHost 0x48 word else s.werr pHost

/-- ABI_SELECT. -/
def execAbiSelect (r : Requester) (v : Word) (s : State) : Host.Outcome State Fault Refusal := .next (s.abiSelWrite r v.toNat)

/-- A write of HOST_CR_CFG: an enable without a selected ABI is refused. -/
def State.crCfgWrite (s : State) (r : Requester) (n word : Nat) : State :=
  let off := 0x200 + 0x40 * n
  if s.admits r pHost false && bitAt word 0 && s.rd pHost HOST_ABISEL_MAJOR = 0 then s.wr pHost HOST_CR_STAT_REFUSED 1 n
  else s.writeWith r pHost off word fun s => s.ringKick n

/-- RING_ENABLE: EN written 1 or 0. -/
def execRingEnable (r : Requester) (n : Fin 8) (en : Bool) (s : State) : Host.Outcome State Fault Refusal :=
  .next (s.crCfgWrite r n.val (b2n en))

/-- A write of HOST_CR_CQCONS frees entries of the completion queue. -/
def State.cqConsWrite (s : State) (r : Requester) (n word : Nat) : State :=
  s.writeWith r pHost (0x228 + 0x40 * n) word fun s => s.ringKick n

/-- A write of HOST_BDOOR; cause BDOOR is a Brewer's. -/
def State.bdoorWrite (s : State) (r : Requester) (word : Nat) : State :=
  s.writeWith r pHost 0x58 word fun s =>
    let s1 := s.wr pHost HOST_BDOOR_BITS (s.rd pHost HOST_BDOOR_BITS ||| word % 2 ^ 32)
    match r with
    | .brewer _ => if word % 2 ^ 32 = 0 then s1 else s1.raiseCause 22
    | _ => s1

/-- A write of HOST_BDOORC. -/
def State.bdoorcWrite (s : State) (r : Requester) (word : Nat) : State :=
  s.writeWith r pHost 0x5C word fun s =>
    s.wr pHost HOST_BDOOR_BITS (s.rd pHost HOST_BDOOR_BITS &&& (2 ^ 32 - 1 - word % 2 ^ 32))

/-- A write to a register of the HOST page. -/
def State.hostRegWrite (s : State) (r : Requester) (off word : Nat) : State :=
  if off = 0x48 then s.abiSelWrite r word
  else if off = 0x58 then s.bdoorWrite r word
  else if off = 0x5C then s.bdoorcWrite r word
  else if 0x200 ≤ off ∧ off < 0x400 ∧ off % 0x40 = 0 then s.crCfgWrite r ((off - 0x200) / 0x40) word
  else if 0x200 ≤ off ∧ off < 0x400 ∧ off % 0x40 = 0x28 then s.cqConsWrite r ((off - 0x200) / 0x40) word
  else if 0x1000 ≤ off ∧ off < 0x1400 then s.msixWrite r ((off - 0x1000) / 4) word
  else s.writePlain r pHost off word

end Sys2Proof.Machine
end

