-- ==== Sys2Proof/Machine/Pins.lean ====
section
/-! DEFINITION. Pin channels: overcurrent and out-of-range trips, the force-and-measure unit, the open-pin check, and
the routing of sheaves to sites (chapter Pin channels; R160 to R162). -/

namespace Sys2Proof.Machine

open Reg

/-! ### Trips (R57 to R67) -/

/-- Result of channel k in SH_OPC_RES. -/
def State.putOpc (s : State) (sh k v : Nat) : State :=
  let old := s.rd (pSh sh) SH_OPC_RES_RES
  s.wr (pSh sh) SH_OPC_RES_RES (old - bitsAt old (3 * k) 3 * 2 ^ (3 * k) + v * 2 ^ (3 * k))

/-- A channel is tested in the pass that runs: all in one pass with ADJ = 0, else even channels first (R69). -/
def opcTested (adj second : Bool) (k : Nat) : Bool := !adj || (if second then k % 2 = 1 else k % 2 = 0)

/-- A channel that trips during an open-pin check reports OC, and the other channels of its site that
have not been sampled yet report SKIPPED (R73). -/
def State.opcTrip (s : State) (c : Nat) : State :=
  let sh := c / 8
  match (tabGet {} s.sh sh).opc with
  | none => s
  | some o =>
    let adj := s.bit (pSh sh) SH_OPC_CTL_ADJ
    let mates := (List.range 8).filter fun k => bitAt o.mask k && k ≠ c % 8 && (s.siteOf c).isSome
      && s.siteOf (8 * sh + k) = s.siteOf c && (!o.second || opcTested adj true k)
    let s1 := mates.foldl (fun s k => s.putOpc sh k 5) (s.putOpc sh (c % 8) 6)
    let m := (c % 8 :: mates).foldl (fun m k => setBit m k false) o.mask
    { s1 with sh := tabPut {} s1.sh sh { opc := some { o with mask := m, tripped := setBit o.tripped (c % 8) true } } }

/-- A trip asks for the safe state of the owning site, or of the channel alone (R58, R60). -/
def State.tripSafe (s : State) (c bit : Nat) : State :=
  match s.siteOf c with
  | some n => s.safeEnter n bit s.now
  | none =>
    let m := setBit (tabGet 0 s.safety.lone c) bit true
    { s with safety := { s.safety with lone := tabPut 0 s.safety.lone c m } }

/-- The overcurrent detector of a channel trips (R58). A channel that is OFF or safe carries no driver or termination
current. -/
def State.ocTrip (s : State) (c : Nat) : State :=
  if s.chanOff c || s.chanSafe c then s
  else
    let s1 := (s.opcTrip c).tripSafe c scOC
    ((s1.wr (pSh (c / 8)) CH_STAT_OC 1 (c % 8)).modCh c fun o => { o with ocLive := true }).sheafPair (c / 8)

def execOvercurrentTrip (ch : Fin 320) (s : State) : Host.Outcome State Fault Refusal := .next (s.ocTrip ch)

/-- The current has stayed below the threshold for 1 µs (R67). -/
def execOcConditionClear (ch : Fin 320) (s : State) : Host.Outcome State Fault Refusal :=
  .next ((s.modCh ch fun o => { o with ocLive := false }).sheafPair (ch / 8))

/-- The out-of-range detector of an enabled channel trips (R60). -/
def State.oorTrip (s : State) (c : Nat) : State :=
  if s.chanOff c || !s.bit (pSh (c / 8)) SH_PROT_OOR_EN then s
  else
    let s1 := if s.bit (pSh (c / 8)) SH_PROT_OOR_SAFE then s.tripSafe c scOOR else s
    ((s1.wr (pSh (c / 8)) CH_STAT_OOR 1 (c % 8)).modCh c fun o => { o with oorLive := true }).sheafPair (c / 8)

def execOutOfRangeTrip (ch : Fin 320) (s : State) : Host.Outcome State Fault Refusal := .next (s.oorTrip ch)

/-- The pin has stayed within range for 1 µs, or OOR_EN is 0 (R67). -/
def execOorConditionClear (ch : Fin 320) (s : State) : Host.Outcome State Fault Refusal :=
  .next ((s.modCh ch fun o => { o with oorLive := false }).sheafPair (ch / 8))

/-! ### Force-and-measure unit (R49 to R55) -/

/-- The channel requests its ABUS (R54). -/
def State.abusWants (s : State) (c : Nat) : Bool :=
  let p := pSh (c / 8)
  s.bit p CH_PMU_CTL_ABUS_EN (c % 8) && s.bit p CH_PMU_CTL_CONNECT (c % 8) && s.rd p CH_PMU_CTL_MODE (c % 8) ≠ 0

/-- The 40 channels that share bus b (R54). -/
def abusChannels (b : Nat) : List Nat := (List.range 40).map (40 * b + ·)

/-- The lowest-numbered requester has the bus (R54). -/
def State.abusHolder (s : State) (b : Nat) : Option Nat := (abusChannels b).find? fun c => s.abusWants c

/-- Every requester of a bus but the one that has it sets ABUSBLK; while the scan sequencer owns the bus, the writer
sets it instead (R54, R55). -/
def State.abusGrant (s : State) (c : Nat) (want : Bool) : State :=
  let b := c / 40
  if bitAt (s.rd pAscan ASCAN_ABUS_OWN) b then
    (if want then s.wr (pSh (c / 8)) CH_STAT_ABUSBLK 1 (c % 8) else s)
  else
    ((abusChannels b).filter fun d => s.abusWants d && s.abusHolder b ≠ some d).foldl
      (fun s d => s.wr (pSh (d / 8)) CH_STAT_ABUSBLK 1 (d % 8)) s

/-- The zero force of a mode (R51). -/
def forceZero (mode : Nat) : Nat := if mode = 1 then 2000 else 0

/-- The force is set to the zero of a mode that has changed (R51). -/
def State.forceFollow (s : State) (c old : Nat) : State :=
  let p := pSh (c / 8)
  let m := s.rd p CH_PMU_CTL_MODE (c % 8)
  if m = old then s else s.wr p CH_PMU_FORCE_FORCE (forceZero m) (c % 8)

/-- A write of CH_PMU_CTL (R43, R44, R51, R54, R55). -/
def State.pmuCtlWrite (s : State) (r : Requester) (c word : Nat) : State :=
  let p := pSh (c / 8)
  let old := s.rd p CH_PMU_CTL_MODE (c % 8)
  s.writeWith r p (0x118 + c % 8 * 0x40) word fun s =>
    (s.forceFollow c old).abusGrant c (bitAt word 5)

def execPmuCtlWrite (r : Requester) (ch : Fin 320) (v : Word) (s : State) : Host.Outcome State Fault Refusal :=
  .next (s.pmuCtlWrite r ch v.toNat)

/-- A write of CH_PMU_CLAMP: discarded when VCLL is above VCLH (R52). -/
def State.pmuClampWrite (s : State) (r : Requester) (c word : Nat) : State :=
  s.writePlain r (pSh (c / 8)) (0x120 + c % 8 * 0x40) word

def execPmuClampWrite (r : Requester) (ch : Fin 320) (v : Word) (s : State) : Host.Outcome State Fault Refusal :=
  .next (s.pmuClampWrite r ch v.toNat)

/-! ### The open-pin check (R68 to R73) -/

/-- The channels of a sheaf that a check tests: selected, enabled and not in the safe state (R70). -/
def State.opcMask (s : State) (k : Nat) : Nat :=
  mask8 fun i => bitAt (s.rd (pSh k) SH_OPC_CTL_CHMASK) i && !s.chanOff (8 * k + i) && !s.chanSafe (8 * k + i)

/-- START of the open-pin check: refused while the sheaf is busy or a check runs (R71). -/
def State.opcStart (s : State) (k : Nat) : State :=
  let p := pSh k
  if s.pageBusy p || (tabGet {} s.sh k).opc.isSome then s.wr p SH_OPC_CTL_REFUSED 1
  else
    let o : Opc := { second := false, sampling := false, due := s.now + s.rd p SH_OPC_CTL_SETTLE * usG,
                     mask := s.opcMask k, tripped := 0 }
    let s1 := s.wr p SH_OPC_RES_DONE 0
    { s1 with sh := tabPut {} s1.sh k { opc := some o } }

/-- A write of SH_OPC_CTL. -/
def State.opcCtlWrite (s : State) (r : Requester) (k word : Nat) : State :=
  s.writeWith r (pSh k) 0x50 word fun s => if bitAt word 0 then s.opcStart k else s

def execOpenPinCheckStart (r : Requester) (sh : Fin 40) (v : Word) (s : State) : Host.Outcome State Fault Refusal :=
  .next (s.opcCtlWrite r sh v.toNat)

/-- The settle time expires and sampling begins (R68). -/
def execOpcSettleElapsed (sh : Fin 40) (s : State) : Host.Outcome State Fault Refusal :=
  match (tabGet {} s.sh sh).opc with
  | some o =>
    if o.sampling then .next s
    else
      let s1 := s.advanceTo o.due
      .next { s1 with sh := tabPut {} s1.sh sh { opc := some { o with sampling := true, due := o.due + usG } } }
  | none => .next s

/-- The result of a channel from its samples of the above and below bits (R70). -/
def opcResult (k : Nat) (samples : List (BitVec 8 × BitVec 8)) : Nat :=
  let a := fun (x : BitVec 8 × BitVec 8) => bitAt x.1.toNat k
  let b := fun (x : BitVec 8 × BitVec 8) => bitAt x.2.toNat k
  if samples.all fun x => !a x && !b x then 1
  else if samples.all a then 2
  else if samples.all b then 3
  else 4

/-- The sampling of a pass ends; a channel that is in the safe state by then reports SKIPPED (R69, R70). -/
def State.opcEnd (s : State) (k : Nat) (o : Opc) (samples : List (BitVec 8 × BitVec 8)) : State :=
  let p := pSh k
  let adj := s.bit p SH_OPC_CTL_ADJ
  let s1 := (List.range 8).foldl (fun s i =>
    if opcTested adj o.second i && bitAt o.mask i then s.putOpc k i (if s.chanSafe (8 * k + i) then 5 else opcResult i samples)
    else s) (s.advanceTo o.due)
  if adj && !o.second then
    let o2 := { o with second := true, sampling := false, due := o.due + s.rd p SH_OPC_CTL_SETTLE * usG }
    { s1 with sh := tabPut {} s1.sh k { opc := some o2 } }
  else
    let skip := (List.range 8).filter fun i => !bitAt o.tripped i && !bitAt o.mask i
    let s2 := (skip.foldl (fun s i => s.putOpc k i 5) s1).wr p SH_OPC_RES_DONE 1
    { s2 with sh := tabPut {} s2.sh k {} }

def execOpcSamplingEnd (sh : Fin 40) (samples : List (BitVec 8 × BitVec 8)) (s : State) :
    Host.Outcome State Fault Refusal :=
  match (tabGet {} s.sh sh).opc with
  | some o => if o.sampling then .next (s.opcEnd sh o samples) else .next s
  | none => .next s

/-! ### Routing (R160 to R162) -/

/-- The site that channel k of a sheaf would belong to under a word of SH_SITE. -/
def routeOfWord (word k : Nat) : Option Nat :=
  routeSite (bitAt word 16) (bitAt word 5) (bitAt word 13) (bitsAt word 0 5) (bitsAt word 8 5) k

/-- A word of SH_SITE would give a channel to, or take one from, a site that is ARMED or running (R162). -/
def State.siteWriteTouches (s : State) (k word : Nat) : Bool :=
  (List.range 8).any fun i =>
    let old := s.siteOf (8 * k + i)
    let new := routeOfWord word i
    old ≠ new && ((match old with | some n => s.siteBusy n | none => false)
      || (match new with | some n => s.siteBusy n | none => false))

/-- A write of SH_SITE (R160, R162). -/
def State.shSiteWrite (s : State) (r : Requester) (k word : Nat) : State :=
  if s.admits r (pSh k) false && s.siteWriteTouches k word then s.werr (pSh k)
  else s.writePlain r (pSh k) 0x80 word

def execShSiteWrite (r : Requester) (sh : Fin 40) (v : Word) (s : State) : Host.Outcome State Fault Refusal :=
  .next (s.shSiteWrite r sh v.toNat)

end Sys2Proof.Machine
end

