-- ==== Sys2Proof/Machine/Ethernet.lean ====
section
/-! DEFINITION. The Ethernet ports (R335 to R345): frames received and sent, their PTP stamps, and the event export. -/

namespace Sys2Proof.Machine

open Reg

/-- An Ethernet port's record. -/
def State.etho (s : State) (p : Nat) : EthOp := tabGet {} s.eth p

/-- An Ethernet port's record changed. -/
def State.modEth (s : State) (p : Nat) (f : EthOp → EthOp) : State := { s with eth := tabMod {} s.eth p f }

/-- The port is enabled and its block runs. -/
def State.ethOn (s : State) (p : Nat) : Bool := s.pageState (pEth p) = 4 && s.bit (pEth p) ETH_CFG_EN

/-- The port is enabled with its link up. -/
def State.ethUp (s : State) (p : Nat) : Bool := s.ethOn p && s.bit (pEth p) ETH_STAT_LINK

/-- A big-endian number in a frame. -/
def beNat (bs : List Byte) (off n : Nat) : Nat := leNat ((bs.drop off).take n).reverse

/-- The `n` bytes of a number, big-endian. -/
def beBytes (n v : Nat) : List Byte := (leBytes n v).reverse

/-- A frame with bytes replaced from an offset upward. -/
def putAt (f : List Byte) (off : Nat) (bs : List Byte) : List Byte := f.take off ++ bs ++ f.drop (off + bs.length)

/-- A stamp corrected by a signed amount in 2^-16 ns. -/
def stampPlus (u : Nat) (d : Int) : Nat := packTime ((u : Int) + d).toNat

/-! ### Ring memory (R338) -/

/-- Where bytes at a Brewer address of a ring lie: a local memory, or the BAR2 mirror's local-memory window. Other
addresses of the Brewer map belong to one Brewer's own view, and a port has none: nothing is stored there. -/
def brewerLocal (a : Nat) : Option Nat := if 0x1000000 ≤ a ∧ a < 0x1400000 then some (a - 0x1000000) else none

/-- Bytes stored by a port. -/
def State.ethPut (s : State) (p a : Nat) (bs : List Byte) : State :=
  if s.bit (pEth p) ETH_CFG_LOC then
    (match brewerLocal a with
     | some k => s.bwPut k bs
     | none => s)
  else s.hostWrite a bs

/-- The transmit slot that the port reads: from Brewer memory, or host memory as supplied. -/
def State.ethSlot (s : State) (p a : Nat) (host : List Byte) : List Byte :=
  if s.bit (pEth p) ETH_CFG_LOC then
    (match brewerLocal a with
     | some k => memBytes s.mem.bw k 2048
     | none => List.replicate 2048 0#8)
  else (host ++ List.replicate 2048 0#8).take 2048

/-- A port's ring can be reached: Brewer memory always, host memory while the device can reach it (R472). -/
def State.ethReach (s : State) (p : Nat) : Bool := s.bit (pEth p) ETH_CFG_LOC || s.hostOk

/-! ### Reception (R336 to R338) -/

/-- The MAC address held in two fields: bytes 0 to 3 and 4 to 5. -/
def State.macOf (s : State) (p : Nat) (lo hi : Field) : List Byte := leBytes 4 (s.rd (pEth p) lo) ++ leBytes 2 (s.rd (pEth p) hi)

/-- Multicast destinations that a port accepts (R337). -/
def ptpMacs : List (List Byte) :=
  [[0x01, 0x1B, 0x19, 0, 0, 0], [0x01, 0x80, 0xC2, 0, 0, 0x0E], [0x01, 0, 0x5E, 0, 0x01, 0x81], [0x01, 0, 0x5E, 0, 0, 0x6B]]

/-- The frame carries a VLAN tag. -/
def frameTagged (f : List Byte) : Bool := beNat f 12 2 = 0x8100

/-- Offset of the byte after the EtherType. -/
def l2Len (f : List Byte) : Nat := if frameTagged f then 18 else 14

/-- The PTP header and the UDP checksum of a PTP frame: EtherType 0x88F7, or IPv4 UDP to port 319 or 320 (R337). -/
def ptpAt (f : List Byte) : Option (Nat × Nat) :=
  let l := l2Len f
  let typ := beNat f (l - 2) 2
  if typ = 0x88F7 then some (l, 0)
  else
    let ihl := beNat f l 1 % 16 * 4
    let port := beNat f (l + ihl + 2) 2
    if typ = 0x0800 ∧ beNat f l 1 / 16 = 4 ∧ beNat f (l + 9) 1 = 17 ∧ (port = 319 ∨ port = 320) then some (l + ihl + 8, l + ihl + 6)
    else none

/-- A frame is dropped and counted (R337, R338). -/
def State.ethDrop (s : State) (p : Nat) : State := (s.satAdd (pEth p) ETH_RXDROP_RXDROP 1).count (0x38A + 8 * p)

/-- The receive ring has no free slot, or cannot be reached. -/
def State.rxFull (s : State) (p : Nat) : Bool :=
  ringFull (s.rd (pEth p) ETH_RXPROD_PROD) (s.rd (pEth p) ETH_RXCONS_CONS) (s.rd (pEth p) ETH_RXSIZE_SIZE) || !s.ethReach p

/-- A frame arrives whose capture instant is t; `good` tells that it is error-free (R336 to R338). -/
def State.frameIn (s : State) (p t : Nat) (f : List Byte) (good : Bool) : State :=
  let pg := pEth p
  let s1 := (s.advanceTo t).count (0x389 + 8 * p)
  let dst := f.take 6
  let mine : Bool := dst = s.macOf p ETH_MACL_MAC ETH_MACH_MAC || ptpMacs.contains dst
  match ptpAt f with
  | none => s1.ethDrop p
  | some (hoff, csoff) =>
    if !good || f.length < 60 || 1518 < f.length || !mine || s.rxFull p then s1.ethDrop p
    else
      let lat : Int := rxLat (s.bit pg ETH_CFG_SPEED) (s.bit pg ETH_CFG_FEC)
      let ts := stampPlus (s1.timeFrac t) (toSigned 32 (s.rd pg ETH_RXASYM_ASYM) - lat)
      let a := s.rd pg ETH_RXBASEL_BASE + s.rd pg ETH_RXBASEH_BASE * 2 ^ 32 + 2048 * s.rd pg ETH_RXPROD_PROD
      let desc := leBytes 2 f.length ++ leBytes 1 (b2n (frameTagged f)) ++ leBytes 1 0 ++ leBytes 2 hoff ++ leBytes 2 csoff
        ++ leBytes 12 ts ++ leBytes 12 0
      let s2 := (s1.ethPut p a (desc ++ f)).count (0x38B + 8 * p)
      (s2.wr pg ETH_RXPROD_PROD ((s.rd pg ETH_RXPROD_PROD + 1) % s.rd pg ETH_RXSIZE_SIZE)).raiseCause (13 + p)

/-- FRAME_RECEIVE: `t` is the instant of the capture, `frame` the frame without its FCS. -/
def execFrameReceive (p : Fin 2) (t : Nat) (frame : List Byte) (good : Bool) (s : State) : Host.Outcome State Fault Refusal :=
  .next (if s.ethUp p.val then s.frameIn p.val t frame good else s)

/-! ### Transmission (R338, R339) -/

/-- What a transmit mode makes of a frame, given the egress stamp (2^-16 ns) and the reference: the frame sent and the
value of TS written back; none where TS is not written. -/
def ptpMode (mode hoff csoff eg ref : Nat) (f : List Byte) : List Byte × Option Nat :=
  let ts := packTime eg
  let cs := fun (g : List Byte) => if csoff = 0 then g else putAt g csoff (beBytes 2 0)
  let csIn : Bool := csoff = 0 || decide (csoff + 2 ≤ f.length)
  let addCf := fun (g : List Byte) (d : Int) => putAt g (hoff + 8) (beBytes 8 (ofSigned 64 ((beNat g (hoff + 8) 8 : Nat) + d)))
  match mode with
  | 0 => (f, none)
  | 1 => (f, some ts)
  | 2 =>
    if csIn && decide (hoff + 44 ≤ f.length) then
      (cs (addCf (putAt f (hoff + 34) (beBytes 6 (ts / 2 ^ 48) ++ beBytes 4 (ts / 65536))) (ts % 65536 : Nat)), some ts)
    else (f, some 0)
  | _ =>
    if csIn && decide (hoff + 16 ≤ f.length) then (cs (addCf f ((eg : Int) - (unpackTime ref : Int))), some ts)
    else (f, some 0)

/-- The port sends the next transmit slot, whose egress capture falls at t. -/
def State.frameOut (s : State) (p t : Nat) (host : List Byte) : State :=
  let pg := pEth p
  let s1 := s.advanceTo t
  let cons := s.rd pg ETH_TXCONS_CONS
  let a := s.rd pg ETH_TXBASEL_BASE + s.rd pg ETH_TXBASEH_BASE * 2 ^ 32 + 2048 * cons
  let slot := s.ethSlot p a host
  let field := fun off n => leNat ((slot.drop off).take n)
  let mode := field 2 1 % 4
  let lat : Int := txLat (s.bit pg ETH_CFG_SPEED) (s.bit pg ETH_CFG_FEC)
  let eg := ((s1.timeFrac t : Int) + lat + toSigned 32 (s.rd pg ETH_TXASYM_ASYM)).toNat
  let out := ptpMode mode (field 4 2) (field 6 2) eg (field 0x14 12) ((slot.drop 32).take (field 0 2))
  let s2 := s1.ethPut p (a + 2) (leBytes 1 (field 2 1 ||| 128))
  let s3 := match out.2 with
    | some ts => (s2.ethPut p (a + 8) (leBytes 12 ts)).count (0x38B + 8 * p)
    | none => s2
  let s4 := (s3.modEth p fun o => { o with sent := out.1 :: o.sent }).count (0x388 + 8 * p)
  (s4.wr pg ETH_TXCONS_CONS ((cons + 1) % s.rd pg ETH_TXSIZE_SIZE)).raiseCause (13 + p)

/-- FRAME_TRANSMIT: `t` is the instant of the capture; `slot` is the slot as host memory holds it. -/
def execFrameTransmit (p : Fin 2) (t : Nat) (slot : List Byte) (s : State) : Host.Outcome State Fault Refusal :=
  .next (if s.ethUp p.val && s.ethReach p.val
      && decide (s.rd (pEth p.val) ETH_TXPROD_PROD ≠ s.rd (pEth p.val) ETH_TXCONS_CONS) then s.frameOut p.val t slot else s)

/-! ### The link (R345) -/

/-- The link state of a port changes. -/
def State.linkChange (s : State) (p : Nat) (up : Bool) : State :=
  if s.bit (pEth p) ETH_STAT_LINK = up then s
  else (s.wr (pEth p) ETH_STAT_LINK (b2n up)).wr (pEth p) ETH_STAT_LINKCHG 1

/-- ETH_LINK_CHANGE. -/
def execEthLinkChange (p : Fin 2) (up : Bool) (s : State) : Host.Outcome State Fault Refusal :=
  .next (if s.ethOn p.val then s.linkChange p.val up else s)

/-- A write of ETH_CFG: a port that is disabled has no link. -/
def State.ethCfgWrite (s : State) (r : Requester) (p word : Nat) : State :=
  s.writeWith r (pEth p) 0x40 word fun s => if s.bit (pEth p) ETH_CFG_EN then s else s.linkChange p false

/-- A write of EXP_CTL: setting EN begins a new series of datagrams with an empty queue (R342). -/
def State.expCtlWrite (s : State) (r : Requester) (p word : Nat) : State :=
  let was := s.bit (pEth p) EXP_CTL_EN
  s.writeWith r (pEth p) 0xC0 word fun s =>
    if !was && s.bit (pEth p) EXP_CTL_EN then s.modEth p fun o => { o with queue := [], dropped := 0, seq := 0, firstAt := 0 }
    else s

/-! ### Event export (R340 to R343) -/

/-- Sum of the 16-bit big-endian words of bytes; an odd last byte counts as a high byte. -/
def sum16 : List Byte → Nat
  | a :: b :: t => a.toNat * 256 + b.toNat + sum16 t
  | [a] => a.toNat * 256
  | [] => 0

/-- The ones-complement checksum of the Internet protocols. -/
def inetSum (bs : List Byte) : Nat :=
  let a := sum16 bs
  let b := a % 65536 + a / 65536
  let c := b % 65536 + b / 65536
  65535 - c

/-- The payload of a datagram: the 16-byte header and the entries (R342). -/
def State.expPayload (s : State) (p : Nat) (entries : List (List Byte)) : List Byte :=
  let o := s.etho p
  leBytes 4 0x56455A54 ++ leBytes 1 1 ++ leBytes 1 (s.rd pClk GRP_CFG_CHIP_ID % 16 + 128 * p) ++ leBytes 2 entries.length
    ++ leBytes 4 o.seq ++ leBytes 4 o.dropped ++ entries.flatten

/-- The frame of a datagram, with the IPv4 identification given (R342). -/
def State.expFrame (s : State) (p id : Nat) (entries : List (List Byte)) : List Byte :=
  let pg := pEth p
  let pay := s.expPayload p entries
  let src := beBytes 4 (s.rd pg ETH_IP_IP)
  let dst := beBytes 4 (s.rd pg EXP_DIP_DIP)
  let ports := s.rd pg EXP_PORTS_PORTS
  let ulen := 8 + pay.length
  let ip := fun (cs : Nat) => [0x45#8, 0#8] ++ beBytes 2 (20 + ulen) ++ beBytes 2 id ++ [0x40#8, 0#8, 64#8, 17#8] ++ beBytes 2 cs
    ++ src ++ dst
  let udp := fun (cs : Nat) => beBytes 2 (ports % 65536) ++ beBytes 2 (ports / 65536) ++ beBytes 2 ulen ++ beBytes 2 cs
  let u := inetSum (src ++ dst ++ [0#8, 17#8] ++ beBytes 2 ulen ++ udp 0 ++ pay)
  s.macOf p EXP_DMACL_DMAC EXP_DMACH_DMAC ++ s.macOf p ETH_MACL_MAC ETH_MACH_MAC ++ beBytes 2 0x0800
    ++ ip (inetSum (ip 0)) ++ udp (if u = 0 then 65535 else u) ++ pay

/-- The port sends a datagram of up to 44 entries. The identification of its IPv4 header is a free value. -/
def State.datagram (s : State) (p : Nat) : State :=
  let o := s.etho p
  let es := o.queue.take 44
  let d := s.draw
  let f := s.expFrame p (d.1 % 65536) es
  let s1 := d.2.modEth p fun o => { o with
    queue := o.queue.drop 44, dropped := 0, seq := (o.seq + 1) % 2 ^ 32, firstAt := s.now, sent := f :: o.sent }
  let s2 := s1.wr (pEth p) EXP_SEQ_SEQ o.seq
  ((s2.count (0x38C + 8 * p)).count (0x38D + 8 * p) es.length).count (0x388 + 8 * p)

/-- DATAGRAM_SEND: when 44 entries are queued, or EXP_HOLD µs after the first entry was queued (R342). -/
def execDatagramSend (p : Fin 2) (s : State) : Host.Outcome State Fault Refusal :=
  let o := s.etho p.val
  .next <|
    if !s.ethUp p.val || !s.bit (pEth p.val) EXP_CTL_EN || o.queue.isEmpty then s
    else if 44 ≤ o.queue.length then s.datagram p.val
    else (s.advanceTo (o.firstAt + s.rd (pEth p.val) EXP_HOLD_HOLD * usG)).datagram p.val

end Sys2Proof.Machine
end

