-- ==== Sys2Proof/Machine/Hopper.lean ====
section
/-! DEFINITION. The Hoppers and Grinders: fetching bales, checking them, decoding their lanes; and BAR2 accesses to the
on-chip memories (chapter Vector memory, streaming and the bale format; R309, R310, R401). -/

namespace Sys2Proof.Machine

open Reg

/-! ### Fetching (R200, R201, R203, R207, R223) -/

/-- A little-endian number in a list of bytes. -/
def fieldOf (bs : List Byte) (off n : Nat) : Nat := leNat ((bs.drop off).take n)

/-- BODYLEN of a bale header. -/
def bodyLen (h : List Byte) : Nat := fieldOf h 0x10 4

/-- The reason for which a header fails the checks MAGIC, VERSION, INDEX and SHAPE; 0 where it passes (R213, R222). -/
def headerReason (h : List Byte) (idx pins : Nat) : Nat :=
  if fieldOf h 0 4 ≠ 0x314C4142 then 1
  else if fieldOf h 4 1 ≠ 1 then 2
  else if fieldOf h 8 4 ≠ idx then 3
  else if fieldOf h 0x0E 2 ≠ pins ∨ bodyLen h % 64 ≠ 0 ∨ bodyLen h < 64 ∨ 32704 < bodyLen h ∨ 4 ≤ fieldOf h 6 2
      ∨ 4096 ≤ fieldOf h 0x0C 2 ∨ 8 ≤ fieldOf h 0x16 1 ∨ fieldOf h 0x18 36 ≠ 0 then 4
  else 0

/-- Bytes in flight for the bale being assembled. -/
def State.hopInFlight (s : State) (n : Nat) : Nat :=
  let h := s.hopo n
  ((h.reqs.filter fun r => r.epoch = h.epoch && !r.table).map (·.len)).sum

/-- The stream ends before bale i (R200). -/
def State.pastEnd (s : State) (n i : Nat) : Bool := !s.hostFed n && decide (s.rd pHop HOP_NBALE_NBALE n ≤ i)

/-- The bytes that the Hopper wants beyond those held and in flight: up to a bale's header until that has passed its
checks, then the whole bale and the next header. -/
def State.hopWants (s : State) (n : Nat) : Nat :=
  let h := s.hopo n
  let pins := (s.channelsOf n).length
  let known := h.cur.length + s.hopInFlight n
  if s.pastEnd n h.idx then 0
  else if h.cur.length < 64 then 64 - known
  else if headerReason h.cur h.idx pins ≠ 0 then 0
  else
    let total := 64 + bodyLen h.cur
    if s.pastEnd n (h.idx + 1) then total - known else total + 64 - known

/-- Bytes of a host-fed stream between the next request and the producer offset, up to the ring's end. -/
def State.hostAvail (s : State) (n : Nat) : Nat :=
  let ring := s.rd pHop HOP_ITAB_ITAB n * 64
  let prod := s.rd pHop HOP_HPROD_PROD n * 64
  let a := (s.hopo n).addr
  if ring = 0 then 0 else if a ≤ prod then min (prod - a) (ring - a) else ring - a

/-- The length of the next data request; 0 where none may be issued. -/
def State.nextLen (s : State) (n : Nat) : Nat :=
  let h := s.hopo n
  let wants := s.hopWants n
  let room := 65536 - (s.hopFill n + h.cur.length + s.hopInFlight n)
  if wants = 0 ∨ room < 512 then 0
  else if s.hostFed n then min 512 (s.hostAvail n)
  else if s.pastEnd n (h.idx + 1) ∧ 64 ≤ h.cur.length then min 512 wants
  else 512

/-- The Hopper issues its next request. -/
def State.hopFetch (s : State) (n : Nat) : State :=
  let h := s.hopo n
  let ring := s.rd pHop HOP_ITAB_ITAB n * 64
  if !h.on || h.curErr || s.pageState (pSq n) ≠ 4 then s
  else if h.needTable then
    if s.pastEnd n h.idx || h.reqs.any fun r => r.table && r.epoch = h.epoch then s
    else s.modHop n fun h => { h with
      reqs := h.reqs ++ [⟨h.epoch, 64 * s.rd pHop HOP_ITAB_ITAB n + 4 * h.idx, 4, true⟩] }
  else
    let len := s.nextLen n
    if len = 0 then s
    else s.modHop n fun h => { h with
      reqs := h.reqs ++ [⟨h.epoch, h.addr, len, false⟩],
      addr := if s.hostFed n then (h.addr + len) % max 1 ring else h.addr + len }

/-- HOPPER_FETCH. -/
def execHopperFetch (n : Fin 32) (s : State) : Host.Outcome State Fault Refusal := .next (s.hopFetch n)

/-- Bytes of a request of the stream are counted; an entry of the index table is read, not streamed (R200, R423). -/
def State.hopCount (s : State) (n : Nat) (r : HopReq) (k : Nat) : State :=
  if r.table then s else s.count (0x100 + 8 * n + k) r.len

/-- The oldest request is answered. -/
def State.hopTake (s : State) (n : Nat) (r : HopReq) (rest : List HopReq) : State :=
  (s.modHop n fun h => { h with reqs := rest }).hopCount n r 0

/-- Data of the oldest request arrives: from DDR5, where `ecc` is what its interface finds, or from host memory as
supplied, where any finding of an error is an uncorrectable one. Bytes before the first burst in error are stored; after
a loss nothing more is (R200, R207, R212, R443, R445). -/
def State.hopArrive (s : State) (n : Nat) (r : HopReq) (rest : List HopReq) (data : List Byte) (ecc : DdrEcc) : State :=
  let urgent : Bool := s.sqRunning n
    && decide (s.hopFill n + ((s.hopo n).reqs.map (·.len)).sum < s.rd pHop HOP_THR_URGENT n * 1024)
  let s0 := s.hopTake n r rest
  let fed : (List Byte × Bool) × State :=
    if s.hostFed n && !r.table then
      (if ecc = .ok || ecc = .corrected then (((data ++ List.replicate r.len 0#8).take r.len, true), s0) else (([], false), s0))
    else s0.ddrRead (if urgent then .urgent else .stream) r.addr r.len ecc
  let s1 := fed.2
  if r.epoch ≠ (s.hopo n).epoch || (s.hopo n).curErr then
    s1.hopCount n r 1
  else if r.table then
    s1.modHop n fun h => { h with
      needTable := false, addr := 64 * (s.rd pHop HOP_BASEL_BASEL n + leNat fed.1.1), curErr := !fed.1.2 }
  else s1.modHop n fun h => { h with cur := h.cur ++ fed.1.1, curErr := !fed.1.2 }

/-- HOPPER_DATA_ARRIVAL. -/
def execHopperDataArrival (n : Fin 32) (data : List Byte) (ecc : DdrEcc) (s : State) : Host.Outcome State Fault Refusal :=
  match (s.hopo n).reqs with
  | r :: rest => .next (s.hopArrive n r rest data ecc)
  | [] => .next s

/-- A write of HOP_HPROD (R201). -/
def State.hprodWrite (s : State) (r : Requester) (n word : Nat) : State := s.writePlain r pHop (0x11C + 0x80 * n) word

def execHostProducerWrite (r : Requester) (n : Fin 32) (v : Word) (s : State) : Host.Outcome State Fault Refusal :=
  .next (s.hprodWrite r n v.toNat)

/-! ### Checking a bale (R214, R219 to R223) -/

/-- Lanes of a bale from its header, the control lane included. -/
def headerLanes (h : List Byte) : Nat := fieldOf h 0x0E 2 + fieldOf h 6 2 / 2 % 2

/-- Bytes of the lane table, padded to a multiple of 8. -/
def tableLen (lanes : Nat) : Nat := (2 * lanes + 7) / 8 * 8

/-- The table length of lane k of a body. -/
def laneLen (body : List Byte) (k : Nat) : Nat := fieldOf body (2 * k) 2

/-- The start of lane k's token stream in its body. -/
def laneStart (body : List Byte) (lanes k : Nat) : Nat := tableLen lanes + ((List.range k).map (laneLen body)).sum

/-- The first lane whose table entry or token stream extends past BODYLEN. -/
def overrunLane (body : List Byte) (lanes len : Nat) : Option Nat :=
  (List.range lanes).find? fun k => decide (len < 2 * k + 2) || decide (len < laneStart body lanes k + laneLen body k)

/-- The body in clear; none where its key slot is not enabled or is empty (R220). -/
def State.clearBody (s : State) (n : Nat) (h stored : List Byte) : Option (List Byte) :=
  let slot := fieldOf h 0x16 1 % 8
  if fieldOf h 6 2 % 2 = 0 then some stored
  else if bitAt (s.rd pHop HOP_CFG_KEYEN n) slot && tabGet 0 s.keys slot ≠ 0 then
    some (Config.aesXtsDecrypt (tabGet 0 s.keys slot - 1) (fieldOf h 8 4) stored)
  else none

/-- The Hopper stops at a failed bale: the failure is reported, its bytes are discarded, and so are those in flight and
the later bales that were usable (R212, R223). -/
def State.hopFail (s : State) (n reason lane idx : Nat) : State :=
  let h := s.hopo n
  let later := h.bales.filter fun b => decide (idx < b.idx)
  let lost := h.cur.length + (later.map (·.bytes)).sum
  let s1 := s.modHop n fun h => { h with
    epoch := h.epoch + 1, cur := [], curErr := false, on := false, failed := some (idx, reason),
    bales := h.bales.filter fun b => decide (b.idx ≤ idx) }
  let s2 := ((s1.hopError n reason lane idx false).count (0x100 + 8 * n + 3)).count (0x100 + 8 * n + 1) lost
  match (s.firstSegOf n).1 with
  | some g =>
    if s.sqState n = stArmed && g.strm && !s2.thresholdMet n g.addr then (s2.wr pHop HOP_ERR_USED 1 n).endArm n 0x08 s2.now
    else s2
  | none => s2

/-- The first failing check of a complete bale with its lane; the decoded bale where all pass. -/
def State.checkBale (s : State) (n : Nat) (h : List Byte) (stored : List Byte) : (Nat × Nat) ⊕ List Byte :=
  let len := bodyLen h
  let lanes := headerLanes h
  if fieldOf h 0x3C 4 ≠ crc32c (h.take 0x3C ++ stored) then .inl (5, 0)
  else match s.clearBody n h stored with
    | none => .inl (6, 0)
    | some body =>
      if fieldOf h 0x14 2 ≠ s.rd pGrnd GRND_DID_DID n then .inl (7, 0)
      else if len < tableLen lanes then .inl (8, (overrunLane body lanes len).getD 0)
      else match overrunLane body lanes len with
        | some k => .inl (8, k)
        | none => .inr body

/-- A bale that passed its checks becomes usable. -/
def State.hopUsable (s : State) (n : Nat) (h body : List Byte) : State :=
  let total := 64 + bodyLen h
  let b : BaleOp := { idx := (s.hopo n).idx, nv := fieldOf h 0x0C 2 + 1, nlane := fieldOf h 0x0E 2, ctll := fieldOf h 6 2 / 2 % 2 = 1,
                      ctldef := fieldOf h 0x17 1, body := body, bytes := total, usable := s.now, lanes := [] }
  (s.modHop n fun o => { o with bales := o.bales ++ [b], idx := o.idx + 1, cur := o.cur.drop total }).count
    (0x100 + 8 * n + 2)

/-- The bale being assembled is checked: its header once that is there, the rest once the bale is complete. -/
def State.baleCheck (s : State) (n : Nat) : State :=
  let h := s.hopo n
  if h.failed.isSome || s.pastEnd n h.idx then s
  else if h.cur.length < 64 then (if h.curErr then s.hopFail n 12 0 h.idx else s)
  else
    let r := headerReason h.cur h.idx (s.channelsOf n).length
    if r ≠ 0 then s.hopFail n r 0 h.idx
    else
      let total := 64 + bodyLen h.cur
      if h.cur.length < total then (if h.curErr then s.hopFail n 12 0 h.idx else s)
      else match s.checkBale n (h.cur.take 64) ((h.cur.take total).drop 64) with
        | .inl (reason, lane) => s.hopFail n reason lane h.idx
        | .inr body => s.hopUsable n (h.cur.take 64) body

/-- BALE. -/
def execBaleCheck (n : Fin 32) (s : State) : Host.Outcome State Fault Refusal := .next (s.baleCheck n)

/-! ### Decoding (R215 to R219) -/

/-- The bale that a lane's Grinder decodes: the first usable one whose lane has neither ended nor failed. -/
def State.grinding (s : State) (n k : Nat) : Option BaleOp :=
  (s.hopo n).bales.find? fun b => decide (k < b.laneCount) && !(b.lane k).ended && (b.lane k).err = 0

/-- A lane of a bale changed. -/
def State.putLane (s : State) (n idx k : Nat) (l : Lane) : State :=
  s.modHop n fun h => { h with bales := h.bales.map fun b => if b.idx = idx then { b with lanes := tabPut {} b.lanes k l } else b }

/-- A lane fails with LENGTH or TOKEN; the bale's reported lane is the one R223 chooses. -/
def State.laneFail (s : State) (n : Nat) (b : BaleOp) (k reason : Nat) : State :=
  let s1 := s.putLane n b.idx k { b.lane k with err := reason }
  match s1.baleAt n b.idx with
  | some b1 =>
    let j := b1.badLane.getD k
    if (s.hopo n).failed = some (b.idx, (s.hopo n).failed.elim 0 (·.2)) then
      s1.hopError n (b1.lane j).err j b.idx (s.bit pHop HOP_ERR_USED n)
    else s1.hopFail n (b1.lane j).err j b.idx
  | none => s1

/-- Byte k of entry e of a lane's dictionary: that of its site-pin's channel, or of the sequencer's control lane. -/
def State.dictByte (s : State) (n : Nat) (b : BaleOp) (lane e k : Nat) : Byte :=
  let c := if lane < b.nlane then (s.channelsOf n).getD lane 0 else 320 + n
  memGet s.mem.dict (c * 0x800 + e % 256 * 8 + k)

/-- The eight history bytes, oldest first (R217). -/
def history (out : List Byte) : List Byte := ((out ++ List.replicate 8 0#8).take 8).reverse

/-- The bytes that an XOR token emits, newest first, on top of `out`. -/
def xorBytes (entry : List Byte) : Nat → List Byte → List Byte
  | 0, out => out
  | m + 1, out => xorBytes entry m (((history out).zipWith (· ^^^ ·) entry).reverse ++ out)

/-- The token at a lane's position: its type and parameter, its operand byte where it has one, and the bytes it takes. -/
structure Token where
  typ : Nat
  m : Nat
  /-- Operand byte. -/
  arg : Nat
  size : Nat
  /-- Bytes that it emits. -/
  emits : Nat

/-- The token that starts at a byte of a body. -/
def tokenAt (body : List Byte) (a : Nat) : Token :=
  let t := (body.getD a 0).toNat
  let typ := t / 32
  let m := t % 32
  let arg := (body.getD (a + 1) 0).toNat
  if typ = 1 then ⟨1, m, arg, m + 2, m + 1⟩
  else if typ = 2 then ⟨2, m, arg, 2, m * 256 + arg + 1⟩
  else if typ = 3 then ⟨3, m, arg, 2, 8 * (m + 1)⟩
  else if typ = 4 then ⟨4, m, arg, 2, 8 * (m + 1)⟩
  else ⟨typ, m, arg, 1, 0⟩

/-- The reason for which a token fails, 0 where it does not (R215, R218): `pos` of `len` stream bytes are consumed, and
`left` unit bytes are still to come. -/
def tokenReason (t : Token) (pos len left : Nat) : Nat :=
  if 5 ≤ t.typ then 9
  else if t.typ = 0 then
    if t.m ≠ 0 then 9 else if pos + 1 ≠ len then 8 else if left ≠ 0 then 8 else 0
  else if len < pos + t.size then 8
  else if left < t.emits then 8
  else 0

/-- The unit bytes of a lane after a token, newest first. -/
def State.emitToken (s : State) (n : Nat) (b : BaleOp) (lane : Nat) (t : Token) (a : Nat) (out : List Byte) : List Byte :=
  if t.typ = 1 then ((b.body.drop (a + 1)).take t.emits).reverse ++ out
  else if t.typ = 2 then List.replicate t.emits ((out.head?).getD 0#8) ++ out
  else if t.typ = 3 then ((List.range (t.m + 1)).flatMap fun i =>
    (List.range 8).map fun k => s.dictByte n b lane (t.arg + i) k).reverse ++ out
  else xorBytes ((List.range 8).map fun k => s.dictByte n b lane t.arg k) (t.m + 1) out

/-- The next token of a lane is decoded, where it is of a type that a test accepts. A lane that has run past its table
length without END fails with LENGTH. -/
def State.grind (s : State) (n lane : Nat) (want : Nat → Bool) : State :=
  match s.grinding n lane with
  | none => s
  | some b =>
    let l := b.lane lane
    let lanes := b.laneCount
    let len := laneLen b.body lane
    let a := laneStart b.body lanes lane + l.pos
    if len ≤ l.pos then s.laneFail n b lane 8
    else
      let t := tokenAt b.body a
      if !want t.typ then s
      else
        let r := tokenReason t l.pos len (b.units lane - l.out.length)
        if r ≠ 0 then s.laneFail n b lane r
        else
          let l1 : Lane := if t.typ = 0 then { l with pos := l.pos + 1, ended := true } else
            { l with pos := l.pos + t.size, out := s.emitToken n b lane t a l.out }
          (s.putLane n b.idx lane l1).count (0x100 + 8 * n + 6)

/-- END. -/
def execEndToken (n : Fin 32) (lane : Fin 321) (s : State) : Host.Outcome State Fault Refusal :=
  .next (s.grind n lane fun t => t = 0)

/-- LIT. -/
def execLitToken (n : Fin 32) (lane : Fin 321) (s : State) : Host.Outcome State Fault Refusal :=
  .next (s.grind n lane fun t => t = 1)

/-- REP. -/
def execRepToken (n : Fin 32) (lane : Fin 321) (s : State) : Host.Outcome State Fault Refusal :=
  .next (s.grind n lane fun t => t = 2)

/-- DICT. -/
def execDictToken (n : Fin 32) (lane : Fin 321) (s : State) : Host.Outcome State Fault Refusal :=
  .next (s.grind n lane fun t => t = 3)

/-- XOR. -/
def execXorToken (n : Fin 32) (lane : Fin 321) (s : State) : Host.Outcome State Fault Refusal :=
  .next (s.grind n lane fun t => t = 4)

/-- RESERVED_TOKEN. -/
def execReservedToken (n : Fin 32) (lane : Fin 321) (s : State) : Host.Outcome State Fault Refusal :=
  .next (s.grind n lane fun t => decide (5 ≤ t))

/-! ### BAR2 (R197 to R199, R219, R309, R310, R401, R547, R559) -/

/-- A Granary word cannot be reached: its bank is off, or its cluster is isolated. -/
def State.granGone (s : State) (w : Nat) : Bool := !s.domainOn (40 + s.granBank w) || s.clusterHeld (s.granBank w / 4)

/-- The 64-bit quarters that a write of `len` bytes touches. -/
def quarters (a len : Nat) : List Nat := if len = 0 then [] else (List.range ((a + len - 1) / 8 - a / 8 + 1)).map (a / 8 + ·)

/-- A quarter is covered whole. -/
def wholeQuarter (a len q : Nat) : Bool := decide (a ≤ 8 * q ∧ 8 * q + 8 ≤ a + len)

/-- A BAR2 or DMA access is counted once in each cluster that it reaches (R423). -/
def State.granAccessed (s : State) (qs : List Nat) : State :=
  ((qs.map fun q => s.granBank (q / 4) / 4).eraseDups).foldl (fun s c => s.count (0x3C1 + 4 * c)) s

/-- A write's own bytes and the errors that its fresh check bits remove, outside the banks that are gone. -/
def State.granStore (s : State) (a : Nat) (bs : List Byte) (qs : List Nat) : State :=
  let m := bs.zipIdx.foldl (fun m (b, i) => if s.granGone ((a + i) / 32) then m else memPut m (a + i) b) s.mem.gran
  let ue := qs.foldl (fun u q => if s.granGone (q / 4) then u else tabErase u q) s.mem.granErr
  { s with mem := { s.mem with gran := m, granErr := ue } }

/-- A write to a bank that is gone is dropped. -/
def State.granDrop (s : State) (qs : List Nat) : State :=
  if qs.any fun q => s.granGone (q / 4) then s.wr pGran GRAN_STAT_WDROP 1 else s

/-- A write to the Granary. -/
def State.granWrite (s : State) (a : Nat) (bs : List Byte) : State :=
  let qs := quarters a bs.length
  let part := qs.filter fun q => !wholeQuarter a bs.length q && !s.granGone (q / 4)
  match part.find? fun q => tabGet 0 s.mem.granErr q = 1 with
  | some q => (s.granError (q / 4)).wr pGran GRAN_STAT_WDROP 1
  | none =>
    (((s.granAccessed qs).granCorrect part).granStore a bs qs).granDrop qs

/-- The dictionary at a byte is locked (R219). -/
def State.dictLocked (s : State) (a : Nat) : Bool :=
  let d := a / 0x800
  if d < 320 then (match s.siteOf d with | some n => s.siteBusy n | none => false) else s.siteBusy (d - 320)

/-- A write to the Grinder dictionaries: bytes in a locked one are discarded. -/
def State.dictWrite (s : State) (a : Nat) (bs : List Byte) : State :=
  let m := bs.zipIdx.foldl (fun m (b, i) => if s.dictLocked (a + i) then m else memPut m (a + i) b) s.mem.dict
  let s1 := { s with mem := { s.mem with dict := m } }
  if bs.zipIdx.any fun (_, i) => s.dictLocked (a + i) then s1.wr pGran GRAN_STAT_WDROP 1 else s1

/-- A write to on-chip memory at a BAR2 offset, by any master. -/
def State.bar2Write (s : State) (a : Nat) (bs : List Byte) : State :=
  if a < 0x3000000 then (if s.bit pSec SEC_KSTAT_ZBUSY then s.wr pGran GRAN_STAT_WDROP 1 else s.granWrite a bs)
  else if a < 0x30B0000 then
    (if s.bit pSec SEC_KSTAT_ZBUSY then s.wr pGran GRAN_STAT_WDROP 1 else s.dictWrite (a - 0x3000000) bs)
  else if 0x3100000 ≤ a ∧ a < 0x3140000 then
    let n := s.rd pBrst BRST_LWSEL_SEL
    if s.domainOn (75 + n / 8) then
      s.bwPut (n * 0x40000 + (a - 0x3100000)) bs
    else s
  else if 0x3800000 ≤ a ∧ a < 0x4000000 then s.werr pGln
  else s

/-- The end of the BAR2 region, or of the reserved stretch, that holds an offset. -/
def bar2End (a : Nat) : Nat :=
  ([0x3000000, 0x30B0000, 0x3100000, 0x3140000, 0x3300000, 0x3308000, 0x3400000, 0x3800000].find? fun e => decide (a < e)).getD
    0x4000000

/-- A write that may reach across regions. -/
def State.bar2Put (s : State) (a : Nat) (bs : List Byte) : Nat → State
  | 0 => s
  | fuel + 1 =>
    if bs = [] ∨ 0x4000000 ≤ a then s
    else
      let k := bar2End a - a
      (s.bar2Write a (bs.take k)).bar2Put (a + k) (bs.drop k) fuel

/-- BAR2_WRITE: discarded until BOOT ends (R559). -/
def execBar2Write (a : BitVec 26) (bytes : List Byte) (s : State) : Host.Outcome State Fault Refusal :=
  .next (if s.mode ≤ 1 then s else s.bar2Put a.toNat bytes 10)

/-- A byte of on-chip memory as a read of a BAR2 offset returns it; bytes that cannot be reached read 0 (R199, R547). -/
def State.bar2Byte (s : State) (a : Nat) : Byte :=
  if a < 0x3000000 then (if s.granGone (a / 32) || s.bit pSec SEC_KSTAT_ZBUSY then 0 else memGet s.mem.gran a)
  else if a < 0x30B0000 then (if s.bit pSec SEC_KSTAT_ZBUSY then 0 else memGet s.mem.dict (a - 0x3000000))
  else if 0x3100000 ≤ a ∧ a < 0x3140000 then memGet s.mem.bw (s.rd pBrst BRST_LWSEL_SEL * 0x40000 + (a - 0x3100000))
  else if 0x3300000 ≤ a ∧ a < 0x3308000 then memGet s.mem.recHdr (a - 0x3300000)
  else if 0x3400000 ≤ a ∧ a < 0x3800000 then memGet s.mem.record (s.rd pAcq ACQ_WIN_HALF * 0x400000 + (a - 0x3400000))
  else if 0x3800000 ≤ a ∧ a < 0x4000000 then memGet s.mem.cap (a - 0x3800000)
  else 0

end Sys2Proof.Machine
end

