-- ==== Sys2Proof/Machine/Winnower.lean ====
section
/-! DEFINITION. The Winnower: its procedures, their units and commits (R346 to R370), and the calibration image (R371 to
R374, R392). -/

namespace Sys2Proof.Machine

open Reg

/-! ### Units and results (R347, R348, R352 to R354) -/

/-- The running procedure. -/
def State.winnProc (s : State) : Nat := s.rd pWinn WINN_STAT_PROC

/-- A procedure runs. -/
def State.winnRuns (s : State) : Bool := s.rd pWinn WINN_STAT_STATE = 1

/-- The mode permits a procedure: every one in CAL and FACTORY, all but DESKEW and MCSKEW in IDLE and RUN (R533, R553). -/
def State.winnMode (s : State) (proc : Nat) : Bool :=
  s.mode = 4 || s.mode = 7 || ((s.mode = 3 || s.mode = 5) && proc ≠ 5 && proc ≠ 7)

/-- A four-bit result of a channel in WINN_CRES. -/
def State.putCres (s : State) (c k reason : Nat) : State :=
  let old := s.rd pWinn WINN_CRES_REASON c
  s.wr pWinn WINN_CRES_REASON (old - bitsAt old (4 * k) 4 * 2 ^ (4 * k) + reason * 2 ^ (4 * k)) c

/-- The result of a unit of a procedure. -/
def State.putResult (s : State) (proc u reason : Nat) : State :=
  if proc = 1 then s.wr pWinn WINN_SRES_REASON reason u
  else if 2 ≤ proc ∧ proc ≤ 4 then s.putCres u (proc - 2) reason
  else if proc = 5 then (s.putCres u 3 reason).wr pWinn WINN_DSTAT_REASON reason u
  else if proc = 6 then s.wr pWinn WINN_LRES_REASON reason u
  else if proc = 9 ∨ proc = 10 then s.wr pWinn WINN_YRES_REASON reason u
  else s

/-- The valid bit of a unit for a procedure is set (R353). -/
def State.putValid (s : State) (proc u : Nat) : State :=
  if proc = 1 then s.wr pWinn WINN_SRES_VALID 1 u
  else if 2 ≤ proc ∧ proc ≤ 4 then s.wrBit pWinn WINN_CRES_VALID (proc - 2) true u
  else if proc = 5 then (s.wrBit pWinn WINN_CRES_VALID 3 true u).wr pWinn WINN_DSTAT_VALID 1 u
  else if proc = 6 then s.wr pWinn WINN_LRES_VALID 1 u
  else if proc = 10 then s.wr pWinn WINN_YRES_VALID 1 u
  else s

/-- Units leave the list of those to come. -/
def State.winnDrop (s : State) (us : List Nat) : State :=
  { s with winn := { s.winn with todo := s.winn.todo.filter fun u => !us.contains u } }

/-- A unit ends without a commit: its result, the count, and the procedure's reason if it is the first (R354). -/
def State.unitFails (s : State) (u reason : Nat) : State :=
  let s1 := (((s.putResult s.winnProc u reason).satAdd pWinn WINN_NFAIL_NFAIL 1).count 0x39B).winnDrop [u]
  if s1.rd pWinn WINN_STAT_REASON = 0 then s1.wr pWinn WINN_STAT_REASON reason else s1

/-- A unit commits. -/
def State.unitOk (s : State) (u : Nat) : State :=
  (((s.putResult s.winnProc u 0).putValid s.winnProc u).count 0x39A).winnDrop [u]

/-! ### A start (R346, R347, R352) -/

/-- The mask of sheaves that WINN_ARG0 and WINN_ARG1 name. -/
def State.argSheaves (s : State) : Nat := s.rd pWinn WINN_ARG0_ARG + s.rd pWinn WINN_ARG1_ARG % 256 * 2 ^ 32

/-- PROC or an argument is reserved. -/
def State.winnBadArg (s : State) (proc : Nat) : Bool :=
  let a := s.rd pWinn WINN_ARG0_ARG
  proc = 0 || decide (10 < proc) || (proc = 1 && decide (16 ≤ a))
  || (decide (2 ≤ proc ∧ proc ≤ 5) && decide (256 ≤ s.rd pWinn WINN_ARG1_ARG)) || (proc = 8 && decide (1024 ≤ a))
  || (decide (9 ≤ proc) && decide (a - bitsAt a 8 1 * 256 ≥ 16))

/-- AS3 is available to the procedures that convert through it (R353). -/
def State.as3Free (s : State) : Bool :=
  s.pageState (pAs 3) = 4 && !s.pageBusy (pAs 3) && s.rd (pAs 3) AS_CFG_OWNER = 0 && (s.groupOf 3).length = 1

/-- A unit is available: idle, with the AS3 and the bus that the procedure needs (R347, R353). -/
def State.unitFree (s : State) (proc u : Nat) : Bool :=
  if proc = 1 then s.pageState (pAs u) = 4 && !s.pageBusy (pAs u)
  else if proc ≤ 5 then
    let k := u / 8
    s.pageState (pSh k) = 4 && !s.busyCond (pSh k)
      && (proc = 5 || (s.as3Free && !bitAt (s.rd pAscan ASCAN_ABUS_OWN) (k / 5)))
  else if proc = 6 then s.sqState u = stIdle
  else if 9 ≤ proc then s.as3Free
  else true

/-- A unit has its prerequisite (R352). -/
def State.unitReady (s : State) (proc u : Nat) : Bool :=
  if proc = 2 ∨ proc = 9 then s.bit pWinn WINN_SRES_VALID 3
  else if 3 ≤ proc ∧ proc ≤ 5 then bitAt (s.rd pWinn WINN_CRES_VALID u) (proc - 3)
  else if proc = 10 then s.bit pWinn WINN_YRES_ZDONE u
  else true

/-- The units that a procedure names. -/
def State.unitsOf (s : State) (proc sites : Nat) : List Nat :=
  let a := s.rd pWinn WINN_ARG0_ARG
  if proc = 1 then setBits a 4
  else if proc ≤ 5 then (setBits s.argSheaves 40).flatMap fun k => (List.range 8).map (8 * k + ·)
  else if proc = 6 then setBits sites 32
  else if proc = 7 then [0]
  else if proc = 8 then setBits a 10
  else [a % 16]

/-- A mask from numbers. -/
def maskOf (ns : List Nat) : Nat := ns.foldl (fun m n => setBit m n true) 0

/-- The procedure takes its units: those that are not available read BUSY, those without their prerequisite ORDER, and
the others are held (R347). -/
def State.winnTake (s : State) (proc sites : Nat) : State :=
  let us := s.unitsOf proc sites
  let free := us.filter (s.unitFree proc)
  let take := free.filter (s.unitReady proc)
  let s1 : State := { s with winn := { s.winn with
    sheaves := if 2 ≤ proc ∧ proc ≤ 5 then maskOf (take.map (· / 8)) else 0
    sites := if proc = 6 then maskOf take else 0
    slices := if proc = 1 then maskOf take else if (2 ≤ proc ∧ proc ≤ 4) ∨ 9 ≤ proc then (if take = [] then 0 else 8) else 0
    todo := us, startAt := s.now, mc := proc = 7, mcLost := false, farPhase := if proc = 7 then s.winn.farPhase else [] } }
  let s2 := (us.filter fun u => !free.contains u).foldl (fun s u => s.unitFails u 1) s1
  (free.filter fun u => !take.contains u).foldl (fun s u => s.unitFails u 2) s2

/-- The procedure starts. -/
def State.winnBegin (s : State) (proc sites : Nat) : State :=
  let s1 := ((s.wr pWinn WINN_STAT_STATE 1).wr pWinn WINN_STAT_REASON 0).wr pWinn WINN_STAT_PROC proc
  let s2 := ((s1.wr pWinn WINN_STAT_RESTARTS 0).wr pWinn WINN_NFAIL_NFAIL 0).count 0x398
  let s3 := if proc = 1 then s2.wr pWinn WINN_QADC_ADC 0 else if proc = 5 then s2.wr pWinn WINN_QEDGE_EDGE 0 else s2
  s3.winnTake proc sites

/-- A start is refused with a reason. -/
def State.winnRefuse (s : State) (reason : Nat) : State := (s.wr pWinn WINN_STAT_SREF 1).wr pWinn WINN_STAT_REASON reason

/-- START (R346, R369). -/
def State.winnStart (s : State) : State :=
  let proc := s.rd pWinn WINN_PROC_PROC
  if s.winnRuns || s.winn.img.isSome || s.winn.due ≠ 0 then s.winnRefuse 1
  else if s.winnBadArg proc then s.winnRefuse 9
  else if !s.winnMode proc then s.winnRefuse 11
  else s.winnBegin proc (s.rd pWinn WINN_ARG0_ARG)

/-! ### The end of a procedure (R347, R350, R351) -/

/-- Pages that wait for an automatic LOOP run of their sites have been restored with it (R512, R590). -/
def State.loopRestored (s : State) (n : Nat) : State :=
  let done := fun (s : State) p => s.modPage p fun o => { o with restoring := false }
  ((List.range 40).filter fun k => (s.sitesOfSheaf k).contains n).foldl (fun s k => done s (pSh k)) (done s (pSq n))

/-- The procedure ends: its units are released, DONE or FAIL, host cause WINN. -/
def State.winnEnd (s : State) : State :=
  let ran := if s.winnProc = 6 then setBits s.winn.sites 32 else []
  let s1 := (s.wr pWinn WINN_STAT_STATE (if s.rd pWinn WINN_NFAIL_NFAIL = 0 then 2 else 3)).raiseCause 19
  let s2 : State := { s1 with winn := { s1.winn with
    sheaves := 0, sites := 0, slices := 0, todo := [], mc := false, mcLost := false, farPhase := [],
    farLoop := if s.winnProc = 6 then [] else s1.winn.farLoop } }
  ran.foldl State.loopRestored s2

/-- PROCEDURE_END: no unit is left. -/
def execProcedureEnd (s : State) : Host.Outcome State Fault Refusal :=
  .next (if s.winnRuns && s.winn.todo.isEmpty then s.winnEnd else s)

/-- Every unit that is left ends with a reason, and with them the procedure. -/
def State.winnStop (s : State) (reason : Nat) : State := (s.winn.todo.foldl (fun s u => s.unitFails u reason) s).winnEnd

/-- A write of WINN_CTL. -/
def State.winnCtlWrite (s : State) (r : Requester) (word : Nat) : State :=
  s.writeWith r pWinn 0x40 word fun s =>
    let s1 := if bitAt word 0 then s.winnStart else s
    if bitAt word 1 && s1.winnRuns then s1.winnStop 7 else s1

def execWinnAbort (r : Requester) (s : State) : Host.Outcome State Fault Refusal := .next (s.winnCtlWrite r 2)

/-- A start of one procedure: the write of START while WINN_PROC names it. -/
def State.winnProcStart (s : State) (r : Requester) (proc : Nat) : State :=
  if s.rd pWinn WINN_PROC_PROC = proc then s.winnCtlWrite r 1 else s

def execConvProcedure (r : Requester) (s : State) : Host.Outcome State Fault Refusal := .next (s.winnProcStart r 1)
def execLevelProcedure (r : Requester) (s : State) : Host.Outcome State Fault Refusal := .next (s.winnProcStart r 2)
def execCmpProcedure (r : Requester) (s : State) : Host.Outcome State Fault Refusal := .next (s.winnProcStart r 3)
def execImpProcedure (r : Requester) (s : State) : Host.Outcome State Fault Refusal := .next (s.winnProcStart r 4)
def execDeskewProcedure (r : Requester) (s : State) : Host.Outcome State Fault Refusal := .next (s.winnProcStart r 5)
def execLoopCalibration (r : Requester) (s : State) : Host.Outcome State Fault Refusal := .next (s.winnProcStart r 6)
def execMcskewProcedure (r : Requester) (s : State) : Host.Outcome State Fault Refusal := .next (s.winnProcStart r 7)
def execEyeProcedure (r : Requester) (s : State) : Host.Outcome State Fault Refusal := .next (s.winnProcStart r 8)
def execSyszProcedure (r : Requester) (s : State) : Host.Outcome State Fault Refusal := .next (s.winnProcStart r 9)
def execSysfProcedure (r : Requester) (s : State) : Host.Outcome State Fault Refusal := .next (s.winnProcStart r 10)

/-- AUTO_LOOP: the LOOP run that is due starts over its sites, once the Winnower is free and the mode allows it (R364,
R369, R533). -/
def execAutoLoop (s : State) : Host.Outcome State Fault Refusal :=
  if s.winn.due ≠ 0 && !s.winnRuns && s.winn.img.isNone && s.winnMode 6 && s.pageState pWinn = 4 then
    .next ({ s with winn := { s.winn with due := 0 } }.winnBegin 6 s.winn.due)
  else .next s

/-- A fault reaction reaches held units, or an interrupt abandons the routine: the procedure starts again over the units
that are left, without those that were isolated; after the fourth restart it ends (R351, R384). -/
def State.winnAbandon (s : State) (lost : Nat → Bool) : State :=
  if !s.winnRuns then s
  else
    let s1 := (s.winn.todo.filter lost).foldl (fun s u => s.unitFails u 8) (s.ucAbandon 8 0)
    if 4 ≤ s1.rd pWinn WINN_STAT_RESTARTS then s1.winnStop 8
    else (s1.satAdd pWinn WINN_STAT_RESTARTS 1).count 0x399

/-! ### Commits (R348, R353, R357 to R367) -/

/-- The magnitude of a two's complement number of w bits. -/
def absOf (w v : Nat) : Nat := (toSigned w v).natAbs

/-- The difference between the largest and the smallest of some numbers. -/
def spreadOf : List Int → Nat
  | [] => 0
  | x :: xs => ((xs.foldl max x) - (xs.foldl min x)).toNat

/-- The reason of an external voltage reference under EXTREF: absent, or beyond ±2 % of WINN_VREF (R354, R355). -/
def State.vrefReason (s : State) (v : Option Nat) : Nat :=
  if !s.bit pWinn WINN_PROC_EXTREF then 0
  else match v with
    | none => 3
    | some x =>
      let d := s.rd pWinn WINN_VREF_VREF * 50
      if d < 50 * ((x : Int) - d).natAbs then 12 else 0

/-- A calibration value has changed: the set is no longer the factory's (R374). -/
def State.calChanged (s : State) : State := { s with winn := { s.winn with factory := false } }

/-- A voltage calibration records whether it used external references (R355). -/
def State.traced (s : State) : State := { s with winn := { s.winn with trace := s.bit pWinn WINN_PROC_EXTREF } }

/-- The reason of a slice's measurement under CONV (R357). -/
def convReason (m : ConvMeas) : Nat :=
  let g := m.gain.toNat
  if 256 < absOf 16 m.ofs.toNat || decide (g < 127140) || decide (135004 < g) || decide (200 < absOf 9 m.skew.toNat) then 4
  else if 48 < m.noise then 5
  else if 8 < m.residOfs || 32 < m.residGain || 3 < m.residSkew then 6
  else 0

/-- A slice's trims (R359). -/
def State.putConv (s : State) (m : ConvMeas) : State :=
  let p := pAs m.slice
  ((s.wr p AS_CALA_OFS m.ofs.toNat).wr p AS_CALB_GAIN m.gain.toNat).wr p AS_SKEW_SKEW m.skew.toNat

/-- CONV: the slices of an interleave group commit together or not at all (R348). -/
def State.commitConv (s : State) (ms : List ConvMeas) (vref : Option Nat) : State :=
  match ms with
  | [] => s
  | m0 :: _ =>
    let us := ms.map fun m => m.slice.val
    let named := (s.groupOf m0.slice).filter s.winn.todo.contains
    if us.any (fun u => !named.contains u) || named.any (fun u => !us.contains u) then s
    else
      let worst := ms.foldl (fun w m => max w (max m.residOfs m.residGain)) (s.rd pWinn WINN_QADC_ADC)
      let s1 := s.wr pWinn WINN_QADC_ADC (min worst 65535)
      let reasons := (ms.map convReason).filter (· ≠ 0)
      let reason := if s.vrefReason vref ≠ 0 then s.vrefReason vref else reasons.headD 0
      if reason ≠ 0 then us.foldl (fun s u => s.unitFails u reason) s1
      else (us.foldl State.unitOk (ms.foldl State.putConv s1)).traced.calChanged

/-- A unit commits with its values, or fails with a reason. -/
def State.unitDecide (s : State) (u reason : Nat) (put : State → State) : State :=
  if reason ≠ 0 then s.unitFails u reason else (put s).unitOk u

/-- LEVEL (R357, R360): gains in 2^-13, offsets of 62.5 µV and 78.125 µV. -/
def State.commitLevel (s : State) (c dgain dofs cgain cofs noise resid : Nat) (vref : Option Nat) : State :=
  let bad := decide (98 < absOf 8 dgain) || decide (98 < absOf 8 cgain) || decide (96 < absOf 8 dofs) || decide (76 < absOf 8 cofs)
  let reason := if s.vrefReason vref ≠ 0 then s.vrefReason vref
    else if bad then 4 else if 500 < noise then 5 else if 1000 < resid then 6 else 0
  s.unitDecide c reason fun s =>
    let p := pSh (c / 8)
    let i := c % 8
    ((((s.wr p CH_CALL_DGAIN dgain i).wr p CH_CALL_DOFS dofs i).wr p CH_CALL_CGAIN cgain i).wr p CH_CALL_COFS cofs i).traced.calChanged

/-- CMP (R357, R360): offsets of 39.0625 µV. -/
def State.commitCmp (s : State) (c ofsA ofsB width resid : Nat) : State :=
  let reason := if 384 < absOf 10 ofsA ∨ 384 < absOf 10 ofsB then 4 else if 1000 < width then 5 else if 500 < resid then 6 else 0
  s.unitDecide c reason fun s =>
    ((s.wr (pSh (c / 8)) CH_CALC_OFSA ofsA (c % 8)).wr (pSh (c / 8)) CH_CALC_OFSB ofsB (c % 8)).calChanged

/-- IMP (R357, R360). -/
def State.commitImp (s : State) (c ztrim zres before spread : Nat) : State :=
  let reason := if before < 40000 ∨ 60000 < before then 4 else if 200 < spread then 5 else if 8 < absOf 8 zres then 6 else 0
  s.unitDecide c reason fun s =>
    ((s.wr (pSh (c / 8)) CH_CALZ_ZTRIM ztrim (c % 8)).wr (pSh (c / 8)) CH_CALZ_ZRES zres (c % 8)).calChanged

/-- The median of three numbers. -/
def median3 (x : Int × Int × Int) : Int := max (min x.1 x.2.1) (min (max x.1 x.2.1) x.2.2)

/-- The fixture delay of a channel in signed grains (R356). -/
def State.fixOf (s : State) (c : Nat) : Int := toSigned 24 (s.rd pWinn WINN_FIX_FIX c)

/-- CORR of edge e (R362): a strobe's median less the fixture's delay, or a drive edge's position less where it is found. -/
def State.corrOf (s : State) (c e : Nat) (m : EdgeMeas) : Int :=
  if 4 ≤ e then median3 m.sweeps - s.fixOf c else m.at_ - median3 m.sweeps

/-- RES of edge e: the verified position less the target. -/
def State.resOf (s : State) (c e : Nat) (m : EdgeMeas) : Int := m.verified - (if 4 ≤ e then s.fixOf c else m.at_)

/-- DESKEW (R357, R358, R362, R363). -/
def State.commitDeskew (s : State) (c : Nat) (tref : Bool) (edges : List EdgeMeas) (mon2 : Nat) : State :=
  if edges.length ≠ 6 then s
  else
    let es := edges.zipIdx.map fun x => (x.2, x.1)
    let worst := es.foldl (fun w x => max w (s.resOf c x.1 x.2).natAbs) 0
    let reason := if !tref then 3
      else if es.any fun x => decide (1536 < (s.corrOf c x.1 x.2).natAbs) then 4
      else if es.any fun x => decide (6 < spreadOf [x.2.sweeps.1, x.2.sweeps.2.1, x.2.sweeps.2.2]) then 5
      else if 12 < worst then 6 else 0
    s.unitDecide c reason fun s =>
      let s1 := es.foldl (fun s' x => (s'.wr pWinn WINN_DSK_CORR (ofSigned 16 (s.corrOf c x.1 x.2)) c x.1).wr pWinn WINN_DSK_RES
        (ofSigned 8 (s.resOf c x.1 x.2)) c x.1) s
      let s2 := (s1.wr pWinn WINN_DSTAT_WORST worst c).wr pWinn WINN_QEDGE_EDGE (max worst (s.rd pWinn WINN_QEDGE_EDGE))
      { (s2.wr pWinn WINN_DTEMP_DTEMP mon2).calChanged with winn := { s2.calChanged.winn with deskewed := true } }

/-- The largest of some numbers. -/
def maxOf (xs : List Nat) : Nat := xs.foldl max 0

/-- Other chips of this chip's group with a part of a span. -/
def State.spanChips (s : State) (sp : Nat) : List Nat :=
  (List.range 16).filter fun c => c ≠ s.rd pClk GRP_CFG_CHIP_ID && tabGet 0 s.clk.spanParts (sp * 16 + c) ≠ 0

/-- LOOP of a site (R184, R357, R364). A span part sends its value once, and commits when every other part has sent its own. -/
def State.commitLoop (s : State) (n : Nat) (markers : List (List Nat)) : State :=
  let none_ := (s.channelsOf n).isEmpty
  let acq := markers.map maxOf
  let own := maxOf acq
  let noisy := decide (1 < spreadOf (acq.map Int.ofNat))
  if !s.inSpan n then
    let v := if none_ then 48 * fcG else own
    let reason := if none_ then 0 else if v < 40 * fcG ∨ 64 * fcG < v then 4 else if noisy then 5 else 0
    s.unitDecide n reason fun s => s.wr (pSq n) SQ_TLOOP_T v
  else
    let sp := s.rd pClk SPAN_CFG_SPAN n
    let key := fun c => sp * 16 + c
    let me := s.rd pClk GRP_CFG_CHIP_ID
    let told := (tabFind s.winn.farLoop (key me)).isSome
    let s1 : State := if told then s
      else { s.amlSend (.cal (.loop (Fin.ofNat 16 sp) own)) with winn := { s.winn with farLoop := tabInsert s.winn.farLoop (key me) own } }
    if (s.spanChips sp).any fun c => (tabFind s1.winn.farLoop (key c)).isNone then s1
    else
      let v := maxOf ((me :: s.spanChips sp).map fun c => tabGet 0 s1.winn.farLoop (key c)) + 8 * fcG
      s1.unitDecide n (if v < 80 * fcG ∨ 128 * fcG < v then 4 else if noisy then 5 else 0) fun s => s.wr (pSq n) SQ_TLOOP_T v

/-- The other chips of GRP_CFG.CHIPS. -/
def State.groupChips (s : State) : List Nat :=
  (List.range 16).filter fun c => c ≠ s.rd pClk GRP_CFG_CHIP_ID && bitAt (s.rd pClk GRP_CFG_CHIPS) c

/-- MCSKEW (R357, R365): this chip's phase and reason go to the group once; when every chip has sent its own, all commit, or
each reports the reason of the lowest chip that failed. A chip that is missing after 100 ms, unreachable or lost gives LINK. -/
def State.commitMcskew (s : State) (tref : Bool) (phase : Int) (fctrim dly spread resid : Nat) : State :=
  let me := s.rd pClk GRP_CFG_CHIP_ID
  let others := s.groupChips
  let lead := others.all fun c => decide (me < c)
  let own := if !tref then 3
    else if !lead && (decide (461 < absOf 11 fctrim) || decide (64 * fcG < dly)) then 4
    else if 6 < spread then 5 else if 15 < resid then 6 else 0
  let has := fun (s : State) c => s.winn.farPhase.any fun x => x.1 = c
  let s1 : State := if has s me then s
    else { s.amlSend (.cal (.mcskew phase own)) with winn := { s.winn with farPhase := (me, phase, own) :: s.winn.farPhase } }
  let gone := s.winn.mcLost || others.any fun c => bitAt s.clk.unreachable c
  let missing := others.any fun c => !has s1 c
  if gone || (missing && decide (s.winn.startAt + 100 * msG ≤ s.now)) then s1.unitFails 0 10
  else if missing then s1
  else
    let bad := (List.range 16).findSome? fun c => (s1.winn.farPhase.find? fun x => x.1 = c && x.2.2 ≠ 0).map fun x => x.2.2
    s1.unitDecide 0 (bad.getD 0) fun s =>
      let s2 := if lead then s else (s.wr pWinn WINN_FCTRIM_FCTRIM fctrim).wr pClk SYNC_DLY_DLY dly
      (s2.wr pClk SYNC_STAT_UNCAL 0).wr pWinn WINN_QEDGE_SKEW (min resid 255)

/-- A receive lane is up (R366). -/
def State.laneUp (s : State) (l : Nat) : Bool :=
  if l < 8 then s.pageState (pAml (l / 2)) = 4 && (s.amlState (l / 2) = 3 || s.amlState (l / 2) = 4)
  else s.pageState (pEth (l - 8)) = 4 && s.bit (pEth (l - 8)) ETH_STAT_LINK

/-- EYE of a lane (R366). -/
def State.commitEye (s : State) (l width : Nat) : State :=
  if s.laneUp l then
    (((s.wr pWinn WINN_EYE_WIDTH width l).wr pWinn WINN_EYE_LOW (b2n (decide (width * 10 < 3072))) l).wr pWinn WINN_EYE_VALID 1 l).unitOk l
  else (s.wr pWinn WINN_EYE_VALID 0 l).unitOk l

/-- SYSZ of set i (R357, R367). -/
def State.commitSysz (s : State) (i : Nat) (mean : Int) (noise : Nat) : State :=
  s.unitDecide i (if 64 < noise then 5 else 0) fun s =>
    let s1 := (s.wr pWinn WINN_SZMEAN_SZMEAN (ofSigned 32 mean)).wr pWinn WINN_YRES_ZDONE 1 i
    { s1 with winn := { s1.winn with zeros := tabPut 0 s1.winn.zeros i mean } }

/-- GAIN of a set from its zero and full-scale points (R367). -/
def sysGain (sfull z f : Int) : Int :=
  let n := sfull * 131072 * 256
  if f < z then roundDiv (-n) (z - f).toNat else roundDiv n (f - z).toNat

/-- SYSF of set i: the zero point is consumed whatever the result (R357, R367). -/
def State.commitSysf (s : State) (i : Nat) (f : Int) (noise : Nat) : State :=
  let z := tabGet 0 s.winn.zeros i
  let ofs := roundDiv z 64
  let gain := sysGain (toSigned 16 (s.rd pWinn WINN_SFULL_SFULL)) z f
  let reason := if (f - z).natAbs < 262144 ∨ 2048 < ofs.natAbs ∨ gain < 98304 ∨ 163839 < gain then 4 else if 64 < noise then 5 else 0
  (s.wr pWinn WINN_YRES_ZDONE 0 i).unitDecide i reason fun s =>
    ((s.wr pAscan ASYS_OFS_OFS (ofSigned 16 ofs) i).wr pAscan ASYS_GAIN_GAIN gain.toNat i).calChanged

/-- The procedure that a measurement belongs to. -/
def measProc : UnitMeas → Nat
  | .conv _ _ => 1 | .level .. => 2 | .cmp .. => 3 | .imp .. => 4 | .deskew .. => 5 | .loop .. => 6 | .mcskew .. => 7
  | .eye .. => 8 | .sysz .. => 9 | .sysf .. => 10

/-- The unit that a measurement belongs to; the first of a group of slices. -/
def measUnit (s : State) : UnitMeas → Nat
  | .conv ms _ => match ms with | m :: _ => m.slice | [] => 4
  | .level c .. => c
  | .cmp c .. => c
  | .imp c .. => c
  | .deskew c .. => c
  | .loop n _ => n
  | .mcskew .. => 0
  | .eye l _ => l
  | .sysz .. => s.rd pWinn WINN_ARG0_ARG % 16
  | .sysf .. => s.rd pWinn WINN_ARG0_ARG % 16

/-- A unit of the running procedure reaches its commit point with what was measured of it. -/
def State.unitCommit (s : State) (m : UnitMeas) : State :=
  match m with
  | .conv ms v => s.commitConv ms v
  | .level c dg df cg cf noise resid v => s.commitLevel c dg.toNat df.toNat cg.toNat cf.toNat noise resid v
  | .cmp c a b w r => s.commitCmp c a.toNat b.toNat w r
  | .imp c z zr bf sp => s.commitImp c z.toNat zr.toNat bf sp
  | .deskew c t es mon2 => s.commitDeskew c t es mon2.toNat
  | .loop n ms => s.commitLoop n ms
  | .mcskew t ph fc dly sp r => s.commitMcskew t ph fc.toNat dly sp r
  | .eye l w => s.commitEye l w.toNat
  | .sysz mean noise => s.commitSysz (measUnit s m) mean noise
  | .sysf mean noise => s.commitSysf (measUnit s m) mean noise

def execUnitCommit (m : UnitMeas) (s : State) : Host.Outcome State Fault Refusal :=
  .next (if s.winnRuns && s.winnProc = measProc m && s.winn.todo.contains (measUnit s m) then s.unitCommit m else s)

/-! ### The calibration image (R371 to R374, R392) -/

/-- A section: its type, its count, and its words. -/
structure ImgSection where
  typ : Nat
  count : Nat
  words : List Nat
  deriving DecidableEq, Repr

/-- `n` 32-bit words of some bytes. -/
def wordsOf (bs : List Byte) : Nat → List Nat
  | 0 => []
  | n + 1 => leNat (bs.take 4) :: wordsOf (bs.drop 4) n

/-- The sections of an image body, `n` of them; none where they do not fill it exactly. -/
def sectionsOf : Nat → List Byte → Option (List ImgSection)
  | 0, bs => if bs.isEmpty then some [] else none
  | n + 1, bs =>
    let count := leNat ((bs.drop 2).take 2)
    if bs.length < 8 + 4 * count then none
    else (sectionsOf n (bs.drop (8 + 4 * count))).map fun ss =>
      { typ := leNat (bs.take 2), count := count, words := wordsOf (bs.drop 8) count } :: ss

/-- COUNT of a known section type. -/
def sectionCount (t : Nat) : Option Nat :=
  if t = 1 then some 960 else if t = 2 then some 2560 else if t = 3 then some 12 else if t = 4 then some 32 else none

/-- A section holds a value that is reserved for its field. -/
def ImgSection.reserved (x : ImgSection) : Bool :=
  let bad := fun (g : Nat) => decide (g < 98304) || decide (163839 < g)
  let at_ := fun (m : Nat) (r : Nat) => (x.words.zipIdx.filter fun w => w.2 % m = r).map (·.1)
  (x.typ = 3 && (at_ 3 1).any fun w => bad (w % 2 ^ 18)) || (x.typ = 4 && (at_ 2 1).any fun w => bad (w % 2 ^ 18))

/-- Some unit that a section writes is not idle. -/
def State.sectionBusy (s : State) (x : ImgSection) : Bool :=
  if x.typ = 1 ∨ x.typ = 2 then (List.range 40).any fun k => s.busyCond (pSh k)
  else if x.typ = 3 then (List.range 4).any fun n => s.busyCond (pAs n)
  else if x.typ = 4 then s.busyCond pAscan
  else false

/-- The CRC of an image (R221, R371). -/
def imageCrc (bs : List Byte) : Nat := crc32c (bs.take 60 ++ bs.drop 64)

/-- Why an image is refused, 0 where it is not, with its sections. -/
def State.imageReason (s : State) (bs : List Byte) : Nat × List ImgSection :=
  let f := fun off n => leNat ((bs.drop off).take n)
  match sectionsOf (f 0x0C 4) (bs.drop 64) with
  | r =>
    let ss := r.getD []
    let shape := f 8 4 ≠ bs.length || r.isNone || ss.any (fun x => match sectionCount x.typ with | some c => c ≠ x.count | none => false)
      || !(ss.map (·.typ)).Nodup
    let reason := if bs.length < 64 then 5
      else if f 0 4 ≠ 0x4E495754 then 1
      else if f 4 1 ≠ 1 then 2
      else if imageCrc bs ≠ f 0x3C 4 then 3
      else if f 0x10 4 ≠ s.rd pDev DEV_SERL_SER ∨ f 0x14 4 ≠ s.rd pDev DEV_SERH_SER ∨ f 0x18 2 ≠ 0xA1 then 4
      else if shape then 5
      else if ss.any ImgSection.reserved then 6
      else if s.winnRuns || ss.any s.sectionBusy then 7
      else 0
    (reason, ss)

/-- A whole register of a page set, field by field. -/
def State.putWord (s : State) (p : Page) (off word : Nat) : State :=
  (fieldsAt p.kind off).foldl (fun s fa => s.wr p fa.f (bitsAt word fa.f.lo fa.f.width) fa.i fa.j) s

/-- The register that word i of a section holds. -/
def sectionReg (typ i : Nat) : Page × Nat :=
  if typ = 1 then (pSh (i / 24), 0x128 + i / 3 % 8 * 0x40 + 4 * (i % 3))
  else if typ = 2 then (pWinn, 0x1000 + i / 8 * 0x20 + 4 * (i % 8))
  else if typ = 3 then (pAs (i / 3), (if i % 3 = 2 then 0xC8 else 0xC0 + 4 * (i % 3)))
  else (pAscan, 0x100 + 8 * (i / 2) + 4 * (i % 2))

/-- A section's values and valid bits (R353, R373). A section of another type is skipped. -/
def State.putSection (s : State) (x : ImgSection) : State :=
  if (sectionCount x.typ).isNone then s.wr pWinn WINN_IMG_STAT_SKIP 1
  else
    let s1 := x.words.zipIdx.foldl (fun s w => let r := sectionReg x.typ w.2; s.putWord r.1 r.2 w.1) s
    if x.typ = 1 then (List.range 320).foldl (fun s c => s.wr pWinn WINN_CRES_VALID (s.rd pWinn WINN_CRES_VALID c ||| 7) c) s1
    else if x.typ = 2 then (List.range 320).foldl (fun s c => s.wrBit pWinn WINN_CRES_VALID 3 true c) s1
    else if x.typ = 3 then (List.range 4).foldl (fun s n => s.wr pWinn WINN_SRES_VALID 1 n) s1
    else (List.range 16).foldl (fun s i => s.wr pWinn WINN_YRES_VALID 1 i) s1

/-- An image is loaded, or refused with its reason (R373). -/
def State.loadImage (s : State) (bs : List Byte) (readOk : Bool) : State :=
  if !readOk then s.wr pWinn WINN_IMG_STAT_REASON 8
  else
    let (reason, ss) := s.imageReason bs
    let s1 := s.wr pWinn WINN_IMG_STAT_REASON reason
    if reason ≠ 0 then s1
    else
      let flags := leNat ((bs.drop 6).take 2)
      let s2 := (ss.foldl State.putSection s1).wr pWinn WINN_IMG_STAT_ORIGIN (flags % 2)
      { s2 with winn := { s2.winn with trace := bitAt flags 1, factory := flags % 2 = 0 } }

/-- A whole register as its fields hold it. -/
def State.rawWord (s : State) (p : Page) (off : Nat) : Nat :=
  ((fieldsAt p.kind off).map fun fa => s.rd p fa.f fa.i fa.j * 2 ^ fa.f.lo).sum

/-- A section of the active values. -/
def State.sectionBytes (s : State) (typ count : Nat) : List Byte :=
  leBytes 2 typ ++ leBytes 2 count ++ leBytes 4 0
    ++ (List.range count).flatMap fun i => let r := sectionReg typ i; leBytes 4 (s.rawWord r.1 r.2)

/-- The active values as a full image of 14,352 bytes (R371, R372, R374). -/
def State.image (s : State) : List Byte :=
  let body := s.sectionBytes 1 960 ++ s.sectionBytes 2 2560 ++ s.sectionBytes 3 12 ++ s.sectionBytes 4 32
  let head := leBytes 4 0x4E495754 ++ leBytes 1 1 ++ leBytes 1 0 ++ leBytes 2 (b2n (!s.winn.factory) + 2 * b2n s.winn.trace)
    ++ leBytes 4 14352 ++ leBytes 4 4 ++ leBytes 4 (s.rd pDev DEV_SERL_SER) ++ leBytes 4 (s.rd pDev DEV_SERH_SER) ++ leBytes 2 0xA1
    ++ leBytes 2 0 ++ leBytes 12 (s.stampAt s.now) ++ leBytes 2 (s.rd pWinn WINN_DTEMP_DTEMP) ++ leBytes 18 0
  head ++ leBytes 4 (crc32c (head ++ body)) ++ body

/-- The image header in the flash is erased (R392). -/
def State.flashErase (s : State) : State := { s with mem := { s.mem with flash := memPutBytes s.mem.flash 0 (leBytes 64 0) } }

/-- What the flash holds at offset 0: nothing while its header is erased. -/
def State.flashImage (s : State) : Option (List Byte) :=
  if memNat s.mem.flash 0 64 = 0 then none else some (memBytes s.mem.flash 0 (min (memNat s.mem.flash 8 4) 65536))

/-- An image operation starts, or is refused as BUSY while the Winnower runs something (R373, R374). -/
def State.imageStart (s : State) (k : Nat) : State :=
  if s.winnRuns || s.winn.img.isSome then s.wr pWinn WINN_IMG_STAT_REASON 7
  else
    let s1 : State := { s.wr pWinn WINN_IMG_STAT_BUSY 1 with winn := { s.winn with img := some k } }
    if k = 3 then s1.flashErase else s1

/-- A write of WINN_IMG_CTL. -/
def State.imgCtlWrite (s : State) (r : Requester) (word : Nat) : State :=
  s.writeWith r pWinn 0x100 word fun s => (setBits word 4).foldl State.imageStart s

def execImgload (r : Requester) (s : State) : Host.Outcome State Fault Refusal := .next (s.imgCtlWrite r 2)
def execFlashload (r : Requester) (s : State) : Host.Outcome State Fault Refusal := .next (s.imgCtlWrite r 4)
def execImgsave (r : Requester) (s : State) : Host.Outcome State Fault Refusal := .next (s.imgCtlWrite r 1)
def execFlashsave (r : Requester) (s : State) : Host.Outcome State Fault Refusal := .next (s.imgCtlWrite r 8)

/-- The bus address of the image. -/
def State.imgBase (s : State) : Nat := s.rd pWinn WINN_IMG_BASEL_BASE + s.rd pWinn WINN_IMG_BASEH_BASE * 2 ^ 32

/-- What an image operation does at its end. -/
def State.imageEnd (s : State) (k : Nat) (data : List Byte) (readOk : Bool) : State :=
  if k = 0 then (s.hostWrite s.imgBase s.image).wr pWinn WINN_IMG_LEN_LEN 14352
  else if k = 1 then s.loadImage data readOk
  else if k = 2 then (match s.flashImage with | some bs => s.loadImage bs readOk | none => s.loadImage [] false)
  else { s with mem := { s.mem with flash := memPutBytes s.mem.flash 0 s.image } }

/-- IMAGE_OPERATION_DONE: `data` is what host memory holds at WINN_IMG_BASE, `readOk` that the read did not fail. A transfer
to or from host memory waits while it cannot be reached (R472). -/
def execImageOperationDone (data : List Byte) (readOk : Bool) (s : State) : Host.Outcome State Fault Refusal :=
  match s.winn.img with
  | some k =>
    if k ≤ 1 && !s.hostOk || (k = 1 && readOk && data.length ≠ s.rd pWinn WINN_IMG_LEN_LEN) then .next s
    else
      let s1 := ((s.imageEnd k data readOk).wr pWinn WINN_IMG_STAT_BUSY 0).wr pWinn WINN_IMG_STAT_DONE 1
      .next ({ s1 with winn := { s1.winn with img := none } }.raiseCause 19)
  | none => .next s

/-- The Winnower's island or block is lost: its procedure and image operation go with it, and its units are released
(R388). -/
def State.winnLost (s : State) : State :=
  { s with winn := { s.winn with
    sheaves := 0, sites := 0, slices := 0, todo := [], mc := false, mcLost := false, farPhase := [], farLoop := [], img := none } }

end Sys2Proof.Machine
end

