-- ==== Sys2Proof/Machine/Lifecycle.lean ====
section
/-! DEFINITION. The life of a block: what a page's block loses when it is reset, isolated or powered down, what it comes
back with, and the reaction units of the fault collector with their isolation and restoration (R20, R21, R34, R187,
R199, R244, R298, R334, R388, R402, R418, R460, R500, R537, R588). -/

namespace Sys2Proof.Machine

open Reg

/-! ### What a block loses -/

/-- The records of a sequencer group's engine contexts, of one site. -/
def State.ctxDrop (s : State) (n : Nat) : State := s.modUctx (n / 4) (n % 4) MicroCtx.idle

/-- A sheaf's sites end, and its channels are OFF (R74, R187). -/
def State.sheafLost (s : State) (k : Nat) : State :=
  let s1 := (s.sitesOfSheaf k).foldl (fun s n => s.siteEnd n 4 0 s.now) s
  let s2 := (List.range 8).foldl (fun s i => s.modCh (8 * k + i) fun _ => {}) { s1 with sh := tabErase s1.sh k }
  s2.sheafPair k

/-- A site ends; its held item and its routine go (R187, R188, R388). -/
def State.sqLost (s : State) (n : Nat) : State :=
  ((s.siteEnd n 4 0 s.now).modSq n fun o => { o with held := none }).ctxDrop n

/-- The scan sequencer's work is gone; the reference goes on settling, and the period goes on (R273, R298). -/
def State.scanLost (s : State) : State :=
  let s1 := s.scanFree
  { s1 with scan := { refDue := s.scan.refDue, perNext := s.scan.perNext } }

/-- The slice's uses end, and an acquisition whose stream uses it aborts (R276, R288, R298). -/
def State.asLost (s : State) (n : Nat) : State :=
  let s1 := s.sliceLost n
  if s1.acqState ≠ 0 && s1.acqStreams.any (fun k => (s1.groupOf k).contains n) then s1.acqAbort else s1

/-- A port's link is gone; the parts of spans that used it end with cause ISOLATED (R187). -/
def State.amlLost (s : State) (p : Nat) : State :=
  let used : Bool := s.amlState p = 3
  let s1 := s.amlFresh p
  if used then (List.range 32).foldl (fun s n => if s.inSpan n && s.siteBusy n then s.siteEnd n 4 0 s.now else s) s1 else s1

/-- A subchannel enters self-refresh where its devices hold data, and a training routine is abandoned (R384, R460). -/
def State.dcLost (s : State) (n : Nat) : State :=
  let st := s.rd (pDc n) DC_STAT_STATE
  let s1 := if st = 2 || st = 4 then s.dcSelfRefresh n else s
  (List.range 4).foldl (fun s k => s.ucAbandon 9 k) s1

/-- The time base's own work is gone; the keeper carries the time on (R334). -/
def State.timeLost (s : State) : State := { s with time := { pieces := s.time.pieces, shadow := s.time.shadow } }

/-- A page's block loses its operating state. -/
def State.pageLost (s : State) (p : Page) : State :=
  match p.kind with
  | .sh => s.sheafLost p.inst
  | .sq => s.sqLost p.inst
  | .gln => { s with gln := {} }
  | .asn => s.asLost p.inst
  | .ascan => s.scanLost
  | .acq => s.acqLost
  | .dc => (List.range 4).foldl (fun s k => s.ucAbandon 9 k) s
  | .time => s.timeLost
  | .aml => s.amlLost p.inst
  | .eth => s.modEth p.inst fun o => { sent := o.sent }
  | .bw => s.coreHold p.inst
  | .brst => s.brstLost
  | .winn => s.winnLost
  | .cnt => { s with cnt := { s.cnt with dump := none, dumpFfr := false, demand := none, ffrWaits := false, readShadow := [] } }
  | _ => s

/-! ### What a block comes back with -/

/-- The Hopper, the HOP fields of a site and the sequencer's record return to reset, but for the cause of an isolation
(R21, R188). -/
def State.sqBack (s : State) (n : Nat) (iso : Bool) : State :=
  let s1 : State := { s.resetFields (pSq n) fun fa => !(iso && fa.f.off = 0x6C) with
    sq := tabErase s.sq n, hop := tabErase s.hop n }
  (s1.resetFields pHop fun fa => decide (0x100 ≤ fa.f.off) && fa.i = n).followSites

/-- The Gleaner watches a site that is ARMED or running only from its next start (R244). -/
def State.glnBack (s : State) : State :=
  (List.range 32).foldl (fun s n => if s.siteBusy n then s.wr pGln GLN_SSTAT_ISO 1 n else s) (s.resetFields pGln fun _ => true)

/-- Fields of the time base that its keeper carries on (R334). -/
def timeKept : List Field := [TIME_STAT_STEPPED, TIME_EPOCH_EPOCH, TIME_DLOGN_DLOGN]

/-- The time base resumes from the keeper and enters holdover with cause RESTART (R180, R334). -/
def State.timeBack (s : State) : State :=
  let s1 := s.resetFields pTime fun fa => !timeKept.contains fa.f && decide (fa.f.off < 0x100)
  (s1.wr pClk SYNC_STAT_UNCAL 1).enterHold 5

/-- Fields of the acquisition engine that name completed records, which survive an isolation (R298). -/
def acqKept : List Field := [ACQ_RDONE_RDONE]

/-- What a page's block comes back with after a reset, an isolation (`iso`) or a power-up: configuration as it was, pending
copies gone, fields of class "—" at reset (R20, R21). -/
def State.pageBack (s : State) (p : Page) (iso : Bool) : State :=
  let s0 := (s.dropStaged p).modPage p fun o => { o with rst := false, iso := false }
  match p.kind with
  | .sq => s0.sqBack p.inst iso
  | .gln => s0.glnBack
  | .ascan => s0.resetFields p fun fa => fa.f.off ≠ 0x84
  | .acq =>
    if iso then
      { s0.resetFields p (fun fa => !acqKept.contains fa.f) with
        acq := { recs := s.acq.recs, rseq := s.acq.rseq, base := s.acq.base } }
    else { s0.resetFields p (fun _ => true) with acq := {} }
  | .dc =>
    if iso then (if (tabGet {} s.dc p.inst).frozen then s0 else s0.resetFields p fun fa => fa.f ≠ DC_STAT_STATE)
    else ({ s0.resetFields p (fun fa => fa.f ≠ DC_STAT_STATE || s.rd p DC_STAT_STATE ≠ 3) with
      dc := if s.rd p DC_STAT_STATE = 3 then s.dc else tabErase s.dc p.inst }).pagePairs p
  | .time => s0.timeBack
  | .aml =>
    let s1 := s0.resetFields p fun _ => true
    if s1.bit p AML_CFG_EN then s1.amlTrain p.inst 0 else s1
  | .bw =>
    let s1 := s0.resetFields p fun _ => true
    if s1.bit p BW_CTL_RUN && s1.pageState p = 4 then s1.coreRelease p.inst else s1
  | .brst => (s0.resetFields p fun _ => true).brstBack
  | .cnt =>
    { s0.resetFields p (fun fa => decide (fa.f.off < 0xC00 ∨ 0x1000 ≤ fa.f.off)) with
      cnt := { s0.cnt with seq := 0, skipped := 0, notBefore := 0, heldLow := [], readShadow := [] } }
  | .gran | .hop | .grnd | .ddr | .host => s0
  | _ => s0.resetFields p fun _ => true

/-! ### Reaction units (R187, R500) -/

/-- The unit that a reaction isolates. -/
inductive RUnit
  | none
  | sheaf (k : Nat)
  | group (g : Nat)
  | winn
  | train
  | cluster (c : Nat)
  | gleaner
  | slice (n : Nat)
  | acq
  | sub (n : Nat)
  | time
  | aml (p : Nat)
  | eth (p : Nat)
  | core (n : Nat)
  | brewers (c : Nat)
  | barista
  | device
  deriving DecidableEq, Repr

/-- The reaction unit of a fault slot (R500): none where the table has no unit that could be isolated. -/
def unitOf (n : Nat) : RUnit :=
  if n < 40 then .sheaf n
  else if n < 48 then .group (n - 40)
  else if n < 56 then .group (n - 48)
  else if n = 56 then .winn
  else if n = 57 then .train
  else if 59 ≤ n ∧ n < 63 then .cluster (n - 59)
  else if n = 63 then .gleaner
  else if 65 ≤ n ∧ n < 69 then .slice (n - 65)
  else if n = 70 then .acq
  else if 71 ≤ n ∧ n < 75 then .sub (n - 71)
  else if n = 77 then .time
  else if 78 ≤ n ∧ n < 82 then .aml (n - 78)
  else if n = 82 ∨ n = 83 then .eth (n - 82)
  else if 84 ≤ n ∧ n < 100 then .core (n - 84)
  else if n = 100 ∨ n = 101 then .brewers (n - 100)
  else if n = 103 then .barista
  else if n = 114 ∨ n = 116 ∨ n = 117 ∨ n = 119 then .device
  else .none

/-- The pages of a unit; every page of it reads ISOLATED (R590). -/
def RUnit.pages : RUnit → List Page
  | .sheaf k => [pSh k]
  | .group g => (List.range 4).map fun i => pSq (4 * g + i)
  | .winn => [pWinn]
  | .gleaner => [pGln]
  | .slice n => [pAs n]
  | .acq => [pAscan, pAcq]
  | .sub n => [pDc n]
  | .time => [pTime]
  | .aml p => [pAml p]
  | .eth p => [pEth p]
  | .core n => [pBw n]
  | .brewers c => (List.range 8).map fun i => pBw (8 * c + i)
  | .barista => [pBrst, pCnt, pWinn]
  | .none | .train | .cluster _ | .device => []

/-- The keys under which the isolation of a unit is held: its pages, a bank cluster, the training engine. -/
def RUnit.keys (u : RUnit) : List Nat :=
  match u with
  | .cluster c => [clusterKey c]
  | .train => [trainerKey]
  | _ => u.pages.map pageBase

/-- A unit is isolated. -/
def State.unitIso (s : State) (u : RUnit) : Bool := u.keys.any fun k => (tabGet {} s.pageOps k).iso

/-- Isolation set or cleared under a key that is no page. -/
def State.isoKey (s : State) (k : Nat) (b : Bool) : State :=
  { s with pageOps := tabMod {} s.pageOps k fun o => { o with iso := b } }

/-- A page is isolated: its block loses its work; a subchannel goes into self-refresh first (R460). -/
def State.isoPage (s : State) (p : Page) : State :=
  if (s.pageo p).iso then s
  else
    let s1 := if p.kind = .dc then s.dcLost p.inst else s
    (s1.pageLost p).modPage p fun o => { o with iso := true, restoring := false }

/-- Sites that have read from a bank cluster since their start end with cause ISOLATED (R187). -/
def State.clusterEnds (s : State) (c : Nat) : State :=
  (List.range 32).foldl (fun s n =>
    if s.siteBusy n && bitAt (s.sqo n).clusters c then s.siteEnd n 4 0 s.now else s) s

/-- A unit of the running procedure is lost with an isolated unit (R347, R351). -/
def State.winnUnitLost (s : State) (r : RUnit) (u : Nat) : Bool :=
  let proc := s.winnProc
  match r with
  | .slice n => if proc = 1 then u = n else n = 3 && (decide (2 ≤ proc ∧ proc ≤ 4) || decide (9 ≤ proc))
  | .sheaf k => if decide (2 ≤ proc ∧ proc ≤ 5) then u / 8 = k else proc = 6 && (s.sitesOfSheaf k).contains u
  | .group g => proc = 6 && u / 4 = g
  | .acq => proc ≤ 4 || decide (9 ≤ proc)
  | _ => false

/-- The isolation reaches a unit that the Winnower holds. -/
def State.winnReached (s : State) (r : RUnit) : Bool :=
  s.winnRuns && (match r with
    | .slice n => bitAt s.winn.slices n
    | .sheaf k => bitAt s.winn.sheaves k || (s.sitesOfSheaf k).any fun n => bitAt s.winn.sites n
    | .group g => (List.range 4).any fun i => bitAt s.winn.sites (4 * g + i)
    | .acq => s.winn.slices ≠ 0
    | _ => false)

/-- A unit is isolated (R34, R187, R384, R388, R505). -/
def State.isolate (s : State) (u : RUnit) : State :=
  let s0 := if s.winnReached u then s.winnAbandon (s.winnUnitLost u) else s
  let s1 := u.pages.foldl State.isoPage s0
  match u with
  | .cluster c => (s1.isoKey (clusterKey c) true).clusterEnds c
  | .train => (s1.isoKey trainerKey true).ucDrop 9
  | .group g => s1.ucDrop g
  | .winn | .barista => s1.ucDrop 8
  | _ => s1

/-! ### Restoration (R35, R199, R364, R460, R512) -/

/-- An automatic LOOP run is due for sites whose path has restarted (R33, R364). -/
def State.loopDue (s : State) (sites : List Nat) : State :=
  { s with winn := { s.winn with due := sites.foldl (fun m n => setBit m n true) s.winn.due } }

/-- The restoration of a bank cluster scrubs its words: single-bit errors are corrected and gone, and an uncorrectable word
sets SCRUBE (R198, R199). -/
def State.scrub (s : State) (c : Nat) : State :=
  let mine := s.mem.granErr.filter fun e => s.granBank (e.1 / 4) / 4 = c
  let s1 := s.granCorrect (mine.map (·.1))
  let s2 := { s1 with mem := { s1.mem with granErr := s1.mem.granErr.filter fun e => !(e.2 = 2 ∧ s.granBank (e.1 / 4) / 4 = c) } }
  if mine.any fun e => e.2 = 1 then (s2.wr pGran GRAN_STAT_SCRUBE 1).pagePairs pGran else s2

/-- A page comes back from isolation; one whose sites need a LOOP run is RESTORING until it has ended (R364, R590). -/
def State.restorePage (s : State) (sr : SrFindings) (p : Page) : State :=
  if !(s.pageo p).iso then s
  else
    let s1 := s.pageBack p true
    match p.kind with
    | .sh =>
      let ns := s1.sitesOfSheaf p.inst
      if ns = [] then s1 else (s1.loopDue ns).modPage p fun o => { o with restoring := true }
    | .sq => (s1.loopDue [p.inst]).modPage p fun o => { o with restoring := true }
    | .dc => if s1.domainOn (69 + p.inst) then s1.srexit p.inst sr.ranks sr.fits else s1
    | _ => s1

/-- A unit is restored, but for pages that a test keeps isolated; `sr` is what SREXIT of a subchannel finds. -/
def State.restore (s : State) (u : RUnit) (sr : SrFindings) (keep : Page → Bool) : State :=
  let s1 := (u.pages.filter fun p => !keep p).foldl (fun s p => s.restorePage sr p) s
  match u with
  | .cluster c => (s1.isoKey (clusterKey c) false).scrub c
  | .train => s1.isoKey trainerKey false
  | _ => s1

/-! ### Power domains (R199, R244, R298, R334, R402, R418, R424, R456, R537, R538, R540) -/

/-- The bit of a domain in PWR_STAT. -/
def State.putOn (s : State) (d : Nat) (b : Bool) : State :=
  if d < 32 then s.wrBit pPwr PWR_STAT0_ON d b
  else if d < 64 then s.wrBit pPwr PWR_STAT1_ON (d - 32) b
  else s.wrBit pPwr PWR_STAT2_ON (d - 64) b

/-- What a memory or a record of a domain holds is gone with its power (R537). The time that stamps show while PD78 is off is a
free value (R334). -/
def State.domainContents (s : State) (d : Nat) : State :=
  if 40 ≤ d ∧ d < 56 then
    { s with mem := { s.mem with
      gran := s.mem.gran.filter fun e => s.granBank (e.1 / 32) ≠ d - 40
      granErr := s.mem.granErr.filter fun e => s.granBank (e.1 / 4) ≠ d - 40 } }
  else if 56 ≤ d ∧ d < 64 then { s with hop := s.hop.filter fun e => e.1 / 4 ≠ d - 56 }.ucDrop (d - 56)
  else if d = 68 then { s with acq := {}, mem := { s.mem with record := [], recHdr := [] } }
  else if 69 ≤ d ∧ d < 73 then
    let s1 := if d = 69 then s.ucDrop 9 else s
    if s.rd (pDc (d - 69)) DC_STAT_STATE = 3 then s1
    else
      let s2 : State := { s1 with
        mem := { s1.mem with ddr := s1.mem.ddr.filter fun e => e.1 / 2 ^ 35 ≠ d - 69 }, dc := tabErase s1.dc (d - 69) }
      (s2.wr (pDc (d - 69)) DC_STAT_STATE 0).pagePairs (pDc (d - 69))
  else if d = 73 then ({ s with mem := { s.mem with cap := [] } }.wr pQdr QDR_STAT_QARDY 0)
  else if d = 74 then s.wr pQdr QDR_STAT_QBRDY 0
  else if d = 75 ∨ d = 76 then { s with mem := { s.mem with bw := s.mem.bw.filter fun e => e.1 / 0x200000 ≠ d - 75 } }
  else if d = 77 then s.ucDrop 8
  else if d = 78 then
    let t := s.draw
    { t.2 with time := { pieces := [{ k := s.now / fcG, tb := t.1, inc := 0 }] } }.wr pTime TIME_STAT_STEPPED 0
  else if d = 79 then { s with host := { s.host with link := false } }
  else s

/-- A domain has powered down. -/
def State.domainDown (s : State) (d : Nat) : State :=
  if !s.domainOn d then s
  else
    let s1 := ((domainPages d).filter fun p => !spreadKind p.kind && p.kind ≠ .dc && p.kind ≠ .host).foldl State.pageLost s
    ((s1.domainContents d).countersOff d).putOn d false

/-- A domain has powered up: its retained configuration is active, and operating state starts at reset. The power-up of a
sheaf or a sequencer group restarts an island, so LOOP falls due; that of the time base starts the time at 0. -/
def State.domainUp (s : State) (d : Nat) : State :=
  if s.domainOn d then s
  else
    let s1 := s.putOn d true
    let s2 := ((domainPages d).filter fun p => !spreadKind p.kind && !(s1.pageo p).iso).foldl (fun s p =>
      if p.kind = .time then (s.dropStaged p).resetFields p fun _ => true else s.pageBack p false) s1
    if d < 40 then s2.loopDue (s2.sitesOfSheaf d)
    else if 56 ≤ d ∧ d < 64 then s2.loopDue ((List.range 4).map fun i => 4 * (d - 56) + i)
    else if d = 78 then
      let adj := toSigned 40 (s2.rd pTime TIME_ADJ0_ADJ + s2.rd pTime TIME_ADJ1_ADJ * 2 ^ 32)
      { s2 with time := { pieces := [{ k := s.now / fcG, tb := 0, inc := (incNom + adj).toNat }] } }
    else s2

end Sys2Proof.Machine
end

