-- ==== Sys2Proof/Machine/Collector.lean ====
section
/-! DEFINITION. The fault collector (R497 to R515): sources, latching, the first-fault record, reactions, shadow windows,
recovery, locks and injection; and the release of safe states that recovery brings (R519). -/

namespace Sys2Proof.Machine

open Reg

/-! ### Sources (R497 to R502) -/

/-- Grains in an AON clock of 4 ns. -/
def aonG : Nat := 12288

/-- The AON clock edge at or after an instant. -/
def aonCeil (t : Nat) : Nat := (t + aonG - 1) / aonG * aonG

/-- Grains in a second. -/
def secG : Nat := 1000 * msG

/-- The slot exists (R500). -/
def slotValid (n : Nat) : Bool := decide (n ≤ 120) || n = 255

/-- Sources whose conditions no state of a block shows: internal errors, and the AON monitors and sensors (R500). -/
def slotInternal (n : Nat) : Bool :=
  decide (40 ≤ n ∧ n < 48) || decide (59 ≤ n ∧ n < 64) || decide (65 ≤ n ∧ n < 69) || n = 70 || n = 77 || n = 82 || n = 83
  || decide (100 ≤ n ∧ n < 102) || n = 103 || n = 104

/-- Sources that the Silo and the AON monitors drive. -/
def slotMonitor (n : Nat) : Bool := decide (105 ≤ n ∧ n < 115) || n = 116 || n = 117 || n = 119

/-- The collector sees the source asserted: its pair, an invalid pair, an injection, or a failed self-test (R498, R515,
R562). F255 stands while any pair is invalid. -/
def State.srcLive (s : State) (n : Nat) : Bool :=
  if n = 255 then s.flt.any fun e => e.2.invalid
  else match s.safety.inj with
    | some (m, _, _) => n = m || (s.flto n).pair || (s.flto n).invalid || (s.flto n).stuck
    | none => (s.flto n).pair || (s.flto n).invalid || (s.flto n).stuck

/-- FLT_LIVE shows the source. -/
def State.isLive (s : State) (n : Nat) : Bool := bitAt (s.rd pFlt FLT_LIVE_LIVE (n / 32)) (n % 32)

/-- The bit of a slot in a bank of eight registers. -/
def State.putSlot (s : State) (f : Field) (n : Nat) (b : Bool) : State := s.wrBit pFlt f (n % 32) b (n / 32)

/-- FLT_SSTAT.STATE of a slot: 0 IDLE, 1 ACTIVE, 2 QUIET, 3 LOCKED. -/
def State.slotState (s : State) (n : Nat) : Nat := s.rd pFlt FLT_SSTAT_STATE n

/-- The severity of a slot. -/
def State.sevOf (s : State) (n : Nat) : Nat := s.rd pFlt FLT_CFG_SEV n

/-! ### Downstream sources (R510) -/

/-- A source is downstream of a unit that an ISOLATE reaction isolates. -/
def downstream (u : RUnit) (n : Nat) : Bool :=
  match u with
  | .group g => n = 48 + g
  | .cluster _ => n = 58 || decide (40 ≤ n ∧ n < 48)
  | .gleaner => n = 64
  | .slice _ => n = 70
  | .acq => decide (65 ≤ n ∧ n ≤ 69)
  | .sub _ => n = 57
  | .time => n = 75 || n = 76 || decide (78 ≤ n ∧ n ≤ 83)
  | .aml _ => n = 75 || n = 76
  | .core _ => n = 102
  | .brewers c => decide (84 + 8 * c ≤ n ∧ n < 92 + 8 * c) || n = 102
  | .barista => n = 102 || n = 56
  | _ => false

/-- A source is shadowed by the window that source m's reaction opened. -/
def State.shadows (s : State) (m n : Nat) : Bool :=
  n ≠ m && (match (s.flto m).winEnd with
    | some e => decide (s.now ≤ e) && (if (s.flto m).halt then decide (n ≤ 112) else downstream (unitOf m) n)
    | none => false)

/-- The source in whose window a source falls. -/
def State.shadower (s : State) (n : Nat) : Option Nat := (List.range 120).find? fun m => s.shadows m n

/-! ### The first-fault record (R503, R504) -/

/-- The block's detail word: its status register; a free value where the table names none. -/
def State.detail (s : State) (n : Nat) : Nat × State :=
  let reg := fun (p : Page) (f : Field) (i : Nat) => (s.readReg p (f.off + i * f.s1), s)
  if n < 40 then reg (pSh n) SH_FCAUSE_OC 0
  else if 48 ≤ n ∧ n < 58 then reg pUc UC_STAT_SIGOK (n - 48)
  else if n = 58 then reg pGran GRAN_STAT_UE 0
  else if n = 64 then reg pQdr QDR_STAT_PERR 0
  else if n = 69 then reg pAscan AREF_STAT_EXTBAD 0
  else if 71 ≤ n ∧ n < 75 then reg (pDc (n - 71)) DC_STAT_STATE 0
  else if n = 75 then reg pClk SYNC_STAT_IRREG 0
  else if n = 76 then reg pClk GRP_STAT_AMLLATE 0
  else if 78 ≤ n ∧ n < 82 then reg (pAml (n - 78)) AML_STAT_STATE 0
  else if 84 ≤ n ∧ n < 100 then reg (pBw (n - 84)) BW_STAT_UE 0
  else if n = 102 then reg pBrst BRST_STAT_TMO 0
  else s.draw

/-- Source n goes before source m in the first-fault record: of higher severity, or of the same and a lower slot (R504). -/
def State.outranks (s : State) (n m : Nat) : Bool :=
  decide (s.sevOf m < s.sevOf n) || (s.sevOf m = s.sevOf n && decide (n < m))

/-- The source of highest severity, and among those the lowest slot. -/
def State.worst (s : State) : List Nat → Option Nat
  | [] => none
  | n :: ns => match s.worst ns with
    | some m => if s.outranks m n then some m else some n
    | none => some n

/-- The first-fault record is filled from the sources latched in this AON clock. -/
def State.fillFfr (s : State) (ns : List Nat) (secondary : Bool) : State :=
  match s.worst ns with
  | none => s
  | some n =>
    let again : Bool := s.bit pFlt FLT_FFR_VALID && decide (s.safety.ffrClock = s.now)
    if s.bit pFlt FLT_FFR_VALID && !again then s
    else if again && !s.outranks n (s.rd pFlt FLT_FFR_SRC) then s.wr pFlt FLT_FFR_MULTI 1
    else
      let d := s.detail n
      let inj : Bool := match s.safety.inj with | some (m, _, _) => n = m | none => false
      let s1 := ((d.2.wr pFlt FLT_FFR_SRC n).wr pFlt FLT_FFR_SEV (s.sevOf n)).wr pFlt FLT_FFR_MODE s.mode
      let s2 := ((s1.wr pFlt FLT_FFR_INJ (b2n inj)).wr pFlt FLT_FFR_SECONDARY (b2n secondary)).wr pFlt FLT_FFR_MULTI
        (b2n (again || decide (1 < ns.length)))
      let s3 := (s2.wr3 pFlt FLT_FFR_TS0_TS FLT_FFR_TS1_TS FLT_FFR_TS2_TS (s.stampAt s.now)).wr pFlt FLT_FFR_DETAIL_DETAIL d.1
      let s4 := (s3.wr pFlt FLT_FFR_SNAP_SNAP 0).wr pFlt FLT_FFR_VALID 1
      let s5 := if s4.cnt.demand.isSome || s4.pageState pCnt ≠ 4 then s4 else s4.demandSnapshot
      { s5 with safety := { s5.safety with ffrClock := s.now }, cnt := { s5.cnt with ffrWaits := s5.cnt.demand.isSome } }

/-! ### Reactions (R499, R505 to R508) -/

/-- A source of severity HALT, or a locked one, holds the device in HOLD (R512, R513). -/
def State.haltStands (s : State) : Bool := (List.range 256).any fun n => (s.flto n).halt && s.slotState n ≠ 0

/-- A source is no longer live; one that reacted enters QUIET. -/
def State.sourceClears (s : State) (n : Nat) : State :=
  if !s.isLive n || s.srcLive n then s
  else
    let s1 := (s.putSlot FLT_LIVE_LIVE n false).modFlt n fun o => { o with shadowBy := none }
    if s1.slotState n = 1 then
      (s1.wr pFlt FLT_SSTAT_STATE 2 n).modFlt n fun o => { o with quietAt := s.now + s.rd pFlt FLT_CFG_QUIET n * msG }
    else s1

/-- The running injection ends, and the block's own pair returns. -/
def State.injectionEnds (s : State) : State :=
  match s.safety.inj with
  | some (n, k, _) =>
    let s1 : State := { s with safety := { s.safety with inj := none } }
    ((if k = 0 then s1 else s1.modFlt n fun o => { o with invalid := false }).sourceClears n).sourceClears 255
  | none => s

/-- A running injection ends with the mode FACTORY (R515), and EXTEST drives balls only in the modes that permit it (R548,
R553). -/
def State.leaveModes (s : State) : State :=
  let s1 := if s.mode ≠ 7 then s.injectionEnds else s
  if s1.mode = 3 ∨ s1.mode = 4 ∨ s1.mode = 7 then s1 else { s1 with tap := { s1.tap with extest := false } }

/-- No mode change is in progress. -/
def State.dropTarget (s : State) : State := { s with mgmt := { s.mgmt with target := none } }

/-- HOLD: a mode change in progress ends, every running site ends with cause HALT and every site enters its safe state;
running routines are abandoned (R384, R499, R529). -/
def State.haltAll (s : State) : State :=
  let s1 := (List.range 32).foldl (fun s n => s.safeEnter n scHALT s.now) s
  let s2 := (s1.winnAbandon fun _ => false).ucAbandon 9 0
  ((s2.setMode 6).wr pMode MODE_STAT_PEND 0).dropTarget.leaveModes

/-- The device enters HOLD. In OFF and BOOT the mode stays (R536, R561). -/
def State.enterHold6 (s : State) : State := if s.mode ≤ 1 ∨ s.mode = 6 then s else s.haltAll

/-- A source asked the Silo for a safe state (R507). -/
def State.asksSafe (s : State) (n : Nat) : Bool :=
  if n < 40 then (List.range 8).any fun i =>
    (s.chan (8 * n + i)).ocLive || ((s.chan (8 * n + i)).oorLive && s.bit (pSh n) SH_PROT_OOR_SAFE)
  else decide (105 ≤ n ∧ n < 113) || n = 115

/-- The host's cause FAULT and the Brewers' notice. -/
def State.alert (s : State) : State :=
  (List.range 16).foldl (fun s n => (s.modCore n fun c => { c with notice := true }).coreWake n) (s.raiseCause 15)

/-- The window of a reaction opens, of FLT_SHWIN µs. -/
def State.openWindow (s : State) (n : Nat) : State :=
  s.modFlt n fun o => { o with winEnd := some (s.now + s.rd pFlt FLT_SHWIN_SHWIN * usG) }

/-- The reaction of a latched fault. A second reaction on an isolated unit, or while the device is halted, opens no new
window. -/
def State.react (s : State) (n : Nat) : State :=
  let sev := s.sevOf n
  if sev = 0 then s
  else
    let s1 := s.alert
    let act := fun (s : State) => if s.slotState n = 3 then s else s.wr pFlt FLT_SSTAT_STATE 1 n
    if sev = 3 then
      let first := !s1.haltStands
      let s2 := act (s1.modFlt n fun o => { o with halt := true })
      let s3 := if first then s2.openWindow n else s2
      s3.enterHold6
    else if sev = 2 ∧ (unitOf n).keys ≠ [] then
      let first := !s1.unitIso (unitOf n)
      let s2 := act (s1.modFlt n fun o => { o with iso := true })
      let s3 := if first then s2.openWindow n else s2
      s3.isolate (unitOf n)
    else if s.asksSafe n then act s1
    else s1

/-- A fault is latched (R502). -/
def State.latchFault (s : State) (n : Nat) (secondary : Bool) (cause : Nat) : State :=
  let s1 := (s.putSlot FLT_LATCH_LATCH n true).count 0x3B0
  (s1.wr pFlt FLT_SSTAT_SECONDARY (b2n secondary) n).wr pFlt FLT_SSTAT_CAUSE cause n

/-- Sources become live in one AON clock (R502 to R508, R511, R514). The windows that are open decide which of them are
shadowed; the others are latched, the first-fault record is filled, and every reaction applies. -/
def State.collect (s : State) (ns : List Nat) : State :=
  let s0 := s.advanceTo (aonCeil s.now)
  let new := (ns.filter fun n => slotValid n && !s0.isLive n).eraseDups
  let dark := new.filter fun n => (s0.shadower n).isSome
  let seen := new.filter fun n => (s0.shadower n).isNone
  let s1 := new.foldl (fun s n =>
    let s1 := s.putSlot FLT_LIVE_LIVE n true
    if s1.slotState n = 2 then s1.wr pFlt FLT_SSTAT_STATE 1 n else s1) s0
  let s2 := dark.foldl (fun s n =>
    ((s.putSlot FLT_SHAD_SHAD n true).modFlt n fun o => { o with shadowBy := s0.shadower n }).count 0x3B1) s1
  let s3 := seen.foldl (fun s n => s.latchFault n false 0) s2
  seen.foldl State.react (s3.fillFfr seen false)

/-- FAULT_SOURCE_ASSERT: sources become live in one AON clock. A source of an internal error is asserted by the command;
any other must stand. -/
def execFaultSourceAssert (slots : List (Fin 256)) (s : State) : Host.Outcome State Fault Refusal :=
  let ns := slots.map (·.val)
  let s1 := (ns.filter slotInternal).foldl (fun s n => s.drivePair n true) s
  .next (s1.collect (ns.filter s1.srcLive))

/-! ### Wire faults (R498) -/

/-- A pair reads invalid in two consecutive samples, both wires high or both low. -/
def State.wireFault (s : State) (n : Nat) (high : Bool) : State :=
  let s1 := (s.modFlt n fun o => { o with invalid := true }).count 0x3B5
  let s2 :=
    if s1.bit pFlt FLT_WIRE_VALID then s1
    else ((s1.wr pFlt FLT_WIRE_SLOT n).wr pFlt FLT_WIRE_VAL (if high then 3 else 0)).wr pFlt FLT_WIRE_VALID 1
  s2.collect [n, 255]

/-- WIRE_FAULT. F255 and reserved slots have no pair. -/
def execWireFault (slot : Fin 256) (high : Bool) (s : State) : Host.Outcome State Fault Refusal :=
  .next (if slot.val ≤ 120 && !(s.flto slot).invalid then s.wireFault slot high else s)

/-! ### Shadow windows (R509) -/

/-- A shadow window ends: downstream sources that are still live become secondary faults with its source as their cause,
and react. -/
def State.windowCloses (s : State) (m e : Nat) : State :=
  let s0 := s.advanceTo e
  let mine := (List.range 256).filter fun n => (s0.flto n).shadowBy = some m
  let still := mine.filter s0.isLive
  let s1 := mine.foldl (fun s n => s.modFlt n fun o => { o with shadowBy := none }) (s0.modFlt m fun o => { o with winEnd := none })
  let s2 := still.foldl (fun s n => (s.latchFault n true m).count 0x3B2) s1
  still.foldl State.react (s2.fillFfr still true)

/-- SHADOW_WINDOW_END. -/
def execShadowWindowEnd (slot : Fin 256) (s : State) : Host.Outcome State Fault Refusal :=
  match (s.flto slot).winEnd with
  | some e => .next (s.windowCloses slot e)
  | none => .next s

/-! ### Clearing (R511) -/

/-- A sensor reads more than 15 °C away from the mean of the other three. -/
def sensorIgnored (temps : List (BitVec 8)) (k : Nat) : Bool :=
  let t := (temps.getD k 0).toInt
  let others := (temps.map (·.toInt)).sum - t
  decide (45 < (3 * t - others).natAbs)

/-- The readings of the sensors that count. -/
def countedTemps (temps : List (BitVec 8)) : List Int :=
  ((List.range 4).filter fun k => !sensorIgnored temps k).map fun k => (temps.getD k 0).toInt

/-- Every sensor that counts reads 5 °C or more below a limit (R523). -/
def coolBy5 (temps : List (BitVec 8)) (limit : Nat) : Bool :=
  decide (temps.length = 4) && (countedTemps temps).all fun t => decide (t + 5 ≤ (limit : Int))

/-- The condition of an internal or monitored source ends. F113 and F114 follow the sensors, F115 SAFE_N, F117 ends with the
PLL relocked, which loses the multi-chip alignment (R180), and F119 once the controller has restarted. -/
def State.conditionEnds (s : State) (n : Nat) (temps : List (BitVec 8)) : State :=
  if n = 113 then
    (if coolBy5 temps (s.rd pSilo SILO_THR_WARN) then
      ((s.drivePair n false).wr pSilo SILO_STAT_WARN 0).wr pSilo SILO_TEMP_TEMP (leNat temps)
    else s)
  else if n = 114 then
    (if coolBy5 temps (s.rd pSilo SILO_THR_CRIT) && decide (2 < (countedTemps temps).length) then
      ((s.drivePair n false).wr pSilo SILO_STAT_CRIT 0).wr pSilo SILO_TEMP_TEMP (leNat temps)
    else s)
  else if n = 117 then (s.drivePair n false).wr pClk SYNC_STAT_UNCAL 1
  else if n = 119 then (s.drivePair n false).wr pSilo SILO_STAT_LSOK 1
  else if slotInternal n || slotMonitor n then s.drivePair n false
  else s

/-- A source clears: an invalid pair of it has returned to a valid value; with F255, every pair has. -/
def State.faultClears (s : State) (n : Nat) (temps : List (BitVec 8)) : State :=
  if n = 255 then (s.flt.foldl (fun s e => s.modFlt e.1 fun o => { o with invalid := false }) s).sourceClears n
  else (((s.modFlt n fun o => { o with invalid := false }).conditionEnds n temps).sourceClears n).sourceClears 255

/-- FAULT_SOURCE_CLEAR: `temps` are the readings of MON0 to MON3 for the thermal sources. -/
def execFaultSourceClear (slot : Fin 256) (temps : List (BitVec 8)) (s : State) : Host.Outcome State Fault Refusal :=
  .next (if s.isLive slot then s.faultClears slot temps else s)

/-! ### Safe states that stand (R518 to R520, R524) -/

/-- A source is in force: it has not recovered, or its pair is asserted. -/
def State.inForce (s : State) (n : Nat) : Bool := s.slotState n ≠ 0 || s.srcLive n

/-- The sites that own a channel of current group g. -/
def State.groupSites (s : State) (g : Nat) : List Nat :=
  ((List.range 5).flatMap fun i => s.sitesOfSheaf (5 * g + i)).eraseDups

/-- A cause bit of a site still stands. -/
def State.causeStands (s : State) (n bit : Nat) : Bool :=
  if bit = scOC ∨ bit = scOOR then (List.range 40).any fun k => s.inForce k && (s.sitesOfSheaf k).contains n
  else if bit = scSPAN then s.clk.spanSafe.any fun e => e.1 / 16 = n
  else if bit = scSAFEN then s.inForce 115 || s.bit pSilo SILO_STAT_SAFEN
  else if bit = scILIM then (List.range 8).any fun g => s.inForce (105 + g) && (s.groupSites g).contains n
  else if bit = scHALT then s.mode = 6
  else bitAt (s.rd pSilo SILO_FORCE_FORCE) n

/-- Cause bits whose requests have ended clear, and sites and single channels leave their safe states (R519). -/
def State.settle (s : State) : State :=
  if s.safety.lockstepBad then s
  else
    let s1 := (List.range 32).foldl (fun s n => (List.range 7).foldl (fun s b =>
      if bitAt (s.rd pSilo SILO_SCAUSE_CAUSE n) b && !s.causeStands n b then s.safeClear n b else s) s) s
    { s1 with safety := { s1.safety with
      lone := s1.safety.lone.filter fun e => s1.inForce (e.1 / 8)
      allSafe := s1.safety.allSafe && (s1.inForce 115 || s1.bit pSilo SILO_STAT_SAFEN) } }

/-! ### Recovery and locks (R511 to R514) -/

/-- The device leaves HOLD once no HALT source stands (R512, R529). -/
def State.leaveHold6 (s : State) : State := if s.mode = 6 && !s.haltStands then s.setMode 3 else s

/-- A page stays isolated for another source that has not completed its recovery (R506). -/
def State.heldByOther (s : State) (n : Nat) (p : Page) : Bool :=
  (List.range 120).any fun m => m ≠ n && (s.flto m).iso && (unitOf m).pages.contains p

/-- A unit without pages stays isolated for another source. -/
def State.keyHeldByOther (s : State) (n : Nat) : Bool :=
  (List.range 120).any fun m => m ≠ n && (s.flto m).iso && unitOf m = unitOf n

/-- `recover` (R512): the unit of an isolation is restored, HOLD is left, and safe states are released. -/
def State.recover (s : State) (n : Nat) (sr : SrFindings) : State :=
  let o := s.flto n
  let s1 := ((s.wr pFlt FLT_SSTAT_STATE 0 n).modFlt n fun o => { o with iso := false, halt := false }).count 0x3B3
  let s2 := if o.iso && ((unitOf n).pages ≠ [] || !s1.keyHeldByOther n) then s1.restore (unitOf n) sr (s1.heldByOther n) else s1
  let s3 := if n = 119 then { s2 with safety := { s2.safety with lockstepBad := false } } else s2
  s3.leaveHold6.settle

/-- A source locks, and holds the device as a HALT reaction does (R511, R513). -/
def State.lockSource (s : State) (n : Nat) : State :=
  let s1 := ((s.wr pFlt FLT_SSTAT_STATE 3 n).wr pFlt FLT_SSTAT_LOCK 1 n).putSlot FLT_LOCKS_LOCK n true
  ((s1.modFlt n fun o => { o with halt := true }).count 0x3B4).enterHold6

/-- A quiet period completes (R511). -/
def State.quietEnds (s : State) (n : Nat) (sr : SrFindings) : State :=
  let o := s.flto n
  let s0 := s.advanceTo o.quietAt
  let fresh : Bool := o.wcnt = 0 || decide (o.wstart + s.rd pFlt FLT_RLIM_WIN n * secG ≤ s0.now)
  let wcnt := if fresh then 1 else o.wcnt + 1
  let s1 := s0.modFlt n fun o => { o with wstart := if fresh then s0.now else o.wstart, wcnt := wcnt }
  if s.rd pFlt FLT_RLIM_LIMIT n < wcnt then s1.lockSource n
  else (s1.recover n sr).satAdd pFlt FLT_RCNT_RCNT 1 n

/-- QUIET_PERIOD_END: `sr` is what SREXIT finds where a subchannel is restored. -/
def execQuietPeriodEnd (slot : Fin 256) (sr : SrFindings) (s : State) : Host.Outcome State Fault Refusal :=
  .next (if s.slotState slot = 2 then s.quietEnds slot sr else s)

/-- A write of FLT_SSTAT: 1 to LOCK unlocks a locked source (R513). -/
def State.sstatWrite (s : State) (r : Requester) (n word : Nat) : State :=
  let locked := s.slotState n = 3
  s.writeWith r pFlt (0x1008 + 0x10 * n) word fun s =>
    if locked && bitAt word 4 then
      let s1 := (s.putSlot FLT_LOCKS_LOCK n false).modFlt n fun o =>
        { o with wcnt := 0, quietAt := s.now + s.rd pFlt FLT_CFG_QUIET n * msG }
      s1.wr pFlt FLT_SSTAT_STATE (if s.isLive n then 1 else 2) n
    else s

/-- LOCK_CLEAR. -/
def execLockClear (r : Requester) (slot : Fin 256) (s : State) : Host.Outcome State Fault Refusal :=
  .next (s.sstatWrite r slot 16)

/-! ### Injection (R515) -/

/-- An injection starts. -/
def State.injectionStarts (s : State) (n kind dur : Nat) : State :=
  let s0 := s.injectionEnds
  let s1 := { s0 with safety := { s0.safety with inj := some (n, kind, s.now + dur * usG) } }.count 0x3B7
  if kind = 0 then s1.collect [n] else s1.wireFault n (kind = 1)

/-- A write of FLT_INJ: discarded outside FACTORY, and for a slot that cannot be injected. -/
def State.injWrite (s : State) (r : Requester) (word : Nat) : State :=
  if s.mode ≠ 7 ∨ 120 < word % 256 then s.werr pFlt
  else s.writeWith r pFlt 0x48 word fun s =>
    if bitAt word 11 then s.injectionStarts (word % 256) (bitsAt word 8 2) (bitsAt word 16 16) else s

/-- FAULT_INJECTION: `v` is the word written to FLT_INJ, with GO = 1. -/
def execFaultInjection (r : Requester) (v : Word) (s : State) : Host.Outcome State Fault Refusal :=
  .next (s.injWrite r (v ||| 0x800).toNat)

/-- INJECTION_END: the duration has passed. -/
def execInjectionEnd (s : State) : Host.Outcome State Fault Refusal :=
  match s.safety.inj with
  | some (_, _, e) => .next (s.advanceTo e).injectionEnds
  | none => .next s

end Sys2Proof.Machine
end

