-- ==== Sys2Proof/Machine/Silo.lean ====
section
/-! DEFINITION. The Silo (R516 to R524) and the AON monitors (R500, R567): arming over I3C, forced safe states, the
interlock SAFE_N, group currents, temperatures, lockstep, supplies and the field PLL. -/

namespace Sys2Proof.Machine

open Reg

/-! ### Arming (R517) -/

/-- The Silo disarms. -/
def State.disarm (s : State) : State :=
  { s.wr pSilo SILO_STAT_ARMED 0 with safety := { s.safety with armStep := none } }

/-- A failed step: it disarms, counts, and asserts F120 for one AON clock. -/
def State.armFails (s : State) : State :=
  let s1 := s.disarm.wr pSilo SILO_STAT_ARMFAIL (min 8 (s.rd pSilo SILO_STAT_ARMFAIL + 1))
  (((s1.drivePair 120 true).collect [120]).drivePair 120 false).sourceClears 120

/-- An I3C write of SILO_ARM. The nonce is a free value. -/
def State.armWrite (s : State) (v : Nat) : State :=
  if s.mode = 1 then s.werr pSilo
  else if v = 0 then s.disarm
  else if 8 ≤ s.rd pSilo SILO_STAT_ARMFAIL then s
  else if v = 0xA55A then
    let d := s.draw
    { d.2.wr pSilo SILO_NONCE_NONCE d.1 with safety := { s.safety with armStep := some (s.now + 10 * msG) } }
  else
    let inTime : Bool := match s.safety.armStep with | some e => decide (s.now ≤ e) | none => false
    if inTime && v / 65536 = 0x5AA5 && v % 65536 = (s.rd pSilo SILO_NONCE_NONCE ^^^ 0xFFFF) then
      { s.wr pSilo SILO_STAT_ARMED 1 with safety := { s.safety with armStep := none, armedUntil := s.now + secG } }
    else s.armFails

/-- SILO_ARM. -/
def execSiloArm (v : Word) (s : State) : Host.Outcome State Fault Refusal := .next (s.armWrite v.toNat)

/-- SILO_ARM_EXPIRE: the window of the second step, or the armed period, ends. -/
def execSiloArmExpire (s : State) : Host.Outcome State Fault Refusal :=
  match s.safety.armStep with
  | some e => .next { s.advanceTo e with safety := { s.safety with armStep := none } }
  | none => .next (if s.bit pSilo SILO_STAT_ARMED then (s.advanceTo s.safety.armedUntil).wr pSilo SILO_STAT_ARMED 0 else s)

/-! ### Forced safe states (R518, R519) -/

/-- SILO_FORCE takes a value: sites whose bit is newly set enter their safe state, and released ones leave it. -/
def State.forceWrite (s : State) (v : Nat) : State :=
  let old := s.rd pSilo SILO_FORCE_FORCE
  let s1 := s.wr pSilo SILO_FORCE_FORCE v
  ((List.range 32).foldl (fun s n => if bitAt v n && !bitAt old n then s.safeEnter n scFORCE s.now else s) s1).settle

/-- SILO_FORCE: written by the Silo controller, or over I3C while the Silo is armed (R516). -/
def execSiloForce (i3c : Bool) (v : Word) (s : State) : Host.Outcome State Fault Refusal :=
  .next (if i3c && !s.bit pSilo SILO_STAT_ARMED then s.werr pSilo else s.forceWrite v.toNat)

/-! ### SAFE_N (R521) -/

/-- SAFE_N becomes active: every channel of the device is in its safe state, and F115 is live. -/
def State.safeNActive (s : State) : State :=
  let s1 := { s.wr pSilo SILO_STAT_SAFEN 1 with safety := { s.safety with allSafe := true } }
  let s2 := (List.range 32).foldl (fun s n => s.safeEnter n scSAFEN s.now) s1
  (s2.drivePair 115 true).collect [115]

/-- SAFE_N: three equal samples change its state. -/
def execSafeN (active : Bool) (s : State) : Host.Outcome State Fault Refusal :=
  .next <| if active then (if s.bit pSilo SILO_STAT_SAFEN && s.isLive 115 then s else s.safeNActive)
    else ((s.wr pSilo SILO_STAT_SAFEN 0).drivePair 115 false).sourceClears 115

/-! ### Group currents (R522) -/

/-- The current of a group, in 10 mA units, has been above the limit for 1 µs. -/
def State.groupTrip (s : State) (g meas : Nat) : State :=
  let s1 := s.wr pSilo SILO_ILIM_MEAS meas g
  if meas ≤ s.rd pSilo SILO_ILIM_LIMIT g then s1
  else
    let s2 := (s.groupSites g).foldl (fun s n => s.safeEnter n scILIM s.now) s1
    (s2.drivePair (105 + g) true).collect [105 + g]

/-- GROUP_CURRENT_LIMIT. -/
def execGroupCurrentLimit (g : Fin 8) (meas : BitVec 8) (s : State) : Host.Outcome State Fault Refusal :=
  .next (s.groupTrip g meas.toNat)

/-! ### Temperatures (R523) -/

/-- The four readings reach SILO_TEMP and TSENS; a sensor at WARN asserts F113, one at CRIT or two ignored sensors F114. -/
def State.thermal (s : State) (temps : List (BitVec 8)) : State :=
  let ok := countedTemps temps
  let s1 := (s.wr pSilo SILO_TEMP_TEMP (leNat temps)).wr pSilo SILO_STAT_TSENS (b2n (decide (ok.length < 4)))
  let warn : Bool := ok.any fun t => decide ((s.rd pSilo SILO_THR_WARN : Int) ≤ t)
  let crit : Bool := decide (ok.length ≤ 2) || ok.any fun t => decide ((s.rd pSilo SILO_THR_CRIT : Int) ≤ t)
  let s2 := if warn then (s1.wr pSilo SILO_STAT_WARN 1).drivePair 113 true else s1
  let s3 := if crit then (s2.wr pSilo SILO_STAT_CRIT 1).drivePair 114 true else s2
  s3.collect ((if warn then [113] else []) ++ if crit then [114] else [])

/-- THERMAL_WARNING: the readings of MON0 to MON3 in signed °C. -/
def execThermalWarning (temps : List (BitVec 8)) (s : State) : Host.Outcome State Fault Refusal :=
  .next (if temps.length = 4 then s.thermal temps else s)

/-- THERMAL_CRITICAL. -/
def execThermalCritical (temps : List (BitVec 8)) (s : State) : Host.Outcome State Fault Refusal :=
  .next (if temps.length = 4 then s.thermal temps else s)

/-! ### Lockstep, supplies, PLL (R500, R524, R536, R567) -/

/-- LOCKSTEP_MISMATCH: every site is held safe, and releases are ignored until F119 has recovered. -/
def execLockstepMismatch (s : State) : Host.Outcome State Fault Refusal :=
  let s1 := { s.wr pSilo SILO_STAT_LSOK 0 with safety := { s.safety with lockstepBad := true } }
  let s2 := (List.range 32).foldl (fun s n => s.safeEnter n scHALT s.now) s1
  .next ((s2.drivePair 119 true).collect [119])

/-- SUPPLY_OUT_OF_WINDOW. -/
def execSupplyOutOfWindow (s : State) : Host.Outcome State Fault Refusal := .next ((s.drivePair 116 true).collect [116])

/-- PLL_UNLOCK: in OFF the field PLL is stopped, and only an absent REFCLK is reported. -/
def execPllUnlock (absent : Bool) (s : State) : Host.Outcome State Fault Refusal :=
  .next (if s.mode = 0 && !absent then s else (s.drivePair 117 true).collect [117])

end Sys2Proof.Machine
end

