-- ==== Sys2Proof/Machine/Modes.lean ====
section
/-! DEFINITION. Operating modes, power domains and BOOT (R528 to R542, R556 to R564). -/

namespace Sys2Proof.Machine

open Reg

/-! ### Power requests (R538 to R542) -/

/-- Bit d of three 32-bit words. -/
def domainBit (w0 w1 w2 d : Nat) : Bool := bitAt (if d < 32 then w0 else if d < 64 then w1 else w2) (d % 32)

/-- PWR_REQ requests a domain on. -/
def State.requested (s : State) (d : Nat) : Bool :=
  domainBit (s.rd pPwr PWR_REQ0_REQ) (s.rd pPwr PWR_REQ1_REQ) (s.rd pPwr PWR_REQ2_REQ) d

/-- STANDBY turns a domain off (R541). -/
def State.standbyOff (s : State) (d : Nat) : Bool :=
  domainBit (s.rd pPwr PWR_STBY0_STBY) (s.rd pPwr PWR_STBY1_STBY) (s.rd pPwr PWR_STBY2_STBY) d

/-- The switched domains. -/
def allDomains : List Nat := List.range 80

/-- A subchannel holds its devices in self-refresh. -/
def State.inSelfRefresh (s : State) (n : Nat) : Bool := s.rd (pDc n) DC_STAT_STATE = 3

/-- Turning a domain off is refused (R539). For PD69 to PD72 the state of the subchannel decides: its pages read BUSY in
self-refresh itself. -/
def State.offRefused (s : State) (d : Nat) : Bool :=
  if d = 79 then true
  else if 69 ≤ d ∧ d < 73 then
    let st := s.rd (pDc (d - 69)) DC_STAT_STATE
    !(st = 3 || st = 0 || st = 5) || (d = 69 && (List.range 4).any fun n => n ≠ 0 && s.inSelfRefresh n)
  else (domainPages d).any s.pageBusy

/-- A refusal keeps the request bit and is recorded. -/
def State.refuseOff (s : State) (d : Nat) : State := (s.wr pPwr PWR_ERR_REFUSED 1).wr pPwr PWR_ERR_DOM d

/-- A domain begins to power down. -/
def State.startDown (s : State) (d : Nat) : State :=
  { s with mgmt := { s.mgmt with down := if s.domainOn d then setBit s.mgmt.down d true else s.mgmt.down
                                 up := setBit s.mgmt.up d false } }

/-- A domain waits for its batch. -/
def State.startUp (s : State) (d : Nat) : State :=
  if s.domainOn d then s else { s with mgmt := { s.mgmt with up := setBit s.mgmt.up d true } }

/-- A domain no longer waits to power up. -/
def State.upEnds (s : State) (d : Nat) : State := { s with mgmt := { s.mgmt with up := setBit s.mgmt.up d false } }

/-- A domain no longer powers down. -/
def State.downEnds (s : State) (d : Nat) : State := { s with mgmt := { s.mgmt with down := setBit s.mgmt.down d false } }

/-- The bit of a domain in PWR_REQ. -/
def State.putReq (s : State) (d : Nat) (b : Bool) : State :=
  if d < 32 then s.wrBit pPwr PWR_REQ0_REQ d b
  else if d < 64 then s.wrBit pPwr PWR_REQ1_REQ (d - 32) b
  else s.wrBit pPwr PWR_REQ2_REQ (d - 64) b

/-- A request for one domain changes: off under R539, on unless STANDBY holds it off. -/
def State.powerReq (s : State) (d : Nat) (on : Bool) : State :=
  if s.requested d = on then s
  else if on then
    let s1 := s.putReq d true
    if s.mode = 2 && s.standbyOff d then s1 else s1.startUp d
  else if s.offRefused d then s.refuseOff d
  else (s.putReq d false).startDown d

/-- A write of PWR_REQ word w: every domain of the write acts for itself. -/
def State.pwrReqWrite (s : State) (r : Requester) (w word : Nat) : State :=
  if !s.admits r pPwr false then s.werr pPwr
  else (List.range (if w = 2 then 16 else 32)).foldl (fun s k => s.powerReq (32 * w + k) (bitAt word k)) s

/-- POWER_REQUEST. -/
def execPowerRequest (r : Requester) (w : Fin 3) (v : Word) (s : State) : Host.Outcome State Fault Refusal :=
  .next (s.pwrReqWrite r w.val v.toNat)

/-- A change of mode that waits for its domains completes (R529, R535, R541). OFF turns PD69 to PD72 off after the others. -/
def State.modeArrives (s : State) : State :=
  match s.mgmt.target with
  | none => s
  | some m =>
    if s.mgmt.down ≠ 0 || (m = 3 && decide (s.upBatch ≠ [])) then s
    else if m = 0 && (List.range 4).any fun n => s.domainOn (69 + n) then
      (List.range 4).foldl (fun s n => s.startDown (69 + n)) s
    else ((s.setMode m).wr pMode MODE_STAT_PEND 0).dropTarget.leaveModes

/-- POWER_UP_COMPLETE: a batch has powered up. -/
def execPowerUpComplete (s : State) : Host.Outcome State Fault Refusal :=
  let ds := s.upBatch
  let s1 := ds.foldl (fun s d => (s.upEnds d).domainUp d) s
  .next s1.modeArrives

/-- A domain that was to go down is down; one requested on again meanwhile waits for its batch. -/
def State.downDone (s : State) (d : Nat) : State :=
  let s1 := (s.downEnds d).domainDown d
  if s1.mgmt.target.isNone && s1.requested d && !(s1.mode = 2 && s1.standbyOff d) && s1.mode ≠ 0 then s1.startUp d else s1

/-- POWER_DOWN_COMPLETE. -/
def execPowerDownComplete (d : Fin 80) (s : State) : Host.Outcome State Fault Refusal :=
  .next (if bitAt s.mgmt.down d then (s.downDone d).modeArrives else s)

/-! ### Mode requests (R529 to R535) -/

/-- The mode to which a MODE_REQ value asks (R555). -/
def reqMode (v : Nat) : Nat := if v = 1 then 3 else if v = 2 then 2 else if v = 3 then 4 else if v = 4 then 7 else if v = 5 then 0 else 1

/-- The table of R529 has the transition on request. -/
def transOk (src dst : Nat) : Bool :=
  if dst = 3 then src = 4 || src = 7 || src = 2
  else if dst = 2 ∨ dst = 4 ∨ dst = 7 then src = 3
  else if dst = 0 then src = 3 || src = 2 || src = 6
  else src = 3 || src = 2 || src = 4 || src = 6 || src = 7 || src = 0

/-- A site start was accepted in this AON clock, so that the mode before it decides (R532). -/
def State.startedNow (s : State) : Bool :=
  (List.range 32).any fun n => s.siteBusy n && decide ((s.sqo n).acceptAt / aonG = s.now / aonG)

/-- The reason for which a request is refused, 0 where it is accepted (R530). -/
def State.modeReason (s : State) (dst : Nat) : Nat :=
  let src := if s.mode = 5 && s.startedNow then 3 else s.mode
  if !transOk src dst then 1
  else if s.anySiteBusy || s.winnRuns || s.winn.img.isSome then 2
  else if dst = 2 && allDomains.any (fun d => s.standbyOff d && s.domainOn d && s.offRefused d) then 2
  else if dst = 7 && s.rd pSec SEC_LIFE_STATE = 1 then 3
  else if s.mode ≠ 6 && s.mode ≠ 0 && s.haltStands then 4
  else if s.mgmt.target.isSome then 5
  else 0

/-- A refusal. -/
def State.refuseMode (s : State) (why : Nat) : State := (s.wr pMode MODE_STAT_REF 1).wr pMode MODE_STAT_REASON why

/-- A mode change is in progress. -/
def State.aimAt (s : State) (m : Nat) : State := { s with mgmt := { s.mgmt with target := some m } }

/-- A change that takes time begins. -/
def State.beginMode (s : State) (m : Nat) : State :=
  ((s.wr pMode MODE_STAT_PEND 1).aimAt m).modeArrives

/-- Every READY subchannel enters self-refresh (R534, R535). -/
def State.refreshAll (s : State) : State :=
  (List.range 4).foldl (fun s n => if s.rd (pDc n) DC_STAT_STATE = 2 then s.dcSelfRefresh n else s) s

/-- An accepted request but RESTART. -/
def State.takeMode (s : State) (dst : Nat) : State :=
  if dst = 2 then
    ((allDomains.filter fun d => s.standbyOff d && s.domainOn d).foldl State.startDown s).beginMode 2
  else if dst = 0 then
    let s1 := s.refreshAll
    ((allDomains.filter fun d => s1.domainOn d && !decide (69 ≤ d ∧ d < 73)).foldl State.startDown s1).beginMode 0
  else if dst = 3 && s.mode = 2 then
    ((allDomains.filter s.requested).foldl State.startUp s).beginMode 3
  else (s.setMode dst).leaveModes

/-! ### BOOT (R534, R535, R543, R550, R556 to R564) -/

/-- Fields of AON blocks whose state a warm BOOT keeps: what the Silo holds and senses, the collector's states of its
sources, and the loaded keys (R534, R536, R544). -/
def warmFields : List Field :=
  [SILO_SAFE_SAFE, SILO_SCAUSE_CAUSE, SILO_STAT_SAFEN, SILO_STAT_LSOK, SILO_STAT_WARN, SILO_STAT_CRIT, SILO_STAT_TSENS,
   SILO_TEMP_TEMP, SILO_ILIM_MEAS, FLT_SSTAT_STATE, FLT_SSTAT_LOCK, FLT_LIVE_LIVE, FLT_LOCKS_LOCK, SEC_KSTAT_LOADED]

/-- A stored field that a warm BOOT keeps (R534). -/
def State.warmKeeps (s : State) (k : Nat) : Bool :=
  match pageOf (k / 256) with
  | none => false
  | some p =>
    match fieldAtKey p k with
    | none => false
    | some fa =>
      match p.kind with
      | .ddr => fa.f.off = 0x40
      | .dc => fa.f.off = 0x40 || fa.f.off = DC_DLY_RDLY.off || (fa.f = DC_STAT_STATE && s.inSelfRefresh p.inst)
      | .silo | .flt | .sec => warmFields.contains fa.f
      | _ => false

/-- A source whose state in the collector outlives a warm BOOT: it holds the device, or AON drives it (R536). -/
def State.sourceKept (s : State) (n : Nat) : Bool := ((s.flto n).halt && s.slotState n ≠ 0) || (slotMonitor n && s.isLive n)
  || n = 115

/-- The collector forgets a source. -/
def State.forgetSource (s : State) (n : Nat) : State :=
  ((((s.putSlot FLT_LIVE_LIVE n false).putSlot FLT_LOCKS_LOCK n false).wr pFlt FLT_SSTAT_STATE 0 n).wr pFlt FLT_SSTAT_LOCK 0 n).modFlt
    n fun _ => {}

/-- What survives every BOOT: the instant, the fuse, the memories outside the chip, the queue of commands. -/
def State.bootBase (s : State) (regs : Tab Nat) : State :=
  { now := s.now, regs := regs, free := s.free, rdata := s.rdata, pending := s.pending
    mem := { flash := s.mem.flash, host := s.mem.host, qdr := s.mem.qdr, ddr := s.mem.ddr }
    mgmt := { sealed := s.mgmt.sealed, bootFrom := s.now, i3cAddr := s.mgmt.i3cAddr, i3cOff := s.mgmt.i3cOff } }

/-- The state at the beginning of a warm BOOT, every switched domain but those of self-refresh off. -/
def State.warmBase (s : State) : State :=
  let b := s.bootBase (s.regs.filter fun e => s.warmKeeps e.1)
  let s1 : State := { b with
    keys := s.keys, tap := { s.tap with extest := false }, flt := s.flt, safety := { s.safety with inj := none, armStep := none }
    mem := { b.mem with ddr := s.mem.ddr.filter fun e => s.domainOn (69 + e.1 / 2 ^ 35) || s.inSelfRefresh (e.1 / 2 ^ 35) }
    dc := s.dc.filter fun e => s.inSelfRefresh e.1 }
  let s2 := ((List.range 256).filter fun n => !s.sourceKept n).foldl State.forgetSource s1
  let s3 := (List.range 4).foldl (fun t n => if s.domainOn (69 + n) then t.putOn (69 + n) true else t) s2
  (((s3.wr pMode MODE_STAT_PREV s.mode).wr pMode MODE_STAT_WARM 1).wr3 pMode MODE_TS0_TS MODE_TS1_TS MODE_TS2_TS
    (s.stampAt s.now)).settle

/-- The challenge takes fresh random values (R551). -/
def State.newChallenge (s : State) : State :=
  (List.range 12).foldl (fun s i => let d := s.draw; d.2.wr pDbg DBG_CHAL_CHAL d.1 i) s

/-- Step 2: the fuses load, and with the lifecycle the debug level takes its default (R543, R550, R558, R594). -/
def State.loadFuses (s : State) : State :=
  let s1 := (s.wr pSec SEC_LIFE_STATE (b2n s.mgmt.sealed)).wr pDbg DBG_LEVEL_LEVEL (if s.mgmt.sealed then 0 else 1)
  let s2 := (s1.wr pDev DEV_SERL_SER (Config.fuse 0)).wr pDev DEV_SERH_SER (Config.fuse 1)
  let s3 := (List.range 2).foldl (fun s n =>
    (s.wr (pEth n) ETH_MACL_MAC (Config.fuse (2 + 2 * n))).wr (pEth n) ETH_MACH_MAC (Config.fuse (3 + 2 * n))) s2
  let s4 := (List.range 10).foldl (fun s u =>
    (((s.wr pUc UC_VER_MAJOR 1 u).wr pUc UC_VER_MINOR (if u < 8 then 4 else if u = 8 then 2 else 3) u).wr pUc UC_SIZE_WORDS
      (ucWords u) u).wr pUc UC_SIGF_SIGF (Config.fuse (32 + u)) u) s3
  s4.newChallenge.wr pDev DEV_BOOT_STEP 2

/-- Step 3: the polarity of REFCLK (R560). -/
def State.checkRef (s : State) (c : RefCheck) : State :=
  let s1 := match c with
    | .rising => s
    | .falling => ((s.wr pDev DEV_BOOT_REFREV 1).drivePair 118 true).collect [118]
    | .silent => s.wr pDev DEV_BOOT_REFUNCHK 1
  s1.wr pDev DEV_BOOT_STEP 3

/-- Step 6: a ROM's signature is compared (R393, R394). -/
def State.checkRom (s : State) (u : Nat) (crc : Nat) : State :=
  let ok := crc = s.rd pUc UC_SIGF_SIGF u
  ((s.wr pUc UC_SIGC_SIGC crc u).wr pUc UC_STAT_SIGOK (b2n ok) u).wr pUc UC_STAT_SIGFAIL (b2n (!ok)) u

/-- The sources that a memory self-test can assert (R562). -/
def selfTestSlot (n : Nat) : Bool :=
  decide (40 ≤ n ∧ n < 48) || decide (59 ≤ n ∧ n < 64) || n = 70 || decide (84 ≤ n ∧ n < 100)

/-- Step 7: every on-chip memory holds zeros with valid check bits, and failing units assert their sources (R562). -/
def State.selfTest (s : State) (fails : List Nat) : State :=
  let s1 : State := { s with
    mem := { s.mem with gran := [], granErr := [], dict := [], cap := [], record := [], recHdr := [], bw := [] }, hop := [] }
  let bad := fails.filter selfTestSlot
  if bad = [] then s1
  else (bad.foldl (fun s n => s.modFlt n fun o => { o with stuck := true }) (s1.wr pDev DEV_BOOT_STFAIL 1)).collect bad

/-- Step 8: subchannels in self-refresh leave it, the other enabled ones train, and the QDR ports train (R455, R458, R466,
R534, R535). The training of the k-th enabled subchannel is the k-th of the list. -/
def State.bootMemories (s : State) (b : BootFindings) : State :=
  let s1 := s.dcEnabled.zipIdx.foldl (fun s (n, k) =>
    let sr := b.srexit.getD k default
    let s1 := if s.inSelfRefresh n then s.srexit n sr.ranks sr.fits else s.trainStart n
    match b.train[k]? with
    | some t => s1.trainEnd n t
    | none => s1) s
  let rdy := ((List.range 4).map fun n => if s1.rd (pDc n) DC_STAT_STATE = 2 then 2 ^ n else 0).sum
  (s1.wr pDev DEV_BOOT_DCRDY rdy).qdrTrain b.qa.toNat b.qb.toNat

/-- Step 9: the calibration image in the flash loads (R563). -/
def State.bootImage (s : State) (ok : Bool) : State :=
  let s1 := match s.flashImage with | some bs => s.loadImage bs ok | none => s.loadImage [] false
  s1.wr pDev DEV_BOOT_IMGOK (b2n (s1.rd pWinn WINN_IMG_STAT_REASON = 0))

/-- BOOT waits in step 3 for REFCLK, or no longer does. -/
def State.bootWaits (s : State) (b : Option BootFindings) : State := { s with mgmt := { s.mgmt with boot := b } }

/-- Steps 3 to 9 (R558). -/
def State.bootRun (s : State) (c : RefCheck) (b : BootFindings) : State :=
  let s3 := ((s.bootWaits none).drivePair 117 false).sourceClears 117
  let s4 := (s3.checkRef c).wr pDev DEV_BOOT_STEP 4
  let s5 := ((allDomains.filter s4.requested).foldl State.domainUp s4).wr pDev DEV_BOOT_STEP 5
  let s6 := (((b.sigs.zipIdx.take 10).foldl (fun s (w, u) => s.checkRom u w.toNat) s5).pagePairs pUc).wr pDev DEV_BOOT_STEP 6
  let s6' := s6.collect ((List.range 10).filterMap fun u => if s6.srcLive (48 + u) then some (48 + u) else none)
  let s7 := (s6'.selfTest (b.fails.map (·.val))).wr pDev DEV_BOOT_STEP 7
  let s8 := (s7.bootMemories b).wr pDev DEV_BOOT_STEP 8
  let s9 := (s8.bootImage b.flashOk).wr pDev DEV_BOOT_STEP 9
  { s9 with winn := { s9.winn with due := 0 } }

/-- BOOT begins: steps 1 and 2, and as far as step 9 where REFCLK toggles; else F117 is live and BOOT stays in step 3. -/
def State.bootBegin (s : State) (ref : Option RefCheck) (b : BootFindings) : State :=
  let s2 := s.loadFuses
  match ref with
  | some c => s2.bootRun c b
  | none => ((s2.bootWaits (some b)).drivePair 117 true).collect [117]

/-- An accepted RESTART (R534, R535). -/
def State.restart (s : State) (ref : Option RefCheck) (b : BootFindings) : State := (s.refreshAll.warmBase).bootBegin ref b

/-- A write of MODE_REQ that asks for a mode but RESTART. -/
def State.modeAsk (s : State) (r : Requester) (v : Nat) : State :=
  s.writeWith r pMode 0x40 v fun s =>
    let why := s.modeReason (reqMode (v % 16))
    if why ≠ 0 then s.refuseMode why else s.takeMode (reqMode (v % 16))

/-- A write of MODE_REQ that asks for RESTART; `ref` and `b` are what the checks of the BOOT will find. -/
def State.restartAsk (s : State) (r : Requester) (v : Nat) (ref : Option RefCheck) (b : BootFindings) : State :=
  s.writeWith r pMode 0x40 v fun s => if s.modeReason 1 ≠ 0 then s.refuseMode (s.modeReason 1) else s.restart ref b

/-- The findings of a BOOT that no command brings. -/
def State.anyFindings (s : State) : BootFindings := Config.bootFindings s.free

/-- IDLE_REQUEST. -/
def execIdleRequest (r : Requester) (s : State) : Host.Outcome State Fault Refusal := .next (s.modeAsk r 1)

/-- STANDBY_REQUEST. -/
def execStandbyRequest (r : Requester) (s : State) : Host.Outcome State Fault Refusal := .next (s.modeAsk r 2)

/-- CAL_REQUEST. -/
def execCalRequest (r : Requester) (s : State) : Host.Outcome State Fault Refusal := .next (s.modeAsk r 3)

/-- FACTORY_REQUEST. -/
def execFactoryRequest (r : Requester) (s : State) : Host.Outcome State Fault Refusal := .next (s.modeAsk r 4)

/-- OFF_REQUEST. -/
def execOffRequest (r : Requester) (s : State) : Host.Outcome State Fault Refusal := .next (s.modeAsk r 5)

/-- RESTART: `ref` is what the REFCLK check finds, none while REFCLK is absent. -/
def execRestartRequest (r : Requester) (ref : Option RefCheck) (b : BootFindings) (s : State) : Host.Outcome State Fault Refusal :=
  .next (s.restartAsk r 6 ref b)

/-- POWER_ON_RESET_RELEASE: a cold BOOT begins. Step 1 holds every site in its safe state while SAFE_N is active. -/
def execPowerOnResetRelease (ref : Option RefCheck) (b : BootFindings) (s : State) : Host.Outcome State Fault Refusal :=
  .next <| if s.mode = 1 && s.rd pDev DEV_BOOT_STEP = 0 then
      let s1 : State := { s with mgmt := { s.mgmt with bootFrom := s.now } }
      ((((s1.wr pSilo SILO_STAT_LSOK 1).wr pDev DEV_BOOT_STEP 1).safeNActive)).bootBegin ref b
    else s

/-- VDDAON_LOSS: everything on the chip is lost, the pattern keys included; the fuse, the flash and the memories of others
remain. Data in DRAM that self-refresh does not hold is lost with it. -/
def execVddaonLoss (s : State) : Host.Outcome State Fault Refusal :=
  let b := s.bootBase []
  .next { b with mem := { b.mem with ddr := [] }, mgmt := { sealed := s.mgmt.sealed } }

/-- REFCLK_DETECT: REFCLK toggles, and BOOT goes on from step 3. -/
def execRefclkDetect (c : RefCheck) (s : State) : Host.Outcome State Fault Refusal :=
  match s.mgmt.boot with
  | some b => .next (s.bootRun c b)
  | none => .next s

/-- BOOT_END: step 10, `us` µs after BOOT began; the automatic LOOP run falls due (R364, R529, R561, R564). -/
def execBootEnd (us : Word) (s : State) : Host.Outcome State Fault Refusal :=
  .next <| if s.mode = 1 && s.rd pDev DEV_BOOT_STEP = 9 then
      let s1 := s.advanceTo (s.mgmt.bootFrom + us.toNat * usG)
      let s2 := ((s1.wr pDev DEV_BOOT_STEP 10).wr pDev DEV_BOOTT_TIME us.toNat).loopDue (List.range 32)
      if s2.haltStands then s2.haltAll else s2.setMode 3
    else s

end Sys2Proof.Machine
end

