-- ==== Sys2Proof/Machine/Security.lean ====
section
/-! DEFINITION. The lifecycle, the pattern keys, zeroisation, debug levels and tokens, and the TAP (R543 to R553). -/

namespace Sys2Proof.Machine

open Reg

/-! ### Zeroisation (R199, R547) -/

/-- Every key slot is emptied, and the Granary, the dictionaries and the Hoppers are cleared; ZBUSY reads 1 until
ZEROISATION_DONE. -/
def State.zeroise (s : State) : State :=
  let s1 : State := { s with
    keys := [], hop := [], mem := { s.mem with gran := [], granErr := [], dict := [] } }
  (s1.wr pSec SEC_KSTAT_LOADED 0).wr pSec SEC_KSTAT_ZBUSY 1

/-- The target that waits for the end of a zeroisation. -/
def State.setAfterZero (s : State) (o : Option Nat) : State := { s with mgmt := { s.mgmt with afterZero := o } }

/-- The token under verification. -/
def State.setToken (s : State) (o : Option (Bool × Nat)) : State := { s with mgmt := { s.mgmt with token := o } }

/-- A seal: the fuse, zeroisation, and level BOUNDARY (R543). -/
def State.sealNow (s : State) : State :=
  let s0 : State := { s with mgmt := { s.mgmt with sealed := true } }
  let s1 := s0.wr pSec SEC_LIFE_STATE 1
  (s1.wr pDbg DBG_LEVEL_LEVEL 0).zeroise

/-- A seal that another KEY, state or mode discards (R543). -/
def State.sealBad (s : State) (word : Nat) : Bool :=
  bitsAt word 16 16 ≠ 0x5EA1 || s.rd pSec SEC_LIFE_STATE ≠ 0 || s.mode ≠ 3

/-- A write of SEC_CTL. -/
def State.secCtlWrite (s : State) (r : Requester) (word : Nat) : State :=
  s.writeWith r pSec 0x44 word fun s =>
    let s1 := if bitAt word 0 then (if s.sealBad word then s.werr pSec else s.sealNow) else s
    if bitAt word 1 then (if s1.anySiteBusy then s1.werr pSec else s1.zeroise) else s1

/-- SEAL: `key` is the KEY field of the word written with SEAL = 1. -/
def execSealDevice (r : Requester) (key : BitVec 16) (s : State) : Host.Outcome State Fault Refusal :=
  .next (s.secCtlWrite r (key.toNat * 65536 + 1))

/-- ZEROISE. -/
def execZeroise (r : Requester) (s : State) : Host.Outcome State Fault Refusal := .next (s.secCtlWrite r 2)

/-- ZEROISATION_DONE: a token that waited for it takes effect (R551). -/
def execZeroisationDone (s : State) : Host.Outcome State Fault Refusal :=
  .next <| if s.bit pSec SEC_KSTAT_ZBUSY then
      let s1 := s.wr pSec SEC_KSTAT_ZBUSY 0
      match s.mgmt.afterZero with
      | some t =>
        let s2 := (s1.setAfterZero none).wr pDbg DBG_STAT_BUSY 0
        if t = 2 then s2.wr pDbg DBG_LEVEL_LEVEL 2 else s2.wr pSec SEC_LIFE_STATE 2
      | none => s1
    else s

/-! ### Pattern keys (R544 to R546, R553) -/

/-- The words of SEC_KDATA. -/
def State.keyData (s : State) : List Nat := (List.range 18).map fun i => s.rd pSec SEC_KDATA_DATA i

/-- A number of 32-bit words, the first lowest. -/
def wordsNat : List Nat → Nat
  | [] => 0
  | w :: ws => w + 2 ^ 32 * wordsNat ws

/-- The reason for which a load is refused before any unwrapping, 0 where it is not (R545, R546, R553). -/
def State.keyReason (s : State) (slot : Nat) (wrap : Bool) : Nat :=
  let life := s.rd pSec SEC_LIFE_STATE
  if life = 2 || (life = 1 && s.rd pDbg DBG_LEVEL_LEVEL = 2) || (!wrap && life ≠ 0) then 2
  else if s.mode ≤ 1 ∨ s.mode = 5 then 1
  else if (List.range 32).any fun n => s.siteBusy n && bitAt (s.rd pHop HOP_CFG_KEYEN n) slot then 1
  else 0

/-- A refused load. -/
def State.keyRefused (s : State) (why : Nat) : State := (s.wr pSec SEC_KSTAT_KREF 1).wr pSec SEC_KSTAT_KREASON why

/-- A slot holds a key. -/
def State.putKey (s : State) (slot key : Nat) : State :=
  { s with keys := tabInsert s.keys slot (key + 1) }.wrBit pSec SEC_KSTAT_LOADED slot true

/-- The load of the selected slot. -/
def State.keyLoad (s : State) : State :=
  let slot := s.rd pSec SEC_KSEL_SLOT
  let wrap := s.bit pSec SEC_KSEL_WRAP
  let why := s.keyReason slot wrap
  let s1 :=
    if why ≠ 0 then s.keyRefused why
    else if wrap then
      (match Config.keyUnwrap s.keyData with
       | some k => s.putKey slot (k % 2 ^ 512)
       | none => s.keyRefused 3)
    else s.putKey slot (wordsNat (s.keyData.take 16))
  (List.range 18).foldl (fun s i => s.wr pSec SEC_KDATA_DATA 0 i) s1

/-- A write of SEC_KGO. -/
def State.kgoWrite (s : State) (r : Requester) (word : Nat) : State :=
  s.writeWith r pSec 0xC8 word fun s => if bitAt word 0 then s.keyLoad else s

/-- A write of SEC_KDATA, which no read returns. -/
def State.kdataWrite (s : State) (r : Requester) (i word : Nat) : State :=
  s.writeWith r pSec (0x80 + 4 * i) word fun s => s.wr pSec SEC_KDATA_DATA word i

/-- KEY_LOAD. -/
def execKeyLoad (r : Requester) (s : State) : Host.Outcome State Fault Refusal := .next (s.kgoWrite r 1)

/-! ### Debug levels and tokens (R550 to R552) -/

/-- A request is refused. -/
def State.dbgRefused (s : State) (why : Nat) : State := (s.wr pDbg DBG_STAT_REF 1).wr pDbg DBG_STAT_REASON why

/-- A write of DBG_REQ (R550). -/
def State.dbgReqWrite (s : State) (r : Requester) (word : Nat) : State :=
  s.writeWith r pDbg 0x44 word fun s =>
    let l := word % 4
    if s.rd pSec SEC_LIFE_STATE = 1 && l = 2 && s.rd pDbg DBG_LEVEL_LEVEL < 2 then s.dbgRefused 4 else s.wr pDbg DBG_LEVEL_LEVEL l

/-- DEBUG_LEVEL_REQUEST. -/
def execDebugLevelRequest (r : Requester) (level : Fin 4) (s : State) : Host.Outcome State Fault Refusal :=
  .next (s.dbgReqWrite r level.val)

/-- The reason for which a submission is refused, 0 where it is not (R552). A submission while one is being verified counts
as BUSY. -/
def State.tokenReason (s : State) (target : Nat) : Nat :=
  if s.anySiteBusy || s.bit pDbg DBG_STAT_BUSY then 2
  else if (target = 3 && s.mode ≠ 3) || !(s.mode = 2 || s.mode = 3 || s.mode = 4 || s.mode = 6) then 3
  else if s.rd pSec SEC_LIFE_STATE ≠ 1 then 4
  else if 4 ≤ s.rd pDbg DBG_STAT_FAILS then 5
  else 0

/-- The token and the challenge words. -/
def State.tokenWords (s : State) : List Nat := (List.range 24).map fun i => s.rd pDbg DBG_TOK_TOK i
def State.challenge (s : State) : List Nat :=
  [s.rd pDev DEV_SERL_SER, s.rd pDev DEV_SERH_SER] ++ (List.range 12).map fun i => s.rd pDbg DBG_CHAL_CHAL i

/-- A submission (R551, R552). -/
def State.submitToken (s : State) : State :=
  let target := s.rd pDbg DBG_TGO_TARGET
  let why := s.tokenReason target
  let s1 :=
    if why ≠ 0 then s.dbgRefused why
    else (s.setToken (some (Config.tokenVerify s.tokenWords s.challenge target, target))).wr pDbg DBG_STAT_BUSY 1
  s1.newChallenge

/-- A write of DBG_TGO. -/
def State.tgoWrite (s : State) (r : Requester) (word : Nat) : State :=
  s.writeWith r pDbg 0x160 word fun s => if bitAt word 8 then s.submitToken else s

/-- A write of DBG_TOK, which no read returns. -/
def State.tokWrite (s : State) (r : Requester) (i word : Nat) : State :=
  s.writeWith r pDbg (0x100 + 4 * i) word fun s => s.wr pDbg DBG_TOK_TOK word i

/-- TOKEN_SUBMIT. -/
def execTokenSubmit (r : Requester) (target : Fin 4) (s : State) : Host.Outcome State Fault Refusal :=
  .next (s.tgoWrite r (256 + target.val))

/-- The verification ends (R551, R552); a zeroisation that a running site refuses refuses the token (R547). -/
def State.tokenEnds (s : State) (ok : Bool) (target : Nat) : State :=
  let s1 := s.setToken none
  if !ok then ((s1.dbgRefused 1).wr pDbg DBG_STAT_FAILS (min 4 (s.rd pDbg DBG_STAT_FAILS + 1))).wr pDbg DBG_STAT_BUSY 0
  else if s.anySiteBusy then ((s1.werr pSec).dbgRefused 2).wr pDbg DBG_STAT_BUSY 0
  else s1.zeroise.setAfterZero (some target)

/-- TOKEN_VERIFIED. -/
def execTokenVerified (s : State) : Host.Outcome State Fault Refusal :=
  match s.mgmt.token with
  | some (ok, t) => .next (s.tokenEnds ok t)
  | none => .next s

/-! ### The TAP (R548, R549, R553) -/

/-- An instruction other than EXTEST is in force, and what its register captured. -/
def State.tapTake (s : State) (i : TapInstr) (captured : Nat) : State :=
  { s with tap := { s.tap with ir := i, captured := captured, extest := false } }

/-- BYPASS: the bypass register captures 0 (IEEE 1149.1). -/
def execBypass (s : State) : Host.Outcome State Fault Refusal := .next (s.tapTake .bypass 0)

/-- IDCODE: the identification code is a free value, the same for every capture. -/
def execIdcode (s : State) : Host.Outcome State Fault Refusal := .next (s.tapTake .idcode (Config.fuse 64))

/-- SAMPLE/PRELOAD: the cells capture the channel balls, and the shifted value is preloaded. -/
def execSamplePreload (pins preload : BitVec 320) (s : State) : Host.Outcome State Fault Refusal :=
  let s1 := s.tapTake .samplePreload pins.toNat
  .next { s1 with tap := { s1.tap with cells := preload.toNat } }

/-- EXTEST, in the modes that permit it: the cells drive the balls, and capture them. -/
def execExtest (pins : BitVec 320) (s : State) : Host.Outcome State Fault Refusal :=
  .next (if s.mode = 3 || s.mode = 4 || s.mode = 7 then
      { s with tap := { s.tap with ir := .extest, captured := pins.toNat, extest := true } }
    else s)

end Sys2Proof.Machine
end

