-- ==== Sys2Proof/Machine/RegWrite.lean ====
section
/-! DEFINITION. Register accesses by address (R5 to R25, R554, R581 to R593): the page header, the register of a block that
a write reaches, reads that change state, and the I3C target. -/

namespace Sys2Proof.Machine

open Reg

/-! ### The page header -/

/-- PAGE_CTL may be written: an EN = 0 or RST is discarded while the block is busy, or neither READY nor in RESET (R588). -/
def State.resetTaken (s : State) (p : Page) : Bool :=
  !s.pageBusy p && (s.pageState p = 4 || s.pageState p = 1)

/-- A block is taken into reset: its work and its pending copies are gone (R20, R21). -/
def State.pageDown (s : State) (p : Page) : State := (s.pageLost p).dropStaged p

/-- A block leaves reset, unless its isolation or its power still holds it. -/
def State.pageUp (s : State) (p : Page) : State :=
  if (s.pageo p).iso || s.pageState p = 0 then s else s.pageBack p false

/-- EN and RST of PAGE_CTL act (R588). -/
def State.ctlReset (s : State) (p : Page) (en rst : Bool) : State :=
  let was := s.bit p PAGE_CTL_EN
  let s1 := if rst || (was && !en) then s.pageDown p else s
  let s2 := if rst then s1.modPage p fun o => { o with rst := true } else s1
  let s3 := if en = was then s2 else s2.wr p PAGE_CTL_EN (b2n en)
  if en && !was && !(s3.pageo p).rst then s3.pageUp p else s3

/-- A write of PAGE_CTL (R587, R588). -/
def State.pageCtlWrite (s : State) (r : Requester) (p : Page) (word : Nat) : State :=
  let acts := capRst p.kind && (bitAt word 1 || !bitAt word 0)
  if !s.admits r p true || (acts && !s.resetTaken p) then s.werr p
  else
    let s1 := if capRst p.kind then s.ctlReset p (bitAt word 0) (bitAt word 1) else s
    if capPwr p.kind then (pageDomains p).foldl (fun s d => s.powerReq d (bitAt word 2)) s1 else s1

/-- The word that leaves EN and PWR of PAGE_CTL as they are. -/
def State.ctlWord (s : State) (p : Page) : Nat := s.rd p PAGE_CTL_EN + 4 * s.viewHeader p PAGE_CTL_PWR

/-- FLT_LATCH bits cleared; when none is left, the Brewers' notices end (R422, R502). -/
def State.latchClear (s : State) (slots : List Nat) : State :=
  let s1 := slots.foldl (fun s n => s.putSlot FLT_LATCH_LATCH n false) s
  if (List.range 8).all fun i => s1.rd pFlt FLT_LATCH_LATCH i = 0 then
    (List.range 16).foldl (fun s n => s.modCore n fun c => { c with notice := false }) s1
  else s1

/-- A write of PAGE_FLTL reaches the FLT_LATCH bits of the page's sources (R591). -/
def State.fltlWrite (s : State) (r : Requester) (p : Page) (word : Nat) : State :=
  if !s.admits r p true then s.werr p
  else s.latchClear ((pageSources p).zipIdx.filterMap fun (n, k) => if bitAt word k then some n else none)

/-- Pending copies are withdrawn; with them the commits that generators wait for (R15). -/
def State.commitDrop (s : State) (p : Page) : State :=
  let s1 := s.dropStaged p
  if p.kind = .clk then
    (List.range 8).foldl (fun s n => (s.modCg n fun o => { o with commit := false }).cgPendSync n) s1
  else s1

/-- GO: the page's copies become active at its boundary, at once where the block is idle (R11, R16). -/
def State.commitGo (s : State) (p : Page) : State :=
  if p.kind = .clk then (s.wr p PAGE_COMMIT_PEND 1).cgGo else (s.wr p PAGE_COMMIT_PEND 1).applyCommit p

/-- A write of PAGE_COMMIT (R592). -/
def State.commitWrite (s : State) (r : Requester) (p : Page) (word : Nat) : State :=
  if !s.admits r p true then s.werr p
  else if !capCommit p.kind then s
  else if bitAt word 0 && bitAt word 1 then s.werr p
  else if bitAt word 1 then s.commitDrop p
  else if bitAt word 0 then s.commitGo p
  else s

/-- A write of a header register. -/
def State.headerWrite (s : State) (r : Requester) (p : Page) (off word : Nat) : State :=
  if off = 0x0C then s.pageCtlWrite r p word
  else if off = 0x18 then s.fltlWrite r p word
  else if off = 0x1C then s.commitWrite r p word
  else s.writePlain r p off word

/-! ### The registers of a block -/

/-- A register of calibration values (R371, R374). -/
def isCal (p : Page) (off : Nat) : Bool :=
  match p.kind with
  | .sh => decide (0x100 ≤ off ∧ off < 0x300 ∧ 0x28 ≤ off % 0x40 ∧ off % 0x40 ≤ 0x30)
  | .asn => decide (0xC0 ≤ off ∧ off ≤ 0xC8)
  | .ascan => decide (0x100 ≤ off ∧ off < 0x180)
  | .winn => decide (0x1000 ≤ off ∧ off < 0x3800)
  | _ => false

/-- A plain write; one that changes a calibration value makes the set a user's (R374). -/
def State.calWrite (s : State) (r : Requester) (p : Page) (off word : Nat) : State :=
  let s1 := s.writePlain r p off word
  if isCal p off && s1.readReg p off ≠ s.readReg p off then s1.calChanged else s1

/-- A write to a sheaf page. -/
def State.shWrite (s : State) (r : Requester) (p : Page) (off word : Nat) : State :=
  let c := 8 * p.inst + (off - 0x100) / 0x40
  if off = 0x50 then s.opcCtlWrite r p.inst word
  else if off = 0x80 then s.shSiteWrite r p.inst word
  else if 0x100 ≤ off ∧ off < 0x300 ∧ off % 0x40 = 0x18 then s.pmuCtlWrite r c word
  else if 0x100 ≤ off ∧ off < 0x300 ∧ off % 0x40 = 0x20 then s.pmuClampWrite r c word
  else s.calWrite r p off word

/-- A write to the CLK page. -/
def State.clkWrite (s : State) (r : Requester) (off word : Nat) : State :=
  if off = 0x40 then s.syncCtlWrite r word
  else if off = 0x108 ∨ off = 0x10C then s.flagWrite r ((off - 0x108) / 4) 1 word
  else if off = 0x110 ∨ off = 0x114 then s.flagWrite r ((off - 0x110) / 4) 0 word
  else if 0x140 ≤ off ∧ off < 0x1C0 then s.spanCfgWrite r ((off - 0x140) / 4) word
  else if off = 0x1C8 then s.atPulseWrite r word
  else if 0x200 ≤ off ∧ off < 0x300 ∧ off % 0x20 = 0 then s.cgCtlWrite r ((off - 0x200) / 0x20) word
  else if 0x300 ≤ off ∧ off < 0x400 then s.rgWrite r ((off - 0x300) / 16) (off % 16) word
  else s.writePlain r pClk off word

/-- A write to the TIME page. -/
def State.timeWrite (s : State) (r : Requester) (off word : Nat) : State :=
  if off = 0x40 then s.timeCfgWrite r word
  else if off = 0x44 then s.timeCtlWrite r word
  else if off = 0x68 then s.ofsWrite r word
  else if off = 0x74 then s.adj0Write r word
  else if off = 0x78 then s.adjWrite r word
  else s.writePlain r pTime off word

/-- A write to the ASCAN page; whether VREF_ADC lies in its window is a free value here. -/
def State.ascanWrite (s : State) (r : Requester) (off word : Nat) : State :=
  if off = 0x40 then s.scanCtlWrite r word
  else if off = 0x80 then (if bitAt word 0 then (let d := s.draw; d.2.refWrite r word (d.1 % 2 = 1)) else s.refWrite r word true)
  else s.calWrite r pAscan off word

/-- A write to a DC page; what SREXIT finds is a free value here. -/
def State.dcWrite (s : State) (r : Requester) (n off word : Nat) : State :=
  if off = 0x40 then s.dcCfgWrite r n word
  else if off = 0x44 then
    (if bitAt word 2 then (let d := s.draw; let sr := Config.srFindings d.1; d.2.dcCtlWrite r n word sr.ranks sr.fits)
     else s.dcCtlWrite r n word [] false)
  else if s.dcStopped n off word then s.werr (pDc n)
  else s.writePlain r (pDc n) off word

/-- A write to the CNT page. -/
def State.cntWrite (s : State) (r : Requester) (off word : Nat) : State :=
  if off = 0x40 then s.cntCtlWrite r word []
  else if off = 0x44 then s.cntCfgWrite r word
  else if 0x1000 ≤ off ∧ off < 0x3000 then s.counterWrite r ((off - 0x1000) / 8) (off % 8 = 4) word 0
  else s.writePlain r pCnt off word

/-- A write to the FLT page. -/
def State.fltWrite (s : State) (r : Requester) (off word : Nat) : State :=
  if off = 0x48 then s.injWrite r word
  else if 0x80 ≤ off ∧ off < 0xA0 then
    (if !s.admits r pFlt false then s.werr pFlt
     else s.latchClear ((setBits word 32).map fun k => 32 * ((off - 0x80) / 4) + k))
  else if 0x1000 ≤ off ∧ off < 0x2000 ∧ off % 16 = 8 then s.sstatWrite r ((off - 0x1008) / 16) word
  else s.writePlain r pFlt off word

/-- A write to the SILO page: over I3C alone, but the host or a Brewer that writes SILO_ARM disarms it (R516, R517). -/
def State.siloWrite (s : State) (r : Requester) (off word : Nat) : State :=
  match r with
  | .i3c =>
    if off = 0x4C then s.armWrite word
    else if off = 0x48 && s.bit pSilo SILO_STAT_ARMED then s.forceWrite word
    else s.writePlain .i3c pSilo off word
  | .jtag => s.werr pSilo
  | _ => if off = 0x4C then s.disarm.werr pSilo else s.werr pSilo

/-- A write to the MODE page; what the checks of a BOOT find is a free value here. -/
def State.modeWrite (s : State) (r : Requester) (off word : Nat) : State :=
  if off = 0x40 then
    (if word % 16 = 6 then (let d := s.draw; d.2.restartAsk r word (Config.refCheck d.1) s.anyFindings)
     else s.modeAsk r word)
  else if r = .i3c then s.werr pMode
  else s.writePlain r pMode off word

/-- A write to the SEC page. -/
def State.secWrite (s : State) (r : Requester) (off word : Nat) : State :=
  if off = 0x44 then s.secCtlWrite r word
  else if off = 0xC8 then s.kgoWrite r word
  else if 0x80 ≤ off ∧ off < 0xC8 then s.kdataWrite r ((off - 0x80) / 4) word
  else s.writePlain r pSec off word

/-- A write to the DBG page. -/
def State.dbgWrite (s : State) (r : Requester) (off word : Nat) : State :=
  if off = 0x44 then s.dbgReqWrite r word
  else if off = 0x160 then s.tgoWrite r word
  else if 0x100 ≤ off ∧ off < 0x160 then s.tokWrite r ((off - 0x100) / 4) word
  else s.writePlain r pDbg off word

/-- A write to a Brewer page. -/
def State.bwPageWrite (s : State) (r : Requester) (n off word : Nat) : State :=
  if off = 0x40 then s.bwCtlWrite r n word
  else if off = 0x54 then s.bwDoorWrite r n word
  else if off = 0x58 then s.bwDoorClrWrite r n word
  else if off = 0x5C then s.bwIeWrite r n word
  else s.writePlain r (pBw n) off word

/-- A write to the GLN page. -/
def State.glnWrite (s : State) (r : Requester) (off word : Nat) : State :=
  if off = 0x70 then s.brdCtlWrite r word
  else if off = 0x90 then s.dlConsWrite r word
  else if 0x100 ≤ off ∧ off < 0x900 ∧ off % 0x40 = 0x3C then s.sctlWrite r ((off - 0x100) / 0x40) word
  else s.writePlain r pGln off word

/-- A 32-bit write to a register of a page outside its header. -/
def State.blockWrite (s : State) (r : Requester) (p : Page) (off word : Nat) : State :=
  let n := p.inst
  match p.kind with
  | .sh => s.shWrite r p off word
  | .sq => if off = 0x40 then s.sqCtlWrite r n word else if off = 0x5C then s.hjmpWrite r n word else s.writePlain r p off word
  | .clk => s.clkWrite r off word
  | .gln => s.glnWrite r off word
  | .hop => if 0x100 ≤ off ∧ off % 0x80 = 0x1C then s.hprodWrite r ((off - 0x100) / 0x80) word else s.writePlain r p off word
  | .time => s.timeWrite r off word
  | .ascan => s.ascanWrite r off word
  | .asn =>
    if off = 0x44 then s.scCtlWrite r n word
    else if off = 0x80 ∨ off = 0x90 then s.urgWrite r n ((off - 0x80) / 0x10) word
    else s.calWrite r p off word
  | .acq => if off = 0x40 then s.acqCtlWrite r word else if off = 0x78 then s.rconsWrite r word else s.writePlain r p off word
  | .dc => s.dcWrite r n off word
  | .ddr => if off = 0x40 then s.ddrCfgWrite r word else s.writePlain r p off word
  | .qdr =>
    if off = 0x44 then
      (if bitAt word 0 then (let a := s.draw; let b := a.2.draw; b.2.qdrCtlWrite r word (a.1 % 256) (b.1 % 256))
       else s.qdrCtlWrite r word 0 0)
    else s.writePlain r p off word
  | .cnt => s.cntWrite r off word
  | .bw => s.bwPageWrite r n off word
  | .brst =>
    if off = 0x44 then s.brstCtlWrite r word
    else if off = 0x80 then s.subGoWrite r word
    else if off = 0x88 then s.cancelWrite r word
    else s.writePlain r p off word
  | .eth => if off = 0x40 then s.ethCfgWrite r n word else if off = 0xC0 then s.expCtlWrite r n word else s.writePlain r p off word
  | .aml => if off = 0x40 then s.amlCfgWrite r n word else if off = 0x44 then s.amlCtlWrite r n word else s.writePlain r p off word
  | .winn => if off = 0x40 then s.winnCtlWrite r word else if off = 0x100 then s.imgCtlWrite r word else s.calWrite r p off word
  | .flt => s.fltWrite r off word
  | .silo => s.siloWrite r off word
  | .mode => s.modeWrite r off word
  | .pwr =>
    if off = 0x40 ∨ off = 0x44 ∨ off = 0x48 then s.pwrReqWrite r ((off - 0x40) / 4) word else s.writePlain r p off word
  | .sec => s.secWrite r off word
  | .dbg => s.dbgWrite r off word
  | .host => s.hostRegWrite r off word
  | _ => s.writePlain r p off word

/-- A 32-bit write to a register of a page. -/
def State.pageWrite (s : State) (r : Requester) (p : Page) (off word : Nat) : State :=
  if off < 0x40 then s.headerWrite r p off word else s.blockWrite r p off word

/-- A 32-bit write at a BAR0 offset that is a multiple of 4; a reserved offset ignores it (R6). -/
def State.regWrite (s : State) (r : Requester) (a word : Nat) : State :=
  match pageOf a with
  | some p => s.pageWrite r p (a - pageBase p) (word % 2 ^ 32)
  | none => s

/-- A write of `len` bytes at a BAR0 offset (R582). -/
def State.barWrite (s : State) (r : Requester) (a len v : Nat) : State :=
  if len = 4 ∧ a % 4 = 0 then s.regWrite r a v
  else if len = 8 ∧ a % 8 = 0 then (s.regWrite r a v).regWrite r (a + 4) (v / 2 ^ 32)
  else match pageOf a with
    | some p => s.werr p
    | none => s

/-- REGISTER_WRITE: `len` bytes with the value `v` at BAR0 offset `a`, over the host, a Brewer or JTAG. I3C writes have a row of
their own, and reach the same registers. -/
def execRegisterWrite (r : Requester) (a : BitVec 26) (len : Nat) (v : BitVec 64) (s : State) : Host.Outcome State Fault Refusal :=
  .next (s.barWrite r a.toNat len v.toNat)

/-! ### Header rows -/

/-- A page operand names a page of the device. -/
def pageReal (p : Page) : Bool := decide (p.inst < pageCount p.kind)

/-- PAGE_COMMIT_GO. -/
def execPageCommitGo (r : Requester) (p : Page) (s : State) : Host.Outcome State Fault Refusal :=
  .next (if pageReal p then s.commitWrite r p 1 else s)

/-- The generator whose boundary applies a commit first. -/
def State.cgFirst (s : State) : Option (Nat × Nat) :=
  (List.range 8).findSome? fun n => if (s.cgo n).commit then (s.cgBoundary n).map fun t => (n, t) else none

/-- COMMIT_APPLY: the block's first idle field cycle, or a generator's boundary. The boundaries within a run are applied by the
commands that make them. -/
def execCommitApply (p : Page) (s : State) : Host.Outcome State Fault Refusal :=
  .next <| if !pageReal p then s
    else if p.kind = .clk then
      (match s.cgFirst with
       | some (n, t) => s.cgReset n t
       | none => if (List.range 8).any fun n => (s.cgo n).commit then s else s.wr pClk PAGE_COMMIT_PEND 0)
    else s.applyCommit p

/-- PAGE_COMMIT_DROP. -/
def execPageCommitDrop (r : Requester) (p : Page) (s : State) : Host.Outcome State Fault Refusal :=
  .next (if pageReal p then s.commitWrite r p 2 else s)

/-- PAGE_RESET: RST is written with EN and PWR as they are. -/
def execPageReset (r : Requester) (p : Page) (s : State) : Host.Outcome State Fault Refusal :=
  .next (if pageReal p then s.pageCtlWrite r p (s.ctlWord p + 2) else s)

/-- PAGE_RESET_RELEASE. -/
def execPageResetRelease (p : Page) (s : State) : Host.Outcome State Fault Refusal :=
  .next <| if pageReal p && (s.pageo p).rst then
      let s1 := s.modPage p fun o => { o with rst := false }
      if s1.bit p PAGE_CTL_EN then s1.pageUp p else s1
    else s

/-- PAGE_ENABLE_WRITE: EN is written with PWR as it is. -/
def execPageEnableWrite (r : Requester) (p : Page) (en : Bool) (s : State) : Host.Outcome State Fault Refusal :=
  .next (if pageReal p then s.pageCtlWrite r p (b2n en + 4 * s.viewHeader p PAGE_CTL_PWR) else s)

/-- PAGE_POWER_REQUEST: PWR is written with EN as it is; with EN = 0 the write also holds the block in reset, as it is. -/
def execPagePowerRequest (r : Requester) (p : Page) (on : Bool) (s : State) : Host.Outcome State Fault Refusal :=
  .next (if pageReal p then s.pageCtlWrite r p (s.rd p PAGE_CTL_EN + 4 * b2n on) else s)

/-- PAGE_FLTL_CLEAR. -/
def execPageFltlClear (r : Requester) (p : Page) (a b : Bool) (s : State) : Host.Outcome State Fault Refusal :=
  .next (if pageReal p then s.fltlWrite r p (b2n a + 2 * b2n b) else s)

/-! ### Reads (R5, R8, R22, R548, R554, R582) -/

/-- A requester may read a page. -/
def State.mayRead (s : State) (r : Requester) (p : Page) : Bool :=
  match r with
  | .i3c => p.kind = .mode || p.kind = .pwr || p.kind = .flt || p.kind = .silo || p.kind = .sec || p.kind = .dbg
  | .jtag => 1 ≤ s.rd pDbg DBG_LEVEL_LEVEL || p.kind = .dbg
  | _ => true

/-- A read clears the read-clears fields of its register. -/
def State.rcClear (s : State) (p : Page) (off : Nat) : State :=
  if s.pageState p ≠ 4 then s
  else ((fieldsAt p.kind off).filter fun fa => fa.f.acc = .rc).foldl (fun s fa => s.wr p fa.f 0 fa.i fa.j) s

/-- A force that reaches its limit sets CLAMP (R53). The block holds no pin voltage: whether it has by the time of a read is a
free value while the unit forces. -/
def State.senseClamp (s : State) (c : Nat) : State :=
  let m := s.rd (pSh (c / 8)) CH_PMU_CTL_MODE (c % 8)
  if s.pmuOn c && (m = 1 || m = 2) && Config.freeValue (s.free + 2) % 2 = 1 then s.wr (pSh (c / 8)) CH_STAT_CLAMP 1 (c % 8) else s

/-- A read of CH_STAT samples the comparator and the force (R53, R76): three free values. -/
def State.chStatRead (s : State) (p : Page) (off : Nat) : State :=
  if s.pageState p ≠ 4 then { s with rdata := 0 }
  else
    let s1 := s.senseClamp (8 * p.inst + (off - 0x100) / 0x40)
    { s1 with rdata := s1.readReg p off, free := s1.free + 3 }

/-- A 32-bit read of a page's register: its value goes to `rdata`, and what the read changes is changed. -/
def State.pageRead (s : State) (r : Requester) (p : Page) (off : Nat) : State :=
  if !s.mayRead r p then { s with rdata := 0 }
  else
    let s1 :=
      match p.kind with
      | .sh => if 0x100 ≤ off ∧ off < 0x300 ∧ off % 0x40 = 0x24 then s.chStatRead p off else { s with rdata := s.readReg p off }
      | .gln => s.glnRead off
      | .cnt =>
        if 0x1000 ≤ off ∧ off < 0x3000 then
          (if off % 8 = 0 then s.cntLowRead ((off - 0x1000) / 8) else s.cntHighRead ((off - 0x1000) / 8))
        else { s with rdata := s.readReg p off }
      | .time => if off = 0x4C then s.readNow else { s with rdata := s.readReg p off }
      | .host =>
        if 0x1000 ≤ off ∧ off < 0x1400 then { s with rdata := s.msixWord ((off - 0x1000) / 4) }
        else if 0x1800 ≤ off ∧ off < 0x1808 then { s with rdata := bitsAt s.host.pba (8 * (off - 0x1800)) 32 }
        else { s with rdata := s.readReg p off }
      | _ => { s with rdata := s.readReg p off }
    if r = .jtag && s.rd pDbg DBG_LEVEL_LEVEL < 2 then s1 else s1.rcClear p off

/-- A 32-bit read at a BAR0 offset that is a multiple of 4; a reserved offset reads 0. -/
def State.regRead (s : State) (r : Requester) (a : Nat) : State :=
  match pageOf a with
  | some p => s.pageRead r p (a - pageBase p)
  | none => { s with rdata := 0 }

/-- A read of `len` bytes at a BAR0 offset (R582). -/
def State.barRead (s : State) (r : Requester) (a len : Nat) : State :=
  if len = 8 ∧ a % 8 = 0 then
    let s1 := s.regRead r a
    let s2 := s1.regRead r (a + 4)
    { s2 with rdata := s1.rdata + s2.rdata * 2 ^ 32 }
  else if 0 < len ∧ a % 4 + len ≤ 4 then
    let s1 := s.regRead r (a / 4 * 4)
    { s1 with rdata := bitsAt s1.rdata (8 * (a % 4)) (8 * len) }
  else { s with rdata := 0 }

/-- RC_READ: a read of `len` bytes of any register; the read-clears fields of it are cleared. -/
def execRcRead (r : Requester) (a : BitVec 26) (len : Nat) (s : State) : Host.Outcome State Fault Refusal :=
  .next (s.barRead r a.toNat len)

/-! ### The I3C target (R554) -/

/-- ENTDAA. -/
def execEntdaa (addr : BitVec 7) (s : State) : Host.Outcome State Fault Refusal :=
  .next { s with mgmt := { s.mgmt with i3cAddr := some addr.toNat } }

/-- I3C_SET_OFFSET: a target without a dynamic address takes no private write. -/
def execI3cSetOffset (off : Word) (s : State) : Host.Outcome State Fault Refusal :=
  .next (if s.mgmt.i3cAddr.isSome then { s with mgmt := { s.mgmt with i3cOff := off.toNat } } else s)

/-- I3C_WRITE. -/
def execI3cWrite (off v : Word) (s : State) : Host.Outcome State Fault Refusal :=
  .next (if s.mgmt.i3cAddr.isSome then s.barWrite .i3c off.toNat 4 v.toNat else s)

/-- I3C_READ. -/
def execI3cRead (s : State) : Host.Outcome State Fault Refusal :=
  .next (if s.mgmt.i3cAddr.isSome then s.barRead .i3c s.mgmt.i3cOff 4 else s)

end Sys2Proof.Machine
end

