-- ==== Sys2Proof/Machine/Riscv.lean ====
section
/-! DEFINITION. The instructions of a Brewer core (R397): RV32IMAC with Zicsr and Zifencei, as the RISC-V Unprivileged ISA,
version 20191213, encodes them. Register values are numbers below 2^32. -/

namespace Sys2Proof.Machine

/-- A decoded instruction; immediates are 32-bit numbers. -/
inductive RvOp
  | lui (rd imm : Nat)
  | auipc (rd imm : Nat)
  | jal (rd imm : Nat)
  | jalr (rd rs1 imm : Nat)
  | branch (f3 rs1 rs2 imm : Nat)
  | load (f3 rd rs1 imm : Nat)
  | store (f3 rs1 rs2 imm : Nat)
  /-- OP-IMM; `alt` is SRAI. -/
  | opImm (f3 : Nat) (alt : Bool) (rd rs1 imm : Nat)
  /-- OP; `alt` is SUB and SRA. -/
  | op (f3 : Nat) (alt : Bool) (rd rs1 rs2 : Nat)
  | muldiv (f3 rd rs1 rs2 : Nat)
  | lr (rd rs1 : Nat)
  | sc (rd rs1 rs2 : Nat)
  | amo (f5 rd rs1 rs2 : Nat)
  | fence
  | ecall
  | ebreak
  | mret
  | wfi
  /-- Zicsr: the function of funct3, the register or immediate of rs1. -/
  | csr (f3 rd csr rs1 : Nat)
  | illegal
  deriving DecidableEq, Repr

/-- A `w`-bit number sign-extended to 32 bits. -/
def sext (w v : Nat) : Nat := ofSigned 32 (toSigned w v)

/-- The I-type immediate. -/
def immI (w : Nat) : Nat := sext 12 (bitsAt w 20 12)

/-- The S-type immediate. -/
def immS (w : Nat) : Nat := sext 12 (bitsAt w 25 7 * 32 + bitsAt w 7 5)

/-- The B-type immediate. -/
def immB (w : Nat) : Nat :=
  sext 13 (bitsAt w 31 1 * 4096 + bitsAt w 7 1 * 2048 + bitsAt w 25 6 * 32 + bitsAt w 8 4 * 2)

/-- The J-type immediate. -/
def immJ (w : Nat) : Nat :=
  sext 21 (bitsAt w 31 1 * 1048576 + bitsAt w 12 8 * 4096 + bitsAt w 20 1 * 2048 + bitsAt w 21 10 * 2)

/-- The SYSTEM instructions with funct3 = 0. -/
def decodeSystem (w : Nat) : RvOp :=
  if w = 0x00000073 then .ecall
  else if w = 0x00100073 then .ebreak
  else if w = 0x30200073 then .mret
  else if w = 0x10500073 then .wfi
  else .illegal

/-- The A extension. -/
def decodeAmo (w : Nat) : RvOp :=
  let f5 := bitsAt w 27 5
  let rd := bitsAt w 7 5
  let rs1 := bitsAt w 15 5
  let rs2 := bitsAt w 20 5
  if bitsAt w 12 3 ≠ 2 then .illegal
  else if f5 = 2 then (if rs2 = 0 then .lr rd rs1 else .illegal)
  else if f5 = 3 then .sc rd rs1 rs2
  else if [0, 1, 4, 8, 0xC, 0x10, 0x14, 0x18, 0x1C].contains f5 then .amo f5 rd rs1 rs2
  else .illegal

/-- OP-IMM. -/
def decodeOpImm (w : Nat) : RvOp :=
  let f3 := bitsAt w 12 3
  let f7 := bitsAt w 25 7
  let rd := bitsAt w 7 5
  let rs1 := bitsAt w 15 5
  if f3 = 1 then (if f7 = 0 then .opImm 1 false rd rs1 (bitsAt w 20 5) else .illegal)
  else if f3 = 5 then
    (if f7 = 0 then .opImm 5 false rd rs1 (bitsAt w 20 5)
     else if f7 = 0x20 then .opImm 5 true rd rs1 (bitsAt w 20 5) else .illegal)
  else .opImm f3 false rd rs1 (immI w)

/-- OP, with the M extension. -/
def decodeOp (w : Nat) : RvOp :=
  let f3 := bitsAt w 12 3
  let f7 := bitsAt w 25 7
  let rd := bitsAt w 7 5
  let rs1 := bitsAt w 15 5
  let rs2 := bitsAt w 20 5
  if f7 = 0 then .op f3 false rd rs1 rs2
  else if f7 = 0x20 ∧ (f3 = 0 ∨ f3 = 5) then .op f3 true rd rs1 rs2
  else if f7 = 1 then .muldiv f3 rd rs1 rs2
  else .illegal

/-- A 32-bit instruction. -/
def decode32 (w : Nat) : RvOp :=
  let f3 := bitsAt w 12 3
  let rd := bitsAt w 7 5
  let rs1 := bitsAt w 15 5
  let rs2 := bitsAt w 20 5
  let o := bitsAt w 0 7
  if o = 0x37 then .lui rd (bitsAt w 12 20 * 4096)
  else if o = 0x17 then .auipc rd (bitsAt w 12 20 * 4096)
  else if o = 0x6F then .jal rd (immJ w)
  else if o = 0x67 then (if f3 = 0 then .jalr rd rs1 (immI w) else .illegal)
  else if o = 0x63 then (if f3 = 2 ∨ f3 = 3 then .illegal else .branch f3 rs1 rs2 (immB w))
  else if o = 0x03 then (if [0, 1, 2, 4, 5].contains f3 then .load f3 rd rs1 (immI w) else .illegal)
  else if o = 0x23 then (if f3 ≤ 2 then .store f3 rs1 rs2 (immS w) else .illegal)
  else if o = 0x13 then decodeOpImm w
  else if o = 0x33 then decodeOp w
  else if o = 0x2F then decodeAmo w
  else if o = 0x0F then (if f3 ≤ 1 then .fence else .illegal)
  else if o = 0x73 then
    (if f3 = 0 then decodeSystem w else if f3 = 4 then .illegal else .csr f3 rd (bitsAt w 20 12) rs1)
  else .illegal

/-- The immediate of C.J and C.JAL. -/
def immCJ (h : Nat) : Nat :=
  sext 12 (bitsAt h 12 1 * 2048 + bitsAt h 11 1 * 16 + bitsAt h 9 2 * 256 + bitsAt h 8 1 * 1024 + bitsAt h 7 1 * 64
    + bitsAt h 6 1 * 128 + bitsAt h 3 3 * 2 + bitsAt h 2 1 * 32)

/-- The immediate of C.BEQZ and C.BNEZ. -/
def immCB (h : Nat) : Nat :=
  sext 9 (bitsAt h 12 1 * 256 + bitsAt h 10 2 * 8 + bitsAt h 5 2 * 64 + bitsAt h 3 2 * 2 + bitsAt h 2 1 * 32)

/-- The 6-bit immediate of the CI format. -/
def immCI (h : Nat) : Nat := bitsAt h 12 1 * 32 + bitsAt h 2 5

/-- The offset of C.LW and C.SW. -/
def offCL (h : Nat) : Nat := bitsAt h 10 3 * 8 + bitsAt h 6 1 * 4 + bitsAt h 5 1 * 64

/-- Quadrant 0. -/
def decodeC0 (h : Nat) : RvOp :=
  let f3 := bitsAt h 13 3
  let r1 := 8 + bitsAt h 7 3
  let r2 := 8 + bitsAt h 2 3
  if f3 = 0 then
    let imm := bitsAt h 11 2 * 16 + bitsAt h 7 4 * 64 + bitsAt h 6 1 * 4 + bitsAt h 5 1 * 8
    (if imm = 0 then .illegal else .opImm 0 false r2 2 imm)
  else if f3 = 2 then .load 2 r2 r1 (offCL h)
  else if f3 = 6 then .store 2 r1 r2 (offCL h)
  else .illegal

/-- Quadrant 1, funct3 = 100. -/
def decodeC1alu (h : Nat) : RvOp :=
  let r1 := 8 + bitsAt h 7 3
  let r2 := 8 + bitsAt h 2 3
  let k := bitsAt h 10 2
  let big := bitAt h 12
  if k = 0 then (if big then .illegal else .opImm 5 false r1 r1 (bitsAt h 2 5))
  else if k = 1 then (if big then .illegal else .opImm 5 true r1 r1 (bitsAt h 2 5))
  else if k = 2 then .opImm 7 false r1 r1 (sext 6 (immCI h))
  else if big then .illegal
  else
    let m := bitsAt h 5 2
    if m = 0 then .op 0 true r1 r1 r2
    else if m = 1 then .op 4 false r1 r1 r2
    else if m = 2 then .op 6 false r1 r1 r2
    else .op 7 false r1 r1 r2

/-- Quadrant 1. -/
def decodeC1 (h : Nat) : RvOp :=
  let f3 := bitsAt h 13 3
  let rd := bitsAt h 7 5
  let r1 := 8 + bitsAt h 7 3
  if f3 = 0 then .opImm 0 false rd rd (sext 6 (immCI h))
  else if f3 = 1 then .jal 1 (immCJ h)
  else if f3 = 2 then .opImm 0 false rd 0 (sext 6 (immCI h))
  else if f3 = 3 then
    (if rd = 2 then
      let imm := bitsAt h 12 1 * 512 + bitsAt h 6 1 * 16 + bitsAt h 5 1 * 64 + bitsAt h 3 2 * 128 + bitsAt h 2 1 * 32
      (if imm = 0 then .illegal else .opImm 0 false 2 2 (sext 10 imm))
     else if immCI h = 0 then .illegal
     else .lui rd (sext 18 (immCI h * 4096)))
  else if f3 = 4 then decodeC1alu h
  else if f3 = 5 then .jal 0 (immCJ h)
  else if f3 = 6 then .branch 0 r1 0 (immCB h)
  else .branch 1 r1 0 (immCB h)

/-- Quadrant 2. -/
def decodeC2 (h : Nat) : RvOp :=
  let f3 := bitsAt h 13 3
  let rd := bitsAt h 7 5
  let rs2 := bitsAt h 2 5
  if f3 = 0 then (if bitAt h 12 then .illegal else .opImm 1 false rd rd (bitsAt h 2 5))
  else if f3 = 2 then
    (if rd = 0 then .illegal
     else .load 2 rd 2 (bitsAt h 12 1 * 32 + bitsAt h 4 3 * 4 + bitsAt h 2 2 * 64))
  else if f3 = 4 then
    (if !bitAt h 12 then
      (if rs2 = 0 then (if rd = 0 then .illegal else .jalr 0 rd 0) else .op 0 false rd 0 rs2)
     else if rs2 = 0 then (if rd = 0 then .ebreak else .jalr 1 rd 0)
     else .op 0 false rd rd rs2)
  else if f3 = 6 then .store 2 2 rs2 (bitsAt h 9 4 * 4 + bitsAt h 7 2 * 64)
  else .illegal

/-- A 16-bit instruction. -/
def decode16 (h : Nat) : RvOp :=
  if h % 4 = 0 then decodeC0 h else if h % 4 = 1 then decodeC1 h else decodeC2 h

/-! ### Arithmetic -/

/-- A 32-bit sum. -/
def add32 (a b : Nat) : Nat := (a + b) % 2 ^ 32

/-- A 32-bit difference. -/
def sub32 (a b : Nat) : Nat := (a + 2 ^ 32 - b % 2 ^ 32) % 2 ^ 32

/-- Signed comparison. -/
def slt32 (a b : Nat) : Bool := decide (toSigned 32 a < toSigned 32 b)

/-- OP and OP-IMM. -/
def aluOp (f3 : Nat) (alt : Bool) (a b : Nat) : Nat :=
  if f3 = 0 then (if alt then sub32 a b else add32 a b)
  else if f3 = 1 then a * 2 ^ (b % 32) % 2 ^ 32
  else if f3 = 2 then b2n (slt32 a b)
  else if f3 = 3 then b2n (decide (a < b))
  else if f3 = 4 then a ^^^ b
  else if f3 = 5 then (if alt then ofSigned 32 (toSigned 32 a / (2 ^ (b % 32) : Nat)) else a / 2 ^ (b % 32))
  else if f3 = 6 then a ||| b
  else a &&& b

/-- The M extension: division by zero gives all ones and the dividend, and the overflow gives the dividend and zero. -/
def mulDiv (f3 a b : Nat) : Nat :=
  let sa := toSigned 32 a
  let sb := toSigned 32 b
  if f3 = 0 then a * b % 2 ^ 32
  else if f3 = 1 then ofSigned 32 (sa * sb / (2 ^ 32 : Nat))
  else if f3 = 2 then ofSigned 32 (sa * (b : Int) / (2 ^ 32 : Nat))
  else if f3 = 3 then a * b / 2 ^ 32
  else if f3 = 4 then (if b = 0 then 2 ^ 32 - 1 else ofSigned 32 (Int.tdiv sa sb))
  else if f3 = 5 then (if b = 0 then 2 ^ 32 - 1 else a / b)
  else if f3 = 6 then (if b = 0 then a else ofSigned 32 (Int.tmod sa sb))
  else (if b = 0 then a else a % b)

/-- A branch is taken. -/
def branchTaken (f3 a b : Nat) : Bool :=
  if f3 = 0 then a = b
  else if f3 = 1 then a ≠ b
  else if f3 = 4 then slt32 a b
  else if f3 = 5 then !slt32 a b
  else if f3 = 6 then decide (a < b)
  else decide (b ≤ a)

/-- What an AMO stores. -/
def amoOp (f5 old v : Nat) : Nat :=
  if f5 = 1 then v
  else if f5 = 0 then add32 old v
  else if f5 = 4 then old ^^^ v
  else if f5 = 0xC then old &&& v
  else if f5 = 8 then old ||| v
  else if f5 = 0x10 then (if slt32 old v then old else v)
  else if f5 = 0x14 then (if slt32 old v then v else old)
  else if f5 = 0x18 then min old v
  else max old v

/-- The bytes that a load or store of funct3 moves. -/
def widthOf (f3 : Nat) : Nat := if f3 % 4 = 0 then 1 else if f3 % 4 = 1 then 2 else 4

/-- The value that a load of funct3 puts into its register. -/
def loadExt (f3 v : Nat) : Nat := if f3 = 0 then sext 8 v else if f3 = 1 then sext 16 v else v

end Sys2Proof.Machine
end

