-- ==== Sys2Proof/Machine/Brewer.lean ====
section
/-! DEFINITION. The Brewer cores (R397 to R402, R408 to R411, R415, R416, R427 to R430, R548): PMP, the memory map, the CSRs,
traps, the execution of one instruction, and the debug module. -/

namespace Sys2Proof.Machine

open Reg

/-! ### PMP (R397, R400): 8 entries, granularity 32 bytes -/

/-- The configuration byte of entry i. -/
def BwOp.cfg (c : BwOp) (i : Nat) : Nat := tabGet 0 c.pmpcfg i

/-- The address register of entry i as a read returns it: the low bits that the granularity hides read 1 in NAPOT, else 0. -/
def BwOp.pmpRead (c : BwOp) (i : Nat) : Nat :=
  let v := tabGet 0 c.pmpaddr i
  if bitsAt (c.cfg i) 3 2 = 3 then v ||| 3 else v / 8 * 8

/-- The number of trailing ones of a 32-bit number. -/
def trailingOnes (v : Nat) : Nat → Nat
  | 0 => 0
  | fuel + 1 => if v % 2 = 1 then 1 + trailingOnes (v / 2) fuel else 0

/-- The byte range of entry i: first byte, and the byte after the last. -/
def BwOp.pmpRange (c : BwOp) (i : Nat) : Nat × Nat :=
  let a := bitsAt (c.cfg i) 3 2
  if a = 1 then ((if i = 0 then 0 else tabGet 0 c.pmpaddr (i - 1) / 8 * 32), tabGet 0 c.pmpaddr i / 8 * 32)
  else if a = 3 then
    let v := c.pmpRead i
    let k := trailingOnes v 32
    (v / 2 ^ (k + 1) * 2 ^ (k + 3), v / 2 ^ (k + 1) * 2 ^ (k + 3) + 2 ^ (k + 3))
  else (0, 0)

/-- The access has permission: the lowest entry that matches a byte decides, and must match every byte; with none, machine
mode may and user mode may not. `acc` is the permission bit: 0 read, 1 write, 2 execute. -/
def BwOp.pmpOk (c : BwOp) (user : Bool) (a len acc : Nat) : Bool :=
  match (List.range 8).find? fun i => let r := c.pmpRange i; decide (a < r.2 ∧ r.1 < a + len) with
  | none => !user
  | some i =>
    let r := c.pmpRange i
    decide (r.1 ≤ a ∧ a + len ≤ r.2) && (bitAt (c.cfg i) acc || (!user && !bitAt (c.cfg i) 7))

/-- A write of a configuration byte: a locked one stays, and so does one written a reserved or unsupported setting. -/
def BwOp.putCfg (c : BwOp) (i v : Nat) : BwOp :=
  if bitAt (c.cfg i) 7 || v % 4 = 2 || bitsAt v 3 2 = 2 then c
  else { c with pmpcfg := tabPut 0 c.pmpcfg i (v % 32 + v / 128 % 2 * 128) }

/-- A write of an address register: locked by its own entry, or by the next one in TOR. -/
def BwOp.putAddr (c : BwOp) (i v : Nat) : BwOp :=
  if bitAt (c.cfg i) 7 || (bitAt (c.cfg (i + 1)) 7 && bitsAt (c.cfg (i + 1)) 3 2 = 1) then c
  else { c with pmpaddr := tabPut 0 c.pmpaddr i (v % 2 ^ 32) }

/-! ### The memory map (R399 to R401, R430) -/

/-- The Brewer and the offset of an address in a local memory. -/
def localPlace (n a : Nat) : Option (Nat × Nat) :=
  if a < 0x40000 then some (n, a)
  else if 0x1000000 ≤ a ∧ a < 0x1400000 then some ((a - 0x1000000) / 0x40000, (a - 0x1000000) % 0x40000)
  else none

/-- A check of a word of BWm's local memory: a corrected error counts, a double-bit error fails the access. -/
def State.bwSecded (s : State) (m : Nat) (e : Secded) : Bool × State :=
  match e with
  | .ok => (true, s)
  | .corrected => (true, s.satAdd (pBw m) BW_CECNT_CNT 1)
  | .bad => (false, (s.wr (pBw m) BW_STAT_UE 1).pagePairs (pBw m))

/-- `mtime` and `mtimecmp` as 16 bytes. -/
def State.timers (s : State) (n : Nat) : Nat := s.mtime n + (s.core n).mtimecmp * 2 ^ 64

/-- A part of the timers written. -/
def State.putTimers (s : State) (n off len v : Nat) : State :=
  let old := s.timers n
  let new := old - bitsAt old (8 * off) (8 * len) * 2 ^ (8 * off) + v % 2 ^ (8 * len) * 2 ^ (8 * off)
  s.modCore n fun c => { c with mtime := new % 2 ^ 64, mtimeAt := s.now, mtimecmp := new / 2 ^ 64 }

/-- A register of a 48-bit count of the GLN page. -/
def glnCountReg (off : Nat) : Bool := (glnCountAt off).isSome || (decide (4 ≤ off) && (glnCountAt (off - 4)).isSome)

/-- The register at a BAR0 offset is open to a user-mode read: on the CNT page the counters alone, and counters only while
CNT_CTL.USER = 1. -/
def State.userReads (s : State) (b : Nat) : Bool :=
  match pageOf b with
  | some p =>
    let off := b - pageBase p
    match p.kind with
    | .cnt => decide (0x1000 ≤ off ∧ off < 0x3000) && s.bit pCnt CNT_CTL_USER
    | .gln => !glnCountReg off || s.bit pCnt CNT_CTL_USER
    | _ => true
  | none => true

/-- The register at a BAR0 offset is open to a user-mode write. -/
def userWrites (b : Nat) : Bool :=
  match pageOf b with
  | some p => p.kind ≠ .cnt && !(p.kind = .gln && glnCountReg (b - pageBase p))
  | none => true

/-- The bus address of the host window. -/
def State.hostAddr (s : State) (n a : Nat) : Nat :=
  s.rd (pBw n) BW_HWINH_BASE * 2 ^ 32 + s.rd (pBw n) BW_HWINL_BASE * 2 ^ 31 + (a - 0x80000000)

/-- The DDR byte address of the DDR window. -/
def State.dwinAddr (s : State) (n a : Nat) : Nat := s.rd (pBw n) BW_DWIN_GIB * 2 ^ 30 + (a - 0x40000000)

/-- What an access leads to: a value, an access fault, or a wait for the host. -/
inductive BAcc
  | val (v : Nat) (s : State)
  | fault (s : State)
  | wait

/-- An aligned load of `len` bytes by BWn. -/
def State.bwLoad (s : State) (n a len : Nat) (user : Bool) (x : BrewerExt) : BAcc :=
  match localPlace n a with
  | some (m, off) =>
    let e := s.bwSecded m x.data
    if e.1 then .val (memNat s.mem.bw (m * 0x40000 + off) len) e.2 else .fault e.2
  | none =>
    if 0x40000 ≤ a ∧ a < 0x40010 then .val (bitsAt (s.timers n) (8 * (a - 0x40000)) (8 * len)) s
    else if 0x10000000 ≤ a ∧ a < 0x14000000 then
      .val (leNat ((List.range len).map fun i => s.bar2Byte (a - 0x10000000 + i))) s
    else if 0x14000000 ≤ a ∧ a < 0x14800000 then .val (memNat s.mem.record (a - 0x14000000) len) s
    else if 0x20000000 ≤ a ∧ a < 0x24000000 then
      (if len ≠ 4 || (user && !s.userReads (a - 0x20000000)) then .fault s
       else
         let t := s.regRead (.brewer (Fin.ofNat 16 n)) (a - 0x20000000)
         .val t.rdata t)
    else if 0x40000000 ≤ a ∧ a < 0x80000000 then
      (let r := s.ddrRead .brewer (s.dwinAddr n a) len x.ddr
       if r.1.2 then .val (leNat r.1.1) r.2 else .fault r.2)
    else if 0x80000000 ≤ a then
      (if !s.host.link || !s.domainOn 79 then .fault s
       else if !s.hostOk then .wait else .val (x.host.toNat % 2 ^ (8 * len)) s)
    else .fault s

/-- An aligned store of `len` bytes by BWn. -/
def State.bwStore (s : State) (n a len v : Nat) (user : Bool) (x : BrewerExt) : BAcc :=
  match localPlace n a with
  | some (m, off) =>
    let e := if len = 4 then (true, s) else s.bwSecded m x.data
    if e.1 then .val 0 (e.2.bwPut (m * 0x40000 + off) (leBytes len v)) else .fault e.2
  | none =>
    if 0x40000 ≤ a ∧ a < 0x40010 then .val 0 (s.putTimers n (a - 0x40000) len v)
    else if 0x10000000 ≤ a ∧ a < 0x14000000 then .val 0 (s.bar2Write (a - 0x10000000) (leBytes len v))
    else if 0x20000000 ≤ a ∧ a < 0x24000000 then
      (if len ≠ 4 || (user && !userWrites (a - 0x20000000)) then .fault s
       else .val 0 (s.regWrite (.brewer (Fin.ofNat 16 n)) (a - 0x20000000) v))
    else if 0x40000000 ≤ a ∧ a < 0x80000000 then
      (let r := s.ddrWrite .brewer (s.dwinAddr n a) (leBytes len v) x.ddr
       if r.1 then .val 0 r.2 else .fault r.2)
    else if 0x80000000 ≤ a then (if !s.hostOk then .wait else .val 0 (s.hostWrite (s.hostAddr n a) (leBytes len v)))
    else .fault s

/-! ### Control and status registers (R397, R428) -/

/-- The counter of BWn that a counter CSR number 3 to 6, or `cycle` and `instret`, stands for. -/
def csrCounter (k : Nat) : Option Nat :=
  if k = 0 then some 4 else if k = 2 then some 0 else if k = 3 then some 1 else if k = 4 then some 2
  else if k = 5 then some 3 else if k = 6 then some 5 else none

/-- The value of a counter CSR: its low word, or its high bits. -/
def State.csrCount (s : State) (n k : Nat) (hi : Bool) : Nat :=
  match csrCounter k with
  | some j => let v := s.counter (0x200 + 8 * n + j); if hi then v / 2 ^ 32 else v % 2 ^ 32
  | none => 0

/-- User mode may read the alias of counter k. -/
def State.userCounts (s : State) (n k : Nat) : Bool := s.bit pCnt CNT_CTL_USER && bitAt (s.core n).mcounteren k

/-- A CSR of the trap and status registers. -/
def State.csrMachine (s : State) (n r : Nat) : Option Nat :=
  let c := s.core n
  if r = 0x300 then some c.mstatus
  else if r = 0x301 then some 0x40101105
  else if r = 0x304 then some c.mie
  else if r = 0x305 then some c.mtvec
  else if r = 0x306 then some c.mcounteren
  else if r = 0x30A then some c.menvcfg
  else if r = 0x310 ∨ r = 0x31A ∨ r = 0x320 then some 0
  else if 0x323 ≤ r ∧ r ≤ 0x33F then some 0
  else if r = 0x340 then some c.mscratch
  else if r = 0x341 then some c.mepc
  else if r = 0x342 then some c.mcause
  else if r = 0x343 then some c.mtval
  else if r = 0x344 then some (s.mip n)
  else if 0x3A0 ≤ r ∧ r < 0x3A2 then
    some ((List.range 4).map fun i => c.cfg (4 * (r - 0x3A0) + i) * 256 ^ i).sum
  else if r = 0x3A2 ∨ r = 0x3A3 then some 0
  else if 0x3B0 ≤ r ∧ r < 0x3B8 then some (c.pmpRead (r - 0x3B0))
  else if 0x3B8 ≤ r ∧ r < 0x3C0 then some 0
  else if 0xF11 ≤ r ∧ r ≤ 0xF13 then some (Config.fuse (65 + (r - 0xF11)) % 2 ^ 32)
  else if r = 0xF14 then some n
  else if r = 0xF15 then some (Config.fuse 68 % 2 ^ 32)
  else none

/-- The value of a CSR, none where the access is illegal in the mode. -/
def State.csrRead (s : State) (n r : Nat) (user : Bool) : Option Nat :=
  if 0xC00 ≤ r ∧ r < 0xC20 ∧ r ≠ 0xC01 then (if user && !s.userCounts n (r - 0xC00) then none else some (s.csrCount n (r - 0xC00) false))
  else if 0xC80 ≤ r ∧ r < 0xCA0 ∧ r ≠ 0xC81 then
    (if user && !s.userCounts n (r - 0xC80) then none else some (s.csrCount n (r - 0xC80) true))
  else if user then none
  else if 0xB00 ≤ r ∧ r < 0xB20 ∧ r ≠ 0xB01 then some (s.csrCount n (r - 0xB00) false)
  else if 0xB80 ≤ r ∧ r < 0xBA0 ∧ r ≠ 0xB81 then some (s.csrCount n (r - 0xB80) true)
  else s.csrMachine n r

/-- The counter that a write of a CSR changes, with the place of the word. -/
def csrWrites (r : Nat) : Option (Nat × Bool) :=
  if 0xB00 ≤ r ∧ r < 0xB20 then (csrCounter (r - 0xB00)).map fun j => (j, false)
  else if 0xB80 ≤ r ∧ r < 0xBA0 then (csrCounter (r - 0xB80)).map fun j => (j, true)
  else none

/-- A counter of BWn written by its CSR. CYCLES and RETIRED have an event in the clock of the write (R432). -/
def State.csrPutCount (s : State) (n j : Nat) (hi : Bool) (v : Nat) : State :=
  let id := 0x200 + 8 * n + j
  let old := s.counter id
  s.putCounter id (if hi then v % 65536 * 2 ^ 32 + old % 2 ^ 32 else old / 2 ^ 32 * 2 ^ 32 + v) (if j = 0 ∨ j = 4 then 1 else 0)

/-- `mstatus` as a write leaves it: MIE, MPIE, MPP (machine or user), MPRV and TW. -/
def mstatusWrite (old v : Nat) : Nat :=
  let mpp := if bitsAt v 11 2 = 0 ∨ bitsAt v 11 2 = 3 then bitsAt v 11 2 else bitsAt old 11 2
  bitsAt v 3 1 * 8 + bitsAt v 7 1 * 128 + mpp * 2048 + bitsAt v 17 1 * 2 ^ 17 + bitsAt v 21 1 * 2 ^ 21

/-- The four configuration bytes of a PMP word written. -/
def BwOp.putCfgs (c : BwOp) (w v : Nat) : BwOp := (List.range 4).foldl (fun c i => c.putCfg (4 * w + i) (bitsAt v (8 * i) 8)) c

/-- A machine CSR of a core written; registers that are read-only here ignore it. -/
def BwOp.csrPut (c : BwOp) (r v : Nat) : BwOp :=
  if r = 0x300 then { c with mstatus := mstatusWrite c.mstatus v }
  else if r = 0x304 then { c with mie := v &&& 0x880 }
  else if r = 0x305 then { c with mtvec := v / 4 * 4 + v % 2 }
  else if r = 0x306 then { c with mcounteren := v &&& 0x7D }
  else if r = 0x30A then { c with menvcfg := v % 2 }
  else if r = 0x340 then { c with mscratch := v }
  else if r = 0x341 then { c with mepc := v / 2 * 2 }
  else if r = 0x342 then { c with mcause := v }
  else if r = 0x343 then { c with mtval := v }
  else if 0x3A0 ≤ r ∧ r < 0x3A2 then c.putCfgs (r - 0x3A0) v
  else if 0x3B0 ≤ r ∧ r < 0x3B8 then c.putAddr (r - 0x3B0) v
  else c

/-- A CSR written. -/
def State.csrPut (s : State) (n r v : Nat) : State :=
  match csrWrites r with
  | some (j, hi) => s.csrPutCount n j hi v
  | none => s.modCore n fun c => c.csrPut r v

/-! ### Clocks, traps and debug mode -/

/-- Clocks of BWn of a class (1 WASTED, 2 STARVED_FRONT, 3 STARVED_BACK) pass. -/
def State.bwClocks (s : State) (n k d : Nat) : State :=
  if d = 0 then s
  else ((s.count (0x204 + 8 * n) d).count (0x200 + 8 * n + k) d).modCore n fun c => { c with t := c.t + d * clockG }

/-- An instruction retires; a counter that it wrote does not count the clock (R427, R432). -/
def State.bwRetire (s : State) (n : Nat) (skip : Option Nat) : State :=
  let s1 := if skip = some 4 then s else s.count (0x204 + 8 * n)
  let s2 := if skip = some 0 then s1 else s1.count (0x200 + 8 * n)
  let s3 := s2.modCore n fun c => { c with t := c.t + clockG }
  s3.advanceTo (s3.core n).t

/-- A trap is taken in machine mode. -/
def State.bwTrap (s : State) (n cause tval : Nat) : State :=
  s.modCore n fun c =>
    let base := c.mtvec / 4 * 4
    let code := cause % 2 ^ 31
    let vec : Bool := decide (2 ^ 31 ≤ cause) && c.mtvec % 2 = 1
    { c with
      mepc := c.pc, mcause := cause, mtval := (if Config.mtvalZero cause then 0 else tval), user := false,
      mstatus := setBit c.mstatus 3 false - bitsAt c.mstatus 7 1 * 128 - bitsAt c.mstatus 11 2 * 2048
        + bitsAt c.mstatus 3 1 * 128 + (if c.user then 0 else 3 * 2048),
      pc := (if vec then base + 4 * code else base) % 2 ^ 32 }

/-- MRET. -/
def BwOp.mretTo (c : BwOp) : BwOp :=
  let mpp := bitsAt c.mstatus 11 2
  let st := c.mstatus - bitsAt c.mstatus 3 1 * 8 - bitsAt c.mstatus 7 1 * 128 - mpp * 2048 + bitsAt c.mstatus 7 1 * 8 + 128
  { c with mstatus := if mpp = 3 then st else setBit st 17 false, user := mpp = 0 }

/-- A core enters debug mode: its pc and mode go to `dpc` and `dcsr`, with the cause. -/
def State.bwDebug (s : State) (n cause : Nat) : State :=
  (s.loadRun n false).modCore n fun c =>
    { c with
      halted := true, haltReq := false, dpc := c.pc,
      dcsr := c.dcsr - bitsAt c.dcsr 6 3 * 64 - c.dcsr % 4 + cause * 64 + (if c.user then 0 else 3) }

/-! ### One instruction -/

/-- What an instruction leads to. -/
inductive BOut
  /-- It retires, and execution goes on at an address; the counter that it wrote. -/
  | go (s : State) (pc : Nat) (skip : Option Nat)
  | trap (s : State) (cause tval : Nat)
  /-- It enters debug mode. -/
  | debug (s : State)
  /-- It stalls; the state says in what. -/
  | stall (s : State)
  /-- It waits for the host, with no effect yet. -/
  | wait

/-- Register x_i of BWn written. -/
def State.setX (s : State) (n i v : Nat) : State := s.modCore n fun c => c.set i v

/-- The mode in which a data access is judged: MPRV (privileged architecture). -/
def BwOp.dataUser (c : BwOp) : Bool := if !c.user && bitAt c.mstatus 17 then bitsAt c.mstatus 11 2 = 0 else c.user

/-- A load of funct3. -/
def State.doLoad (s : State) (n f3 rd a next : Nat) (x : BrewerExt) : BOut :=
  let len := widthOf f3
  let u := (s.core n).dataUser
  if a % len ≠ 0 then .trap s 4 a
  else if !(s.core n).pmpOk u a len 0 then .trap s 5 a
  else match s.bwLoad n a len u x with
    | .val v t => .go (t.setX n rd (loadExt f3 v)) next none
    | .fault t => .trap t 5 a
    | .wait => .wait

/-- A store of funct3. -/
def State.doStore (s : State) (n f3 v a next : Nat) (x : BrewerExt) : BOut :=
  let len := widthOf f3
  let u := (s.core n).dataUser
  if a % len ≠ 0 then .trap s 6 a
  else if !(s.core n).pmpOk u a len 1 then .trap s 7 a
  else match s.bwStore n a len (v % 2 ^ (8 * len)) u x with
    | .val _ t => .go t next none
    | .fault t => .trap t 7 a
    | .wait => .wait

/-- LR.W, SC.W and the AMOs: `f5` is their function. -/
def State.doAmo (s : State) (n f5 rd a v next : Nat) (x : BrewerExt) : BOut :=
  let lr : Bool := f5 = 2
  let c := s.core n
  let u := c.dataUser
  if a % 4 ≠ 0 then .trap s (if lr then 4 else 6) a
  else match localPlace n a with
  | none => .trap s (if lr then 5 else 7) a
  | some (m, off) =>
    let w := (m * 0x40000 + off) / 4
    let mayR := c.pmpOk u a 4 0
    let mayW := c.pmpOk u a 4 1
    if (lr && !mayR) || (!lr && !mayW) || (!lr && f5 ≠ 3 && !mayR) then .trap s (if lr then 5 else 7) a
    else if f5 = 3 then
      let hit : Bool := c.reserved = some w && !x.scFails
      let s1 := s.modCore n fun c => { c with reserved := none }
      if hit then .go ((s1.bwPut (4 * w) (leBytes 4 v)).setX n rd 0) next none else .go (s1.setX n rd 1) next none
    else
      let e := s.bwSecded m x.data
      if !e.1 then .trap e.2 (if lr then 5 else 7) a
      else
        let old := memNat s.mem.bw (4 * w) 4
        if lr then .go ((e.2.setX n rd old).modCore n fun c => { c with reserved := some w }) next none
        else .go ((e.2.bwPut (4 * w) (leBytes 4 (amoOp f5 old v))).setX n rd old) next none

/-- BARISTA_TAKE: 0 at once while the Barista is unavailable, else the core stalls until ITEM_DISPATCH, an interrupt, or the
loss of the Barista (R408, R409). -/
def State.doTake (s : State) (n rd next : Nat) : BOut :=
  if !s.brstUp then .go (s.setX n rd 0) next none
  else
    let s1 := (s.advanceTo (s.core n).t).modCore n fun c => { c with stall := .take rd }
    let s2 : State := { s1 with brst := { s1.brst with takers := s1.brst.takers ++ [(n, s1.now)] } }
    .stall ((s2.wr (pBw n) BW_STAT_TAKING 1).loadRun n false)

/-- BARISTA_TRY. -/
def State.doTry (s : State) (n rd next : Nat) : BOut :=
  match (if s.brstUp then s.nextItem n else none) with
  | some (e, en) => .go ((s.giveItem n e en).setX n rd (s.handle e en.item)) next none
  | none => .go (s.setX n rd 0) next none

/-- BARISTA_SUB: the address of an item in the own local memory (R415). -/
def State.doSub (s : State) (n rd a next : Nat) : BOut :=
  if !s.brstUp then .go (s.setX n rd 0) next none
  else if a % 32 ≠ 0 ∨ 0x40000 ≤ a then .go (s.setX n rd 3) next none
  else
    let r := s.submit (srcBrewer n) (memBytes s.mem.bw (n * 0x40000 + a) 32)
    .go (r.2.setX n rd r.1) next none

/-- An access to a Barista CSR (R408): TAKE and TRY are read, DONE is written, SUB and CANCEL are exchanged by CSRRW. -/
def State.doBarista (s : State) (n f3 rd r rs1 src ill next : Nat) : BOut :=
  let writes : Bool := f3 % 4 = 1 || rs1 ≠ 0
  let reads : Bool := f3 % 4 ≠ 1 || rd ≠ 0
  if (s.core n).user && !s.bit (pBw n) BW_CTL_UBAR then .trap s 2 ill
  else if r = 0x800 then (if writes then .trap s 2 ill else s.doTake n rd next)
  else if r = 0x801 then (if writes then .trap s 2 ill else s.doTry n rd next)
  else if r = 0x802 then
    (if reads || !writes then .trap s 2 ill else .go (if s.brstUp then s.brstDone n src else s) next none)
  else if f3 ≠ 1 then .trap s 2 ill
  else if r = 0x803 then s.doSub n rd src next
  else
    let x := s.cancel (srcBrewer n) src
    .go (x.2.setX n rd x.1) next none

/-- A CSR instruction. -/
def State.doCsr (s : State) (n f3 rd r rs1 ill next : Nat) : BOut :=
  let c := s.core n
  let src := if f3 < 4 then c.get rs1 else rs1
  if 0x800 ≤ r ∧ r ≤ 0x804 then s.doBarista n f3 rd r rs1 src ill next
  else
    let writes : Bool := f3 % 4 = 1 || rs1 ≠ 0
    match s.csrRead n r c.user with
    | none => .trap s 2 ill
    | some old =>
      if writes && r / 1024 = 3 then .trap s 2 ill
      else
        let v := if f3 % 4 = 1 then src else if f3 % 4 = 2 then old ||| src else old &&& (2 ^ 32 - 1 - src)
        let s1 := if writes then s.csrPut n r v else s
        .go (s1.setX n rd old) next (if writes then (csrWrites r).map (·.1) else none)

/-- An instruction `o` of `len` bytes executes; `ill` is its encoding. -/
def State.bwExec (s : State) (n : Nat) (o : RvOp) (len ill : Nat) (x : BrewerExt) : BOut :=
  let c := s.core n
  let next := add32 c.pc len
  match o with
  | .lui rd imm => .go (s.setX n rd imm) next none
  | .auipc rd imm => .go (s.setX n rd (add32 c.pc imm)) next none
  | .jal rd imm => .go (s.setX n rd next) (add32 c.pc imm) none
  | .jalr rd rs1 imm => .go (s.setX n rd next) (add32 (c.get rs1) imm / 2 * 2) none
  | .branch f3 a b imm => .go s (if branchTaken f3 (c.get a) (c.get b) then add32 c.pc imm else next) none
  | .load f3 rd rs1 imm => s.doLoad n f3 rd (add32 (c.get rs1) imm) next x
  | .store f3 rs1 rs2 imm => s.doStore n f3 (c.get rs2) (add32 (c.get rs1) imm) next x
  | .opImm f3 alt rd rs1 imm => .go (s.setX n rd (aluOp f3 alt (c.get rs1) imm)) next none
  | .op f3 alt rd rs1 rs2 => .go (s.setX n rd (aluOp f3 alt (c.get rs1) (c.get rs2))) next none
  | .muldiv f3 rd rs1 rs2 => .go (s.setX n rd (mulDiv f3 (c.get rs1) (c.get rs2))) next none
  | .lr rd rs1 => s.doAmo n 2 rd (c.get rs1) 0 next x
  | .sc rd rs1 rs2 => s.doAmo n 3 rd (c.get rs1) (c.get rs2) next x
  | .amo f5 rd rs1 rs2 => s.doAmo n f5 rd (c.get rs1) (c.get rs2) next x
  | .fence => .go s next none
  | .ecall => .trap s (if c.user then 8 else 11) 0
  | .ebreak => if bitAt c.dcsr (if c.user then 12 else 15) then .debug s else .trap s 3 c.pc
  | .mret => if c.user then .trap s 2 ill else .go (s.modCore n BwOp.mretTo) c.mepc none
  | .wfi =>
    if c.user && bitAt c.mstatus 21 then .trap s 2 ill
    else if s.mip n &&& c.mie ≠ 0 then .go s next none
    else .go (s.modCore n fun c => { c with stall := .wfi }) next none
  | .csr f3 rd r rs1 => s.doCsr n f3 rd r rs1 ill next
  | .illegal => .trap s 2 ill

/-- A 16-bit parcel may be fetched: from the own local memory, with execute permission. -/
def State.mayFetch (s : State) (n a : Nat) : Bool := decide (a < 0x40000) && (s.core n).pmpOk (s.core n).user a 2 2

/-- The instruction at the pc is fetched and executed. -/
def State.bwFetchExec (s : State) (n : Nat) (x : BrewerExt) : BOut :=
  let pc := (s.core n).pc
  let half := fun a => memNat s.mem.bw (n * 0x40000 + a) 2
  let e := s.bwSecded n x.fetch
  if !s.mayFetch n pc then .trap s 1 pc
  else if !e.1 then .trap e.2 1 pc
  else if half pc % 4 ≠ 3 then e.2.bwExec n (decode16 (half pc)) 2 (half pc) x
  else if !s.mayFetch n (pc + 2) then .trap s 1 (pc + 2)
  else
    let w := half pc + half (pc + 2) * 65536
    e.2.bwExec n (decode32 w) 4 w x

/-- A core that single-steps enters debug mode again once the instruction is over. -/
def State.bwStepped (s : State) (n : Nat) : State :=
  if !s.coreRuns n || (s.core n).halted || !bitAt (s.core n).dcsr 2 then s
  else if (s.core n).stall = .none then s.bwDebug n 4
  else s.modCore n fun c => { c with haltReq := true }

/-- The instruction's outcome becomes the state. A core that the instruction itself took into reset has no pc to move. -/
def State.bwFinish (s : State) (n : Nat) : BOut → State
  | .go t pc skip =>
    if t.coreRuns n then
      ((t.modCore n fun c => { c with pc := pc }).bwRetire n skip).bwStepped n
    else t
  | .trap t cause tval => (t.bwTrap n cause tval).bwStepped n
  | .debug t => t.bwDebug n 1
  | .stall t => t.bwStepped n
  | .wait => s

/-- The interrupt that BWn takes, if one is pending, enabled and not masked: external before timer. -/
def State.bwInterrupt (s : State) (n : Nat) : Option Nat :=
  let c := s.core n
  let p := s.mip n &&& c.mie
  if p = 0 || !(c.user || bitAt c.mstatus 3) then none
  else if bitAt p 11 then some (2 ^ 31 + 11) else some (2 ^ 31 + 7)

/-- What BWn does next: it enters debug mode, takes an interrupt, or executes an instruction. -/
def State.bwStep (s : State) (n : Nat) (x : BrewerExt) : State :=
  let c := s.core n
  if !s.coreRuns n || c.halted || c.stall ≠ .none then s
  else if c.haltReq then s.bwDebug n 3
  else match s.bwInterrupt n with
    | some cause => (s.bwTrap n cause 0).bwStepped n
    | none =>
      let s1 := ((s.bwClocks n 1 x.wasted).bwClocks n 2 x.front).bwClocks n 3 x.back
      match s1.bwFetchExec n x with
      | .wait => s
      | o => s1.bwFinish n o

/-- BREWER_INSTRUCTION. -/
def execBrewerInstruction (n : Fin 16) (x : BrewerExt) (s : State) : Host.Outcome State Fault Refusal := .next (s.bwStep n.val x)

/-- The instruction at the pc of BWn is an access to a CSR. -/
def State.nextIsCsr (s : State) (n r : Nat) : Bool :=
  match decode32 (memNat s.mem.bw (n * 0x40000 + (s.core n).pc) 4) with
  | .csr _ _ q _ => q = r && decide ((s.core n).pc < 0x40000)
  | _ => false

/-- BARISTA_TAKE: the next instruction, where it accesses that CSR. -/
def execBaristaTake (n : Fin 16) (x : BrewerExt) (s : State) : Host.Outcome State Fault Refusal :=
  .next (if s.nextIsCsr n.val 0x800 then s.bwStep n.val x else s)

/-- BARISTA_TRY. -/
def execBaristaTry (n : Fin 16) (x : BrewerExt) (s : State) : Host.Outcome State Fault Refusal :=
  .next (if s.nextIsCsr n.val 0x801 then s.bwStep n.val x else s)

/-- BARISTA_DONE. -/
def execBaristaDone (n : Fin 16) (x : BrewerExt) (s : State) : Host.Outcome State Fault Refusal :=
  .next (if s.nextIsCsr n.val 0x802 then s.bwStep n.val x else s)

/-- BARISTA_SUB. -/
def execBaristaSub (n : Fin 16) (x : BrewerExt) (s : State) : Host.Outcome State Fault Refusal :=
  .next (if s.nextIsCsr n.val 0x803 then s.bwStep n.val x else s)

/-- BARISTA_CANCEL. -/
def execBaristaCancel (n : Fin 16) (x : BrewerExt) (s : State) : Host.Outcome State Fault Refusal :=
  .next (if s.nextIsCsr n.val 0x804 then s.bwStep n.val x else s)

/-! ### The debug module (R548) -/

/-- A core leaves debug mode; the clocks for which it was halted count as STARVED_FRONT. -/
def State.bwResume (s : State) (n : Nat) : State :=
  let d := (s.now - (s.core n).t) / clockG
  ((s.bwClocks n 2 d).modCore n fun c =>
    { c with halted := false, pc := c.dpc / 2 * 2, user := c.dcsr % 4 = 0 }).loadRun n true

/-- `dcsr` as a write leaves it: the ebreak bits, STEP and the mode. -/
def dcsrWrite (old v : Nat) : Nat :=
  let prv := if v % 4 = 0 ∨ v % 4 = 3 then v % 4 else old % 4
  0x40000000 + bitsAt v 15 1 * 2 ^ 15 + bitsAt v 12 1 * 2 ^ 12 + bitsAt old 6 3 * 64 + bitsAt v 2 1 * 4 + prv

/-- A register of a halted core by its abstract-command number. -/
def State.dmRead (s : State) (n r : Nat) : Nat :=
  if 0x1000 ≤ r ∧ r < 0x1020 then (s.core n).get (r - 0x1000)
  else if r = 0x7B0 then (s.core n).dcsr
  else if r = 0x7B1 then (s.core n).dpc
  else (s.csrRead n r false).getD 0

/-- A register of a halted core written. -/
def State.dmWrite (s : State) (n r v : Nat) : State :=
  if 0x1000 ≤ r ∧ r < 0x1020 then s.setX n (r - 0x1000) v
  else if r = 0x7B0 then s.modCore n fun c => { c with dcsr := dcsrWrite c.dcsr v }
  else if r = 0x7B1 then s.modCore n fun c => { c with dpc := v / 2 * 2 }
  else if (s.csrRead n r false).isSome && r / 1024 ≠ 3 then s.csrPut n r v
  else s

/-- A step: the core leaves debug mode for one instruction. -/
def State.dmStep (s : State) (n : Nat) (x : BrewerExt) : State :=
  let s1 := (s.bwResume n).bwStep n x
  if !s1.coreRuns n || (s1.core n).halted then s1
  else if (s1.core n).stall = .none then s1.bwDebug n 4
  else s1.modCore n fun c => { c with haltReq := true }

/-- DEBUG_MODULE_REQUEST: at level FULL, to a core that is not in reset; all but a halt need a halted core. A halt that meets a
blocking take waits for its end. -/
def execDebugModuleRequest (n : Fin 16) (q : DmRequest) (s : State) : Host.Outcome State Fault Refusal :=
  let c := s.core n.val
  .next <| if s.rd pDbg DBG_LEVEL_LEVEL ≠ 2 || !s.coreRuns n.val then s
    else match q with
      | .halt =>
        if c.halted then s
        else (match c.stall with
          | .take _ => s.modCore n.val fun c => { c with haltReq := true }
          | _ => (s.modCore n.val fun c => { c with stall := .none }).bwDebug n.val 3)
      | .resume => if c.halted then s.bwResume n.val else s
      | .step x => if c.halted then s.dmStep n.val x else s
      | .readReg r => if c.halted then { s with rdata := s.dmRead n.val r.toNat } else s
      | .writeReg r v => if c.halted then s.dmWrite n.val r.toNat v.toNat else s

end Sys2Proof.Machine
end

