-- ==== Sys2Proof/Machine/HostCommands.lean ====
section
/-! DEFINITION. The host's side of the device (R469 to R487): the PCIe link and its resets, BAR4, and the command rings with
NOP, DMA, REGWR, BSUB, BCANCEL, PROGLOAD and START. -/

namespace Sys2Proof.Machine

open Reg

/-! ### The endpoint (R469, R472, R473) -/

/-- The HOST page, the rings, the DMA engine and MSI-X return to reset; what the link is stays. The configuration space goes
with them, so Bus Master Enable is 0. -/
def State.hostReset (s : State) : State :=
  let speed := s.rd pHost HOST_LINK_SPEED
  let width := s.rd pHost HOST_LINK_WIDTH
  let s1 : State := { s with
    regs := s.regs.filter fun e => !keyInPage pHost e.1,
    host := { sent := s.host.sent, link := s.host.link } }
  (s1.wr pHost HOST_LINK_SPEED speed).wr pHost HOST_LINK_WIDTH width

/-- FUNCTION_LEVEL_RESET. -/
def execFunctionLevelReset (s : State) : Host.Outcome State Fault Refusal := .next s.hostReset

/-- The link is up with a generation and a width, or down (generation 0). -/
def State.linkSet (s : State) (speed width : Nat) : State :=
  let up : Bool := speed ≠ 0 && s.domainOn 79
  let s1 := (s.wr pHost HOST_LINK_SPEED (if up then speed else 0)).wr pHost HOST_LINK_WIDTH (if up then width else 0)
  { s1 with host := { s1.host with link := up } }.msiFlush

/-- CONVENTIONAL_RESET: the endpoint is reset, and its link goes down. -/
def execConventionalReset (s : State) : Host.Outcome State Fault Refusal := .next (s.hostReset.linkSet 0 0)

/-- PCIE_LINK_CHANGE: `speed` is the generation, 0 for a link that goes down. -/
def execPcieLinkChange (speed : Fin 6) (width : BitVec 4) (s : State) : Host.Outcome State Fault Refusal :=
  .next (s.linkSet speed.val width.toNat)

/-- BUS_MASTER_ENABLE_WRITE: a configuration write, which only an up link carries. -/
def execBusMasterEnableWrite (en : Bool) (s : State) : Host.Outcome State Fault Refusal :=
  .next (if s.host.link then { s with host := { s.host with bme := en } }.msiFlush else s)

/-! ### BAR4 (R471) -/

/-- A BAR4 access: its DDR byte address. -/
def State.bar4Addr (s : State) (a : Nat) : Nat := s.rd pHost HOST_DWIN_GIB * 2 ^ 30 + a

/-- A BAR4 read of `len` bytes; its result is the one entry of `ddrReplies`. -/
def State.bar4Read (s : State) (a len : Nat) (ecc : DdrEcc) : State :=
  let r := s.ddrRead .host (s.bar4Addr a) len ecc
  if r.1.2 then { r.2 with ddrReplies := [(0, some r.1.1)] }
  else { r.2.wr pHost HOST_STAT_DWERR 1 with ddrReplies := [(0, none)] }

/-- A BAR4 write, discarded until BOOT ends (R559). -/
def State.bar4Write (s : State) (a : Nat) (bs : List Byte) (ecc : DdrEcc) : State :=
  if s.mode ≤ 1 then s
  else
    let r := s.ddrWrite .host (s.bar4Addr a) bs ecc
    if r.1 then r.2 else r.2.wr pHost HOST_STAT_DWERR 1

/-- BAR4_ACCESS: a read of `len` bytes, or a write of `data`. -/
def execBar4Access (a : BitVec 30) (len : Nat) (data : Option (List Byte)) (ecc : DdrEcc) (s : State) :
    Host.Outcome State Fault Refusal :=
  .next (match data with
    | some bs => s.bar4Write a.toNat bs ecc
    | none => s.bar4Read a.toNat len ecc)

/-! ### Fetch and completion (R476 to R478) -/

/-- The HOST block runs. -/
def State.hostUp (s : State) : Bool := s.pageState pHost = 4

/-- A ring has a command to fetch, and may read host memory. -/
def State.mayFetchCmd (s : State) (n : Nat) : Bool :=
  s.hostUp && s.hostOk && s.bit pHost HOST_CR_CFG_EN n
    && s.rd pHost HOST_CR_SQPROD_SQPROD n ≠ s.rd pHost HOST_CR_SQCONS_SQCONS n

/-- COMMAND_FETCH: `cmd` is the 64 bytes read at the submission queue's consumer index, none where the read fails. -/
def execCommandFetch (n : Fin 8) (cmd : Option (BitVec 512)) (s : State) : Host.Outcome State Fault Refusal :=
  .next <| if s.mayFetchCmd n.val then
      let c := cmd.map fun b => leBytes 64 b.toNat
      let s1 := s.wr pHost HOST_CR_SQCONS_SQCONS
        ((s.rd pHost HOST_CR_SQCONS_SQCONS n.val + 1) % s.rd pHost HOST_CR_SQSIZE_SQSIZE n.val) n.val
      (s1.modRing n.val fun o => { o with waiting := o.waiting ++ [c] }).ringKick n.val
    else s

/-- The oldest started command of ring n with an opcode, and the state without it. -/
def State.takeCmd (s : State) (n op : Nat) : Option (List Byte × State) :=
  match (s.ring n).running.find? fun c => cmdNat c 0 1 = op with
  | some c => some (c, s.modRing n fun o => { o with running := o.running.erase c })
  | none => none

/-- A started command of ring n executes; none of its opcode leaves the state as it is. -/
def State.runCmd (s : State) (n op : Nat) (f : List Byte → State → State) : State :=
  if !s.hostUp then s
  else match s.takeCmd n op with
    | some (c, t) => f c t
    | none => s

/-- STATUS of a command over units (R478). -/
def unitStatus (ok failed : Nat) : Nat := if failed = 0 then 0 else if ok = 0 then 2 else 1

/-- A mask of unit numbers. -/
def unitMask (us : List Nat) : Nat := (us.map fun u => 2 ^ u).sum

/-- A per-unit record (R482). -/
def unitRecord (unit reason cause count : Nat) : List Byte :=
  leBytes 1 unit ++ leBytes 1 reason ++ leBytes 1 cause ++ leBytes 5 0 ++ leBytes 8 count

/-- The completion of a command over units: number, reason, cause, count. -/
def unitCompl (tag opcode stat : Nat) (us : List (Nat × Nat × Nat × Nat)) : Compl :=
  let ok := us.filter fun u => u.2.1 = 0
  let bad := us.filter fun u => u.2.1 ≠ 0
  { tag := tag, opcode := opcode, status := unitStatus ok.length bad.length,
    reason := (bad.headD (0, 0, 0, 0)).2.1, count := (us.map fun u => u.2.2.2).sum,
    okmap := unitMask (ok.map (·.1)), failmap := unitMask (bad.map (·.1)), stat := stat,
    recs := if stat = 0 then [] else us.map fun u => unitRecord u.1 u.2.1 u.2.2.1 u.2.2.2 }

/-- START commands of ring n whose bursts have all ended complete (R486). -/
def State.startsDone (s : State) (n : Nat) : State :=
  let mine := s.host.starts.filter fun x => x.ring = n && x.left = 0
  let s1 : State := { s with host := { s.host with starts := s.host.starts.filter fun x => !(x.ring = n && x.left = 0) } }
  mine.foldl (fun s x => s.ringEnd n (unitCompl x.tag 7 x.stat x.units)) s1

/-- The 32 bytes of a completion entry (R478). -/
def complBytes (c : Compl) : List Byte :=
  leBytes 4 c.tag ++ leBytes 1 c.opcode ++ leBytes 1 c.status ++ leBytes 2 c.reason ++ leBytes 8 c.count ++ leBytes 8 c.okmap
    ++ leBytes 8 c.failmap

/-- A completion is written, after its records; the ring's next commands may start. -/
def State.complete1 (s : State) (n : Nat) (c : Compl) : State :=
  let prod := s.rd pHost HOST_CR_CQPROD_CQPROD n
  let base := s.rd pHost HOST_CR_CQBASEL_CQBASE n + s.rd pHost HOST_CR_CQBASEH_CQBASE n * 2 ^ 32
  let s1 := c.recs.zipIdx.foldl (fun s (r, i) => s.hostWrite (c.stat + 16 * i) r) s
  let s2 := s1.hostWrite (base + 32 * prod) (complBytes c)
  let s3 := s2.wr pHost HOST_CR_CQPROD_CQPROD ((prod + 1) % s.rd pHost HOST_CR_CQSIZE_CQSIZE n) n
  ((s3.modRing n fun o => { o with ended := o.ended.tail }).raiseCause n).ringKick n

/-- COMMAND_COMPLETION: the oldest ended command of a ring. -/
def execCommandCompletion (n : Fin 8) (s : State) : Host.Outcome State Fault Refusal :=
  let s1 := s.startsDone n.val
  .next <| if !(s.hostUp && s.hostOk) then s
    else match (s1.ring n.val).ended with
      | c :: _ => s1.complete1 n.val c
      | [] => s

/-! ### NOP, BSUB, BCANCEL (R480) -/

/-- NOP. -/
def execNopCommand (n : Fin 8) (s : State) : Host.Outcome State Fault Refusal :=
  .next (s.runCmd n.val 1 fun c s => s.ringEnd n.val (plainCompl c 0 0 0))

/-- BSUB: an item refused because the Barista is unavailable reads REFUSED. -/
def State.bsub (s : State) (n : Nat) (c : List Byte) : State :=
  let r := s.submit srcHost ((c.drop 8).take 32)
  r.2.ringEnd n (plainCompl c (if r.1 = 1 then 0 else if r.1 = 2 then 4 else if r.1 = 3 then 3 else 2) 0 0)

def execBsubCommand (n : Fin 8) (s : State) : Host.Outcome State Fault Refusal :=
  .next (s.runCmd n.val 4 fun c s => s.bsub n.val c)

/-- BCANCEL. -/
def State.bcancel (s : State) (n : Nat) (c : List Byte) : State :=
  let r := s.cancel srcHost (cmdNat c 8 4)
  r.2.ringEnd n (plainCompl c 0 r.1 0)

def execBcancelCommand (n : Fin 8) (s : State) : Host.Outcome State Fault Refusal :=
  .next (s.runCmd n.val 5 fun c s => s.bcancel n.val c)

/-! ### DMA (R481, R482) -/

/-- A BAR2 offset may be written: 0, or the reason why not (RONLY, RANGE). -/
def bar2Refusal (a : Nat) : Nat :=
  if a < 0x30B0000 ∨ (0x3100000 ≤ a ∧ a < 0x3140000) then 0
  else if (0x3300000 ≤ a ∧ a < 0x3308000) ∨ (0x3400000 ≤ a ∧ a < 0x4000000) then 9
  else 8

/-- The bytes of a DDR write up to the first burst that completes with an error: their number, and the state after them. -/
def State.dmaDdr (s : State) (a : Nat) (bs : List Byte) (ecc : DdrEcc) : Nat → Nat × State
  | 0 => (0, s)
  | fuel + 1 =>
    if bs = [] then (0, s)
    else
      let k := min bs.length (64 - a % 64)
      let r := s.ddrAccess .host a (some (bs.take k)) ecc
      match r.1 with
      | none => (0, r.2)
      | some _ =>
        let rest := r.2.dmaDdr (a + k) (bs.drop k) .ok fuel
        (k + rest.1, rest.2)

/-- The bytes of DDR in the space of R441. -/
def State.ddrBytes (s : State) : Nat := s.ddrMiB * 2 ^ 20

/-- What a descriptor reads from its source: the bytes before the first error, the reason of the error or 0, the state. -/
def State.dmaRead (s : State) (space a len : Nat) (u : DmaUnit) : List Byte × Nat × State :=
  if space = 0 then
    let bs := u.data.take len
    (bs, (if bs.length < len then 7 else 0), s.count 0x3D2 bs.length)
  else if space = 1 then
    let k := min len (0x4000000 - a)
    let qs := quarters a (min k (0x3000000 - a))
    let s1 := (s.granAccessed qs).granCorrect qs
    let bad := (List.range k).find? fun i => decide (a + i < 0x3000000) && tabGet 0 s.mem.granErr ((a + i) / 8) = 1
    match bad with
    | some i => ((List.range i).map fun j => s.bar2Byte (a + j), 7, s1)
    | none => ((List.range k).map fun j => s.bar2Byte (a + j), (if k < len then 8 else 0), s1)
  else
    let k := min len (s.ddrBytes - a)
    let r := s.ddrRead .host a k u.ecc
    (r.1.1, (if !r.1.2 then 7 else if k < len then 8 else 0), r.2)

/-- What a descriptor writes to its destination: the bytes written, the reason of an error or 0, the state. -/
def State.dmaPut (s : State) (space a : Nat) (bs : List Byte) (ecc : DdrEcc) : Nat × Nat × State :=
  if space = 0 then (bs.length, 0, s.dmaWrite a bs)
  else if space = 1 then
    let bad := (List.range bs.length).find? fun i => decide (0x4000000 ≤ a + i) || bar2Refusal (a + i) ≠ 0
    match bad with
    | some i => (i, (if 0x4000000 ≤ a + i then 8 else bar2Refusal (a + i)), s.bar2Put a (bs.take i) 10)
    | none => (bs.length, 0, s.bar2Put a bs 10)
  else
    let k := min bs.length (s.ddrBytes - a)
    let r := s.dmaDdr a (bs.take k) ecc (k / 64 + 2)
    (r.1, (if r.1 < k then 7 else if k < bs.length then 8 else 0), r.2)

/-- One descriptor: its reason, the bytes that it moved, the state. -/
def State.dmaUnit (s : State) (u : DmaUnit) : Nat × Nat × State :=
  let d := u.desc.toNat
  let len := bitsAt d 128 32
  let from_ := bitsAt d 160 4
  let to_ := bitsAt d 164 4
  if len = 0 ∨ 268435456 < len ∨ 2 < from_ ∨ 2 < to_ then (5, 0, s)
  else if from_ = 0 ∧ to_ = 0 then (8, 0, s)
  else
    let r := s.dmaRead from_ (bitsAt d 0 64) len u
    let w := r.2.2.dmaPut to_ (bitsAt d 64 64) r.1 (if from_ = 2 then .ok else u.ecc)
    ((if w.2.1 ≠ 0 then w.2.1 else r.2.1), w.1, w.2.2)

/-- The descriptors of a list, in its order: per unit number, reason, cause 0 and bytes; the state after them. -/
def State.dmaUnits (s : State) : Nat → List DmaUnit → List (Nat × Nat × Nat × Nat) × State
  | _, [] => ([], s)
  | k, u :: us =>
    let r := s.dmaUnit u
    let rest := r.2.2.dmaUnits (k + 1) us
    ((k, r.1, 0, r.2.1) :: rest.1, rest.2)

/-- DMA executes. -/
def State.dma (s : State) (n : Nat) (units : Option (List DmaUnit)) (c : List Byte) : State :=
  let nd := cmdNat c 0x10 2
  if nd = 0 ∨ 64 < nd then s.ringEnd n (plainCompl c 3 0 0)
  else match units with
    | none => s.ringEnd n (plainCompl c 5 0 0)
    | some us =>
      let r := s.dmaUnits 0 us
      r.2.ringEnd n (unitCompl (cmdNat c 4 4) 2 (cmdNat c 0x18 8) r.1)

/-- The findings of a DMA command name each of its descriptors. -/
def dmaFits (units : Option (List DmaUnit)) (c : List Byte) : Bool :=
  match units with
  | some us => us.length = cmdNat c 0x10 2 || cmdNat c 0x10 2 = 0 || decide (64 < cmdNat c 0x10 2)
  | none => true

/-- DMA: `units` are the descriptors read at DESC, none where the list cannot be read. -/
def execDmaCommand (n : Fin 8) (units : Option (List DmaUnit)) (s : State) : Host.Outcome State Fault Refusal :=
  .next <| if !s.hostOk then s else s.runCmd n.val 2 fun c t => if dmaFits units c then t.dma n.val units c else s

/-! ### PROGLOAD (R483) -/

/-- The word at an index of a load. -/
def loadWord (ws : List Nat) (i : Nat) : Nat := ws.getD i 0

/-- The offending word that a LOOP or MATCH at index a of a load brings to light, if any. -/
def loadCheckAt (ws : List Nat) (a : Nat) : Option Nat :=
  let w := loadWord ws a
  let op := bitsAt w 58 6
  if op = 2 then
    let enda := bitsAt w 32 24
    if enda ≤ a ∨ ws.length ≤ enda then some a
    else if bitsAt (loadWord ws enda) 58 6 ≠ 3 then some enda
    else (List.range enda).find? fun i => decide (a < i) && bitsAt (loadWord ws i) 58 6 = 1 && bitAt (loadWord ws i) 57
  else if op = 10 then
    let x := loadWord ws (a + 1)
    if ws.length ≤ a + 1 ∨ bitsAt x 58 6 ≠ 1 ∨ bitAt x 57 then some (a + 1) else none
  else none

/-- The offending word of a load to a program word address, if any. -/
def State.loadRefusal (s : State) (dst : Nat) (ws : List Nat) : Option Nat :=
  let room := s.rd pGran GRAN_CFG_PSIZE * 8192
  if room < dst + ws.length then some (room - dst) else (List.range ws.length).findSome? (loadCheckAt ws)

/-- PROGLOAD executes. -/
def State.progload (s : State) (n : Nat) (words : Option (List (BitVec 64))) (c : List Byte) : State :=
  match words with
  | none => s.ringEnd n (plainCompl c 2 7 0)
  | some bs =>
    let ws := bs.map (·.toNat)
    let dst := cmdNat c 0x10 4
    match s.loadRefusal dst ws with
    | some i => s.ringEnd n (plainCompl c 2 8 i)
    | none => (s.bar2Put (8 * dst) (ws.flatMap (leBytes 8)) 10).ringEnd n (plainCompl c 0 0 ws.length)

/-- PROGLOAD: `words` are the words read at SRC, none where the read fails. -/
def execProgloadCommand (n : Fin 8) (words : Option (List (BitVec 64))) (s : State) : Host.Outcome State Fault Refusal :=
  .next <| if !s.hostOk then s
    else s.runCmd n.val 6 fun c t =>
      match words with
      | some ws => if ws.length = cmdNat c 0x14 4 then t.progload n.val words c else s
      | none => t.progload n.val none c

/-! ### REGWR (R484, R485) -/

/-- The kind of page of a CLASS. -/
def classKind (k : Nat) : Option PKind :=
  if k = 0 then some .sh else if k = 1 then some .sq else if k = 2 then some .asn else if k = 3 then some .dc
  else if k = 4 then some .bw else if k = 5 then some .aml else none

/-- The pairs of a REGWR: page offset and value. -/
def regwrPairs (c : List Byte) : List (Nat × Nat) :=
  (List.range (cmdNat c 0x11 1)).map fun i => (cmdNat c (0x18 + 8 * i) 2, cmdNat c (0x1C + 8 * i) 4)

/-- Every field of a register that software can write has one of the classes. -/
def regwrField (k : PKind) (off : Nat) (cls : Cls → Bool) : Bool :=
  let fs := (fieldsAt k off).filter fun fa => fa.f.acc ≠ .ro && fa.f.acc ≠ .rc
  fs ≠ [] && fs.all fun fa => fa.f.acc = .rw && cls fa.f.cls

/-- The reason for which a page refuses to stage a pair. -/
def State.stageReason (s : State) (p : Page) (off v : Nat) : Nat :=
  if s.pageState p ≠ 4 then 2
  else if s.hasStaged p then 3
  else if !regwrField p.kind off (· = .staged) then 4
  else if s.writeReserved p (fieldsAt p.kind off) v then 5
  else 0

/-- The reason for which a page refuses to write a pair at once. A write that its block would discard for another reason is
refused as a value. -/
def State.writeReason (s : State) (p : Page) (off v : Nat) : Nat :=
  let fs := fieldsAt p.kind off
  if s.pageState p ≠ 4 then 2
  else if !regwrField p.kind off (fun c => c = .live || c = .quiet) then 4
  else if s.writeReserved p fs v then 5
  else if fs.any fun fa => fa.f.cls = .quiet && s.quietBusy p fa then 6
  else if ((s.wr p PAGE_STAT_WERR 0).pageWrite .host p off v).bit p PAGE_STAT_WERR then 5
  else 0

/-- The first refusal of a page's pairs, 0 where it accepts them all. -/
def pairsReason (f : Nat → Nat → Nat) (ps : List (Nat × Nat)) : Nat := ((ps.map fun x => f x.1 x.2).find? (· ≠ 0)).getD 0

/-- The completion of a REGWR: COUNT is the number of pages, or 0 where any refuses. -/
def regwrCompl (c : List Byte) (units : Nat) (rs : List (Nat × Nat)) : Compl :=
  let bad := rs.filter fun x => x.2 ≠ 0
  if bad = [] then { plainCompl c 0 0 rs.length with okmap := units }
  else { plainCompl c 2 (bad.headD (0, 0)).2 0 with failmap := unitMask (bad.map (·.1)) }

/-- REGWR on pages with commits: all stage and commit, or none does. -/
def State.regwrStaged (s : State) (ps : List Page) (pairs : List (Nat × Nat)) (ok : Bool) : State :=
  if ok then
    let s1 := ps.foldl (fun s p => pairs.foldl (fun s x => s.writePlain .host p x.1 x.2) s) s
    ps.foldl (fun s p => s.commitWrite .host p 1) s1
  else (ps.filter fun p => pairsReason (s.stageReason p) pairs = 0).foldl (fun s p => s.commitWrite .host p 2) s

/-- REGWR on pages without commits: every page takes every pair, or none does. -/
def State.regwrDirect (s : State) (ps : List Page) (pairs : List (Nat × Nat)) (ok : Bool) : State :=
  if ok then ps.foldl (fun s p => pairs.foldl (fun s x => s.pageWrite .host p x.1 x.2) s) s else s

/-- REGWR executes. -/
def State.regwr (s : State) (n : Nat) (c : List Byte) : State :=
  let units := cmdNat c 8 8
  let npair := cmdNat c 0x11 1
  match classKind (cmdNat c 0x10 1) with
  | none => s.ringEnd n (plainCompl c 3 0 0)
  | some k =>
    if 2 ^ pageCount k ≤ units ∨ npair = 0 ∨ 5 < npair then s.ringEnd n (plainCompl c 3 0 0)
    else
      let ps := (setBits units 40).map fun u => (⟨k, u⟩ : Page)
      let pairs := regwrPairs c
      let reason := fun p => pairsReason (if capCommit k then s.stageReason p else s.writeReason p) pairs
      let rs := ps.map fun p => (p.inst, reason p)
      let ok := rs.all fun x => x.2 = 0
      (if capCommit k then s.regwrStaged ps pairs ok else s.regwrDirect ps pairs ok).ringEnd n (regwrCompl c units rs)

/-- REGWR. -/
def execRegwrCommand (n : Fin 8) (s : State) : Host.Outcome State Fault Refusal :=
  .next (s.runCmd n.val 3 fun c s => s.regwr n.val c)

/-! ### START (R486, R487) -/

/-- One site is started: its reason, and the state after it. -/
def State.startUnit (s : State) (k : Nat) : Nat × State :=
  let t := s.sqCtlWrite .host k 1
  (if s.pageState (pSq k) ≠ 4 then 2 else if !s.siteBusy k && t.siteBusy k then 0 else 6, t)

/-- The named sites are started in ascending order: per site number, reason, cause and count; the state after them. -/
def State.startUnits (s : State) : List Nat → List (Nat × Nat × Nat × Nat) × State
  | [] => ([], s)
  | k :: ks =>
    let r := s.startUnit k
    let rest := r.2.startUnits ks
    ((k, r.1, 0, 0) :: rest.1, rest.2)

/-- START executes; with WAITEND it completes when every accepted start has ended. -/
def State.multiStart (s : State) (n : Nat) (c : List Byte) : State :=
  let r := s.startUnits (setBits (cmdNat c 8 4) 32)
  let left := unitMask ((r.1.filter fun u => u.2.1 = 0).map (·.1))
  let stat := cmdNat c 0x10 8
  if bitAt (cmdNat c 0xC 1) 0 && left ≠ 0 then
    { r.2 with host := { r.2.host with starts := r.2.host.starts ++
      [{ ring := n, tag := cmdNat c 4 4, stat := stat, left := left, units := r.1 }] } }
  else r.2.ringEnd n (unitCompl (cmdNat c 4 4) 7 stat r.1)

/-- MULTI_SITE_START. -/
def execMultiSiteStart (n : Fin 8) (s : State) : Host.Outcome State Fault Refusal :=
  .next (s.runCmd n.val 7 fun c s => s.multiStart n.val c)

end Sys2Proof.Machine
end

