-- ==== Sys2Proof/Machine/Triggers.lean ====
section
/-! DEFINITION. The trigger pins (R142, R143, R181, R273, R299, R340, R574, R575). -/

namespace Sys2Proof.Machine

open Reg

/-- A rising edge at the pin at t that stays high for `width` grains is stamped and goes to its users: the mapped AML
lines, waiting sites, the scan sequencer, the acquisition engine and the event export. -/
def State.trigEdge (s : State) (n t width : Nat) : State :=
  let s0 := s.advanceTo t
  let d := s0.delay64
  let e := s0.draw.2.delay64
  let s1 := s0.draw.2.draw.2
  let s2 : State := { s1 with clk := { s1.clk with trigPulses := (n, t + d, t + width + d) :: s1.clk.trigPulses } }
  let s3 : State := { s2 with scan := { s2.scan with trigs := s2.scan.trigs ++ [(2 + n, t + e)] } }
  let s4 := (s3.raiseMapped (1 + n) t).releaseWaits (t + d) fun _ k => match k with | .trig src _ => src = n | _ => false
  (s4.acqEvent (0x10 + n) t).exportEvent 2 (recordBytes 0x11 0 0 0 0 n 0 (s4.stampAt t))

/-- An edge less than 16 fc after the previous one of the same input is not a separate event: the pulses merge (R574). -/
def State.trigMerge (s : State) (n t width : Nat) : State :=
  let s0 := s.advanceTo t
  let d := s0.delay64
  let s1 := s0.draw.2
  let i := s1.clk.trigPulses.findIdx fun p => p.1 = n
  { s1 with clk := { s1.clk with trigPulses := s1.clk.trigPulses.modify i fun p => (p.1, p.2.1, t + width + d) } }

/-- A rising edge on TRIG_INn. -/
def State.trigIn (s : State) (n t width : Nat) : State :=
  let last := tabGet 0 s.clk.trigLast n
  let s1 := if last ≠ 0 ∧ t < last - 1 + 16 * fcG then s.trigMerge n t width else s.trigEdge n t width
  { s1 with clk := { s1.clk with trigLast := tabPut 0 s1.clk.trigLast n (t + 1) } }

/-- TRIG_IN_EDGE: `t` is the instant of the pin edge, `width` the time in grains for which the input then stays high. -/
def execTrigInEdge (n : Fin 4) (t width : Nat) (s : State) : Host.Outcome State Fault Refusal := .next (s.trigIn n.val t width)

/-- TRIG_OUT_PULSE_END: the output falls 32 fc after its latest rise. -/
def execTrigOutPulseEnd (k : Fin 4) (s : State) : Host.Outcome State Fault Refusal :=
  let e := tabGet 0 s.clk.toutEnd k.val
  .next <| if e = 0 then s
    else
      let s1 := s.advanceTo e
      { s1 with clk := { s1.clk with toutEnd := tabErase s1.clk.toutEnd k.val } }

end Sys2Proof.Machine
end

