-- ==== Sys2Proof/Machine/Dispatch.lean ====
section
/-! DEFINITION. One arm per command; each is one direct call of its meaning. -/

namespace Sys2Proof.Machine

def exec (i : Instr) (s : State) : Host.Outcome State Fault Refusal :=
  match i with
  | .registerWrite r a len v => Sys2Proof.Machine.execRegisterWrite r a len v s
  | .rcRead r a len => Sys2Proof.Machine.execRcRead r a len s
  | .countLowRead c => Sys2Proof.Machine.execCountLowRead c s
  | .pageCommitGo r p => Sys2Proof.Machine.execPageCommitGo r p s
  | .commitApply p => Sys2Proof.Machine.execCommitApply p s
  | .pageCommitDrop r p => Sys2Proof.Machine.execPageCommitDrop r p s
  | .pageReset r p => Sys2Proof.Machine.execPageReset r p s
  | .pageResetRelease p => Sys2Proof.Machine.execPageResetRelease p s
  | .pageEnableWrite r p en => Sys2Proof.Machine.execPageEnableWrite r p en s
  | .pagePowerRequest r p on => Sys2Proof.Machine.execPagePowerRequest r p on s
  | .pageFltlClear r p a b => Sys2Proof.Machine.execPageFltlClear r p a b s
  | .overcurrentTrip ch => Sys2Proof.Machine.execOvercurrentTrip ch s
  | .ocConditionClear ch => Sys2Proof.Machine.execOcConditionClear ch s
  | .outOfRangeTrip ch => Sys2Proof.Machine.execOutOfRangeTrip ch s
  | .oorConditionClear ch => Sys2Proof.Machine.execOorConditionClear ch s
  | .pmuCtlWrite r ch v => Sys2Proof.Machine.execPmuCtlWrite r ch v s
  | .pmuClampWrite r ch v => Sys2Proof.Machine.execPmuClampWrite r ch v s
  | .openPinCheckStart r sh v => Sys2Proof.Machine.execOpenPinCheckStart r sh v s
  | .opcSettleElapsed sh => Sys2Proof.Machine.execOpcSettleElapsed sh s
  | .opcSamplingEnd sh samples => Sys2Proof.Machine.execOpcSamplingEnd sh samples s
  | .vectorStart n => Sys2Proof.Machine.execVectorStart n s
  | .edgeEvent ch seen => Sys2Proof.Machine.execEdgeEvent ch seen s
  | .clockGeneratorStart r n v => Sys2Proof.Machine.execClockGeneratorStart r n v s
  | .clockGeneratorStop r n v => Sys2Proof.Machine.execClockGeneratorStop r n v s
  | .cgPhaseReset n => Sys2Proof.Machine.execCgPhaseReset n s
  | .syncDetected refclk => Sys2Proof.Machine.execSyncDetected refclk s
  | .syncLost => Sys2Proof.Machine.execSyncLost s
  | .syncGeneratorStart r v => Sys2Proof.Machine.execSyncGeneratorStart r v s
  | .syncGeneratorStop r v => Sys2Proof.Machine.execSyncGeneratorStop r v s
  | .syncPulseGenerate => Sys2Proof.Machine.execSyncPulseGenerate s
  | .sqCtlStart r n => Sys2Proof.Machine.execSqCtlStart r n s
  | .launch n => Sys2Proof.Machine.execLaunch n s
  | .sqCtlPause r n => Sys2Proof.Machine.execSqCtlPause r n s
  | .pauseApply n => Sys2Proof.Machine.execPauseApply n s
  | .sqCtlResume r n => Sys2Proof.Machine.execSqCtlResume r n s
  | .resumeApply n => Sys2Proof.Machine.execResumeApply n s
  | .sqCtlAbort r n => Sys2Proof.Machine.execSqCtlAbort r n s
  | .sqCtlHtrig r n => Sys2Proof.Machine.execSqCtlHtrig r n s
  | .sqHjmpWrite r n v => Sys2Proof.Machine.execSqHjmpWrite r n v s
  | .hjumpApply n => Sys2Proof.Machine.execHjumpApply n s
  | .segmentBoundary n => Sys2Proof.Machine.execSegmentBoundary n s
  | .segWord n => Sys2Proof.Machine.execSegWord n s
  | .loopWord n => Sys2Proof.Machine.execLoopWord n s
  | .endlWord n => Sys2Proof.Machine.execEndlWord n s
  | .callWord n => Sys2Proof.Machine.execCallWord n s
  | .retWord n => Sys2Proof.Machine.execRetWord n s
  | .jmpWord n => Sys2Proof.Machine.execJmpWord n s
  | .jfWord n => Sys2Proof.Machine.execJfWord n s
  | .jpWord n => Sys2Proof.Machine.execJpWord n s
  | .jflWord n => Sys2Proof.Machine.execJflWord n s
  | .matchWord n => Sys2Proof.Machine.execMatchWord n s
  | .waittWord n => Sys2Proof.Machine.execWaittWord n s
  | .rdvWord n => Sys2Proof.Machine.execRdvWord n s
  | .markWord n => Sys2Proof.Machine.execMarkWord n s
  | .flagWord n => Sys2Proof.Machine.execFlagWord n s
  | .tsetWord n => Sys2Proof.Machine.execTsetWord n s
  | .stopWord n => Sys2Proof.Machine.execStopWord n s
  | .illegalOpcode n => Sys2Proof.Machine.execIllegalOpcode n s
  | .drain n => Sys2Proof.Machine.execDrain n s
  | .waitResume n => Sys2Proof.Machine.execWaitResume n s
  | .waittTimeout n => Sys2Proof.Machine.execWaittTimeout n s
  | .rdvTimeout n => Sys2Proof.Machine.execRdvTimeout n s
  | .rendezvousRelease g => Sys2Proof.Machine.execRendezvousRelease g s
  | .rendezvousStall => Sys2Proof.Machine.execRendezvousStall s
  | .shSiteWrite r sh v => Sys2Proof.Machine.execShSiteWrite r sh v s
  | .siteFlagSet r k v => Sys2Proof.Machine.execSiteFlagSet r k v s
  | .siteFlagClear r k v => Sys2Proof.Machine.execSiteFlagClear r k v s
  | .sharedFlagApply => Sys2Proof.Machine.execSharedFlagApply s
  | .atPulse r v => Sys2Proof.Machine.execAtPulse r v s
  | .atLineApply => Sys2Proof.Machine.execAtLineApply s
  | .hopperFetch n => Sys2Proof.Machine.execHopperFetch n s
  | .hopperDataArrival n data ecc => Sys2Proof.Machine.execHopperDataArrival n data ecc s
  | .baleCheck n => Sys2Proof.Machine.execBaleCheck n s
  | .hostProducerWrite r n v => Sys2Proof.Machine.execHostProducerWrite r n v s
  | .endToken n lane => Sys2Proof.Machine.execEndToken n lane s
  | .litToken n lane => Sys2Proof.Machine.execLitToken n lane s
  | .repToken n lane => Sys2Proof.Machine.execRepToken n lane s
  | .dictToken n lane => Sys2Proof.Machine.execDictToken n lane s
  | .xorToken n lane => Sys2Proof.Machine.execXorToken n lane s
  | .reservedToken n lane => Sys2Proof.Machine.execReservedToken n lane s
  | .bar2Write a bytes => Sys2Proof.Machine.execBar2Write a bytes s
  | .compareResultArrival => Sys2Proof.Machine.execCompareResultArrival s
  | .underrunMark => Sys2Proof.Machine.execUnderrunMark s
  | .recordWrite => Sys2Proof.Machine.execRecordWrite s
  | .recordExport => Sys2Proof.Machine.execRecordExport s
  | .datalogConsumerWrite r v => Sys2Proof.Machine.execDatalogConsumerWrite r v s
  | .gleanerCountClear r n => Sys2Proof.Machine.execGleanerCountClear r n s
  | .bitmapUpdate => Sys2Proof.Machine.execBitmapUpdate s
  | .qdrAddressParityError port => Sys2Proof.Machine.execQdrAddressParityError port s
  | .bitmapReadoutStart r v => Sys2Proof.Machine.execBitmapReadoutStart r v s
  | .bitmapReadoutDone => Sys2Proof.Machine.execBitmapReadoutDone s
  | .scanStart r => Sys2Proof.Machine.execScanStart r s
  | .scanPeriodStart => Sys2Proof.Machine.execScanPeriodStart s
  | .scanTriggerStart => Sys2Proof.Machine.execScanTriggerStart s
  | .scanGroupStart => Sys2Proof.Machine.execScanGroupStart s
  | .abusSwitchClose bus => Sys2Proof.Machine.execAbusSwitchClose bus s
  | .scanResultQueue raw => Sys2Proof.Machine.execScanResultQueue raw s
  | .scanQueueCopy => Sys2Proof.Machine.execScanQueueCopy s
  | .scanAbort r => Sys2Proof.Machine.execScanAbort r s
  | .referenceSelect r v inWindow => Sys2Proof.Machine.execReferenceSelect r v inWindow s
  | .referenceSettled => Sys2Proof.Machine.execReferenceSettled s
  | .extReferenceFallback => Sys2Proof.Machine.execExtReferenceFallback s
  | .singleRunStart r n => Sys2Proof.Machine.execSingleRunStart r n s
  | .singleRunStop r n => Sys2Proof.Machine.execSingleRunStop r n s
  | .singleBlockWrite n raw => Sys2Proof.Machine.execSingleBlockWrite n raw s
  | .urgentRequest r n ch v => Sys2Proof.Machine.execUrgentRequest r n ch v s
  | .urgentResult n raw => Sys2Proof.Machine.execUrgentResult n raw s
  | .acqArm r => Sys2Proof.Machine.execAcqArm r s
  | .armInstant => Sys2Proof.Machine.execArmInstant s
  | .pretriggerFull => Sys2Proof.Machine.execPretriggerFull s
  | .triggerAccept raws pats => Sys2Proof.Machine.execTriggerAccept raws pats s
  | .acqForce r => Sys2Proof.Machine.execAcqForce r s
  | .recordLastSample raws => Sys2Proof.Machine.execRecordLastSample raws s
  | .recordOverflow => Sys2Proof.Machine.execRecordOverflow s
  | .recordComplete => Sys2Proof.Machine.execRecordComplete s
  | .acqStop r => Sys2Proof.Machine.execAcqStop r s
  | .acqAbort r => Sys2Proof.Machine.execAcqAbort r s
  | .acqRelease r v => Sys2Proof.Machine.execAcqRelease r v s
  | .heldItemAccept => Sys2Proof.Machine.execHeldItemAccept s
  | .timeNowRead => Sys2Proof.Machine.execTimeNowRead s
  | .stepRequest r => Sys2Proof.Machine.execStepRequest r s
  | .stepApply => Sys2Proof.Machine.execStepApply s
  | .offsetSubmit r v => Sys2Proof.Machine.execOffsetSubmit r v s
  | .adjWrite r v => Sys2Proof.Machine.execAdjWrite r v s
  | .holdRequest r => Sys2Proof.Machine.execHoldRequest r s
  | .watchdogExpire => Sys2Proof.Machine.execWatchdogExpire s
  | .sharedAdjApply => Sys2Proof.Machine.execSharedAdjApply s
  | .frameReceive p t frame good => Sys2Proof.Machine.execFrameReceive p t frame good s
  | .frameTransmit p t slot => Sys2Proof.Machine.execFrameTransmit p t slot s
  | .ethLinkChange p up => Sys2Proof.Machine.execEthLinkChange p up s
  | .datagramSend p => Sys2Proof.Machine.execDatagramSend p s
  | .convProcedure r => Sys2Proof.Machine.execConvProcedure r s
  | .levelProcedure r => Sys2Proof.Machine.execLevelProcedure r s
  | .cmpProcedure r => Sys2Proof.Machine.execCmpProcedure r s
  | .impProcedure r => Sys2Proof.Machine.execImpProcedure r s
  | .deskewProcedure r => Sys2Proof.Machine.execDeskewProcedure r s
  | .loopCalibration r => Sys2Proof.Machine.execLoopCalibration r s
  | .mcskewProcedure r => Sys2Proof.Machine.execMcskewProcedure r s
  | .eyeProcedure r => Sys2Proof.Machine.execEyeProcedure r s
  | .syszProcedure r => Sys2Proof.Machine.execSyszProcedure r s
  | .sysfProcedure r => Sys2Proof.Machine.execSysfProcedure r s
  | .unitCommit m => Sys2Proof.Machine.execUnitCommit m s
  | .procedureEnd => Sys2Proof.Machine.execProcedureEnd s
  | .winnAbort r => Sys2Proof.Machine.execWinnAbort r s
  | .autoLoop => Sys2Proof.Machine.execAutoLoop s
  | .imgload r => Sys2Proof.Machine.execImgload r s
  | .flashload r => Sys2Proof.Machine.execFlashload r s
  | .imgsave r => Sys2Proof.Machine.execImgsave r s
  | .flashsave r => Sys2Proof.Machine.execFlashsave r s
  | .imageOperationDone data readOk => Sys2Proof.Machine.execImageOperationDone data readOk s
  | .nextWord u k at_ w sig load => Sys2Proof.Machine.execNextWord u k at_ w sig load s
  | .branchMicroword u k at_ w sig load => Sys2Proof.Machine.execBranchMicroword u k at_ w sig load s
  | .cbranchMicroword u k at_ w sig load => Sys2Proof.Machine.execCbranchMicroword u k at_ w sig load s
  | .microCall u k at_ w sig load => Sys2Proof.Machine.execMicroCall u k at_ w sig load s
  | .ccallMicroword u k at_ w sig load => Sys2Proof.Machine.execCcallMicroword u k at_ w sig load s
  | .microRet u k at_ w sig load => Sys2Proof.Machine.execMicroRet u k at_ w sig load s
  | .dispatchMicroword u k at_ w sig disp load => Sys2Proof.Machine.execDispatchMicroword u k at_ w sig disp load s
  | .microEnd u k at_ w sig load => Sys2Proof.Machine.execMicroEnd u k at_ w sig load s
  | .microwordWaitEnd u k w cycles sig disp load => Sys2Proof.Machine.execMicrowordWaitEnd u k w cycles sig disp load s
  | .brewerRun r n v => Sys2Proof.Machine.execBrewerRun r n v s
  | .brewerHold r n v => Sys2Proof.Machine.execBrewerHold r n v s
  | .brewerInstruction n x => Sys2Proof.Machine.execBrewerInstruction n x s
  | .machineTimerInterrupt n => Sys2Proof.Machine.execMachineTimerInterrupt n s
  | .baristaTake n x => Sys2Proof.Machine.execBaristaTake n x s
  | .baristaTry n x => Sys2Proof.Machine.execBaristaTry n x s
  | .baristaDone n x => Sys2Proof.Machine.execBaristaDone n x s
  | .baristaSub n x => Sys2Proof.Machine.execBaristaSub n x s
  | .baristaCancel n x => Sys2Proof.Machine.execBaristaCancel n x s
  | .brstSubgo r => Sys2Proof.Machine.execBrstSubgo r s
  | .brstCancel r token => Sys2Proof.Machine.execBrstCancel r token s
  | .itemDispatch => Sys2Proof.Machine.execItemDispatch s
  | .completionReport => Sys2Proof.Machine.execCompletionReport s
  | .dispatchTimeout => Sys2Proof.Machine.execDispatchTimeout s
  | .bwDoor r n v => Sys2Proof.Machine.execBwDoor r n v s
  | .peakClear r => Sys2Proof.Machine.execPeakClear r s
  | .histogramClear r => Sys2Proof.Machine.execHistogramClear r s
  | .loadWindowEnd => Sys2Proof.Machine.execLoadWindowEnd s
  | .cntLRead id => Sys2Proof.Machine.execCntLRead id s
  | .counterWrite r id hi v events => Sys2Proof.Machine.execCounterWrite r id hi v events s
  | .counterClearAll r coll => Sys2Proof.Machine.execCounterClearAll r coll s
  | .snapshotDemand r => Sys2Proof.Machine.execSnapshotDemand r s
  | .snapshotInstant => Sys2Proof.Machine.execSnapshotInstant s
  | .dumpComplete ecc => Sys2Proof.Machine.execDumpComplete ecc s
  | .ddrRequest reqs => Sys2Proof.Machine.execDdrRequest reqs s
  | .ddrAlert n a cls => Sys2Proof.Machine.execDdrAlert n a cls s
  | .ddrUnfreeze r n => Sys2Proof.Machine.execDdrUnfreeze r n s
  | .refreshTick n => Sys2Proof.Machine.execRefreshTick n s
  | .refreshSet n waiting => Sys2Proof.Machine.execRefreshSet n waiting s
  | .mr4Read n ranks => Sys2Proof.Machine.execMr4Read n ranks s
  | .selfRefreshEntry r n => Sys2Proof.Machine.execSelfRefreshEntry r n s
  | .srexit r n ranks fits => Sys2Proof.Machine.execSrexit r n ranks fits s
  | .ddrTrain n t => Sys2Proof.Machine.execDdrTrain n t s
  | .ddrRetrain n delays => Sys2Proof.Machine.execDdrRetrain n delays s
  | .zqcal n status => Sys2Proof.Machine.execZqcal n status s
  | .ddrCfgWrite r v => Sys2Proof.Machine.execDdrCfgWrite r v s
  | .dcCfgWrite r n v => Sys2Proof.Machine.execDcCfgWrite r n v s
  | .qdrTrain r qa qb => Sys2Proof.Machine.execQdrTrain r qa qb s
  | .bar4Access a len data ecc => Sys2Proof.Machine.execBar4Access a len data ecc s
  | .conventionalReset => Sys2Proof.Machine.execConventionalReset s
  | .functionLevelReset => Sys2Proof.Machine.execFunctionLevelReset s
  | .abiSelect r v => Sys2Proof.Machine.execAbiSelect r v s
  | .ringEnable r n en => Sys2Proof.Machine.execRingEnable r n en s
  | .commandFetch n cmd => Sys2Proof.Machine.execCommandFetch n cmd s
  | .nopCommand n => Sys2Proof.Machine.execNopCommand n s
  | .dmaCommand n units => Sys2Proof.Machine.execDmaCommand n units s
  | .regwrCommand n => Sys2Proof.Machine.execRegwrCommand n s
  | .bsubCommand n => Sys2Proof.Machine.execBsubCommand n s
  | .bcancelCommand n => Sys2Proof.Machine.execBcancelCommand n s
  | .progloadCommand n words => Sys2Proof.Machine.execProgloadCommand n words s
  | .multiSiteStart n => Sys2Proof.Machine.execMultiSiteStart n s
  | .commandCompletion n => Sys2Proof.Machine.execCommandCompletion n s
  | .amlTrain p t => Sys2Proof.Machine.execAmlTrain p t s
  | .amlRetrain r p => Sys2Proof.Machine.execAmlRetrain r p s
  | .amlTrainRetry p => Sys2Proof.Machine.execAmlTrainRetry p s
  | .amlLinkDown p reason lost => Sys2Proof.Machine.execAmlLinkDown p reason lost s
  | .capxFlit p chip chips major minor reach => Sys2Proof.Machine.execCapxFlit p chip chips major minor reach s
  | .ackFlit p ack nak => Sys2Proof.Machine.execAckFlit p ack nak s
  | .idleFlit p ack nak => Sys2Proof.Machine.execIdleFlit p ack nak s
  | .syncmFlit p h cnt => Sys2Proof.Machine.execSyncmFlit p h cnt s
  | .trigFlit p h line f => Sys2Proof.Machine.execTrigFlit p h line f s
  | .flagFlit p h idx op rank f => Sys2Proof.Machine.execFlagFlit p h idx op rank f s
  | .rdvFlit p h g m f => Sys2Proof.Machine.execRdvFlit p h g m f s
  | .spanFlit p h sp m f => Sys2Proof.Machine.execSpanFlit p h sp m f s
  | .timeFlit p h m f => Sys2Proof.Machine.execTimeFlit p h m f s
  | .calFlit p h m => Sys2Proof.Machine.execCalFlit p h m s
  | .faultSourceAssert slots => Sys2Proof.Machine.execFaultSourceAssert slots s
  | .wireFault slot high => Sys2Proof.Machine.execWireFault slot high s
  | .shadowWindowEnd slot => Sys2Proof.Machine.execShadowWindowEnd slot s
  | .faultSourceClear slot temps => Sys2Proof.Machine.execFaultSourceClear slot temps s
  | .quietPeriodEnd slot sr => Sys2Proof.Machine.execQuietPeriodEnd slot sr s
  | .lockClear r slot => Sys2Proof.Machine.execLockClear r slot s
  | .faultInjection r v => Sys2Proof.Machine.execFaultInjection r v s
  | .injectionEnd => Sys2Proof.Machine.execInjectionEnd s
  | .siloArm v => Sys2Proof.Machine.execSiloArm v s
  | .siloArmExpire => Sys2Proof.Machine.execSiloArmExpire s
  | .siloForce i3c v => Sys2Proof.Machine.execSiloForce i3c v s
  | .safeN active => Sys2Proof.Machine.execSafeN active s
  | .groupCurrentLimit g meas => Sys2Proof.Machine.execGroupCurrentLimit g meas s
  | .thermalWarning temps => Sys2Proof.Machine.execThermalWarning temps s
  | .thermalCritical temps => Sys2Proof.Machine.execThermalCritical temps s
  | .lockstepMismatch => Sys2Proof.Machine.execLockstepMismatch s
  | .supplyOutOfWindow => Sys2Proof.Machine.execSupplyOutOfWindow s
  | .pllUnlock absent => Sys2Proof.Machine.execPllUnlock absent s
  | .idleRequest r => Sys2Proof.Machine.execIdleRequest r s
  | .standbyRequest r => Sys2Proof.Machine.execStandbyRequest r s
  | .calRequest r => Sys2Proof.Machine.execCalRequest r s
  | .factoryRequest r => Sys2Proof.Machine.execFactoryRequest r s
  | .offRequest r => Sys2Proof.Machine.execOffRequest r s
  | .restartRequest r ref b => Sys2Proof.Machine.execRestartRequest r ref b s
  | .powerRequest r w v => Sys2Proof.Machine.execPowerRequest r w v s
  | .powerUpComplete => Sys2Proof.Machine.execPowerUpComplete s
  | .powerDownComplete d => Sys2Proof.Machine.execPowerDownComplete d s
  | .sealDevice r key => Sys2Proof.Machine.execSealDevice r key s
  | .zeroise r => Sys2Proof.Machine.execZeroise r s
  | .zeroisationDone => Sys2Proof.Machine.execZeroisationDone s
  | .keyLoad r => Sys2Proof.Machine.execKeyLoad r s
  | .debugLevelRequest r level => Sys2Proof.Machine.execDebugLevelRequest r level s
  | .tokenSubmit r target => Sys2Proof.Machine.execTokenSubmit r target s
  | .tokenVerified => Sys2Proof.Machine.execTokenVerified s
  | .entdaa addr => Sys2Proof.Machine.execEntdaa addr s
  | .i3cSetOffset off => Sys2Proof.Machine.execI3cSetOffset off s
  | .i3cWrite off v => Sys2Proof.Machine.execI3cWrite off v s
  | .i3cRead => Sys2Proof.Machine.execI3cRead s
  | .bypass => Sys2Proof.Machine.execBypass s
  | .idcode => Sys2Proof.Machine.execIdcode s
  | .samplePreload pins preload => Sys2Proof.Machine.execSamplePreload pins preload s
  | .extest pins => Sys2Proof.Machine.execExtest pins s
  | .powerOnResetRelease ref b => Sys2Proof.Machine.execPowerOnResetRelease ref b s
  | .vddaonLoss => Sys2Proof.Machine.execVddaonLoss s
  | .refclkDetect c => Sys2Proof.Machine.execRefclkDetect c s
  | .bootEnd us => Sys2Proof.Machine.execBootEnd us s
  | .trigInEdge n t width => Sys2Proof.Machine.execTrigInEdge n t width s
  | .trigOutPulseEnd k => Sys2Proof.Machine.execTrigOutPulseEnd k s
  | .pcieLinkChange speed width => Sys2Proof.Machine.execPcieLinkChange speed width s
  | .busMasterEnableWrite en => Sys2Proof.Machine.execBusMasterEnableWrite en s
  | .flitCrcError p => Sys2Proof.Machine.execFlitCrcError p s
  | .debugModuleRequest n q => Sys2Proof.Machine.execDebugModuleRequest n q s

end Sys2Proof.Machine
end

