-- ==== Sys2Proof/Machine/Changes.lean ====
section
/-! DEFINITION. What each command may change: the parts of the state, and for the register fields the kinds of the pages
that hold them. A part that is not listed for a command is after it as before it; the queue is listed for none. -/

namespace Sys2Proof.Machine

/-- The parts of the state. The register fields are divided by the kind of their page. -/
inductive Part
  | regs (k : PKind)
  | now
  | staged
  | pageOps
  | ch
  | sh
  | cg
  | clk
  | sq
  | hop
  | results
  | aml
  | amlOseq
  | amlSeen
  | gln
  | brst
  | cnt
  | scan
  | slice
  | acq
  | dc
  | ddrReplies
  | micro
  | bwc
  | winn
  | tap
  | mgmt
  | keys
  | host
  | eth
  | time
  | flt
  | safety
  | free
  | rdata
  | granary
  | granaryErrors
  | dictionaries
  | capture
  | recordMem
  | recordHeaders
  | localMem
  | dram
  | qdrMem
  | flash
  | hostMem
  | pending
  deriving DecidableEq, Repr

/-- A part of the state is the same in two states. -/
def Part.same (s t : State) : Part → Prop
  | .regs k => ∀ n f i j, t.rd ⟨k, n⟩ f i j = s.rd ⟨k, n⟩ f i j
  | .now => t.now = s.now
  | .staged => t.staged = s.staged
  | .pageOps => t.pageOps = s.pageOps
  | .ch => t.ch = s.ch
  | .sh => t.sh = s.sh
  | .cg => t.cg = s.cg
  | .clk => t.clk = s.clk
  | .sq => t.sq = s.sq
  | .hop => t.hop = s.hop
  | .results => t.results = s.results
  | .aml => t.aml = s.aml
  | .amlOseq => t.amlOseq = s.amlOseq
  | .amlSeen => t.amlSeen = s.amlSeen
  | .gln => t.gln = s.gln
  | .brst => t.brst = s.brst
  | .cnt => t.cnt = s.cnt
  | .scan => t.scan = s.scan
  | .slice => t.slice = s.slice
  | .acq => t.acq = s.acq
  | .dc => t.dc = s.dc
  | .ddrReplies => t.ddrReplies = s.ddrReplies
  | .micro => t.micro = s.micro
  | .bwc => t.bwc = s.bwc
  | .winn => t.winn = s.winn
  | .tap => t.tap = s.tap
  | .mgmt => t.mgmt = s.mgmt
  | .keys => t.keys = s.keys
  | .host => t.host = s.host
  | .eth => t.eth = s.eth
  | .time => t.time = s.time
  | .flt => t.flt = s.flt
  | .safety => t.safety = s.safety
  | .free => t.free = s.free
  | .rdata => t.rdata = s.rdata
  | .granary => t.mem.gran = s.mem.gran
  | .granaryErrors => t.mem.granErr = s.mem.granErr
  | .dictionaries => t.mem.dict = s.mem.dict
  | .capture => t.mem.cap = s.mem.cap
  | .recordMem => t.mem.record = s.mem.record
  | .recordHeaders => t.mem.recHdr = s.mem.recHdr
  | .localMem => t.mem.bw = s.mem.bw
  | .dram => t.mem.ddr = s.mem.ddr
  | .qdrMem => t.mem.qdr = s.mem.qdr
  | .flash => t.mem.flash = s.mem.flash
  | .hostMem => t.mem.host = s.mem.host
  | .pending => t.pending = s.pending

/-- The register fields of the pages of some kinds. -/
def regsOf (ks : List PKind) : List Part := ks.map .regs

/-- Every register field. -/
def allRegs : List Part := allKinds.map .regs

/-- A write to any register. -/
def registerParts : List Part :=
  allRegs ++ [.now, .staged, .pageOps, .ch, .sh, .cg, .clk, .sq, .hop, .results, .aml, .amlOseq, .amlSeen, .gln,
    .brst, .cnt, .scan, .slice, .acq, .dc, .ddrReplies, .micro, .bwc, .winn, .tap, .mgmt, .keys, .host, .eth, .time,
    .flt, .safety, .free, .granary, .granaryErrors, .dictionaries, .capture, .recordMem, .recordHeaders, .localMem,
    .dram, .flash]

/-- A write to a page header that resets, enables or powers a block. -/
def blockParts (p : Page) : List Part :=
  regsOf [.mode, .clk, .pwr, .time, .eth, .cnt, .brst, .ucode, .host, .aml, .bw, .asn, .ascan, .acq, .sq, .hop,
    .gln, .sh, p.kind] ++ [.staged, .pageOps, .ch, .sh, .clk, .sq, .hop, .aml, .amlOseq, .gln, .brst, .cnt, .scan,
    .slice, .acq, .dc, .micro, .bwc, .winn, .mgmt, .host, .eth, .time, .flt, .recordMem]

/-- A safe state. -/
def safeStateParts : List Part :=
  regsOf [.mode, .clk, .silo, .eth, .cnt, .brst, .ucode, .host, .ascan, .sq, .hop, .gln, .sh] ++ [.staged, .ch,
    .clk, .sq, .hop, .aml, .amlOseq, .gln, .brst, .cnt, .scan, .acq, .micro, .host, .eth, .flt, .safety]

/-- A write to the control register of a sequencer. -/
def siteControlParts : List Part :=
  regsOf [.mode, .clk, .time, .eth, .cnt, .brst, .host, .ascan, .sq, .hop, .gln, .sh] ++ [.now, .staged, .ch, .clk,
    .sq, .hop, .aml, .amlOseq, .gln, .brst, .cnt, .scan, .acq, .host, .eth, .time, .flt]

/-- A program word of a sequencer. -/
def wordParts : List Part :=
  regsOf [.clk, .eth, .cnt, .brst, .sq, .gran, .hop] ++ [.now, .ch, .clk, .sq, .hop, .aml, .amlOseq, .brst, .cnt,
    .acq, .eth]

/-- The decoding of a bale. -/
def baleParts : List Part :=
  regsOf [.mode, .eth, .cnt, .host, .ascan, .sq, .hop, .gln, .sh] ++ [.staged, .sq, .hop, .aml, .amlOseq, .gln,
    .cnt, .scan, .host, .eth]

/-- A write to the control register of the acquisition. -/
def acqControlParts : List Part :=
  regsOf [.cnt, .asn, .acq] ++ [.staged, .cnt, .acq, .flt, .recordMem]

/-- A start or an abort of a Winnower procedure. -/
def procedureParts : List Part :=
  regsOf [.cnt, .winn, .host] ++ [.staged, .pageOps, .cnt, .winn, .host, .flt]

/-- A start of an image operation. -/
def imageParts : List Part :=
  regsOf [.winn] ++ [.staged, .winn, .flt, .flash]

/-- A word of a control ROM. -/
def microParts : List Part :=
  regsOf [.ucode] ++ [.now, .micro, .flt, .free]

/-- An instruction of a Brewer, which may reach every part but the queue. -/
def coreParts : List Part :=
  allRegs ++ [.now, .staged, .pageOps, .ch, .sh, .cg, .clk, .sq, .hop, .results, .aml, .amlOseq, .amlSeen, .gln,
    .brst, .cnt, .scan, .slice, .acq, .dc, .ddrReplies, .micro, .bwc, .winn, .tap, .mgmt, .keys, .host, .eth, .time,
    .flt, .safety, .free, .rdata, .granary, .granaryErrors, .dictionaries, .capture, .recordMem, .recordHeaders,
    .localMem, .dram, .flash, .hostMem]

/-- A fault that the collector handles, with every reaction it may have. -/
def collectorParts : List Part :=
  regsOf [.mode, .clk, .flt, .silo, .eth, .cnt, .brst, .ucode, .winn, .host, .bw, .dc, .asn, .ascan, .acq, .sq,
    .hop, .gln, .sh] ++ [.now, .staged, .pageOps, .ch, .sh, .clk, .sq, .hop, .aml, .amlOseq, .gln, .brst, .cnt, .scan,
    .slice, .acq, .dc, .micro, .bwc, .winn, .tap, .mgmt, .host, .eth, .time, .flt, .safety, .free, .recordMem]

/-- A request for a mode but RESTART. -/
def modeParts : List Part :=
  regsOf [.mode, .flt, .cnt, .ucode, .host, .dc] ++ [.staged, .cnt, .dc, .micro, .tap, .mgmt, .host, .flt, .safety]

/-- An instruction of the TAP. -/
def tapParts : List Part :=
  [.tap]

/-- A BOOT. -/
def bootParts : List Part :=
  allRegs ++ [.now, .staged, .pageOps, .ch, .sh, .clk, .sq, .hop, .aml, .amlOseq, .gln, .brst, .cnt, .scan, .slice,
    .acq, .dc, .micro, .bwc, .winn, .tap, .mgmt, .host, .eth, .time, .flt, .safety, .free, .granary, .granaryErrors,
    .dictionaries, .capture, .recordMem, .recordHeaders, .localMem]

/-- The parts that a command may change. -/
def changes : Instr → List Part
  | .registerWrite _ _ _ _ => registerParts
  | .rcRead _ _ _ => allRegs ++ [.gln, .cnt, .time, .free, .rdata]
  | .countLowRead _ => [.gln, .rdata]
  | .pageCommitGo _ p => regsOf [.clk, .ascan, .hop, p.kind] ++ [.staged, .cg, .scan]
  | .commitApply p => regsOf [.clk, .ascan, .hop, p.kind] ++ [.now, .staged, .cg, .scan]
  | .pageCommitDrop _ p => regsOf [.clk, .ascan, .hop, p.kind] ++ [.staged, .cg, .scan]
  | .pageReset _ p => blockParts p
  | .pageResetRelease p =>
    regsOf [.mode, .clk, .time, .eth, .cnt, .host, .aml, .bw, .sq, .hop, .gln, p.kind] ++ [.staged, .pageOps, .sq,
      .hop, .aml, .brst, .cnt, .acq, .dc, .bwc, .host, .eth, .time, .flt]
  | .pageEnableWrite _ p _ => blockParts p
  | .pagePowerRequest _ p _ => blockParts p
  | .pageFltlClear _ p _ _ => regsOf [.flt, p.kind] ++ [.bwc]
  | .overcurrentTrip _ =>
    regsOf [.mode, .clk, .silo, .eth, .cnt, .brst, .ucode, .host, .ascan, .sq, .hop, .gln, .sh] ++ [.staged, .ch,
      .sh, .clk, .sq, .hop, .aml, .amlOseq, .gln, .brst, .cnt, .scan, .acq, .micro, .host, .eth, .flt, .safety]
  | .ocConditionClear _ => [.ch, .flt]
  | .outOfRangeTrip _ => safeStateParts
  | .oorConditionClear _ => [.ch, .flt]
  | .pmuCtlWrite _ _ _ => regsOf [.sh] ++ [.staged, .flt]
  | .pmuClampWrite _ _ _ => regsOf [.sh] ++ [.staged, .flt]
  | .openPinCheckStart _ _ _ => regsOf [.sh] ++ [.staged, .sh, .flt]
  | .opcSettleElapsed _ => [.now, .sh]
  | .opcSamplingEnd _ _ => regsOf [.sh] ++ [.now, .sh]
  | .vectorStart _ =>
    regsOf [.clk, .eth, .cnt, .brst, .sq, .gran, .hop, .sh] ++ [.now, .staged, .ch, .clk, .sq, .hop, .aml, .amlOseq,
      .gln, .brst, .cnt, .acq, .eth, .flt]
  | .edgeEvent _ _ => regsOf [.cnt] ++ [.now, .ch, .sq, .results, .aml, .amlOseq, .cnt]
  | .clockGeneratorStart _ _ _ => regsOf [.clk] ++ [.staged, .cg, .flt]
  | .clockGeneratorStop _ _ _ => regsOf [.clk] ++ [.staged, .cg, .flt]
  | .cgPhaseReset _ => regsOf [.clk] ++ [.now, .staged, .cg]
  | .syncDetected _ =>
    regsOf [.clk, .time, .eth, .cnt, .host, .asn] ++ [.now, .clk, .sq, .aml, .amlOseq, .cnt, .slice, .host, .eth,
      .time, .flt]
  | .syncLost => regsOf [.clk] ++ [.now, .flt]
  | .syncGeneratorStart _ _ => regsOf [.clk] ++ [.staged, .clk, .flt]
  | .syncGeneratorStop _ _ => regsOf [.clk] ++ [.staged, .clk, .flt]
  | .syncPulseGenerate =>
    regsOf [.clk, .time, .eth, .cnt, .host, .asn] ++ [.now, .clk, .sq, .aml, .amlOseq, .cnt, .slice, .host, .eth,
      .time, .flt]
  | .sqCtlStart _ _ => siteControlParts
  | .launch _ => regsOf [.eth, .cnt, .sq] ++ [.now, .ch, .sq, .aml, .amlOseq, .gln, .cnt, .eth]
  | .sqCtlPause _ _ => siteControlParts
  | .pauseApply _ => [.now, .sq]
  | .sqCtlResume _ _ => siteControlParts
  | .resumeApply _ => [.now, .sq]
  | .sqCtlAbort _ _ => siteControlParts
  | .sqCtlHtrig _ _ => siteControlParts
  | .sqHjmpWrite _ _ _ => regsOf [.cnt, .sq] ++ [.staged, .sq, .aml, .amlOseq, .cnt, .flt]
  | .hjumpApply _ => regsOf [.clk, .cnt, .sq, .hop] ++ [.now, .clk, .sq, .hop, .aml, .amlOseq, .cnt]
  | .segmentBoundary _ =>
    regsOf [.clk, .eth, .cnt, .brst, .sq, .hop] ++ [.now, .staged, .ch, .clk, .sq, .hop, .aml, .amlOseq, .brst,
      .cnt, .acq, .eth]
  | .segWord _ => wordParts
  | .loopWord _ => wordParts
  | .endlWord _ => wordParts
  | .callWord _ => wordParts
  | .retWord _ => wordParts
  | .jmpWord _ => wordParts
  | .jfWord _ => wordParts
  | .jpWord _ => wordParts
  | .jflWord _ => wordParts
  | .matchWord _ => wordParts
  | .waittWord _ => wordParts
  | .rdvWord _ => wordParts
  | .markWord _ => wordParts
  | .flagWord _ => wordParts
  | .tsetWord _ => wordParts
  | .stopWord _ => wordParts
  | .illegalOpcode _ =>
    regsOf [.clk, .eth, .cnt, .brst, .sq, .gran, .hop] ++ [.now, .ch, .clk, .sq, .hop, .aml, .amlOseq, .brst, .cnt,
      .acq, .eth, .flt]
  | .drain _ =>
    regsOf [.mode, .eth, .cnt, .host, .ascan, .sq, .hop, .gln, .sh] ++ [.staged, .gln, .cnt, .scan, .host, .eth]
  | .waitResume _ => [.now, .sq]
  | .waittTimeout _ =>
    regsOf [.clk, .eth, .cnt, .brst, .sq, .hop] ++ [.now, .ch, .clk, .sq, .hop, .aml, .amlOseq, .brst, .cnt, .acq,
      .eth]
  | .rdvTimeout _ =>
    regsOf [.clk, .eth, .cnt, .brst, .sq, .hop] ++ [.now, .ch, .clk, .sq, .hop, .aml, .amlOseq, .brst, .cnt, .acq,
      .eth]
  | .rendezvousRelease _ => regsOf [.clk] ++ [.now, .clk, .sq]
  | .rendezvousStall => regsOf [.clk] ++ [.sq]
  | .shSiteWrite _ _ _ => regsOf [.sh] ++ [.staged, .flt]
  | .siteFlagSet _ _ _ => regsOf [.clk, .cnt] ++ [.staged, .clk, .aml, .amlOseq, .cnt, .flt]
  | .siteFlagClear _ _ _ => regsOf [.clk, .cnt] ++ [.staged, .clk, .aml, .amlOseq, .cnt, .flt]
  | .sharedFlagApply => regsOf [.clk] ++ [.now, .clk]
  | .atPulse _ _ => regsOf [.clk, .cnt] ++ [.staged, .clk, .aml, .amlOseq, .cnt, .flt]
  | .atLineApply => [.now, .clk, .sq, .scan, .acq, .free]
  | .hopperFetch _ => [.hop]
  | .hopperDataArrival _ _ _ => regsOf [.cnt, .dc] ++ [.hop, .cnt, .flt, .free, .dram]
  | .baleCheck _ => baleParts
  | .hostProducerWrite _ _ _ => regsOf [.hop] ++ [.staged, .flt]
  | .endToken _ _ => baleParts
  | .litToken _ _ => baleParts
  | .repToken _ _ => baleParts
  | .dictToken _ _ => baleParts
  | .xorToken _ _ => baleParts
  | .reservedToken _ _ => baleParts
  | .bar2Write _ _ =>
    regsOf [.cnt, .gran, .gln] ++ [.cnt, .bwc, .flt, .granary, .granaryErrors, .dictionaries, .localMem]
  | .compareResultArrival => regsOf [.cnt, .gln] ++ [.results, .gln, .cnt]
  | .underrunMark => [.gln]
  | .recordWrite => regsOf [.eth, .cnt, .brst, .gln] ++ [.gln, .brst, .cnt, .eth, .capture]
  | .recordExport => regsOf [.cnt, .gln] ++ [.gln, .cnt, .hostMem]
  | .datalogConsumerWrite _ _ => regsOf [.cnt, .gln] ++ [.staged, .gln, .cnt, .flt]
  | .gleanerCountClear _ _ => regsOf [.gln] ++ [.staged, .cnt, .flt]
  | .bitmapUpdate => regsOf [.cnt, .qdr] ++ [.gln, .cnt, .flt, .qdrMem]
  | .qdrAddressParityError _ => regsOf [.cnt, .qdr] ++ [.cnt, .flt]
  | .bitmapReadoutStart _ _ => regsOf [.gln] ++ [.staged, .flt]
  | .bitmapReadoutDone => regsOf [.cnt, .qdr, .gln] ++ [.cnt, .flt, .free, .qdrMem, .hostMem]
  | .scanStart _ => regsOf [.cnt, .asn, .ascan] ++ [.staged, .cnt, .scan, .flt]
  | .scanPeriodStart => regsOf [.cnt, .ascan] ++ [.now, .cnt, .scan]
  | .scanTriggerStart => regsOf [.cnt, .ascan] ++ [.now, .cnt, .scan]
  | .scanGroupStart => regsOf [.cnt, .asn, .ascan] ++ [.now, .cnt, .scan, .slice]
  | .abusSwitchClose _ => [.now, .scan]
  | .scanResultQueue _ => regsOf [.cnt, .brst, .asn, .ascan] ++ [.now, .staged, .brst, .cnt, .scan, .slice]
  | .scanQueueCopy => regsOf [.host, .ascan] ++ [.scan, .host, .hostMem]
  | .scanAbort _ => regsOf [.cnt, .asn, .ascan] ++ [.staged, .cnt, .scan, .flt]
  | .referenceSelect _ _ _ => regsOf [.ascan] ++ [.staged, .scan, .flt]
  | .referenceSettled => regsOf [.ascan] ++ [.now]
  | .extReferenceFallback => regsOf [.ascan] ++ [.scan, .flt]
  | .singleRunStart _ _ => regsOf [.asn] ++ [.staged, .slice, .flt]
  | .singleRunStop _ _ => regsOf [.asn] ++ [.staged, .slice, .flt]
  | .singleBlockWrite _ _ => regsOf [.cnt, .host, .asn] ++ [.cnt, .slice, .host, .hostMem]
  | .urgentRequest _ _ _ _ => regsOf [.cnt, .asn] ++ [.staged, .cnt, .slice, .flt]
  | .urgentResult _ _ => regsOf [.cnt, .asn] ++ [.now, .cnt, .slice]
  | .acqArm _ => acqControlParts
  | .armInstant => regsOf [.acq] ++ [.now, .staged, .acq]
  | .pretriggerFull => regsOf [.acq] ++ [.now]
  | .triggerAccept _ _ => regsOf [.eth, .cnt, .asn, .acq] ++ [.cnt, .slice, .acq, .eth]
  | .acqForce _ => acqControlParts
  | .recordLastSample _ => regsOf [.cnt, .asn, .acq] ++ [.now, .staged, .cnt, .slice, .acq, .recordMem]
  | .recordOverflow => regsOf [.cnt, .asn, .acq] ++ [.staged, .cnt, .acq, .recordMem]
  | .recordComplete => regsOf [.cnt, .brst, .host, .acq] ++ [.brst, .cnt, .acq, .host, .recordHeaders]
  | .acqStop _ => acqControlParts
  | .acqAbort _ => acqControlParts
  | .acqRelease _ _ => regsOf [.acq] ++ [.staged, .acq, .flt]
  | .heldItemAccept => regsOf [.cnt, .brst, .ascan, .acq] ++ [.sq, .gln, .brst, .cnt, .scan, .acq]
  | .timeNowRead => [.time, .rdata]
  | .stepRequest _ => regsOf [.time, .eth, .cnt, .host] ++ [.staged, .cnt, .host, .eth, .time, .flt]
  | .stepApply => regsOf [.time, .eth, .cnt] ++ [.now, .aml, .amlOseq, .cnt, .eth, .time]
  | .offsetSubmit _ _ =>
    regsOf [.time, .eth, .cnt, .host] ++ [.staged, .aml, .amlOseq, .cnt, .host, .eth, .time, .flt]
  | .adjWrite _ _ => regsOf [.time, .eth, .cnt, .host] ++ [.staged, .aml, .amlOseq, .cnt, .host, .eth, .time, .flt]
  | .holdRequest _ => regsOf [.time, .eth, .cnt, .host] ++ [.staged, .cnt, .host, .eth, .time, .flt]
  | .watchdogExpire => regsOf [.time, .eth, .cnt, .host] ++ [.cnt, .host, .eth, .time]
  | .sharedAdjApply => regsOf [.time] ++ [.now, .time]
  | .frameReceive _ _ _ _ => regsOf [.eth, .cnt, .host] ++ [.now, .cnt, .bwc, .host, .localMem, .hostMem]
  | .frameTransmit _ _ _ => regsOf [.eth, .cnt, .host] ++ [.now, .cnt, .bwc, .host, .eth, .localMem, .hostMem]
  | .ethLinkChange _ _ => regsOf [.eth]
  | .datagramSend _ => regsOf [.eth, .cnt] ++ [.now, .cnt, .eth, .free]
  | .convProcedure _ => procedureParts
  | .levelProcedure _ => procedureParts
  | .cmpProcedure _ => procedureParts
  | .impProcedure _ => procedureParts
  | .deskewProcedure _ => procedureParts
  | .loopCalibration _ => procedureParts
  | .mcskewProcedure _ => procedureParts
  | .eyeProcedure _ => procedureParts
  | .syszProcedure _ => procedureParts
  | .sysfProcedure _ => procedureParts
  | .unitCommit _ => regsOf [.clk, .cnt, .winn, .asn, .ascan, .sq, .sh] ++ [.aml, .amlOseq, .cnt, .winn]
  | .procedureEnd => regsOf [.winn, .host] ++ [.pageOps, .winn, .host]
  | .winnAbort _ => procedureParts
  | .autoLoop => regsOf [.cnt, .winn] ++ [.cnt, .winn]
  | .imgload _ => imageParts
  | .flashload _ => imageParts
  | .imgsave _ => imageParts
  | .flashsave _ => imageParts
  | .imageOperationDone _ _ => allRegs ++ [.winn, .host, .flash, .hostMem]
  | .nextWord _ _ _ _ _ _ => microParts
  | .branchMicroword _ _ _ _ _ _ => microParts
  | .cbranchMicroword _ _ _ _ _ _ => microParts
  | .microCall _ _ _ _ _ _ => microParts
  | .ccallMicroword _ _ _ _ _ _ => microParts
  | .microRet _ _ _ _ _ _ => microParts
  | .dispatchMicroword _ _ _ _ _ _ _ => microParts
  | .microEnd _ _ _ _ _ _ => microParts
  | .microwordWaitEnd _ _ _ _ _ _ _ => regsOf [.ucode] ++ [.now, .micro, .flt]
  | .brewerRun _ _ _ => regsOf [.cnt, .brst, .bw] ++ [.staged, .brst, .cnt, .bwc, .flt]
  | .brewerHold _ _ _ => regsOf [.cnt, .brst, .bw] ++ [.staged, .brst, .cnt, .bwc, .flt]
  | .brewerInstruction _ _ => coreParts
  | .machineTimerInterrupt _ => regsOf [.cnt, .bw] ++ [.now, .brst, .cnt, .bwc]
  | .baristaTake _ _ => coreParts
  | .baristaTry _ _ => coreParts
  | .baristaDone _ _ => coreParts
  | .baristaSub _ _ => coreParts
  | .baristaCancel _ _ => coreParts
  | .brstSubgo _ => regsOf [.cnt, .brst] ++ [.staged, .brst, .cnt, .flt]
  | .brstCancel _ _ => regsOf [.cnt, .brst] ++ [.staged, .brst, .cnt, .flt]
  | .itemDispatch => regsOf [.cnt, .brst, .bw] ++ [.brst, .cnt, .bwc, .localMem]
  | .completionReport => regsOf [.brst, .host] ++ [.brst, .host, .hostMem]
  | .dispatchTimeout => regsOf [.cnt, .brst] ++ [.now, .brst, .cnt, .flt]
  | .bwDoor _ _ _ => regsOf [.cnt, .bw] ++ [.staged, .brst, .cnt, .bwc, .flt]
  | .peakClear _ => regsOf [.brst] ++ [.staged, .flt]
  | .histogramClear _ => regsOf [.brst] ++ [.staged, .flt]
  | .loadWindowEnd => regsOf [.brst] ++ [.now, .brst]
  | .cntLRead _ => regsOf [.cnt] ++ [.cnt, .free, .rdata]
  | .counterWrite _ _ _ _ _ => regsOf [.cnt] ++ [.cnt, .free]
  | .counterClearAll _ _ => regsOf [.cnt] ++ [.staged, .cnt, .flt]
  | .snapshotDemand _ => regsOf [.cnt] ++ [.staged, .cnt, .flt]
  | .snapshotInstant => regsOf [.cnt] ++ [.now, .cnt, .free]
  | .dumpComplete _ => regsOf [.flt, .cnt, .host, .dc] ++ [.cnt, .host, .flt, .free, .dram, .hostMem]
  | .ddrRequest _ => regsOf [.cnt, .dc] ++ [.cnt, .ddrReplies, .flt, .free, .dram]
  | .ddrAlert _ _ _ => regsOf [.dc] ++ [.flt, .free, .dram]
  | .ddrUnfreeze _ _ => regsOf [.cnt, .ucode, .dc] ++ [.staged, .cnt, .dc, .micro, .flt]
  | .refreshTick _ => regsOf [.cnt, .dc] ++ [.cnt]
  | .refreshSet _ _ => regsOf [.cnt, .dc] ++ [.cnt]
  | .mr4Read _ _ => regsOf [.dc] ++ [.dc, .flt]
  | .selfRefreshEntry _ _ => regsOf [.cnt, .ucode, .dc] ++ [.staged, .cnt, .dc, .micro, .flt]
  | .srexit _ _ _ _ => regsOf [.cnt, .ucode, .dc] ++ [.staged, .cnt, .dc, .micro, .flt]
  | .ddrTrain _ _ => regsOf [.cnt, .dc] ++ [.cnt, .dc, .flt]
  | .ddrRetrain _ _ => regsOf [.dc]
  | .zqcal _ _ => [.dc]
  | .ddrCfgWrite _ _ => regsOf [.ddr] ++ [.staged, .flt]
  | .dcCfgWrite _ _ _ => regsOf [.dc] ++ [.staged, .flt]
  | .qdrTrain _ _ _ => regsOf [.qdr] ++ [.staged, .flt]
  | .bar4Access _ _ _ _ => regsOf [.cnt, .host, .dc] ++ [.cnt, .ddrReplies, .flt, .free, .dram]
  | .conventionalReset => regsOf [.host] ++ [.host]
  | .functionLevelReset => regsOf [.host] ++ [.host]
  | .abiSelect _ _ => regsOf [.host] ++ [.staged, .flt]
  | .ringEnable _ _ _ => regsOf [.host] ++ [.staged, .host, .flt, .free]
  | .commandFetch _ _ => regsOf [.host] ++ [.host, .free]
  | .nopCommand _ => [.host]
  | .dmaCommand _ _ =>
    regsOf [.cnt, .dc, .gran, .gln] ++ [.cnt, .bwc, .host, .flt, .free, .granary, .granaryErrors, .dictionaries,
      .localMem, .dram, .hostMem]
  | .regwrCommand _ => registerParts
  | .bsubCommand _ => regsOf [.cnt, .brst] ++ [.brst, .cnt, .host]
  | .bcancelCommand _ => regsOf [.cnt, .brst] ++ [.brst, .cnt, .host]
  | .progloadCommand _ _ =>
    regsOf [.cnt, .gran, .gln] ++ [.cnt, .bwc, .host, .flt, .granary, .granaryErrors, .dictionaries, .localMem]
  | .multiSiteStart _ => siteControlParts
  | .commandCompletion _ => regsOf [.host] ++ [.host, .free, .hostMem]
  | .amlTrain _ _ => regsOf [.cnt, .host, .aml] ++ [.aml, .cnt, .host]
  | .amlRetrain _ _ => regsOf [.host, .aml] ++ [.staged, .aml, .host, .flt]
  | .amlTrainRetry _ => regsOf [.host, .aml] ++ [.aml, .host]
  | .amlLinkDown _ _ _ =>
    regsOf [.clk, .time, .eth, .cnt, .brst, .host, .aml, .sq, .hop] ++ [.now, .ch, .clk, .sq, .hop, .aml, .amlOseq,
      .brst, .cnt, .acq, .winn, .host, .eth, .time]
  | .capxFlit _ _ _ _ _ _ => regsOf [.clk, .host, .aml] ++ [.clk, .sq, .host, .time]
  | .ackFlit _ _ _ => regsOf [.cnt, .host, .aml] ++ [.aml, .cnt, .host, .flt]
  | .idleFlit _ _ _ => regsOf [.cnt, .host, .aml] ++ [.aml, .cnt, .host, .flt]
  | .syncmFlit _ _ _ => regsOf [.cnt, .host, .aml] ++ [.aml, .amlSeen, .cnt, .host, .flt]
  | .trigFlit _ _ _ _ => regsOf [.clk, .cnt, .host, .aml] ++ [.clk, .aml, .amlSeen, .cnt, .host, .flt]
  | .flagFlit _ _ _ _ _ _ => regsOf [.clk, .cnt, .host, .aml] ++ [.clk, .aml, .amlSeen, .cnt, .host, .flt]
  | .rdvFlit _ _ _ _ _ => regsOf [.clk, .cnt, .host, .aml] ++ [.clk, .sq, .aml, .amlSeen, .cnt, .host, .flt]
  | .spanFlit _ _ _ _ _ =>
    regsOf [.mode, .clk, .silo, .eth, .cnt, .brst, .ucode, .host, .aml, .ascan, .sq, .hop, .gln, .sh] ++ [.now,
      .staged, .ch, .clk, .sq, .hop, .aml, .amlOseq, .amlSeen, .gln, .brst, .cnt, .scan, .acq, .micro, .host, .eth,
      .flt]
  | .timeFlit _ _ _ _ =>
    regsOf [.time, .eth, .cnt, .host, .aml] ++ [.now, .aml, .amlSeen, .cnt, .host, .eth, .time, .flt]
  | .calFlit _ _ _ => regsOf [.cnt, .host, .aml] ++ [.aml, .amlSeen, .cnt, .winn, .host, .flt]
  | .faultSourceAssert _ => collectorParts
  | .wireFault _ _ => collectorParts
  | .shadowWindowEnd _ => collectorParts
  | .faultSourceClear _ _ => regsOf [.clk, .flt, .silo] ++ [.flt]
  | .quietPeriodEnd _ _ =>
    allRegs ++ [.now, .staged, .pageOps, .ch, .clk, .sq, .hop, .aml, .amlOseq, .gln, .brst, .cnt, .scan, .acq, .dc,
      .micro, .bwc, .winn, .tap, .mgmt, .host, .eth, .time, .flt, .safety, .granaryErrors]
  | .lockClear _ _ => regsOf [.flt] ++ [.staged, .flt]
  | .faultInjection _ _ => collectorParts
  | .injectionEnd => regsOf [.flt] ++ [.now, .flt, .safety]
  | .siloArm _ => collectorParts
  | .siloArmExpire => regsOf [.silo] ++ [.now, .safety]
  | .siloForce _ _ => safeStateParts
  | .safeN _ => collectorParts
  | .groupCurrentLimit _ _ => collectorParts
  | .thermalWarning _ => collectorParts
  | .thermalCritical _ => collectorParts
  | .lockstepMismatch => collectorParts
  | .supplyOutOfWindow => collectorParts
  | .pllUnlock _ => collectorParts
  | .idleRequest _ => modeParts
  | .standbyRequest _ => modeParts
  | .calRequest _ => modeParts
  | .factoryRequest _ => modeParts
  | .offRequest _ => modeParts
  | .restartRequest _ _ _ =>
    allRegs ++ [.now, .staged, .pageOps, .ch, .sh, .cg, .clk, .sq, .hop, .results, .aml, .amlOseq, .amlSeen, .gln,
      .brst, .cnt, .scan, .slice, .acq, .dc, .ddrReplies, .micro, .bwc, .winn, .tap, .mgmt, .keys, .host, .eth, .time,
      .flt, .safety, .free, .granary, .granaryErrors, .dictionaries, .capture, .recordMem, .recordHeaders, .localMem,
      .dram]
  | .powerRequest _ _ _ => regsOf [.pwr] ++ [.mgmt]
  | .powerUpComplete =>
    allRegs ++ [.staged, .pageOps, .sq, .hop, .aml, .brst, .cnt, .acq, .dc, .bwc, .winn, .tap, .mgmt, .host, .eth,
      .time, .flt, .safety]
  | .powerDownComplete _ =>
    regsOf [.mode, .clk, .pwr, .flt, .time, .eth, .cnt, .brst, .ucode, .host, .bw, .dc, .qdr, .asn, .ascan, .acq,
      .sq, .hop, .gln, .sh] ++ [.staged, .ch, .sh, .clk, .sq, .hop, .aml, .amlOseq, .gln, .brst, .cnt, .scan, .slice,
      .acq, .dc, .micro, .bwc, .winn, .tap, .mgmt, .host, .eth, .time, .flt, .safety, .free, .granary, .granaryErrors,
      .capture, .recordMem, .recordHeaders, .localMem, .dram]
  | .sealDevice _ _ =>
    regsOf [.sec, .dbg] ++ [.staged, .hop, .mgmt, .keys, .flt, .granary, .granaryErrors, .dictionaries]
  | .zeroise _ => regsOf [.sec, .dbg] ++ [.staged, .hop, .mgmt, .keys, .flt, .granary, .granaryErrors, .dictionaries]
  | .zeroisationDone => regsOf [.sec, .dbg] ++ [.mgmt]
  | .keyLoad _ => regsOf [.sec] ++ [.staged, .keys, .flt]
  | .debugLevelRequest _ _ => regsOf [.dbg] ++ [.staged, .flt]
  | .tokenSubmit _ _ => regsOf [.dbg] ++ [.staged, .mgmt, .flt, .free]
  | .tokenVerified => regsOf [.sec, .dbg] ++ [.hop, .mgmt, .keys, .granary, .granaryErrors, .dictionaries]
  | .entdaa _ => [.mgmt]
  | .i3cSetOffset _ => [.mgmt]
  | .i3cWrite _ _ => registerParts
  | .i3cRead => allRegs ++ [.gln, .cnt, .time, .free, .rdata]
  | .bypass => tapParts
  | .idcode => tapParts
  | .samplePreload _ _ => tapParts
  | .extest _ => tapParts
  | .powerOnResetRelease _ _ => bootParts
  | .vddaonLoss =>
    allRegs ++ [.staged, .pageOps, .ch, .sh, .cg, .clk, .sq, .hop, .results, .aml, .amlOseq, .amlSeen, .gln, .brst,
      .cnt, .scan, .slice, .acq, .dc, .ddrReplies, .micro, .bwc, .winn, .tap, .mgmt, .keys, .host, .eth, .time, .flt,
      .safety, .granary, .granaryErrors, .dictionaries, .capture, .recordMem, .recordHeaders, .localMem, .dram]
  | .refclkDetect _ => bootParts
  | .bootEnd _ =>
    regsOf [.dev, .mode, .clk, .flt, .silo, .eth, .cnt, .brst, .ucode, .winn, .host, .ascan, .sq, .hop, .gln, .sh]
      ++ [.now, .staged, .pageOps, .ch, .clk, .sq, .hop, .aml, .amlOseq, .gln, .brst, .cnt, .scan, .acq, .micro,
      .winn, .tap, .mgmt, .host, .eth, .flt, .safety]
  | .trigInEdge _ _ _ => regsOf [.eth, .cnt] ++ [.now, .clk, .sq, .aml, .amlOseq, .cnt, .scan, .acq, .eth, .free]
  | .trigOutPulseEnd _ => [.now, .clk]
  | .pcieLinkChange _ _ => regsOf [.host] ++ [.host]
  | .busMasterEnableWrite _ => [.host]
  | .flitCrcError _ => regsOf [.cnt] ++ [.aml, .cnt]
  | .debugModuleRequest _ _ => coreParts

end Sys2Proof.Machine
end

