-- ==== Sys2Proof/WellFormed.lean ====
section
/-! DEFINITION. Which commands the outside can send: the checks on operands that no rule of the block judges. A command
that is not well-formed is no event of the hardware; its meaning is still total. -/

namespace Sys2Proof

open Sys2Proof.Machine

/-- The page is one of the device's (R581). -/
def Page.ok (p : Page) : Bool := decide (p.inst < pageCount p.kind)

/-- An access of 4 or 8 bytes at its own alignment (R5, R8). -/
def accessOk (a len : Nat) : Bool := (len = 4 || len = 8) && a % len = 0

/-- A request stays in its burst (R443). -/
def DdrReq.ok (q : DdrReq) : Bool :=
  match q.write with
  | some bs => !bs.isEmpty && decide (q.addr.toNat % 64 + bs.length ≤ 64)
  | none => true

/-- The measurements are of one unit, with every edge of it. -/
def UnitMeas.ok : UnitMeas → Bool
  | .conv ms _ => !ms.isEmpty && decide (ms.length ≤ 4)
  | .deskew _ _ edges _ => edges.length = 6
  | .loop _ markers => !markers.isEmpty
  | .level .. | .cmp .. | .imp .. | .mcskew .. | .eye .. | .sysz .. | .sysf .. => true

/-- A vector number has 48 bits, a program address 24, a cause 8 (R159). -/
def SpanMsg.ok : SpanMsg → Bool
  | .fail vec => decide (vec < 2 ^ 48)
  | .hjump target => decide (target < 2 ^ 24)
  | .ended cause => decide (cause < 2 ^ 8)
  | .part | .gone | .ready | .pause | .resume | .safe | .release => true

/-- What a BOOT finds of the ten control ROMs and the four subchannels. -/
def BootFindings.ok (b : BootFindings) : Bool := b.sigs.length = 10 && b.train.length = 4 && b.srexit.length = 4

/-- The pages that a command names. -/
def Instr.pages : Instr → List Page
  | .pageCommitGo _ p => [p]
  | .commitApply p => [p]
  | .pageCommitDrop _ p => [p]
  | .pageReset _ p => [p]
  | .pageResetRelease p => [p]
  | .pageEnableWrite _ p _ => [p]
  | .pagePowerRequest _ p _ => [p]
  | .pageFltlClear _ p _ _ => [p]
  | .registerWrite .. | .rcRead .. | .countLowRead .. | .overcurrentTrip .. | .ocConditionClear ..
  | .outOfRangeTrip .. | .oorConditionClear .. | .pmuCtlWrite .. | .pmuClampWrite .. | .openPinCheckStart ..
  | .opcSettleElapsed .. | .opcSamplingEnd .. | .vectorStart .. | .edgeEvent .. | .clockGeneratorStart ..
  | .clockGeneratorStop .. | .cgPhaseReset .. | .syncDetected .. | .syncLost | .syncGeneratorStart ..
  | .syncGeneratorStop .. | .syncPulseGenerate | .sqCtlStart .. | .launch .. | .sqCtlPause .. | .pauseApply ..
  | .sqCtlResume .. | .resumeApply .. | .sqCtlAbort .. | .sqCtlHtrig .. | .sqHjmpWrite .. | .hjumpApply ..
  | .segmentBoundary .. | .segWord .. | .loopWord .. | .endlWord .. | .callWord .. | .retWord .. | .jmpWord ..
  | .jfWord .. | .jpWord .. | .jflWord .. | .matchWord .. | .waittWord .. | .rdvWord .. | .markWord ..
  | .flagWord .. | .tsetWord .. | .stopWord .. | .illegalOpcode .. | .drain .. | .waitResume ..
  | .waittTimeout .. | .rdvTimeout .. | .rendezvousRelease .. | .rendezvousStall | .shSiteWrite ..
  | .siteFlagSet .. | .siteFlagClear .. | .sharedFlagApply | .atPulse .. | .atLineApply | .hopperFetch ..
  | .hopperDataArrival .. | .baleCheck .. | .hostProducerWrite .. | .endToken .. | .litToken .. | .repToken ..
  | .dictToken .. | .xorToken .. | .reservedToken .. | .bar2Write .. | .compareResultArrival | .underrunMark
  | .recordWrite | .recordExport | .datalogConsumerWrite .. | .gleanerCountClear .. | .bitmapUpdate
  | .qdrAddressParityError .. | .bitmapReadoutStart .. | .bitmapReadoutDone | .scanStart .. | .scanPeriodStart
  | .scanTriggerStart | .scanGroupStart | .abusSwitchClose .. | .scanResultQueue .. | .scanQueueCopy
  | .scanAbort .. | .referenceSelect .. | .referenceSettled | .extReferenceFallback | .singleRunStart ..
  | .singleRunStop .. | .singleBlockWrite .. | .urgentRequest .. | .urgentResult .. | .acqArm .. | .armInstant
  | .pretriggerFull | .triggerAccept .. | .acqForce .. | .recordLastSample .. | .recordOverflow
  | .recordComplete | .acqStop .. | .acqAbort .. | .acqRelease .. | .heldItemAccept | .timeNowRead
  | .stepRequest .. | .stepApply | .offsetSubmit .. | .adjWrite .. | .holdRequest .. | .watchdogExpire
  | .sharedAdjApply | .frameReceive .. | .frameTransmit .. | .ethLinkChange .. | .datagramSend ..
  | .convProcedure .. | .levelProcedure .. | .cmpProcedure .. | .impProcedure .. | .deskewProcedure ..
  | .loopCalibration .. | .mcskewProcedure .. | .eyeProcedure .. | .syszProcedure .. | .sysfProcedure ..
  | .unitCommit .. | .procedureEnd | .winnAbort .. | .autoLoop | .imgload .. | .flashload .. | .imgsave ..
  | .flashsave .. | .imageOperationDone .. | .nextWord .. | .branchMicroword .. | .cbranchMicroword ..
  | .microCall .. | .ccallMicroword .. | .microRet .. | .dispatchMicroword .. | .microEnd ..
  | .microwordWaitEnd .. | .brewerRun .. | .brewerHold .. | .brewerInstruction .. | .machineTimerInterrupt ..
  | .baristaTake .. | .baristaTry .. | .baristaDone .. | .baristaSub .. | .baristaCancel .. | .brstSubgo ..
  | .brstCancel .. | .itemDispatch | .completionReport | .dispatchTimeout | .bwDoor .. | .peakClear ..
  | .histogramClear .. | .loadWindowEnd | .cntLRead .. | .counterWrite .. | .counterClearAll ..
  | .snapshotDemand .. | .snapshotInstant | .dumpComplete .. | .ddrRequest .. | .ddrAlert .. | .ddrUnfreeze ..
  | .refreshTick .. | .refreshSet .. | .mr4Read .. | .selfRefreshEntry .. | .srexit .. | .ddrTrain ..
  | .ddrRetrain .. | .zqcal .. | .ddrCfgWrite .. | .dcCfgWrite .. | .qdrTrain .. | .bar4Access ..
  | .conventionalReset | .functionLevelReset | .abiSelect .. | .ringEnable .. | .commandFetch ..
  | .nopCommand .. | .dmaCommand .. | .regwrCommand .. | .bsubCommand .. | .bcancelCommand ..
  | .progloadCommand .. | .multiSiteStart .. | .commandCompletion .. | .amlTrain .. | .amlRetrain ..
  | .amlTrainRetry .. | .amlLinkDown .. | .capxFlit .. | .ackFlit .. | .idleFlit .. | .syncmFlit ..
  | .trigFlit .. | .flagFlit .. | .rdvFlit .. | .spanFlit .. | .timeFlit .. | .calFlit ..
  | .faultSourceAssert .. | .wireFault .. | .shadowWindowEnd .. | .faultSourceClear .. | .quietPeriodEnd ..
  | .lockClear .. | .faultInjection .. | .injectionEnd | .siloArm .. | .siloArmExpire | .siloForce ..
  | .safeN .. | .groupCurrentLimit .. | .thermalWarning .. | .thermalCritical .. | .lockstepMismatch
  | .supplyOutOfWindow | .pllUnlock .. | .idleRequest .. | .standbyRequest .. | .calRequest ..
  | .factoryRequest .. | .offRequest .. | .restartRequest .. | .powerRequest .. | .powerUpComplete
  | .powerDownComplete .. | .sealDevice .. | .zeroise .. | .zeroisationDone | .keyLoad ..
  | .debugLevelRequest .. | .tokenSubmit .. | .tokenVerified | .entdaa .. | .i3cSetOffset .. | .i3cWrite ..
  | .i3cRead | .bypass | .idcode | .samplePreload .. | .extest .. | .powerOnResetRelease .. | .vddaonLoss
  | .refclkDetect .. | .bootEnd .. | .trigInEdge .. | .trigOutPulseEnd .. | .pcieLinkChange ..
  | .busMasterEnableWrite .. | .flitCrcError .. | .debugModuleRequest .. => []

/-- The command is well-formed. -/
def Instr.wf : Instr → Bool
  | .registerWrite _ a len v => accessOk a.toNat len && (len = 8 || decide (v.toNat < 2 ^ 32))
  | .rcRead _ a len => accessOk a.toNat len
  | .pageCommitGo _ p => p.ok
  | .commitApply p => p.ok
  | .pageCommitDrop _ p => p.ok
  | .pageReset _ p => p.ok
  | .pageResetRelease p => p.ok
  | .pageEnableWrite _ p _ => p.ok
  | .pagePowerRequest _ p _ => p.ok
  | .pageFltlClear _ p a b => p.ok && (a || b)
  | .opcSamplingEnd _ samples => samples.length = 8
  | .hopperDataArrival _ data _ => decide (data.length ≤ 512)
  | .bar2Write a bytes => !bytes.isEmpty && decide (a.toNat + bytes.length ≤ 2 ^ 26)
  | .scanResultQueue raw => !raw.isEmpty
  | .singleBlockWrite _ raw => !raw.isEmpty
  | .urgentResult _ raw => !raw.isEmpty
  | .frameReceive _ _ frame _ => !frame.isEmpty
  | .frameTransmit _ _ slot => slot.length = 2048
  | .unitCommit m => m.ok
  | .microwordWaitEnd _ _ _ cycles _ _ _ => decide (cycles ≤ 2 ^ 18)
  | .counterClearAll _ coll => decide coll.Nodup
  | .ddrRequest reqs => !reqs.isEmpty && reqs.all DdrReq.ok
  | .mr4Read _ ranks => ranks.length = 1 || ranks.length = 2
  | .srexit _ _ ranks _ => ranks.length = 1 || ranks.length = 2
  | .ddrTrain _ t => t.nodev || t.limit || t.lanes.length = 40 || t.lanes.length = 80
  | .ddrRetrain _ delays => delays.length = 40 || delays.length = 80
  | .bar4Access _ len data _ =>
    match data with | some bs => bs.length = len && decide (0 < len) | none => decide (0 < len)
  | .dmaCommand _ units => match units with | some us => decide (us.length ≤ 64) | none => true
  | .spanFlit _ _ _ m _ => m.ok
  | .faultSourceAssert slots => !slots.isEmpty && decide slots.Nodup
  | .thermalWarning temps => temps.length = 4
  | .thermalCritical temps => temps.length = 4
  | .restartRequest _ _ b => b.ok
  | .powerOnResetRelease _ b => b.ok
  | .trigInEdge _ _ width => decide (0 < width)
  | .countLowRead .. | .overcurrentTrip .. | .ocConditionClear .. | .outOfRangeTrip .. | .oorConditionClear ..
  | .pmuCtlWrite .. | .pmuClampWrite .. | .openPinCheckStart .. | .opcSettleElapsed .. | .vectorStart ..
  | .edgeEvent .. | .clockGeneratorStart .. | .clockGeneratorStop .. | .cgPhaseReset .. | .syncDetected ..
  | .syncLost | .syncGeneratorStart .. | .syncGeneratorStop .. | .syncPulseGenerate | .sqCtlStart ..
  | .launch .. | .sqCtlPause .. | .pauseApply .. | .sqCtlResume .. | .resumeApply .. | .sqCtlAbort ..
  | .sqCtlHtrig .. | .sqHjmpWrite .. | .hjumpApply .. | .segmentBoundary .. | .segWord .. | .loopWord ..
  | .endlWord .. | .callWord .. | .retWord .. | .jmpWord .. | .jfWord .. | .jpWord .. | .jflWord ..
  | .matchWord .. | .waittWord .. | .rdvWord .. | .markWord .. | .flagWord .. | .tsetWord .. | .stopWord ..
  | .illegalOpcode .. | .drain .. | .waitResume .. | .waittTimeout .. | .rdvTimeout .. | .rendezvousRelease ..
  | .rendezvousStall | .shSiteWrite .. | .siteFlagSet .. | .siteFlagClear .. | .sharedFlagApply | .atPulse ..
  | .atLineApply | .hopperFetch .. | .baleCheck .. | .hostProducerWrite .. | .endToken .. | .litToken ..
  | .repToken .. | .dictToken .. | .xorToken .. | .reservedToken .. | .compareResultArrival | .underrunMark
  | .recordWrite | .recordExport | .datalogConsumerWrite .. | .gleanerCountClear .. | .bitmapUpdate
  | .qdrAddressParityError .. | .bitmapReadoutStart .. | .bitmapReadoutDone | .scanStart .. | .scanPeriodStart
  | .scanTriggerStart | .scanGroupStart | .abusSwitchClose .. | .scanQueueCopy | .scanAbort ..
  | .referenceSelect .. | .referenceSettled | .extReferenceFallback | .singleRunStart .. | .singleRunStop ..
  | .urgentRequest .. | .acqArm .. | .armInstant | .pretriggerFull | .triggerAccept .. | .acqForce ..
  | .recordLastSample .. | .recordOverflow | .recordComplete | .acqStop .. | .acqAbort .. | .acqRelease ..
  | .heldItemAccept | .timeNowRead | .stepRequest .. | .stepApply | .offsetSubmit .. | .adjWrite ..
  | .holdRequest .. | .watchdogExpire | .sharedAdjApply | .ethLinkChange .. | .datagramSend ..
  | .convProcedure .. | .levelProcedure .. | .cmpProcedure .. | .impProcedure .. | .deskewProcedure ..
  | .loopCalibration .. | .mcskewProcedure .. | .eyeProcedure .. | .syszProcedure .. | .sysfProcedure ..
  | .procedureEnd | .winnAbort .. | .autoLoop | .imgload .. | .flashload .. | .imgsave .. | .flashsave ..
  | .imageOperationDone .. | .nextWord .. | .branchMicroword .. | .cbranchMicroword .. | .microCall ..
  | .ccallMicroword .. | .microRet .. | .dispatchMicroword .. | .microEnd .. | .brewerRun .. | .brewerHold ..
  | .brewerInstruction .. | .machineTimerInterrupt .. | .baristaTake .. | .baristaTry .. | .baristaDone ..
  | .baristaSub .. | .baristaCancel .. | .brstSubgo .. | .brstCancel .. | .itemDispatch | .completionReport
  | .dispatchTimeout | .bwDoor .. | .peakClear .. | .histogramClear .. | .loadWindowEnd | .cntLRead ..
  | .counterWrite .. | .snapshotDemand .. | .snapshotInstant | .dumpComplete .. | .ddrAlert .. | .ddrUnfreeze ..
  | .refreshTick .. | .refreshSet .. | .selfRefreshEntry .. | .zqcal .. | .ddrCfgWrite .. | .dcCfgWrite ..
  | .qdrTrain .. | .conventionalReset | .functionLevelReset | .abiSelect .. | .ringEnable .. | .commandFetch ..
  | .nopCommand .. | .regwrCommand .. | .bsubCommand .. | .bcancelCommand .. | .progloadCommand ..
  | .multiSiteStart .. | .commandCompletion .. | .amlTrain .. | .amlRetrain .. | .amlTrainRetry ..
  | .amlLinkDown .. | .capxFlit .. | .ackFlit .. | .idleFlit .. | .syncmFlit .. | .trigFlit .. | .flagFlit ..
  | .rdvFlit .. | .timeFlit .. | .calFlit .. | .wireFault .. | .shadowWindowEnd .. | .faultSourceClear ..
  | .quietPeriodEnd .. | .lockClear .. | .faultInjection .. | .injectionEnd | .siloArm .. | .siloArmExpire
  | .siloForce .. | .safeN .. | .groupCurrentLimit .. | .lockstepMismatch | .supplyOutOfWindow | .pllUnlock ..
  | .idleRequest .. | .standbyRequest .. | .calRequest .. | .factoryRequest .. | .offRequest ..
  | .powerRequest .. | .powerUpComplete | .powerDownComplete .. | .sealDevice .. | .zeroise ..
  | .zeroisationDone | .keyLoad .. | .debugLevelRequest .. | .tokenSubmit .. | .tokenVerified | .entdaa ..
  | .i3cSetOffset .. | .i3cWrite .. | .i3cRead | .bypass | .idcode | .samplePreload .. | .extest ..
  | .vddaonLoss | .refclkDetect .. | .bootEnd .. | .trigOutPulseEnd .. | .pcieLinkChange ..
  | .busMasterEnableWrite .. | .flitCrcError .. | .debugModuleRequest .. => true

end Sys2Proof
end

