-- ==== Sys2Proof/Safety.lean ====
section
/-! DEFINITION. What claims speak of: the form of the stores, which registers differ, and when a register write acts. -/

namespace Sys2Proof.Machine

open Reg

/-- Every memory is in its canonical form: addresses strictly rise, and no listed byte or word reads 0. -/
def Mems.wf (m : Mems) : Bool :=
  tabWf 0#8 m.gran && tabWf 0 m.granErr && tabWf 0#8 m.dict && tabWf 0#8 m.cap && tabWf 0#8 m.record
    && tabWf 0#8 m.recHdr && tabWf 0#8 m.bw && tabWf 0#8 m.ddr && tabWf 0 m.qdr && tabWf 0#8 m.flash && tabWf 0#8 m.host

/-- The register fields and the pending copies are listed once each in rising order, and the memories are canonical. -/
def State.storesWf (s : State) : Bool := tabRising 0 s.regs && tabRising 0 s.staged && s.mem.wf

/-- A requester's write of a word to the register at an offset of a page takes effect: the page and the requester admit
it, and no field of the register gets a reserved value (R9, R10, R22, R23). -/
def WriteActs (s : State) (r : Requester) (p : Page) (off word : Nat) : Prop :=
  s.admits r p (decide (off < 0x40)) = true ∧ s.writeReserved p (fieldsAt p.kind off) word = false

/-- Every register field whose key is not listed is as it was. -/
def RegsKept (s t : State) (ks : List Nat) : Prop := ∀ k, k ∉ ks → tabFind t.regs k = tabFind s.regs k

/-- Nothing changed but register fields whose keys are listed. -/
def OnlyRegs (s t : State) (ks : List Nat) : Prop := { t with regs := s.regs } = s ∧ RegsKept s t ks

/-- The keys of the fields of the register at an offset of a page. -/
def regKeys (p : Page) (off : Nat) : List Nat := (fieldsAt p.kind off).map fun fa => fieldKey p fa.f fa.i fa.j

/-- The fields of the register at an offset begin at different bits, as in every register of the map. -/
def fieldsApart (k : PKind) (off : Nat) : Prop := ((fieldsAt k off).map fun fa => fa.f.lo).Nodup

/-- The write was discarded with WERR: that bit of the page is set, and nothing else differs. -/
def Discarded (s t : State) (p : Page) : Prop := t = s.wr p PAGE_STAT_WERR 1

/-- The record of a sequencer once its next word is decoded, before the word acts. -/
def State.decodedSq (s : State) (n : Nat) : SqOp :=
  let o := s.sqo n
  { o with clusters := setBit o.clusters (s.granBank (s.progAddr n o.pc / 4) / 4) true, atBoundary := false, jumped := false }

/-- A word of site n was decoded and the burst goes on: SQ_PC shows the word, and beside registers, counts and the record of
the sequencer nothing has changed; of the registers at most SQ_PC, the Granary's count of corrected errors, and the overflow
bits of the counts of words and of Granary reads. -/
def WordKeeps (s t : State) (n : Nat) : Prop :=
  { t with regs := s.regs, sq := s.sq, cnt := s.cnt } = s ∧ (∀ m, m ≠ n → t.sqo m = s.sqo m)
    ∧ t.rd (pSq n) SQ_PC_ADDR = (s.sqo n).pc % 2 ^ 24
    ∧ RegsKept s t [fieldKey (pSq n) SQ_PC_ADDR 0 0, fieldKey pCnt CNT_OVF_OVF ((8 * n + 4) / 32) 0,
        fieldKey pCnt CNT_OVF_OVF 30 0, fieldKey pGran GRAN_CECNT_CNT 0 0]

/-- A word ended the burst of site n with a cause, at the start of its next vector. -/
def BurstEnds (s t : State) (n cause : Nat) : Prop :=
  t.sqState n = stEnding ∧ t.rd (pSq n) SQ_CAUSE_CAUSE = cause ∧ t.rd (pSq n) SQ_CAUSE_ALSO = 0
    ∧ (t.sqo n).endAt = (s.sqo n).next ∧ (t.sqo n).seg = none ∧ (t.sqo n).wait = none ∧ (t.sqo n).loops = []
    ∧ (t.sqo n).calls = [] ∧ t.rd (pSq n) SQ_PC_ADDR = (s.sqo n).pc % 2 ^ 24

/-! ### Brewer cores and the Barista -/

/-- BWn executes the instruction at its pc next, without clocks lost before it: `o` of `len` bytes, encoded as `enc`. -/
def State.bwAt (s : State) (n : Nat) (x : BrewerExt) (o : RvOp) (len enc : Nat) : Prop :=
  let c := s.core n
  let half := fun a => memNat s.mem.bw (n * 0x40000 + a) 2
  s.coreRuns n = true ∧ c.halted = false ∧ c.haltReq = false ∧ c.stall = .none ∧ bitAt c.dcsr 2 = false
    ∧ s.bwInterrupt n = none ∧ x.wasted = 0 ∧ x.front = 0 ∧ x.back = 0 ∧ x.fetch = .ok ∧ s.mayFetch n c.pc = true
    ∧ ((half c.pc % 4 ≠ 3 ∧ o = decode16 (half c.pc) ∧ len = 2 ∧ enc = half c.pc)
      ∨ (half c.pc % 4 = 3 ∧ s.mayFetch n (c.pc + 2) = true ∧ len = 4 ∧ enc = half c.pc + half (c.pc + 2) * 65536
        ∧ o = decode32 enc))

/-- An instruction of BWn retired in one clock, and execution goes on at `pc`. -/
def Retired (s t : State) (n pc : Nat) : Prop :=
  (t.core n).pc = pc ∧ (t.core n).t = (s.core n).t + 2048 ∧ t.now = max s.now ((s.core n).t + 2048)
    ∧ t.counter (0x200 + 8 * n) = (s.counter (0x200 + 8 * n) + 1) % 2 ^ 48
    ∧ t.counter (0x204 + 8 * n) = (s.counter (0x204 + 8 * n) + 1) % 2 ^ 48

/-- Of the registers of BWn only x_rd changed, to `v`; x0 stays 0. -/
def XSet (s t : State) (n rd v : Nat) : Prop :=
  ∀ i, (t.core n).get i = if i = rd ∧ rd ≠ 0 then v % 2 ^ 32 else (s.core n).get i

/-- The item of entry e completed with a code: its completion waits for the ring, or the entry is free. -/
def Completed (s t : State) (e : Nat) (en : Entry) (code brewer : Nat) : Prop :=
  if s.reported en.item then
    tabFind t.brst.entries e = some { en with st := .reporting code brewer (shortTime (s.stampAt t.now)) }
      ∧ t.brst.reports = s.brst.reports ++ [e]
  else tabFind t.brst.entries e = none ∧ t.brst.reports = s.brst.reports

/-- What a submission of 32 bytes by a source leads to, with its result (R415). -/
def Submitted (s t : State) (src : Nat) (bs : List Byte) (res : Nat) : Prop :=
  let it := itemOf src bs
  let room := s.freeEntry.isSome && decide (s.levelCount it.pl < s.rd pBrst BRST_LIM_LIMIT it.pl)
  (s.brstUp = false → res = 0 ∧ t.brst = s.brst)
  ∧ (s.brstUp = true → badItem bs = true → res = 3 ∧ t.brst = s.brst)
  ∧ (s.brstUp = true → badItem bs = false → room = false → res = 2 ∧ t.brst = s.brst)
  ∧ (s.brstUp = true → badItem bs = false → room = true → res = 1 ∧ ∃ e en, s.freeEntry = some e
      ∧ tabFind t.brst.entries e = some en ∧ en.item = it ∧ en.st = .queued ∧ en.order = s.brst.order
      ∧ ∀ k, k ≠ e → tabFind t.brst.entries k = tabFind s.brst.entries k)

/-- What a cancel of a token by a source leads to, with its result (R416). -/
def Cancelled (s t : State) (src token res : Nat) : Prop :=
  let mine := s.brst.entries.filter fun e => e.2.item.src = src && e.2.item.token = token
  let queued := mine.filter fun e => e.2.st = .queued
  let given := mine.any fun e => match e.2.st with | .dispatched _ _ => true | _ => false
  (s.brstUp = false → res = 0 ∧ t.brst = s.brst)
  ∧ (s.brstUp = true → queued = [] → res = (if given then 2 else 3) ∧ t.brst = s.brst)
  ∧ (s.brstUp = true → queued ≠ [] → res = 1
      ∧ ∃ x ∈ queued, (∀ y ∈ queued, x.2.order ≤ y.2.order) ∧ Completed s t x.1 x.2 0x80 0xFF)

/-- A register outside the header whose writes act by the access types and classes of its fields alone: no row of the
command table, and no action of its own, belongs to it. -/
def plainRegister (k : PKind) (off : Nat) : Bool :=
  decide (0x40 ≤ off) &&
  match k with
  | .sh => off ≠ 0x50 && off ≠ 0x80 && !decide (0x100 ≤ off ∧ off < 0x300 ∧ (off % 0x40 = 0x18 ∨ off % 0x40 = 0x20))
      && !isCal ⟨.sh, 0⟩ off
  | .sq => off ≠ 0x40 && off ≠ 0x5C
  | .clk => off ≠ 0x40 && !decide (0x108 ≤ off ∧ off < 0x118) && !decide (0x140 ≤ off ∧ off < 0x1C0) && off ≠ 0x1C8
      && !decide (0x200 ≤ off ∧ off < 0x300 ∧ off % 0x20 = 0) && !decide (0x300 ≤ off ∧ off < 0x400)
  | .gln => off ≠ 0x70 && off ≠ 0x90 && !decide (0x100 ≤ off ∧ off < 0x900 ∧ off % 0x40 = 0x3C)
  | .hop => !decide (0x100 ≤ off ∧ off % 0x80 = 0x1C)
  | .time => off ≠ 0x40 && off ≠ 0x44 && off ≠ 0x68 && off ≠ 0x74 && off ≠ 0x78
  | .ascan => off ≠ 0x40 && off ≠ 0x80 && !isCal ⟨.ascan, 0⟩ off
  | .asn => off ≠ 0x44 && off ≠ 0x80 && off ≠ 0x90 && !isCal ⟨.asn, 0⟩ off
  | .acq => off ≠ 0x40 && off ≠ 0x78
  | .ddr => off ≠ 0x40
  | .qdr => off ≠ 0x44
  | .cnt => off ≠ 0x40 && off ≠ 0x44 && !decide (0x1000 ≤ off ∧ off < 0x3000)
  | .bw => off ≠ 0x40 && off ≠ 0x54 && off ≠ 0x58 && off ≠ 0x5C
  | .brst => off ≠ 0x44 && off ≠ 0x80 && off ≠ 0x88
  | .eth => off ≠ 0x40 && off ≠ 0xC0
  | .aml => off ≠ 0x40 && off ≠ 0x44
  | .winn => off ≠ 0x40 && off ≠ 0x100 && !isCal ⟨.winn, 0⟩ off
  | .flt => off ≠ 0x48 && !decide (0x80 ≤ off ∧ off < 0xA0) && !decide (0x1000 ≤ off ∧ off < 0x2000 ∧ off % 16 = 8)
  | .pwr => off ≠ 0x40 && off ≠ 0x44 && off ≠ 0x48
  | .sec => off ≠ 0x44 && !decide (0x80 ≤ off ∧ off < 0xCC)
  | .dbg => off ≠ 0x44 && !decide (0x100 ≤ off ∧ off < 0x164)
  | .host => off ≠ 0x48 && off ≠ 0x58 && off ≠ 0x5C && !decide (0x200 ≤ off ∧ off < 0x400 ∧ (off % 0x40 = 0 ∨ off % 0x40 = 0x28))
      && !decide (0x1000 ≤ off ∧ off < 0x1400)
  | .silo | .mode | .dc => false
  | .dev | .gran | .grnd | .ucode => true

/-- A register whose reads return its value and clear its read-clears fields, and have no other effect than to use up a
shadow of the Gleaner. -/
def plainRead (k : PKind) (off : Nat) : Bool :=
  match k with
  | .sh => !decide (0x100 ≤ off ∧ off < 0x300 ∧ off % 0x40 = 0x24)
  | .gln => (glnCountAt off).isNone
  | .cnt => !decide (0x1000 ≤ off ∧ off < 0x3000)
  | .time => off ≠ 0x4C
  | .host => !decide (0x1000 ≤ off ∧ off < 0x1400) && !decide (0x1800 ≤ off ∧ off < 0x1808)
  | _ => true

end Sys2Proof.Machine
end

