-- ==== Sys2Proof/Certificates/Slice0/Obligations.lean ====
section
/-! DEFINITION. The statements for the provers: what the commands do, what they leave as it was, and the invariants. -/

open Sys2Proof Sys2Proof.Machine Sys2Proof.Machine.Reg

/-- A step runs the command at the front of the queue on the state that holds the queue's rest; no word spells a
command. The queue, and the bit errors that strike while a cycle passes, are the model's own (assumption log entry 1).
-/
def Obligations.StepRunsTheFrontCommand : Prop :=
  ((∀ (c : Instr) (rest : List Instr) (s : State), s.pending = c :: rest → step s = exec c { s with pending := rest })
   ∧ ∀ s : State, s.pending = [] → ∃ t q, step s = .next t ∧ t.now = s.now + 1024 ∧ t.free = s.free + 1
       ∧ { t with now := s.now, free := s.free, mem := { t.mem with granErr := s.mem.granErr } } = s
       ∧ (∀ k, k ≠ q → tabFind t.mem.granErr k = tabFind s.mem.granErr k)
       ∧ (t.mem ≠ s.mem → tabGet 0 t.mem.granErr q = 1 ∨ tabGet 0 t.mem.granErr q = 2))
  ∧ (∀ (s : State) (nbits w : Nat), decodeTableWord nbits w = none ∧ s.withFetchWord nbits w = s)

/-- Every command answers a next state, in every state and for every operand. -/
def Obligations.NoCommandStops : Prop :=
  ∀ (c : Instr) (s : State), ∃ t, exec c s = .next t

/-- Every step keeps the canonical form of the register file, the pending copies and the eleven memories. The canonical
form is the model's (DESIGN CHOICE, assumption log entry 2): addresses strictly rise and no listed byte or word reads 0.
-/
def Obligations.EveryStepKeepsTheStores : Prop :=
  ∀ s t : State, s.storesWf = true → step s = .next t → t.storesWf = true

/-- After reset the stores are canonical, nothing waits, and the registers hold their reset values. The canonical form
is the model's (assumption log entry 2); the values are the register tables'. -/
def Obligations.ResetState : Prop :=
  let s := State.reset
  s.storesWf = true ∧ s.pending = [] ∧ s.staged = []
  ∧ s.mode = 1 ∧ s.rd pDev DEV_BOOT_STEP = 0 ∧ (∀ d < 80, s.domainOn d = false ∧ s.requested d = true)
  ∧ s.rd pSec SEC_LIFE_STATE = 0 ∧ s.rd pSec SEC_KSTAT_LOADED = 0 ∧ (∀ n < 32, s.rd (pSq n) SQ_STAT_STATE = 0)
  ∧ (∀ g < 8, s.rd pSilo SILO_ILIM_LIMIT g = 100)
  ∧ s.sevOf 0 = 1 ∧ s.sevOf 40 = 2 ∧ s.sevOf 114 = 3 ∧ s.sevOf 117 = 3 ∧ s.sevOf 76 = 0

/-- A command changes no part of the state but those listed for it, and never the queue. `changes`
(Machine/Changes.lean) names for each command the parts it may change; register fields are divided by the kind of their
page. -/
def Obligations.CommandsChangeOnlyTheirParts : Prop :=
  (∀ (c : Instr) (s t : State), exec c s = .next t → ∀ q : Part, q ∉ changes c → q.same s t)
  ∧ ∀ c : Instr, Part.pending ∉ changes c

/-- No step unblows the lifecycle fuse, and none takes the instant back. The instant counts grains of 1/1024 field
cycle; that event commands bring it forward is the model's (assumption log entry 3). -/
def Obligations.FuseAndTimeNeverGoBack : Prop :=
  (∀ s t : State, s.mgmt.sealed = true → step s = .next t → t.mgmt.sealed = true)
  ∧ (∀ s t : State, step s = .next t → s.now ≤ t.now)

/-- A register write takes effect by the access type and class of each field. REGISTER_WRITE on the registers that no
other row of the table writes; the low bits that address fields hold at 0 are R6's and the register pages'. -/
def Obligations.RegisterWriteByClass : Prop :=
  ∀ (r : Requester) (a : BitVec 26) (v : BitVec 64) (p : Page) (s : State),
    pageOf a.toNat = some p → a.toNat % 4 = 0 →
    let off := a.toNat - pageBase p
    let word := v.toNat % 2 ^ 32
    plainRegister p.kind off = true → fieldsApart p.kind off → WriteActs s r p off word →
    ∃ t, exec (.registerWrite r a 4 v) s = .next t
      ∧ RegsKept s t (fieldKey p PAGE_STAT_WERR 0 0 :: regKeys p off)
      ∧ ∀ fa ∈ fieldsAt p.kind off,
        let bits := bitsAt word fa.f.lo fa.f.width
        let was := s.rd p fa.f fa.i fa.j
        match fa.f.acc, fa.f.cls with
        | .rw, .quiet =>
          if s.quietBusy p fa then t.rd p fa.f fa.i fa.j = was
            ∧ (mixedRegister (fieldsAt p.kind off) = false ∨ bits ≠ was → t.rd p PAGE_STAT_WERR = 1)
          else t.rd p fa.f fa.i fa.j = bits / 2 ^ lowZero p.kind fa.f * 2 ^ lowZero p.kind fa.f
        | .rw, .staged => t.rd p fa.f fa.i fa.j = was ∧ tabFind t.staged (fieldKey p fa.f fa.i fa.j) = some bits
        | .rw, _ => t.rd p fa.f fa.i fa.j = bits / 2 ^ lowZero p.kind fa.f * 2 ^ lowZero p.kind fa.f
        | .w1c, _ => t.rd p fa.f fa.i fa.j = (was &&& (2 ^ fa.f.width - 1 - bits)) % 2 ^ fa.f.width
        | _, _ => t.rd p fa.f fa.i fa.j = was

/-- A register write that is not admitted, holds a reserved value or has a wrong length is discarded and sets WERR. R9
and R22 for the registers that no other row writes; a reserved offset ignores the write, and a write that is neither 4
bytes at a multiple of 4 nor 8 at a multiple of 8 is discarded (R582). -/
def Obligations.RegisterWriteDiscarded : Prop :=
  (∀ (r : Requester) (a : BitVec 26) (v : BitVec 64) (p : Page) (s : State),
    pageOf a.toNat = some p → a.toNat % 4 = 0 →
    let off := a.toNat - pageBase p
    plainRegister p.kind off = true →
    (fieldsAt p.kind off ≠ [] → ¬ WriteActs s r p off (v.toNat % 2 ^ 32) →
      ∃ t, exec (.registerWrite r a 4 v) s = .next t ∧ Discarded s t p)
    ∧ (fieldsAt p.kind off = [] → exec (.registerWrite r a 4 v) s = .next s))
  ∧ (∀ (r : Requester) (a : BitVec 26) (v : BitVec 64) (s : State),
      pageOf a.toNat = none → a.toNat % 4 = 0 → exec (.registerWrite r a 4 v) s = .next s)
  ∧ ∀ (r : Requester) (a : BitVec 26) (len : Nat) (v : BitVec 64) (p : Page) (s : State),
      pageOf a.toNat = some p → ¬ (len = 4 ∧ a.toNat % 4 = 0) → ¬ (len = 8 ∧ a.toNat % 8 = 0) →
      ∃ t, exec (.registerWrite r a len v) s = .next t ∧ Discarded s t p

/-- A register read returns the register's value and clears its read-clears fields. RC_READ on the registers whose reads
have no other effect, and the reads that return a count of the Gleaner or a counter (COUNT_LOW_READ, CNT_L_READ) or the
time (TIME_NOW_READ) with their shadows. -/
def Obligations.RegisterReadReturnsAndClears : Prop :=
  (∀ (r : Requester) (a : BitVec 26) (p : Page) (s : State),
    pageOf a.toNat = some p → a.toNat % 4 = 0 →
    let off := a.toNat - pageBase p
    plainRead p.kind off = true → fieldsApart p.kind off →
    ∃ t, exec (.rcRead r a 4) s = .next t
      ∧ (s.mayRead r p = false → t = { s with rdata := 0 })
      ∧ (s.mayRead r p = true →
          t.rdata = s.readReg p off % 2 ^ 32
          ∧ { t with rdata := s.rdata, regs := s.regs, gln := { t.gln with shadow := s.gln.shadow } } = s
          ∧ RegsKept s t (regKeys p off)
          ∧ ((s.pageState p ≠ 4 ∨ r = .jtag ∧ s.rd pDbg DBG_LEVEL_LEVEL < 2) → t.regs = s.regs)
          ∧ (s.pageState p = 4 → ¬ (r = .jtag ∧ s.rd pDbg DBG_LEVEL_LEVEL < 2) → ∀ fa ∈ fieldsAt p.kind off,
              t.rd p fa.f fa.i fa.j = if fa.f.acc = .rc then 0 else s.rd p fa.f fa.i fa.j)))
  ∧ (∀ (r : Requester) (k : Fin 40) (i : Fin 8) (s : State), s.mayRead r (pSh k) = true → s.pageState (pSh k) = 4 →
      ∃ t, exec (.rcRead r (BitVec.ofNat 26 (pageBase (pSh k) + 0x124 + 0x40 * i)) 4) s = .next t ∧ t.free = s.free + 3
        ∧ bitAt t.rdata 0 = s.bit (pSh k) CH_STAT_OC i ∧ bitAt t.rdata 1 = s.bit (pSh k) CH_STAT_OOR i
        ∧ bitAt t.rdata 3 = t.bit (pSh k) CH_STAT_CLAMP i ∧ bitAt t.rdata 8 = s.chanSafe (8 * k + i)
        ∧ RegsKept s t [fieldKey (pSh k) CH_STAT_CLAMP i 0])
  ∧ (∀ (ch : Fin 320) (s : State), s.pageState pGln = 4 →
      ∃ t, exec (.countLowRead (.fc ch)) s = .next t
        ∧ t.rdata = s.counter (0x400 + ch) % 2 ^ 32
        ∧ t.view pGln GLN_FCH_FC ch 0 = s.counter (0x400 + ch) / 2 ^ 32 ∧ t.regs = s.regs ∧ t.cnt = s.cnt)
  ∧ (∀ (n : Fin 32) (s : State), s.pageState pGln = 4 →
      (∃ t, exec (.countLowRead (.sfv n)) s = .next t
        ∧ t.rdata = s.counter (0x540 + n) % 2 ^ 32
        ∧ t.view pGln GLN_SFVH_SFV n 0 = s.counter (0x540 + n) / 2 ^ 32 ∧ t.regs = s.regs ∧ t.cnt = s.cnt)
      ∧ ∃ t, exec (.countLowRead (.scv n)) s = .next t
        ∧ t.rdata = s.counter (0x560 + n) % 2 ^ 32
        ∧ t.view pGln GLN_SCVH_SCV n 0 = s.counter (0x560 + n) / 2 ^ 32 ∧ t.regs = s.regs ∧ t.cnt = s.cnt)
  ∧ (∀ (id : Fin 1024) (s : State),
      (s.pageState pCnt = 4 → ∃ t, exec (.cntLRead id) s = .next t
        ∧ t.rdata = (s.accrue id).counter id % 2 ^ 32 ∧ t.view pCnt CNT_H_VAL id 0 = (s.accrue id).counter id / 2 ^ 32
        ∧ t.regs = (s.accrue id).regs ∧ t.cnt.vals = (s.accrue id).cnt.vals
        ∧ (countsOutside id = false → t.rdata = s.counter id % 2 ^ 32 ∧ t.regs = s.regs ∧ t.cnt.vals = s.cnt.vals))
      ∧ (s.pageState pCnt ≠ 4 → exec (.cntLRead id) s = .next { s with rdata := 0 }))
  ∧ ∀ s : State,
      (s.pageState pTime = 4 → ∃ t, exec .timeNowRead s = .next t
        ∧ t.rdata = s.stampAt (s.now / fcG * fcG) % 2 ^ 32
        ∧ t.time = { s.time with shadow := s.stampAt (s.now / fcG * fcG) / 2 ^ 32 } ∧ t.regs = s.regs)
      ∧ (s.pageState pTime ≠ 4 → exec .timeNowRead s = .next { s with rdata := 0 })

/-- A register write that holds a reserved value of a field is discarded as a whole and sets WERR. For every register of
every page and every requester; a value that the model would have drawn for such a write is drawn all the same. -/
def Obligations.ReservedValuesAreDiscarded : Prop :=
  ∀ (r : Requester) (a : BitVec 26) (v : BitVec 64) (p : Page) (s : State),
    pageOf a.toNat = some p → a.toNat % 4 = 0 →
    s.writeReserved p (fieldsAt p.kind (a.toNat - pageBase p)) (v.toNat % 2 ^ 32) = true →
    ∃ t, exec (.registerWrite r a 4 v) s = .next t ∧ t.rd p PAGE_STAT_WERR = 1
      ∧ RegsKept s t [fieldKey p PAGE_STAT_WERR 0 0] ∧ { t with regs := s.regs, free := s.free } = s

/-- GO makes every pending copy of an idle page active together, waits on a page that runs, and DROP discards the
copies. PAGE_COMMIT_GO, COMMIT_APPLY and PAGE_COMMIT_DROP; on the CLK page a GO makes the generators with pending copies
wait for their boundaries, and on the HOP page the copies apply per site. -/
def Obligations.CommitsOfStagedFields : Prop :=
  (∀ (r : Requester) (p : Page) (s : State), p.ok = true → capCommit p.kind = true → p.kind ≠ .clk → p.kind ≠ .hop →
    tabRising 0 s.staged = true →
    (s.admits r p true = true → s.commitIdle p = true →
      ∃ t, exec (.pageCommitGo r p) s = .next t ∧ t.rd p PAGE_COMMIT_PEND = 0
        ∧ (∀ k v fa, tabFind s.staged k = some v → keyInPage p k = true → fieldAtKey p k = some fa →
            fa.f.cls = .staged → t.rd p fa.f fa.i fa.j = v % 2 ^ fa.f.width ∧ tabFind t.staged k = none)
        ∧ ∀ k, keyInPage p k = false → tabFind t.staged k = tabFind s.staged k)
    ∧ (s.admits r p true = true → s.commitIdle p = false →
        exec (.pageCommitGo r p) s = .next (s.wr p PAGE_COMMIT_PEND 1))
    ∧ (s.commitIdle p = true → s.bit p PAGE_COMMIT_PEND = true →
      ∃ t, exec (.commitApply p) s = .next t ∧ t.rd p PAGE_COMMIT_PEND = 0
        ∧ (∀ k v fa, tabFind s.staged k = some v → keyInPage p k = true → fieldAtKey p k = some fa →
            fa.f.cls = .staged → t.rd p fa.f fa.i fa.j = v % 2 ^ fa.f.width ∧ tabFind t.staged k = none)
        ∧ ∀ k, keyInPage p k = false → tabFind t.staged k = tabFind s.staged k)
    ∧ (s.commitIdle p = false ∨ s.bit p PAGE_COMMIT_PEND = false → exec (.commitApply p) s = .next s))
  ∧ (∀ (r : Requester) (p : Page) (s : State), p.ok = true → capCommit p.kind = true → p.kind ≠ .clk →
      s.admits r p true = true →
      ∃ t, exec (.pageCommitDrop r p) s = .next t ∧ t.rd p PAGE_COMMIT_PEND = 0
        ∧ (∀ k, tabFind t.staged k = if keyInPage p k then none else tabFind s.staged k)
        ∧ RegsKept s t [fieldKey p PAGE_COMMIT_PEND 0 0])
  ∧ (∀ (r : Requester) (s : State), s.admits r pHop true = true → tabRising 0 s.staged = true →
      ∃ t, exec (.pageCommitGo r pHop) s = .next t
        ∧ ∀ k v fa, tabFind s.staged k = some v → keyInPage pHop k = true → fieldAtKey pHop k = some fa → fa.f.cls = .staged →
            if s.siteBusy fa.i then tabFind t.staged k = some v ∧ t.rd pHop fa.f fa.i fa.j = s.rd pHop fa.f fa.i fa.j
            else tabFind t.staged k = none ∧ t.rd pHop fa.f fa.i fa.j = v % 2 ^ fa.f.width)
  ∧ (∀ (r : Requester) (s : State), s.admits r pClk true = true →
      ∃ t, exec (.pageCommitGo r pClk) s = .next t ∧ t.staged = s.staged ∧ t.rd pClk PAGE_COMMIT_PEND = 1
        ∧ ∀ n : Fin 8, s.cgStaged n = true → (t.cgo n).commit = true ∧ (t.cgo n).reqAt = s.now)
  ∧ ∀ (r : Requester) (p : Page) (s : State), p.ok = true →
      (s.admits r p true = false →
        (∃ t, exec (.pageCommitGo r p) s = .next t ∧ Discarded s t p)
        ∧ ∃ t, exec (.pageCommitDrop r p) s = .next t ∧ Discarded s t p)
      ∧ (s.admits r p true = true → capCommit p.kind = false →
        exec (.pageCommitGo r p) s = .next s ∧ exec (.pageCommitDrop r p) s = .next s)

/-- Resets, enables and power requests of a page act when its block may take them, and are discarded with WERR
otherwise. PAGE_RESET, PAGE_RESET_RELEASE, PAGE_ENABLE_WRITE, PAGE_POWER_REQUEST and PAGE_FLTL_CLEAR. -/
def Obligations.PageControl : Prop :=
  (∀ (r : Requester) (p : Page) (s : State), p.ok = true → capRst p.kind = true → s.admits r p true = true →
    (s.pageBusy p = false → s.pageState p = 4 ∨ s.pageState p = 1 →
      (∃ t, exec (.pageReset r p) s = .next t ∧ (t.pageo p).rst = true ∧ t.hasStaged p = false
        ∧ t.rd p PAGE_CTL_EN = s.rd p PAGE_CTL_EN)
      ∧ ∃ t, exec (.pageEnableWrite r p false) s = .next t ∧ t.rd p PAGE_CTL_EN = 0
        ∧ (s.bit p PAGE_CTL_EN = true → t.hasStaged p = false))
    ∧ (s.pageBusy p = true ∨ s.pageState p = 0 ∨ s.pageState p = 2 ∨ s.pageState p = 3 →
      (∃ t, exec (.pageReset r p) s = .next t ∧ Discarded s t p)
      ∧ ∃ t, exec (.pageEnableWrite r p false) s = .next t ∧ Discarded s t p))
  ∧ (∀ (p : Page) (s : State), p.ok = true →
      ((s.pageo p).rst = false → exec (.pageResetRelease p) s = .next s)
      ∧ ((s.pageo p).rst = true → ∃ t, exec (.pageResetRelease p) s = .next t ∧ (t.pageo p).rst = false
        ∧ (p.kind = .sh ∨ p.kind = .asn ∨ p.kind = .qdr ∨ p.kind = .eth ∨ p.kind = .winn → s.bit p PAGE_CTL_EN = true →
            (s.pageo p).iso = false → (∀ d ∈ pageDomains p, s.domainOn d = true) →
            ∀ k fa, fieldAtKey p k = some fa → keyInPage p k = true → pageBase p + 0x40 ≤ k / 256 →
              keepsOnReset p.kind fa.f = false → t.rd p fa.f fa.i fa.j = resetVal p fa.f fa.i % 2 ^ fa.f.width)))
  ∧ (∀ (r : Requester) (p : Page) (s : State), p.ok = true → capRst p.kind = true → s.admits r p true = true →
      ∃ t, exec (.pageEnableWrite r p true) s = .next t ∧ t.rd p PAGE_CTL_EN = 1)
  ∧ (∀ (r : Requester) (p : Page) (d : Nat) (s : State), p.ok = true → capPwr p.kind = true → pageDomains p = [d] →
      s.admits r p true = true → s.rd p PAGE_CTL_EN = 1 →
      (∃ t, exec (.pagePowerRequest r p true) s = .next t ∧ t.requested d = true)
      ∧ (s.requested d = true → s.offRefused d = false →
          ∃ t, exec (.pagePowerRequest r p false) s = .next t ∧ t.requested d = false)
      ∧ (s.requested d = true → s.offRefused d = true →
          ∃ t, exec (.pagePowerRequest r p false) s = .next t ∧ t.requested d = true))
  ∧ ∀ (r : Requester) (p : Page) (a b : Bool) (n : Nat) (s : State), p.ok = true → s.admits r p true = true → n < 256 →
      ∃ t, exec (.pageFltlClear r p a b) s = .next t
        ∧ bitAt (t.rd pFlt FLT_LATCH_LATCH (n / 32)) (n % 32) =
          (bitAt (s.rd pFlt FLT_LATCH_LATCH (n / 32)) (n % 32)
            && !((pageSources p).head? = some n && a) && !((pageSources p)[1]? = some n && b))

/-- Trips latch, assert the sheaf's error pair and ask for the safe state; the open-pin check settles, samples and
reports. OVERCURRENT_TRIP, OUT_OF_RANGE_TRIP and the clearing of their conditions. OPEN_PIN_CHECK_START,
OPC_SETTLE_ELAPSED and OPC_SAMPLING_END. -/
def Obligations.TripsAndOpenPins : Prop :=
  ((∀ (ch : Fin 320) (s : State), s.chanOff ch = false → s.chanSafe ch = false →
     ∃ t, exec (.overcurrentTrip ch) s = .next t
       ∧ t.rd (pSh (ch / 8)) CH_STAT_OC (ch % 8) = 1 ∧ (t.chan ch).ocLive = true ∧ (t.flto (ch / 8)).pair = true
       ∧ match s.siteOf ch with
         | some n => bitAt (t.rd pSilo SILO_SCAUSE_CAUSE n) 0 = true ∧ bitAt (t.rd pSilo SILO_SAFE_SAFE) n = true
         | none => bitAt (tabGet 0 t.safety.lone ch) 0 = true)
   ∧ (∀ (ch : Fin 320) (s : State), s.chanOff ch = false → s.bit (pSh (ch / 8)) SH_PROT_OOR_EN = true →
     ∃ t, exec (.outOfRangeTrip ch) s = .next t
       ∧ t.rd (pSh (ch / 8)) CH_STAT_OOR (ch % 8) = 1 ∧ (t.chan ch).oorLive = true ∧ (t.flto (ch / 8)).pair = true
       ∧ (s.bit (pSh (ch / 8)) SH_PROT_OOR_SAFE = true → match s.siteOf ch with
         | some n => bitAt (t.rd pSilo SILO_SCAUSE_CAUSE n) 1 = true ∧ bitAt (t.rd pSilo SILO_SAFE_SAFE) n = true
         | none => bitAt (tabGet 0 t.safety.lone ch) 1 = true)
       ∧ (s.bit (pSh (ch / 8)) SH_PROT_OOR_SAFE = false →
           t.safety = s.safety ∧ t.sq = s.sq ∧ RegsKept s t [fieldKey (pSh (ch / 8)) CH_STAT_OOR (ch % 8) 0]))
   ∧ (∀ (ch : Fin 320) (s : State), s.chanOff ch = true ∨ s.chanSafe ch = true → exec (.overcurrentTrip ch) s = .next s)
   ∧ (∀ (ch : Fin 320) (s : State), s.chanOff ch = true ∨ s.bit (pSh (ch / 8)) SH_PROT_OOR_EN = false →
       exec (.outOfRangeTrip ch) s = .next s)
   ∧ ∀ (ch : Fin 320) (s : State),
       (∃ t, exec (.ocConditionClear ch) s = .next t ∧ t.chan ch = { s.chan ch with ocLive := false } ∧ t.regs = s.regs
         ∧ (∀ d, d ≠ ch.val → t.chan d = s.chan d)
         ∧ (t.flto (ch / 8)).pair = (List.range 8).any fun i => (t.chan (8 * (ch / 8) + i)).ocLive || (t.chan (8 * (ch / 8) + i)).oorLive)
       ∧ ∃ t, exec (.oorConditionClear ch) s = .next t ∧ t.chan ch = { s.chan ch with oorLive := false } ∧ t.regs = s.regs
         ∧ (∀ d, d ≠ ch.val → t.chan d = s.chan d)
         ∧ (t.flto (ch / 8)).pair = (List.range 8).any fun i => (t.chan (8 * (ch / 8) + i)).ocLive || (t.chan (8 * (ch / 8) + i)).oorLive)
  ∧ ((∀ (r : Requester) (sh : Fin 40) (v : Word) (s : State), WriteActs s r (pSh sh) 0x50 v.toNat → bitAt v.toNat 0 = true →
       (s.pageBusy (pSh sh) = false → (tabGet {} s.sh sh).opc = none →
         ∃ t o, exec (.openPinCheckStart r sh v) s = .next t ∧ (tabGet {} t.sh sh).opc = some o
           ∧ o.second = false ∧ o.sampling = false ∧ o.tripped = 0 ∧ o.due = s.now + bitsAt v.toNat 16 8 * usG
           ∧ o.mask = mask8 (fun i => bitAt v.toNat (8 + i) && !s.chanOff (8 * sh + i) && !s.chanSafe (8 * sh + i))
           ∧ t.rd (pSh sh) SH_OPC_RES_DONE = 0 ∧ ∀ k, k ≠ sh.val → tabGet {} t.sh k = tabGet {} s.sh k)
       ∧ (s.pageBusy (pSh sh) = true ∨ (tabGet {} s.sh sh).opc ≠ none →
         ∃ t, exec (.openPinCheckStart r sh v) s = .next t ∧ t.rd (pSh sh) SH_OPC_CTL_REFUSED = 1 ∧ t.sh = s.sh))
     ∧ (∀ (sh : Fin 40) (o : Opc) (s : State), (tabGet {} s.sh sh).opc = some o → o.sampling = false →
         ∃ t, exec (.opcSettleElapsed sh) s = .next t ∧ t.now = max s.now o.due ∧ t.regs = s.regs
           ∧ (tabGet {} t.sh sh).opc = some { o with sampling := true, due := o.due + usG })
     ∧ (∀ (sh : Fin 40) (o : Opc) (samples : List (BitVec 8 × BitVec 8)) (s : State),
         (tabGet {} s.sh sh).opc = some o → o.sampling = true →
         (s.bit (pSh sh) SH_OPC_CTL_ADJ = false ∨ o.second = true →
           ∃ t, exec (.opcSamplingEnd sh samples) s = .next t ∧ t.now = max s.now o.due
             ∧ t.rd (pSh sh) SH_OPC_RES_DONE = 1 ∧ (tabGet {} t.sh sh).opc = none
             ∧ (∀ i : Fin 8, opcTested (s.bit (pSh sh) SH_OPC_CTL_ADJ) o.second i = true → bitAt o.mask i = true →
                 bitsAt (t.rd (pSh sh) SH_OPC_RES_RES) (3 * i) 3 =
                   if s.chanSafe (8 * sh + i) then 5
                   else if samples.all (fun x => !bitAt x.1.toNat i && !bitAt x.2.toNat i) then 1
                   else if samples.all fun x => bitAt x.1.toNat i then 2
                   else if samples.all fun x => bitAt x.2.toNat i then 3 else 4)
             ∧ RegsKept s t [fieldKey (pSh sh) SH_OPC_RES_RES 0 0, fieldKey (pSh sh) SH_OPC_RES_DONE 0 0])
         ∧ (s.bit (pSh sh) SH_OPC_CTL_ADJ = true → o.second = false →
           ∃ t, exec (.opcSamplingEnd sh samples) s = .next t ∧ t.rd (pSh sh) SH_OPC_RES_DONE = s.rd (pSh sh) SH_OPC_RES_DONE
             ∧ (tabGet {} t.sh sh).opc = some
                 { o with second := true, sampling := false, due := o.due + s.rd (pSh sh) SH_OPC_CTL_SETTLE * usG }))
     ∧ ∀ (sh : Fin 40) (samples : List (BitVec 8 × BitVec 8)) (s : State),
         ((tabGet {} s.sh sh).opc = none → exec (.opcSettleElapsed sh) s = .next s ∧ exec (.opcSamplingEnd sh samples) s = .next s)
         ∧ ∀ o, (tabGet {} s.sh sh).opc = some o →
           (o.sampling = true → exec (.opcSettleElapsed sh) s = .next s)
           ∧ (o.sampling = false → exec (.opcSamplingEnd sh samples) s = .next s))

/-- Writes of the force-and-measure unit and of a sheaf's routing take effect, and a forbidden one is discarded.
PMU_CTL_WRITE, PMU_CLAMP_WRITE and SH_SITE_WRITE. -/
def Obligations.ForceAndMeasureWrites : Prop :=
  (∀ (r : Requester) (ch : Fin 320) (v : Word) (s : State),
    let p := pSh (ch / 8)
    let i := ch.val % 8
    (WriteActs s r p (0x118 + i * 0x40) v.toNat → ∃ t, exec (.pmuCtlWrite r ch v) s = .next t
      ∧ t.rd p CH_PMU_CTL_MODE i = bitsAt v.toNat 0 2 ∧ t.rd p CH_PMU_CTL_RANGE i = bitsAt v.toNat 2 2
      ∧ t.rd p CH_PMU_CTL_CONNECT i = bitsAt v.toNat 4 1 ∧ t.rd p CH_PMU_CTL_ABUS_EN i = bitsAt v.toNat 5 1
      ∧ t.rd p CH_PMU_FORCE_FORCE i =
          (if bitsAt v.toNat 0 2 = s.rd p CH_PMU_CTL_MODE i then s.rd p CH_PMU_FORCE_FORCE i
           else if bitsAt v.toNat 0 2 = 1 then 2000 else 0)
      ∧ RegsKept s t ([CH_PMU_CTL_MODE, CH_PMU_CTL_RANGE, CH_PMU_CTL_CONNECT, CH_PMU_CTL_ABUS_EN, CH_PMU_FORCE_FORCE].map
          (fun f => fieldKey p f i 0) ++ (List.range 320).map fun c => fieldKey (pSh (c / 8)) CH_STAT_ABUSBLK (c % 8) 0))
    ∧ (¬ WriteActs s r p (0x118 + i * 0x40) v.toNat → ∃ t, exec (.pmuCtlWrite r ch v) s = .next t ∧ Discarded s t p)
    ∧ (s.admits r p false = true → bitsAt v.toNat 0 14 ≤ bitsAt v.toNat 16 14 → bitsAt v.toNat 16 14 ≤ 16000 →
        ∃ t, exec (.pmuClampWrite r ch v) s = .next t
          ∧ t.rd p CH_PMU_CLAMP_VCLL i = bitsAt v.toNat 0 14 ∧ t.rd p CH_PMU_CLAMP_VCLH i = bitsAt v.toNat 16 14
          ∧ RegsKept s t [fieldKey p CH_PMU_CLAMP_VCLL i 0, fieldKey p CH_PMU_CLAMP_VCLH i 0])
    ∧ (s.admits r p false = false ∨ bitsAt v.toNat 16 14 < bitsAt v.toNat 0 14 →
        ∃ t, exec (.pmuClampWrite r ch v) s = .next t ∧ Discarded s t p))
  ∧ ∀ (r : Requester) (sh : Fin 40) (v : Word) (s : State),
      (WriteActs s r (pSh sh) 0x80 v.toNat → s.siteWriteTouches sh v.toNat = false → s.pageBusy (pSh sh) = false →
        ∃ t, exec (.shSiteWrite r sh v) s = .next t
          ∧ (∀ k : Fin 8, t.siteOf (8 * sh + k) = routeOfWord v.toNat k)
          ∧ ∀ c, c / 8 ≠ sh.val → t.siteOf c = s.siteOf c)
      ∧ (¬ WriteActs s r (pSh sh) 0x80 v.toNat ∨ s.siteWriteTouches sh v.toNat = true →
        ∃ t, exec (.shSiteWrite r sh v) s = .next t ∧ Discarded s t (pSh sh))

/-- The next vector of a running site starts at its instant: a program vector, a keep-alive vector, or an underrun.
VECTOR_START where no boundary, host request or end of a wait comes first. -/
def Obligations.VectorStarts : Prop :=
  (∀ (n : Fin 32) (s : State), s.sqRunning n = true → s.boundaryDue n = false → s.held n = false →
    let o := s.sqo n
    (o.wait.isSome = true ∨ o.paused = true →
      ∃ t, exec (.vectorStart n) s = .next t ∧ t.rd (pSq n) SQ_STAT_KEEPING = 1
        ∧ t.sqState n = (if o.wait.isSome then stWait else stPaused)
        ∧ (t.sqo n).vec = o.vec + 1
        ∧ (t.sqo n).next = o.next + s.rd (pSq n) SQ_TPER_PER (if o.vec = 0 then 0 else o.lastTs)
        ∧ ∀ c, s.siteOf c ≠ some n.val → t.chan c = s.chan c)
    ∧ (∀ g, o.wait = none → o.paused = false → o.seg = some g → g.strm = false → s.vecAccess n (g.addr + g.pos) = .ok →
        let ts := (o.vectorTs (s.resCtrl n (g.addr + g.pos))).1
        ∃ t, exec (.vectorStart n) s = .next t ∧ t.sqState n = stRun ∧ t.rd (pSq n) SQ_STAT_KEEPING = 0
          ∧ (t.sqo n).seg = some { g with pos := g.pos + 1 } ∧ (t.sqo n).vec = o.vec + 1
          ∧ (t.sqo n).next = o.next + s.rd (pSq n) SQ_TPER_PER ts ∧ (t.sqo n).lastTs = ts
          ∧ ∀ c, s.siteOf c ≠ some n.val → t.chan c = s.chan c)
    ∧ (∀ g, o.wait = none → o.paused = false → o.seg = some g → g.strm = true → (s.hopo n).failed = none →
        s.baleAt n (s.hopPos n) = none → s.hostFed n = true ∨ s.hopPos n < s.rd pHop HOP_NBALE_NBALE n →
        ∃ t, exec (.vectorStart n) s = .next t
          ∧ (o.underSeen = false → t.rd pHop HOP_STAT_UNDER n = 1)
          ∧ (s.bit (pSq n) SQ_CFG_UPOL = true → t.sqState n = stEnding ∧ t.rd (pSq n) SQ_CAUSE_CAUSE = 0x06)
          ∧ (s.bit (pSq n) SQ_CFG_UPOL = false → t.rd (pSq n) SQ_STAT_KEEPING = 1 ∧ (t.sqo n).vec = o.vec + 1
              ∧ (t.sqo n).seg = some g)))
  ∧ ∀ (n : Fin 32) (s : State), s.sqRunning n = false → exec (.vectorStart n) s = .next s

/-- The first pending edge of a channel acts: a drive edge moves the driver, a strobe judges the pin. EDGE_EVENT. The
comparator bits that a strobe sees are the command's operand. -/
def Obligations.EdgesAct : Prop :=
  (∀ (ch : Fin 320) (e : Edge) (seen : List (Bool × Bool)) (s : State),
    firstEdge (s.chan ch).edges = some e → s.sqRunning e.site = true →
    ∃ t, exec (.edgeEvent ch seen) s = .next t ∧ t.now = max s.now e.t ∧ (t.chan ch).edges = (s.chan ch).edges.erase e
      ∧ (∀ c, c ≠ ch.val → t.chan c = s.chan c)
      ∧ (e.gen.strobe = false ∨ s.inSpan e.site = false → t.regs = s.regs)
      ∧ (e.gen.strobe = false → s.cgOf ch = none → t.results = s.results
          ∧ (e.gen = .d1 → (t.chan ch).drv = true)
          ∧ (e.gen = .d2 → (t.chan ch).lvl = driveLevel e.act ∧ (t.chan ch).drv = (s.chan ch).drv)
          ∧ (e.gen = .d3 → e.pair = .second → (t.chan ch).lvl = driveLevel e.act)
          ∧ (e.gen = .d4 → (t.chan ch).drv = false ∧ (t.chan ch).lvl = (s.chan ch).lvl))
      ∧ (e.gen.strobe = true → (t.chan ch).drv = (s.chan ch).drv ∧ (t.chan ch).lvl = (s.chan ch).lvl)
      ∧ (e.gen = .c1 → e.window = true → t.results = s.results)
      ∧ (e.gen = .c1 → e.window = false ∨ e.gen = .c2 →
          ∃ r : CmpResult, t.results = s.results ++ [r] ∧ r.ch = ch.val ∧ r.site = e.site ∧ r.vec = e.vec ∧ r.t = e.t
            ∧ r.exp = expectOf e.act))
  ∧ (∀ (ch : Fin 320) (e : Edge) (above below : Bool) (s : State),
      firstEdge (s.chan ch).edges = some e → s.sqRunning e.site = true → e.gen = .c1 → e.window = false →
      let on := !s.chanOff ch && s.bit (pSh (ch / 8)) CH_CTL_CMP_EN (ch % 8)
      let a := on && above
      let b := on && below
      ∃ t r, exec (.edgeEvent ch [(above, below)]) s = .next t ∧ t.results = s.results ++ [r] ∧ r.above = a ∧ r.below = b
        ∧ r.fail = !(match expectOf e.act with
          | 0 => !a && b
          | 1 => a && !b
          | 2 => !a && !b
          | _ => a != b))
  ∧ (∀ (ch : Fin 320) (e : Edge) (seen : List (Bool × Bool)) (s : State),
      firstEdge (s.chan ch).edges = some e → s.sqRunning e.site = true → e.gen = .c2 → e.window = true → seen ≠ [] →
      s.chanOff ch = false → s.bit (pSh (ch / 8)) CH_CTL_CMP_EN (ch % 8) = true →
      ∃ t r, exec (.edgeEvent ch seen) s = .next t ∧ t.results = s.results ++ [r]
        ∧ r.fail = seen.any fun x => !comparePasses (expectOf e.act) x.1 x.2)
  ∧ ∀ (ch : Fin 320) (seen : List (Bool × Bool)) (s : State), (s.chan ch).edges = [] → exec (.edgeEvent ch seen) s = .next s

/-- Clock generators start and stop, and SYNC pulses are placed, checked and generated. CLOCK_GENERATOR_START,
CLOCK_GENERATOR_STOP and CG_PHASE_RESET. SYNC_DETECTED, SYNC_LOST, SYNC_GENERATOR_START, SYNC_GENERATOR_STOP and
SYNC_PULSE_GENERATE. -/
def Obligations.ClocksAndSync : Prop :=
  ((∀ (r : Requester) (n : Fin 8) (v : Word) (s : State),
     (WriteActs s r pClk (0x200 + 0x20 * n) (setBit v.toNat 0 true) →
       ∃ t, exec (.clockGeneratorStart r n v) s = .next t ∧ t.rd pClk CG_CTL_EN n = 1
         ∧ (s.rd pClk CG_CTL_EN n = 0 → (t.cgo n).start = true ∧ (t.cgo n).reqAt = s.now)
         ∧ (s.rd pClk CG_CTL_EN n = 1 → t.cg = s.cg)
         ∧ ∀ m, m ≠ n.val → t.cgo m = s.cgo m)
     ∧ (WriteActs s r pClk (0x200 + 0x20 * n) (setBit v.toNat 0 false) →
       ∃ t, exec (.clockGeneratorStop r n v) s = .next t ∧ t.rd pClk CG_CTL_EN n = 0 ∧ t.rd pClk CG_STAT_RUN n = 0
         ∧ t.cgo n = { s.cgo n with start := false } ∧ ∀ m, m ≠ n.val → t.cgo m = s.cgo m))
   ∧ ∀ (n : Fin 8) (s : State),
     (s.cgBoundary n = none → exec (.cgPhaseReset n) s = .next s)
     ∧ ∀ b, s.cgBoundary n = some b →
       let per := s.pendingOf pClk CG_PER_VAL n
       let high := s.pendingOf pClk CG_HIGH_VAL n
       let phase := s.pendingOf pClk CG_PHASE_VAL n
       ∃ t, exec (.cgPhaseReset n) s = .next t ∧ t.now = max s.now b
         ∧ (t.cgo n).commit = false ∧ (t.cgo n).start = false ∧ t.rd pClk CG_STAT_PENDSYNC n = 0
         ∧ ((s.cgo n).start = true → t.rd pClk CG_STAT_RUN n = 1 ∧ (t.cgo n).base = b)
         ∧ ((s.cgo n).start = false → t.rd pClk CG_STAT_RUN n = s.rd pClk CG_STAT_RUN n)
         ∧ ((s.cgo n).commit = true → tabRising 0 s.staged = true →
             (1024 ≤ per ∧ 512 ≤ high ∧ high + 512 ≤ per ∧ phase < per →
               t.rd pClk CG_PER_VAL n = per % 2 ^ 32 ∧ t.rd pClk CG_HIGH_VAL n = high % 2 ^ 32
               ∧ t.rd pClk CG_PHASE_VAL n = phase % 2 ^ 32 ∧ (t.cgo n).base = b ∧ t.cgStaged n = false)
             ∧ (¬ (1024 ≤ per ∧ 512 ≤ high ∧ high + 512 ≤ per ∧ phase < per) →
               t.rd pClk CG_STAT_BADCFG n = 1 ∧ t.cgStaged n = false
               ∧ t.rd pClk CG_PER_VAL n = s.rd pClk CG_PER_VAL n ∧ t.rd pClk CG_HIGH_VAL n = s.rd pClk CG_HIGH_VAL n
               ∧ t.rd pClk CG_PHASE_VAL n = s.rd pClk CG_PHASE_VAL n)))
  ∧ ((∀ (k : Nat) (s : State), s.rd pClk SYNC_CTL_SRC = 0 →
       let x := k * (30 * 1024) + s.rd pClk SYNC_DLY_DLY
       ∃ t, exec (.syncDetected k) s = .next t ∧ s.now ≤ t.now ∧ t.rd pClk SYNC_CNT_CNT = (s.rd pClk SYNC_CNT_CNT + 1) % 2 ^ 32
         ∧ t.clk.lastSync = some x
         ∧ (∀ n w, n < 32 → (s.sqo n).wait = some w → w.kind = .sync → w.released = none →
             ((t.sqo n).wait.bind fun w => w.released) = some x)
         ∧ (s.rd pClk SYNC_CTL_CHK_EN = 1 → s.clk.chkSeen = true →
             s.clk.lastSync.map (· + s.rd pClk SYNC_PER_PER * (30 * 1024)) ≠ some x → t.rd pClk SYNC_STAT_IRREG = 1)
         ∧ (s.rd pClk SYNC_CTL_CHK_EN = 0 ∨ s.clk.chkSeen = false → t.rd pClk SYNC_STAT_IRREG = s.rd pClk SYNC_STAT_IRREG))
     ∧ (∀ (k : Nat) (s : State), s.rd pClk SYNC_CTL_SRC = 1 → exec (.syncDetected k) s = .next s)
     ∧ (∀ s : State,
         (s.rd pClk SYNC_CTL_CHK_EN = 1 → ∃ t, exec .syncLost s = .next t ∧ t.rd pClk SYNC_STAT_LOST = 1
           ∧ t.now = max s.now (max s.clk.chkFrom (s.clk.lastSync.getD 0) + 2 * (s.rd pClk SYNC_PER_PER * (30 * 1024)))
           ∧ RegsKept s t [fieldKey pClk SYNC_STAT_LOST 0 0] ∧ (t.flto 75).pair = true)
         ∧ (s.rd pClk SYNC_CTL_CHK_EN = 0 → exec .syncLost s = .next s))
     ∧ (∀ (r : Requester) (v : Word) (s : State), s.pageBusy pClk = false →
         (WriteActs s r pClk 0x40 (setBit v.toNat 2 true) → ∃ t, exec (.syncGeneratorStart r v) s = .next t
           ∧ t.rd pClk SYNC_CTL_GEN = 1 ∧ t.clk.genNext =
             if s.rd pClk SYNC_CTL_GEN = 1 then s.clk.genNext else some ((s.now / (30 * 1024) + 1) * (30 * 1024)))
         ∧ (WriteActs s r pClk 0x40 (setBit v.toNat 2 false) → ∃ t, exec (.syncGeneratorStop r v) s = .next t
           ∧ t.rd pClk SYNC_CTL_GEN = 0 ∧ t.clk.genNext = none))
     ∧ ∀ s : State,
         (s.clk.genNext = none → exec .syncPulseGenerate s = .next s)
         ∧ ∀ x, s.clk.genNext = some x → ∃ t, exec .syncPulseGenerate s = .next t
           ∧ t.clk.genNext = some (x + s.rd pClk SYNC_PER_PER * (30 * 1024)) ∧ s.now ≤ t.now ∧ x ≤ t.now
           ∧ (s.rd pClk SYNC_CTL_OUT_EN = 1 → t.clk.syncOutEnd = x + 3 * (30 * 1024))
           ∧ (s.rd pClk SYNC_CTL_SRC = 1 → t.clk.lastSync = some (x + s.rd pClk SYNC_DLY_DLY))
           ∧ (s.rd pClk SYNC_CTL_SRC = 0 → t.clk.lastSync = s.clk.lastSync ∧ t.regs = s.regs))

/-- A start arms an idle site or is refused, and an armed site is launched at its instant. SQ_CTL_START and LAUNCH. -/
def Obligations.SiteStarts : Prop :=
  (∀ (r : Requester) (n : Fin 32) (s : State), WriteActs s r (pSq n) 0x40 1 →
    (s.startRefused n = true → exec (.sqCtlStart r n) s = .next (s.wr (pSq n) SQ_STAT_SREF 1))
    ∧ (s.startRefused n = false → (∀ g, s.armedSeg n = some g → g.strm = false) →
      ∃ t, exec (.sqCtlStart r n) s = .next t ∧ t.sqState n = stArmed ∧ t.rd (pSq n) SQ_CAUSE_CAUSE = 0
        ∧ t.rd (pSq n) SQ_CAUSE_ALSO = 0 ∧ t.rd (pSq n) SQ_CAUSE_CODE = 0 ∧ t.rd (pSq n) SQ_CTL_HTRIG = 0
        ∧ t.sqo n = { held := (s.sqo n).held, acceptAt := s.now, pc := s.rd (pSq n) SQ_START_ADDR }
        ∧ ∀ m, m ≠ n.val → t.sqo m = s.sqo m))
  ∧ (∀ (n : Fin 32) (s : State), s.sqState n ≠ stArmed → exec (.launch n) s = .next s)
  ∧ ∀ (n : Fin 32) (s : State), s.sqState n = stArmed → s.dataReady n = true → s.inSpan n = false →
      let ready := (s.sqo n).acceptAt + 512 * 1024
      let start := fun d => if (s.firstSegOf n).2 then d + 8 * 1024 else d
      (∀ d, (s.rd (pSq n) SQ_CFG_STARTMODE = 0 ∧ d = fcCeil (max s.now ready)
          ∨ s.rd (pSq n) SQ_CFG_STARTMODE = 1 ∧ ∃ x, s.clk.lastSync = some x ∧ ready ≤ x ∧ d = fcCeil (max x s.now)) →
        ∃ t, exec (.launch n) s = .next t ∧ t.sqState n = stRun ∧ t.now = start d
          ∧ (t.sqo n).startAt = start d ∧ (t.sqo n).next = start d
          ∧ (∀ c, c < 320 → s.siteOf c = some n.val → (t.chan c).burst = true ∧ (t.chan c).edges = []
              ∧ (t.chan c).drv = decide (2 ≤ s.rd (pSh (c / 8)) CH_CTL_IDLE_DRV (c % 8))
              ∧ (t.chan c).lvl = decide (s.rd (pSh (c / 8)) CH_CTL_IDLE_DRV (c % 8) = 3))
          ∧ ∀ c, s.siteOf c ≠ some n.val → t.chan c = s.chan c)
      ∧ (s.rd (pSq n) SQ_CFG_STARTMODE = 1 → (∀ x, s.clk.lastSync = some x → x < ready) → exec (.launch n) s = .next s)

/-- Pause, resume, abort, host trigger and host jump are requests to a site, and each is taken or refused by its state.
SQ_CTL_PAUSE, SQ_CTL_RESUME, SQ_CTL_ABORT, SQ_CTL_HTRIG and SQ_HJMP_WRITE on a site that is no part of a span. -/
def Obligations.SiteRequests : Prop :=
  ∀ (r : Requester) (n : Fin 32) (v : Word) (s : State), s.inSpan n = false →
    let p := pSq n
    let o := s.sqo n
    (WriteActs s r p 0x40 2 →
      (s.sqRunning n = true → o.paused = false → o.pauseReq = none →
        ∃ t, exec (.sqCtlPause r n) s = .next t ∧ t.sqo n = { o with pauseReq := some s.now } ∧ t.regs = s.regs
          ∧ ∀ m, m ≠ n.val → t.sqo m = s.sqo m)
      ∧ (s.sqRunning n = false ∨ o.paused = true ∨ o.pauseReq ≠ none → exec (.sqCtlPause r n) s = .next s))
    ∧ (WriteActs s r p 0x40 4 →
      (o.paused = true → o.resumeReq = none →
        ∃ t, exec (.sqCtlResume r n) s = .next t ∧ t.sqo n = { o with resumeReq := some s.now } ∧ t.regs = s.regs
          ∧ ∀ m, m ≠ n.val → t.sqo m = s.sqo m)
      ∧ (o.paused = false ∨ o.resumeReq ≠ none → exec (.sqCtlResume r n) s = .next s))
    ∧ (WriteActs s r p 0x40 8 →
      (s.sqRunning n = true → ∃ t, exec (.sqCtlAbort r n) s = .next t ∧ t.sqState n = stEnding
        ∧ t.rd p SQ_CAUSE_CAUSE = 2 ∧ (t.sqo n).endAt = o.next ∧ (t.sqo n).seg = none ∧ (t.sqo n).wait = none)
      ∧ (s.sqState n = stArmed → ∃ t, exec (.sqCtlAbort r n) s = .next t ∧ t.sqState n = stIdle
        ∧ t.rd p SQ_CAUSE_CAUSE = 2 ∧ (t.sqo n).endAt = s.now)
      ∧ (s.sqState n = stIdle ∨ s.sqState n = stEnding → exec (.sqCtlAbort r n) s = .next s))
    ∧ (WriteActs s r p 0x40 16 →
      (∀ w edge, o.wait = some w → w.kind = .trig 0x20 edge → w.released = none →
        ∃ t, exec (.sqCtlHtrig r n) s = .next t ∧ (t.sqo n).wait = some { w with released := some s.now }
          ∧ t.rd p SQ_CTL_HTRIG = 0)
      ∧ ((∀ w edge, o.wait = some w → w.kind = .trig 0x20 edge → w.released ≠ none) →
        exec (.sqCtlHtrig r n) s = .next (s.wr p SQ_CTL_HTRIG 1)))
    ∧ (WriteActs s r p 0x5C v.toNat →
      (s.sqRunning n = true → ∃ t, exec (.sqHjmpWrite r n v) s = .next t
        ∧ t.sqo n = { o with hjump := some (bitsAt v.toNat 0 24, s.now), hjumpPassed := o.betweenSegments }
        ∧ t.rd p SQ_JSTAT_REPL = (if o.hjump.isSome then 1 else s.rd p SQ_JSTAT_REPL)
        ∧ RegsKept s t [fieldKey p SQ_JSTAT_REPL 0 0])
      ∧ (s.sqRunning n = false → exec (.sqHjmpWrite r n v) s = .next (s.wr p SQ_JSTAT_REFUSED 1)))
    ∧ (s.admits r p false = false →
      exec (.sqCtlPause r n) s = .next (s.werr p) ∧ exec (.sqCtlResume r n) s = .next (s.werr p)
      ∧ exec (.sqCtlAbort r n) s = .next (s.werr p) ∧ exec (.sqCtlHtrig r n) s = .next (s.werr p)
      ∧ exec (.sqHjmpWrite r n v) s = .next (s.werr p) ∧ exec (.sqCtlStart r n) s = .next (s.werr p))

/-- Requests and decisions take effect at the boundaries of a running site. PAUSE_APPLY, RESUME_APPLY, HJUMP_APPLY and
SEGMENT_BOUNDARY. -/
def Obligations.BoundariesOfASite : Prop :=
  (∀ (n : Fin 32) (s : State), s.sqRunning n = true →
    let o := s.sqo n
    let at_ := max s.now (o.next - 8 * 1024)
    (o.pauseDue = true → ∃ t, exec (.pauseApply n) s = .next t ∧ t.now = at_
      ∧ t.sqo n = { o with paused := true, heldPause := false, pauseReq := none } ∧ t.regs = s.regs ∧ t.ch = s.ch)
    ∧ (o.resumeDue = true → ∃ t, exec (.resumeApply n) s = .next t ∧ t.now = at_
      ∧ t.sqo n = { o with paused := false, heldPause := false, resumeReq := none } ∧ t.regs = s.regs ∧ t.ch = s.ch)
    ∧ (∀ target acc, o.hjump = some (target, acc) → o.hjumpDue = true →
      ∃ t, exec (.hjumpApply n) s = .next t ∧ t.now = at_ ∧ (t.sqo n).pc = target ∧ (t.sqo n).loops = [] ∧ (t.sqo n).calls = []
        ∧ (t.sqo n).wait = none ∧ (t.sqo n).mtch = none ∧ (t.sqo n).seg = none ∧ (t.sqo n).hjump = none
        ∧ (t.sqo n).hjumpPassed = false ∧ (o.hjumpPassed = true → t.rd (pSq n) SQ_JSTAT_DEFER = 1)
        ∧ (t.sqo n).vec = o.vec ∧ (t.sqo n).next = o.next ∧ (t.sqo n).paused = false
        ∧ t.rd (pSq n) SQ_JSTAT_APPLIED = 1 ∧ (o.jumped = true → t.rd (pSq n) SQ_JSTAT_OVR = 1)
        ∧ (t.hopo n).bales = [] ∧ (t.hopo n).cur = [] ∧ t.ch = s.ch)
    ∧ (∀ g, o.seg = some g → g.pos = g.nvec → o.watch = none → o.mtch = none →
      ∃ t, exec (.segmentBoundary n) s = .next t ∧ t.now = at_ ∧ (t.sqo n).seg = none ∧ (t.sqo n).tsSeg = none
        ∧ (t.sqo n).pc = o.pc ∧ (t.sqo n).loops = o.loops ∧ (t.sqo n).calls = o.calls ∧ (t.sqo n).vec = o.vec
        ∧ (t.sqo n).atBoundary = true
        ∧ (t.sqo n).hjumpPassed = (o.hjumpPassed || (match o.hjump with | some (_, acc) => !o.ripe acc | none => false)) ∧ t.sqState n = s.sqState n ∧ t.ch = s.ch))
  ∧ ∀ (n : Fin 32) (s : State),
    (s.sqRunning n = false ∨ (s.sqo n).pauseDue = false → exec (.pauseApply n) s = .next s)
    ∧ (s.sqRunning n = false ∨ (s.sqo n).resumeDue = false → exec (.resumeApply n) s = .next s)
    ∧ (s.sqRunning n = false ∨ (s.sqo n).hjumpDue = false → exec (.hjumpApply n) s = .next s)
    ∧ (s.sqRunning n = false ∨ s.boundaryDue n = false → exec (.segmentBoundary n) s = .next s)

/-- A released wait ends, a wait that has timed out takes its action, and an ended burst becomes idle. WAIT_RESUME,
WAITT_TIMEOUT, RDV_TIMEOUT and DRAIN. -/
def Obligations.WaitsEnd : Prop :=
  (∀ (n : Fin 32) (s : State), s.sqRunning n = true →
    let o := s.sqo n
    (o.releaseDue = true → ∃ t, exec (.waitResume n) s = .next t ∧ t.now = max s.now (o.next - 8 * 1024)
      ∧ t.sqo n = { o with wait := none } ∧ t.regs = s.regs ∧ t.ch = s.ch ∧ ∀ m, m ≠ n.val → t.sqo m = s.sqo m)
    ∧ (∀ w, o.wait = some w → o.timeoutDue = true →
      ((∃ src edge, w.kind = .trig src edge) →
        (w.toact = 2 → ∃ t, exec (.waittTimeout n) s = .next t ∧ t.sqState n = stEnding ∧ t.rd (pSq n) SQ_CAUSE_CAUSE = 0x11
          ∧ (t.sqo n).endAt = o.next ∧ (t.sqo n).wait = none)
        ∧ (w.toact ≠ 2 → ∃ t, exec (.waittTimeout n) s = .next t ∧ t.sqo n = { o with wait := none }
          ∧ t.sqState n = s.sqState n ∧ t.ch = s.ch))
      ∧ (w.kind = .sync ∨ (∃ g, w.kind = .rdv g ∧ (s.rgReady g = false ∨ w.forced = true)) →
        (w.toact = 2 → ∃ t, exec (.rdvTimeout n) s = .next t ∧ t.sqState n = stEnding ∧ t.rd (pSq n) SQ_CAUSE_CAUSE = 0x12
          ∧ (t.sqo n).endAt = o.next ∧ (t.sqo n).wait = none)
        ∧ (w.toact ≠ 2 → ∃ t, exec (.rdvTimeout n) s = .next t ∧ t.sqo n = { o with wait := none }
          ∧ t.sqState n = s.sqState n ∧ t.ch = s.ch))
      ∧ (∀ g, w.kind = .rdv g → s.rgReady g = true → w.forced = false → exec (.rdvTimeout n) s = .next s)))
  ∧ (∀ (n : Fin 32) (s : State),
      (s.sqRunning n = false ∨ (s.sqo n).releaseDue = false → exec (.waitResume n) s = .next s)
      ∧ (s.sqRunning n = false ∨ (s.sqo n).timeoutDue = false →
          exec (.waittTimeout n) s = .next s ∧ exec (.rdvTimeout n) s = .next s))
  ∧ ∀ (n : Fin 32) (s : State),
      (s.sqState n = stEnding → s.draining n = false → ∃ t, exec (.drain n) s = .next t ∧ t.sqState n = stIdle
        ∧ t.rd (pSq n) SQ_CAUSE_CAUSE = s.rd (pSq n) SQ_CAUSE_CAUSE)
      ∧ (s.sqState n ≠ stEnding ∨ s.draining n = true → exec (.drain n) s = .next s)

/-- A rendezvous group whose members have all arrived or are excused releases the arrived members at one instant.
RENDEZVOUS_RELEASE and RENDEZVOUS_STALL. -/
def Obligations.RendezvousGroups : Prop :=
  (∀ (g : Fin 16) (s : State), s.rgReady g = true →
    let x := (s.clk.arrivals.filter fun a => a.1 = g.val).foldl (fun m a => max m a.2.2) s.now
    ∃ t, exec (.rendezvousRelease g) s = .next t ∧ t.now = x ∧ t.rd pClk RG_ARR_ARRIVED g = 0
      ∧ (∀ n w, n < 32 → (s.sqo n).wait = some w → w.kind = .rdv g → w.released = none → s.hasArrived g n = true →
          (t.sqo n).wait = some { w with released := some x })
      ∧ (∀ n, (∀ w, (s.sqo n).wait = some w → w.kind ≠ .rdv g) → t.sqo n = s.sqo n)
      ∧ (∀ a, a.1 ≠ g.val → (a ∈ t.clk.arrivals ↔ a ∈ s.clk.arrivals)) ∧ (∀ a ∈ t.clk.arrivals, a.1 ≠ g.val)
      ∧ RegsKept s t [fieldKey pClk RG_ARR_ARRIVED g 0])
  ∧ (∀ (g : Fin 16) (s : State), s.rgReady g = false → exec (.rendezvousRelease g) s = .next s)
  ∧ ∀ s : State,
      (s.stallSet = [] → exec .rendezvousStall s = .next s)
      ∧ ∃ t, exec .rendezvousStall s = .next t
        ∧ ∀ n g, n < 32 → g < 16 → ((s.rd pClk GRP_CFG_CHIP_ID, n), g) ∈ s.stallSet →
            t.rd pClk RG_STAT_STALL g = 1 ∧ ∀ w, (t.sqo n).wait = some w → w.forced = true

/-- SEG begins a segment, and LOOP and ENDL keep the loop stack. SEG_WORD, LOOP_WORD and ENDL_WORD, where the site
decodes that word next and no SEG had to stand there. -/
def Obligations.SegmentAndLoopWords : Prop :=
  ∀ (n : Fin 32) (w : Nat) (s : State), (s.sqo n).mustSeg = false →
    let o := s.sqo n
    let d := s.decodedSq n
    (s.wordAt n 0x01 = some w →
      let g := segOf w
      g.strm = false → ∃ t, exec (.segWord n) s = .next t ∧ WordKeeps s t n
        ∧ g.nvec = bitsAt w 32 24 + 1 ∧ g.addr = bitsAt w 0 32 ∧ g.pos = 0
        ∧ t.sqo n = { d with
            seg := some g, segPc := o.pc, pc := o.pc + 1, inst := o.inst + 1, watch := none, mtch := none, passRes := [] })
    ∧ (s.wordAt n 0x02 = some w →
      (bitsAt w 0 32 = 0 → ∃ t, exec (.loopWord n) s = .next t ∧ WordKeeps s t n
        ∧ t.sqo n = { d with pc := bitsAt w 32 24 + 1 })
      ∧ (bitsAt w 0 32 ≠ 0 → o.loops.length < 8 → ∃ t, exec (.loopWord n) s = .next t ∧ WordKeeps s t n
        ∧ t.sqo n = { d with
            loops := ⟨o.pc + 1, bitsAt w 32 24, bitsAt w 0 32, o.calls.length⟩ :: o.loops, pc := o.pc + 1 })
      ∧ (bitsAt w 0 32 ≠ 0 → 8 ≤ o.loops.length → ∃ t, exec (.loopWord n) s = .next t ∧ BurstEnds s t n 0x0C))
    ∧ (s.wordAt n 0x03 = some w →
      (∀ e es, o.loops = e :: es → e.enda = o.pc →
        (1 < e.count → ∃ t, exec (.endlWord n) s = .next t ∧ WordKeeps s t n
          ∧ t.sqo n = { d with loops := { e with count := e.count - 1 } :: es, pc := e.body })
        ∧ (e.count ≤ 1 → ∃ t, exec (.endlWord n) s = .next t ∧ WordKeeps s t n
          ∧ t.sqo n = { d with loops := es, pc := o.pc + 1 }))
      ∧ ((∀ e es, o.loops = e :: es → e.enda ≠ o.pc) → ∃ t, exec (.endlWord n) s = .next t ∧ BurstEnds s t n 0x0C))

/-- CALL and RET keep the call stack, and a jump pops the loops that it leaves. CALL_WORD, RET_WORD and JMP_WORD, where
the site decodes that word next and no SEG had to stand there. -/
def Obligations.CallReturnAndJumpWords : Prop :=
  ∀ (n : Fin 32) (w : Nat) (s : State), (s.sqo n).mustSeg = false →
    let o := s.sqo n
    let d := s.decodedSq n
    (s.wordAt n 0x04 = some w →
      (o.calls.length < 16 → ∃ t, exec (.callWord n) s = .next t ∧ WordKeeps s t n
        ∧ t.sqo n = { d with calls := (o.pc + 1) :: o.calls, pc := bitsAt w 0 24 })
      ∧ (16 ≤ o.calls.length → ∃ t, exec (.callWord n) s = .next t ∧ BurstEnds s t n 0x0B))
    ∧ (s.wordAt n 0x05 = some w →
      (∀ a as, o.calls = a :: as → (∀ e ∈ o.loops, e.depth < o.calls.length) →
        ∃ t, exec (.retWord n) s = .next t ∧ WordKeeps s t n ∧ t.sqo n = { d with calls := as, pc := a })
      ∧ (o.calls = [] → ∃ t, exec (.retWord n) s = .next t ∧ BurstEnds s t n 0x0B)
      ∧ (o.calls ≠ [] → (∃ e ∈ o.loops, o.calls.length ≤ e.depth) →
        ∃ t, exec (.retWord n) s = .next t ∧ BurstEnds s t n 0x0C))
    ∧ (s.wordAt n 0x06 = some w → ∃ t, exec (.jmpWord n) s = .next t ∧ WordKeeps s t n
      ∧ t.sqo n = { d with
          loops := o.loops.filter fun e => decide (e.body ≤ bitsAt w 0 24 ∧ bitsAt w 0 24 ≤ e.enda), pc := bitsAt w 0 24 })

/-- A conditional word jumps, goes on, or begins a watch, by the site fail bit or a flag. JF_WORD, JP_WORD and JFL_WORD,
where the site decodes that word next and no SEG had to stand there. -/
def Obligations.ConditionalWords : Prop :=
  ∀ (n : Fin 32) (op w : Nat) (s : State), op = 0x07 ∨ op = 0x08 ∨ op = 0x09 → s.wordAt n op = some w →
    (s.sqo n).mustSeg = false →
    let o := s.sqo n
    let c : Instr := if op = 0x07 then .jfWord n else if op = 0x08 then .jpWord n else .jflWord n
    let target := bitsAt w 0 24
    let fails := s.fsSeen n (o.vec - 1)
    let late : Bool := op ≠ 0x09 && o.vec ≠ 0 && s.fsLate n (o.vec - 1)
    let jumps : Bool :=
      if op = 0x09 then s.flagSeen n (bitsAt w 48 6) o.lastStart = bitAt w 56
      else if o.vec = 0 then op = 0x08 else fails = decide (op = 0x07)
    (bitAt w 57 = true → ∃ t, exec c s = .next t ∧ WordKeeps s t n
      ∧ t.sqo n = { s.decodedSq n with
          pc := o.pc + 1, watchNext := some ⟨op, bitsAt w 48 6, bitAt w 56, target⟩ })
    ∧ (bitAt w 57 = false → late = true → ∃ t, exec c s = .next t ∧ BurstEnds s t n 0x0E)
    ∧ (bitAt w 57 = false → late = false → jumps = true →
      ∃ t, exec c s = .next t ∧ (t.sqo n).pc = target ∧ t.sqState n = s.sqState n ∧ (t.sqo n).vec = o.vec
        ∧ (t.sqo n).calls = o.calls ∧ (t.sqo n).seg = none
        ∧ (t.sqo n).loops = o.loops.filter (fun e => decide (e.body ≤ target ∧ target ≤ e.enda))
        ∧ (t.hopo n).bales = [] ∧ t.rd pHop HOP_STAT_DISC n = 1 ∧ ∀ m, m ≠ n.val → t.sqo m = s.sqo m)
    ∧ (bitAt w 57 = false → late = false → jumps = false →
      ∃ t, exec c s = .next t ∧ t.sqo n = { s.decodedSq n with pc := o.pc + 1 } ∧ t.hop = s.hop ∧ t.ch = s.ch
        ∧ ∀ m, m ≠ n.val → t.sqo m = s.sqo m)

/-- MATCH waits for its body, and WAITT and RDV make the site wait. MATCH_WORD, WAITT_WORD and RDV_WORD, where the site
decodes that word next and no SEG had to stand there. -/
def Obligations.MatchAndWaitWords : Prop :=
  ∀ (n : Fin 32) (w : Nat) (s : State), (s.sqo n).mustSeg = false →
    let o := s.sqo n
    let d := s.decodedSq n
    let toact := bitsAt w 56 2
    (s.wordAt n 0x0A = some w →
      (bitsAt w 32 24 ≠ 0 → toact ≠ 3 → ∃ t, exec (.matchWord n) s = .next t ∧ WordKeeps s t n
        ∧ t.sqo n = { d with pc := o.pc + 1, matchNext := some (bitsAt w 32 24, toact, bitsAt w 0 24) })
      ∧ (bitsAt w 32 24 = 0 ∨ toact = 3 → ∃ t, exec (.matchWord n) s = .next t ∧ BurstEnds s t n 0x09))
    ∧ (s.wordAt n 0x0B = some w →
      let src := bitsAt w 50 6
      let edge := bitAt w 48
      (toact = 0 ∨ toact = 2 → src < 4 ∨ 0x10 ≤ src ∧ src < 0x20 ∨ src = 0x20 →
        s.inSpan n = false ∨ 0x10 ≤ src ∧ src < 0x20 →
        ∃ t wt, exec (.waittWord n) s = .next t ∧ t.sqo n = { d with pc := o.pc + 1, wait := some wt }
          ∧ wt.kind = .trig src edge ∧ wt.timeout = bitsAt w 0 32 ∧ wt.toact = toact ∧ wt.count = 0 ∧ wt.forced = false
          ∧ (edge = false → s.trigActive n src = true → wt.released = some s.now
              ∧ (src = 0x20 → t.rd (pSq n) SQ_CTL_HTRIG = 0))
          ∧ (edge = true ∨ s.trigActive n src = false → wt.released = s.trigComing src)
          ∧ ∀ m, m ≠ n.val → t.sqo m = s.sqo m)
      ∧ (toact = 1 ∨ toact = 3 ∨ ¬ (src < 4 ∨ 0x10 ≤ src ∧ src < 0x20 ∨ src = 0x20)
          ∨ s.inSpan n = true ∧ ¬ (0x10 ≤ src ∧ src < 0x20) →
        ∃ t, exec (.waittWord n) s = .next t ∧ BurstEnds s t n 0x09))
    ∧ (s.wordAt n 0x0C = some w →
      let g := bitsAt w 48 4
      let member : Bool := !bitAt w 55 || bitAt (s.rd pClk RG_MEM_RG_MEM g) n
      (toact = 0 ∨ toact = 2 → member = true → ∃ t, exec (.rdvWord n) s = .next t ∧ WordKeeps s t n
        ∧ t.sqo n = { d with
            pc := o.pc + 1,
            wait := some ⟨if bitAt w 55 then .rdv g else .sync, bitsAt w 0 32, toact, 0, s.now, none, false⟩ })
      ∧ (toact = 1 ∨ toact = 3 ∨ member = false → ∃ t, exec (.rdvWord n) s = .next t ∧ BurstEnds s t n 0x09))

/-- MARK, FLAG and TSET words wait for the next segment, and STOP and illegal words end the burst. MARK_WORD, FLAG_WORD,
TSET_WORD, STOP_WORD and ILLEGAL_OPCODE; and a word other than SEG where a SEG had to stand. -/
def Obligations.ActionStopAndIllegalWords : Prop :=
  (∀ (n : Fin 32) (w : Nat) (s : State), (s.sqo n).mustSeg = false →
    let o := s.sqo n
    let acts : SqOp := { s.decodedSq n with pc := o.pc + 1, acts := o.acts ++ [w] }
    (s.wordAt n 0x0D = some w →
      ∃ t, exec (.markWord n) s = .next t ∧ WordKeeps s t n ∧ t.sqo n = acts)
    ∧ (s.wordAt n 0x0E = some w → bitsAt w 56 2 ≠ 3 →
      ∃ t, exec (.flagWord n) s = .next t ∧ WordKeeps s t n ∧ t.sqo n = acts)
    ∧ (s.wordAt n 0x0F = some w → bitsAt w 56 2 ≠ 3 →
      ∃ t, exec (.tsetWord n) s = .next t ∧ WordKeeps s t n ∧ t.sqo n = acts)
    ∧ (s.wordAt n 0x0E = some w → bitsAt w 56 2 = 3 → ∃ t, exec (.flagWord n) s = .next t ∧ BurstEnds s t n 0x09)
    ∧ (s.wordAt n 0x0F = some w → bitsAt w 56 2 = 3 → ∃ t, exec (.tsetWord n) s = .next t ∧ BurstEnds s t n 0x09)
    ∧ (s.wordAt n 0x10 = some w → ∃ t, exec (.stopWord n) s = .next t ∧ BurstEnds s t n 0x01
        ∧ t.rd (pSq n) SQ_CAUSE_CODE = bitsAt w 0 16))
  ∧ (∀ (n : Fin 32) (op w : Nat) (s : State), op = 0 ∨ 0x11 ≤ op → s.wordAt n op = some w →
      ∃ t, exec (.illegalOpcode n) s = .next t ∧ BurstEnds s t n 0x09)
  ∧ ∀ (n : Fin 32) (op : Nat) (c : Instr) (s : State),
      (op, c) ∈ [(0x02, Instr.loopWord n), (0x03, .endlWord n), (0x04, .callWord n), (0x05, .retWord n), (0x06, .jmpWord n),
        (0x07, .jfWord n), (0x08, .jpWord n), (0x09, .jflWord n), (0x0A, .matchWord n), (0x0B, .waittWord n),
        (0x0C, .rdvWord n), (0x0D, .markWord n), (0x0E, .flagWord n), (0x0F, .tsetWord n), (0x10, .stopWord n)] →
      (∀ w, s.wordAt n op = some w → (s.sqo n).mustSeg = true → ∃ t, exec c s = .next t ∧ BurstEnds s t n 0x09)
      ∧ (s.wordAt n op = none → exec c s = .next s)

/-- Site flags change here and in the group, and trigger lines and pins pulse. SITE_FLAG_SET, SITE_FLAG_CLEAR and
SHARED_FLAG_APPLY. AT_PULSE, AT_LINE_APPLY, TRIG_IN_EDGE and TRIG_OUT_PULSE_END. -/
def Obligations.FlagsAndTriggerLines : Prop :=
  ((∀ (r : Requester) (i : Fin 2) (v : Word) (s : State),
     let due := s.now + 64 * 1024
     (WriteActs s r pClk (0x108 + 4 * i) v.toNat → ∃ t, exec (.siteFlagSet r i v) s = .next t
       ∧ (∀ k : Fin 32, let f := 32 * i.val + k.val
         (s.flagShared f = false → t.flag f = (s.flag f || bitAt v.toNat k))
         ∧ (s.flagShared f = true → t.flag f = s.flag f
           ∧ (bitAt v.toNat k = true → ∃ e ∈ t.clk.sharedFlags, e.idx = f ∧ e.op = 1 ∧ e.t = due)))
       ∧ ∀ f : Fin 64, f.val / 32 ≠ i.val → t.flag f = s.flag f)
     ∧ (WriteActs s r pClk (0x110 + 4 * i) v.toNat → ∃ t, exec (.siteFlagClear r i v) s = .next t
       ∧ (∀ k : Fin 32, let f := 32 * i.val + k.val
         (s.flagShared f = false → t.flag f = (s.flag f && !bitAt v.toNat k))
         ∧ (s.flagShared f = true → t.flag f = s.flag f
           ∧ (bitAt v.toNat k = true → ∃ e ∈ t.clk.sharedFlags, e.idx = f ∧ e.op = 0 ∧ e.t = due)))
       ∧ ∀ f : Fin 64, f.val / 32 ≠ i.val → t.flag f = s.flag f))
   ∧ (∀ (e : SharedEvent) (s : State), firstShared (s.rd pClk GRP_CFG_CHIP_ID) s.clk.sharedFlags = some e →
       ∃ t, exec .sharedFlagApply s = .next t ∧ t.now = max s.now e.t ∧ t.clk.sharedFlags = s.clk.sharedFlags.erase e
         ∧ t.flag e.idx = (if e.op = 0 then false else if e.op = 1 then true else !s.flag e.idx)
         ∧ ∀ f : Fin 64, e.idx < 64 → f.val ≠ e.idx → t.flag f = s.flag f)
   ∧ ∀ s : State, s.clk.sharedFlags = [] → exec .sharedFlagApply s = .next s)
  ∧ ((∀ (r : Requester) (v : Word) (s : State), WriteActs s r pClk 0x1C8 v.toNat →
       ∃ t, exec (.atPulse r v) s = .next t
         ∧ ∃ es, t.clk.atPulses = s.clk.atPulses ++ es ∧ es.map (fun e => e.idx) = setBits v.toNat 16
           ∧ ∀ e ∈ es, e.t = s.now + 64 * 1024 ∧ e.chip = s.rd pClk GRP_CFG_CHIP_ID)
     ∧ (∀ (e : SharedEvent) (s : State), firstShared (s.rd pClk GRP_CFG_CHIP_ID) s.clk.atPulses = some e →
         ∃ t, exec .atLineApply s = .next t ∧ t.now = max s.now e.t ∧ tabFind t.clk.atLast e.idx = some e.t
           ∧ (∀ x, x ∈ t.clk.atPulses ↔ x ∈ s.clk.atPulses ∧ ¬ (x.idx = e.idx ∧ x.t / 1024 = e.t / 1024))
           ∧ (∀ n w edge, n < 32 → (s.sqo n).wait = some w → w.kind = .trig (0x10 + e.idx) edge → w.released = none →
               (t.sqo n).wait = some { w with released := some e.t })
           ∧ ∀ n, (∀ w edge, (s.sqo n).wait = some w → w.kind ≠ .trig (0x10 + e.idx) edge) → t.sqo n = s.sqo n)
     ∧ (∀ s : State, s.clk.atPulses = [] → exec .atLineApply s = .next s)
     ∧ (∀ (n : Fin 4) (x width : Nat) (s : State),
         let last := tabGet 0 s.clk.trigLast n
         (last = 0 ∨ last - 1 + 16 * 1024 ≤ x → ∃ t, exec (.trigInEdge n x width) s = .next t ∧ t.now = max s.now x
           ∧ (∃ d, 63 * 1024 ≤ d ∧ d ≤ 65 * 1024
             ∧ t.clk.trigPulses = (n.val, x + d, x + width + d) :: s.clk.trigPulses
             ∧ ∀ m w edge, m < 32 → (s.sqo m).wait = some w → w.kind = .trig n edge → w.released = none →
               (t.sqo m).wait = some { w with released := some (x + d) })
           ∧ tabGet 0 t.clk.trigLast n = x + 1
           ∧ (∀ l, l < 16 → s.atMap l = 1 + n.val → ∃ e ∈ t.clk.atPulses, e.idx = l ∧ e.t = x + 64 * 1024)
           ∧ ∀ m, (∀ w edge, (s.sqo m).wait = some w → w.kind ≠ .trig n edge) → t.sqo m = s.sqo m)
         ∧ (last ≠ 0 → x < last - 1 + 16 * 1024 → ∃ t, exec (.trigInEdge n x width) s = .next t ∧ t.now = max s.now x
           ∧ t.sq = s.sq ∧ t.clk.atPulses = s.clk.atPulses ∧ tabGet 0 t.clk.trigLast n = x + 1
           ∧ t.clk.trigPulses.length = s.clk.trigPulses.length ∧ t.scan = s.scan ∧ t.acq = s.acq))
     ∧ ∀ (k : Fin 4) (s : State),
         let e := tabGet 0 s.clk.toutEnd k
         (e = 0 → exec (.trigOutPulseEnd k) s = .next s)
         ∧ (e ≠ 0 → ∃ t, exec (.trigOutPulseEnd k) s = .next t ∧ t.now = max s.now e ∧ tabGet 0 t.clk.toutEnd k = 0
           ∧ t.regs = s.regs ∧ ∀ j, j ≠ k.val → tabGet 0 t.clk.toutEnd j = tabGet 0 s.clk.toutEnd j))

/-- A Hopper requests what it wants, takes what arrives, and makes a bale usable or stops at its failure. HOPPER_FETCH,
HOPPER_DATA_ARRIVAL, BALE and HOST_PRODUCER_WRITE. -/
def Obligations.HopperFetches : Prop :=
  (∀ (n : Fin 32) (s : State),
    let h := s.hopo n
    (h.on = true → h.curErr = false → h.needTable = false → s.pageState (pSq n) = 4 → s.nextLen n ≠ 0 →
      ∃ t r, exec (.hopperFetch n) s = .next t ∧ (t.hopo n).reqs = h.reqs ++ [r] ∧ r.addr = h.addr ∧ r.len = s.nextLen n
        ∧ 0 < r.len ∧ r.len ≤ 512 ∧ r.table = false ∧ r.epoch = h.epoch ∧ (t.hopo n).cur = h.cur ∧ t.regs = s.regs
        ∧ ∀ m, m ≠ n.val → t.hopo m = s.hopo m)
    ∧ (h.on = true → h.curErr = false → h.needTable = true → s.pageState (pSq n) = 4 → s.pastEnd n h.idx = false →
        (∀ r ∈ h.reqs, r.table = false) →
      ∃ t r, exec (.hopperFetch n) s = .next t ∧ (t.hopo n).reqs = h.reqs ++ [r] ∧ r.table = true ∧ r.len = 4
        ∧ r.addr = 64 * s.rd pHop HOP_ITAB_ITAB n + 4 * h.idx)
    ∧ (h.on = false ∨ h.curErr = true ∨ s.pageState (pSq n) ≠ 4 ∨ (h.needTable = false ∧ s.nextLen n = 0) →
      exec (.hopperFetch n) s = .next s))
  ∧ (∀ (n : Fin 32) (data : List Byte) (ecc : DdrEcc) (r : HopReq) (rest : List HopReq) (s : State),
      (s.hopo n).reqs = r :: rest →
      ∃ t, exec (.hopperDataArrival n data ecc) s = .next t ∧ (t.hopo n).reqs = rest
        ∧ (r.epoch ≠ (s.hopo n).epoch → (t.hopo n).cur = (s.hopo n).cur ∧ (t.hopo n).needTable = (s.hopo n).needTable)
        ∧ (r.epoch = (s.hopo n).epoch → (s.hopo n).curErr = false → s.hostFed n = true → r.table = false →
            (ecc = .ok ∨ ecc = .corrected → (t.hopo n).curErr = false
              ∧ (t.hopo n).cur = (s.hopo n).cur ++ (data ++ List.replicate r.len 0#8).take r.len)
            ∧ (¬ (ecc = .ok ∨ ecc = .corrected) → (t.hopo n).curErr = true ∧ (t.hopo n).cur = (s.hopo n).cur)))
  ∧ (∀ (n : Fin 32) (data : List Byte) (ecc : DdrEcc) (s : State), (s.hopo n).reqs = [] →
      exec (.hopperDataArrival n data ecc) s = .next s)
  ∧ (∀ (n : Fin 32) (s : State), (s.hopo n).failed = none →
      let h := s.hopo n
      let total := 64 + bodyLen h.cur
      let bad := headerReason h.cur h.idx (s.channelsOf n).length
      (64 ≤ h.cur.length → bad = 0 → total ≤ h.cur.length →
        (∀ body, s.checkBale n (h.cur.take 64) ((h.cur.take total).drop 64) = .inr body →
          ∃ t b, exec (.baleCheck n) s = .next t ∧ (t.hopo n).bales = h.bales ++ [b] ∧ b.idx = h.idx ∧ b.body = body
            ∧ b.nv = fieldOf h.cur 0x0C 2 + 1 ∧ b.bytes = total ∧ b.usable = s.now
            ∧ (t.hopo n).idx = h.idx + 1 ∧ (t.hopo n).cur = h.cur.drop total)
        ∧ (∀ reason lane, s.checkBale n (h.cur.take 64) ((h.cur.take total).drop 64) = .inl (reason, lane) →
          s.sqState n ≠ stArmed →
          ∃ t, exec (.baleCheck n) s = .next t ∧ (t.hopo n).on = false ∧ (t.hopo n).failed = some (h.idx, reason)
            ∧ (t.hopo n).cur = [] ∧ t.rd pHop HOP_ERR_REASON n = reason % 16 ∧ t.rd pHop HOP_STAT_ERR n = 1
            ∧ t.rd pHop HOP_EBALE_EBALE n = h.idx % 2 ^ 32))
      ∧ (64 ≤ h.cur.length → bad ≠ 0 → s.sqState n ≠ stArmed →
        ∃ t, exec (.baleCheck n) s = .next t ∧ (t.hopo n).on = false ∧ (t.hopo n).failed = some (h.idx, bad)
          ∧ (t.hopo n).cur = [] ∧ t.rd pHop HOP_ERR_REASON n = bad % 16 ∧ t.rd pHop HOP_STAT_ERR n = 1)
      ∧ (h.curErr = false → h.cur.length < 64 ∨ bad = 0 ∧ h.cur.length < total → exec (.baleCheck n) s = .next s))
  ∧ ∀ (r : Requester) (n : Fin 32) (v : Word) (s : State), WriteActs s r pHop (0x11C + 0x80 * n) v.toNat →
      ∃ t, exec (.hostProducerWrite r n v) s = .next t ∧ t.rd pHop HOP_HPROD_PROD n = bitsAt v.toNat 0 26
        ∧ RegsKept s t [fieldKey pHop HOP_HPROD_PROD n 0] ∧ t.hop = s.hop

/-- Each token of a lane emits its bytes and moves the lane on, and a bad token fails the lane. LIT_TOKEN, REP_TOKEN,
DICT_TOKEN, XOR_TOKEN, END_TOKEN and RESERVED_TOKEN. Lanes hold their bytes newest first. -/
def Obligations.GrinderTokens : Prop :=
  ∀ (n : Fin 32) (lane : Fin 321) (s : State),
    let commands : List (Instr × (Nat → Bool)) := [(.endToken n lane, fun k => k = 0), (.litToken n lane, fun k => k = 1),
      (.repToken n lane, fun k => k = 2), (.dictToken n lane, fun k => k = 3), (.xorToken n lane, fun k => k = 4),
      (.reservedToken n lane, fun k => decide (5 ≤ k))]
    (s.grinding n lane = none → ∀ c ∈ commands, exec c.1 s = .next s)
    ∧ ∀ b, s.grinding n lane = some b →
      let l := b.lane lane
      let len := laneLen b.body lane
      let a := laneStart b.body b.laneCount lane + l.pos
      let tok := tokenAt b.body a
      let reason := tokenReason tok l.pos len (b.units lane - l.out.length)
      let entry := fun e => (List.range 8).map fun k => s.dictByte n b lane e k
      (l.pos < len → reason = 0 →
        ∀ c ∈ commands, c.2 tok.typ = true →
          ∃ t b', exec c.1 s = .next t ∧ b' ∈ (t.hopo n).bales ∧ b'.idx = b.idx ∧ b'.body = b.body
            ∧ (tok.typ = 0 → b'.lane lane = { l with pos := l.pos + 1, ended := true })
            ∧ (tok.typ = 1 → b'.lane lane = { l with
                pos := l.pos + tok.m + 2, out := ((b.body.drop (a + 1)).take (tok.m + 1)).reverse ++ l.out })
            ∧ (tok.typ = 2 → b'.lane lane = { l with
                pos := l.pos + 2, out := List.replicate (tok.m * 256 + tok.arg + 1) ((l.out.head?).getD 0#8) ++ l.out })
            ∧ (tok.typ = 3 → b'.lane lane = { l with
                pos := l.pos + 2, out := ((List.range (tok.m + 1)).flatMap fun i => entry (tok.arg + i)).reverse ++ l.out })
            ∧ (tok.typ = 4 → b'.lane lane = { l with pos := l.pos + 2, out := xorBytes (entry tok.arg) (tok.m + 1) l.out })
            ∧ t.regs = (s.count (0x100 + 8 * n + 6)).regs)
      ∧ (l.pos < len → ∀ c ∈ commands, c.2 tok.typ = false → exec c.1 s = .next s)
      ∧ (s.sqState n ≠ stArmed →
          (∀ c ∈ commands, l.pos < len → reason ≠ 0 → c.2 tok.typ = true →
            ∃ t b', exec c.1 s = .next t ∧ b' ∈ (t.hopo n).bales ∧ b'.idx = b.idx ∧ (b'.lane lane).err = reason
              ∧ t.rd pHop HOP_STAT_ERR n = 1)
          ∧ ∀ c ∈ commands, len ≤ l.pos →
            ∃ t b', exec c.1 s = .next t ∧ b' ∈ (t.hopo n).bales ∧ b'.idx = b.idx ∧ (b'.lane lane).err = 8
              ∧ t.rd pHop HOP_STAT_ERR n = 1)
      ∧ (5 ≤ tok.typ → reason = 9)

/-- A BAR2 write stores its bytes in the on-chip memory that it addresses, or is discarded. BAR2_WRITE within one
region. -/
def Obligations.Bar2Writes : Prop :=
  (∀ (a : BitVec 26) (bytes : List Byte) (s : State), s.mode ≤ 1 → exec (.bar2Write a bytes) s = .next s)
  ∧ ∀ (addr : BitVec 26) (bytes : List Byte) (s : State), 1 < s.mode → bytes ≠ [] → s.rd pSec SEC_KSTAT_ZBUSY = 0 →
      let a := addr.toNat
      let len := bytes.length
      let broken := fun q => !wholeQuarter a len q && !s.granGone (q / 4) && tabGet 0 s.mem.granErr q = 1
      (a + len ≤ 0x3000000 →
        ((∀ q ∈ quarters a len, broken q = false) → ∃ t, exec (.bar2Write addr bytes) s = .next t
          ∧ (∀ x, memGet t.mem.gran x =
              if a ≤ x ∧ x < a + len ∧ s.granGone (x / 32) = false then bytes.getD (x - a) 0#8 else memGet s.mem.gran x)
          ∧ { t.mem with gran := s.mem.gran, granErr := s.mem.granErr } = s.mem
          ∧ t.rd pGran GRAN_STAT_WDROP =
              if (quarters a len).any fun q => s.granGone (q / 4) then 1 else s.rd pGran GRAN_STAT_WDROP)
        ∧ ((∃ q ∈ quarters a len, broken q = true) → ∃ t, exec (.bar2Write addr bytes) s = .next t ∧ t.mem = s.mem
          ∧ t.rd pGran GRAN_STAT_UE = 1 ∧ t.rd pGran GRAN_STAT_WDROP = 1))
      ∧ (0x3000000 ≤ a → a + len ≤ 0x30B0000 → ∃ t, exec (.bar2Write addr bytes) s = .next t
          ∧ (∀ x, memGet t.mem.dict x =
              if a ≤ x + 0x3000000 ∧ x + 0x3000000 < a + len ∧ s.dictLocked x = false then bytes.getD (x + 0x3000000 - a) 0#8
              else memGet s.mem.dict x)
          ∧ { t.mem with dict := s.mem.dict } = s.mem)
      ∧ (0x3100000 ≤ a → a + len ≤ 0x3140000 →
          let n := s.rd pBrst BRST_LWSEL_SEL
          (s.domainOn (75 + n / 8) = true → ∃ t, exec (.bar2Write addr bytes) s = .next t ∧ t.regs = s.regs
            ∧ ∀ x, memGet t.mem.bw x =
              if n * 0x40000 + (a - 0x3100000) ≤ x ∧ x < n * 0x40000 + (a - 0x3100000) + len
              then bytes.getD (x - (n * 0x40000 + (a - 0x3100000))) 0#8 else memGet s.mem.bw x)
          ∧ (s.domainOn (75 + n / 8) = false → exec (.bar2Write addr bytes) s = .next s))
      ∧ (0x3800000 ≤ a → a + len ≤ 0x4000000 → exec (.bar2Write addr bytes) s = .next (s.werr pGln))

/-- A compare result that reaches the Gleaner is counted, and a vector whose results have all arrived is counted and
logged. COMPARE_RESULT_ARRIVAL and UNDERRUN_MARK. -/
def Obligations.GleanerCountsResults : Prop :=
  (∀ s : State, s.results = [] → exec .compareResultArrival s = .next s)
  ∧ (∀ (r : CmpResult) (rest : List CmpResult) (s : State), s.results = r :: rest → s.pageState pGln ≠ 4 →
      exec .compareResultArrival s = .next { s with results := rest })
  ∧ (∀ (r : CmpResult) (rest : List CmpResult) (s : State), s.results = r :: rest → s.pageState pGln = 4 →
      r.site < 32 → r.ch < 320 →
      let n := r.site
      let i := r.ch % 8
      let taken := !(s.bit pGln GLN_SSTAT_ISO n || s.masked r.ch || (r.pass ≠ 0 && !s.bit pGln GLN_SCFG_MATCH n))
      let counted := fun (t : State) id (b : Bool) => t.counter id = if b then (s.counter id + 1) % 2 ^ 48 else s.counter id
      ∃ t, exec .compareResultArrival s = .next t ∧ t.results = rest ∧ t.mem = s.mem ∧ t.sq = s.sq ∧ t.ch = s.ch
        ∧ counted t 0x2C0 true ∧ counted t 0x2C1 (taken && r.fail)
        ∧ counted t (0x400 + r.ch) (taken && r.fail && decide (r.pass = 0))
        ∧ (∀ c, c < 320 → c ≠ r.ch → counted t (0x400 + c) false)
        ∧ (taken = true → r.pass = 0 → (s.glnSite n).acc = [] → { s with results := rest }.resultsOutstanding n r.vec = false →
            (t.glnSite n).acc = [] ∧ counted t (0x560 + n) true ∧ counted t (0x540 + n) r.fail
            ∧ (r.fail = false → t.gln.queue = s.gln.queue)
            ∧ (r.fail = true → s.rd pGln GLN_SCFG_MODE n = 3 → (s.glnSite n).stopped = false →
                s.gln.failCount + 1 ≤ 8128 → s.gln.markWaits n = false →
                ∃ x, t.gln.queue = s.gln.queue ++ [x] ∧ x.site = n ∧ x.typ = 1 ∧ x.vec = r.vec
                  ∧ x.bytes = recordBytes 1 n (r.ch / 8) r.ts r.vec
                      (2 ^ i + 2 ^ i * 2 ^ 8 + b2n r.above * 2 ^ i * 2 ^ 16 + b2n r.below * 2 ^ i * 2 ^ 24 + r.exp * 4 ^ i * 2 ^ 32)
                      (r.seg + if (s.glnSite n).gap then 2 ^ 28 else 0) (s.stampAt r.t))))
  ∧ (∀ s : State, s.gln.marks = [] → exec .underrunMark s = .next s)
  ∧ ∀ (m : UMark) (rest : List UMark) (s : State), s.gln.marks = m :: rest →
      (s.rd pGln GLN_SCFG_MODE m.site = 0 ∨ s.glnUp m.site = false →
        exec .underrunMark s = .next { s with gln := { s.gln with marks := rest } })
      ∧ (s.rd pGln GLN_SCFG_MODE m.site ≠ 0 → s.glnUp m.site = true →
        ∃ t x, exec .underrunMark s = .next t ∧ t.gln.marks = rest ∧ t.gln.queue = s.gln.queue ++ [x] ∧ x.typ = 3
          ∧ x.site = m.site ∧ x.bytes = recordBytes 3 m.site 0 m.tset m.vec (m.bale % 2 ^ 32 + m.off * 2 ^ 32)
              (m.seg + if (s.glnSite m.site).gap then 2 ^ 28 else 0) (s.stampAt m.t)
          ∧ (t.glnSite m.site).gap = false ∧ { t with gln := s.gln } = s)

/-- Queued records are written to their site's region, exported to the host's ring, and freed by the consumer.
RECORD_WRITE, RECORD_EXPORT, DATALOG_CONSUMER_WRITE and GLEANER_COUNT_CLEAR. -/
def Obligations.GleanerWritesRecords : Prop :=
  (∀ s : State, s.pageState pGln ≠ 4 ∨ s.nextRecord s.gln.queue [] = none → exec .recordWrite s = .next s)
  ∧ (∀ (r : GRec) (s : State), s.pageState pGln = 4 → s.nextRecord s.gln.queue [] = some r → r.site < 32 →
      let n := r.site
      let g := s.glnSite n
      let size := s.regionSize n
      let written := fun (t : State) pos (bytes : List Byte) =>
        let a := 32 * (s.rd pGln GLN_SREG_BASE n * 256 + pos)
        t.rd pGln GLN_SWR_CNT n = min (s.rd pGln GLN_SWR_CNT n + 1) (2 ^ 19 - 1)
          ∧ ∀ x, memGet t.mem.cap x =
              if a ≤ x ∧ x < a + bytes.length then bytes.getD (x - a) 0#8 else memGet s.mem.cap x
      ∃ t, exec .recordWrite s = .next t ∧ t.gln.queue = s.gln.queue.erase r ∧ t.ch = s.ch ∧ t.sq = s.sq
        ∧ { t.mem with cap := s.mem.cap } = s.mem
        ∧ (r.typ = 4 → written t 0 r.bytes ∧ (t.glnSite n).used = 1 ∧ (t.glnSite n).wpos = 1 % size
            ∧ (t.glnSite n).stopped = false)
        ∧ (r.typ ≠ 4 → g.stopped = false → g.used + r.group < size →
            written t g.wpos r.bytes ∧ (t.glnSite n).used = g.used + 1 ∧ (t.glnSite n).wpos = (g.wpos + 1) % size
            ∧ (t.glnSite n).stopped = false)
        ∧ (r.typ ≠ 4 → g.stopped = false → size ≤ g.used + r.group →
            written t ((g.wpos + (size - g.used) - 1) % size) (recordBytes 6 n 0 0 r.vec r.typ 0 r.ts)
            ∧ (t.glnSite n).used = size ∧ (t.glnSite n).stopped = true ∧ t.rd pGln GLN_SSTAT_FULL n = 1)
        ∧ (r.typ ≠ 4 → g.stopped = true → t.mem = s.mem ∧ t.gln.sites = s.gln.sites ∧ t.cnt = s.cnt))
  ∧ (∀ s : State, s.pageState pGln ≠ 4 ∨ s.gln.exports = [] → exec .recordExport s = .next s)
  ∧ (∀ (n slot : Nat) (rest : List (Nat × Nat)) (s : State), s.pageState pGln = 4 → s.gln.exports = (n, slot) :: rest →
      let size := s.rd pGln GLN_DL_SIZE_SIZE
      let prod := s.rd pGln GLN_DL_PROD_PROD
      let stalls := size = 0 ∨ (prod + 1) % size = s.rd pGln GLN_DL_CONS_CONS ∨ s.hostOk = false
      (stalls → exec .recordExport s = .next (s.wr pGln GLN_DL_STAT_STALL 1))
      ∧ (¬ stalls → ∃ t, exec .recordExport s = .next t ∧ t.gln.exports = rest
        ∧ t.rd pGln GLN_DL_PROD_PROD = (prod + 1) % size % 2 ^ 24
        ∧ t.gln.inRing = s.gln.inRing ++ [if s.bit pGln GLN_SCFG_RECYCLE n then n else 32]
        ∧ (∀ x, memGet t.mem.host x = if s.dlAddr prod ≤ x ∧ x < s.dlAddr prod + 32
            then memGet s.mem.cap (32 * slot + (x - s.dlAddr prod)) else memGet s.mem.host x)
        ∧ { t.mem with host := s.mem.host } = s.mem))
  ∧ (∀ (r : Requester) (v : Word) (s : State), WriteActs s r pGln 0x90 v.toNat →
      let new := bitsAt v.toNat 0 24
      let size := s.rd pGln GLN_DL_SIZE_SIZE
      let k := if size = 0 then 0 else (new + size - s.rd pGln GLN_DL_CONS_CONS % size) % size
      ∃ t, exec (.datalogConsumerWrite r v) s = .next t ∧ t.rd pGln GLN_DL_CONS_CONS = new
        ∧ t.gln.inRing = s.gln.inRing.drop k ∧ t.mem = s.mem
        ∧ ∀ n, n < 32 → (t.glnSite n).used = (s.glnSite n).used - (s.gln.inRing.take k).count n)
  ∧ ∀ (r : Requester) (n : Fin 32) (s : State), WriteActs s r pGln (0x13C + 0x40 * n) 1 →
      (s.siteBusy n = true → exec (.gleanerCountClear r n) s = .next (s.werr pGln))
      ∧ (s.siteBusy n = false → ∃ t, exec (.gleanerCountClear r n) s = .next t ∧ { t with cnt := s.cnt } = s
        ∧ ∀ id, t.counter id = if id = 0x540 + n.val ∨ id = 0x560 + n.val ∨ (0x400 ≤ id ∧ id - 0x400 ∈ s.channelsOf n) then 0
            else s.counter id)

/-- A bitmap update sets its bit in its device word with correct parity, and a readout delivers the bitmap to the host.
BITMAP_UPDATE, QDR_ADDRESS_PARITY_ERROR, BITMAP_READOUT_START and BITMAP_READOUT_DONE; device words that are not fitted
read as free values (assumption log entry 4). -/
def Obligations.BitmapUpdatesAndReadout : Prop :=
  (∀ s : State, s.pageState pGln ≠ 4 ∨ s.gln.updates = [] → exec .bitmapUpdate s = .next s)
  ∧ (∀ (u : Nat × Nat) (rest : List (Nat × Nat)) (s : State), s.pageState pGln = 4 → s.gln.updates = u :: rest →
      (∀ x ∈ s.gln.updates, x.2 < 32) →
      let pr := s.pairOfWord u.1
      let dec := fun (x : State) d => qdrDecode (tabGet 0 x.mem.qdr (qdrKey pr.1 d))
      ∃ t, exec .bitmapUpdate s = .next t ∧ t.gln.updates = s.gln.updates.filter (fun x => s.pairOfWord x.1 ≠ pr)
        ∧ (∀ d, d / 2 = pr.2 → (dec t d).1 = false
            ∧ ∀ k, k < 32 → (dec t d).2.testBit k
                = ((dec s d).2.testBit k || s.gln.updates.any fun x => s.qdrPlace x.1 = (pr.1, d) && x.2 = k))
        ∧ (∀ key, key ≠ qdrKey pr.1 (2 * pr.2) → key ≠ qdrKey pr.1 (2 * pr.2 + 1) → tabGet 0 t.mem.qdr key = tabGet 0 s.mem.qdr key)
        ∧ t.rd pQdr QDR_STAT_PERR
            = (if (dec s (2 * pr.2)).1 || (dec s (2 * pr.2 + 1)).1 then 1 else s.rd pQdr QDR_STAT_PERR)
        ∧ t.mem = { s.mem with qdr := t.mem.qdr })
  ∧ (∀ (port : Fin 2) (s : State), ∃ t, exec (.qdrAddressParityError port) s = .next t ∧ t.rd pQdr QDR_STAT_APERR = 1
      ∧ t.counter (0x362 + 4 * port) = (s.counter (0x362 + 4 * port) + 1) % 2 ^ 48 ∧ (t.flto 64).pair = true ∧ t.mem = s.mem)
  ∧ (∀ (r : Requester) (v : Word) (s : State), WriteActs s r pGln 0x70 v.toNat → bitAt v.toNat 0 = true →
      let refused := s.bit pGln GLN_BRD_CTL_BUSY || (List.range 32).any fun n => s.bit pGln GLN_SCFG_BMEN n && s.siteBusy n
      ∃ t, exec (.bitmapReadoutStart r v) s = .next t
        ∧ OnlyRegs s t (fieldKey pGln PAGE_STAT_WERR 0 0 :: regKeys pGln 0x70)
        ∧ t.rd pGln GLN_BRD_CTL_BUSY = (if refused then s.rd pGln GLN_BRD_CTL_BUSY else 1)
        ∧ (refused = true → t.rd pGln GLN_BRD_CTL_REFUSED = 1)
        ∧ (s.pageBusy pGln = false → t.rd pGln GLN_BRD_CTL_CLR = bitsAt v.toNat 1 1))
  ∧ ∀ s : State,
      let runs := s.bit pGln GLN_BRD_CTL_BUSY && s.gln.updates.isEmpty && s.hostOk && decide (s.pageState pGln = 4)
      (runs = false → exec .bitmapReadoutDone s = .next s)
      ∧ (runs = true → ∃ t, exec .bitmapReadoutDone s = .next t ∧ t.rd pGln GLN_BRD_CTL_BUSY = 0 ∧ t.rd pGln GLN_BRD_CTL_DONE = 1
        ∧ ∀ k, k < s.rd pGln GLN_BRD_LEN_N →
            let pd := s.qdrPlace (s.rd pGln GLN_BRD_ADDR_W + k)
            let dst := s.rd pGln GLN_BRD_DSTH_DST * 2 ^ 32 + s.rd pGln GLN_BRD_DSTL_DST + 4 * k
            let word := tabGet 0 s.mem.qdr (qdrKey pd.1 pd.2)
            s.qdrFitted pd.1 pd.2 = true →
            (∀ j, j < 4 → memGet t.mem.host (dst + j) = (leBytes 4 (qdrDecode word).2).getD j 0#8)
            ∧ tabGet 0 t.mem.qdr (qdrKey pd.1 pd.2) = if s.bit pGln GLN_BRD_CTL_CLR then 0 else word)

/-- A scan starts, runs its groups, queues its results and copies them to the host's ring, or is refused, delayed or
aborted. SCAN_START, SCAN_PERIOD_START, SCAN_TRIGGER_START, SCAN_GROUP_START, ABUS_SWITCH_CLOSE, SCAN_RESULT_QUEUE,
SCAN_QUEUE_COPY and SCAN_ABORT. -/
def Obligations.ScansRun : Prop :=
  let starts := fun (s t : State) =>
    (s.bit pAscan ASCAN_STAT_RUN = true →
      t.rd pAscan ASCAN_SDROP_SDROP = min (s.rd pAscan ASCAN_SDROP_SDROP + 1) 65535
        ∧ t.counter 0x322 = (s.counter 0x322 + 1) % 2 ^ 48 ∧ t.scan = s.scan)
    ∧ (s.bit pAscan ASCAN_STAT_RUN = false → s.scanBad = true →
      t.rd pAscan ASCAN_STAT_CFGERR = 1 ∧ t.rd pAscan ASCAN_STAT_RUN = 0 ∧ t.scan = s.scan)
    ∧ (s.bit pAscan ASCAN_STAT_RUN = false → s.scanBad = false →
      t.rd pAscan ASCAN_STAT_RUN = 1 ∧ t.rd pAscan ASCAN_SCANNO_SCANNO = (s.rd pAscan ASCAN_SCANNO_SCANNO + 1) % 2 ^ 16
        ∧ t.scan = { s.scan with next := 0, due := s.sclk + 1, gEnd := 0, slices := 0, out := [], carried := [] })
  (∀ (r : Requester) (s : State), WriteActs s r pAscan 0x40 1 → ∃ t, exec (.scanStart r) s = .next t ∧ starts s t)
  ∧ (∀ s : State,
      let s1 := { s.advanceTo s.scan.perNext with
        scan := { s.scan with perNext := s.scan.perNext + s.rd pAscan ASCAN_PER_PER * 2048 } }
      (s.pageState pAscan = 4 ∧ s.rd pAscan ASCAN_CFG_SSRC = 1 → ∃ t, exec .scanPeriodStart s = .next t ∧ starts s1 t)
      ∧ (s.pageState pAscan ≠ 4 ∨ s.rd pAscan ASCAN_CFG_SSRC ≠ 1 → exec .scanPeriodStart s = .next s))
  ∧ (∀ (src at_ : Nat) (rest : List (Nat × Nat)) (s : State), s.scan.trigs = (src, at_) :: rest →
      let s1 := { s.advanceTo at_ with scan := { s.scan with trigs := rest } }
      (s.rd pAscan ASCAN_CFG_SSRC = src → s.pageState pAscan = 4 → ∃ t, exec .scanTriggerStart s = .next t ∧ starts s1 t)
      ∧ (s.rd pAscan ASCAN_CFG_SSRC ≠ src → exec .scanTriggerStart s = .next s1))
  ∧ (∀ s : State, s.scan.trigs = [] → exec .scanTriggerStart s = .next s)
  ∧ (∀ s : State,
      let last := s.rd pAscan ASCAN_CFG_LAST
      let c := max s.scan.due s.sclk
      let es := (s.groupFrom last 64 s.scan.next).map (s.startEntry c)
      let full : Prop := 256 < s.scan.queue.length + s.scan.out.length + es.length
      let urgent : Prop := ∃ e ∈ es, ∃ u, (s.aso e.slice).urg = some u ∧ u.req < c
      (s.bit pAscan ASCAN_STAT_RUN = false ∨ last < s.scan.next → exec .scanGroupStart s = .next s)
      ∧ (s.bit pAscan ASCAN_STAT_RUN = true → s.scan.next ≤ last →
        (full → exec .scanGroupStart s = .next (s.wr pAscan ASCAN_STAT_QWAIT 1))
        ∧ (¬ full → urgent → exec .scanGroupStart s = .next (s.wr pAscan ASCAN_STAT_DELAYED 1))
        ∧ (¬ full → ¬ urgent → ∃ t, exec .scanGroupStart s = .next t ∧ t.now = max s.now (c * 2048)
          ∧ t.scan.out = s.scan.out ++ es ∧ t.scan.next = s.scan.next + es.length ∧ t.scan.queue = s.scan.queue
          ∧ t.scan.due = es.foldl (fun m e => max m (s.entryEnd e)) 0 + 1
          ∧ (∀ e ∈ es, t.rd (pAs e.slice) AS_STAT_ACT = 2 ∧ (t.aso e.slice).urg = none))))
  ∧ (∀ (bus : Fin 8) (s : State),
      let waits := fun (e : ScanEntry) => !e.switched && (match e.chan with | some (b, _) => b = bus.val | none => false)
      (s.scan.out.find? waits = none → exec (.abusSwitchClose bus) s = .next s)
      ∧ ∀ e c, s.scan.out.find? waits = some e → e.chan = some (bus.val, c) →
        let ok := !s.chanOff c && s.bit (pSh (c / 8)) CH_PMU_CTL_CONNECT (c % 8) && s.rd (pSh (c / 8)) CH_PMU_CTL_MODE (c % 8) ≠ 0
          && !s.chanSafe c
        ∃ t, exec (.abusSwitchClose bus) s = .next t ∧ t.now = max s.now ((e.start + 16) * 2048) ∧ t.regs = s.regs
          ∧ tabGet 0 t.scan.closed bus = (if ok then c + 1 else 0)
          ∧ t.scan.out = s.scan.out.map fun x => if x.idx = e.idx then { x with switched := true, noconn := !ok } else x)
  ∧ (∀ (raw : List RawSample) (s : State), s.scan.out = [] → exec (.scanResultQueue raw) s = .next s)
  ∧ (∀ (raw : List RawSample) (e0 e : ScanEntry) (rest0 rest : List ScanEntry) (s : State), s.scan.out = e0 :: rest0 →
      (s.closeSwitch e0).scan.out = e :: rest → e.slice < 4 →
      (raw.length ≠ 2 ^ s.rd pAscan ASL_AVG_AVG e.idx → exec (.scanResultQueue raw) s = .next s)
      ∧ (raw.length = 2 ^ s.rd pAscan ASL_AVG_AVG e.idx →
        let set := calSet (s.rd pAscan ASL_SEL_INSEL e.idx) (s.rd pAscan ASL_SEL_CHAN e.idx)
        let xs := s.samplesFrom set 60 e.first (s.aso e.slice).ovrAt raw
        ∃ t, exec (.scanResultQueue raw) s = .next t ∧ t.now = max s.now ((e.first + raw.length) * 2048)
          ∧ t.scan.queue = s.scan.queue ++ [s.scanBytes e xs] ∧ t.counter 0x321 = (s.counter 0x321 + 1) % 2 ^ 48
          ∧ (e.idx ≠ s.rd pAscan ASCAN_CFG_LAST → t.scan.out = rest
              ∧ t.rd pAscan ASCAN_STAT_RUN = s.rd pAscan ASCAN_STAT_RUN)
          ∧ (e.idx = s.rd pAscan ASCAN_CFG_LAST → t.scan.out = [] ∧ t.scan.closed = [] ∧ t.rd pAscan ASCAN_STAT_RUN = 0)))
  ∧ (∀ (e : List Byte) (rest : List (List Byte)) (s : State), s.scan.queue = e :: rest →
      let size := s.rd pAscan ASCAN_QSIZE_QSIZE
      let prod := s.rd pAscan ASCAN_QPROD_PROD
      let waits := (prod + 1) % size = s.rd pAscan ASCAN_QCONS_CONS ∨ s.hostOk = false ∨ s.pageState pAscan ≠ 4
      let a := s.rd pAscan ASCAN_QBASEH_QBASE * 2 ^ 32 + s.rd pAscan ASCAN_QBASEL_QBASE + 32 * prod
      (waits → exec .scanQueueCopy s = .next s)
      ∧ (¬ waits → ∃ t, exec .scanQueueCopy s = .next t ∧ t.scan.queue = rest
        ∧ t.rd pAscan ASCAN_QPROD_PROD = (prod + 1) % size % 2 ^ 24 ∧ bitAt (t.rd pHost HOST_ISTAT_PEND) 10 = true
        ∧ ∀ x, memGet t.mem.host x = if a ≤ x ∧ x < a + e.length then e.getD (x - a) 0#8 else memGet s.mem.host x))
  ∧ (∀ s : State, s.scan.queue = [] → exec .scanQueueCopy s = .next s)
  ∧ ∀ (r : Requester) (s : State), WriteActs s r pAscan 0x40 2 →
      ∃ t, exec (.scanAbort r) s = .next t ∧ t.scan.queue = s.scan.queue ∧ t.rd pAscan ASCAN_STAT_RUN = 0
        ∧ (s.bit pAscan ASCAN_STAT_RUN = false → t.regs = s.regs ∧ t.scan = s.scan)
        ∧ (s.bit pAscan ASCAN_STAT_RUN = true → t.rd pAscan ASCAN_STAT_ABORTED = 1 ∧ t.scan.out = [] ∧ t.scan.closed = []
          ∧ ∀ n, n < 4 → t.rd (pAs n) AS_STAT_ACT = if s.rd (pAs n) AS_STAT_ACT = 2 then 0 else s.rd (pAs n) AS_STAT_ACT)

/-- The reference is selected and settles, single-channel runs fill the host's buffer, and urgent conversions are taken
or dropped. REFERENCE_SELECT, REFERENCE_SETTLED, EXT_REFERENCE_FALLBACK, SINGLE_RUN_START, SINGLE_RUN_STOP,
SINGLE_BLOCK_WRITE, URGENT_REQUEST and URGENT_RESULT. -/
def Obligations.ReferenceRunsAndUrgentConversions : Prop :=
  (∀ (r : Requester) (v : Word) (inWindow : Bool) (s : State), WriteActs s r pAscan 0x80 v.toNat →
      let src := bitsAt v.toNat 0 2
      let a := if src = 1 && !inWindow then 0 else src
      (s.pageBusy pAscan = true → ∃ t, exec (.referenceSelect r v inWindow) s = .next t ∧ t.rd pAscan PAGE_STAT_WERR = 1
        ∧ RegsKept s t [fieldKey pAscan PAGE_STAT_WERR 0 0] ∧ t.scan = s.scan)
      ∧ (s.pageBusy pAscan = false → ∃ t, exec (.referenceSelect r v inWindow) s = .next t
        ∧ t.rd pAscan AREF_CTL_SRC = src ∧ t.rd pAscan AREF_STAT_ACTIVE = a
        ∧ (a = s.rd pAscan AREF_STAT_ACTIVE → t.rd pAscan AREF_STAT_SETTLED = s.rd pAscan AREF_STAT_SETTLED ∧ t.scan = s.scan)
        ∧ (a ≠ s.rd pAscan AREF_STAT_ACTIVE → t.rd pAscan AREF_STAT_SETTLED = 0
          ∧ t.scan = { s.scan with refDue := s.now + (if a = 1 then 500 else 200) * 3072000 })
        ∧ (src = 1 → inWindow = false → t.rd pAscan AREF_STAT_EXTBAD = 1 ∧ (t.flto 69).pair = true)))
  ∧ (∀ s : State,
      (s.pageState pAscan = 4 ∧ s.rd pAscan AREF_STAT_SETTLED = 0 → ∃ t, exec .referenceSettled s = .next t
        ∧ t.rd pAscan AREF_STAT_SETTLED = 1 ∧ t.now = max s.now s.scan.refDue
        ∧ RegsKept s t [fieldKey pAscan AREF_STAT_SETTLED 0 0])
      ∧ (s.pageState pAscan ≠ 4 ∨ s.rd pAscan AREF_STAT_SETTLED ≠ 0 → exec .referenceSettled s = .next s)
      ∧ (s.pageState pAscan = 4 ∧ s.rd pAscan AREF_STAT_ACTIVE = 1 → ∃ t, exec .extReferenceFallback s = .next t
        ∧ t.rd pAscan AREF_STAT_ACTIVE = 0 ∧ t.rd pAscan AREF_STAT_EXTBAD = 1 ∧ t.rd pAscan AREF_STAT_SETTLED = 0
        ∧ t.scan.refDue = s.now + 200 * 3072000 ∧ (t.flto 69).pair = true)
      ∧ (s.pageState pAscan ≠ 4 ∨ s.rd pAscan AREF_STAT_ACTIVE ≠ 1 → exec .extReferenceFallback s = .next s))
  ∧ (∀ (r : Requester) (n : Fin 4) (s : State), WriteActs s r (pAs n) 0x44 1 →
      let may := s.pd68 && decide (s.rd (pAs n) AS_CFG_OWNER = 1) && !s.isSecondary n
        && !(s.groupOf n).any fun k => s.sliceRuns k || bitAt s.winn.slices k
      let stamp := s.stampAt (s.sampleAt n (s.sclk + 1))
      (may = false → exec (.singleRunStart r n) s = .next s)
      ∧ (may = true → ∃ t, exec (.singleRunStart r n) s = .next t ∧ (∀ k ∈ s.groupOf n, t.rd (pAs k) AS_STAT_ACT = 1)
        ∧ t.rd (pAs n) AS_SC_WPTR_WPTR = 0 ∧ t.rd (pAs n) AS_SC_WRAP_WRAP = 0
        ∧ (s.bit (pAs n) AS_CFG_STARTMODE = true → (t.aso n).single = some { wait := some s.now, start := 0 })
        ∧ (s.bit (pAs n) AS_CFG_STARTMODE = false → (t.aso n).single = some { wait := none, start := s.sclk + 1 }
          ∧ t.rd (pAs n) AS_SC_TS0_TS = stamp % 2 ^ 32 ∧ t.rd (pAs n) AS_SC_TS1_TS = stamp / 2 ^ 32 % 2 ^ 32
          ∧ t.rd (pAs n) AS_SC_TS2_TS = stamp / 2 ^ 64 % 2 ^ 32)))
  ∧ (∀ (r : Requester) (n : Fin 4) (s : State), WriteActs s r (pAs n) 0x44 2 →
      (∀ o, s.rd (pAs n) AS_STAT_ACT = 1 → (s.aso n).single = some o →
        ∃ t, exec (.singleRunStop r n) s = .next t ∧ (∀ k ∈ s.groupOf n, t.rd (pAs k) AS_STAT_ACT = 0)
          ∧ (t.aso n).single = if o.wait.isSome then none else some { o with stop := some (s.sclk + 1) })
      ∧ (s.rd (pAs n) AS_STAT_ACT ≠ 1 ∨ (s.aso n).single = none → exec (.singleRunStop r n) s = .next s))
  ∧ (∀ (n : Fin 4) (raw : List RawSample) (s : State), (s.aso n).single = none → exec (.singleBlockWrite n raw) s = .next s)
  ∧ (∀ (n : Fin 4) (raw : List RawSample) (o : SingleOp) (s : State), (s.aso n).single = some o → o.wait = none →
      let p := pAs n
      let got := s.keptBy n o s.sclk - o.seen
      let stay := min got (32768 - o.inBuf)
      let dec := 2 ^ s.rd p AS_SC_IN_DEC
      let g := s.groupOf n
      let set := calSet (s.groupInput n (s.rd p AS_SC_IN_INSEL)) 0
      let j := (o.seen + got - (o.inBuf + stay)) * dec
      let xs := everyNth dec 0 (s.streamFrom set o.start g.length j (g.map fun k => (s.aso k).ovrAt) raw)
      let w := s.rd p AS_SC_WPTR_WPTR
      let a := s.rd p AS_SC_BASEH_BASE * 2 ^ 32 + s.rd p AS_SC_BASEL_BASE + w
      let bytes := xs.flatMap fun x => leBytes 2 (sampleWord x)
      let writes := raw.length = 128 * dec ∧ 128 ≤ o.inBuf + stay ∧ s.hostOk = true
      ∃ t o2, exec (.singleBlockWrite n raw) s = .next t ∧ (t.aso n).single = some o2 ∧ o2.seen = o.seen + got
        ∧ (stay < got → t.rd p AS_STAT_GAP = 1 ∧ t.rd p AS_SC_LOST_LOST = min (s.rd p AS_SC_LOST_LOST + (got - stay)) (2 ^ 32 - 1))
        ∧ (got ≤ stay → t.rd p AS_STAT_GAP = s.rd p AS_STAT_GAP ∧ t.rd p AS_SC_LOST_LOST = s.rd p AS_SC_LOST_LOST)
        ∧ (¬ writes → o2.inBuf = o.inBuf + stay ∧ t.mem = s.mem ∧ t.rd p AS_SC_WPTR_WPTR = w)
        ∧ (writes → o2.inBuf = o.inBuf + stay - 128 ∧ bitAt (t.rd pHost HOST_ISTAT_PEND) 18 = true
          ∧ t.rd p AS_SC_WPTR_WPTR = (if s.rd p AS_SC_SIZE_SIZE * 4096 ≤ w + 256 then 0 else (w + 256) % 2 ^ 28)
          ∧ ∀ x, memGet t.mem.host x = if a ≤ x ∧ x < a + bytes.length then bytes.getD (x - a) 0#8 else memGet s.mem.host x))
  ∧ (∀ (r : Requester) (n : Fin 4) (ch : Fin 2) (v : Word) (s : State),
      let word := setBit v.toNat 31 true
      let insel := bitsAt word 0 6
      WriteActs s r (pAs n) (0x80 + 0x10 * ch) word →
      let u : UrgOp := { chan := ch, req := s.sclk, first := s.sclk + 1 + s.rd (pAs n) AS_USET_SETTLE ch, insel := insel,
                         avg := bitsAt word 16 4, shift := bitsAt word 20 4 }
      let displaces := ∃ x, (s.aso n).urg = some x ∧ ch.val = 0 ∧ x.chan = 1 ∧ x.req = s.sclk
      ∃ t, exec (.urgentRequest r n ch v) s = .next t ∧ t.rd (pAs n) AS_URG_INSEL ch = insel
        ∧ (s.urgRefused n insel = true → t.rd (pAs n) AS_URES_STAT ch = 4 ∧ t.slice = s.slice)
        ∧ (s.urgRefused n insel = false → s.sliceRuns n = false ∨ displaces →
            (t.aso n).urg = some u ∧ t.rd (pAs n) AS_STAT_URG = 1 ∧ t.rd (pAs n) AS_URES_STAT ch = 1
            ∧ (displaces → t.rd (pAs n) AS_URES_STAT 1 = 3 ∧ t.rd (pAs n) AS_URES_DRP 1 = 1))
        ∧ (s.urgRefused n insel = false → s.sliceRuns n = true → ¬ displaces →
            t.slice = s.slice ∧ t.rd (pAs n) AS_URES_DRP ch = 1 ∧ t.rd (pAs n) AS_DROP_DROP = min (s.rd (pAs n) AS_DROP_DROP + 1) 65535
            ∧ t.counter (0x303 + 8 * n) = (s.counter (0x303 + 8 * n) + 1) % 2 ^ 48
            ∧ ((∀ x, (s.aso n).urg = some x → x.chan ≠ ch.val) → t.rd (pAs n) AS_URES_STAT ch = 3)))
  ∧ (∀ (n : Fin 4) (raw : List RawSample) (s : State), (s.aso n).urg = none → exec (.urgentResult n raw) s = .next s)
  ∧ ∀ (n : Fin 4) (raw : List RawSample) (u : UrgOp) (s : State), (s.aso n).urg = some u → u.chan < 2 →
      (raw.length ≠ 2 ^ u.avg → exec (.urgentResult n raw) s = .next s)
      ∧ (raw.length = 2 ^ u.avg →
        let xs := s.samplesFrom (calSet u.insel 0) 2 u.first (s.aso n).ovrAt raw
        ∃ t, exec (.urgentResult n raw) s = .next t ∧ t.now = max s.now ((u.first + raw.length) * 2048)
          ∧ (t.aso n).urg = none ∧ t.rd (pAs n) AS_STAT_URG = 0 ∧ t.rd (pAs n) AS_URES_STAT u.chan = 2
          ∧ t.rd (pAs n) AS_URES_RESULT u.chan = resultOf u.shift xs
          ∧ t.rd (pAs n) AS_URES_OVR u.chan = b2n (xs.any (·.ovr))
          ∧ t.rd (pAs n) AS_URES_SUSPECT u.chan = b2n (xs.any (·.suspect)))

/-- The acquisition engine arms, fills its pre-trigger, and accepts the earliest trigger. ACQ_ARM, ARM_INSTANT,
PRETRIGGER_FULL, TRIGGER_ACCEPT, ACQ_FORCE, ACQ_STOP and ACQ_ABORT outside CAPTURE. -/
def Obligations.AcquisitionArmsAndTriggers : Prop :=
  (∀ (r : Requester) (s : State), WriteActs s r pAcq 0x40 (s.acqWord 0) →
      (s.acqState ≠ 0 → ∃ t, exec (.acqArm r) s = .next t ∧ t.acq = s.acq ∧ t.regs = s.regs)
      ∧ (s.acqState = 0 → s.armReason ≠ 0 → ∃ t, exec (.acqArm r) s = .next t ∧ t.acq = s.acq
        ∧ t.rd pAcq ACQ_STAT_STATE = 0 ∧ t.rd pAcq ACQ_STAT_CFGERR = 1 ∧ t.rd pAcq ACQ_STAT_REASON = s.armReason)
      ∧ (s.acqState = 0 → s.armReason = 0 → ∃ t, exec (.acqArm r) s = .next t ∧ t.rd pAcq ACQ_STAT_STATE = 1
        ∧ t.acq = { s.acq with
            ended := 0, stop := false, evs := [], rearmAt := s.now, cur := none, smp := [], ready := [], patSeen := 0,
            patHeld := false }
        ∧ (∀ k ∈ s.acqStreams, t.rd (pAs k) AS_STAT_ACT = 3) ∧ t.counter 0x328 = (s.counter 0x328 + 1) % 2 ^ 48))
  ∧ (∀ s : State, s.acqState = 1 →
      let s1 := if s.bit pAcq PAGE_COMMIT_PEND then s.commitAll pAcq else s
      let at_ := s1.armInstant (s1.recordOf 0).period
      let r := s1.recordOf at_
      let waits := 64 ≤ s1.acq.recs.length ∨ s1.freeBytes < r.pre * r.slot
      (waits → exec .armInstant s = .next (s.wr pAcq ACQ_STAT_MEMWAIT 1))
      ∧ (¬ waits → ∃ t, exec .armInstant s = .next t ∧ t.rd pAcq ACQ_STAT_STATE = 2 ∧ t.rd pAcq ACQ_STAT_MEMWAIT = 0
        ∧ t.now = max s.now at_ ∧ s.acq.rearmAt + 64 * 2048 ≤ at_ ∧ at_ % r.period = 0
        ∧ t.acq.cur = some r ∧ t.acq.recs = s.acq.recs ++ [(s.acq.rseq, s.acq.base)]
        ∧ r.pre = s1.rd pAcq ACQ_PRE_PRE ∧ r.post = s1.rd pAcq ACQ_POST_POST ∧ r.dec = s1.rd pAcq ACQ_DEC_D))
  ∧ (∀ s : State, s.acqState ≠ 1 → exec .armInstant s = .next s)
  ∧ (∀ s : State,
      (∀ r, s.acq.cur = some r → s.acqState = 2 → ∃ t, exec .pretriggerFull s = .next t ∧ t.rd pAcq ACQ_STAT_STATE = 3
        ∧ t.now = max s.now (r.armAt + r.pre * r.dec * r.period) ∧ t.acq = s.acq
        ∧ RegsKept s t [fieldKey pAcq ACQ_STAT_STATE 0 0])
      ∧ (s.acq.cur = none ∨ s.acqState ≠ 2 → exec .pretriggerFull s = .next s))
  ∧ (∀ (raws : List (List RawSample)) (pats : List (BitVec 64)) (s : State),
      (s.acq.cur = none → s.acqState ≠ 1 → exec (.triggerAccept raws pats) s = .next s)
      ∧ (s.acq.cur = none → s.acqState = 1 → ∃ t, exec (.triggerAccept raws pats) s = .next t
        ∧ t.acq = { s.acq with evs := [] } ∧ t.rd pAcq ACQ_STAT_STATE = 1)
      ∧ (∀ r, s.acq.cur = some r → r.fits raws = false → exec (.triggerAccept raws pats) s = .next s)
      ∧ ∀ r, s.acq.cur = some r → r.fits raws = true →
        let i := (s.acq.smp.headD []).length
        let new := s.acqSamples r raws
        let due := fun (e : Nat × Nat) => match r.sampleOf e.2 with
          | some k => decide (k < i + (raws.headD []).length) | none => true
        let ana := (List.range 4).flatMap fun u => (s.anaFirings r i new u).1
        let pat := (s.patFires ((r.armAt + 2047) / 2048 + s.acq.patSeen) s.acq.patHeld pats).1
        let fs := (s.firings r ana pat (s.acq.evs.filter due)).filter fun f => !s.tooEarly r f
        ∃ t, exec (.triggerAccept raws pats) s = .next t
          ∧ t.acq.smp = (s.acq.smp.zip new).map (fun (a, b) => a ++ b) ∧ t.acq.evs = s.acq.evs.filter (fun e => !due e)
          ∧ ((s.acqState ≠ 2 ∧ s.acqState ≠ 3) ∨ lowestSample fs = none →
              t.rd pAcq ACQ_STAT_STATE = s.acqState ∧ t.acq.cur = some r)
          ∧ (s.acqState = 2 ∨ s.acqState = 3 → ∀ k, lowestSample fs = some k →
              t.rd pAcq ACQ_STAT_STATE = 4
              ∧ t.rd pAcq ACQ_TIDXL_TIDX = k % 2 ^ 32 ∧ t.rd pAcq ACQ_TIDXH_TIDX = k / 2 ^ 32 % 2 ^ 16
              ∧ (∀ f ∈ fs, ∀ x, f.2.1 = some x → k ≤ x)
              ∧ (∀ u, u < 4 → bitAt (t.rd pAcq ACQ_TSTAT_FIRED) u = fs.any fun f => decide (f.1 = u) && f.2.1 == some k)
              ∧ (∃ f ∈ fs, f.1 = t.rd pAcq ACQ_TSTAT_TUNIT ∧ f.2.1 = some k ∧ (∀ g ∈ fs, g.2.1 = some k → f.1 ≤ g.1))
              ∧ ∃ x, t.acq.cur = some x ∧ x.tidx = k ∧ x.apre = min r.pre (k / r.dec) ∧ x.short = decide (k < r.pre * r.dec)
                ∧ x.rseq = r.rseq ∧ x.base = r.base ∧ x.armAt = r.armAt))
  ∧ (∀ (r : Requester) (s : State), WriteActs s r pAcq 0x40 (s.acqWord 3) →
      ∃ t, exec (.acqForce r) s = .next t
        ∧ (s.acqState ≠ 0 → t.regs = s.regs ∧ t.acq = { s.acq with evs := s.acq.evs ++ [(0x60, s.now / 1024 * 1024)] })
        ∧ (s.acqState = 0 → t.acq = s.acq))
  ∧ ∀ (r : Requester) (s : State), s.acqState ≠ 4 →
      (WriteActs s r pAcq 0x40 (s.acqWord 1) → ∃ t, exec (.acqStop r) s = .next t ∧ t.rd pAcq ACQ_STAT_STATE = 0
        ∧ (s.acqState ≠ 0 → t.acq.cur = none) ∧ t.acq.finishing = s.acq.finishing)
      ∧ (WriteActs s r pAcq 0x40 (s.acqWord 2) → ∃ t, exec (.acqAbort r) s = .next t ∧ t.rd pAcq ACQ_STAT_STATE = 0
        ∧ (s.acqState ≠ 0 → t.acq.cur = none) ∧ t.acq.finishing = s.acq.finishing)

/-- A record ends with its last sample, by an overflow or by an abort, and is completed and released.
RECORD_LAST_SAMPLE, RECORD_OVERFLOW, RECORD_COMPLETE, ACQ_RELEASE, and ACQ_STOP and ACQ_ABORT in CAPTURE. -/
def Obligations.RecordsEnd : Prop :=
  let ended := fun (s t : State) (r : Rec) (smp : List (List Sample)) (nout : Nat) (ovfl aborted : Bool) =>
    let r1 := { r with nout := nout, ovfl := ovfl, aborted := aborted }
    t.acq.finishing = s.acq.finishing ++ [(r1, smp)] ∧ t.acq.rseq = (s.acq.rseq + 1) % 65536 ∧ t.acq.cur = none
      ∧ t.acq.base = (r.base + (r.pre + (nout - r.apre)) * r.slot + 63) / 64 * 64 % 8388608
      ∧ t.mem = (s.writeRecordMem r1 smp).mem
  (∀ (raws : List (List RawSample)) (s : State),
      (s.acq.cur = none ∨ s.acqState ≠ 4 → exec (.recordLastSample raws) s = .next s)
      ∧ ∀ r, s.acq.cur = some r → s.acqState = 4 →
        let new := s.acqSamples r raws
        let smp := (s.acq.smp.zip new).map fun (a, b) => a ++ b
        let nout := r.apre + r.post
        let whole := nout ≤ (smp.headD []).length / r.dec - r.m0 ∧ r.post ≤ s.postRoom r
        let goesOn := s.bit pAcq ACQ_CFG_REARM && !s.acq.stop
          && !(s.rd pAcq ACQ_NREC_NREC ≠ 0 && decide (s.rd pAcq ACQ_NREC_NREC ≤ s.acq.ended + 1))
        (r.fits raws = false → exec (.recordLastSample raws) s = .next s)
        ∧ (r.fits raws = true → ¬ whole → ∃ t, exec (.recordLastSample raws) s = .next t ∧ t.acq = { s.acq with smp := smp }
          ∧ t.rd pAcq ACQ_STAT_STATE = 4 ∧ t.mem = s.mem)
        ∧ (r.fits raws = true → whole → ∃ t, exec (.recordLastSample raws) s = .next t ∧ ended s t r smp nout false false
          ∧ t.now = max s.now (r.armAt + ((r.tidx / r.dec + r.post) * r.dec - 1) * r.period + 32 * 2048)
          ∧ t.rd pAcq ACQ_STAT_STATE = if goesOn then 1 else 0))
  ∧ (∀ s : State,
      (s.acq.cur = none ∨ s.acqState ≠ 4 → exec .recordOverflow s = .next s)
      ∧ ∀ r, s.acq.cur = some r → s.acqState = 4 →
        let room := s.postRoom r
        (r.post ≤ room ∨ s.outSoFar r < r.apre + room → exec .recordOverflow s = .next s)
        ∧ (room < r.post → r.apre + room ≤ s.outSoFar r → ∃ t, exec .recordOverflow s = .next t
          ∧ ended s t r s.acq.smp (r.apre + room) true false ∧ t.rd pAcq ACQ_STAT_STATE = 0 ∧ t.rd pAcq ACQ_STAT_OVFL = 1
          ∧ t.counter 0x32D = (s.counter 0x32D + 1) % 2 ^ 48))
  ∧ (∀ (r : Requester) (s : State), s.acqState = 4 →
      (WriteActs s r pAcq 0x40 (s.acqWord 1) → ∃ t, exec (.acqStop r) s = .next t ∧ t.acq = { s.acq with stop := true }
        ∧ t.regs = s.regs)
      ∧ (∀ x, s.acq.cur = some x → WriteActs s r pAcq 0x40 (s.acqWord 2) → ∃ t, exec (.acqAbort r) s = .next t
        ∧ ended s t x s.acq.smp (min (s.outSoFar x) (x.apre + min x.post (s.postRoom x))) false true
        ∧ t.rd pAcq ACQ_STAT_STATE = 0))
  ∧ (∀ (r : Rec) (smp : List (List Sample)) (rest : List (Rec × List (List Sample))) (s : State),
      s.acq.finishing = (r, smp) :: rest →
      let e := 512 * (r.rseq % 64)
      ∃ t, exec .recordComplete s = .next t ∧ t.acq.finishing = rest ∧ t.rd pAcq ACQ_RDONE_RDONE = (r.rseq + 1) % 65536
        ∧ bitAt (t.rd pHost HOST_ISTAT_PEND) 11 = true ∧ { t.mem with recHdr := s.mem.recHdr } = s.mem
        ∧ memBytes t.mem.recHdr e 64 = s.recHeader r smp
        ∧ (∀ x ∈ r.list.zip smp, memBytes t.mem.recHdr (e + 0x40 + 0x40 * x.1) 64 = r.block (s.bit pAcq ACQ_CFG_MEAS) x.2)
        ∧ ∀ a, a < e ∨ e + 512 ≤ a → memGet t.mem.recHdr a = memGet s.mem.recHdr a)
  ∧ (∀ s : State, s.acq.finishing = [] → exec .recordComplete s = .next s)
  ∧ ∀ (r : Requester) (v : Word) (s : State),
      let ahead := fun v => (v + 65536 - s.rd pAcq ACQ_RCONS_RCONS) % 65536
      let new := bitsAt v.toNat 0 16
      (s.admits r pAcq false = true → ahead (s.rd pAcq ACQ_RDONE_RDONE) < ahead new →
        exec (.acqRelease r v) s = .next (s.werr pAcq))
      ∧ (WriteActs s r pAcq 0x78 v.toNat → ahead new ≤ ahead (s.rd pAcq ACQ_RDONE_RDONE) →
        ∃ t, exec (.acqRelease r v) s = .next t ∧ t.rd pAcq ACQ_RCONS_RCONS = new
          ∧ t.acq = { s.acq with recs := s.acq.recs.filter fun x => decide (ahead new ≤ ahead x.1) }
          ∧ RegsKept s t [fieldKey pAcq ACQ_RCONS_RCONS 0 0] ∧ t.mem = s.mem)

/-- A step of the time is refused or pending, and applies with its record; holdover is entered on request and by the
watchdog. STEP_REQUEST, STEP_APPLY, HOLD_REQUEST and WATCHDOG_EXPIRE. -/
def Obligations.TimeStepsAndHoldover : Prop :=
  let held := fun (s t : State) (cause : Nat) =>
    t.rd pTime TIME_STAT_HOLDOVER = 1 ∧ t.rd pTime TIME_STAT_HCAUSE = cause ∧ t.time.pieces = s.time.pieces
    ∧ (s.bit pTime TIME_STAT_HOLDOVER = true → OnlyRegs s t [fieldKey pTime TIME_STAT_HCAUSE 0 0])
    ∧ (s.bit pTime TIME_STAT_HOLDOVER = false → t.time.holdFrom = s.now ∧ t.counter 0x383 = (s.counter 0x383 + 1) % 2 ^ 48
      ∧ bitAt (t.rd pHost HOST_ISTAT_PEND) 21 = true)
  (∀ (r : Requester) (s : State), WriteActs s r pTime 0x44 1 →
      (s.stepRefused = true → exec (.stepRequest r) s = .next (s.wr pTime TIME_STAT_SREF 1))
      ∧ (s.stepRefused = false → ∃ t, exec (.stepRequest r) s = .next t ∧ t.rd pTime TIME_STAT_STEPPEND = 1
        ∧ t.time = { s.time with step := some (s.now, s.bit pTime TIME_CFG_STEPSYNC || s.rd pTime TIME_CFG_ROLE ≠ 0) }
        ∧ RegsKept s t [fieldKey pTime TIME_STAT_STEPPEND 0 0]))
  ∧ (∀ s : State, s.stepCycle = none → exec .stepApply s = .next s)
  ∧ (∀ (k : Nat) (s : State), s.stepCycle = some k →
      let epoch := (s.rd pTime TIME_EPOCH_EPOCH + 1) % 2 ^ 16
      let n := s.rd pTime TIME_DLOGN_DLOGN
      ∃ t, exec .stepApply s = .next t ∧ t.now = max s.now (k * 1024) ∧ t.time.step = none
        ∧ t.timeUnits (k * 1024) = ((s.timeUnits (k * 1024) : Int) + s.stepValue * 2 ^ 32).toNat
        ∧ t.rd pTime TIME_STAT_STEPPED = 1 ∧ t.rd pTime TIME_STAT_STEPPEND = 0 ∧ t.rd pTime TIME_EPOCH_EPOCH = epoch
        ∧ t.rd pTime TIME_DLOGN_DLOGN = (n + 1) % 2 ^ 16 ∧ t.rd pTime TIME_DLOG0_W (n % 8) = 0x13
        ∧ t.rd pTime TIME_DLOG1_W (n % 8) = epoch + 65536 * s.rd pTime TIME_STAT_STEPPED
        ∧ t.cnt.demand = none ∧ (s.cnt.demand ≠ none → t.rd pCnt CNT_STAT_SCANC = 1))
  ∧ (∀ (r : Requester) (s : State), WriteActs s r pTime 0x44 2 → ∃ t, exec (.holdRequest r) s = .next t ∧ held s t 1)
  ∧ ∀ s : State,
      let due := !s.bit pTime TIME_CFG_SMODE && s.bit pTime TIME_STAT_STEPPED && decide (s.rd pTime TIME_WDOG_WDOG ≠ 0)
      (due = true → ∃ t, exec .watchdogExpire s = .next t ∧ held s t 3)
      ∧ (due = false → exec .watchdogExpire s = .next s)

/-- Offsets and adj writes set the rate of the time without moving it. OFFSET_SUBMIT, ADJ_WRITE and SHARED_ADJ_APPLY. -/
def Obligations.TimeRateFollowsOffsets : Prop :=
  let runsAt := fun (s t : State) (a : Int) (k : Nat) =>
    (t.piece k).inc = (incNom + a).toNat ∧ t.timeUnits (k * 1024) = s.timeUnits (k * 1024)
    ∧ t.rd pTime TIME_ADJ0_ADJ = ofSigned 40 a % 2 ^ 32 ∧ t.rd pTime TIME_ADJ1_ADJ = ofSigned 40 a / 2 ^ 32 % 2 ^ 8
  let taken := fun (s t : State) (a : Int) =>
    t.rd pTime TIME_STAT_HOLDOVER = 0
    ∧ (s.rd pTime TIME_CFG_ROLE ≠ 1 → runsAt s t a (s.now / 1024 + 1) ∧ t.time.adjQ = s.time.adjQ)
    ∧ (s.rd pTime TIME_CFG_ROLE = 1 → t.time.pieces = s.time.pieces ∧ t.time.adjQ = s.time.adjQ ++ [(a, s.now + 64 * 1024)])
  (∀ (r : Requester) (v : Word) (s : State), WriteActs s r pTime 0x68 v.toNat →
      let o := toSigned 48 (s.rd pTime TIME_OFS0_OFS + bitsAt v.toNat 0 16 * 2 ^ 32)
      let ignored := s.bit pTime TIME_CFG_SMODE || !s.bit pTime TIME_STAT_STEPPED || s.bit pTime TIME_STAT_STEPPEND
        || decide (s.rd pTime TIME_CFG_ROLE = 2)
      let far := s.rd pTime TIME_THR_THR * 65536000 < o.natAbs
      let hold := fun (x : Int) => clampInt (-adjMax) adjMax x
      let p := o * (s.rd pTime TIME_KP_KP : Int) / 65536
      let i0 := s.integrator - o * (s.rd pTime TIME_KI_KI : Int) / 65536
      ∃ t, exec (.offsetSubmit r v) s = .next t ∧ t.rd pTime TIME_OFS1_OFS = bitsAt v.toNat 0 16
        ∧ t.counter 0x380 = (s.counter 0x380 + 1) % 2 ^ 48
        ∧ (ignored = true → t.rd pTime TIME_STAT_OIGN = 1 ∧ t.time = s.time)
        ∧ (ignored = false → far → t.rd pTime TIME_STAT_DISC = 1 ∧ t.rd pTime TIME_STAT_HOLDOVER = 1
          ∧ t.rd pTime TIME_STAT_HCAUSE = 2 ∧ t.time.pieces = s.time.pieces ∧ bitAt (t.rd pHost HOST_ISTAT_PEND) 21 = true)
        ∧ (ignored = false → ¬ far → taken s t (hold (hold i0 - p)) ∧ t.time.lastUsed = some s.now
          ∧ t.integrator = hold i0 ∧ (hold i0 ≠ i0 ∨ hold (hold i0 - p) ≠ hold i0 - p → t.rd pTime TIME_STAT_CLAMP = 1)
          ∧ t.counter 0x381 = (s.counter 0x381 + 1) % 2 ^ 48))
  ∧ (∀ (r : Requester) (v : Word) (s : State),
      (WriteActs s r pTime 0x78 v.toNat → s.adjOpen = false → exec (.adjWrite r v) s = .next s)
      ∧ (WriteActs s r pTime 0x78 v.toNat → s.adjOpen = true →
        ∃ t, exec (.adjWrite r v) s = .next t ∧ t.rd pTime TIME_ADJ1_ADJ = bitsAt v.toNat 0 8
          ∧ taken s t (toSigned 40 (s.rd pTime TIME_ADJ0_ADJ + bitsAt v.toNat 0 8 * 2 ^ 32))))
  ∧ (∀ (a : Int) (at_ : Nat) (rest : List (Int × Nat)) (s : State), s.time.adjQ = (a, at_) :: rest →
      ∃ t, exec .sharedAdjApply s = .next t ∧ t.time.adjQ = rest ∧ t.now = max s.now at_ ∧ runsAt s t a (at_ / 1024))
  ∧ ∀ s : State, s.time.adjQ = [] → exec .sharedAdjApply s = .next s

/-- An Ethernet port takes PTP frames, sends frames and datagrams, and follows its link. FRAME_RECEIVE, FRAME_TRANSMIT,
ETH_LINK_CHANGE and DATAGRAM_SEND; the identification of a datagram's IPv4 header is a free value (assumption log entry
4). -/
def Obligations.EthernetPortsMoveFrames : Prop :=
  (∀ (p : Fin 2) (at_ : Nat) (f : List Byte) (good : Bool) (s : State), s.ethUp p = true →
      let pg := pEth p
      let mine := f.take 6 = s.macOf p ETH_MACL_MAC ETH_MACH_MAC ∨ f.take 6 ∈ ptpMacs
      let prod := s.rd pg ETH_RXPROD_PROD
      let a := s.rd pg ETH_RXBASEL_BASE + s.rd pg ETH_RXBASEH_BASE * 2 ^ 32 + 2048 * prod
      let stored := fun (m0 m : Tab Byte) (b : Nat) (bs : List Byte) => ∀ x, memGet m x =
        if b ≤ x ∧ x < b + bs.length then bs.getD (x - b) 0#8 else memGet m0 x
      ∃ t, exec (.frameReceive p at_ f good) s = .next t ∧ t.now = max s.now at_
        ∧ t.counter (0x389 + 8 * p) = (s.counter (0x389 + 8 * p) + 1) % 2 ^ 48
        ∧ (ptpAt f = none ∨ good = false ∨ f.length < 60 ∨ 1518 < f.length ∨ ¬ mine ∨ s.rxFull p = true →
            t.rd pg ETH_RXDROP_RXDROP = min (s.rd pg ETH_RXDROP_RXDROP + 1) (2 ^ 32 - 1) ∧ t.mem = s.mem
            ∧ t.rd pg ETH_RXPROD_PROD = prod)
        ∧ (∀ hoff csoff, ptpAt f = some (hoff, csoff) → good = true → 60 ≤ f.length → f.length ≤ 1518 → mine →
            s.rxFull p = false →
            let ts := stampPlus (s.timeFrac at_)
              (toSigned 32 (s.rd pg ETH_RXASYM_ASYM) - (rxLat (s.bit pg ETH_CFG_SPEED) (s.bit pg ETH_CFG_FEC) : Nat))
            let bytes := leBytes 2 f.length ++ leBytes 1 (b2n (frameTagged f)) ++ leBytes 1 0 ++ leBytes 2 hoff ++ leBytes 2 csoff
              ++ leBytes 12 ts ++ leBytes 12 0 ++ f
            t.rd pg ETH_RXPROD_PROD = (prod + 1) % s.rd pg ETH_RXSIZE_SIZE % 2 ^ 16
            ∧ bitAt (t.rd pHost HOST_ISTAT_PEND) (13 + p) = true
            ∧ (s.bit pg ETH_CFG_LOC = false → stored s.mem.host t.mem.host a bytes)
            ∧ (s.bit pg ETH_CFG_LOC = true → ∀ k, brewerLocal a = some k → stored s.mem.bw t.mem.bw k bytes)))
  ∧ (∀ (p : Fin 2) (at_ : Nat) (host f : List Byte) (good : Bool) (s : State), s.ethUp p = false →
      exec (.frameReceive p at_ f good) s = .next s ∧ exec (.frameTransmit p at_ host) s = .next s
      ∧ exec (.datagramSend p) s = .next s)
  ∧ (∀ (p : Fin 2) (at_ : Nat) (host : List Byte) (s : State), s.ethUp p = true →
      let pg := pEth p
      let cons := s.rd pg ETH_TXCONS_CONS
      let waits := s.ethReach p = true ∧ s.rd pg ETH_TXPROD_PROD ≠ cons
      let a := s.rd pg ETH_TXBASEL_BASE + s.rd pg ETH_TXBASEH_BASE * 2 ^ 32 + 2048 * cons
      let slot := s.ethSlot p a host
      let field := fun off n => leNat ((slot.drop off).take n)
      let eg := ((s.timeFrac at_ : Int) + (txLat (s.bit pg ETH_CFG_SPEED) (s.bit pg ETH_CFG_FEC) : Nat)
        + toSigned 32 (s.rd pg ETH_TXASYM_ASYM)).toNat
      let out := ptpMode (field 2 1 % 4) (field 4 2) (field 6 2) eg (field 0x14 12) ((slot.drop 32).take (field 0 2))
      (¬ waits → exec (.frameTransmit p at_ host) s = .next s)
      ∧ (waits → ∃ t, exec (.frameTransmit p at_ host) s = .next t ∧ t.now = max s.now at_
        ∧ (t.etho p).sent = out.1 :: (s.etho p).sent
        ∧ t.rd pg ETH_TXCONS_CONS = (cons + 1) % s.rd pg ETH_TXSIZE_SIZE % 2 ^ 16
        ∧ bitAt (t.rd pHost HOST_ISTAT_PEND) (13 + p) = true
        ∧ (s.bit pg ETH_CFG_LOC = false → memGet t.mem.host (a + 2) = BitVec.ofNat 8 (field 2 1 ||| 128)
          ∧ (∀ ts, out.2 = some ts → memBytes t.mem.host (a + 8) 12 = leBytes 12 ts)
          ∧ ∀ x, x ≠ a + 2 → x < a + 8 ∨ a + 20 ≤ x → memGet t.mem.host x = memGet s.mem.host x)))
  ∧ (∀ (p : Fin 2) (up : Bool) (s : State),
      (s.ethOn p = true → s.bit (pEth p) ETH_STAT_LINK ≠ up → ∃ t, exec (.ethLinkChange p up) s = .next t
        ∧ t.rd (pEth p) ETH_STAT_LINK = b2n up ∧ t.rd (pEth p) ETH_STAT_LINKCHG = 1
        ∧ OnlyRegs s t [fieldKey (pEth p) ETH_STAT_LINK 0 0, fieldKey (pEth p) ETH_STAT_LINKCHG 0 0])
      ∧ (s.ethOn p = false ∨ s.bit (pEth p) ETH_STAT_LINK = up → exec (.ethLinkChange p up) s = .next s))
  ∧ ∀ (p : Fin 2) (s : State), s.ethUp p = true →
      let o := s.etho p
      (s.bit (pEth p) EXP_CTL_EN = false ∨ o.queue = [] → exec (.datagramSend p) s = .next s)
      ∧ (s.bit (pEth p) EXP_CTL_EN = true → o.queue ≠ [] → ∃ t id, exec (.datagramSend p) s = .next t ∧ id < 65536
        ∧ t.now = (if 44 ≤ o.queue.length then s.now
            else max s.now (o.firstAt + s.rd (pEth p) EXP_HOLD_HOLD * 3072000))
        ∧ (t.etho p).queue = o.queue.drop 44 ∧ (t.etho p).dropped = 0 ∧ (t.etho p).seq = (o.seq + 1) % 2 ^ 32
        ∧ (t.etho p).sent = s.expFrame p id (o.queue.take 44) :: o.sent ∧ t.rd (pEth p) EXP_SEQ_SEQ = o.seq % 2 ^ 32
        ∧ t.mem = s.mem)

/-- A procedure of the Winnower starts over the units it names, or is refused with a reason, and ends by itself or by
ABORT. CONV_PROCEDURE to SYSF_PROCEDURE, AUTO_LOOP, PROCEDURE_END and WINN_ABORT. -/
def Obligations.ProceduresStartAndEnd : Prop :=
  let begun := fun (s t : State) (proc sites : Nat) =>
    let us := s.unitsOf proc sites
    let take := us.filter fun u => s.unitFree proc u && s.unitReady proc u
    t.rd pWinn WINN_STAT_STATE = 1 ∧ t.rd pWinn WINN_STAT_PROC = proc ∧ t.rd pWinn WINN_STAT_RESTARTS = 0
    ∧ t.winn.todo = take ∧ t.winn.startAt = s.now ∧ t.rd pWinn WINN_NFAIL_NFAIL = us.length - take.length
    ∧ t.rd pWinn WINN_STAT_REASON = (if us.any fun u => !s.unitFree proc u then 1 else if take.length < us.length then 2 else 0)
    ∧ t.counter 0x398 = (s.counter 0x398 + 1) % 2 ^ 48
    ∧ (proc = 6 → t.winn.sites = maskOf take) ∧ (proc = 1 → t.winn.slices = maskOf take)
    ∧ (2 ≤ proc ∧ proc ≤ 5 → t.winn.sheaves = maskOf (take.map (· / 8)))
  let finished := fun (s t : State) (fails : Nat) =>
    t.rd pWinn WINN_NFAIL_NFAIL = fails ∧ t.rd pWinn WINN_STAT_STATE = (if fails = 0 then 2 else 3)
    ∧ t.winn.todo = [] ∧ t.winn.sheaves = 0 ∧ t.winn.sites = 0 ∧ t.winn.slices = 0 ∧ t.winn.img = s.winn.img
    ∧ bitAt (t.rd pHost HOST_ISTAT_PEND) 19 = true
  (∀ (r : Requester) (s : State),
      ∀ x ∈ [(Instr.convProcedure r, 1), (.levelProcedure r, 2), (.cmpProcedure r, 3), (.impProcedure r, 4), (.deskewProcedure r, 5),
        (.loopCalibration r, 6), (.mcskewProcedure r, 7), (.eyeProcedure r, 8), (.syszProcedure r, 9), (.sysfProcedure r, 10)],
      (s.rd pWinn WINN_PROC_PROC ≠ x.2 → exec x.1 s = .next s)
      ∧ (s.rd pWinn WINN_PROC_PROC = x.2 → WriteActs s r pWinn 0x40 1 →
        let busy := s.rd pWinn WINN_STAT_STATE = 1 ∨ s.winn.img ≠ none ∨ s.winn.due ≠ 0
        let refused := fun reason => ∃ t, exec x.1 s = .next t ∧ t.rd pWinn WINN_STAT_SREF = 1 ∧ t.rd pWinn WINN_STAT_REASON = reason
          ∧ OnlyRegs s t [fieldKey pWinn WINN_STAT_SREF 0 0, fieldKey pWinn WINN_STAT_REASON 0 0]
        (busy → refused 1)
        ∧ (¬ busy → s.winnBadArg x.2 = true → refused 9)
        ∧ (¬ busy → s.winnBadArg x.2 = false → s.winnMode x.2 = false → refused 11)
        ∧ (¬ busy → s.winnBadArg x.2 = false → s.winnMode x.2 = true →
          ∃ t, exec x.1 s = .next t ∧ begun s t x.2 (s.rd pWinn WINN_ARG0_ARG))))
  ∧ (∀ s : State,
      let may := s.winn.due ≠ 0 ∧ s.rd pWinn WINN_STAT_STATE ≠ 1 ∧ s.winn.img = none ∧ s.winnMode 6 = true ∧ s.pageState pWinn = 4
      (may → ∃ t, exec .autoLoop s = .next t ∧ begun s t 6 s.winn.due ∧ t.winn.due = 0)
      ∧ (¬ may → exec .autoLoop s = .next s))
  ∧ (∀ s : State,
      (s.rd pWinn WINN_STAT_STATE = 1 ∧ s.winn.todo = [] → ∃ t, exec .procedureEnd s = .next t
        ∧ finished s t (s.rd pWinn WINN_NFAIL_NFAIL))
      ∧ (s.rd pWinn WINN_STAT_STATE ≠ 1 ∨ s.winn.todo ≠ [] → exec .procedureEnd s = .next s))
  ∧ ∀ (r : Requester) (s : State), WriteActs s r pWinn 0x40 2 →
      (s.rd pWinn WINN_STAT_STATE = 1 → ∃ t, exec (.winnAbort r) s = .next t
        ∧ finished s t (min (s.rd pWinn WINN_NFAIL_NFAIL + s.winn.todo.length) 65535))
      ∧ (s.rd pWinn WINN_STAT_STATE ≠ 1 → exec (.winnAbort r) s = .next s)

/-- A unit commits its calibration values when its measurement is within limits, and fails with its reason when it is
not. UNIT_COMMIT, for the measurements of LEVEL, CMP, IMP, LOOP outside a span, EYE, SYSZ and SYSF. -/
def Obligations.UnitsCommitOrFail : Prop :=
  let ends := fun (s t : State) (u reason : Nat) =>
    t.winn.todo = s.winn.todo.filter (fun v => v ≠ u)
    ∧ t.rd pWinn WINN_NFAIL_NFAIL = (if reason = 0 then s.rd pWinn WINN_NFAIL_NFAIL else min (s.rd pWinn WINN_NFAIL_NFAIL + 1) 65535)
    ∧ t.rd pWinn WINN_STAT_REASON = (if s.rd pWinn WINN_STAT_REASON = 0 then reason else s.rd pWinn WINN_STAT_REASON)
  let applies := fun (s : State) (m : UnitMeas) =>
    s.rd pWinn WINN_STAT_STATE = 1 ∧ s.rd pWinn WINN_STAT_PROC = measProc m ∧ measUnit s m ∈ s.winn.todo
  (∀ (m : UnitMeas) (s : State), ¬ applies s m → exec (.unitCommit m) s = .next s)
  ∧ (∀ (c : Fin 320) (a b : BitVec 10) (width resid : Nat) (s : State), applies s (.cmp c a b width resid) →
      let p := pSh (c.val / 8)
      let i := c.val % 8
      let reason := if 384 < (toSigned 10 a.toNat).natAbs ∨ 384 < (toSigned 10 b.toNat).natAbs then 4
        else if 1000 < width then 5 else if 500 < resid then 6 else 0
      ∃ t, exec (.unitCommit (.cmp c a b width resid)) s = .next t ∧ ends s t c reason
        ∧ bitsAt (t.rd pWinn WINN_CRES_REASON c) 4 4 = reason
        ∧ (reason = 0 → t.rd p CH_CALC_OFSA i = a.toNat ∧ t.rd p CH_CALC_OFSB i = b.toNat
          ∧ bitAt (t.rd pWinn WINN_CRES_VALID c) 1 = true)
        ∧ (reason ≠ 0 → t.rd p CH_CALC_OFSA i = s.rd p CH_CALC_OFSA i ∧ t.rd p CH_CALC_OFSB i = s.rd p CH_CALC_OFSB i
          ∧ t.rd pWinn WINN_CRES_VALID c = s.rd pWinn WINN_CRES_VALID c))
  ∧ (∀ (c : Fin 320) (z : BitVec 7) (zr : BitVec 8) (before spread : Nat) (s : State), applies s (.imp c z zr before spread) →
      let p := pSh (c.val / 8)
      let i := c.val % 8
      let reason := if before < 40000 ∨ 60000 < before then 4 else if 200 < spread then 5
        else if 8 < (toSigned 8 zr.toNat).natAbs then 6 else 0
      ∃ t, exec (.unitCommit (.imp c z zr before spread)) s = .next t ∧ ends s t c reason
        ∧ bitsAt (t.rd pWinn WINN_CRES_REASON c) 8 4 = reason
        ∧ (reason = 0 → t.rd p CH_CALZ_ZTRIM i = z.toNat ∧ t.rd p CH_CALZ_ZRES i = zr.toNat
          ∧ bitAt (t.rd pWinn WINN_CRES_VALID c) 2 = true)
        ∧ (reason ≠ 0 → t.rd p CH_CALZ_ZTRIM i = s.rd p CH_CALZ_ZTRIM i ∧ t.rd p CH_CALZ_ZRES i = s.rd p CH_CALZ_ZRES i))
  ∧ (∀ (c : Fin 320) (dg df cg cf : BitVec 8) (noise resid : Nat) (v : Option Nat) (s : State),
      applies s (.level c dg df cg cf noise resid v) →
      let p := pSh (c.val / 8)
      let i := c.val % 8
      let far := fun (x : BitVec 8) n => decide (n < (toSigned 8 x.toNat).natAbs)
      let reason := if s.vrefReason v ≠ 0 then s.vrefReason v else if far dg 98 || far cg 98 || far df 96 || far cf 76 then 4
        else if 500 < noise then 5 else if 1000 < resid then 6 else 0
      ∃ t, exec (.unitCommit (.level c dg df cg cf noise resid v)) s = .next t ∧ ends s t c reason
        ∧ bitsAt (t.rd pWinn WINN_CRES_REASON c) 0 4 = reason
        ∧ (reason = 0 → t.rd p CH_CALL_DGAIN i = dg.toNat ∧ t.rd p CH_CALL_DOFS i = df.toNat ∧ t.rd p CH_CALL_CGAIN i = cg.toNat
          ∧ t.rd p CH_CALL_COFS i = cf.toNat ∧ bitAt (t.rd pWinn WINN_CRES_VALID c) 0 = true)
        ∧ (reason ≠ 0 → t.rd p CH_CALL_DGAIN i = s.rd p CH_CALL_DGAIN i ∧ t.rd p CH_CALL_COFS i = s.rd p CH_CALL_COFS i))
  ∧ (∀ (n : Fin 32) (markers : List (List Nat)) (s : State), applies s (.loop n markers) → s.inSpan n = false →
      let acq := markers.map maxOf
      let none_ := s.channelsOf n = []
      let v := if none_ then 48 * 1024 else maxOf acq
      let reason := if none_ then 0 else if v < 40 * 1024 ∨ 64 * 1024 < v then 4
        else if 1 < spreadOf (acq.map Int.ofNat) then 5 else 0
      ∃ t, exec (.unitCommit (.loop n markers)) s = .next t ∧ ends s t n reason ∧ t.rd pWinn WINN_LRES_REASON n = reason
        ∧ (reason = 0 → t.rd (pSq n) SQ_TLOOP_T = v ∧ t.rd pWinn WINN_LRES_VALID n = 1)
        ∧ (reason ≠ 0 → t.rd (pSq n) SQ_TLOOP_T = s.rd (pSq n) SQ_TLOOP_T))
  ∧ (∀ (l : Fin 10) (w : BitVec 10) (s : State), applies s (.eye l w) →
      ∃ t, exec (.unitCommit (.eye l w)) s = .next t ∧ ends s t l 0
        ∧ (s.laneUp l = true → t.rd pWinn WINN_EYE_WIDTH l = w.toNat ∧ t.rd pWinn WINN_EYE_VALID l = 1
          ∧ t.rd pWinn WINN_EYE_LOW l = if w.toNat * 10 < 3072 then 1 else 0)
        ∧ (s.laneUp l = false → t.rd pWinn WINN_EYE_VALID l = 0))
  ∧ (∀ (mean : Int) (noise : Nat) (s : State), applies s (.sysz mean noise) →
      let i := s.rd pWinn WINN_ARG0_ARG % 16
      let reason := if 64 < noise then 5 else 0
      ∃ t, exec (.unitCommit (.sysz mean noise)) s = .next t ∧ ends s t i reason ∧ t.rd pWinn WINN_YRES_REASON i = reason
        ∧ (reason = 0 → tabGet 0 t.winn.zeros i = mean ∧ t.rd pWinn WINN_YRES_ZDONE i = 1
          ∧ t.rd pWinn WINN_SZMEAN_SZMEAN = ofSigned 32 mean)
        ∧ (reason ≠ 0 → t.winn.zeros = s.winn.zeros ∧ t.rd pWinn WINN_YRES_ZDONE i = s.rd pWinn WINN_YRES_ZDONE i))
  ∧ ∀ (f : Int) (noise : Nat) (s : State), applies s (.sysf f noise) →
      let i := s.rd pWinn WINN_ARG0_ARG % 16
      let z := tabGet 0 s.winn.zeros i
      let ofs := roundDiv z 64
      let gain := sysGain (toSigned 16 (s.rd pWinn WINN_SFULL_SFULL)) z f
      let reason := if (f - z).natAbs < 262144 ∨ 2048 < ofs.natAbs ∨ gain < 98304 ∨ 163839 < gain then 4
        else if 64 < noise then 5 else 0
      ∃ t, exec (.unitCommit (.sysf f noise)) s = .next t ∧ ends s t i reason ∧ t.rd pWinn WINN_YRES_REASON i = reason
        ∧ t.rd pWinn WINN_YRES_ZDONE i = 0
        ∧ (reason = 0 → t.rd pAscan ASYS_OFS_OFS i = ofSigned 16 ofs ∧ t.rd pAscan ASYS_GAIN_GAIN i = gain.toNat
          ∧ t.rd pWinn WINN_YRES_VALID i = 1)
        ∧ (reason ≠ 0 → t.rd pAscan ASYS_OFS_OFS i = s.rd pAscan ASYS_OFS_OFS i ∧ t.rd pAscan ASYS_GAIN_GAIN i = s.rd pAscan ASYS_GAIN_GAIN i)

/-- The calibration image is saved and loaded whole, or refused with its reason. IMGSAVE, IMGLOAD, FLASHLOAD, FLASHSAVE
and IMAGE_OPERATION_DONE. -/
def Obligations.ImagesAreSavedAndLoaded : Prop :=
  (∀ (r : Requester) (s : State),
      ∀ x ∈ [(Instr.imgsave r, 0), (.imgload r, 1), (.flashload r, 2), (.flashsave r, 3)], WriteActs s r pWinn 0x100 (2 ^ x.2) →
      let busy := s.rd pWinn WINN_STAT_STATE = 1 ∨ s.winn.img ≠ none
      (busy → exec x.1 s = .next (s.wr pWinn WINN_IMG_STAT_REASON 7))
      ∧ (¬ busy → ∃ t, exec x.1 s = .next t ∧ t.rd pWinn WINN_IMG_STAT_BUSY = 1 ∧ t.winn = { s.winn with img := some x.2 }
        ∧ RegsKept s t [fieldKey pWinn WINN_IMG_STAT_BUSY 0 0]
        ∧ (x.2 ≠ 3 → t.mem = s.mem)
        ∧ (x.2 = 3 → (∀ a, memGet t.mem.flash a = if a < 64 then 0#8 else memGet s.mem.flash a)
          ∧ { t.mem with flash := s.mem.flash } = s.mem)))
  ∧ (∀ (data : List Byte) (readOk : Bool) (s : State), s.winn.img = none → exec (.imageOperationDone data readOk) s = .next s)
  ∧ ∀ (data : List Byte) (readOk : Bool) (k : Nat) (s : State), s.winn.img = some k →
      let waits := (k ≤ 1 ∧ s.hostOk = false) ∨ (k = 1 ∧ readOk = true ∧ data.length ≠ s.rd pWinn WINN_IMG_LEN_LEN)
      let image : Option (List Byte) := if readOk = false then none else if k = 1 then some data else s.flashImage
      let status := [fieldKey pWinn WINN_IMG_STAT_REASON 0 0, fieldKey pWinn WINN_IMG_STAT_BUSY 0 0,
        fieldKey pWinn WINN_IMG_STAT_DONE 0 0, fieldKey pWinn WINN_IMG_STAT_ORIGIN 0 0, fieldKey pHost HOST_ISTAT_PEND 0 0]
      (waits → exec (.imageOperationDone data readOk) s = .next s)
      ∧ (¬ waits → ∃ t, exec (.imageOperationDone data readOk) s = .next t ∧ t.rd pWinn WINN_IMG_STAT_BUSY = 0
        ∧ t.rd pWinn WINN_IMG_STAT_DONE = 1 ∧ t.winn.img = none ∧ bitAt (t.rd pHost HOST_ISTAT_PEND) 19 = true
        ∧ (k = 0 → memBytes t.mem.host s.imgBase 14352 = s.image ∧ t.rd pWinn WINN_IMG_LEN_LEN = 14352)
        ∧ (k = 3 → memBytes t.mem.flash 0 14352 = s.image)
        ∧ (k = 1 ∨ k = 2 → t.mem = s.mem
          ∧ (image = none → t.rd pWinn WINN_IMG_STAT_REASON = 8 ∧ RegsKept s t status)
          ∧ ∀ bs, image = some bs →
            t.rd pWinn WINN_IMG_STAT_REASON = (s.imageReason bs).1
            ∧ ((s.imageReason bs).1 ≠ 0 → RegsKept s t status)
            ∧ ((s.imageReason bs).1 = 0 → RegsKept ((s.imageReason bs).2.foldl State.putSection s) t status
              ∧ t.rd pWinn WINN_IMG_STAT_ORIGIN = leNat ((bs.drop 6).take 2) % 2)))

/-- A microword of a control ROM forms the next address as its SEQ says, waits, ends its routine, or stops it with an
error. NEXT_WORD to END of a microroutine and MICROWORD_WAIT_END; the routine number of an idle context is a free value
(assumption log entry 4). -/
def Obligations.MicrowordsSequence : Prop :=
  let goes := fun (s t : State) (u k : Nat) (x : MicroCtx) (w : BitVec 128) (c : Bool) (disp : Nat) (load : Option (Fin 2)) =>
    let f := microFields w
    let after := x.upc + 1
    let y := fun upc stack => { x with
      upc := upc, stack := stack, waiting := false, since := x.since + ucCycle u, committed := x.committed || f.commit,
      timer0 := (if load = some 0 then f.imm else x.timer0) - 1, timer1 := (if load = some 1 then f.imm else x.timer1) - 1 }
    let stops := fun (stack : Bool) => t.uctx u k = {} ∧ t.rd pUc UC_LASTAB_UPC u = x.upc % 2 ^ 12
      ∧ (if stack then t.rd pUc UC_STAT_STKERR u = 1 else t.rd pUc UC_STAT_ADDRERR u = 1)
    let goes := fun upc stack => (upc < ucWords u → t.uctx u k = y upc stack ∧ t.regs = s.regs) ∧ (ucWords u ≤ upc → stops false)
    let push := (x.stack.length < 4 → goes f.target (after :: x.stack)) ∧ (4 ≤ x.stack.length → stops true)
    t.now = max s.now x.since
    ∧ (microSeq w = 0 → goes after x.stack)
    ∧ (microSeq w = 1 → goes f.target x.stack)
    ∧ (microSeq w = 2 → goes (if c then f.target else after) x.stack)
    ∧ (microSeq w = 3 → push)
    ∧ (microSeq w = 4 → (c = true → push) ∧ (c = false → goes after x.stack))
    ∧ (microSeq w = 5 → (∀ a rest, x.stack = a :: rest → goes a rest) ∧ (x.stack = [] → stops true))
    ∧ (microSeq w = 6 → goes (f.target + disp) x.stack)
    ∧ (microSeq w = 7 → (x.stack = [] → t.uctx u k = {} ∧ t.regs = s.regs) ∧ (x.stack ≠ [] → stops true))
  (∀ (u : Fin 10) (k : Fin 4) (at_ : BitVec 12) (w : BitVec 128) (sig : Bool) (disp : BitVec 4) (load : Option (Fin 2)) (s : State),
      ∀ q ∈ [(Instr.nextWord u k at_ w sig load, 0, 0), (.branchMicroword u k at_ w sig load, 1, 0),
        (.cbranchMicroword u k at_ w sig load, 2, 0), (.microCall u k at_ w sig load, 3, 0), (.ccallMicroword u k at_ w sig load, 4, 0),
        (.microRet u k at_ w sig load, 5, 0), (.dispatchMicroword u k at_ w sig disp load, 6, disp.toNat),
        (.microEnd u k at_ w sig load, 7, 0)],
      let x0 := s.uctx u k
      let applies := microSeq w = q.2.1 ∧ k.val < ucContexts u ∧ at_.toNat < ucWords u ∧ s.domainOn (ucDomain u) = true
        ∧ s.bit pUc UC_STAT_SIGFAIL u = false ∧ (x0.active = true → x0.upc = at_.toNat ∧ x0.waiting = false)
      (¬ applies → exec q.1 s = .next s)
      ∧ (applies → ∃ t x, exec q.1 s = .next t ∧ (x0.active = true → x = x0)
        ∧ (x0.active = false → ∃ n, n < 256 ∧ x = { active := true, upc := at_.toNat, since := s.now, entry := at_.toNat, routine := n })
        ∧ (let c := microCond x (microFields w) sig
           ((microFields w).wait = true ∧ c = false → t.uctx u k = { x with waiting := true } ∧ t.regs = s.regs)
           ∧ ((microFields w).wait = false ∨ c = true → goes s t u k x w c q.2.2 load))))
  ∧ ∀ (u : Fin 10) (k : Fin 4) (w : BitVec 128) (cycles : Nat) (sig : Bool) (disp : BitVec 4) (load : Option (Fin 2)) (s : State),
      let x := s.uctx u k
      let f := microFields w
      let y := { x with timer0 := x.timer0 - cycles, timer1 := x.timer1 - cycles, since := x.since + cycles * ucCycle u }
      let c := microCond y f sig
      let limit := 2 ^ (f.tmo + 3)
      let ends := x.active = true ∧ x.waiting = true ∧ f.wait = true ∧ (f.tmo = 0 ∨ cycles ≤ limit)
        ∧ (c = true ∨ (f.tmo ≠ 0 ∧ cycles = limit))
      (ends → ∃ t, exec (.microwordWaitEnd u k w cycles sig disp load) s = .next t ∧ goes s t u k y w c disp.toNat load)
      ∧ (¬ ends → exec (.microwordWaitEnd u k w cycles sig disp load) s = .next s)

/-- A Brewer core is released and held, executes instructions, traps, wakes and obeys the debug module. BREWER_RUN,
BREWER_HOLD, BREWER_INSTRUCTION, MACHINE_TIMER_INTERRUPT and DEBUG_MODULE_REQUEST. The meaning of the RISC-V
instructions is the ISA's (PRESUMED, assumption log entry 120). -/
def Obligations.BrewersExecute : Prop :=
  let trapped := fun (s t : State) (n cause : Nat) =>
    let c := s.core n
    (t.core n).mepc = c.pc ∧ (t.core n).mcause = cause ∧ (t.core n).user = false ∧ bitAt (t.core n).mstatus 3 = false
    ∧ bitAt (t.core n).mstatus 7 = bitAt c.mstatus 3 ∧ bitsAt (t.core n).mstatus 11 2 = (if c.user then 0 else 3)
    ∧ (t.core n).pc = (if 2 ^ 31 ≤ cause ∧ c.mtvec % 2 = 1 then c.mtvec / 4 * 4 + 4 * (cause % 2 ^ 31) else c.mtvec / 4 * 4) % 2 ^ 32
    ∧ t.mem = s.mem ∧ (t.core n).x = c.x
  (∀ (r : Requester) (n : Fin 16) (v : Word) (s : State), WriteActs s r (pBw n) 0x40 (v ||| 1).toNat →
      ∃ t, exec (.brewerRun r n v) s = .next t ∧ t.rd (pBw n) BW_CTL_RUN = 1 ∧ t.rd (pBw n) BW_STAT_RESET = 0
        ∧ (s.bit (pBw n) BW_STAT_RESET = true →
            t.core n = { pc := s.rd (pBw n) BW_RESETVEC_VEC, mtimeAt := s.now, t := s.now } ∧ ∀ m, m ≠ n.val → t.core m = s.core m)
        ∧ (s.bit (pBw n) BW_STAT_RESET = false → t.bwc = s.bwc))
  ∧ (∀ (r : Requester) (n : Fin 16) (v : Word) (s : State), WriteActs s r (pBw n) 0x40 (v &&& ~~~1).toNat →
      ∃ t, exec (.brewerHold r n v) s = .next t ∧ t.rd (pBw n) BW_CTL_RUN = 0 ∧ t.rd (pBw n) BW_STAT_RESET = 1
        ∧ (s.bit (pBw n) BW_STAT_RESET = true → t.bwc = s.bwc ∧ t.brst = s.brst)
        ∧ (s.bit (pBw n) BW_STAT_RESET = false →
            t.core n = { s.core n with stall := .none, reserved := none, halted := false, haltReq := false }
            ∧ t.rd (pBw n) BW_STAT_TAKING = 0 ∧ (∀ k ∈ t.brst.takers, k.1 ≠ n.val)
            ∧ ∀ e en at_, tabFind s.brst.entries e = some en → en.st = .dispatched n at_ →
                ∀ x, tabFind t.brst.entries e = some x → ∃ ts, x.st = .reporting 0x82 n ts))
  ∧ (∀ (n : Fin 16) (x : BrewerExt) (s : State),
      let c := s.core n
      (s.coreRuns n = false ∨ c.halted = true ∨ c.stall ≠ .none → exec (.brewerInstruction n x) s = .next s)
      ∧ (s.coreRuns n = true → c.halted = false → c.stall = .none →
        (c.haltReq = true → ∃ t, exec (.brewerInstruction n x) s = .next t ∧ (t.core n).halted = true ∧ (t.core n).dpc = c.pc
          ∧ (t.core n).x = c.x)
        ∧ (c.haltReq = false → bitAt c.dcsr 2 = false → ∀ cause, s.bwInterrupt n = some cause →
          ∃ t, exec (.brewerInstruction n x) s = .next t ∧ trapped s t n cause)))
  ∧ (∀ (n : Fin 16) (x : BrewerExt) (o : RvOp) (len enc : Nat) (s : State), s.bwAt n x o len enc →
      let c := s.core n
      let next := add32 c.pc len
      ∃ t, exec (.brewerInstruction n x) s = .next t
        ∧ (∀ f3 alt rd a b, o = .op f3 alt rd a b → XSet s t n rd (aluOp f3 alt (c.get a) (c.get b)) ∧ Retired s t n next ∧ t.mem = s.mem)
        ∧ (∀ f3 alt rd a imm, o = .opImm f3 alt rd a imm → XSet s t n rd (aluOp f3 alt (c.get a) imm) ∧ Retired s t n next
          ∧ t.mem = s.mem)
        ∧ (∀ f3 rd a b, o = .muldiv f3 rd a b → XSet s t n rd (mulDiv f3 (c.get a) (c.get b)) ∧ Retired s t n next)
        ∧ (∀ rd imm, o = .lui rd imm → XSet s t n rd imm ∧ Retired s t n next)
        ∧ (∀ rd imm, o = .jal rd imm → XSet s t n rd next ∧ Retired s t n (add32 c.pc imm))
        ∧ (∀ rd a imm, o = .jalr rd a imm → XSet s t n rd next ∧ Retired s t n (add32 (c.get a) imm / 2 * 2))
        ∧ (∀ f3 a b imm, o = .branch f3 a b imm → (t.core n).x = c.x
          ∧ Retired s t n (if branchTaken f3 (c.get a) (c.get b) then add32 c.pc imm else next))
        ∧ (∀ rd a imm, o = .load 2 rd a imm →
            let addr := add32 (c.get a) imm
            addr % 4 = 0 → addr < 0x40000 → c.pmpOk c.dataUser addr 4 0 = true → x.data = .ok →
            XSet s t n rd (memNat s.mem.bw (n * 0x40000 + addr) 4) ∧ Retired s t n next ∧ t.mem = s.mem)
        ∧ (∀ a b imm, o = .store 2 a b imm →
            let addr := add32 (c.get a) imm
            addr % 4 = 0 → addr < 0x40000 → c.pmpOk c.dataUser addr 4 1 = true →
            (t.core n).x = c.x ∧ Retired s t n next ∧ ∀ k, memGet t.mem.bw k =
              if n * 0x40000 + addr ≤ k ∧ k < n * 0x40000 + addr + 4
              then (leBytes 4 (c.get b)).getD (k - (n * 0x40000 + addr)) 0#8 else memGet s.mem.bw k)
        ∧ (o = .ecall → trapped s t n (if c.user then 8 else 11))
        ∧ (o = .illegal → trapped s t n 2)
        ∧ (o = .mret → c.user = false → Retired s t n c.mepc ∧ (t.core n).user = decide (bitsAt c.mstatus 11 2 = 0)
          ∧ bitAt (t.core n).mstatus 3 = bitAt c.mstatus 7))
  ∧ (∀ (n : Fin 16) (s : State),
      let c := s.core n
      let s1 := s.advanceTo (c.mtimeAt + (c.mtimecmp - c.mtime) * 2048)
      (s.coreRuns n = false → exec (.machineTimerInterrupt n) s = .next s)
      ∧ (s.coreRuns n = true → ∃ t, exec (.machineTimerInterrupt n) s = .next t
        ∧ t.now = max s.now (c.mtimeAt + (c.mtimecmp - c.mtime) * 2048)
        ∧ (c.stall = .wfi → s1.mip n &&& c.mie ≠ 0 → (t.core n).stall = .none ∧ (t.core n).pc = c.pc)
        ∧ (c.stall = .none ∨ s1.mip n &&& c.mie = 0 → t.bwc = s.bwc)))
  ∧ (∀ (n : Fin 16) (q : DmRequest) (s : State), s.rd pDbg DBG_LEVEL_LEVEL ≠ 2 ∨ s.coreRuns n = false →
      exec (.debugModuleRequest n q) s = .next s)
  ∧ ∀ (n : Fin 16) (s : State), s.rd pDbg DBG_LEVEL_LEVEL = 2 → s.coreRuns n = true →
      let c := s.core n
      (c.halted = true → exec (.debugModuleRequest n .halt) s = .next s)
      ∧ (c.halted = false → (∀ rd, c.stall ≠ .take rd) → ∃ t, exec (.debugModuleRequest n .halt) s = .next t
        ∧ (t.core n).halted = true ∧ (t.core n).dpc = c.pc ∧ (t.core n).x = c.x)
      ∧ (c.halted = true → ∃ t, exec (.debugModuleRequest n .resume) s = .next t ∧ (t.core n).halted = false
        ∧ (t.core n).pc = c.dpc / 2 * 2 ∧ (t.core n).user = decide (c.dcsr % 4 = 0) ∧ (t.core n).x = c.x)
      ∧ (c.halted = false → exec (.debugModuleRequest n .resume) s = .next s)
      ∧ ∀ i, i < 32 →
        (c.halted = true → exec (.debugModuleRequest n (.readReg (BitVec.ofNat 16 (0x1000 + i)))) s = .next { s with rdata := c.get i }
          ∧ ∀ v : Word, ∃ t, exec (.debugModuleRequest n (.writeReg (BitVec.ofNat 16 (0x1000 + i)) v)) s = .next t
            ∧ XSet s t n i v.toNat ∧ t.regs = s.regs ∧ t.mem = s.mem)

/-- A Brewer takes, tries, completes, submits and cancels work items by its Barista registers, and the Barista
dispatches, reports and times them out. BARISTA_TAKE, BARISTA_TRY, BARISTA_DONE, BARISTA_SUB, BARISTA_CANCEL,
ITEM_DISPATCH, COMPLETION_REPORT and DISPATCH_TIMEOUT. -/
def Obligations.BaristaGivesItems : Prop :=
  let gives := fun (s t : State) (n e : Nat) (en : Entry) =>
    let a := n * 0x40000 + s.rd (pBw n) BW_IBUF_ADDR
    tabFind t.brst.entries e = some { en with st := .dispatched n s.now }
    ∧ (∀ k, k ≠ e → tabFind t.brst.entries k = tabFind s.brst.entries k)
    ∧ ∀ k, memGet t.mem.bw k = if a ≤ k ∧ k < a + (itemBytes en.item en.enq).length
        then (itemBytes en.item en.enq).getD (k - a) 0#8 else memGet s.mem.bw k
  (∀ (n : Fin 16) (x : BrewerExt) (s : State),
      ∀ q ∈ [(Instr.baristaTake n x, 0x800), (.baristaTry n x, 0x801), (.baristaDone n x, 0x802), (.baristaSub n x, 0x803),
        (.baristaCancel n x, 0x804)], s.nextIsCsr n q.2 = false → exec q.1 s = .next s)
  ∧ (∀ (n : Fin 16) (x : BrewerExt) (f3 rd rs1 r ill : Nat) (s : State), s.bwAt n x (.csr f3 rd r rs1) 4 ill →
      (s.core n).user = false ∨ s.bit (pBw n) BW_CTL_UBAR = true →
      let c := s.core n
      let v := c.get rs1
      let next := add32 c.pc 4
      (r = 0x800 → f3 % 4 ≠ 1 → rs1 = 0 → ∃ t, exec (.baristaTake n x) s = .next t
        ∧ (s.brstUp = false → XSet s t n rd 0 ∧ Retired s t n next)
        ∧ (s.brstUp = true → (t.core n).stall = .take rd ∧ (t.core n).pc = c.pc ∧ t.now = max s.now c.t
          ∧ t.brst.takers = s.brst.takers ++ [(n.val, t.now)] ∧ t.rd (pBw n) BW_STAT_TAKING = 1))
      ∧ (r = 0x801 → f3 % 4 ≠ 1 → rs1 = 0 → ∃ t, exec (.baristaTry n x) s = .next t ∧ Retired s t n next
        ∧ (s.brstUp = false ∨ s.nextItem n = none → XSet s t n rd 0 ∧ t.brst = s.brst ∧ t.mem = s.mem)
        ∧ (s.brstUp = true → ∀ e en, s.nextItem n = some (e, en) → XSet s t n rd (s.handle e en.item) ∧ gives s t n e en))
      ∧ (r = 0x802 → f3 = 1 → rd = 0 → ∃ t, exec (.baristaDone n x) s = .next t ∧ Retired s t n next ∧ (t.core n).x = c.x
        ∧ (s.brstUp = false → t.brst = s.brst)
        ∧ (s.brstUp = true →
          let e := v % 4096
          let right := fun en : Entry => (∃ at_, en.st = .dispatched n at_) ∧ v / 4096 % 128 = tabGet 0 s.brst.seqs e
            ∧ bitAt v 19 = s.brst.epoch
          (∀ en, tabFind s.brst.entries e = some en → right en →
            if s.reported en.item then ∃ ts, tabFind t.brst.entries e = some { en with st := .reporting (v / 2 ^ 24 % 128) n ts }
            else tabFind t.brst.entries e = none)
          ∧ ((∀ en, tabFind s.brst.entries e = some en → ¬ right en) → t.brst.entries = s.brst.entries
            ∧ t.rd pBrst BRST_STAT_STALE = 1 ∧ t.rd pBrst BRST_STALE_STALE = min (s.rd pBrst BRST_STALE_STALE + 1) 65535)))
      ∧ (r = 0x803 → f3 = 1 → ∃ t res, exec (.baristaSub n x) s = .next t ∧ Retired s t n next ∧ XSet s t n rd res
        ∧ (v % 32 = 0 → v < 0x40000 → Submitted s t (0x40 + n) (memBytes s.mem.bw (n * 0x40000 + v) 32) res)
        ∧ (s.brstUp = true → v % 32 ≠ 0 ∨ 0x40000 ≤ v → res = 3 ∧ t.brst = s.brst))
      ∧ (r = 0x804 → f3 = 1 → ∃ t1 t res, exec (.baristaCancel n x) s = .next t ∧ Retired s t n next ∧ XSet s t n rd res
        ∧ Cancelled s t1 (0x40 + n) v res ∧ t.brst = t1.brst))
  ∧ (∀ s : State, s.nextTaker = none ∨ s.brstUp = false → exec .itemDispatch s = .next s)
  ∧ (∀ (n at_ e rd : Nat) (en : Entry) (s : State), s.brstUp = true → s.nextTaker = some (n, at_) → n < 16 →
      s.nextItem n = some (e, en) → (s.core n).stall = .take rd →
      (∀ k ∈ s.brst.takers, (s.nextItem k.1).isSome = true → at_ ≤ k.2)
      ∧ ∃ t, exec .itemDispatch s = .next t ∧ gives s t n e en ∧ XSet s t n rd (s.handle e en.item)
        ∧ (t.core n).pc = ((s.core n).pc + 4) % 2 ^ 32 ∧ (t.core n).stall = .none ∧ t.rd (pBw n) BW_STAT_TAKING = 0
        ∧ t.brst.takers = s.brst.takers.filter fun k => k.1 ≠ n)
  ∧ (∀ s : State, s.brst.reports = [] → exec .completionReport s = .next s)
  ∧ (∀ (e code brewer ts : Nat) (rest : List Nat) (en : Entry) (s : State), s.brst.reports = e :: rest →
      tabFind s.brst.entries e = some en → en.st = .reporting code brewer ts →
      let prod := s.rd pBrst BRST_CQPROD_PROD
      let size := s.rd pBrst BRST_CQSIZE_SIZE
      let a := s.rd pBrst BRST_CQBASEL_BASE + s.rd pBrst BRST_CQBASEH_BASE * 2 ^ 32 + 16 * prod
      let full := (prod + 1) % size = s.rd pBrst BRST_CQCONS_CONS
      (s.brstUp = false ∨ s.hostOk = false → exec .completionReport s = .next s)
      ∧ (s.brstUp = true → s.hostOk = true → full → exec .completionReport s = .next (s.wr pBrst BRST_STAT_CQFULL 1))
      ∧ (s.brstUp = true → s.hostOk = true → ¬ full → ∃ t, exec .completionReport s = .next t ∧ t.brst.reports = rest
        ∧ tabFind t.brst.entries e = none ∧ t.rd pBrst BRST_CQPROD_PROD = (prod + 1) % size % 2 ^ 16
        ∧ bitAt (t.rd pHost HOST_ISTAT_PEND) 8 = true
        ∧ memBytes t.mem.host a 16 = leBytes 4 en.item.token ++ leBytes 1 code ++ leBytes 1 en.item.src ++ leBytes 1 brewer
            ++ leBytes 1 en.item.typ ++ leBytes 8 ts
        ∧ ∀ k, k < a ∨ a + 16 ≤ k → memGet t.mem.host k = memGet s.mem.host k))
  ∧ (∀ s : State, s.nextTimeout = none ∨ s.brstUp = false → exec .dispatchTimeout s = .next s)
  ∧ ∀ (e b at_ : Nat) (en : Entry) (s : State), s.brstUp = true → s.nextTimeout = some (e, en, b, at_) →
      ∃ t, exec .dispatchTimeout s = .next t ∧ t.now = max s.now at_ ∧ Completed s t e en 0x81 b
        ∧ t.rd pBrst BRST_STAT_TMO = 1 ∧ (t.flto 102).pair = true

/-- The host submits and cancels items, doorbells reach a Brewer, held items are accepted, and the Barista's peaks,
histogram and loads are kept. BRST_SUBGO, BRST_CANCEL, BW_DOOR, HELD_ITEM_ACCEPT, PEAK_CLEAR, HISTOGRAM_CLEAR and
LOAD_WINDOW_END. -/
def Obligations.HostItemsAndBaristaObservation : Prop :=
  (∀ (r : Requester) (s : State), WriteActs s r pBrst 0x80 1 →
      ∃ t, exec (.brstSubgo r) s = .next t ∧ Submitted s t 0x30 s.subBytes (t.rd pBrst BRST_SUBRES_RES))
  ∧ (∀ (r : Requester) (token : Word) (s : State), WriteActs s r pBrst 0x88 token.toNat →
      ∃ t, exec (.brstCancel r token) s = .next t ∧ Cancelled s t 0x30 token.toNat (t.rd pBrst BRST_CANRES_RES))
  ∧ (∀ (r : Requester) (n : Fin 16) (v : Word) (s : State), WriteActs s r (pBw n) 0x54 v.toNat →
      let door := s.rd (pBw n) BW_DOOR_DOOR ||| v.toNat
      ∃ t, exec (.bwDoor r n v) s = .next t ∧ t.rd (pBw n) BW_DOOR_DOOR = door
        ∧ ((s.core n).stall = .none → t.bwc = s.bwc)
        ∧ ((s.core n).stall = .wfi → s.bit (pBw n) BW_IE_DOOR = true → bitAt (s.core n).mie 11 = true → door ≠ 0 →
            (t.core n).stall = .none ∧ (t.core n).pc = (s.core n).pc)
        ∧ ∀ m, m ≠ n.val → t.core m = s.core m)
  ∧ (∀ s : State,
      let first := (List.range 66).find? s.canAcceptHeld
      (first = none ∨ s.brstUp = false → exec .heldItemAccept s = .next s)
      ∧ ∀ k it, s.brstUp = true → first = some k → s.heldItem k = some it →
        ∃ t e en, exec .heldItemAccept s = .next t ∧ s.freeEntry = some e ∧ tabFind t.brst.entries e = some en
          ∧ en.st = .queued ∧ en.item.token = it.token ∧ en.item.arg = it.arg ∧ en.item.src = it.src ∧ en.item.pl = it.pl
          ∧ t.heldItem k = none ∧ ∀ j, j < 66 → j ≠ k → t.heldItem j = s.heldItem j)
  ∧ (∀ (r : Requester) (s : State), WriteActs s r pBrst 0x44 1 →
      ∃ t, exec (.peakClear r) s = .next t ∧ (∀ l, l < 8 → t.rd pBrst BRST_DEPTH_PEAK l = s.queuedCount l % 2 ^ 13)
        ∧ t.brst = s.brst ∧ RegsKept s t ((List.range 8).map fun l => fieldKey pBrst BRST_DEPTH_PEAK l 0))
  ∧ (∀ (r : Requester) (s : State), WriteActs s r pBrst 0x44 2 →
      ∃ t, exec (.histogramClear r) s = .next t ∧ (∀ k, k < 16 → t.rd pBrst BRST_HIST_BIN k = 0)
        ∧ t.brst = s.brst ∧ RegsKept s t ((List.range 16).map fun k => fieldKey pBrst BRST_HIST_BIN k 0))
  ∧ ∀ s : State,
      let len := s.rd pBrst BRST_LWIN_LWIN * 3072000
      (s.brstUp = false → exec .loadWindowEnd s = .next s)
      ∧ (s.brstUp = true → ∃ t, exec .loadWindowEnd s = .next t ∧ t.now = max s.now (s.brst.winStart + len)
        ∧ t.brst.winStart = t.now ∧ t.brst.ran = []
        ∧ ∀ n, n < 16 →
          let since := tabGet 0 s.brst.runSince n
          let ran := tabGet 0 s.brst.ran n + if since = 0 then 0 else t.now - max (since - 1) s.brst.winStart
          t.rd pBrst BRST_BLOAD_LOAD n = min 65535 (ran * 65536 / max 1 len))

/-- A read of CNT_L shadows the high bits, a write of CNT_L waits for CNT_H, and CLRALL clears every counter of the
page. COUNTER_WRITE, COUNTER_CLEAR_ALL and the reads of CNT_L and CNT_H; that events of the cycle of a write set COLL is
R432. The free number of events is the model's (assumption log entry 131). -/
def Obligations.CountersReadWrittenAndCleared : Prop :=
  (∀ (id : Fin 1024) (s : State), s.pageState pCnt = 4 →
      let u := s.accrue id
      ∃ t, exec (.cntLRead id) s = .next t ∧ t.rdata = u.counter id % 2 ^ 32
        ∧ tabFind t.cnt.readShadow id = some (u.counter id / 2 ^ 32) ∧ t.cnt.vals = u.cnt.vals ∧ t.regs = u.regs
        ∧ (countsOutside id = false → t.rdata = s.counter id % 2 ^ 32 ∧ t.cnt.vals = s.cnt.vals ∧ t.regs = s.regs)
        ∧ (countsOutside id = true → s.counterOn id = true →
            t.counter id = (s.counter id + Config.freeValue s.free) % 2 ^ 48))
  ∧ (∀ (r : Requester) (id : Fin 1024) (h : Nat) (s : State), s.pageState pCnt = 4 → s.mayRead r pCnt = true →
      tabFind s.cnt.readShadow id = some h →
      ∃ t, exec (.rcRead r (BitVec.ofNat 26 (pageBase pCnt + 0x1004 + 8 * id)) 4) s = .next t
        ∧ t.rdata = h % 2 ^ 16 ∧ tabFind t.cnt.readShadow id = none ∧ t.cnt.vals = s.cnt.vals ∧ t.regs = s.regs)
  ∧ (∀ (r : Requester) (id : Fin 1024) (v : Word) (events : Nat) (s : State), s.admits r pCnt false = true →
      cntWritable id = true → s.counterOn id = true →
      (∃ t, exec (.counterWrite r id false v events) s = .next t ∧ tabFind t.cnt.heldLow id = some v.toNat
        ∧ t.cnt.vals = s.cnt.vals ∧ t.regs = s.regs)
      ∧ ∃ t, exec (.counterWrite r id true v events) s = .next t ∧ tabFind t.cnt.heldLow id = none
        ∧ (∀ low, tabFind s.cnt.heldLow id = some low → low < 2 ^ 32 → t.counter id = v.toNat % 2 ^ 16 * 2 ^ 32 + low)
        ∧ (tabFind s.cnt.heldLow id = none →
            t.counter id = v.toNat % 2 ^ 16 * 2 ^ 32 + (s.accrue id).counter id % 2 ^ 32)
        ∧ (∀ k, k ≠ id.val → t.counter k = s.counter k ∧ tabFind t.cnt.heldLow k = tabFind s.cnt.heldLow k)
        ∧ bitAt (t.rd pCnt CNT_COLL_COLL (id / 32)) (id % 32)
          = (bitAt (s.rd pCnt CNT_COLL_COLL (id / 32)) (id % 32) || decide (events ≠ 0)))
  ∧ (∀ (r : Requester) (id : Fin 1024) (hi : Bool) (v : Word) (events : Nat) (s : State),
      (s.admits r pCnt false = false → ∃ t, exec (.counterWrite r id hi v events) s = .next t ∧ Discarded s t pCnt)
      ∧ (s.admits r pCnt false = true → cntWritable id = false ∨ s.counterOn id = false →
          exec (.counterWrite r id hi v events) s = .next s))
  ∧ ∀ (r : Requester) (coll : List (Fin 1024)) (s : State), WriteActs s r pCnt 0x40 (4 + s.rd pCnt CNT_CTL_USER) →
      ∃ t, exec (.counterClearAll r coll) s = .next t ∧ (∀ id, id < 0x400 → t.counter id = 0)
        ∧ (∀ id, 0x400 ≤ id → t.counter id = s.counter id)
        ∧ (coll = [] → ∀ i, i < 44 → t.rd pCnt CNT_OVF_OVF i = s.rd pCnt CNT_OVF_OVF i)
        ∧ ∀ i b, i < 44 → b < 32 → bitAt (t.rd pCnt CNT_COLL_COLL i) b
          = (bitAt (s.rd pCnt CNT_COLL_COLL i) b || coll.any fun id => counterValid id && decide (id.val = 32 * i + b))

/-- A demanded or periodic instant latches every counter at once, and a dump puts the snapshot into the ring.
SNAPSHOT_DEMAND, SNAPSHOT_INSTANT and DUMP_COMPLETE. A dump that DDR5 refuses ends without advancing the producer
(DESIGN CHOICE, assumption log entry 133). -/
def Obligations.SnapshotsAndDumps : Prop :=
  (∀ (r : Requester) (s : State), WriteActs s r pCnt 0x40 (2 + s.rd pCnt CNT_CTL_USER) →
      ∃ t, exec (.snapshotDemand r) s = .next t
        ∧ (s.cnt.demand = none → t.cnt = { s.cnt with demand := some (s.timeFrac s.now + 65536000) }
          ∧ t.rd pCnt CNT_STAT_SREF = s.rd pCnt CNT_STAT_SREF)
        ∧ (s.cnt.demand ≠ none → t.cnt = s.cnt ∧ t.rd pCnt CNT_STAT_SREF = 1))
  ∧ (∀ s : State, s.snapshotDue = none ∨ s.pageState pCnt ≠ 4 → exec .snapshotInstant s = .next s)
  ∧ (∀ (src at_ : Nat) (s : State), s.snapshotDue = some (src, at_) → s.pageState pCnt = 4 →
      let blocked : Bool := s.cnt.dump.isSome || s.dumpFull
      ∃ t, exec .snapshotInstant s = .next t ∧ t.now = max s.now (s.instantOf at_)
        ∧ (bitAt src 1 = true → t.cnt.demand = none)
        ∧ (blocked = true → t.cnt.vals = s.cnt.vals ∧ t.cnt.dump = s.cnt.dump ∧ t.rd pCnt CNT_STAT_SKIP = 1
          ∧ t.rd pCnt CNT_SKIP_SKIP = min (s.rd pCnt CNT_SKIP_SKIP + 1) (2 ^ 32 - 1)
          ∧ ∀ id, id < 0x580 → t.rd pCnt CNT_SHL_SH id = s.rd pCnt CNT_SHL_SH id ∧ t.rd pCnt CNT_SHH_SH id = s.rd pCnt CNT_SHH_SH id)
        ∧ (blocked = false → t.cnt.vals = s.accrueAll.cnt.vals ∧ t.cnt.dump = some (src, at_) ∧ t.rd pCnt CNT_SEQ_SEQ = (s.cnt.seq + 1) % 2 ^ 32
          ∧ ∀ id, id < 0x580 →
            let ok := counterValid id && s.counterOn id
            let v := if ok then s.accrueAll.counter id else 0
            t.rd pCnt CNT_SHL_SH id = v % 2 ^ 32 ∧ t.rd pCnt CNT_SHH_SH id = v / 2 ^ 32 % 2 ^ 16
              ∧ t.rd pCnt CNT_SHH_VALID id = b2n ok
              ∧ t.rd pCnt CNT_SHH_OVF id = b2n (ok && bitAt (s.accrueAll.rd pCnt CNT_OVF_OVF (id / 32)) (id % 32))
              ∧ t.rd pCnt CNT_SHH_COLL id = b2n (ok && bitAt (s.rd pCnt CNT_COLL_COLL (id / 32)) (id % 32))))
  ∧ (∀ (ecc : DdrEcc) (s : State), s.cnt.dump = none ∨ s.bit pCnt CNT_CFG_DEST = false ∧ s.hostOk = false →
      exec (.dumpComplete ecc) s = .next s)
  ∧ ∀ (ecc : DdrEcc) (src at_ : Nat) (s : State), s.cnt.dump = some (src, at_) →
      let made := fun t : State =>
        t.rd pCnt CNT_DPROD_PROD = (s.rd pCnt CNT_DPROD_PROD + 1) % s.rd pCnt CNT_DSIZE_SIZE % 2 ^ 16
          ∧ bitAt (t.rd pHost HOST_ISTAT_PEND) 12 = true
          ∧ (s.cnt.dumpFfr = true → t.rd pFlt FLT_FFR_SNAP_SNAP = s.cnt.seq % 2 ^ FLT_FFR_SNAP_SNAP.width)
      (s.bit pCnt CNT_CFG_DEST = false → s.hostOk = true →
        ∃ t, exec (.dumpComplete ecc) s = .next t ∧ t.cnt.dump = none ∧ made t ∧ t.mem.ddr = s.mem.ddr
          ∧ (s.dumpBytes src at_).length = 11328
          ∧ ∀ k, memGet t.mem.host k = if s.dumpAddr ≤ k ∧ k < s.dumpAddr + 11328
              then (s.dumpBytes src at_).getD (k - s.dumpAddr) 0#8 else memGet s.mem.host k)
      ∧ (s.bit pCnt CNT_CFG_DEST = true →
        let w := s.ddrWrite .host s.dumpAddr (s.dumpBytes src at_) ecc
        ∃ t, exec (.dumpComplete ecc) s = .next t ∧ t.cnt.dump = none ∧ t.mem = w.2.mem
          ∧ (w.1 = true → made t)
          ∧ (w.1 = false → t.rd pCnt CNT_DPROD_PROD = s.rd pCnt CNT_DPROD_PROD))

/-- A DDR5 subchannel serves bursts, freezes on errors, refreshes, sleeps and trains, and the QDR ports train.
DDR_REQUEST (one request), DDR_ALERT, DDR_UNFREEZE, REFRESH_TICK, REFRESH_SET, MR4_READ, SELF_REFRESH_ENTRY, SREXIT,
DDR_TRAIN, DDR_RETRAIN, ZQCAL, DDR_CFG_WRITE, DC_CFG_WRITE, QDR_TRAIN and BAR4_ACCESS. What the interface finds in a
burst is an operand. -/
def Obligations.ExternalMemories : Prop :=
  let frozen := fun (t : State) (n : Nat) (cause a cls : Nat) =>
    let p := pDc n
    t.rd p DC_STAT_STATE = 4 ∧ t.rd p DC_UESYN_CAUSE = cause ∧ t.rd p DC_UESYN_CLASS = cls
      ∧ t.rd p DC_UEADDRL_UEADDR + t.rd p DC_UEADDRH_UEADDR * 2 ^ 32 = a / 64 * 64 % 2 ^ 36 ∧ (t.flto (71 + n)).pair = true
  let classNo := fun c : DdrClass => match c with | .urgent => 2 | .stream => 3 | .host => 4 | .brewer => 5
  let onlyPairs := fun s t : State => { t with flt := s.flt } = s
  (∀ (q : DdrReq) (s : State), s.ddrPlace q.addr.toNat = none →
      exec (.ddrRequest [q]) s = .next { s with ddrReplies := [(0, none)] })
  ∧ (∀ (q : DdrReq) (n b : Nat) (s : State), s.ddrPlace q.addr.toNat = some (n, b) →
      let a := q.addr.toNat
      let k := n * 2 ^ 35 + b * 64
      (s.dcReady n = false → exec (.ddrRequest [q]) s = .next { s with ddrReplies := [(0, none)] })
      ∧ (s.dcReady n = true → ∃ t, exec (.ddrRequest [q]) s = .next t
        ∧ (q.write = none → t.mem = s.mem
          ∧ (q.ecc = .ok ∨ q.ecc = .corrected → t.ddrReplies = [(0, some (memBytes s.mem.ddr k 64))]
            ∧ t.rd (pDc n) DC_STAT_STATE = 2)
          ∧ (q.ecc = .corrected → t.rd (pDc n) DC_STAT_CE = 1
            ∧ t.rd (pDc n) DC_CEADDRL_CEADDR + t.rd (pDc n) DC_CEADDRH_CEADDR * 2 ^ 32 = a / 64 * 64 % 2 ^ 36)
          ∧ (q.ecc = .violation → t.ddrReplies = [(0, none)] ∧ frozen t n 3 a (classNo q.cls)))
        ∧ (∀ beat syn, q.ecc = .bad beat syn → (q.write = none ∨ ∃ bs, q.write = some bs ∧ (bs.take (64 - a % 64)).length ≠ 64) →
            t.ddrReplies = [(0, none)] ∧ t.mem = s.mem ∧ frozen t n 1 a (classNo q.cls)
              ∧ t.rd (pDc n) DC_UESYN_SYN = syn.toNat ∧ t.rd (pDc n) DC_UESYN_BEAT = beat.val)
        ∧ ∀ bs, q.write = some bs → q.ecc = .ok ∨ q.ecc = .corrected →
            let data := bs.take (64 - a % 64)
            t.ddrReplies = [(0, some [])] ∧ ∀ i, memGet t.mem.ddr i =
              if k + a % 64 ≤ i ∧ i < k + a % 64 + data.length then data.getD (i - (k + a % 64)) 0#8 else memGet s.mem.ddr i))
  ∧ (∀ (n : Fin 4) (a : BitVec 37) (cls : DdrClass) (s : State),
      (∀ b, s.ddrPlace a.toNat = some (n.val, b) → s.dcReady n = true →
        ∃ t, exec (.ddrAlert n a cls) s = .next t ∧ frozen t n 2 a.toNat (classNo cls) ∧ t.rd (pDc n) DC_STAT_ALERT = 1
          ∧ ∀ i, i < n * 2 ^ 35 + b * 64 ∨ n * 2 ^ 35 + b * 64 + 64 ≤ i → memGet t.mem.ddr i = memGet s.mem.ddr i)
      ∧ ((∀ b, s.ddrPlace a.toNat ≠ some (n.val, b)) ∨ s.dcReady n = false → exec (.ddrAlert n a cls) s = .next s))
  ∧ (∀ (r : Requester) (n : Fin 4) (s : State), WriteActs s r (pDc n) 0x44 8 →
      let st := s.rd (pDc n) DC_STAT_STATE
      ∃ t, exec (.ddrUnfreeze r n) s = .next t
        ∧ (st = 4 → t.rd (pDc n) DC_STAT_STATE = 2 ∧ RegsKept s t [fieldKey (pDc n) DC_STAT_STATE 0 0]
          ∧ { t with regs := s.regs, flt := s.flt } = s)
        ∧ (st = 3 → Discarded s t (pDc n)) ∧ (st ≠ 3 → st ≠ 4 → onlyPairs s t))
  ∧ (∀ (n : Fin 4) (waiting : Bool) (s : State),
      let p := pDc n
      let d := s.rd p DC_REF_DEBT
      let pay := if s.bit p DC_REF_RATE then 1 else 2
      let cap := if s.bit p DC_REF_RATE then 2 else 8
      (s.dcRefreshes n = false → exec (.refreshTick n) s = .next s ∧ exec (.refreshSet n waiting) s = .next s)
      ∧ (s.dcRefreshes n = true →
        (∃ t, exec (.refreshTick n) s = .next t ∧ t.rd p DC_REF_DEBT = min (d + 1) 31)
        ∧ (cap < d ∨ pay ≤ d ∧ waiting = false → ∃ t, exec (.refreshSet n waiting) s = .next t ∧ t.rd p DC_REF_DEBT = d - pay
            ∧ t.counter (0x342 + 8 * n) = (s.counter (0x342 + 8 * n) + 1) % 2 ^ 48
            ∧ (cap < d → t.counter (0x344 + 8 * n) = (s.counter (0x344 + 8 * n) + 1) % 2 ^ 48))
        ∧ (d ≤ cap → d < pay ∨ waiting = true → exec (.refreshSet n waiting) s = .next s)))
  ∧ (∀ (n : Fin 4) (ranks : List (Mr4Class × BitVec 3)) (s : State),
      let w := worstMr4 ranks
      (s.dcRefreshes n = false ∨ ranks.length ≠ s.dcRanks n → exec (.mr4Read n ranks) s = .next s)
      ∧ (s.dcRefreshes n = true → ranks.length = s.dcRanks n → w ∈ ranks ∧ (∀ x ∈ ranks, mr4Rank x.1 ≤ mr4Rank w.1)
        ∧ ∃ t, exec (.mr4Read n ranks) s = .next t ∧ t.rd (pDc n) DC_REF_MR4 = w.2.toNat
          ∧ (w.1 = .limit → t.rd (pDc n) DC_STAT_LIMIT = 1 ∧ (t.flto (71 + n)).pair = true)
          ∧ t.rd (pDc n) DC_REF_RATE = if w.1 = .normal then (if s.rd (pDc n) DC_REF_DEBT = 0 then 0 else s.rd (pDc n) DC_REF_RATE)
              else 1))
  ∧ (∀ (r : Requester) (n : Fin 4) (s : State), WriteActs s r (pDc n) 0x44 2 →
      let p := pDc n
      ∃ t, exec (.selfRefreshEntry r n) s = .next t ∧ t.rd p DC_STAT_STATE = 3
        ∧ (s.rd p DC_STAT_STATE = 3 → Discarded s t p)
        ∧ (s.rd p DC_STAT_STATE ≠ 3 → t.rd p DC_REF_DEBT = 0 ∧ t.mem = s.mem
          ∧ (tabGet {} t.dc n).frozen = ((tabGet {} s.dc n).frozen || decide (s.rd p DC_STAT_STATE = 4))))
  ∧ (∀ (r : Requester) (n : Fin 4) (ranks : List (Mr4Class × BitVec 3)) (fits : Bool) (s : State), WriteActs s r (pDc n) 0x44 4 →
      let p := pDc n
      ∃ t, exec (.srexit r n ranks fits) s = .next t ∧ t.mem = s.mem
        ∧ (s.rd p DC_STAT_STATE ≠ 3 ∨ s.trainerUp = false ∨ ranks.length ≠ s.dcRanks n → onlyPairs s t)
        ∧ (s.rd p DC_STAT_STATE = 3 → s.trainerUp = true → ranks.length = s.dcRanks n → t.rd p DC_REF_DEBT = 0
          ∧ t.rd p DC_REF_MR4 = (worstMr4 ranks).2.toNat
          ∧ (fits = true → t.rd p DC_STAT_STATE = if (tabGet {} s.dc n).frozen then 4 else 2)
          ∧ (fits = false → t.rd p DC_STAT_STATE = 1 ∧ t.rd p DC_STAT_SRRETRAIN = 1)))
  ∧ (∀ (n : Fin 4) (f : DdrTraining) (s : State),
      let p := pDc n
      let why := if s.trainerUp = false then 5 else if f.nodev then 1 else if f.limit then 4
        else if f.rdEye.toNat < 64 ∨ f.wrEye.toNat < 64 then 2 else if f.vmarg.toNat < 20 then 3 else 0
      (s.rd p DC_STAT_STATE ≠ 1 ∨ s.pageState p ≠ 4 ∨ f.lanes.length ≠ 40 * s.dcRanks n → exec (.ddrTrain n f) s = .next s)
      ∧ (s.rd p DC_STAT_STATE = 1 → s.pageState p = 4 → f.lanes.length = 40 * s.dcRanks n →
        ∃ t, exec (.ddrTrain n f) s = .next t ∧ t.rd p DC_TRQ_REASON = why
          ∧ (why ≠ 0 → t.rd p DC_STAT_STATE = 5 ∧ t.rd p DC_STAT_TRFAIL = 1 ∧ (t.flto (71 + n)).pair = true
            ∧ t.rd p DC_TRQ_RDEYE = s.rd p DC_TRQ_RDEYE)
          ∧ (why = 0 → t.rd p DC_STAT_STATE = (if (tabGet {} s.dc n).frozen then 4 else 2) ∧ t.rd p DC_TRQ_RDEYE = f.rdEye.toNat
            ∧ t.rd p DC_TRQ_WREYE = f.wrEye.toNat ∧ t.rd p DC_TRQ_VMARG = f.vmarg.toNat
            ∧ ∀ i x, f.lanes[i]? = some x → t.rd p DC_DLY_RDLY (i / 40) (i % 40) = x.1.toNat
                ∧ t.rd p DC_DLY_WDLY (i / 40) (i % 40) = x.2.toNat)))
  ∧ (∀ (n : Fin 4) (delays : List (BitVec 8)) (zq : BitVec 8) (s : State),
      let p := pDc n
      let able : Bool := s.dcReady n && s.trainerUp
      (able = false → exec (.ddrRetrain n delays) s = .next s ∧ exec (.zqcal n zq) s = .next s)
      ∧ (delays.length ≠ 40 * s.dcRanks n → exec (.ddrRetrain n delays) s = .next s)
      ∧ (able = true → (∃ t, exec (.zqcal n zq) s = .next t ∧ (tabGet {} t.dc n).zq = zq.toNat
            ∧ (tabGet {} t.dc n).zqAt = s.stampAt s.now ∧ t.regs = s.regs ∧ t.mem = s.mem)
        ∧ (delays.length = 40 * s.dcRanks n → ∃ t, exec (.ddrRetrain n delays) s = .next t
          ∧ t.rd p DC_STAT_STATE = 2 ∧ t.mem = s.mem
          ∧ ∀ i x, delays[i]? = some x → t.rd p DC_DLY_RDLY (i / 40) (i % 40) = x.toNat
              ∧ t.rd p DC_DLY_WDLY (i / 40) (i % 40) = s.rd p DC_DLY_WDLY (i / 40) (i % 40))))
  ∧ (∀ (r : Requester) (v : Word) (s : State),
      let w := v.toNat
      let bad := bitsAt w 4 4 = 0 ∨ bitsAt w 0 2 = 3 ∧ (bitsAt w 4 4 ≠ 15 ∨ ∃ n, n < 4 ∧ s.dcCfgWord n ≠ s.dcCfgWord 0)
      (bad → ∃ t, exec (.ddrCfgWrite r v) s = .next t ∧ Discarded s t pDdr)
      ∧ (¬ bad → WriteActs s r pDdr 0x40 w → s.pageBusy pDdr = false → ∃ t, exec (.ddrCfgWrite r v) s = .next t
        ∧ t.rd pDdr DDR_CFG_MAP = bitsAt w 0 2 ∧ t.rd pDdr DDR_CFG_SCEN = bitsAt w 4 4 ∧ t.mem = s.mem))
  ∧ (∀ (r : Requester) (n : Fin 4) (v : Word) (s : State),
      let p := pDc n
      let w := v.toNat
      let bad := s.rd p DC_STAT_STATE = 3 ∨ s.pageBusy p = true
        ∨ s.rd pDdr DDR_CFG_MAP = 3 ∧ ∃ m, m < 4 ∧ m ≠ n.val ∧ s.dcCfgWord m ≠ w % 64
      (bad → ∃ t, exec (.dcCfgWrite r n v) s = .next t ∧ Discarded s t p)
      ∧ (¬ bad → WriteActs s r p 0x40 w → ∃ t, exec (.dcCfgWrite r n v) s = .next t ∧ t.dcCfgWord n = w % 64
        ∧ t.rd p DC_STAT_STATE = 1 ∧ t.mem = s.mem))
  ∧ (∀ (r : Requester) (qa qb : BitVec 8) (s : State), WriteActs s r pQdr 0x44 1 →
      let idle : Bool := !s.busyCond pGln && s.gln.updates.isEmpty
      let a : Bool := s.bit pQdr QDR_CFG_QAEN && s.domainOn 73
      let b : Bool := s.bit pQdr QDR_CFG_QBEN && s.domainOn 74
      ∃ t, exec (.qdrTrain r qa qb) s = .next t ∧ t.mem = s.mem
        ∧ (idle = false → onlyPairs s t)
        ∧ (idle = true → t.rd pQdr QDR_STAT_QARDY = b2n (a && decide (64 ≤ qa.toNat))
          ∧ t.rd pQdr QDR_STAT_QBRDY = b2n (b && decide (64 ≤ qb.toNat))
          ∧ (a = true → 64 ≤ qa.toNat → t.rd pQdr QDR_TRQ_QAEYE = qa.toNat)
          ∧ (b = true → 64 ≤ qb.toNat → t.rd pQdr QDR_TRQ_QBEYE = qb.toNat)
          ∧ (a = true ∧ qa.toNat < 64 ∨ b = true ∧ qb.toNat < 64 → t.rd pQdr QDR_STAT_TRFAIL = 1 ∧ (t.flto 64).pair = true)))
  ∧ ∀ (a : BitVec 30) (len : Nat) (ecc : DdrEcc) (s : State),
      let addr := s.rd pHost HOST_DWIN_GIB * 2 ^ 30 + a.toNat
      let rd := s.ddrRead .host addr len ecc
      (∃ t, exec (.bar4Access a len none ecc) s = .next t ∧ t.mem = s.mem
        ∧ (rd.1.2 = true → t.ddrReplies = [(0, some rd.1.1)])
        ∧ (rd.1.2 = false → t.ddrReplies = [(0, none)] ∧ t.rd pHost HOST_STAT_DWERR = 1))
      ∧ ∀ bs : List Byte,
        let w := s.ddrWrite .host addr bs ecc
        (s.mode ≤ 1 → exec (.bar4Access a len (some bs) ecc) s = .next s)
        ∧ (1 < s.mode → ∃ t, exec (.bar4Access a len (some bs) ecc) s = .next t ∧ t.mem = w.2.mem
          ∧ (w.1 = false → t.rd pHost HOST_STAT_DWERR = 1))

/-- The endpoint's resets and link, and the command rings' enable, fetch, start and completion. CONVENTIONAL_RESET,
FUNCTION_LEVEL_RESET, PCIE_LINK_CHANGE, BUS_MASTER_ENABLE_WRITE, ABI_SELECT, RING_ENABLE, COMMAND_FETCH and
COMMAND_COMPLETION. That a Function Level Reset clears Bus Master Enable is PRESUMED of PCIe (assumption log entry 143).
-/
def Obligations.HostLinkAndRings : Prop :=
  let masked := fun (s : State) (v : Nat) => bitAt (s.msixWord (4 * v + 3)) 0
  let flushed := fun (s t : State) => ∀ v, v < 64 →
    (masked s v = true → bitAt t.host.pba v = bitAt s.host.pba v)
      ∧ (masked s v = false → bitAt s.host.pba v = true → bitAt t.host.pba v = false ∧ v ∈ t.host.sent)
  let cleared := fun (s t : State) => { t with regs := s.regs, host := s.host } = s
    ∧ (∀ k, keyInPage pHost k = false → tabFind t.regs k = tabFind s.regs k)
    ∧ ∀ k, keyInPage pHost k = true → k ≠ fieldKey pHost HOST_LINK_SPEED 0 0 → k ≠ fieldKey pHost HOST_LINK_WIDTH 0 0 →
        tabFind t.regs k = none
  (∀ s : State,
      (∃ t, exec .conventionalReset s = .next t ∧ cleared s t ∧ t.host = { sent := s.host.sent, link := false }
        ∧ t.rd pHost HOST_LINK_SPEED = 0 ∧ t.rd pHost HOST_LINK_WIDTH = 0)
      ∧ ∃ t, exec .functionLevelReset s = .next t ∧ cleared s t ∧ t.host = { sent := s.host.sent, link := s.host.link }
        ∧ t.rd pHost HOST_LINK_SPEED = s.rd pHost HOST_LINK_SPEED ∧ t.rd pHost HOST_LINK_WIDTH = s.rd pHost HOST_LINK_WIDTH)
  ∧ (∀ (speed : Fin 6) (width : BitVec 4) (s : State),
      let up : Bool := decide (speed.val ≠ 0) && s.domainOn 79
      ∃ t, exec (.pcieLinkChange speed width) s = .next t ∧ t.rd pHost HOST_LINK_SPEED = (if up then speed.val else 0)
        ∧ t.rd pHost HOST_LINK_WIDTH = (if up then width.toNat else 0) ∧ t.host.link = up ∧ t.host.rings = s.host.rings
        ∧ (up = false ∨ s.host.bme = false → t.host = { s.host with link := up })
        ∧ (up = true → s.host.bme = true → flushed s t))
  ∧ (∀ (en : Bool) (s : State),
      (s.host.link = false → exec (.busMasterEnableWrite en) s = .next s)
      ∧ (s.host.link = true → ∃ t, exec (.busMasterEnableWrite en) s = .next t ∧ t.host.bme = en ∧ t.regs = s.regs
        ∧ (en = true → s.domainOn 79 = true → flushed s t)
        ∧ (en = false ∨ s.domainOn 79 = false → t.host = { s.host with bme := en })))
  ∧ (∀ (r : Requester) (v : Word) (s : State),
      let w := v.toNat % 65536
      (w ≠ 0x100 ∧ w ≠ 0x101 ∧ w ≠ 0x102 → ∃ t, exec (.abiSelect r v) s = .next t ∧ Discarded s t pHost)
      ∧ (w = 0x100 ∨ w = 0x101 ∨ w = 0x102 → WriteActs s r pHost 0x48 v.toNat → s.pageBusy pHost = false →
        ∃ t, exec (.abiSelect r v) s = .next t ∧ t.rd pHost HOST_ABISEL_MAJOR = 1 ∧ t.rd pHost HOST_ABISEL_MINOR = w % 256
          ∧ RegsKept s t (regKeys pHost 0x48)))
  ∧ (∀ (r : Requester) (n : Fin 8) (s : State),
      (s.admits r pHost false = true → s.rd pHost HOST_ABISEL_MAJOR = 0 →
        exec (.ringEnable r n true) s = .next (s.wr pHost HOST_CR_STAT_REFUSED 1 n))
      ∧ (WriteActs s r pHost (0x200 + 0x40 * n) 1 → s.rd pHost HOST_ABISEL_MAJOR ≠ 0 →
        ∃ t, exec (.ringEnable r n true) s = .next t ∧ t.rd pHost HOST_CR_CFG_EN n = 1
          ∧ ((s.ring n).waiting = [] → t.host = s.host))
      ∧ (WriteActs s r pHost (0x200 + 0x40 * n) 0 →
        ∃ t, exec (.ringEnable r n false) s = .next t ∧ t.rd pHost HOST_CR_CFG_EN n = 0 ∧ t.host = s.host))
  ∧ (∀ (n : Fin 8) (cmd : Option (BitVec 512)) (s : State),
      let cons := s.rd pHost HOST_CR_SQCONS_SQCONS n
      let ready : Bool := decide (s.pageState pHost = 4) && s.hostOk && s.bit pHost HOST_CR_CFG_EN n
        && decide (s.rd pHost HOST_CR_SQPROD_SQPROD n ≠ cons)
      let room := s.ringRoom n
      (ready = false → exec (.commandFetch n cmd) s = .next s)
      ∧ (ready = true → (s.ring n).waiting = [] →
        ∃ t, exec (.commandFetch n cmd) s = .next t ∧ t.mem = s.mem
          ∧ t.rd pHost HOST_CR_SQCONS_SQCONS n = (cons + 1) % s.rd pHost HOST_CR_SQSIZE_SQSIZE n % 2 ^ 16
          ∧ (∀ b, cmd = some b →
            let c := leBytes 64 b.toNat
            let fence : Bool := bitAt (cmdNat c 1 1) 0 && s.ringRuns n
            (fence = true → t.ring n = { s.ring n with waiting := [some c] })
            ∧ (fence = false → room = false → t.ring n = { s.ring n with waiting := [some c] } ∧ t.rd pHost HOST_CR_STAT_CQFULL n = 1)
            ∧ (fence = false → room = true → s.cmdBad c = false → t.ring n = { s.ring n with running := (s.ring n).running ++ [c] })
            ∧ (fence = false → room = true → s.cmdBad c = true →
                t.ring n = { s.ring n with ended := (s.ring n).ended ++ [plainCompl c 3 0 0] }))
          ∧ (cmd = none → room = true → t.rd pHost HOST_CR_STAT_ERR n = 1
            ∧ ∃ x, (t.ring n).ended = (s.ring n).ended ++ [x] ∧ x.status = 5 ∧ x.count = 0 ∧ x.okmap = 0 ∧ x.failmap = 0)))
  ∧ ∀ (n : Fin 8) (s : State),
      let mine := s.host.starts.filter fun x => x.ring = n.val && x.left = 0
      let ended := (s.ring n).ended ++ mine.map fun x => unitCompl x.tag 7 x.stat x.units
      let prod := s.rd pHost HOST_CR_CQPROD_CQPROD n
      let a := s.rd pHost HOST_CR_CQBASEL_CQBASE n + s.rd pHost HOST_CR_CQBASEH_CQBASE n * 2 ^ 32 + 32 * prod
      (s.pageState pHost ≠ 4 ∨ s.hostOk = false ∨ ended = [] → exec (.commandCompletion n) s = .next s)
      ∧ ∀ c rest, s.pageState pHost = 4 → s.hostOk = true → ended = c :: rest → (∀ x ∈ c.recs, x.length = 16) →
        ∃ t, exec (.commandCompletion n) s = .next t
          ∧ t.rd pHost HOST_CR_CQPROD_CQPROD n = (prod + 1) % s.rd pHost HOST_CR_CQSIZE_CQSIZE n % 2 ^ 16
          ∧ bitAt (t.rd pHost HOST_ISTAT_PEND) n = true ∧ ((s.ring n).waiting = [] → (t.ring n).ended = rest)
          ∧ ∀ k, memGet t.mem.host k = if a ≤ k ∧ k < a + 32 then (complBytes c).getD (k - a) 0#8
              else if c.stat ≤ k ∧ k < c.stat + 16 * c.recs.length then c.recs.flatten.getD (k - c.stat) 0#8
              else memGet s.mem.host k

/-- NOP, BSUB, BCANCEL, DMA, PROGLOAD, REGWR and START commands of a ring execute and end with their completions. The
seven commands of a ring, each for the oldest started command of its opcode. What a read of host memory returns is an
operand; the reasons of a completion are the numbers of the completion table. -/
def Obligations.HostCommandsExecute : Prop :=
  let started := fun (s : State) (n op : Nat) (c : List Byte) =>
    s.pageState pHost = 4 ∧ (s.ring n).running.find? (fun c => decide (cmdNat c 0 1 = op)) = some c
  let without := fun (s : State) (n : Nat) (c : List Byte) =>
    s.modRing n fun o => { o with running := o.running.erase c }
  let ends := fun (s t : State) (n : Nat) (c : List Byte) (x : Compl) =>
    t.ring n = { s.ring n with running := (s.ring n).running.erase c, ended := (s.ring n).ended ++ [x] }
  (∀ (n : Fin 8) (units : Option (List DmaUnit)) (words : Option (List (BitVec 64))) (s : State),
      (∀ q ∈ [(Instr.nopCommand n, 1), (.dmaCommand n units, 2), (.regwrCommand n, 3), (.bsubCommand n, 4),
          (.bcancelCommand n, 5), (.progloadCommand n words, 6), (.multiSiteStart n, 7)],
        s.pageState pHost ≠ 4 ∨ (∀ c ∈ (s.ring n).running, cmdNat c 0 1 ≠ q.2) → exec q.1 s = .next s)
      ∧ (s.hostOk = false → exec (.dmaCommand n units) s = .next s ∧ exec (.progloadCommand n words) s = .next s))
  ∧ (∀ (n : Fin 8) (c : List Byte) (s : State),
      (started s n 1 c → ∃ t, exec (.nopCommand n) s = .next t ∧ ends s t n c (plainCompl c 0 0 0) ∧ t.regs = s.regs ∧ t.mem = s.mem)
      ∧ (started s n 4 c → ∃ t res, exec (.bsubCommand n) s = .next t ∧ Submitted s t 0x30 ((c.drop 8).take 32) res ∧ t.mem = s.mem
        ∧ ends s t n c (plainCompl c (if res = 1 then 0 else if res = 2 then 4 else if res = 3 then 3 else 2) 0 0))
      ∧ (started s n 5 c → ∃ t res, exec (.bcancelCommand n) s = .next t ∧ Cancelled s t 0x30 (cmdNat c 8 4) res ∧ t.mem = s.mem
        ∧ ends s t n c (plainCompl c 0 res 0)))
  ∧ (∀ (n : Fin 8) (c : List Byte) (s : State), s.hostOk = true → started s n 2 c →
      let count := cmdNat c 0x10 2
      let compl := fun us => unitCompl (cmdNat c 4 4) 2 (cmdNat c 0x18 8) us
      (∀ units, dmaFits units c = true → count = 0 ∨ 64 < count →
        ∃ t, exec (.dmaCommand n units) s = .next t ∧ ends s t n c (plainCompl c 3 0 0) ∧ t.mem = s.mem)
      ∧ (1 ≤ count → count ≤ 64 → ∃ t, exec (.dmaCommand n none) s = .next t ∧ ends s t n c (plainCompl c 5 0 0) ∧ t.mem = s.mem)
      ∧ (∀ us : List DmaUnit, us.length ≠ count → 1 ≤ count → count ≤ 64 → exec (.dmaCommand n (some us)) s = .next s)
      ∧ (count = 1 → ∀ u : DmaUnit,
        let d := u.desc.toNat
        let src := bitsAt d 0 64
        let dst := bitsAt d 64 64
        let len := bitsAt d 128 32
        let spaces := (bitsAt d 160 4, bitsAt d 164 4)
        let bad := len = 0 ∨ 268435456 < len ∨ 2 < spaces.1 ∨ 2 < spaces.2
        (bad → ∃ t, exec (.dmaCommand n (some [u])) s = .next t ∧ ends s t n c (compl [(0, 5, 0, 0)]) ∧ t.mem = s.mem)
        ∧ (¬ bad → spaces = (0, 0) →
          ∃ t, exec (.dmaCommand n (some [u])) s = .next t ∧ ends s t n c (compl [(0, 8, 0, 0)]) ∧ t.mem = s.mem)
        ∧ (¬ bad → spaces = (1, 0) → src + len ≤ 0x3000000 → (∀ q, tabGet 0 s.mem.granErr q ≠ 1) →
          ∃ t, exec (.dmaCommand n (some [u])) s = .next t ∧ ends s t n c (compl [(0, 0, 0, len)]) ∧ t.mem.gran = s.mem.gran
            ∧ ∀ k, memGet t.mem.host k =
              if dst ≤ k ∧ k < dst + len then s.bar2Byte (src + (k - dst)) else memGet s.mem.host k)))
  ∧ (∀ (n : Fin 8) (c : List Byte) (s : State), s.hostOk = true → started s n 6 c →
      (∃ t, exec (.progloadCommand n none) s = .next t ∧ ends s t n c (plainCompl c 2 7 0) ∧ t.mem = s.mem)
      ∧ ∀ words : List (BitVec 64),
        let ws := words.map (·.toNat)
        let dst := cmdNat c 0x10 4
        (words.length ≠ cmdNat c 0x14 4 → exec (.progloadCommand n (some words)) s = .next s)
        ∧ (words.length = cmdNat c 0x14 4 → ∀ i, s.loadRefusal dst ws = some i →
          ∃ t, exec (.progloadCommand n (some words)) s = .next t ∧ ends s t n c (plainCompl c 2 8 i) ∧ t.mem = s.mem)
        ∧ (words.length = cmdNat c 0x14 4 → s.loadRefusal dst ws = none → 8 * (dst + words.length) ≤ 0x3000000 →
          s.rd pSec SEC_KSTAT_ZBUSY = 0 →
          ∃ t, exec (.progloadCommand n (some words)) s = .next t ∧ ends s t n c (plainCompl c 0 0 words.length)
            ∧ ∀ k, memGet t.mem.gran k =
              if 8 * dst ≤ k ∧ k < 8 * (dst + words.length) ∧ s.granGone (k / 32) = false
              then (ws.flatMap (leBytes 8)).getD (k - 8 * dst) 0#8 else memGet s.mem.gran k))
  ∧ (∀ (n : Fin 8) (c : List Byte) (s : State), started s n 3 c →
      let units := cmdNat c 8 8
      let count := cmdNat c 0x11 1
      let kind := classKind (cmdNat c 0x10 1)
      (kind = none ∨ (∃ k, kind = some k ∧ 2 ^ pageCount k ≤ units) ∨ count = 0 ∨ 5 < count →
        ∃ t, exec (.regwrCommand n) s = .next t ∧ ends s t n c (plainCompl c 3 0 0) ∧ t.regs = s.regs ∧ t.mem = s.mem)
      ∧ ∀ (k : PKind) (u : Nat), kind = some k → u < pageCount k → units = 2 ^ u → 1 ≤ count → count ≤ 5 →
        let p : Page := ⟨k, u⟩
        let w := without s n c
        let reason := pairsReason (if capCommit k then w.stageReason p else w.writeReason p) (regwrPairs c)
        (reason ≠ 0 → ∃ t, exec (.regwrCommand n) s = .next t
          ∧ ends s t n c { plainCompl c 2 reason 0 with failmap := 2 ^ u } ∧ (capCommit k = false → t.regs = s.regs))
        ∧ (reason = 0 → ∃ t, exec (.regwrCommand n) s = .next t ∧ ends s t n c { plainCompl c 0 0 1 with okmap := 2 ^ u }
          ∧ ∀ off v, regwrPairs c = [(off, v)] → capCommit k = true → s.commitIdle p = true → s.admits .host p false = true →
              tabRising 0 s.staged = true → fieldsApart k off →
              ∀ fa ∈ fieldsAt k off, fa.f.cls = .staged → t.rd p fa.f fa.i fa.j = bitsAt v fa.f.lo fa.f.width))
  ∧ ∀ (n : Fin 8) (c : List Byte) (k : Fin 32) (s : State), started s n 7 c → cmdNat c 8 4 = 2 ^ k.val →
      let u := (without s n c).sqCtlWrite .host k 1
      let reason := if s.pageState (pSq k) ≠ 4 then 2 else if s.siteBusy k = false ∧ u.siteBusy k = true then 0 else 6
      let stat := cmdNat c 0x10 8
      let waits : Bool := bitAt (cmdNat c 0xC 1) 0
      ∃ t, exec (.multiSiteStart n) s = .next t ∧ t.sq = u.sq ∧ t.regs = u.regs
        ∧ (reason = 0 → waits = true → t.host.starts = u.host.starts ++
            [{ ring := n.val, tag := cmdNat c 4 4, stat := stat, left := 2 ^ k.val, units := [(k.val, 0, 0, 0)] }]
          ∧ (t.ring n).ended = (u.ring n).ended)
        ∧ (reason ≠ 0 ∨ waits = false → t.host.starts = u.host.starts
          ∧ (t.ring n).ended = (u.ring n).ended ++ [unitCompl (cmdNat c 4 4) 7 stat [(k.val, reason, 0, 0)]])

/-- An AML port trains, negotiates, acknowledges and replays, and a flit of another chip acts once. AML_TRAIN,
AML_RETRAIN, AML_TRAIN_RETRY, AML_LINK_DOWN, CAPX_FLIT, ACK_FLIT, IDLE_FLIT, FLIT_CRC_ERROR and the flits SYNCM, TRIG,
FLAG, RDV, SPAN, TIME and CAL. How many copies are remembered (128) is a DESIGN CHOICE, the flooding over two hops is
R493 (assumption log entry 150). -/
def Obligations.AmlPortsAndFlits : Prop :=
  let carried := fun (s : State) (p : Nat) (m : AmlMsg) => s.amlLive p = true ∧ s.amlCarries p m = true
  let acts := fun (s : State) (p : Nat) (h : FlitHdr) (m : AmlMsg) => carried s p m ∧ h.nak = false
    ∧ h.origin.val ≠ s.rd pClk GRP_CFG_CHIP_ID ∧ (h.origin.val, h.oseq.toNat) ∉ s.amlSeen
  (∀ (p : Fin 4) (f : AmlTraining) (s : State),
      let pg := pAml p
      (s.amlOn p = false ∨ s.amlState p ≠ 1 → exec (.amlTrain p f) s = .next s)
      ∧ (s.amlOn p = true → s.amlState p = 1 → ∃ t, exec (.amlTrain p f) s = .next t
        ∧ (f.reason.val ≠ 0 → t.amlState p = 0 ∧ t.rd pg AML_STAT_REASON = f.reason.val ∧ t.aml = s.aml)
        ∧ (f.reason.val = 0 → 33000 < f.skew.toNat → t.amlState p = 0 ∧ t.rd pg AML_STAT_REASON = 4 ∧ t.aml = s.aml)
        ∧ (f.reason.val = 0 → f.skew.toNat ≤ 33000 → t.amlState p = 2 ∧ t.rd pg AML_STAT_REASON = 0
          ∧ t.rd pg AML_STAT_POLINV = f.polinv.toNat ∧ t.rd pg AML_STAT_SWAP = b2n f.swap ∧ t.rd pg AML_SKEW_SKEW = f.skew.toNat
          ∧ t.rd pg AML_STAT_CHG = 1 ∧ bitAt (t.rd pHost HOST_ISTAT_PEND) 20 = true)))
  ∧ (∀ (r : Requester) (p : Fin 4) (s : State), WriteActs s r (pAml p) 0x44 1 →
      ∃ t, exec (.amlRetrain r p) s = .next t
        ∧ (s.bit (pAml p) AML_CFG_EN = false → t.aml = s.aml ∧ t.amlState p = s.amlState p)
        ∧ (s.bit (pAml p) AML_CFG_EN = true → t.amlState p = 1 ∧ (t.amlo p).unacked = [] ∧ (t.amlo p).waiting = []
          ∧ (t.amlo p).next = 0))
  ∧ (∀ (p : Fin 4) (s : State),
      (s.amlOn p = false ∨ s.amlState p ≠ 0 → exec (.amlTrainRetry p) s = .next s)
      ∧ (s.amlOn p = true → s.amlState p = 0 → ∃ t, exec (.amlTrainRetry p) s = .next t ∧ t.amlState p = 1
        ∧ t.rd (pAml p) AML_STAT_REASON = s.rd (pAml p) AML_STAT_REASON ∧ (t.amlo p).unacked = []))
  ∧ (∀ (p : Fin 4) (reason : Fin 5) (lost : BitVec 16) (s : State),
      let st := s.amlState p
      ∃ t, exec (.amlLinkDown p reason lost) s = .next t ∧ t.clk.unreachable = s.clk.unreachable ||| lost.toNat
        ∧ (2 ≤ st ∧ st ≤ 4 → t.amlState p = 0 ∧ t.rd (pAml p) AML_STAT_REASON = reason.val)
        ∧ (st < 2 ∨ 4 < st → t.amlState p = st))
  ∧ (∀ (p : Fin 4) (chip : Fin 16) (chips reach : BitVec 16) (major minor : BitVec 8) (s : State),
      let pg := pAml p
      let own : Bool := chip.val = s.rd pClk GRP_CFG_CHIP_ID
      let other : Bool := chips.toNat ≠ s.rd pClk GRP_CFG_CHIPS
      let u := s.clk.unreachable
      (s.amlOn p = false ∨ s.amlState p ≠ 2 → exec (.capxFlit p chip chips major minor reach) s = .next s)
      ∧ (s.amlOn p = true → s.amlState p = 2 → ∃ t, exec (.capxFlit p chip chips major minor reach) s = .next t
        ∧ t.rd pg AML_PEER_CHIP = chip.val ∧ t.rd pg AML_PEER_PMAJOR = major.toNat ∧ t.rd pg AML_PEER_PMINOR = minor.toNat
        ∧ (own = true → t.amlState p = 5 ∧ t.rd pg AML_STAT_REASON = 5 ∧ t.clk = s.clk)
        ∧ (own = false → other = true → t.amlState p = 5 ∧ t.rd pg AML_STAT_REASON = 6 ∧ t.clk = s.clk)
        ∧ (own = false → other = false → t.clk.unreachable = u - (u &&& reach.toNat) ∧ t.rd pg AML_STAT_REASON = 0
          ∧ (major.toNat = s.rd pg AML_VER_MAJOR → t.amlState p = 3
            ∧ t.rd pg AML_NEG_MINOR = min minor.toNat (s.rd pg AML_VER_MINOR))
          ∧ (major.toNat ≠ s.rd pg AML_VER_MAJOR → t.amlState p = 4))))
  ∧ (∀ (p : Fin 4) (ack : BitVec 8) (nak : Bool) (s : State), ∀ c ∈ [Instr.ackFlit p ack nak, .idleFlit p ack nak],
      let o := s.amlo p
      (s.amlLive p = false → exec c s = .next s)
      ∧ (s.amlLive p = true → ∃ t, exec c s = .next t ∧ (∀ q, q ≠ p.val → t.amlo q = s.amlo q)
        ∧ (nak = false → (∀ g ∈ o.unacked, g.lseq ≠ ack.toNat) → t.amlo p = o)
        ∧ (nak = false → ∀ pre g post, o.unacked = pre ++ g :: post → g.lseq = ack.toNat → (∀ x ∈ pre, x.lseq ≠ ack.toNat) →
            let out := o.waiting.take (32 - post.length)
            t.amlo p = { o with
              unacked := post ++ out, waiting := o.waiting.drop (32 - post.length), sent := out.reverse ++ o.sent, replays := 0 })
        ∧ (nak = true → (∀ g ∈ o.unacked, g.lseq ≠ ack.toNat) →
            (o.replays < 16 → t.amlo p = { o with sent := o.unacked.reverse ++ o.sent, replays := o.replays + 1 }
              ∧ t.amlState p = s.amlState p)
            ∧ (16 ≤ o.replays → t.amlState p = 1 ∧ t.rd (pAml p) AML_STAT_REASON = 7 ∧ t.rd (pAml p) AML_STAT_RETRYFAIL = 1
              ∧ (t.amlo p).unacked = [] ∧ (t.flto (78 + p)).pair = true))))
  ∧ (∀ (p : Fin 4) (s : State),
      (s.amlLive p = false → exec (.flitCrcError p) s = .next s)
      ∧ (s.amlLive p = true → ∃ t f, exec (.flitCrcError p) s = .next t ∧ f.nak = true ∧ f.ack = (s.amlo p).lastRx
        ∧ t.amlo p = { s.amlo p with sent := f :: (s.amlo p).sent }
        ∧ t.counter (0x3A2 + 4 * p) = (s.counter (0x3A2 + 4 * p) + 1) % 2 ^ 48 ∧ t.clk = s.clk))
  ∧ (∀ (p : Fin 4) (h : FlitHdr) (cnt : Word) (line g sp : Fin 16) (idx : Fin 64) (op : Fin 3) (rank : Fin 34) (rm : RdvMsg)
        (sm : SpanMsg) (a : Int) (u : Nat) (step : Bool) (cm : CalMsg) (f : FlitTime) (s : State),
      let at_ := s.flitAt f
      ∀ c ∈ [(Instr.syncmFlit p h cnt, AmlMsg.syncm cnt.toNat), (.trigFlit p h line f, .trig line at_),
          (.flagFlit p h idx op rank f, .flag idx op rank at_), (.rdvFlit p h g rm f, .rdv g rm at_),
          (.spanFlit p h sp sm f, .span sp sm at_), (.timeFlit p h (.adj a) f, .adj a at_),
          (.timeFlit p h (.at_ u step) f, .time u step at_), (.calFlit p h cm, .cal cm)],
        (¬ carried s p c.2 → exec c.1 s = .next s)
        ∧ (carried s p c.2 → h.nak = false → ¬ acts s p h c.2 → ∃ t, exec c.1 s = .next t ∧ t.clk = s.clk ∧ t.time = s.time
          ∧ t.winn = s.winn ∧ t.sq = s.sq ∧ t.amlSeen = s.amlSeen ∧ (t.amlo p).lastRx = h.lseq.toNat
          ∧ ∀ q, q < 4 → q ≠ p.val → t.amlo q = if h.hops.val < 2 ∧ s.amlCarries q c.2 = true
              then (s.amlPut q { origin := h.origin, oseq := h.oseq.toNat, lseq := 0, hops := h.hops.val + 1, ack := 0, nak := false,
                                 msg := c.2 }).amlo q
              else s.amlo q)
        ∧ (acts s p h c.2 → ∃ t, exec c.1 s = .next t
          ∧ t.amlSeen = ((h.origin.val, h.oseq.toNat) :: s.amlSeen).take 128))
  ∧ (∀ (p : Fin 4) (h : FlitHdr) (cnt : Word) (s : State), acts s p h (.syncm cnt.toNat) →
      ∃ t, exec (.syncmFlit p h cnt) s = .next t ∧ t.clk = s.clk ∧ t.rd (pAml p) AML_STAT_SYNCMIS =
        if cnt.toNat = s.rd pClk SYNC_CNT_CNT then s.rd (pAml p) AML_STAT_SYNCMIS else 1)
  ∧ (∀ (p : Fin 4) (h : FlitHdr) (line : Fin 16) (f : FlitTime) (s : State), acts s p h (.trig line (s.flitAt f)) →
      let due := s.flitAt f + 65536
      ∃ t, exec (.trigFlit p h line f) s = .next t ∧ (due < s.now → t.rd pClk GRP_STAT_AMLLATE = 1)
        ∧ t.clk = { s.clk with
            atPulses := s.clk.atPulses ++ [{ idx := line, op := 1, t := max s.now due, chip := h.origin, rank := 0 }] })
  ∧ (∀ (p : Fin 4) (h : FlitHdr) (idx : Fin 64) (op : Fin 3) (rank : Fin 34) (f : FlitTime) (s : State),
      acts s p h (.flag idx op rank (s.flitAt f)) →
      let due := s.flitAt f + 65536
      ∃ t, exec (.flagFlit p h idx op rank f) s = .next t ∧ (due < s.now → t.rd pClk GRP_STAT_AMLLATE = 1)
        ∧ t.clk = { s.clk with
            sharedFlags := s.clk.sharedFlags ++ [{ idx := idx, op := op, t := max s.now due, chip := h.origin, rank := rank }] })
  ∧ (∀ (p : Fin 4) (h : FlitHdr) (g : Fin 16) (m : RdvMsg) (f : FlitTime) (s : State), acts s p h (.rdv g m (s.flitAt f)) →
      let k := g.val * 16 + h.origin.val
      ∃ t, exec (.rdvFlit p h g m f) s = .next t
        ∧ (∀ site, m = .arrive site →
            t.clk.arrivals = s.clk.arrivals ++ [(g.val, (h.origin.val, site.val), max s.now (s.flitAt f + 65536))])
        ∧ (∀ site, m = .withdraw site → (∀ x ∈ t.clk.arrivals, x ∈ s.clk.arrivals ∧ (x.1, x.2.1) ≠ (g.val, (h.origin.val, site.val)))
            ∧ bitAt (tabGet 0 t.clk.remArrived k) site = false)
        ∧ (∀ site b, m = .excused site b → bitAt (tabGet 0 t.clk.remExcused k) site = b)
        ∧ (∀ mask, m = .members mask → tabGet 0 t.clk.remMembers k = mask.toNat)
        ∧ (∀ mask, m = .chips mask → tabGet 0 t.clk.remChips k = mask.toNat + 1))
  ∧ (∀ (p : Fin 4) (h : FlitHdr) (sp : Fin 16) (m : SpanMsg) (f : FlitTime) (s : State), acts s p h (.span sp m (s.flitAt f)) →
      ∃ t, exec (.spanFlit p h sp m f) s = .next t
        ∧ (m = .part → tabGet 0 t.clk.spanParts (sp.val * 16 + h.origin.val) = 1)
        ∧ (m = .gone → tabGet 0 t.clk.spanParts (sp.val * 16 + h.origin.val) = 0)
        ∧ (m = .ready → tabGet 0 t.clk.spanParts (sp.val * 16 + h.origin.val) = s.flitAt f + 2)
        ∧ ∀ vec n, m = .fail vec → s.spanSite sp = some n → s.sqRunning n = true →
            ∃ v, (t.sqo n).remoteFail = some v ∧ v ≤ vec ∧ ∀ w, (s.sqo n).remoteFail = some w → v = min w vec)
  ∧ (∀ (p : Fin 4) (h : FlitHdr) (f : FlitTime) (s : State), s.rd pTime TIME_CFG_ROLE = 2 → s.pageState pTime = 4 →
      (∀ a : Int, acts s p h (.adj a (s.flitAt f)) → s.time.compare = false →
        ∃ t, exec (.timeFlit p h (.adj a) f) s = .next t ∧ t.time = { s.time with
          lead := some h.origin.val, adjQ := s.time.adjQ ++ [(a, max s.now (s.flitAt f + 65536))] })
      ∧ ∀ (u : Nat) (step : Bool), acts s p h (.time u step (s.flitAt f)) → s.clk.lastSync ≠ some (s.flitAt f) →
        ∃ t, exec (.timeFlit p h (.at_ u step) f) s = .next t
          ∧ t.time = { s.time with lead := some h.origin.val, leadTime := some u, leadStep := step })
  ∧ ∀ (p : Fin 4) (h : FlitHdr) (m : CalMsg) (s : State), acts s p h (.cal m) →
      ∃ t, exec (.calFlit p h m) s = .next t ∧ t.clk = s.clk ∧ t.time = s.time
        ∧ (∀ phase reason, m = .mcskew phase reason → t.winn.farPhase = (h.origin.val, phase, reason) :: s.winn.farPhase)
        ∧ ∀ sp at_, m = .loop sp at_ → tabFind t.winn.farLoop (sp.val * 16 + h.origin.val) = some at_

/-- A source that becomes live is shadowed or latched, fills the first-fault record and reacts; it recovers after its
quiet period or locks. FAULT_SOURCE_ASSERT, WIRE_FAULT, SHADOW_WINDOW_END, FAULT_SOURCE_CLEAR, QUIET_PERIOD_END,
LOCK_CLEAR, FAULT_INJECTION and INJECTION_END, for the sources of internal errors and the injected ones. That the
collector reacts in the AON clock of the event is the model's choice (assumption log entry 153). -/
def Obligations.CollectorLatchesAndReacts : Prop :=
  let latched := fun (s : State) (n : Nat) => bitAt (s.rd pFlt FLT_LATCH_LATCH (n / 32)) (n % 32)
  let holds := fun (s t : State) => t.mode = if 1 < s.mode then 6 else s.mode
  (∀ (slots : List (Fin 256)) (s : State), (∀ n ∈ slots, slotInternal n = false ∧ s.srcLive n = false) →
      exec (.faultSourceAssert slots) s = .next (s.advanceTo (aonCeil s.now)))
  ∧ (∀ (n : Fin 256) (s : State), slotInternal n = true → s.isLive n = false →
      let edge := s.advanceTo (aonCeil s.now)
      (∀ m, edge.shadower n = some m → ∃ t, exec (.faultSourceAssert [n]) s = .next t ∧ t.isLive n = true
          ∧ bitAt (t.rd pFlt FLT_SHAD_SHAD (n / 32)) (n % 32) = true ∧ (t.flto n).shadowBy = some m
          ∧ (∀ k < 256, latched t k = latched s k) ∧ t.mode = s.mode)
      ∧ (edge.shadower n = none → ∃ t, exec (.faultSourceAssert [n]) s = .next t ∧ t.isLive n = true ∧ (t.flto n).pair = true
          ∧ latched t n = true ∧ t.rd pFlt FLT_SSTAT_SECONDARY n = 0
          ∧ (s.rd pFlt FLT_FFR_VALID = 0 → t.rd pFlt FLT_FFR_SRC = n ∧ t.rd pFlt FLT_FFR_SEV = s.sevOf n
              ∧ t.rd pFlt FLT_FFR_MODE = s.mode ∧ t.rd pFlt FLT_FFR_SECONDARY = 0 ∧ t.rd pFlt FLT_FFR_MULTI = 0
              ∧ t.rd pFlt FLT_FFR_VALID = 1)
          ∧ (s.rd pFlt FLT_FFR_VALID = 1 → s.safety.ffrClock ≠ edge.now → t.rd pFlt FLT_FFR_SRC = s.rd pFlt FLT_FFR_SRC)
          ∧ (s.sevOf n = 3 → holds s t ∧ (t.flto n).halt = true)
          ∧ (s.sevOf n = 2 → (unitOf n).keys ≠ [] → t.unitIso (unitOf n) = true ∧ (t.flto n).iso = true)
          ∧ (s.sevOf n = 3 ∨ s.sevOf n = 2 ∧ (unitOf n).keys ≠ [] → t.slotState n = if s.slotState n = 3 then 3 else 1)))
  ∧ (∀ (n : Fin 256) (high : Bool) (s : State),
      ((120 < n.val ∨ (s.flto n).invalid = true) → exec (.wireFault n high) s = .next s)
      ∧ (n.val ≤ 120 → (s.flto n).invalid = false →
          (s.safety.inj = none ∨ s.sevOf n ≠ 3 ∧ s.sevOf 255 ≠ 3) →
          ∃ t, exec (.wireFault n high) s = .next t ∧ (t.flto n).invalid = true ∧ t.isLive n = true ∧ t.isLive 255 = true
            ∧ t.rd pFlt FLT_WIRE_VALID = 1
            ∧ (s.rd pFlt FLT_WIRE_VALID = 0 → t.rd pFlt FLT_WIRE_SLOT = n ∧ t.rd pFlt FLT_WIRE_VAL = if high then 3 else 0)))
  ∧ (∀ (m : Fin 256) (s : State),
      ((s.flto m).winEnd = none → exec (.shadowWindowEnd m) s = .next s)
      ∧ (∀ e, (s.flto m).winEnd = some e →
          ∃ t, exec (.shadowWindowEnd m) s = .next t ∧ e ≤ t.now ∧ ∀ n < 256,
            if (s.flto n).shadowBy = some m.val ∧ s.isLive n = true then
              latched t n = true ∧ t.rd pFlt FLT_SSTAT_SECONDARY n = 1 ∧ t.rd pFlt FLT_SSTAT_CAUSE n = m
              ∧ (t.flto n).shadowBy = none
            else latched t n = latched s n))
  ∧ (∀ (n : Fin 256) (temps : List (BitVec 8)) (s : State),
      (s.isLive n = false → exec (.faultSourceClear n temps) s = .next s)
      ∧ (s.isLive n = true → slotInternal n = true → (s.flto n).stuck = false →
          (∀ k e, s.safety.inj ≠ some (n.val, k, e)) →
          ∃ t, exec (.faultSourceClear n temps) s = .next t ∧ t.now = s.now ∧ t.isLive n = false ∧ (t.flto n).pair = false
            ∧ (s.slotState n = 1 → t.slotState n = 2 ∧ (t.flto n).quietAt = s.now + s.rd pFlt FLT_CFG_QUIET n * msG)
            ∧ (s.slotState n ≠ 1 → t.slotState n = s.slotState n)
            ∧ RegsKept s t [fieldKey pFlt FLT_LIVE_LIVE (n / 32) 0, fieldKey pFlt FLT_LIVE_LIVE 7 0,
                fieldKey pFlt FLT_SSTAT_STATE n 0, fieldKey pFlt FLT_SSTAT_STATE 255 0]))
  ∧ (∀ (n : Fin 256) (sr : SrFindings) (s : State),
      (s.slotState n ≠ 2 → exec (.quietPeriodEnd n sr) s = .next s)
      ∧ (s.slotState n = 2 →
          let o := s.flto n
          let at0 := max s.now o.quietAt
          let fresh : Bool := o.wcnt = 0 || decide (o.wstart + s.rd pFlt FLT_RLIM_WIN n * secG ≤ at0)
          let wcnt := if fresh then 1 else o.wcnt + 1
          ∃ t, exec (.quietPeriodEnd n sr) s = .next t ∧ (t.flto n).wcnt = wcnt
            ∧ (t.flto n).wstart = (if fresh then at0 else o.wstart)
            ∧ (s.rd pFlt FLT_RLIM_LIMIT n < wcnt → t.slotState n = 3 ∧ t.rd pFlt FLT_SSTAT_LOCK n = 1
                ∧ bitAt (t.rd pFlt FLT_LOCKS_LOCK (n / 32)) (n % 32) = true ∧ (t.flto n).halt = true ∧ holds s t)
            ∧ (wcnt ≤ s.rd pFlt FLT_RLIM_LIMIT n → t.slotState n = 0 ∧ (t.flto n).iso = false ∧ (t.flto n).halt = false
                ∧ t.rd pFlt FLT_RCNT_RCNT n = min (s.rd pFlt FLT_RCNT_RCNT n + 1) 65535
                ∧ (s.mode = 6 → (∀ m < 256, m ≠ n.val → (s.flto m).halt = false ∨ s.slotState m = 0) → t.mode = 3))))
  ∧ (∀ (r : Requester) (n : Fin 256) (s : State), WriteActs s r pFlt (0x1008 + 16 * n) 16 →
      (s.slotState n = 3 → ∃ t, exec (.lockClear r n) s = .next t ∧ t.slotState n = (if s.isLive n then 1 else 2)
          ∧ t.rd pFlt FLT_SSTAT_LOCK n = 0 ∧ bitAt (t.rd pFlt FLT_LOCKS_LOCK (n / 32)) (n % 32) = false ∧ (t.flto n).wcnt = 0)
      ∧ (s.slotState n ≠ 3 → ∃ t, exec (.lockClear r n) s = .next t ∧ OnlyRegs s t [fieldKey pFlt FLT_SSTAT_LOCK n 0]))
  ∧ (∀ (r : Requester) (v : Word) (s : State),
      let word := (v ||| 0x800).toNat
      let n := word % 256
      (s.mode ≠ 7 ∨ 120 < n → ∃ t, exec (.faultInjection r v) s = .next t ∧ Discarded s t pFlt)
      ∧ (s.mode = 7 → n ≤ 120 → WriteActs s r pFlt 0x48 word → s.sevOf n ≠ 3 → s.sevOf 255 ≠ 3 →
          ∃ t, exec (.faultInjection r v) s = .next t ∧ t.isLive n = true
            ∧ t.safety.inj = some (n, bitsAt word 8 2, s.now + bitsAt word 16 16 * usG)))
  ∧ ∀ s : State,
      (s.safety.inj = none → exec .injectionEnd s = .next s)
      ∧ ∀ n k e, s.safety.inj = some (n, k, e) → n ≤ 120 →
          ∃ t, exec .injectionEnd s = .next t ∧ t.now = max s.now e ∧ t.safety.inj = none
            ∧ ((s.flto n).pair = false → (s.flto n).stuck = false → (k = 0 → (s.flto n).invalid = false) → t.isLive n = false)

/-- The Silo arms in two steps, forces and releases sites, and turns its monitors' events into safe states and sources.
SILO_ARM, SILO_ARM_EXPIRE, SILO_FORCE, SAFE_N, GROUP_CURRENT_LIMIT, THERMAL_WARNING, THERMAL_CRITICAL,
LOCKSTEP_MISMATCH, SUPPLY_OUT_OF_WINDOW and PLL_UNLOCK. The measured currents and temperatures are operands. -/
def Obligations.SiloHoldsAndReleases : Prop :=
  let asserted := fun (s t : State) (k : Nat) => t.isLive k = true ∧ (t.flto k).pair = true
    ∧ (s.isLive k = false → bitAt (t.rd pFlt FLT_LATCH_LATCH (k / 32)) (k % 32) = true
        ∧ (s.sevOf k = 3 → t.mode = if 1 < s.mode then 6 else s.mode))
  let causeOf := fun (t : State) (n : Nat) (b : Nat) => bitAt (t.rd pSilo SILO_SCAUSE_CAUSE n) b
  (∀ (v : Word) (s : State),
      (s.mode = 1 → ∃ t, exec (.siloArm v) s = .next t ∧ Discarded s t pSilo)
      ∧ (s.mode ≠ 1 → v.toNat = 0 → ∃ t, exec (.siloArm v) s = .next t ∧ t.rd pSilo SILO_STAT_ARMED = 0
          ∧ t.safety = { s.safety with armStep := none } ∧ RegsKept s t [fieldKey pSilo SILO_STAT_ARMED 0 0])
      ∧ (s.mode ≠ 1 → v.toNat ≠ 0 → 8 ≤ s.rd pSilo SILO_STAT_ARMFAIL → exec (.siloArm v) s = .next s)
      ∧ (s.mode ≠ 1 → s.rd pSilo SILO_STAT_ARMFAIL < 8 →
          (v.toNat = 0xA55A → ∃ t, exec (.siloArm v) s = .next t ∧ t.safety = { s.safety with armStep := some (s.now + 10 * msG) }
            ∧ t.rd pSilo SILO_NONCE_NONCE = Config.freeValue s.free % 2 ^ 16 ∧ t.free = s.free + 1
            ∧ RegsKept s t [fieldKey pSilo SILO_NONCE_NONCE 0 0])
          ∧ (v.toNat ≠ 0 → v.toNat ≠ 0xA55A →
            let right := v.toNat / 65536 = 0x5AA5 ∧ v.toNat % 65536 = (s.rd pSilo SILO_NONCE_NONCE ^^^ 0xFFFF)
              ∧ ∃ e, s.safety.armStep = some e ∧ s.now ≤ e
            (right → ∃ t, exec (.siloArm v) s = .next t ∧ t.rd pSilo SILO_STAT_ARMED = 1
              ∧ t.safety = { s.safety with armStep := none, armedUntil := s.now + secG }
              ∧ RegsKept s t [fieldKey pSilo SILO_STAT_ARMED 0 0])
            ∧ (¬ right → ∃ t, exec (.siloArm v) s = .next t ∧ t.rd pSilo SILO_STAT_ARMED = 0 ∧ t.safety.armStep = none
              ∧ t.rd pSilo SILO_STAT_ARMFAIL = s.rd pSilo SILO_STAT_ARMFAIL + 1
              ∧ (s.isLive 120 = false → bitAt (t.rd pFlt FLT_LATCH_LATCH 3) 24 = true)))))
  ∧ (∀ s : State,
      (∀ e, s.safety.armStep = some e → ∃ t, exec .siloArmExpire s = .next t ∧ t.now = max s.now e ∧ t.regs = s.regs
        ∧ t.safety = { s.safety with armStep := none })
      ∧ (s.safety.armStep = none → s.rd pSilo SILO_STAT_ARMED = 1 → ∃ t, exec .siloArmExpire s = .next t
        ∧ t.now = max s.now s.safety.armedUntil ∧ t.rd pSilo SILO_STAT_ARMED = 0 ∧ t.safety = s.safety)
      ∧ (s.safety.armStep = none → s.rd pSilo SILO_STAT_ARMED = 0 → exec .siloArmExpire s = .next s))
  ∧ (∀ (i3c : Bool) (v : Word) (s : State),
      (i3c = true → s.rd pSilo SILO_STAT_ARMED = 0 → ∃ t, exec (.siloForce i3c v) s = .next t ∧ Discarded s t pSilo)
      ∧ (i3c = false ∨ s.rd pSilo SILO_STAT_ARMED = 1 → ∃ t, exec (.siloForce i3c v) s = .next t
        ∧ t.rd pSilo SILO_FORCE_FORCE = v.toNat ∧ ∀ n < 32,
          (bitAt v.toNat n = true → bitAt (s.rd pSilo SILO_FORCE_FORCE) n = false →
            causeOf t n 6 = true ∧ bitAt (t.rd pSilo SILO_SAFE_SAFE) n = true)
          ∧ (bitAt v.toNat n = false → s.safety.lockstepBad = false → causeOf t n 6 = false)))
  ∧ (∀ s : State,
      (s.rd pSilo SILO_STAT_SAFEN = 1 → s.isLive 115 = true → exec (.safeN true) s = .next s)
      ∧ (s.rd pSilo SILO_STAT_SAFEN = 0 ∨ s.isLive 115 = false → ∃ t, exec (.safeN true) s = .next t
          ∧ t.rd pSilo SILO_STAT_SAFEN = 1 ∧ t.safety.allSafe = true ∧ (∀ n < 32, causeOf t n 3 = true) ∧ asserted s t 115)
      ∧ ∃ t, exec (.safeN false) s = .next t ∧ t.rd pSilo SILO_STAT_SAFEN = 0 ∧ (t.flto 115).pair = false
          ∧ t.safety = s.safety
          ∧ ((∀ k e, s.safety.inj ≠ some (115, k, e)) → (s.flto 115).invalid = false → (s.flto 115).stuck = false → t.isLive 115 = false
            ∧ (s.isLive 115 = true → s.slotState 115 = 1 → t.slotState 115 = 2))
          ∧ RegsKept s t [fieldKey pSilo SILO_STAT_SAFEN 0 0, fieldKey pFlt FLT_LIVE_LIVE 3 0, fieldKey pFlt FLT_SSTAT_STATE 115 0])
  ∧ (∀ (g : Fin 8) (meas : BitVec 8) (s : State),
      ∃ t, exec (.groupCurrentLimit g meas) s = .next t ∧ t.rd pSilo SILO_ILIM_MEAS g = meas.toNat
        ∧ (meas.toNat ≤ s.rd pSilo SILO_ILIM_LIMIT g → OnlyRegs s t [fieldKey pSilo SILO_ILIM_MEAS g 0])
        ∧ (s.rd pSilo SILO_ILIM_LIMIT g < meas.toNat →
            (∀ c n, c / 40 = g.val → c < 320 → s.siteOf c = some n → causeOf t n 4 = true)
            ∧ t.isLive (105 + g) = true ∧ (t.flto (105 + g)).pair = true))
  ∧ (∀ (temps : List (BitVec 8)) (c : Instr) (s : State), c = .thermalWarning temps ∨ c = .thermalCritical temps →
      (temps.length ≠ 4 → exec c s = .next s)
      ∧ (temps.length = 4 →
          let ok := countedTemps temps
          let warn := ∃ x ∈ ok, (s.rd pSilo SILO_THR_WARN : Int) ≤ x
          let crit := ok.length ≤ 2 ∨ ∃ x ∈ ok, (s.rd pSilo SILO_THR_CRIT : Int) ≤ x
          ∃ t, exec c s = .next t ∧ t.rd pSilo SILO_TEMP_TEMP = leNat temps
            ∧ (t.rd pSilo SILO_STAT_TSENS = 1 ↔ ok.length < 4)
            ∧ (warn → t.rd pSilo SILO_STAT_WARN = 1 ∧ asserted s t 113)
            ∧ (¬ warn → t.rd pSilo SILO_STAT_WARN = s.rd pSilo SILO_STAT_WARN)
            ∧ (crit → t.rd pSilo SILO_STAT_CRIT = 1 ∧ asserted s t 114)
            ∧ (¬ crit → t.rd pSilo SILO_STAT_CRIT = s.rd pSilo SILO_STAT_CRIT)))
  ∧ (∀ s : State, ∃ t, exec .lockstepMismatch s = .next t ∧ t.rd pSilo SILO_STAT_LSOK = 0 ∧ t.safety.lockstepBad = true
      ∧ (∀ n < 32, causeOf t n 5 = true) ∧ asserted s t 119)
  ∧ (∀ s : State, ∃ t, exec .supplyOutOfWindow s = .next t ∧ asserted s t 116)
  ∧ ∀ (absent : Bool) (s : State),
      (s.mode = 0 → absent = false → exec (.pllUnlock absent) s = .next s)
      ∧ (s.mode ≠ 0 ∨ absent = true → ∃ t, exec (.pllUnlock absent) s = .next t ∧ asserted s t 117)

/-- A mode request is refused with its reason, changes the mode at once, or waits for the domains that it turns off or
on. IDLE_REQUEST, STANDBY_REQUEST, CAL_REQUEST, FACTORY_REQUEST, OFF_REQUEST and RESTART. The order in which the reasons
are judged is the model's choice (assumption log entry 164). -/
def Obligations.ModeRequestsAreTakenOrRefused : Prop :=
  let refused := fun (s t : State) (why : Nat) => t.rd pMode MODE_STAT_REF = 1 ∧ t.rd pMode MODE_STAT_REASON = why
    ∧ t.mode = s.mode ∧ OnlyRegs s t [fieldKey pMode MODE_STAT_REF 0 0, fieldKey pMode MODE_STAT_REASON 0 0]
  let changed := fun (s t : State) (m : Nat) => t.mode = m ∧ t.rd pMode MODE_STAT_PREV = s.mode
    ∧ t.rd pMode MODE_TS0_TS = s.stampAt s.now % 2 ^ 32 ∧ bitAt (t.rd pHost HOST_ISTAT_PEND) 16 = true
  let waits := fun (s t : State) (m : Nat) => t.mode = s.mode ∧ t.rd pMode MODE_STAT_PEND = 1 ∧ t.mgmt.target = some m
  let arrives := fun (s t : State) (m : Nat) => changed s t m ∧ t.rd pMode MODE_STAT_PEND = 0 ∧ t.mgmt.target = none
  (∀ (s : State) (dst : Nat),
      (s.mode ≠ 5 → transOk s.mode dst = false → s.modeReason dst = 1)
      ∧ (transOk s.mode dst = true → s.anySiteBusy = true ∨ s.winnRuns = true ∨ s.winn.img.isSome = true → s.modeReason dst = 2))
  ∧ (∀ (r : Requester) (v : Nat) (c : Instr) (s : State),
      (v = 1 ∧ c = .idleRequest r) ∨ (v = 2 ∧ c = .standbyRequest r) ∨ (v = 3 ∧ c = .calRequest r)
        ∨ (v = 4 ∧ c = .factoryRequest r) ∨ (v = 5 ∧ c = .offRequest r)
        ∨ (v = 6 ∧ ∃ ref b, c = .restartRequest r ref b) →
      WriteActs s r pMode 0x40 v → s.modeReason (reqMode v) ≠ 0 →
      ∃ t, exec c s = .next t ∧ refused s t (s.modeReason (reqMode v)))
  ∧ (∀ (r : Requester) (s : State),
      (WriteActs s r pMode 0x40 3 → s.modeReason 4 = 0 → ∃ t, exec (.calRequest r) s = .next t ∧ changed s t 4)
      ∧ (WriteActs s r pMode 0x40 4 → s.modeReason 7 = 0 → ∃ t, exec (.factoryRequest r) s = .next t ∧ changed s t 7)
      ∧ (WriteActs s r pMode 0x40 1 → s.modeReason 3 = 0 → s.mode ≠ 2 →
          ∃ t, exec (.idleRequest r) s = .next t ∧ changed s t 3)
      ∧ (WriteActs s r pMode 0x40 1 → s.modeReason 3 = 0 → s.mode = 2 → ∃ t, exec (.idleRequest r) s = .next t
          ∧ (∀ d < 80, bitAt t.mgmt.up d = (bitAt s.mgmt.up d || s.requested d && !s.domainOn d))
          ∧ if t.mgmt.down ≠ 0 ∨ t.upBatch ≠ [] then waits s t 3 else arrives s t 3)
      ∧ (WriteActs s r pMode 0x40 2 → s.modeReason 2 = 0 → ∃ t, exec (.standbyRequest r) s = .next t
          ∧ (∀ d < 80, bitAt t.mgmt.down d = (bitAt s.mgmt.down d || s.standbyOff d && s.domainOn d))
          ∧ if t.mgmt.down ≠ 0 then waits s t 2 else arrives s t 2)
      ∧ (WriteActs s r pMode 0x40 5 → s.modeReason 0 = 0 → ∃ t, exec (.offRequest r) s = .next t
          ∧ (∀ d < 80, ¬ (69 ≤ d ∧ d < 73) → s.domainOn d = true → bitAt t.mgmt.down d = true)
          ∧ (∀ n < 4, t.rd (pDc n) DC_STAT_STATE = if s.rd (pDc n) DC_STAT_STATE = 2 then 3 else s.rd (pDc n) DC_STAT_STATE)
          ∧ if t.mgmt.down ≠ 0 then waits s t 0 else arrives s t 0))
  ∧ ∀ (r : Requester) (ref : Option RefCheck) (b : BootFindings) (s : State), WriteActs s r pMode 0x40 6 → s.modeReason 1 = 0 →
      ∃ t, exec (.restartRequest r ref b) s = .next t ∧ t.mode = 1 ∧ t.rd pMode MODE_STAT_WARM = 1
        ∧ t.rd pMode MODE_STAT_PREV = s.mode ∧ t.keys = s.keys ∧ t.mgmt.sealed = s.mgmt.sealed ∧ t.mem.gran = []
        ∧ t.rd pSec SEC_LIFE_STATE = (if s.mgmt.sealed then 1 else 0) ∧ t.rd pDbg DBG_LEVEL_LEVEL = (if s.mgmt.sealed then 0 else 1)
        ∧ (∀ fa ∈ fieldsAt .ddr 0x40, t.rd pDdr fa.f fa.i fa.j = s.rd pDdr fa.f fa.i fa.j)
        ∧ (ref.isSome = true → t.rd pDev DEV_BOOT_STEP = 9 ∧ ∀ d < 80, t.domainOn d = true)
        ∧ (ref = none → t.rd pDev DEV_BOOT_STEP = 2 ∧ t.mgmt.boot = some b ∧ t.isLive 117 = true)

/-- Power domains go off and come back as requested, and BOOT runs its steps from a cold start to IDLE or HOLD.
POWER_REQUEST, POWER_UP_COMPLETE, POWER_DOWN_COMPLETE, POWER_ON_RESET_RELEASE, REFCLK_DETECT, BOOT_END and VDDAON_LOSS.
The findings of the checks are operands; what VDDAON_LOSS keeps is the model's choice (assumption log entry 170). -/
def Obligations.DomainsAndBoot : Prop :=
  let booted := fun (s t : State) (c : RefCheck) (b : BootFindings) => t.mode = 1 ∧ t.rd pDev DEV_BOOT_STEP = 9 ∧ t.mgmt.boot = none
    ∧ (∀ d < 80, s.requested d = true → t.domainOn d = true) ∧ t.mem.gran = []
    ∧ (c = .falling → t.rd pDev DEV_BOOT_REFREV = 1) ∧ (c = .silent → t.rd pDev DEV_BOOT_REFUNCHK = 1)
    ∧ ((∃ n ∈ b.fails, selfTestSlot n = true) → t.rd pDev DEV_BOOT_STFAIL = 1)
  let arrived := fun (t : State) (m : Nat) => t.mode = m ∧ t.mgmt.target = none ∧ t.rd pMode MODE_STAT_PEND = 0
  (∀ (r : Requester) (w : Fin 3) (v : Word) (s : State),
      (s.admits r pPwr false = false → ∃ t, exec (.powerRequest r w v) s = .next t ∧ Discarded s t pPwr)
      ∧ (s.admits r pPwr false = true → ∃ t, exec (.powerRequest r w v) s = .next t ∧ t.mode = s.mode
          ∧ ∀ d < 80,
            let b := bitAt v.toNat (d % 32)
            let kept := s.requested d && !b && s.offRefused d
            (d / 32 ≠ w.val → t.requested d = s.requested d ∧ bitAt t.mgmt.up d = bitAt s.mgmt.up d
              ∧ bitAt t.mgmt.down d = bitAt s.mgmt.down d)
            ∧ (d / 32 = w.val → t.requested d = (b || kept)
              ∧ (kept = true → t.rd pPwr PWR_ERR_REFUSED = 1 ∧ d ≤ t.rd pPwr PWR_ERR_DOM)
              ∧ bitAt t.mgmt.down d = (bitAt s.mgmt.down d || s.requested d && !b && !kept && s.domainOn d)
              ∧ bitAt t.mgmt.up d = (bitAt s.mgmt.up d && !(s.requested d && !b && !kept)
                  || !s.requested d && b && !(s.mode = 2 && s.standbyOff d) && !s.domainOn d))))
  ∧ (∀ s : State, (s.upBatch = [] → s.mgmt.target = none → exec .powerUpComplete s = .next s)
      ∧ ∃ t, exec .powerUpComplete s = .next t
        ∧ (∀ d < 80, t.domainOn d = (s.domainOn d || s.upBatch.contains d))
        ∧ (∀ d ∈ s.upBatch, bitAt t.mgmt.up d = false)
        ∧ (s.mgmt.target = some 3 → s.mgmt.down = 0 → t.upBatch = [] → arrived t 3)
        ∧ (s.mgmt.target = some 3 → t.upBatch ≠ [] → t.mgmt.target = some 3))
  ∧ (∀ (d : Fin 80) (s : State),
      (bitAt s.mgmt.down d = false → exec (.powerDownComplete d) s = .next s)
      ∧ (bitAt s.mgmt.down d = true → ∃ t, exec (.powerDownComplete d) s = .next t
          ∧ t.domainOn d = false ∧ bitAt t.mgmt.down d = false
          ∧ (s.domainOn d = true → 40 ≤ d.val → d.val < 56 → ∀ a, s.granBank (a / 32) = d.val - 40 → tabGet 0#8 t.mem.gran a = 0#8)
          ∧ (s.domainOn d = true → d.val = 68 → t.mem.record = []) ∧ (s.domainOn d = true → d.val = 73 → t.mem.cap = [])
          ∧ (s.mgmt.target = none → s.requested d = true → s.mode ≠ 0 → s.mode ≠ 2 → bitAt t.mgmt.up d = true)
          ∧ (∀ m < 16, s.mgmt.target = some m → t.mgmt.down = 0 → (m = 3 → t.upBatch = []) → arrived t m)))
  ∧ (∀ (ref : Option RefCheck) (b : BootFindings) (s : State),
      (s.mode ≠ 1 ∨ s.rd pDev DEV_BOOT_STEP ≠ 0 → exec (.powerOnResetRelease ref b) s = .next s)
      ∧ (s.mode = 1 → s.rd pDev DEV_BOOT_STEP = 0 → ∃ t, exec (.powerOnResetRelease ref b) s = .next t
          ∧ t.rd pSilo SILO_STAT_LSOK = 1 ∧ t.safety.allSafe = true
          ∧ (∀ n < 32, bitAt (t.rd pSilo SILO_SCAUSE_CAUSE n) 3 = true)
          ∧ t.rd pSec SEC_LIFE_STATE = (if s.mgmt.sealed then 1 else 0)
          ∧ t.rd pDbg DBG_LEVEL_LEVEL = (if s.mgmt.sealed then 0 else 1)
          ∧ t.rd pDev DEV_SERL_SER = Config.fuse 0 % 2 ^ 32
          ∧ (∀ c, ref = some c → booted s t c b)
          ∧ (ref = none → t.mode = 1 ∧ t.rd pDev DEV_BOOT_STEP = 2 ∧ t.mgmt.boot = some b ∧ t.isLive 117 = true)))
  ∧ (∀ (c : RefCheck) (s : State),
      (s.mgmt.boot = none → exec (.refclkDetect c) s = .next s)
      ∧ (∀ b, s.mgmt.boot = some b → s.mode = 1 → ∃ t, exec (.refclkDetect c) s = .next t ∧ booted s t c b))
  ∧ (∀ (us : Word) (s : State),
      (s.mode ≠ 1 ∨ s.rd pDev DEV_BOOT_STEP ≠ 9 → exec (.bootEnd us) s = .next s)
      ∧ (s.mode = 1 → s.rd pDev DEV_BOOT_STEP = 9 → ∃ t, exec (.bootEnd us) s = .next t
          ∧ t.rd pDev DEV_BOOT_STEP = 10 ∧ t.rd pDev DEV_BOOTT_TIME = us.toNat ∧ t.rd pMode MODE_STAT_PREV = 1
          ∧ (s.haltStands = true → t.mode = 6)
          ∧ (s.haltStands = false → t.mode = 3 ∧ t.now = max s.now (s.mgmt.bootFrom + us.toNat * usG)
              ∧ ∀ n < 32, bitAt t.winn.due n = true)))
  ∧ ∀ s : State, exec .vddaonLoss s = .next { State.reset with
      now := s.now, free := s.free, rdata := s.rdata, pending := s.pending
      mem := { flash := s.mem.flash, host := s.mem.host, qdr := s.mem.qdr }, mgmt := { sealed := s.mgmt.sealed } }

/-- Sealing, zeroisation, key loads, debug levels and tokens have their effects, or are refused with their reason. SEAL,
ZEROISE, ZEROISATION_DONE, KEY_LOAD, DEBUG_LEVEL_REQUEST, TOKEN_SUBMIT and TOKEN_VERIFIED. The key unwrap and the
verification of a token are functions of their operands that nothing constrains, and the challenge is drawn (assumption
log entry 4). -/
def Obligations.LifecycleKeysAndTokens : Prop :=
  let emptied := fun t : State => t.keys = [] ∧ t.hop = [] ∧ t.mem.gran = [] ∧ t.mem.granErr = [] ∧ t.mem.dict = []
    ∧ t.rd pSec SEC_KSTAT_LOADED = 0 ∧ t.rd pSec SEC_KSTAT_ZBUSY = 1
  (∀ (r : Requester) (key : BitVec 16) (s : State), WriteActs s r pSec 0x44 (key.toNat * 65536 + 1) →
      (key.toNat ≠ 0x5EA1 ∨ s.rd pSec SEC_LIFE_STATE ≠ 0 ∨ s.mode ≠ 3 → ∃ t, exec (.sealDevice r key) s = .next t ∧ Discarded s t pSec)
      ∧ (key.toNat = 0x5EA1 → s.rd pSec SEC_LIFE_STATE = 0 → s.mode = 3 → ∃ t, exec (.sealDevice r key) s = .next t
          ∧ t.mgmt = { s.mgmt with sealed := true } ∧ t.rd pSec SEC_LIFE_STATE = 1 ∧ t.rd pDbg DBG_LEVEL_LEVEL = 0 ∧ emptied t))
  ∧ (∀ (r : Requester) (s : State), WriteActs s r pSec 0x44 2 →
      (s.anySiteBusy = true → ∃ t, exec (.zeroise r) s = .next t ∧ Discarded s t pSec)
      ∧ (s.anySiteBusy = false → ∃ t, exec (.zeroise r) s = .next t ∧ emptied t
          ∧ { t with regs := s.regs, keys := s.keys, hop := s.hop, mem := s.mem } = s
          ∧ RegsKept s t [fieldKey pSec SEC_KSTAT_LOADED 0 0, fieldKey pSec SEC_KSTAT_ZBUSY 0 0]))
  ∧ (∀ s : State,
      (s.rd pSec SEC_KSTAT_ZBUSY = 0 → exec .zeroisationDone s = .next s)
      ∧ (s.rd pSec SEC_KSTAT_ZBUSY = 1 → ∃ t, exec .zeroisationDone s = .next t ∧ t.rd pSec SEC_KSTAT_ZBUSY = 0
          ∧ t.mgmt = { s.mgmt with afterZero := none }
          ∧ (s.mgmt.afterZero = none → RegsKept s t [fieldKey pSec SEC_KSTAT_ZBUSY 0 0])
          ∧ (∀ k, s.mgmt.afterZero = some k → t.rd pDbg DBG_STAT_BUSY = 0
            ∧ if k = 2 then t.rd pDbg DBG_LEVEL_LEVEL = 2 ∧ t.rd pSec SEC_LIFE_STATE = s.rd pSec SEC_LIFE_STATE
              else t.rd pSec SEC_LIFE_STATE = 2 ∧ t.rd pDbg DBG_LEVEL_LEVEL = s.rd pDbg DBG_LEVEL_LEVEL)))
  ∧ (∀ (r : Requester) (s : State), WriteActs s r pSec 0xC8 1 →
      let slot := s.rd pSec SEC_KSEL_SLOT
      let wrap := s.bit pSec SEC_KSEL_WRAP
      let life := s.rd pSec SEC_LIFE_STATE
      let data := (List.range 18).map fun i => s.rd pSec SEC_KDATA_DATA i
      let badLife := life = 2 ∨ life = 1 ∧ s.rd pDbg DBG_LEVEL_LEVEL = 2 ∨ wrap = false ∧ life ≠ 0
      let badMode := s.mode = 0 ∨ s.mode = 1 ∨ s.mode = 5
        ∨ ∃ n < 32, s.siteBusy n = true ∧ bitAt (s.rd pHop HOP_CFG_KEYEN n) slot = true
      ∃ t, exec (.keyLoad r) s = .next t ∧ (∀ i < 18, t.rd pSec SEC_KDATA_DATA i = 0)
        ∧ (let refused := fun why => t.rd pSec SEC_KSTAT_KREF = 1 ∧ t.rd pSec SEC_KSTAT_KREASON = why ∧ t.keys = s.keys
          let loaded := fun key => t.keys = tabInsert s.keys slot (key + 1) ∧ bitAt (t.rd pSec SEC_KSTAT_LOADED) slot = true
          (badLife → refused 2) ∧ (¬ badLife → badMode → refused 1)
          ∧ (¬ badLife → ¬ badMode → wrap = true →
            match Config.keyUnwrap data with
            | some k => loaded (k % 2 ^ 512)
            | none => refused 3)
          ∧ (¬ badLife → ¬ badMode → wrap = false → loaded (wordsNat (data.take 16)))))
  ∧ (∀ (r : Requester) (level : Fin 4) (s : State), WriteActs s r pDbg 0x44 level →
      let token := s.rd pSec SEC_LIFE_STATE = 1 ∧ level.val = 2 ∧ s.rd pDbg DBG_LEVEL_LEVEL < 2
      ∃ t, exec (.debugLevelRequest r level) s = .next t
        ∧ (token → OnlyRegs s t [fieldKey pDbg DBG_STAT_REF 0 0, fieldKey pDbg DBG_STAT_REASON 0 0]
          ∧ t.rd pDbg DBG_STAT_REF = 1 ∧ t.rd pDbg DBG_STAT_REASON = 4)
        ∧ (¬ token → OnlyRegs s t [fieldKey pDbg DBG_LEVEL_LEVEL 0 0] ∧ t.rd pDbg DBG_LEVEL_LEVEL = level))
  ∧ (∀ (r : Requester) (target : Fin 4) (s : State), WriteActs s r pDbg 0x160 (256 + target) →
      let busy := s.anySiteBusy = true ∨ s.rd pDbg DBG_STAT_BUSY = 1
      let badMode := s.mode ≠ 3 ∧ (target.val = 3 ∨ s.mode ≠ 2 ∧ s.mode ≠ 4 ∧ s.mode ≠ 6)
      let why := if busy then 2 else if badMode then 3 else if s.rd pSec SEC_LIFE_STATE ≠ 1 then 4
        else if 4 ≤ s.rd pDbg DBG_STAT_FAILS then 5 else 0
      ∃ t, exec (.tokenSubmit r target) s = .next t ∧ t.rd pDbg DBG_TGO_TARGET = target
        ∧ (∀ i < 12, t.rd pDbg DBG_CHAL_CHAL i = Config.freeValue (s.free + i) % 2 ^ 32)
        ∧ (why ≠ 0 → t.rd pDbg DBG_STAT_REF = 1 ∧ t.rd pDbg DBG_STAT_REASON = why ∧ t.mgmt = s.mgmt)
        ∧ (why = 0 → t.rd pDbg DBG_STAT_BUSY = 1
          ∧ t.mgmt = { s.mgmt with token := some (Config.tokenVerify s.tokenWords s.challenge target, target.val) }))
  ∧ ∀ s : State,
      (s.mgmt.token = none → exec .tokenVerified s = .next s)
      ∧ (∀ k, s.mgmt.token = some (false, k) → ∃ t, exec .tokenVerified s = .next t ∧ t.mgmt = { s.mgmt with token := none }
          ∧ t.rd pDbg DBG_STAT_REF = 1 ∧ t.rd pDbg DBG_STAT_REASON = 1 ∧ t.rd pDbg DBG_STAT_BUSY = 0
          ∧ t.rd pDbg DBG_STAT_FAILS = min 4 (s.rd pDbg DBG_STAT_FAILS + 1)
          ∧ t.rd pDbg DBG_LEVEL_LEVEL = s.rd pDbg DBG_LEVEL_LEVEL)
      ∧ (∀ k, s.mgmt.token = some (true, k) → s.anySiteBusy = true → ∃ t, exec .tokenVerified s = .next t
          ∧ t.mgmt = { s.mgmt with token := none } ∧ t.rd pSec PAGE_STAT_WERR = 1 ∧ t.rd pDbg DBG_STAT_REF = 1
          ∧ t.rd pDbg DBG_STAT_REASON = 2 ∧ t.rd pDbg DBG_STAT_BUSY = 0 ∧ t.keys = s.keys)
      ∧ (∀ k, s.mgmt.token = some (true, k) → s.anySiteBusy = false → ∃ t, exec .tokenVerified s = .next t
          ∧ t.mgmt = { s.mgmt with token := none, afterZero := some k } ∧ emptied t
          ∧ t.rd pDbg DBG_LEVEL_LEVEL = s.rd pDbg DBG_LEVEL_LEVEL ∧ t.rd pSec SEC_LIFE_STATE = s.rd pSec SEC_LIFE_STATE)

/-- The I3C target writes and reads registers once it has an address, and the TAP captures and drives. ENTDAA,
I3C_SET_OFFSET, I3C_WRITE, I3C_READ, BYPASS, IDCODE, SAMPLE_PRELOAD and EXTEST. The identification code is a free value
(assumption log entry 4); what an EXTEST that the mode does not permit does is the model's choice (assumption log entry
173). -/
def Obligations.TargetAndTap : Prop :=
  (∀ (addr : BitVec 7) (s : State), exec (.entdaa addr) s = .next { s with mgmt := { s.mgmt with i3cAddr := some addr.toNat } })
  ∧ (∀ (off v : Word) (s : State), s.mgmt.i3cAddr = none →
      exec (.i3cSetOffset off) s = .next s ∧ exec (.i3cWrite off v) s = .next s ∧ exec .i3cRead s = .next s)
  ∧ (∀ (off v : Word) (s : State), s.mgmt.i3cAddr ≠ none →
      exec (.i3cSetOffset off) s = .next { s with mgmt := { s.mgmt with i3cOff := off.toNat } }
      ∧ (off.toNat < 2 ^ 26 →
          exec (.i3cWrite off v) s = exec (.registerWrite .i3c (BitVec.ofNat 26 off.toNat) 4 (BitVec.ofNat 64 v.toNat)) s)
      ∧ (2 ^ 26 ≤ off.toNat → exec (.i3cWrite off v) s = .next s)
      ∧ (s.mgmt.i3cOff < 2 ^ 26 → exec .i3cRead s = exec (.rcRead .i3c (BitVec.ofNat 26 s.mgmt.i3cOff) 4) s))
  ∧ (∀ (p : Page) (s : State), s.mgmt.i3cAddr ≠ none → s.mgmt.i3cOff % 4 = 0 → pageOf s.mgmt.i3cOff = some p →
      p.kind ∉ [PKind.mode, .pwr, .flt, .silo, .sec, .dbg] → exec .i3cRead s = .next { s with rdata := 0 })
  ∧ (∀ s : State,
      exec .bypass s = .next { s with tap := { s.tap with ir := .bypass, captured := 0, extest := false } }
      ∧ exec .idcode s = .next { s with tap := { s.tap with ir := .idcode, captured := Config.fuse 64, extest := false } })
  ∧ ∀ (pins preload : BitVec 320) (s : State),
      exec (.samplePreload pins preload) s = .next { s with
        tap := { ir := .samplePreload, captured := pins.toNat, cells := preload.toNat, extest := false } }
      ∧ (s.mode = 3 ∨ s.mode = 4 ∨ s.mode = 7 → exec (.extest pins) s = .next { s with
          tap := { s.tap with ir := .extest, captured := pins.toNat, extest := true } })
      ∧ (s.mode ≠ 3 → s.mode ≠ 4 → s.mode ≠ 7 → exec (.extest pins) s = .next s)
end

