-- ==== Sys2Proof/Laws/Frame.lean ====
section
/-! SUPPORT. What a function may change: a mask names the parts of the state that it may; every other part is as before,
time does not go back, the stores keep their form, and a sealed device stays sealed. -/

namespace Sys2Proof.Machine

/-- A part of the state, or a fixed value where the mask names the part. -/
def veil {α : Type} (m i : Nat) (d a : α) : α := bif m.testBit i then d else a

/-- The state with the parts that a mask names veiled. -/
def State.veiled (m : Nat) (s : State) : State where
  now := veil m 0 State.reset.now s.now
  regs := veil m 1 State.reset.regs s.regs
  staged := veil m 2 State.reset.staged s.staged
  pageOps := veil m 3 State.reset.pageOps s.pageOps
  ch := veil m 4 State.reset.ch s.ch
  sh := veil m 5 State.reset.sh s.sh
  cg := veil m 6 State.reset.cg s.cg
  clk := veil m 7 State.reset.clk s.clk
  sq := veil m 8 State.reset.sq s.sq
  hop := veil m 9 State.reset.hop s.hop
  results := veil m 10 State.reset.results s.results
  mem := {
    gran := veil m 36 [] s.mem.gran,
    granErr := veil m 37 [] s.mem.granErr,
    dict := veil m 38 [] s.mem.dict,
    cap := veil m 39 [] s.mem.cap,
    record := veil m 40 [] s.mem.record,
    recHdr := veil m 41 [] s.mem.recHdr,
    bw := veil m 42 [] s.mem.bw,
    ddr := veil m 43 [] s.mem.ddr,
    qdr := veil m 44 [] s.mem.qdr,
    flash := veil m 45 [] s.mem.flash,
    host := veil m 46 [] s.mem.host }
  aml := veil m 11 State.reset.aml s.aml
  amlOseq := veil m 12 State.reset.amlOseq s.amlOseq
  amlSeen := veil m 13 State.reset.amlSeen s.amlSeen
  gln := veil m 14 State.reset.gln s.gln
  brst := veil m 15 State.reset.brst s.brst
  cnt := veil m 16 State.reset.cnt s.cnt
  scan := veil m 17 State.reset.scan s.scan
  slice := veil m 18 State.reset.slice s.slice
  acq := veil m 19 State.reset.acq s.acq
  dc := veil m 20 State.reset.dc s.dc
  ddrReplies := veil m 21 State.reset.ddrReplies s.ddrReplies
  micro := veil m 22 State.reset.micro s.micro
  bwc := veil m 23 State.reset.bwc s.bwc
  winn := veil m 24 State.reset.winn s.winn
  tap := veil m 25 State.reset.tap s.tap
  mgmt := veil m 26 State.reset.mgmt s.mgmt
  keys := veil m 27 State.reset.keys s.keys
  host := veil m 28 State.reset.host s.host
  eth := veil m 29 State.reset.eth s.eth
  time := veil m 30 State.reset.time s.time
  flt := veil m 31 State.reset.flt s.flt
  safety := veil m 32 State.reset.safety s.safety
  free := veil m 33 State.reset.free s.free
  rdata := veil m 34 State.reset.rdata s.rdata
  pending := veil m 35 State.reset.pending s.pending

/-- `t` differs from `s` only in the parts that the mask names, and in none of the ways that no command brings about. -/
structure Keeps (m : Nat) (s t : State) : Prop where
  frame : t.veiled m = s.veiled m
  time : s.now ≤ t.now
  wf : s.storesWf = true → t.storesWf = true
  life : s.mgmt.sealed = true → t.mgmt.sealed = true
  kinds : ∀ k, m.testBit (64 + k % 32) = false → tabFind t.regs k = tabFind s.regs k

theorem Keeps.refl (m : Nat) (s : State) : Keeps m s s := ⟨rfl, Nat.le_refl _, id, id, fun _ _ => rfl⟩

/-- The mask of the registers of a page's kind. -/
def kindBit (p : Page) : Nat :=
  match p.kind with
  | .dev => 36893488147419103232
  | .mode => 73786976294838206464
  | .clk => 147573952589676412928
  | .pwr => 295147905179352825856
  | .flt => 590295810358705651712
  | .silo => 1180591620717411303424
  | .sec => 2361183241434822606848
  | .dbg => 4722366482869645213696
  | .time => 9444732965739290427392
  | .eth => 18889465931478580854784
  | .cnt => 37778931862957161709568
  | .brst => 75557863725914323419136
  | .ucode => 151115727451828646838272
  | .winn => 302231454903657293676544
  | .host => 604462909807314587353088
  | .aml => 1208925819614629174706176
  | .bw => 2417851639229258349412352
  | .ddr => 4835703278458516698824704
  | .dc => 9671406556917033397649408
  | .qdr => 19342813113834066795298816
  | .asn => 38685626227668133590597632
  | .ascan => 77371252455336267181195264
  | .acq => 154742504910672534362390528
  | .sq => 309485009821345068724781056
  | .gran => 618970019642690137449562112
  | .hop => 1237940039285380274899124224
  | .grnd => 2475880078570760549798248448
  | .gln => 4951760157141521099596496896
  | .sh => 9903520314283042199192993792

theorem kindBit_testBit (p : Page) (k : Nat) (h : k % 32 = pageType p.kind) : (kindBit p).testBit (64 + k % 32) = true := by
  rw [h]
  obtain ⟨c, n⟩ := p
  cases c <;> (simp only [kindBit, pageType]; decide)

theorem fieldKey_kind (p : Page) (f : Field) (i j : Nat) : fieldKey p f i j % 32 = pageType p.kind := by
  have h : pageType p.kind < 32 := by cases p.kind <;> decide
  unfold fieldKey
  omega

theorem keyInPage_ne (p : Page) {k : Nat} (h : k % 32 ≠ pageType p.kind) : keyInPage p k = false := by
  simp [keyInPage, h]

theorem allKinds_bit (m : Nat) (h : ∀ r < 32, m.testBit (64 + r) = true) (k : Nat) : ¬ m.testBit (64 + k % 32) = false := by
  rw [h _ (Nat.mod_lt _ (by decide))]
  decide

theorem or_trans {a b c : Nat} (h : a ||| b = b) (g : b ||| c = c) : a ||| c = c := by
  rw [← g, ← Nat.or_assoc, h]

theorem kb_self (p : Page) {a b : Nat} (h : a ||| b = b) : (kindBit p ||| a) ||| (kindBit p ||| b) = kindBit p ||| b := by
  rw [Nat.or_assoc, ← Nat.or_assoc a, Nat.or_comm a, Nat.or_assoc, h, ← Nat.or_assoc, Nat.or_self]

theorem kb_lit (p : Page) {a b : Nat} (h : a ||| b = b) : a ||| (kindBit p ||| b) = kindBit p ||| b := by
  rw [← Nat.or_assoc, Nat.or_comm a, Nat.or_assoc, h]

theorem kb_k {p : Page} (k : Nat) {a b : Nat} (e : kindBit p = k) (h : (k ||| a) ||| b = b) :
    (kindBit p ||| a) ||| b = b := by
  rw [e, h]

theorem kb_kp {q : Page} (p : Page) (k : Nat) {a b : Nat} (e : kindBit q = k) (h : (k ||| a) ||| b = b) :
    (kindBit q ||| a) ||| (kindBit p ||| b) = kindBit p ||| b := kb_lit p (kb_k k e h)

theorem kb_all (p : Page) : kindBit p ||| 79228162495817593519834398720 = 79228162495817593519834398720 := by
  obtain ⟨c, n⟩ := p
  rw [show kindBit ⟨c, n⟩ = kindBit ⟨c, 0⟩ from rfl]
  cases c <;> rfl

theorem kb_any {p : Page} {a b : Nat} (h : a ||| b = b) (g : 79228162495817593519834398720 ||| b = b) : (kindBit p ||| a) ||| b = b := by
  rw [Nat.or_assoc, h]
  exact or_trans (kb_all p) g

theorem kb_anyp {q : Page} (p : Page) {a b : Nat} (h : a ||| b = b) (g : 79228162495817593519834398720 ||| b = b) :
    (kindBit q ||| a) ||| (kindBit p ||| b) = kindBit p ||| b := kb_lit p (kb_any h g)

theorem kb_tb (p : Page) {b i : Nat} (h : b.testBit i = true) : (kindBit p ||| b).testBit i = true := by
  rw [Nat.testBit_or, h, Bool.or_true]

theorem veil_mono {α : Type} {m n : Nat} (h : m ||| n = n) (i : Nat) {d a b : α} (e : veil m i d a = veil m i d b) :
    veil n i d a = veil n i d b := by
  unfold veil at *
  by_cases hm : m.testBit i = true
  · have hn : n.testBit i = true := by rw [← h, Nat.testBit_or, hm, Bool.true_or]
    simp [hn]
  · simp [hm] at e
    rw [e]

theorem State.veiled_mono {m n : Nat} (h : m ||| n = n) {s t : State} (e : t.veiled m = s.veiled m) :
    t.veiled n = s.veiled n := by
  simp only [State.veiled, State.mk.injEq, Mems.mk.injEq] at e ⊢
  exact ⟨veil_mono h _ (e.1),
    veil_mono h _ (e.2.1),
    veil_mono h _ (e.2.2.1),
    veil_mono h _ (e.2.2.2.1),
    veil_mono h _ (e.2.2.2.2.1),
    veil_mono h _ (e.2.2.2.2.2.1),
    veil_mono h _ (e.2.2.2.2.2.2.1),
    veil_mono h _ (e.2.2.2.2.2.2.2.1),
    veil_mono h _ (e.2.2.2.2.2.2.2.2.1),
    veil_mono h _ (e.2.2.2.2.2.2.2.2.2.1),
    veil_mono h _ (e.2.2.2.2.2.2.2.2.2.2.1),
    ⟨veil_mono h _ ((e.2.2.2.2.2.2.2.2.2.2.2.1).1), veil_mono h _ ((e.2.2.2.2.2.2.2.2.2.2.2.1).2.1), veil_mono h _ ((e.2.2.2.2.2.2.2.2.2.2.2.1).2.2.1), veil_mono h _ ((e.2.2.2.2.2.2.2.2.2.2.2.1).2.2.2.1), veil_mono h _ ((e.2.2.2.2.2.2.2.2.2.2.2.1).2.2.2.2.1), veil_mono h _ ((e.2.2.2.2.2.2.2.2.2.2.2.1).2.2.2.2.2.1), veil_mono h _ ((e.2.2.2.2.2.2.2.2.2.2.2.1).2.2.2.2.2.2.1), veil_mono h _ ((e.2.2.2.2.2.2.2.2.2.2.2.1).2.2.2.2.2.2.2.1), veil_mono h _ ((e.2.2.2.2.2.2.2.2.2.2.2.1).2.2.2.2.2.2.2.2.1), veil_mono h _ ((e.2.2.2.2.2.2.2.2.2.2.2.1).2.2.2.2.2.2.2.2.2.1), veil_mono h _ ((e.2.2.2.2.2.2.2.2.2.2.2.1).2.2.2.2.2.2.2.2.2.2)⟩,
    veil_mono h _ (e.2.2.2.2.2.2.2.2.2.2.2.2.1),
    veil_mono h _ (e.2.2.2.2.2.2.2.2.2.2.2.2.2.1),
    veil_mono h _ (e.2.2.2.2.2.2.2.2.2.2.2.2.2.2.1),
    veil_mono h _ (e.2.2.2.2.2.2.2.2.2.2.2.2.2.2.2.1),
    veil_mono h _ (e.2.2.2.2.2.2.2.2.2.2.2.2.2.2.2.2.1),
    veil_mono h _ (e.2.2.2.2.2.2.2.2.2.2.2.2.2.2.2.2.2.1),
    veil_mono h _ (e.2.2.2.2.2.2.2.2.2.2.2.2.2.2.2.2.2.2.1),
    veil_mono h _ (e.2.2.2.2.2.2.2.2.2.2.2.2.2.2.2.2.2.2.2.1),
    veil_mono h _ (e.2.2.2.2.2.2.2.2.2.2.2.2.2.2.2.2.2.2.2.2.1),
    veil_mono h _ (e.2.2.2.2.2.2.2.2.2.2.2.2.2.2.2.2.2.2.2.2.2.1),
    veil_mono h _ (e.2.2.2.2.2.2.2.2.2.2.2.2.2.2.2.2.2.2.2.2.2.2.1),
    veil_mono h _ (e.2.2.2.2.2.2.2.2.2.2.2.2.2.2.2.2.2.2.2.2.2.2.2.1),
    veil_mono h _ (e.2.2.2.2.2.2.2.2.2.2.2.2.2.2.2.2.2.2.2.2.2.2.2.2.1),
    veil_mono h _ (e.2.2.2.2.2.2.2.2.2.2.2.2.2.2.2.2.2.2.2.2.2.2.2.2.2.1),
    veil_mono h _ (e.2.2.2.2.2.2.2.2.2.2.2.2.2.2.2.2.2.2.2.2.2.2.2.2.2.2.1),
    veil_mono h _ (e.2.2.2.2.2.2.2.2.2.2.2.2.2.2.2.2.2.2.2.2.2.2.2.2.2.2.2.1),
    veil_mono h _ (e.2.2.2.2.2.2.2.2.2.2.2.2.2.2.2.2.2.2.2.2.2.2.2.2.2.2.2.2.1),
    veil_mono h _ (e.2.2.2.2.2.2.2.2.2.2.2.2.2.2.2.2.2.2.2.2.2.2.2.2.2.2.2.2.2.1),
    veil_mono h _ (e.2.2.2.2.2.2.2.2.2.2.2.2.2.2.2.2.2.2.2.2.2.2.2.2.2.2.2.2.2.2.1),
    veil_mono h _ (e.2.2.2.2.2.2.2.2.2.2.2.2.2.2.2.2.2.2.2.2.2.2.2.2.2.2.2.2.2.2.2.1),
    veil_mono h _ (e.2.2.2.2.2.2.2.2.2.2.2.2.2.2.2.2.2.2.2.2.2.2.2.2.2.2.2.2.2.2.2.2.1),
    veil_mono h _ (e.2.2.2.2.2.2.2.2.2.2.2.2.2.2.2.2.2.2.2.2.2.2.2.2.2.2.2.2.2.2.2.2.2.1),
    veil_mono h _ (e.2.2.2.2.2.2.2.2.2.2.2.2.2.2.2.2.2.2.2.2.2.2.2.2.2.2.2.2.2.2.2.2.2.2.1),
    veil_mono h _ (e.2.2.2.2.2.2.2.2.2.2.2.2.2.2.2.2.2.2.2.2.2.2.2.2.2.2.2.2.2.2.2.2.2.2.2.1),
    veil_mono h _ (e.2.2.2.2.2.2.2.2.2.2.2.2.2.2.2.2.2.2.2.2.2.2.2.2.2.2.2.2.2.2.2.2.2.2.2.2)⟩

/-- One step of a chain: what a function may change is among what the chain may change. -/
theorem Keeps.step {m n : Nat} {s x y : State} (h : Keeps n s x) (g : Keeps m x y) (hm : m ||| n = n) : Keeps n s y :=
  ⟨(State.veiled_mono hm g.frame).trans h.frame, Nat.le_trans h.time g.time, fun w => g.wf (h.wf w),
    fun w => g.life (h.life w), fun k e => by
      have e' : m.testBit (64 + k % 32) = false := by
        rw [← hm, Nat.testBit_or] at e
        exact (Bool.or_eq_false_iff.mp e).1
      exact (g.kinds k e').trans (h.kinds k e)⟩

theorem veil_of {α : Type} {m i : Nat} {d a b : α} (h : m.testBit i = true ∨ a = b) : veil
        m i d a = veil m i d b := by
  rcases h with h | h
  · simp [veil, h]
  · rw [h]

/-- A chain goes on by a record update: each part is named by the mask or as before, and the forms are kept. -/
theorem Keeps.mkUpd {m : Nat} {s x : State} {x_now : Nat} {x_regs : Tab Nat} {x_staged : Tab
        Nat} {x_pageOps : Tab PageOp} {x_ch : Tab ChOp} {x_sh : Tab ShOp} {x_cg : Tab CgOp} {x_clk
        : ClkOp} {x_sq : Tab SqOp} {x_hop : Tab HopOp} {x_results : List CmpResult} {x_mem : Mems}
        {x_aml : Tab AmlOp} {x_amlOseq : Nat} {x_amlSeen : List (Nat × Nat)} {x_gln : GlnOp} {x_brst
        : BrstOp} {x_cnt : CntOp} {x_scan : ScanOp} {x_slice : Tab AsOp} {x_acq : AcqOp} {x_dc : Tab
        DcOp} {x_ddrReplies : List (Nat × Option (List Byte))} {x_micro : Tab MicroCtx} {x_bwc : Tab
        BwOp} {x_winn : WinnOp} {x_tap : TapOp} {x_mgmt : MgmtOp} {x_keys : Tab Nat} {x_host : HostOp}
        {x_eth : Tab EthOp} {x_time : TimeOp} {x_flt : Tab FltOp} {x_safety : SafetyOp} {x_free : Nat}
        {x_rdata : Nat}
    (h : Keeps m s x)
    (c : (m.testBit 0 = true ∨ x_now = x.now) ∧ (x_regs = x.regs) ∧ (m.testBit 2 = true ∨ x_staged
        = x.staged) ∧ (m.testBit 3 = true ∨ x_pageOps = x.pageOps) ∧ (m.testBit 4 = true ∨ x_ch = x.ch)
        ∧ (m.testBit 5 = true ∨ x_sh = x.sh) ∧ (m.testBit 6 = true ∨ x_cg = x.cg) ∧ (m.testBit 7 =
        true ∨ x_clk = x.clk) ∧ (m.testBit 8 = true ∨ x_sq = x.sq) ∧ (m.testBit 9 = true ∨ x_hop =
        x.hop) ∧ (m.testBit 10 = true ∨ x_results = x.results) ∧ (m.testBit 11 = true ∨ x_aml = x.aml)
        ∧ (m.testBit 12 = true ∨ x_amlOseq = x.amlOseq) ∧ (m.testBit 13 = true ∨ x_amlSeen = x.amlSeen)
        ∧ (m.testBit 14 = true ∨ x_gln = x.gln) ∧ (m.testBit 15 = true ∨ x_brst = x.brst) ∧ (m.testBit
        16 = true ∨ x_cnt = x.cnt) ∧ (m.testBit 17 = true ∨ x_scan = x.scan) ∧ (m.testBit 18 = true
        ∨ x_slice = x.slice) ∧ (m.testBit 19 = true ∨ x_acq = x.acq) ∧ (m.testBit 20 = true ∨ x_dc
        = x.dc) ∧ (m.testBit 21 = true ∨ x_ddrReplies = x.ddrReplies) ∧ (m.testBit 22 = true ∨ x_micro
        = x.micro) ∧ (m.testBit 23 = true ∨ x_bwc = x.bwc) ∧ (m.testBit 24 = true ∨ x_winn = x.winn)
        ∧ (m.testBit 25 = true ∨ x_tap = x.tap) ∧ (m.testBit 26 = true ∨ x_mgmt = x.mgmt) ∧ (m.testBit
        27 = true ∨ x_keys = x.keys) ∧ (m.testBit 28 = true ∨ x_host = x.host) ∧ (m.testBit 29 = true
        ∨ x_eth = x.eth) ∧ (m.testBit 30 = true ∨ x_time = x.time) ∧ (m.testBit 31 = true ∨ x_flt =
        x.flt) ∧ (m.testBit 32 = true ∨ x_safety = x.safety) ∧ (m.testBit 33 = true ∨ x_free = x.free)
        ∧ (m.testBit 34 = true ∨ x_rdata = x.rdata) ∧ (m.testBit 36 = true ∨ x_mem.gran = x.mem.gran)
        ∧ (m.testBit 37 = true ∨ x_mem.granErr = x.mem.granErr) ∧ (m.testBit 38 = true ∨ x_mem.dict =
        x.mem.dict) ∧ (m.testBit 39 = true ∨ x_mem.cap = x.mem.cap) ∧ (m.testBit 40 = true ∨ x_mem.record
        = x.mem.record) ∧ (m.testBit 41 = true ∨ x_mem.recHdr = x.mem.recHdr) ∧ (m.testBit 42 = true
        ∨ x_mem.bw = x.mem.bw) ∧ (m.testBit 43 = true ∨ x_mem.ddr = x.mem.ddr) ∧ (m.testBit 44 = true
        ∨ x_mem.qdr = x.mem.qdr) ∧ (m.testBit 45 = true ∨ x_mem.flash = x.mem.flash) ∧ (m.testBit 46
        = true ∨ x_mem.host = x.mem.host) ∧ (x.now ≤ x_now) ∧ True ∧ (tabRising 0 x.staged = true →
        tabRising 0 x_staged = true) ∧ (tabWf 0#8 x.mem.gran = true → tabWf 0#8 x_mem.gran = true)
        ∧ (tabWf 0 x.mem.granErr = true → tabWf 0 x_mem.granErr = true) ∧ (tabWf 0#8 x.mem.dict = true
        → tabWf 0#8 x_mem.dict = true) ∧ (tabWf 0#8 x.mem.cap = true → tabWf 0#8 x_mem.cap = true)
        ∧ (tabWf 0#8 x.mem.record = true → tabWf 0#8 x_mem.record = true) ∧ (tabWf 0#8 x.mem.recHdr
        = true → tabWf 0#8 x_mem.recHdr = true) ∧ (tabWf 0#8 x.mem.bw = true → tabWf 0#8 x_mem.bw =
        true) ∧ (tabWf 0#8 x.mem.ddr = true → tabWf 0#8 x_mem.ddr = true) ∧ (tabWf 0 x.mem.qdr = true
        → tabWf 0 x_mem.qdr = true) ∧ (tabWf 0#8 x.mem.flash = true → tabWf 0#8 x_mem.flash = true)
        ∧ (tabWf 0#8 x.mem.host = true → tabWf 0#8 x_mem.host = true) ∧ (x.mgmt.sealed = true → x_mgmt.sealed
        = true)) :
    Keeps m s (State.mk x_now x_regs x_staged x_pageOps x_ch x_sh x_cg x_clk x_sq x_hop x_results
        x_mem x_aml x_amlOseq x_amlSeen x_gln x_brst x_cnt x_scan x_slice x_acq x_dc x_ddrReplies x_micro
        x_bwc x_winn x_tap x_mgmt x_keys x_host x_eth x_time x_flt x_safety x_free x_rdata x.pending)
        := by
  refine h.step (m := m) ⟨?_, c.2.2.2.2.2.2.2.2.2.2.2.2.2.2.2.2.2.2.2.2.2.2.2.2.2.2.2.2.2.2.2.2.2.2.2.2.2.2.2.2.2.2.2.2.2.2.1,
        ?_, c.2.2.2.2.2.2.2.2.2.2.2.2.2.2.2.2.2.2.2.2.2.2.2.2.2.2.2.2.2.2.2.2.2.2.2.2.2.2.2.2.2.2.2.2.2.2.2.2.2.2.2.2.2.2.2.2.2.2.2.2,
        fun k _ => by rw [c.2.1]⟩ (Nat.or_self m)
  · simp only [State.veiled, State.mk.injEq, Mems.mk.injEq]
    exact ⟨veil_of (c.1), veil_of (Or.inr (c.2.1)), veil_of (c.2.2.1), veil_of (c.2.2.2.1),
        veil_of (c.2.2.2.2.1), veil_of (c.2.2.2.2.2.1), veil_of (c.2.2.2.2.2.2.1), veil_of (c.2.2.2.2.2.2.2.1),
        veil_of (c.2.2.2.2.2.2.2.2.1), veil_of (c.2.2.2.2.2.2.2.2.2.1), veil_of (c.2.2.2.2.2.2.2.2.2.2.1),
        ⟨veil_of (c.2.2.2.2.2.2.2.2.2.2.2.2.2.2.2.2.2.2.2.2.2.2.2.2.2.2.2.2.2.2.2.2.2.2.2.1), veil_of
        (c.2.2.2.2.2.2.2.2.2.2.2.2.2.2.2.2.2.2.2.2.2.2.2.2.2.2.2.2.2.2.2.2.2.2.2.2.1), veil_of (c.2.2.2.2.2.2.2.2.2.2.2.2.2.2.2.2.2.2.2.2.2.2.2.2.2.2.2.2.2.2.2.2.2.2.2.2.2.1),
        veil_of (c.2.2.2.2.2.2.2.2.2.2.2.2.2.2.2.2.2.2.2.2.2.2.2.2.2.2.2.2.2.2.2.2.2.2.2.2.2.2.1),
        veil_of (c.2.2.2.2.2.2.2.2.2.2.2.2.2.2.2.2.2.2.2.2.2.2.2.2.2.2.2.2.2.2.2.2.2.2.2.2.2.2.2.1),
        veil_of (c.2.2.2.2.2.2.2.2.2.2.2.2.2.2.2.2.2.2.2.2.2.2.2.2.2.2.2.2.2.2.2.2.2.2.2.2.2.2.2.2.1),
        veil_of (c.2.2.2.2.2.2.2.2.2.2.2.2.2.2.2.2.2.2.2.2.2.2.2.2.2.2.2.2.2.2.2.2.2.2.2.2.2.2.2.2.2.1),
        veil_of (c.2.2.2.2.2.2.2.2.2.2.2.2.2.2.2.2.2.2.2.2.2.2.2.2.2.2.2.2.2.2.2.2.2.2.2.2.2.2.2.2.2.2.1),
        veil_of (c.2.2.2.2.2.2.2.2.2.2.2.2.2.2.2.2.2.2.2.2.2.2.2.2.2.2.2.2.2.2.2.2.2.2.2.2.2.2.2.2.2.2.2.1),
        veil_of (c.2.2.2.2.2.2.2.2.2.2.2.2.2.2.2.2.2.2.2.2.2.2.2.2.2.2.2.2.2.2.2.2.2.2.2.2.2.2.2.2.2.2.2.2.1),
        veil_of (c.2.2.2.2.2.2.2.2.2.2.2.2.2.2.2.2.2.2.2.2.2.2.2.2.2.2.2.2.2.2.2.2.2.2.2.2.2.2.2.2.2.2.2.2.2.1)⟩,
        veil_of (c.2.2.2.2.2.2.2.2.2.2.2.1), veil_of (c.2.2.2.2.2.2.2.2.2.2.2.2.1), veil_of (c.2.2.2.2.2.2.2.2.2.2.2.2.2.1),
        veil_of (c.2.2.2.2.2.2.2.2.2.2.2.2.2.2.1), veil_of (c.2.2.2.2.2.2.2.2.2.2.2.2.2.2.2.1), veil_of
        (c.2.2.2.2.2.2.2.2.2.2.2.2.2.2.2.2.1), veil_of (c.2.2.2.2.2.2.2.2.2.2.2.2.2.2.2.2.2.1), veil_of
        (c.2.2.2.2.2.2.2.2.2.2.2.2.2.2.2.2.2.2.1), veil_of (c.2.2.2.2.2.2.2.2.2.2.2.2.2.2.2.2.2.2.2.1),
        veil_of (c.2.2.2.2.2.2.2.2.2.2.2.2.2.2.2.2.2.2.2.2.1), veil_of (c.2.2.2.2.2.2.2.2.2.2.2.2.2.2.2.2.2.2.2.2.2.1),
        veil_of (c.2.2.2.2.2.2.2.2.2.2.2.2.2.2.2.2.2.2.2.2.2.2.1), veil_of (c.2.2.2.2.2.2.2.2.2.2.2.2.2.2.2.2.2.2.2.2.2.2.2.1),
        veil_of (c.2.2.2.2.2.2.2.2.2.2.2.2.2.2.2.2.2.2.2.2.2.2.2.2.1), veil_of (c.2.2.2.2.2.2.2.2.2.2.2.2.2.2.2.2.2.2.2.2.2.2.2.2.2.1),
        veil_of (c.2.2.2.2.2.2.2.2.2.2.2.2.2.2.2.2.2.2.2.2.2.2.2.2.2.2.1), veil_of (c.2.2.2.2.2.2.2.2.2.2.2.2.2.2.2.2.2.2.2.2.2.2.2.2.2.2.2.1),
        veil_of (c.2.2.2.2.2.2.2.2.2.2.2.2.2.2.2.2.2.2.2.2.2.2.2.2.2.2.2.2.1), veil_of (c.2.2.2.2.2.2.2.2.2.2.2.2.2.2.2.2.2.2.2.2.2.2.2.2.2.2.2.2.2.1),
        veil_of (c.2.2.2.2.2.2.2.2.2.2.2.2.2.2.2.2.2.2.2.2.2.2.2.2.2.2.2.2.2.2.1), veil_of (c.2.2.2.2.2.2.2.2.2.2.2.2.2.2.2.2.2.2.2.2.2.2.2.2.2.2.2.2.2.2.2.1),
        veil_of (c.2.2.2.2.2.2.2.2.2.2.2.2.2.2.2.2.2.2.2.2.2.2.2.2.2.2.2.2.2.2.2.2.1), veil_of (c.2.2.2.2.2.2.2.2.2.2.2.2.2.2.2.2.2.2.2.2.2.2.2.2.2.2.2.2.2.2.2.2.2.1),
        veil_of (c.2.2.2.2.2.2.2.2.2.2.2.2.2.2.2.2.2.2.2.2.2.2.2.2.2.2.2.2.2.2.2.2.2.2.1), trivial⟩
  · intro w
    simp only [State.storesWf, Mems.wf, Bool.and_eq_true, and_assoc] at w ⊢
    exact ⟨c.2.1 ▸ w.1, c.2.2.2.2.2.2.2.2.2.2.2.2.2.2.2.2.2.2.2.2.2.2.2.2.2.2.2.2.2.2.2.2.2.2.2.2.2.2.2.2.2.2.2.2.2.2.2.2.1
        w.2.1, c.2.2.2.2.2.2.2.2.2.2.2.2.2.2.2.2.2.2.2.2.2.2.2.2.2.2.2.2.2.2.2.2.2.2.2.2.2.2.2.2.2.2.2.2.2.2.2.2.2.1
        w.2.2.1, c.2.2.2.2.2.2.2.2.2.2.2.2.2.2.2.2.2.2.2.2.2.2.2.2.2.2.2.2.2.2.2.2.2.2.2.2.2.2.2.2.2.2.2.2.2.2.2.2.2.2.1
        w.2.2.2.1, c.2.2.2.2.2.2.2.2.2.2.2.2.2.2.2.2.2.2.2.2.2.2.2.2.2.2.2.2.2.2.2.2.2.2.2.2.2.2.2.2.2.2.2.2.2.2.2.2.2.2.2.1
        w.2.2.2.2.1, c.2.2.2.2.2.2.2.2.2.2.2.2.2.2.2.2.2.2.2.2.2.2.2.2.2.2.2.2.2.2.2.2.2.2.2.2.2.2.2.2.2.2.2.2.2.2.2.2.2.2.2.2.1
        w.2.2.2.2.2.1, c.2.2.2.2.2.2.2.2.2.2.2.2.2.2.2.2.2.2.2.2.2.2.2.2.2.2.2.2.2.2.2.2.2.2.2.2.2.2.2.2.2.2.2.2.2.2.2.2.2.2.2.2.2.1
        w.2.2.2.2.2.2.1, c.2.2.2.2.2.2.2.2.2.2.2.2.2.2.2.2.2.2.2.2.2.2.2.2.2.2.2.2.2.2.2.2.2.2.2.2.2.2.2.2.2.2.2.2.2.2.2.2.2.2.2.2.2.2.1
        w.2.2.2.2.2.2.2.1, c.2.2.2.2.2.2.2.2.2.2.2.2.2.2.2.2.2.2.2.2.2.2.2.2.2.2.2.2.2.2.2.2.2.2.2.2.2.2.2.2.2.2.2.2.2.2.2.2.2.2.2.2.2.2.2.1
        w.2.2.2.2.2.2.2.2.1, c.2.2.2.2.2.2.2.2.2.2.2.2.2.2.2.2.2.2.2.2.2.2.2.2.2.2.2.2.2.2.2.2.2.2.2.2.2.2.2.2.2.2.2.2.2.2.2.2.2.2.2.2.2.2.2.2.1
        w.2.2.2.2.2.2.2.2.2.1, c.2.2.2.2.2.2.2.2.2.2.2.2.2.2.2.2.2.2.2.2.2.2.2.2.2.2.2.2.2.2.2.2.2.2.2.2.2.2.2.2.2.2.2.2.2.2.2.2.2.2.2.2.2.2.2.2.2.1
        w.2.2.2.2.2.2.2.2.2.2.1, c.2.2.2.2.2.2.2.2.2.2.2.2.2.2.2.2.2.2.2.2.2.2.2.2.2.2.2.2.2.2.2.2.2.2.2.2.2.2.2.2.2.2.2.2.2.2.2.2.2.2.2.2.2.2.2.2.2.2.1
        w.2.2.2.2.2.2.2.2.2.2.2.1, c.2.2.2.2.2.2.2.2.2.2.2.2.2.2.2.2.2.2.2.2.2.2.2.2.2.2.2.2.2.2.2.2.2.2.2.2.2.2.2.2.2.2.2.2.2.2.2.2.2.2.2.2.2.2.2.2.2.2.2.1
        w.2.2.2.2.2.2.2.2.2.2.2.2⟩

/-- A chain goes on by a change of registers of kinds that the mask names. -/
theorem Keeps.mkRegs {m : Nat} {s x : State} {regs : Tab Nat} (h : Keeps m s x) (hm : m.testBit 1 = true)
    (hw : tabRising 0 x.regs = true → tabRising 0 regs = true)
    (hk : ∀ k, m.testBit (64 + k % 32) = false → tabFind regs k = tabFind x.regs k) :
    Keeps m s { x with regs := regs } := by
  refine h.step (m := m) ⟨?_, Nat.le_refl _, ?_, id, hk⟩ (Nat.or_self m)
  · simp [State.veiled, veil, hm]
  · intro w
    simp only [State.storesWf, Bool.and_eq_true] at w ⊢
    exact ⟨⟨hw w.1.1, w.1.2⟩, w.2⟩

theorem Keeps.ite {m : Nat} {s a b : State} {c : Prop} [Decidable c] (ha : Keeps m s a) (hb : Keeps m s b) :
    Keeps m s (if c then a else b) := by
  split
  · exact ha
  · exact hb

theorem Keeps.foldl {α : Type} {m : Nat} {s x : State} (f : State → α → State) (l : List α) (hx : Keeps m s x)
    (hf : ∀ y a, Keeps m s y → Keeps m s (f y a)) : Keeps m s (l.foldl f x) := by
  induction l generalizing x with
  | nil => exact hx
  | cons a l ih => exact ih (hf x a hx)

/-- A result of another type: the state that it carries, if any, keeps what `Keeps` says. -/
def ResKeeps {β : Type} (tgt : β → Option State) (m : Nat) (s : State) (b : β) : Prop := ∀ t, tgt b = some t → Keeps m s t

/-- The state after a command that does not stop. -/
def tgtNext : Host.Outcome State Fault Refusal → Option State
  | .next t => some t
  | _ => none

/-- The state of a pair with a value before it. -/
def tgtSnd {α : Type} (x : α × State) : Option State := some x.2

/-- The state of a pair with a value after it. -/
def tgtFst {α : Type} (x : State × α) : Option State := some x.1

/-- The state of a triple. -/
def tgtThird {α β : Type} (x : α × β × State) : Option State := some x.2.2

/-- The state in an option. -/
def tgtOpt : Option State → Option State := id

/-- The state of a pair in an option. -/
def tgtOptSnd {α : Type} : Option (α × State) → Option State
  | some x => some x.2
  | none => none

/-- The state in a sum with a number. -/
def tgtSum : State ⊕ Nat → Option State
  | .inl t => some t
  | .inr _ => none

theorem ResKeeps.ite {β : Type} {tgt : β → Option State} {m : Nat} {s : State} {a b : β} {c : Prop} [Decidable c]
    (ha : ResKeeps tgt m s a) (hb : ResKeeps tgt m s b) : ResKeeps tgt m s (if c then a else b) := by
  split
  · exact ha
  · exact hb

theorem ResKeeps.some {β : Type} {tgt : β → Option State} {m : Nat} {s x : State} {b : β} (h : tgt b = some x)
    (k : Keeps m s x) : ResKeeps tgt m s b := fun t e => by
  rw [h] at e
  cases e
  exact k

theorem ResKeeps.none {β : Type} {tgt : β → Option State} {m : Nat} {s : State} {b : β} (h : tgt b = none) :
    ResKeeps tgt m s b := fun t e => by
  rw [h] at e
  cases e

theorem ResKeeps.step {β : Type} {tgt : β → Option State} {m n : Nat} {s x : State} {b : β} (h : Keeps n s x)
    (g : ResKeeps tgt m x b) (hm : m ||| n = n) : ResKeeps tgt n s b := fun t e => h.step (g t e) hm

/-- The state that a result carries. -/
theorem Keeps.ofRes {β : Type} {tgt : β → Option State} {n : Nat} {s t : State} {a b : β} (h : ResKeeps tgt n s a)
    (e : a = b) (hb : tgt b = Option.some t) : Keeps n s t := h t (e ▸ hb)

end Sys2Proof.Machine
end

