-- ==== Sys2Proof/Laws/Store.lean ====
section
/-! SUPPORT. What the operations on sparse tables and byte memories do: a key reads what was put there, every other key
reads as before, and the canonical form is kept. -/

namespace Sys2Proof.Machine

variable {α : Type}

/-! ### Reads after erasing and inserting -/

@[simp] theorem tabFind_tabErase_same (m : Tab α) (k : Nat) : tabFind (tabErase m k) k = none := by
  induction m with
  | nil => rfl
  | cons p t ih =>
    obtain ⟨a, v⟩ := p
    by_cases h : a = k
    · simp [tabErase, h, ih]
    · simp [tabErase, tabFind, h, ih]

theorem tabFind_tabErase_ne (m : Tab α) {k j : Nat} (h : j ≠ k) : tabFind (tabErase m k) j = tabFind m j := by
  induction m with
  | nil => rfl
  | cons p t ih =>
    obtain ⟨a, v⟩ := p
    by_cases ha : a = k
    · subst ha
      simp [tabErase, tabFind, ih, Ne.symm h]
    · simp [tabErase, tabFind, ha, ih]

@[simp] theorem tabFind_tabInsert_same (m : Tab α) (k : Nat) (v : α) : tabFind (tabInsert m k v) k = some v := by
  induction m with
  | nil => simp [tabInsert, tabFind]
  | cons p t ih =>
    obtain ⟨a, w⟩ := p
    unfold tabInsert
    split
    · simp [tabFind]
    · split
      · simp [tabFind]
      · next h => simp [tabFind, Ne.symm h, ih]

theorem tabFind_tabInsert_ne (m : Tab α) {k j : Nat} (v : α) (h : j ≠ k) :
    tabFind (tabInsert m k v) j = tabFind m j := by
  induction m with
  | nil => simp [tabInsert, tabFind, Ne.symm h]
  | cons p t ih =>
    obtain ⟨a, w⟩ := p
    unfold tabInsert
    split
    · simp [tabFind, Ne.symm h]
    · split
      · next hk => subst hk; simp [tabFind, Ne.symm h]
      · simp [tabFind, ih]

/-! ### Reads after putting -/

@[simp] theorem tabGet_tabPut_same [DecidableEq α] (d : α) (m : Tab α) (k : Nat) (v : α) :
    tabGet d (tabPut d m k v) k = v := by
  unfold tabGet tabPut
  split <;> simp_all

theorem tabGet_tabPut_ne [DecidableEq α] (d e : α) (m : Tab α) {k j : Nat} (v : α) (h : j ≠ k) :
    tabGet e (tabPut d m k v) j = tabGet e m j := by
  unfold tabGet tabPut
  split
  · rw [tabFind_tabErase_ne m h]
  · rw [tabFind_tabInsert_ne m v h]

@[simp] theorem tabGet_tabMod_same [DecidableEq α] (d : α) (m : Tab α) (k : Nat) (f : α → α) :
    tabGet d (tabMod d m k f) k = f (tabGet d m k) := by simp [tabMod]

theorem tabGet_tabMod_ne [DecidableEq α] (d e : α) (m : Tab α) {k j : Nat} (f : α → α) (h : j ≠ k) :
    tabGet e (tabMod d m k f) j = tabGet e m j := tabGet_tabPut_ne d e m _ h

/-! ### The canonical form -/

theorem tabRising_mono {lo hi : Nat} (h : lo ≤ hi) {m : Tab α} (hm : tabRising hi m = true) : tabRising lo m = true := by
  cases m with
  | nil => rfl
  | cons p t =>
    obtain ⟨a, v⟩ := p
    simp only [tabRising, Bool.and_eq_true, decide_eq_true_eq] at hm ⊢
    exact ⟨by omega, hm.2⟩

theorem tabRising_tabErase (k : Nat) : ∀ (lo : Nat) (m : Tab α), tabRising lo m = true → tabRising lo (tabErase m k) = true
  | _, [], _ => rfl
  | lo, (a, v) :: t, h => by
    simp only [tabRising, Bool.and_eq_true, decide_eq_true_eq] at h
    unfold tabErase
    split
    · exact tabRising_tabErase k lo t (tabRising_mono (by omega) h.2)
    · simp [tabRising, h.1, tabRising_tabErase k (a + 1) t h.2]

theorem tabRising_tabInsert (k : Nat) (v : α) :
    ∀ (lo : Nat) (m : Tab α), lo ≤ k → tabRising lo m = true → tabRising lo (tabInsert m k v) = true
  | lo, [], hk, _ => by simp [tabInsert, tabRising, hk]
  | lo, (a, w) :: t, hk, h => by
    simp only [tabRising, Bool.and_eq_true, decide_eq_true_eq] at h
    unfold tabInsert
    split
    · simp [tabRising, hk, h.2]; omega
    · split
      · next hka => subst hka; simp [tabRising, hk, h.2]
      · simp [tabRising, h.1, tabRising_tabInsert k v (a + 1) t (by omega) h.2]

theorem tabErase_all (p : Nat × α → Bool) (k : Nat) : ∀ m : Tab α, m.all p = true → (tabErase m k).all p = true
  | [], _ => rfl
  | (a, v) :: t, h => by
    simp only [List.all_cons, Bool.and_eq_true] at h
    unfold tabErase
    split
    · exact tabErase_all p k t h.2
    · simp only [List.all_cons, Bool.and_eq_true]
      exact ⟨h.1, tabErase_all p k t h.2⟩

theorem tabInsert_all (p : Nat × α → Bool) (k : Nat) (v : α) (hv : p (k, v) = true) :
    ∀ m : Tab α, m.all p = true → (tabInsert m k v).all p = true
  | [], _ => by simp [tabInsert, hv]
  | (a, w) :: t, h => by
    have h' := h
    simp only [List.all_cons, Bool.and_eq_true] at h
    unfold tabInsert
    split
    · simp only [List.all_cons, Bool.and_eq_true]; exact ⟨hv, h.1, h.2⟩
    · split
      · simp only [List.all_cons, Bool.and_eq_true]; exact ⟨hv, h.2⟩
      · simp only [List.all_cons, Bool.and_eq_true]; exact ⟨h.1, tabInsert_all p k v hv t h.2⟩

/-- Putting a value keeps the canonical form. -/
theorem tabWf_tabPut [DecidableEq α] (d : α) (m : Tab α) (k : Nat) (v : α) (h : tabWf d m = true) :
    tabWf d (tabPut d m k v) = true := by
  simp only [tabWf, Bool.and_eq_true] at h ⊢
  unfold tabPut
  split
  · exact ⟨tabRising_tabErase k 0 m h.1, tabErase_all _ k m h.2⟩
  · next hv => exact ⟨tabRising_tabInsert k v 0 m (Nat.zero_le k) h.1, tabInsert_all _ k v (by simpa using hv) m h.2⟩

theorem tabWf_tabErase [DecidableEq α] (d : α) (m : Tab α) (k : Nat) (h : tabWf d m = true) :
    tabWf d (tabErase m k) = true := by
  simp only [tabWf, Bool.and_eq_true] at h ⊢
  exact ⟨tabRising_tabErase k 0 m h.1, tabErase_all _ k m h.2⟩

theorem tabWf_tabMod [DecidableEq α] (d : α) (m : Tab α) (k : Nat) (f : α → α) (h : tabWf d m = true) :
    tabWf d (tabMod d m k f) = true := tabWf_tabPut d m k _ h

theorem tabRising_tabPut [DecidableEq α] (d : α) (m : Tab α) (k : Nat) (v : α) (h : tabRising 0 m = true) :
    tabRising 0 (tabPut d m k v) = true := by
  unfold tabPut
  split
  · exact tabRising_tabErase k 0 m h
  · exact tabRising_tabInsert k v 0 m (Nat.zero_le k) h

/-- A table with some entries left out keeps its keys rising. -/
theorem tabFind_tabPut_ne [DecidableEq α] (d : α) (m : Tab α) {k j : Nat} (v : α) (h : j ≠ k) :
    tabFind (tabPut d m k v) j = tabFind m j := by
  unfold tabPut
  split
  · exact tabFind_tabErase_ne m h
  · exact tabFind_tabInsert_ne m v h

theorem tabFind_filter (q : Nat × α → Bool) (m : Tab α) (k : Nat) (h : ∀ v, q (k, v) = true) :
    tabFind (m.filter q) k = tabFind m k := by
  induction m with
  | nil => rfl
  | cons e t ih =>
    obtain ⟨a, v⟩ := e
    by_cases hk : a = k
    · subst hk
      simp [List.filter, h v, tabFind]
    · by_cases hq : q (a, v) = true
      · simp only [List.filter, hq]
        simp only [tabFind]
        split
        · rfl
        · exact ih
      · simp only [List.filter, hq]
        rw [ih]
        simp [tabFind, hk]

theorem tabRising_filter (p : Nat × α → Bool) : ∀ (lo : Nat) (m : Tab α), tabRising lo m = true →
    tabRising lo (m.filter p) = true
  | _, [], _ => rfl
  | lo, (a, v) :: t, h => by
    simp only [tabRising, Bool.and_eq_true, decide_eq_true_eq] at h
    simp only [List.filter]
    split
    · simp [tabRising, h.1, tabRising_filter p (a + 1) t h.2]
    · exact tabRising_filter p lo t (tabRising_mono (by omega) h.2)

theorem tabWf_filter [DecidableEq α] (d : α) (m : Tab α) (p : Nat × α → Bool) (h : tabWf d m = true) :
    tabWf d (m.filter p) = true := by
  simp only [tabWf, Bool.and_eq_true] at h ⊢
  refine ⟨tabRising_filter p 0 m h.1, ?_⟩
  rw [List.all_eq_true] at h ⊢
  exact fun x hx => h.2 x (List.mem_filter.mp hx).1

/-! ### Byte memories -/

@[simp] theorem memGet_memPut_same (m : Tab Byte) (a : Nat) (b : Byte) : memGet (memPut m a b) a = b := by
  simp [memGet, memPut]

theorem memGet_memPut_ne (m : Tab Byte) {a x : Nat} (b : Byte) (h : x ≠ a) : memGet (memPut m a b) x = memGet m x :=
  tabGet_tabPut_ne _ _ m b h

/-- Bytes outside the stored ones read as before. -/
theorem memGet_memPutBytes_out (x : Nat) : ∀ (bs : List Byte) (m : Tab Byte) (a : Nat), x < a ∨ a + bs.length ≤ x →
    memGet (memPutBytes m a bs) x = memGet m x
  | [], _, _, _ => rfl
  | b :: bs, m, a, h => by
    simp only [List.length_cons] at h
    rw [memPutBytes, memGet_memPutBytes_out x bs (memPut m a b) (a + 1) (by omega), memGet_memPut_ne m b (by omega)]

/-- A stored byte reads as stored. -/
theorem memGet_memPutBytes_in : ∀ (bs : List Byte) (m : Tab Byte) (a i : Nat) (h : i < bs.length),
    memGet (memPutBytes m a bs) (a + i) = bs[i]
  | b :: bs, m, a, 0, _ => by
    rw [memPutBytes, memGet_memPutBytes_out _ bs _ _ (by omega)]; simp
  | b :: bs, m, a, i + 1, h => by
    have := memGet_memPutBytes_in bs (memPut m a b) (a + 1) i (by simpa using h)
    rw [memPutBytes]
    simpa [Nat.add_assoc, Nat.add_comm 1 i] using this

theorem tabWf_memPutBytes : ∀ (bs : List Byte) (m : Tab Byte) (a : Nat), tabWf 0#8 m = true →
    tabWf 0#8 (memPutBytes m a bs) = true
  | [], _, _, h => h
  | b :: bs, m, a, h => tabWf_memPutBytes bs _ (a + 1) (tabWf_tabPut 0#8 m a b h)

theorem tabWf_memPut (m : Tab Byte) (a : Nat) (b : Byte) (h : tabWf 0#8 m = true) : tabWf 0#8 (memPut m a b) = true :=
  tabWf_tabPut 0#8 m a b h

theorem tabWf_memPutNat (m : Tab Byte) (a n v : Nat) (h : tabWf 0#8 m = true) : tabWf 0#8 (memPutNat m a n v) = true :=
  tabWf_memPutBytes _ m a h

theorem tabWf_foldl {α β : Type} [DecidableEq α] (d : α) (f : Tab α → β → Tab α) (l : List β) {m : Tab α}
    (hf : ∀ x a, tabWf d x = true → tabWf d (f x a) = true) (h : tabWf d m = true) : tabWf d (l.foldl f m) = true := by
  induction l generalizing m with
  | nil => exact h
  | cons a l ih => exact ih (hf m a h)

end Sys2Proof.Machine
end

