-- ==== Sys2Proof/Laws/FrameOps.lean ====
section
/-! SUPPORT. What each function of Machine/Ops.lean may change: one mask of `Keeps` for each. -/

namespace Sys2Proof.Machine

open Reg

/-- The state of an offer that is accepted or held. -/
def tgtOffer : Offer → Option State
  | .accepted t => some t
  | .held t => some t
  | .lost => none

theorem State.wr_keeps {s : State} {p : Page} {f : Field} {v i j : Nat} : Keeps (kindBit p ||| 2) s
    (State.wr s p f v i j) := by
  unfold State.wr
  refine Keeps.mkRegs (Keeps.refl _ _) (kb_tb _ rfl) (tabRising_tabPut _ _ _ _) fun k h => tabFind_tabPut_ne _ _ _ ?_
  rintro rfl
  rw [Nat.testBit_or, kindBit_testBit p _ (fieldKey_kind p f i j), Bool.true_or] at h
  cases h

theorem State.satAdd_keeps {s : Sys2Proof.Machine.State} {p : Sys2Proof.Page} {f : Sys2Proof.Machine.Field} {n :
    Nat} {i : Nat} {j : Nat} : Keeps (kindBit p ||| 2) s (State.satAdd s p f n i j) := by
  unfold State.satAdd
  refine Keeps.step ?_ State.wr_keeps (kb_self _ rfl)
  exact Keeps.refl _ _

theorem State.wrBit_keeps {s : Sys2Proof.Machine.State} {p : Sys2Proof.Page} {f : Sys2Proof.Machine.Field} {k :
    Nat} {b : Bool} {i : Nat} {j : Nat} : Keeps (kindBit p ||| 2) s (State.wrBit s p f k b i j) := by
  unfold State.wrBit
  refine Keeps.step ?_ State.wr_keeps (kb_self _ rfl)
  exact Keeps.refl _ _

theorem State.wr3_keeps {s : Sys2Proof.Machine.State} {p : Sys2Proof.Page} {f0 : Sys2Proof.Machine.Field} {f1 :
    Sys2Proof.Machine.Field} {f2 : Sys2Proof.Machine.Field} {v : Nat} {i : Nat} : Keeps (kindBit p ||| 2) s
    (State.wr3 s p f0 f1 f2 v i) := by
  unfold State.wr3
  refine Keeps.step ?_ State.wr_keeps (kb_self _ rfl)
  refine Keeps.step ?_ State.wr_keeps (kb_self _ rfl)
  refine Keeps.step ?_ State.wr_keeps (kb_self _ rfl)
  exact Keeps.refl _ _

theorem State.modCh_keeps {s : Sys2Proof.Machine.State} {c : Nat} {f : Sys2Proof.Machine.ChOp →
    Sys2Proof.Machine.ChOp} : Keeps 16 s (State.modCh s c f) := by
  unfold State.modCh
  refine Keeps.mkUpd ?_ ⟨Or.inr rfl, rfl, Or.inr rfl, Or.inr rfl, Or.inl rfl, Or.inr rfl, Or.inr rfl, Or.inr
      rfl, Or.inr rfl, Or.inr rfl, Or.inr rfl, Or.inr rfl, Or.inr rfl, Or.inr rfl, Or.inr rfl, Or.inr rfl, Or.inr
      rfl, Or.inr rfl, Or.inr rfl, Or.inr rfl, Or.inr rfl, Or.inr rfl, Or.inr rfl, Or.inr rfl, Or.inr rfl, Or.inr
      rfl, Or.inr rfl, Or.inr rfl, Or.inr rfl, Or.inr rfl, Or.inr rfl, Or.inr rfl, Or.inr rfl, Or.inr rfl, Or.inr
      rfl, Or.inr rfl, Or.inr rfl, Or.inr rfl, Or.inr rfl, Or.inr rfl, Or.inr rfl, Or.inr rfl, Or.inr rfl, Or.inr
      rfl, Or.inr rfl, Or.inr rfl, Nat.le_refl _, trivial, fun w => w, fun w => w, fun w => w, fun w => w, fun w =>
      w, fun w => w, fun w => w, fun w => w, fun w => w, fun w => w, fun w => w, fun w => w, fun w => w⟩
  exact Keeps.refl _ _

theorem State.modSq_keeps {s : Sys2Proof.Machine.State} {n : Nat} {f : Sys2Proof.Machine.SqOp →
    Sys2Proof.Machine.SqOp} : Keeps 256 s (State.modSq s n f) := by
  unfold State.modSq
  refine Keeps.mkUpd ?_ ⟨Or.inr rfl, rfl, Or.inr rfl, Or.inr rfl, Or.inr rfl, Or.inr rfl, Or.inr rfl, Or.inr
      rfl, Or.inl rfl, Or.inr rfl, Or.inr rfl, Or.inr rfl, Or.inr rfl, Or.inr rfl, Or.inr rfl, Or.inr rfl, Or.inr
      rfl, Or.inr rfl, Or.inr rfl, Or.inr rfl, Or.inr rfl, Or.inr rfl, Or.inr rfl, Or.inr rfl, Or.inr rfl, Or.inr
      rfl, Or.inr rfl, Or.inr rfl, Or.inr rfl, Or.inr rfl, Or.inr rfl, Or.inr rfl, Or.inr rfl, Or.inr rfl, Or.inr
      rfl, Or.inr rfl, Or.inr rfl, Or.inr rfl, Or.inr rfl, Or.inr rfl, Or.inr rfl, Or.inr rfl, Or.inr rfl, Or.inr
      rfl, Or.inr rfl, Or.inr rfl, Nat.le_refl _, trivial, fun w => w, fun w => w, fun w => w, fun w => w, fun w =>
      w, fun w => w, fun w => w, fun w => w, fun w => w, fun w => w, fun w => w, fun w => w, fun w => w⟩
  exact Keeps.refl _ _

theorem State.modHop_keeps {s : Sys2Proof.Machine.State} {n : Nat} {f : Sys2Proof.Machine.HopOp →
    Sys2Proof.Machine.HopOp} : Keeps 512 s (State.modHop s n f) := by
  unfold State.modHop
  refine Keeps.mkUpd ?_ ⟨Or.inr rfl, rfl, Or.inr rfl, Or.inr rfl, Or.inr rfl, Or.inr rfl, Or.inr rfl, Or.inr
      rfl, Or.inr rfl, Or.inl rfl, Or.inr rfl, Or.inr rfl, Or.inr rfl, Or.inr rfl, Or.inr rfl, Or.inr rfl, Or.inr
      rfl, Or.inr rfl, Or.inr rfl, Or.inr rfl, Or.inr rfl, Or.inr rfl, Or.inr rfl, Or.inr rfl, Or.inr rfl, Or.inr
      rfl, Or.inr rfl, Or.inr rfl, Or.inr rfl, Or.inr rfl, Or.inr rfl, Or.inr rfl, Or.inr rfl, Or.inr rfl, Or.inr
      rfl, Or.inr rfl, Or.inr rfl, Or.inr rfl, Or.inr rfl, Or.inr rfl, Or.inr rfl, Or.inr rfl, Or.inr rfl, Or.inr
      rfl, Or.inr rfl, Or.inr rfl, Nat.le_refl _, trivial, fun w => w, fun w => w, fun w => w, fun w => w, fun w =>
      w, fun w => w, fun w => w, fun w => w, fun w => w, fun w => w, fun w => w, fun w => w, fun w => w⟩
  exact Keeps.refl _ _

theorem State.modFlt_keeps {s : Sys2Proof.Machine.State} {n : Nat} {f : Sys2Proof.Machine.FltOp →
    Sys2Proof.Machine.FltOp} : Keeps 2147483648 s (State.modFlt s n f) := by
  unfold State.modFlt
  refine Keeps.mkUpd ?_ ⟨Or.inr rfl, rfl, Or.inr rfl, Or.inr rfl, Or.inr rfl, Or.inr rfl, Or.inr rfl, Or.inr
      rfl, Or.inr rfl, Or.inr rfl, Or.inr rfl, Or.inr rfl, Or.inr rfl, Or.inr rfl, Or.inr rfl, Or.inr rfl, Or.inr
      rfl, Or.inr rfl, Or.inr rfl, Or.inr rfl, Or.inr rfl, Or.inr rfl, Or.inr rfl, Or.inr rfl, Or.inr rfl, Or.inr
      rfl, Or.inr rfl, Or.inr rfl, Or.inr rfl, Or.inr rfl, Or.inr rfl, Or.inl rfl, Or.inr rfl, Or.inr rfl, Or.inr
      rfl, Or.inr rfl, Or.inr rfl, Or.inr rfl, Or.inr rfl, Or.inr rfl, Or.inr rfl, Or.inr rfl, Or.inr rfl, Or.inr
      rfl, Or.inr rfl, Or.inr rfl, Nat.le_refl _, trivial, fun w => w, fun w => w, fun w => w, fun w => w, fun w =>
      w, fun w => w, fun w => w, fun w => w, fun w => w, fun w => w, fun w => w, fun w => w, fun w => w⟩
  exact Keeps.refl _ _

theorem State.modPage_keeps {s : Sys2Proof.Machine.State} {p : Sys2Proof.Page} {f : Sys2Proof.Machine.PageOp →
    Sys2Proof.Machine.PageOp} : Keeps 8 s (State.modPage s p f) := by
  unfold State.modPage
  refine Keeps.mkUpd ?_ ⟨Or.inr rfl, rfl, Or.inr rfl, Or.inl rfl, Or.inr rfl, Or.inr rfl, Or.inr rfl, Or.inr
      rfl, Or.inr rfl, Or.inr rfl, Or.inr rfl, Or.inr rfl, Or.inr rfl, Or.inr rfl, Or.inr rfl, Or.inr rfl, Or.inr
      rfl, Or.inr rfl, Or.inr rfl, Or.inr rfl, Or.inr rfl, Or.inr rfl, Or.inr rfl, Or.inr rfl, Or.inr rfl, Or.inr
      rfl, Or.inr rfl, Or.inr rfl, Or.inr rfl, Or.inr rfl, Or.inr rfl, Or.inr rfl, Or.inr rfl, Or.inr rfl, Or.inr
      rfl, Or.inr rfl, Or.inr rfl, Or.inr rfl, Or.inr rfl, Or.inr rfl, Or.inr rfl, Or.inr rfl, Or.inr rfl, Or.inr
      rfl, Or.inr rfl, Or.inr rfl, Nat.le_refl _, trivial, fun w => w, fun w => w, fun w => w, fun w => w, fun w =>
      w, fun w => w, fun w => w, fun w => w, fun w => w, fun w => w, fun w => w, fun w => w, fun w => w⟩
  exact Keeps.refl _ _

theorem State.draw_keeps {s : Sys2Proof.Machine.State} : ResKeeps tgtSnd 8589934592 s (State.draw s) := by
  unfold State.draw
  refine ResKeeps.some rfl ?_
  refine Keeps.mkUpd ?_ ⟨Or.inr rfl, rfl, Or.inr rfl, Or.inr rfl, Or.inr rfl, Or.inr rfl, Or.inr rfl, Or.inr
      rfl, Or.inr rfl, Or.inr rfl, Or.inr rfl, Or.inr rfl, Or.inr rfl, Or.inr rfl, Or.inr rfl, Or.inr rfl, Or.inr
      rfl, Or.inr rfl, Or.inr rfl, Or.inr rfl, Or.inr rfl, Or.inr rfl, Or.inr rfl, Or.inr rfl, Or.inr rfl, Or.inr
      rfl, Or.inr rfl, Or.inr rfl, Or.inr rfl, Or.inr rfl, Or.inr rfl, Or.inr rfl, Or.inr rfl, Or.inl rfl, Or.inr
      rfl, Or.inr rfl, Or.inr rfl, Or.inr rfl, Or.inr rfl, Or.inr rfl, Or.inr rfl, Or.inr rfl, Or.inr rfl, Or.inr
      rfl, Or.inr rfl, Or.inr rfl, Nat.le_refl _, trivial, fun w => w, fun w => w, fun w => w, fun w => w, fun w =>
      w, fun w => w, fun w => w, fun w => w, fun w => w, fun w => w, fun w => w, fun w => w, fun w => w⟩
  exact Keeps.refl _ _

theorem State.advanceTo_keeps {s : State} {t : Nat} : Keeps 1 s (State.advanceTo s t) := by
  unfold State.advanceTo
  split
  · refine Keeps.mkUpd ?_ ⟨Or.inl rfl, rfl, Or.inr rfl, Or.inr rfl, Or.inr rfl, Or.inr rfl, Or.inr rfl, Or.inr
      rfl, Or.inr rfl, Or.inr rfl, Or.inr rfl, Or.inr rfl, Or.inr rfl, Or.inr rfl, Or.inr rfl, Or.inr rfl, Or.inr
      rfl, Or.inr rfl, Or.inr rfl, Or.inr rfl, Or.inr rfl, Or.inr rfl, Or.inr rfl, Or.inr rfl, Or.inr rfl, Or.inr
      rfl, Or.inr rfl, Or.inr rfl, Or.inr rfl, Or.inr rfl, Or.inr rfl, Or.inr rfl, Or.inr rfl, Or.inr rfl, Or.inr
      rfl, Or.inr rfl, Or.inr rfl, Or.inr rfl, Or.inr rfl, Or.inr rfl, Or.inr rfl, Or.inr rfl, Or.inr rfl, Or.inr
      rfl, Or.inr rfl, Or.inr rfl, (by omega), trivial, fun w => w, fun w => w, fun w => w, fun w => w, fun w => w,
      fun w => w, fun w => w, fun w => w, fun w => w, fun w => w, fun w => w, fun w => w, fun w => w⟩
    exact Keeps.refl _ _
  · exact Keeps.refl _ _

theorem State.modRing_keeps {s : Sys2Proof.Machine.State} {n : Nat} {f : Sys2Proof.Machine.RingOp →
    Sys2Proof.Machine.RingOp} : Keeps 268435456 s (State.modRing s n f) := by
  unfold State.modRing
  refine Keeps.mkUpd ?_ ⟨Or.inr rfl, rfl, Or.inr rfl, Or.inr rfl, Or.inr rfl, Or.inr rfl, Or.inr rfl, Or.inr
      rfl, Or.inr rfl, Or.inr rfl, Or.inr rfl, Or.inr rfl, Or.inr rfl, Or.inr rfl, Or.inr rfl, Or.inr rfl, Or.inr
      rfl, Or.inr rfl, Or.inr rfl, Or.inr rfl, Or.inr rfl, Or.inr rfl, Or.inr rfl, Or.inr rfl, Or.inr rfl, Or.inr
      rfl, Or.inr rfl, Or.inr rfl, Or.inl rfl, Or.inr rfl, Or.inr rfl, Or.inr rfl, Or.inr rfl, Or.inr rfl, Or.inr
      rfl, Or.inr rfl, Or.inr rfl, Or.inr rfl, Or.inr rfl, Or.inr rfl, Or.inr rfl, Or.inr rfl, Or.inr rfl, Or.inr
      rfl, Or.inr rfl, Or.inr rfl, Nat.le_refl _, trivial, fun w => w, fun w => w, fun w => w, fun w => w, fun w =>
      w, fun w => w, fun w => w, fun w => w, fun w => w, fun w => w, fun w => w, fun w => w, fun w => w⟩
  exact Keeps.refl _ _

theorem State.werr_keeps {s : Sys2Proof.Machine.State} {p : Sys2Proof.Page} : Keeps (kindBit p ||| 2) s
    (State.werr s p) := by
  unfold State.werr
  refine Keeps.step ?_ State.wr_keeps (kb_self _ rfl)
  exact Keeps.refl _ _

theorem State.count_keeps {s : Sys2Proof.Machine.State} {id : Nat} {n : Nat} : Keeps 37778931862957161775106 s
    (State.count s id n) := by
  unfold State.count
  refine Keeps.ite ?_ ?_
  · refine Keeps.step ?_ State.wrBit_keeps (kb_k 37778931862957161709568 rfl rfl)
    refine Keeps.mkUpd ?_ ⟨Or.inr rfl, rfl, Or.inr rfl, Or.inr rfl, Or.inr rfl, Or.inr rfl, Or.inr rfl, Or.inr
        rfl, Or.inr rfl, Or.inr rfl, Or.inr rfl, Or.inr rfl, Or.inr rfl, Or.inr rfl, Or.inr rfl, Or.inr rfl, Or.inl
        rfl, Or.inr rfl, Or.inr rfl, Or.inr rfl, Or.inr rfl, Or.inr rfl, Or.inr rfl, Or.inr rfl, Or.inr rfl, Or.inr
        rfl, Or.inr rfl, Or.inr rfl, Or.inr rfl, Or.inr rfl, Or.inr rfl, Or.inr rfl, Or.inr rfl, Or.inr rfl, Or.inr
        rfl, Or.inr rfl, Or.inr rfl, Or.inr rfl, Or.inr rfl, Or.inr rfl, Or.inr rfl, Or.inr rfl, Or.inr rfl, Or.inr
        rfl, Or.inr rfl, Or.inr rfl, Nat.le_refl _, trivial, fun w => w, fun w => w, fun w => w, fun w => w, fun w
        => w, fun w => w, fun w => w, fun w => w, fun w => w, fun w => w, fun w => w, fun w => w, fun w => w⟩
    exact Keeps.refl _ _
  · refine Keeps.mkUpd ?_ ⟨Or.inr rfl, rfl, Or.inr rfl, Or.inr rfl, Or.inr rfl, Or.inr rfl, Or.inr rfl, Or.inr
      rfl, Or.inr rfl, Or.inr rfl, Or.inr rfl, Or.inr rfl, Or.inr rfl, Or.inr rfl, Or.inr rfl, Or.inr rfl, Or.inl
      rfl, Or.inr rfl, Or.inr rfl, Or.inr rfl, Or.inr rfl, Or.inr rfl, Or.inr rfl, Or.inr rfl, Or.inr rfl, Or.inr
      rfl, Or.inr rfl, Or.inr rfl, Or.inr rfl, Or.inr rfl, Or.inr rfl, Or.inr rfl, Or.inr rfl, Or.inr rfl, Or.inr
      rfl, Or.inr rfl, Or.inr rfl, Or.inr rfl, Or.inr rfl, Or.inr rfl, Or.inr rfl, Or.inr rfl, Or.inr rfl, Or.inr
      rfl, Or.inr rfl, Or.inr rfl, Nat.le_refl _, trivial, fun w => w, fun w => w, fun w => w, fun w => w, fun w =>
      w, fun w => w, fun w => w, fun w => w, fun w => w, fun w => w, fun w => w, fun w => w, fun w => w⟩
    exact Keeps.refl _ _

theorem State.bwPut_keeps {s : Sys2Proof.Machine.State} {a : Nat} {bs : List Sys2Proof.Byte} : Keeps
    4398054899712 s (State.bwPut s a bs) := by
  unfold State.bwPut
  refine Keeps.foldl _ _ ?_ ?_
  · refine Keeps.mkUpd ?_ ⟨Or.inr rfl, rfl, Or.inr rfl, Or.inr rfl, Or.inr rfl, Or.inr rfl, Or.inr rfl, Or.inr
      rfl, Or.inr rfl, Or.inr rfl, Or.inr rfl, Or.inr rfl, Or.inr rfl, Or.inr rfl, Or.inr rfl, Or.inr rfl, Or.inr
      rfl, Or.inr rfl, Or.inr rfl, Or.inr rfl, Or.inr rfl, Or.inr rfl, Or.inr rfl, Or.inr rfl, Or.inr rfl, Or.inr
      rfl, Or.inr rfl, Or.inr rfl, Or.inr rfl, Or.inr rfl, Or.inr rfl, Or.inr rfl, Or.inr rfl, Or.inr rfl, Or.inr
      rfl, Or.inr rfl, Or.inr rfl, Or.inr rfl, Or.inr rfl, Or.inr rfl, Or.inr rfl, Or.inl rfl, Or.inr rfl, Or.inr
      rfl, Or.inr rfl, Or.inr rfl, Nat.le_refl _, trivial, fun w => w, fun w => w, fun w => w, fun w => w, fun w =>
      w, fun w => w, fun w => w,
      (by intro w_; repeat' first | with_reducible assumption | with_reducible refine tabWf_memPutBytes _ _ _ ?_ | with_reducible refine tabWf_memPutNat _ _ _ _ ?_ | with_reducible refine tabWf_memPut _ _ _ ?_ | with_reducible refine tabWf_tabPut _ _ _ _ ?_ | with_reducible refine tabWf_tabErase _ _ _ ?_ | with_reducible refine tabWf_filter _ _ _ ?_ | with_reducible refine tabWf_foldl _ _ _ ?_ ?_ | (intro m_ a_ h_) | exact rfl | split),
      fun w => w, fun w => w, fun w => w, fun w => w, fun w => w⟩
    exact Keeps.refl _ _
  · intro y_ a_ h_
    split
    · refine Keeps.ite ?_ ?_
      · refine Keeps.mkUpd ?_ ⟨Or.inr rfl, rfl, Or.inr rfl, Or.inr rfl, Or.inr rfl, Or.inr rfl, Or.inr rfl,
          Or.inr rfl, Or.inr rfl, Or.inr rfl, Or.inr rfl, Or.inr rfl, Or.inr rfl, Or.inr rfl, Or.inr rfl, Or.inr
          rfl, Or.inr rfl, Or.inr rfl, Or.inr rfl, Or.inr rfl, Or.inr rfl, Or.inr rfl, Or.inr rfl, Or.inl rfl,
          Or.inr rfl, Or.inr rfl, Or.inr rfl, Or.inr rfl, Or.inr rfl, Or.inr rfl, Or.inr rfl, Or.inr rfl, Or.inr
          rfl, Or.inr rfl, Or.inr rfl, Or.inr rfl, Or.inr rfl, Or.inr rfl, Or.inr rfl, Or.inr rfl, Or.inr rfl,
          Or.inr rfl, Or.inr rfl, Or.inr rfl, Or.inr rfl, Or.inr rfl, Nat.le_refl _, trivial, fun w => w, fun w =>
          w, fun w => w, fun w => w, fun w => w, fun w => w, fun w => w, fun w => w, fun w => w, fun w => w, fun w
          => w, fun w => w, fun w => w⟩
        with_reducible assumption
      · with_reducible assumption
    · with_reducible assumption

theorem State.hostWrite_keeps {s : Sys2Proof.Machine.State} {a : Nat} {bs : List Sys2Proof.Byte} : Keeps
    70368744177664 s (State.hostWrite s a bs) := by
  unfold State.hostWrite
  refine Keeps.mkUpd ?_ ⟨Or.inr rfl, rfl, Or.inr rfl, Or.inr rfl, Or.inr rfl, Or.inr rfl, Or.inr rfl, Or.inr
      rfl, Or.inr rfl, Or.inr rfl, Or.inr rfl, Or.inr rfl, Or.inr rfl, Or.inr rfl, Or.inr rfl, Or.inr rfl, Or.inr
      rfl, Or.inr rfl, Or.inr rfl, Or.inr rfl, Or.inr rfl, Or.inr rfl, Or.inr rfl, Or.inr rfl, Or.inr rfl, Or.inr
      rfl, Or.inr rfl, Or.inr rfl, Or.inr rfl, Or.inr rfl, Or.inr rfl, Or.inr rfl, Or.inr rfl, Or.inr rfl, Or.inr
      rfl, Or.inr rfl, Or.inr rfl, Or.inr rfl, Or.inr rfl, Or.inr rfl, Or.inr rfl, Or.inr rfl, Or.inr rfl, Or.inr
      rfl, Or.inr rfl, Or.inl rfl, Nat.le_refl _, trivial, fun w => w, fun w => w, fun w => w, fun w => w, fun w =>
      w, fun w => w, fun w => w, fun w => w, fun w => w, fun w => w, fun w => w,
      (by intro w_; repeat' first | with_reducible assumption | with_reducible refine tabWf_memPutBytes _ _ _ ?_ | with_reducible refine tabWf_memPutNat _ _ _ _ ?_ | with_reducible refine tabWf_memPut _ _ _ ?_ | with_reducible refine tabWf_tabPut _ _ _ _ ?_ | with_reducible refine tabWf_tabErase _ _ _ ?_ | with_reducible refine tabWf_filter _ _ _ ?_ | with_reducible refine tabWf_foldl _ _ _ ?_ ?_ | (intro m_ a_ h_) | exact rfl | split),
      fun w => w⟩
  exact Keeps.refl _ _

theorem State.dmaWrite_keeps {s : Sys2Proof.Machine.State} {a : Nat} {bs : List Sys2Proof.Byte} : Keeps
    37778931933325905952770 s (State.dmaWrite s a bs) := by
  unfold State.dmaWrite
  refine Keeps.step ?_ State.count_keeps rfl
  refine Keeps.step ?_ State.hostWrite_keeps rfl
  exact Keeps.refl _ _

theorem State.sendMsi_keeps {s : Sys2Proof.Machine.State} {v : Nat} : Keeps 268435456 s (State.sendMsi s v) := by
  unfold State.sendMsi
  refine Keeps.ite ?_ ?_
  · refine Keeps.mkUpd ?_ ⟨Or.inr rfl, rfl, Or.inr rfl, Or.inr rfl, Or.inr rfl, Or.inr rfl, Or.inr rfl, Or.inr
      rfl, Or.inr rfl, Or.inr rfl, Or.inr rfl, Or.inr rfl, Or.inr rfl, Or.inr rfl, Or.inr rfl, Or.inr rfl, Or.inr
      rfl, Or.inr rfl, Or.inr rfl, Or.inr rfl, Or.inr rfl, Or.inr rfl, Or.inr rfl, Or.inr rfl, Or.inr rfl, Or.inr
      rfl, Or.inr rfl, Or.inr rfl, Or.inl rfl, Or.inr rfl, Or.inr rfl, Or.inr rfl, Or.inr rfl, Or.inr rfl, Or.inr
      rfl, Or.inr rfl, Or.inr rfl, Or.inr rfl, Or.inr rfl, Or.inr rfl, Or.inr rfl, Or.inr rfl, Or.inr rfl, Or.inr
      rfl, Or.inr rfl, Or.inr rfl, Nat.le_refl _, trivial, fun w => w, fun w => w, fun w => w, fun w => w, fun w =>
      w, fun w => w, fun w => w, fun w => w, fun w => w, fun w => w, fun w => w, fun w => w, fun w => w⟩
    exact Keeps.refl _ _
  · refine Keeps.mkUpd ?_ ⟨Or.inr rfl, rfl, Or.inr rfl, Or.inr rfl, Or.inr rfl, Or.inr rfl, Or.inr rfl, Or.inr
      rfl, Or.inr rfl, Or.inr rfl, Or.inr rfl, Or.inr rfl, Or.inr rfl, Or.inr rfl, Or.inr rfl, Or.inr rfl, Or.inr
      rfl, Or.inr rfl, Or.inr rfl, Or.inr rfl, Or.inr rfl, Or.inr rfl, Or.inr rfl, Or.inr rfl, Or.inr rfl, Or.inr
      rfl, Or.inr rfl, Or.inr rfl, Or.inl rfl, Or.inr rfl, Or.inr rfl, Or.inr rfl, Or.inr rfl, Or.inr rfl, Or.inr
      rfl, Or.inr rfl, Or.inr rfl, Or.inr rfl, Or.inr rfl, Or.inr rfl, Or.inr rfl, Or.inr rfl, Or.inr rfl, Or.inr
      rfl, Or.inr rfl, Or.inr rfl, Nat.le_refl _, trivial, fun w => w, fun w => w, fun w => w, fun w => w, fun w =>
      w, fun w => w, fun w => w, fun w => w, fun w => w, fun w => w, fun w => w, fun w => w, fun w => w⟩
    exact Keeps.refl _ _

theorem State.raiseCause_keeps {s : Sys2Proof.Machine.State} {c : Nat} : Keeps 604462909807314855788546 s
    (State.raiseCause s c) := by
  unfold State.raiseCause
  refine Keeps.ite ?_ ?_
  · exact Keeps.refl _ _
  · refine Keeps.ite ?_ ?_
    · refine Keeps.step ?_ State.sendMsi_keeps rfl
      refine Keeps.step ?_ State.wrBit_keeps (kb_k 604462909807314587353088 rfl rfl)
      exact Keeps.refl _ _
    · refine Keeps.step ?_ State.wrBit_keeps (kb_k 604462909807314587353088 rfl rfl)
      exact Keeps.refl _ _

theorem State.drivePair_keeps {s : Sys2Proof.Machine.State} {slot : Nat} {b : Bool} : Keeps 2147483648 s
    (State.drivePair s slot b) := by
  unfold State.drivePair
  refine Keeps.step ?_ State.modFlt_keeps rfl
  exact Keeps.refl _ _

theorem State.pagePairs_keeps {s : Sys2Proof.Machine.State} {p : Sys2Proof.Page} : Keeps 2147483648 s
    (State.pagePairs s p) := by
  unfold State.pagePairs
  split
  · refine Keeps.step ?_ State.drivePair_keeps rfl
    exact Keeps.refl _ _
  · refine Keeps.step ?_ State.drivePair_keeps rfl
    exact Keeps.refl _ _
  · refine Keeps.step ?_ State.drivePair_keeps rfl
    exact Keeps.refl _ _
  · refine Keeps.step ?_ State.drivePair_keeps rfl
    exact Keeps.refl _ _
  · refine Keeps.step ?_ State.drivePair_keeps rfl
    refine Keeps.step ?_ State.drivePair_keeps rfl
    exact Keeps.refl _ _
  · refine Keeps.step ?_ State.drivePair_keeps rfl
    exact Keeps.refl _ _
  · refine Keeps.step ?_ State.drivePair_keeps rfl
    exact Keeps.refl _ _
  · refine Keeps.step ?_ State.drivePair_keeps rfl
    exact Keeps.refl _ _
  · refine Keeps.foldl _ _ ?_ ?_
    · exact Keeps.refl _ _
    · intro y_ a_ h_
      refine Keeps.step ?_ State.drivePair_keeps rfl
      with_reducible assumption
  · exact Keeps.refl _ _

theorem State.sheafPair_keeps {s : Sys2Proof.Machine.State} {k : Nat} : Keeps 2147483648 s (State.sheafPair s k) := by
  unfold State.sheafPair
  refine Keeps.step ?_ State.drivePair_keeps rfl
  exact Keeps.refl _ _

theorem State.amlPut_keeps {s : Sys2Proof.Machine.State} {p : Nat} {f : Sys2Proof.Flit} : Keeps
    37778931862957161777154 s (State.amlPut s p f) := by
  unfold State.amlPut
  refine Keeps.ite ?_ ?_
  · refine Keeps.step ?_ State.count_keeps rfl
    refine Keeps.mkUpd ?_ ⟨Or.inr rfl, rfl, Or.inr rfl, Or.inr rfl, Or.inr rfl, Or.inr rfl, Or.inr rfl, Or.inr
        rfl, Or.inr rfl, Or.inr rfl, Or.inr rfl, Or.inl rfl, Or.inr rfl, Or.inr rfl, Or.inr rfl, Or.inr rfl, Or.inr
        rfl, Or.inr rfl, Or.inr rfl, Or.inr rfl, Or.inr rfl, Or.inr rfl, Or.inr rfl, Or.inr rfl, Or.inr rfl, Or.inr
        rfl, Or.inr rfl, Or.inr rfl, Or.inr rfl, Or.inr rfl, Or.inr rfl, Or.inr rfl, Or.inr rfl, Or.inr rfl, Or.inr
        rfl, Or.inr rfl, Or.inr rfl, Or.inr rfl, Or.inr rfl, Or.inr rfl, Or.inr rfl, Or.inr rfl, Or.inr rfl, Or.inr
        rfl, Or.inr rfl, Or.inr rfl, Nat.le_refl _, trivial, fun w => w, fun w => w, fun w => w, fun w => w, fun w
        => w, fun w => w, fun w => w, fun w => w, fun w => w, fun w => w, fun w => w, fun w => w, fun w => w⟩
    exact Keeps.refl _ _
  · refine Keeps.mkUpd ?_ ⟨Or.inr rfl, rfl, Or.inr rfl, Or.inr rfl, Or.inr rfl, Or.inr rfl, Or.inr rfl, Or.inr
      rfl, Or.inr rfl, Or.inr rfl, Or.inr rfl, Or.inl rfl, Or.inr rfl, Or.inr rfl, Or.inr rfl, Or.inr rfl, Or.inr
      rfl, Or.inr rfl, Or.inr rfl, Or.inr rfl, Or.inr rfl, Or.inr rfl, Or.inr rfl, Or.inr rfl, Or.inr rfl, Or.inr
      rfl, Or.inr rfl, Or.inr rfl, Or.inr rfl, Or.inr rfl, Or.inr rfl, Or.inr rfl, Or.inr rfl, Or.inr rfl, Or.inr
      rfl, Or.inr rfl, Or.inr rfl, Or.inr rfl, Or.inr rfl, Or.inr rfl, Or.inr rfl, Or.inr rfl, Or.inr rfl, Or.inr
      rfl, Or.inr rfl, Or.inr rfl, Nat.le_refl _, trivial, fun w => w, fun w => w, fun w => w, fun w => w, fun w =>
      w, fun w => w, fun w => w, fun w => w, fun w => w, fun w => w, fun w => w, fun w => w, fun w => w⟩
    exact Keeps.refl _ _

theorem State.amlSend_keeps {s : Sys2Proof.Machine.State} {m : Sys2Proof.AmlMsg} : Keeps 37778931862957161781250
    s (State.amlSend s m) := by
  unfold State.amlSend
  refine Keeps.foldl _ _ ?_ ?_
  · refine Keeps.mkUpd ?_ ⟨Or.inr rfl, rfl, Or.inr rfl, Or.inr rfl, Or.inr rfl, Or.inr rfl, Or.inr rfl, Or.inr
      rfl, Or.inr rfl, Or.inr rfl, Or.inr rfl, Or.inr rfl, Or.inl rfl, Or.inr rfl, Or.inr rfl, Or.inr rfl, Or.inr
      rfl, Or.inr rfl, Or.inr rfl, Or.inr rfl, Or.inr rfl, Or.inr rfl, Or.inr rfl, Or.inr rfl, Or.inr rfl, Or.inr
      rfl, Or.inr rfl, Or.inr rfl, Or.inr rfl, Or.inr rfl, Or.inr rfl, Or.inr rfl, Or.inr rfl, Or.inr rfl, Or.inr
      rfl, Or.inr rfl, Or.inr rfl, Or.inr rfl, Or.inr rfl, Or.inr rfl, Or.inr rfl, Or.inr rfl, Or.inr rfl, Or.inr
      rfl, Or.inr rfl, Or.inr rfl, Nat.le_refl _, trivial, fun w => w, fun w => w, fun w => w, fun w => w, fun w =>
      w, fun w => w, fun w => w, fun w => w, fun w => w, fun w => w, fun w => w, fun w => w, fun w => w⟩
    exact Keeps.refl _ _
  · intro y_ a_ h_
    refine Keeps.ite ?_ ?_
    · refine Keeps.step ?_ State.amlPut_keeps rfl
      with_reducible assumption
    · with_reducible assumption

theorem State.exportPort_keeps {s : Sys2Proof.Machine.State} {n : Nat} {src : Nat} {e : List Sys2Proof.Byte} :
    Keeps 56668397794436279500802 s (State.exportPort s n src e) := by
  unfold State.exportPort
  refine Keeps.ite ?_ ?_
  · refine Keeps.ite ?_ ?_
    · refine Keeps.step ?_ State.count_keeps rfl
      refine Keeps.step ?_ State.satAdd_keeps (kb_k 18889465931478580854784 rfl rfl)
      refine Keeps.mkUpd ?_ ⟨Or.inr rfl, rfl, Or.inr rfl, Or.inr rfl, Or.inr rfl, Or.inr rfl, Or.inr rfl, Or.inr
          rfl, Or.inr rfl, Or.inr rfl, Or.inr rfl, Or.inr rfl, Or.inr rfl, Or.inr rfl, Or.inr rfl, Or.inr rfl,
          Or.inr rfl, Or.inr rfl, Or.inr rfl, Or.inr rfl, Or.inr rfl, Or.inr rfl, Or.inr rfl, Or.inr rfl, Or.inr
          rfl, Or.inr rfl, Or.inr rfl, Or.inr rfl, Or.inr rfl, Or.inl rfl, Or.inr rfl, Or.inr rfl, Or.inr rfl,
          Or.inr rfl, Or.inr rfl, Or.inr rfl, Or.inr rfl, Or.inr rfl, Or.inr rfl, Or.inr rfl, Or.inr rfl, Or.inr
          rfl, Or.inr rfl, Or.inr rfl, Or.inr rfl, Or.inr rfl, Nat.le_refl _, trivial, fun w => w, fun w => w, fun w
          => w, fun w => w, fun w => w, fun w => w, fun w => w, fun w => w, fun w => w, fun w => w, fun w => w, fun
          w => w, fun w => w⟩
      exact Keeps.refl _ _
    · refine Keeps.mkUpd ?_ ⟨Or.inr rfl, rfl, Or.inr rfl, Or.inr rfl, Or.inr rfl, Or.inr rfl, Or.inr rfl, Or.inr
        rfl, Or.inr rfl, Or.inr rfl, Or.inr rfl, Or.inr rfl, Or.inr rfl, Or.inr rfl, Or.inr rfl, Or.inr rfl, Or.inr
        rfl, Or.inr rfl, Or.inr rfl, Or.inr rfl, Or.inr rfl, Or.inr rfl, Or.inr rfl, Or.inr rfl, Or.inr rfl, Or.inr
        rfl, Or.inr rfl, Or.inr rfl, Or.inr rfl, Or.inl rfl, Or.inr rfl, Or.inr rfl, Or.inr rfl, Or.inr rfl, Or.inr
        rfl, Or.inr rfl, Or.inr rfl, Or.inr rfl, Or.inr rfl, Or.inr rfl, Or.inr rfl, Or.inr rfl, Or.inr rfl, Or.inr
        rfl, Or.inr rfl, Or.inr rfl, Nat.le_refl _, trivial, fun w => w, fun w => w, fun w => w, fun w => w, fun w
        => w, fun w => w, fun w => w, fun w => w, fun w => w, fun w => w, fun w => w, fun w => w, fun w => w⟩
      exact Keeps.refl _ _
  · exact Keeps.refl _ _

theorem State.exportEvent_keeps {s : Sys2Proof.Machine.State} {src : Nat} {e : List Sys2Proof.Byte} : Keeps
    56668397794436279500802 s (State.exportEvent s src e) := by
  unfold State.exportEvent
  refine Keeps.step ?_ State.exportPort_keeps rfl
  refine Keeps.step ?_ State.exportPort_keeps rfl
  exact Keeps.refl _ _

theorem State.brstAccept_keeps {s : Sys2Proof.Machine.State} {it : Sys2Proof.Machine.Item} : ResKeeps tgtOpt
    113336795588871485227010 s (State.brstAccept s it) := by
  unfold State.brstAccept
  split
  · exact ResKeeps.none rfl
  · refine ResKeeps.ite ?_ ?_
    · refine ResKeeps.some rfl ?_
      refine Keeps.step ?_ State.count_keeps rfl
      refine Keeps.step ?_ State.wr_keeps (kb_k 75557863725914323419136 rfl rfl)
      refine Keeps.mkUpd ?_ ⟨Or.inr rfl, rfl, Or.inr rfl, Or.inr rfl, Or.inr rfl, Or.inr rfl, Or.inr rfl, Or.inr
          rfl, Or.inr rfl, Or.inr rfl, Or.inr rfl, Or.inr rfl, Or.inr rfl, Or.inr rfl, Or.inr rfl, Or.inl rfl,
          Or.inr rfl, Or.inr rfl, Or.inr rfl, Or.inr rfl, Or.inr rfl, Or.inr rfl, Or.inr rfl, Or.inr rfl, Or.inr
          rfl, Or.inr rfl, Or.inr rfl, Or.inr rfl, Or.inr rfl, Or.inr rfl, Or.inr rfl, Or.inr rfl, Or.inr rfl,
          Or.inr rfl, Or.inr rfl, Or.inr rfl, Or.inr rfl, Or.inr rfl, Or.inr rfl, Or.inr rfl, Or.inr rfl, Or.inr
          rfl, Or.inr rfl, Or.inr rfl, Or.inr rfl, Or.inr rfl, Nat.le_refl _, trivial, fun w => w, fun w => w, fun w
          => w, fun w => w, fun w => w, fun w => w, fun w => w, fun w => w, fun w => w, fun w => w, fun w => w, fun
          w => w, fun w => w⟩
      exact Keeps.refl _ _
    · exact ResKeeps.none rfl

theorem State.offer_keeps {s : Sys2Proof.Machine.State} {it : Sys2Proof.Machine.Item} : ResKeeps tgtOffer
    113336795588871485227010 s (State.offer s it) := by
  unfold State.offer
  refine ResKeeps.ite ?_ ?_
  · split
    · rename_i h4_0
      refine ResKeeps.some rfl ?_
      refine Keeps.ofRes (tgt := tgtOpt) ?_ h4_0 rfl
      refine ResKeeps.ite (ResKeeps.none rfl) ?_
      refine ResKeeps.step ?_ State.brstAccept_keeps rfl
      exact Keeps.refl _ _
    · refine ResKeeps.some rfl ?_
      refine Keeps.step ?_ State.count_keeps rfl
      exact Keeps.refl _ _
  · exact ResKeeps.none rfl

end Sys2Proof.Machine
end

