-- ==== Sys2Proof/Laws/FrameCommit.lean ====
section
/-! SUPPORT. What each function of Machine/Commit.lean may change: one mask of `Keeps` for each. -/

namespace Sys2Proof.Machine

open Reg

theorem State.commitWhere_keeps {s : Sys2Proof.Machine.State} {p : Sys2Proof.Page} {sel :
    Sys2Proof.Machine.FieldAt → Bool} : Keeps (kindBit p ||| 6) s (State.commitWhere s p sel) := by
  unfold State.commitWhere
  refine Keeps.foldl _ _ ?_ ?_
  · refine Keeps.mkUpd ?_ ⟨Or.inr rfl, rfl, Or.inl (kb_tb _ rfl), Or.inr rfl, Or.inr rfl, Or.inr rfl, Or.inr
      rfl, Or.inr rfl, Or.inr rfl, Or.inr rfl, Or.inr rfl, Or.inr rfl, Or.inr rfl, Or.inr rfl, Or.inr rfl, Or.inr
      rfl, Or.inr rfl, Or.inr rfl, Or.inr rfl, Or.inr rfl, Or.inr rfl, Or.inr rfl, Or.inr rfl, Or.inr rfl, Or.inr
      rfl, Or.inr rfl, Or.inr rfl, Or.inr rfl, Or.inr rfl, Or.inr rfl, Or.inr rfl, Or.inr rfl, Or.inr rfl, Or.inr
      rfl, Or.inr rfl, Or.inr rfl, Or.inr rfl, Or.inr rfl, Or.inr rfl, Or.inr rfl, Or.inr rfl, Or.inr rfl, Or.inr
      rfl, Or.inr rfl, Or.inr rfl, Or.inr rfl, Nat.le_refl _, trivial,
      (by first | with_reducible exact tabRising_filter _ _ _ | with_reducible exact tabRising_tabInsert _ _ _ _ (Nat.zero_le _)),
      fun w => w, fun w => w, fun w => w, fun w => w, fun w => w, fun w => w, fun w => w, fun w => w, fun w => w,
      fun w => w, fun w => w, fun w => w⟩
    exact Keeps.refl _ _
  · intro y_ a_ h_
    split
    · refine Keeps.step ?_ State.wr_keeps (kb_self _ rfl)
      with_reducible assumption
    · with_reducible assumption

theorem State.commitAll_keeps {s : Sys2Proof.Machine.State} {p : Sys2Proof.Page} : Keeps (kindBit p ||| 6) s
    (State.commitAll s p) := by
  unfold State.commitAll
  refine Keeps.step ?_ State.wr_keeps (kb_self _ rfl)
  refine Keeps.step ?_ State.commitWhere_keeps (kb_self _ rfl)
  exact Keeps.refl _ _

theorem State.dropStaged_keeps {s : Sys2Proof.Machine.State} {p : Sys2Proof.Page} : Keeps (kindBit p ||| 6) s
    (State.dropStaged s p) := by
  unfold State.dropStaged
  refine Keeps.step ?_ State.wr_keeps (kb_self _ rfl)
  refine Keeps.mkUpd ?_ ⟨Or.inr rfl, rfl, Or.inl (kb_tb _ rfl), Or.inr rfl, Or.inr rfl, Or.inr rfl, Or.inr rfl,
      Or.inr rfl, Or.inr rfl, Or.inr rfl, Or.inr rfl, Or.inr rfl, Or.inr rfl, Or.inr rfl, Or.inr rfl, Or.inr rfl,
      Or.inr rfl, Or.inr rfl, Or.inr rfl, Or.inr rfl, Or.inr rfl, Or.inr rfl, Or.inr rfl, Or.inr rfl, Or.inr rfl,
      Or.inr rfl, Or.inr rfl, Or.inr rfl, Or.inr rfl, Or.inr rfl, Or.inr rfl, Or.inr rfl, Or.inr rfl, Or.inr rfl,
      Or.inr rfl, Or.inr rfl, Or.inr rfl, Or.inr rfl, Or.inr rfl, Or.inr rfl, Or.inr rfl, Or.inr rfl, Or.inr rfl,
      Or.inr rfl, Or.inr rfl, Or.inr rfl, Nat.le_refl _, trivial,
      (by first | with_reducible exact tabRising_filter _ _ _ | with_reducible exact tabRising_tabInsert _ _ _ _ (Nat.zero_le _)),
      fun w => w, fun w => w, fun w => w, fun w => w, fun w => w, fun w => w, fun w => w, fun w => w, fun w => w,
      fun w => w, fun w => w, fun w => w⟩
  exact Keeps.refl _ _

theorem State.scanCommit_keeps {s : Sys2Proof.Machine.State} : Keeps 77371252455336267181326342 s
    (State.scanCommit s) := by
  unfold State.scanCommit
  refine Keeps.ite ?_ ?_
  · refine Keeps.mkUpd ?_ ⟨Or.inr rfl, rfl, Or.inr rfl, Or.inr rfl, Or.inr rfl, Or.inr rfl, Or.inr rfl, Or.inr
      rfl, Or.inr rfl, Or.inr rfl, Or.inr rfl, Or.inr rfl, Or.inr rfl, Or.inr rfl, Or.inr rfl, Or.inr rfl, Or.inr
      rfl, Or.inl rfl, Or.inr rfl, Or.inr rfl, Or.inr rfl, Or.inr rfl, Or.inr rfl, Or.inr rfl, Or.inr rfl, Or.inr
      rfl, Or.inr rfl, Or.inr rfl, Or.inr rfl, Or.inr rfl, Or.inr rfl, Or.inr rfl, Or.inr rfl, Or.inr rfl, Or.inr
      rfl, Or.inr rfl, Or.inr rfl, Or.inr rfl, Or.inr rfl, Or.inr rfl, Or.inr rfl, Or.inr rfl, Or.inr rfl, Or.inr
      rfl, Or.inr rfl, Or.inr rfl, Nat.le_refl _, trivial, fun w => w, fun w => w, fun w => w, fun w => w, fun w =>
      w, fun w => w, fun w => w, fun w => w, fun w => w, fun w => w, fun w => w, fun w => w, fun w => w⟩
    refine Keeps.step ?_ State.commitAll_keeps (kb_k 77371252455336267181195264 rfl rfl)
    exact Keeps.refl _ _
  · refine Keeps.step ?_ State.commitAll_keeps (kb_k 77371252455336267181195264 rfl rfl)
    exact Keeps.refl _ _

theorem State.hopCommit_keeps {s : Sys2Proof.Machine.State} {sel : Nat → Bool} : Keeps
    1237940039285380274899124230 s (State.hopCommit s sel) := by
  unfold State.hopCommit
  refine Keeps.ite ?_ ?_
  · refine Keeps.step ?_ State.commitWhere_keeps (kb_k 1237940039285380274899124224 rfl rfl)
    exact Keeps.refl _ _
  · refine Keeps.step ?_ State.wr_keeps (kb_k 1237940039285380274899124224 rfl rfl)
    refine Keeps.step ?_ State.commitWhere_keeps (kb_k 1237940039285380274899124224 rfl rfl)
    exact Keeps.refl _ _

theorem State.applyCommit_keeps {s : Sys2Proof.Machine.State} {p : Sys2Proof.Page} : Keeps
    (kindBit p ||| 1315311291740716542080450566) s (State.applyCommit s p) := by
  unfold State.applyCommit
  refine Keeps.ite ?_ ?_
  · exact Keeps.refl _ _
  · split
    · refine Keeps.step ?_ State.hopCommit_keeps (kb_lit _ rfl)
      exact Keeps.refl _ _
    · refine Keeps.ite ?_ ?_
      · refine Keeps.step ?_ State.scanCommit_keeps (kb_lit _ rfl)
        exact Keeps.refl _ _
      · exact Keeps.refl _ _
    · exact Keeps.refl _ _
    · refine Keeps.ite ?_ ?_
      · refine Keeps.step ?_ State.commitAll_keeps (kb_self _ rfl)
        exact Keeps.refl _ _
      · exact Keeps.refl _ _

theorem State.idleCommits_keeps {s : Sys2Proof.Machine.State} {n : Nat} : Keeps 16480076772986624909594722310 s
    (State.idleCommits s n) := by
  unfold State.idleCommits
  refine Keeps.step ?_ State.applyCommit_keeps (kb_k 4951760157141521099596496896 rfl rfl)
  refine Keeps.step ?_ State.applyCommit_keeps (kb_k 1237940039285380274899124224 rfl rfl)
  refine Keeps.foldl _ _ ?_ ?_
  · refine Keeps.step ?_ State.applyCommit_keeps (kb_k 309485009821345068724781056 rfl rfl)
    exact Keeps.refl _ _
  · intro y_ a_ h_
    refine Keeps.step ?_ State.applyCommit_keeps (kb_k 9903520314283042199192993792 rfl rfl)
    with_reducible assumption

end Sys2Proof.Machine
end

