-- ==== Sys2Proof/Laws/FrameMicro.lean ====
section
/-! SUPPORT. What each function of Machine/Micro.lean may change: one mask of `Keeps` for each. -/

namespace Sys2Proof.Machine

open Reg

theorem State.modUctx_keeps {s : Sys2Proof.Machine.State} {u : Nat} {k : Nat} {f : Sys2Proof.Machine.MicroCtx →
    Sys2Proof.Machine.MicroCtx} : Keeps 4194304 s (State.modUctx s u k f) := by
  unfold State.modUctx
  refine Keeps.mkUpd ?_ ⟨Or.inr rfl, rfl, Or.inr rfl, Or.inr rfl, Or.inr rfl, Or.inr rfl, Or.inr rfl, Or.inr
      rfl, Or.inr rfl, Or.inr rfl, Or.inr rfl, Or.inr rfl, Or.inr rfl, Or.inr rfl, Or.inr rfl, Or.inr rfl, Or.inr
      rfl, Or.inr rfl, Or.inr rfl, Or.inr rfl, Or.inr rfl, Or.inr rfl, Or.inl rfl, Or.inr rfl, Or.inr rfl, Or.inr
      rfl, Or.inr rfl, Or.inr rfl, Or.inr rfl, Or.inr rfl, Or.inr rfl, Or.inr rfl, Or.inr rfl, Or.inr rfl, Or.inr
      rfl, Or.inr rfl, Or.inr rfl, Or.inr rfl, Or.inr rfl, Or.inr rfl, Or.inr rfl, Or.inr rfl, Or.inr rfl, Or.inr
      rfl, Or.inr rfl, Or.inr rfl, Nat.le_refl _, trivial, fun w => w, fun w => w, fun w => w, fun w => w, fun w =>
      w, fun w => w, fun w => w, fun w => w, fun w => w, fun w => w, fun w => w, fun w => w, fun w => w⟩
  exact Keeps.refl _ _

theorem State.ucLast_keeps {s : Sys2Proof.Machine.State} {u : Nat} {k : Nat} {upc : Nat} : Keeps
    151115727451828646838274 s (State.ucLast s u k upc) := by
  unfold State.ucLast
  refine Keeps.step ?_ State.wr_keeps (kb_k 151115727451828646838272 rfl rfl)
  refine Keeps.step ?_ State.wr_keeps (kb_k 151115727451828646838272 rfl rfl)
  refine Keeps.step ?_ State.wr_keeps (kb_k 151115727451828646838272 rfl rfl)
  exact Keeps.refl _ _

theorem State.ucError_keeps {s : Sys2Proof.Machine.State} {u : Nat} {k : Nat} {upc : Nat} {stack : Bool} : Keeps
    151115727451830798516226 s (State.ucError s u k upc stack) := by
  unfold State.ucError
  refine Keeps.step ?_ State.pagePairs_keeps rfl
  refine Keeps.step ?_ State.modUctx_keeps rfl
  refine Keeps.ite ?_ ?_
  · refine Keeps.step ?_ State.wr_keeps (kb_k 151115727451828646838272 rfl rfl)
    refine Keeps.step ?_ State.ucLast_keeps rfl
    exact Keeps.refl _ _
  · refine Keeps.step ?_ State.wr_keeps (kb_k 151115727451828646838272 rfl rfl)
    refine Keeps.step ?_ State.ucLast_keeps rfl
    exact Keeps.refl _ _

theorem State.ucAbandon_keeps {s : Sys2Proof.Machine.State} {u : Nat} {k : Nat} : Keeps 151115727451830798516226
    s (State.ucAbandon s u k) := by
  unfold State.ucAbandon
  refine Keeps.ite ?_ ?_
  · exact Keeps.refl _ _
  · refine Keeps.ite ?_ ?_
    · refine Keeps.step ?_ State.pagePairs_keeps rfl
      refine Keeps.step ?_ State.modUctx_keeps rfl
      refine Keeps.step ?_ State.wr_keeps (kb_k 151115727451828646838272 rfl rfl)
      refine Keeps.step ?_ State.ucLast_keeps rfl
      exact Keeps.refl _ _
    · refine Keeps.step ?_ State.modUctx_keeps rfl
      refine Keeps.step ?_ State.satAdd_keeps (kb_k 151115727451828646838272 rfl rfl)
      refine Keeps.step ?_ State.ucLast_keeps rfl
      exact Keeps.refl _ _

theorem State.ucDrop_keeps {s : Sys2Proof.Machine.State} {u : Nat} : Keeps 4194304 s (State.ucDrop s u) := by
  unfold State.ucDrop
  refine Keeps.foldl _ _ ?_ ?_
  · exact Keeps.refl _ _
  · intro y_ a_ h_
    refine Keeps.step ?_ State.modUctx_keeps rfl
    with_reducible assumption

theorem State.microComplete_keeps {s : Sys2Proof.Machine.State} {u : Nat} {k : Nat} {w : BitVec 128} {c : Bool}
    {disp : Nat} {load : Option (Fin 2)} : Keeps 151115727451830798516227 s
    (State.microComplete s u k w c disp load) := by
  unfold State.microComplete
  try extract_lets
  split
  · refine Keeps.step ?_ State.modUctx_keeps rfl
    refine Keeps.step ?_ State.advanceTo_keeps rfl
    exact Keeps.refl _ _
  · refine Keeps.step ?_ State.ucError_keeps rfl
    refine Keeps.step ?_ State.advanceTo_keeps rfl
    exact Keeps.refl _ _
  · refine Keeps.ite ?_ ?_
    · refine Keeps.step ?_ State.ucError_keeps rfl
      refine Keeps.step ?_ State.advanceTo_keeps rfl
      exact Keeps.refl _ _
    · refine Keeps.step ?_ State.modUctx_keeps rfl
      refine Keeps.step ?_ State.advanceTo_keeps rfl
      exact Keeps.refl _ _

theorem State.microWord_keeps {s : Sys2Proof.Machine.State} {seq : Nat} {u : Nat} {k : Nat} {at_ : Nat} {w :
    BitVec 128} {sig : Bool} {disp : Nat} {load : Option (Fin 2)} : Keeps 151115727451839388450819 s
    (State.microWord s seq u k at_ w sig disp load) := by
  unfold State.microWord
  refine Keeps.ite ?_ ?_
  · exact Keeps.refl _ _
  · refine Keeps.ite ?_ ?_
    · exact Keeps.refl _ _
    · refine Keeps.ite ?_ ?_
      · refine Keeps.step ?_ State.modUctx_keeps rfl
        refine Keeps.ite ?_ ?_
        · exact Keeps.refl _ _
        · refine Keeps.step ?_ State.modUctx_keeps rfl
          refine Keeps.ofRes (tgt := tgtSnd) ?_ rfl rfl
          refine ResKeeps.step ?_ State.draw_keeps rfl
          exact Keeps.refl _ _
      · refine Keeps.step ?_ State.microComplete_keeps rfl
        refine Keeps.ite ?_ ?_
        · exact Keeps.refl _ _
        · refine Keeps.step ?_ State.modUctx_keeps rfl
          refine Keeps.ofRes (tgt := tgtSnd) ?_ rfl rfl
          refine ResKeeps.step ?_ State.draw_keeps rfl
          exact Keeps.refl _ _

theorem execNextWord_keeps {u : Fin 10} {k : Fin 4} {at_ : BitVec 12} {w : BitVec 128} {sig : Bool} {load :
    Option (Fin 2)} {s : Sys2Proof.Machine.State} : ResKeeps tgtNext 151115727451839388450819 s
    (execNextWord u k at_ w sig load s) := by
  unfold execNextWord
  refine ResKeeps.some rfl ?_
  refine Keeps.step ?_ State.microWord_keeps rfl
  exact Keeps.refl _ _

theorem execBranchMicroword_keeps {u : Fin 10} {k : Fin 4} {at_ : BitVec 12} {w : BitVec 128} {sig : Bool} {load
    : Option (Fin 2)} {s : Sys2Proof.Machine.State} : ResKeeps tgtNext 151115727451839388450819 s
    (execBranchMicroword u k at_ w sig load s) := by
  unfold execBranchMicroword
  refine ResKeeps.some rfl ?_
  refine Keeps.step ?_ State.microWord_keeps rfl
  exact Keeps.refl _ _

theorem execCbranchMicroword_keeps {u : Fin 10} {k : Fin 4} {at_ : BitVec 12} {w : BitVec 128} {sig : Bool}
    {load : Option (Fin 2)} {s : Sys2Proof.Machine.State} : ResKeeps tgtNext 151115727451839388450819 s
    (execCbranchMicroword u k at_ w sig load s) := by
  unfold execCbranchMicroword
  refine ResKeeps.some rfl ?_
  refine Keeps.step ?_ State.microWord_keeps rfl
  exact Keeps.refl _ _

theorem execMicroCall_keeps {u : Fin 10} {k : Fin 4} {at_ : BitVec 12} {w : BitVec 128} {sig : Bool} {load :
    Option (Fin 2)} {s : Sys2Proof.Machine.State} : ResKeeps tgtNext 151115727451839388450819 s
    (execMicroCall u k at_ w sig load s) := by
  unfold execMicroCall
  refine ResKeeps.some rfl ?_
  refine Keeps.step ?_ State.microWord_keeps rfl
  exact Keeps.refl _ _

theorem execCcallMicroword_keeps {u : Fin 10} {k : Fin 4} {at_ : BitVec 12} {w : BitVec 128} {sig : Bool} {load
    : Option (Fin 2)} {s : Sys2Proof.Machine.State} : ResKeeps tgtNext 151115727451839388450819 s
    (execCcallMicroword u k at_ w sig load s) := by
  unfold execCcallMicroword
  refine ResKeeps.some rfl ?_
  refine Keeps.step ?_ State.microWord_keeps rfl
  exact Keeps.refl _ _

theorem execMicroRet_keeps {u : Fin 10} {k : Fin 4} {at_ : BitVec 12} {w : BitVec 128} {sig : Bool} {load :
    Option (Fin 2)} {s : Sys2Proof.Machine.State} : ResKeeps tgtNext 151115727451839388450819 s
    (execMicroRet u k at_ w sig load s) := by
  unfold execMicroRet
  refine ResKeeps.some rfl ?_
  refine Keeps.step ?_ State.microWord_keeps rfl
  exact Keeps.refl _ _

theorem execDispatchMicroword_keeps {u : Fin 10} {k : Fin 4} {at_ : BitVec 12} {w : BitVec 128} {sig : Bool}
    {disp : BitVec 4} {load : Option (Fin 2)} {s : Sys2Proof.Machine.State} : ResKeeps tgtNext
    151115727451839388450819 s (execDispatchMicroword u k at_ w sig disp load s) := by
  unfold execDispatchMicroword
  refine ResKeeps.some rfl ?_
  refine Keeps.step ?_ State.microWord_keeps rfl
  exact Keeps.refl _ _

theorem execMicroEnd_keeps {u : Fin 10} {k : Fin 4} {at_ : BitVec 12} {w : BitVec 128} {sig : Bool} {load :
    Option (Fin 2)} {s : Sys2Proof.Machine.State} : ResKeeps tgtNext 151115727451839388450819 s
    (execMicroEnd u k at_ w sig load s) := by
  unfold execMicroEnd
  refine ResKeeps.some rfl ?_
  refine Keeps.step ?_ State.microWord_keeps rfl
  exact Keeps.refl _ _

theorem execMicrowordWaitEnd_keeps {u : Fin 10} {k : Fin 4} {w : BitVec 128} {cycles : Nat} {sig : Bool} {disp :
    BitVec 4} {load : Option (Fin 2)} {s : Sys2Proof.Machine.State} : ResKeeps tgtNext 151115727451830798516227 s
    (execMicrowordWaitEnd u k w cycles sig disp load s) := by
  unfold execMicrowordWaitEnd
  refine ResKeeps.some rfl ?_
  refine Keeps.ite ?_ ?_
  · refine Keeps.step ?_ State.microComplete_keeps rfl
    refine Keeps.step ?_ State.modUctx_keeps rfl
    exact Keeps.refl _ _
  · exact Keeps.refl _ _

end Sys2Proof.Machine
end

