-- ==== Sys2Proof/Laws/FrameBurst.lean ====
section
/-! SUPPORT. What each function of Machine/Burst.lean may change: one mask of `Keeps` for each. -/

namespace Sys2Proof.Machine

open Reg

theorem State.setMode_keeps {s : Sys2Proof.Machine.State} {m : Nat} : Keeps 604536696783609693995010 s
    (State.setMode s m) := by
  unfold State.setMode
  refine Keeps.step ?_ State.raiseCause_keeps rfl
  refine Keeps.step ?_ State.wr3_keeps (kb_k 73786976294838206464 rfl rfl)
  refine Keeps.step ?_ State.wr_keeps (kb_k 73786976294838206464 rfl rfl)
  refine Keeps.step ?_ State.wr_keeps (kb_k 73786976294838206464 rfl rfl)
  exact Keeps.refl _ _

theorem State.followSites_keeps {s : Sys2Proof.Machine.State} : Keeps 604536696783609693995010 s
    (State.followSites s) := by
  unfold State.followSites
  refine Keeps.ite ?_ ?_
  · refine Keeps.step ?_ State.setMode_keeps rfl
    exact Keeps.refl _ _
  · refine Keeps.ite ?_ ?_
    · refine Keeps.step ?_ State.setMode_keeps rfl
      exact Keeps.refl _ _
    · exact Keeps.refl _ _

theorem State.hopDiscard_keeps {s : Sys2Proof.Machine.State} {n : Nat} : Keeps 1237977818217243232060899842 s
    (State.hopDiscard s n) := by
  unfold State.hopDiscard
  refine Keeps.ite ?_ ?_
  · refine Keeps.ite ?_ ?_
    · refine Keeps.step ?_ State.satAdd_keeps (kb_k 1237940039285380274899124224 rfl rfl)
      refine Keeps.step ?_ State.modHop_keeps rfl
      exact Keeps.refl _ _
    · refine Keeps.step ?_ State.modHop_keeps rfl
      exact Keeps.refl _ _
  · refine Keeps.step ?_ State.count_keeps rfl
    refine Keeps.ite ?_ ?_
    · refine Keeps.step ?_ State.satAdd_keeps (kb_k 1237940039285380274899124224 rfl rfl)
      refine Keeps.step ?_ State.modHop_keeps rfl
      exact Keeps.refl _ _
    · refine Keeps.step ?_ State.modHop_keeps rfl
      exact Keeps.refl _ _

theorem State.modGln_keeps {s : Sys2Proof.Machine.State} {n : Nat} {f : Sys2Proof.Machine.GlnSite →
    Sys2Proof.Machine.GlnSite} : Keeps 16384 s (State.modGln s n f) := by
  unfold State.modGln
  refine Keeps.mkUpd ?_ ⟨Or.inr rfl, rfl, Or.inr rfl, Or.inr rfl, Or.inr rfl, Or.inr rfl, Or.inr rfl, Or.inr
      rfl, Or.inr rfl, Or.inr rfl, Or.inr rfl, Or.inr rfl, Or.inr rfl, Or.inr rfl, Or.inl rfl, Or.inr rfl, Or.inr
      rfl, Or.inr rfl, Or.inr rfl, Or.inr rfl, Or.inr rfl, Or.inr rfl, Or.inr rfl, Or.inr rfl, Or.inr rfl, Or.inr
      rfl, Or.inr rfl, Or.inr rfl, Or.inr rfl, Or.inr rfl, Or.inr rfl, Or.inr rfl, Or.inr rfl, Or.inr rfl, Or.inr
      rfl, Or.inr rfl, Or.inr rfl, Or.inr rfl, Or.inr rfl, Or.inr rfl, Or.inr rfl, Or.inr rfl, Or.inr rfl, Or.inr
      rfl, Or.inr rfl, Or.inr rfl, Nat.le_refl _, trivial, fun w => w, fun w => w, fun w => w, fun w => w, fun w =>
      w, fun w => w, fun w => w, fun w => w, fun w => w, fun w => w, fun w => w, fun w => w, fun w => w⟩
  exact Keeps.refl _ _

theorem State.glnMark_keeps {s : Sys2Proof.Machine.State} {n : Nat} {typ : Nat} {tset : Nat} {vec : Nat} {data :
    Nat} {seg : Nat} {t : Nat} : Keeps 16384 s (State.glnMark s n typ tset vec data seg t) := by
  unfold State.glnMark
  refine Keeps.ite ?_ ?_
  · exact Keeps.refl _ _
  · refine Keeps.mkUpd ?_ ⟨Or.inr rfl, rfl, Or.inr rfl, Or.inr rfl, Or.inr rfl, Or.inr rfl, Or.inr rfl, Or.inr
      rfl, Or.inr rfl, Or.inr rfl, Or.inr rfl, Or.inr rfl, Or.inr rfl, Or.inr rfl, Or.inl rfl, Or.inr rfl, Or.inr
      rfl, Or.inr rfl, Or.inr rfl, Or.inr rfl, Or.inr rfl, Or.inr rfl, Or.inr rfl, Or.inr rfl, Or.inr rfl, Or.inr
      rfl, Or.inr rfl, Or.inr rfl, Or.inr rfl, Or.inr rfl, Or.inr rfl, Or.inr rfl, Or.inr rfl, Or.inr rfl, Or.inr
      rfl, Or.inr rfl, Or.inr rfl, Or.inr rfl, Or.inr rfl, Or.inr rfl, Or.inr rfl, Or.inr rfl, Or.inr rfl, Or.inr
      rfl, Or.inr rfl, Or.inr rfl, Nat.le_refl _, trivial, fun w => w, fun w => w, fun w => w, fun w => w, fun w =>
      w, fun w => w, fun w => w, fun w => w, fun w => w, fun w => w, fun w => w, fun w => w, fun w => w⟩
    refine Keeps.step ?_ State.modGln_keeps rfl
    exact Keeps.refl _ _

theorem State.putFlag_keeps {s : Sys2Proof.Machine.State} {f : Nat} {b : Bool} : Keeps 147573952589676412930 s
    (State.putFlag s f b) := by
  unfold State.putFlag
  refine Keeps.ite ?_ ?_
  · refine Keeps.step ?_ State.wrBit_keeps (kb_k 147573952589676412928 rfl rfl)
    exact Keeps.refl _ _
  · refine Keeps.step ?_ State.wrBit_keeps (kb_k 147573952589676412928 rfl rfl)
    exact Keeps.refl _ _

theorem State.logFlag_keeps {s : Sys2Proof.Machine.State} {c : Sys2Proof.Machine.FlagChange} : Keeps 128 s
    (State.logFlag s c) := by
  unfold State.logFlag
  refine Keeps.mkUpd ?_ ⟨Or.inr rfl, rfl, Or.inr rfl, Or.inr rfl, Or.inr rfl, Or.inr rfl, Or.inr rfl, Or.inl
      rfl, Or.inr rfl, Or.inr rfl, Or.inr rfl, Or.inr rfl, Or.inr rfl, Or.inr rfl, Or.inr rfl, Or.inr rfl, Or.inr
      rfl, Or.inr rfl, Or.inr rfl, Or.inr rfl, Or.inr rfl, Or.inr rfl, Or.inr rfl, Or.inr rfl, Or.inr rfl, Or.inr
      rfl, Or.inr rfl, Or.inr rfl, Or.inr rfl, Or.inr rfl, Or.inr rfl, Or.inr rfl, Or.inr rfl, Or.inr rfl, Or.inr
      rfl, Or.inr rfl, Or.inr rfl, Or.inr rfl, Or.inr rfl, Or.inr rfl, Or.inr rfl, Or.inr rfl, Or.inr rfl, Or.inr
      rfl, Or.inr rfl, Or.inr rfl, Nat.le_refl _, trivial, fun w => w, fun w => w, fun w => w, fun w => w, fun w =>
      w, fun w => w, fun w => w, fun w => w, fun w => w, fun w => w, fun w => w, fun w => w, fun w => w⟩
  exact Keeps.refl _ _

theorem State.changeFlag_keeps {s : Sys2Proof.Machine.State} {f : Nat} {op : Nat} {t : Nat} {site : Option Nat}
    {rank : Nat} : Keeps 37926505815546838194306 s (State.changeFlag s f op t site rank) := by
  unfold State.changeFlag
  refine Keeps.ite ?_ ?_
  · try extract_lets
    split
    · refine Keeps.step ?_ State.logFlag_keeps rfl
      refine Keeps.mkUpd ?_ ⟨Or.inr rfl, rfl, Or.inr rfl, Or.inr rfl, Or.inr rfl, Or.inr rfl, Or.inr rfl, Or.inl
          rfl, Or.inr rfl, Or.inr rfl, Or.inr rfl, Or.inr rfl, Or.inr rfl, Or.inr rfl, Or.inr rfl, Or.inr rfl,
          Or.inr rfl, Or.inr rfl, Or.inr rfl, Or.inr rfl, Or.inr rfl, Or.inr rfl, Or.inr rfl, Or.inr rfl, Or.inr
          rfl, Or.inr rfl, Or.inr rfl, Or.inr rfl, Or.inr rfl, Or.inr rfl, Or.inr rfl, Or.inr rfl, Or.inr rfl,
          Or.inr rfl, Or.inr rfl, Or.inr rfl, Or.inr rfl, Or.inr rfl, Or.inr rfl, Or.inr rfl, Or.inr rfl, Or.inr
          rfl, Or.inr rfl, Or.inr rfl, Or.inr rfl, Or.inr rfl, Nat.le_refl _, trivial, fun w => w, fun w => w, fun w
          => w, fun w => w, fun w => w, fun w => w, fun w => w, fun w => w, fun w => w, fun w => w, fun w => w, fun
          w => w, fun w => w⟩
      refine Keeps.step ?_ State.amlSend_keeps rfl
      exact Keeps.refl _ _
    · refine Keeps.mkUpd ?_ ⟨Or.inr rfl, rfl, Or.inr rfl, Or.inr rfl, Or.inr rfl, Or.inr rfl, Or.inr rfl, Or.inl
        rfl, Or.inr rfl, Or.inr rfl, Or.inr rfl, Or.inr rfl, Or.inr rfl, Or.inr rfl, Or.inr rfl, Or.inr rfl, Or.inr
        rfl, Or.inr rfl, Or.inr rfl, Or.inr rfl, Or.inr rfl, Or.inr rfl, Or.inr rfl, Or.inr rfl, Or.inr rfl, Or.inr
        rfl, Or.inr rfl, Or.inr rfl, Or.inr rfl, Or.inr rfl, Or.inr rfl, Or.inr rfl, Or.inr rfl, Or.inr rfl, Or.inr
        rfl, Or.inr rfl, Or.inr rfl, Or.inr rfl, Or.inr rfl, Or.inr rfl, Or.inr rfl, Or.inr rfl, Or.inr rfl, Or.inr
        rfl, Or.inr rfl, Or.inr rfl, Nat.le_refl _, trivial, fun w => w, fun w => w, fun w => w, fun w => w, fun w
        => w, fun w => w, fun w => w, fun w => w, fun w => w, fun w => w, fun w => w, fun w => w, fun w => w⟩
      refine Keeps.step ?_ State.amlSend_keeps rfl
      exact Keeps.refl _ _
  · refine Keeps.step ?_ State.logFlag_keeps rfl
    refine Keeps.step ?_ State.putFlag_keeps rfl
    exact Keeps.refl _ _

theorem State.raiseAt_keeps {s : Sys2Proof.Machine.State} {line : Nat} {t : Nat} : Keeps 37778931862957161781378
    s (State.raiseAt s line t) := by
  unfold State.raiseAt
  refine Keeps.mkUpd ?_ ⟨Or.inr rfl, rfl, Or.inr rfl, Or.inr rfl, Or.inr rfl, Or.inr rfl, Or.inr rfl, Or.inl
      rfl, Or.inr rfl, Or.inr rfl, Or.inr rfl, Or.inr rfl, Or.inr rfl, Or.inr rfl, Or.inr rfl, Or.inr rfl, Or.inr
      rfl, Or.inr rfl, Or.inr rfl, Or.inr rfl, Or.inr rfl, Or.inr rfl, Or.inr rfl, Or.inr rfl, Or.inr rfl, Or.inr
      rfl, Or.inr rfl, Or.inr rfl, Or.inr rfl, Or.inr rfl, Or.inr rfl, Or.inr rfl, Or.inr rfl, Or.inr rfl, Or.inr
      rfl, Or.inr rfl, Or.inr rfl, Or.inr rfl, Or.inr rfl, Or.inr rfl, Or.inr rfl, Or.inr rfl, Or.inr rfl, Or.inr
      rfl, Or.inr rfl, Or.inr rfl, Nat.le_refl _, trivial, fun w => w, fun w => w, fun w => w, fun w => w, fun w =>
      w, fun w => w, fun w => w, fun w => w, fun w => w, fun w => w, fun w => w, fun w => w, fun w => w⟩
  refine Keeps.step ?_ State.amlSend_keeps rfl
  exact Keeps.refl _ _

theorem State.raiseMapped_keeps {s : Sys2Proof.Machine.State} {src : Nat} {t : Nat} : Keeps
    37778931862957161781378 s (State.raiseMapped s src t) := by
  unfold State.raiseMapped
  refine Keeps.foldl _ _ ?_ ?_
  · exact Keeps.refl _ _
  · intro y_ a_ h_
    refine Keeps.step ?_ State.raiseAt_keeps rfl
    with_reducible assumption

theorem State.pulseTout_keeps {s : Sys2Proof.Machine.State} {k : Nat} {t : Nat} : Keeps 37778931862957161781378
    s (State.pulseTout s k t) := by
  unfold State.pulseTout
  refine Keeps.step ?_ State.raiseMapped_keeps rfl
  refine Keeps.mkUpd ?_ ⟨Or.inr rfl, rfl, Or.inr rfl, Or.inr rfl, Or.inr rfl, Or.inr rfl, Or.inr rfl, Or.inl
      rfl, Or.inr rfl, Or.inr rfl, Or.inr rfl, Or.inr rfl, Or.inr rfl, Or.inr rfl, Or.inr rfl, Or.inr rfl, Or.inr
      rfl, Or.inr rfl, Or.inr rfl, Or.inr rfl, Or.inr rfl, Or.inr rfl, Or.inr rfl, Or.inr rfl, Or.inr rfl, Or.inr
      rfl, Or.inr rfl, Or.inr rfl, Or.inr rfl, Or.inr rfl, Or.inr rfl, Or.inr rfl, Or.inr rfl, Or.inr rfl, Or.inr
      rfl, Or.inr rfl, Or.inr rfl, Or.inr rfl, Or.inr rfl, Or.inr rfl, Or.inr rfl, Or.inr rfl, Or.inr rfl, Or.inr
      rfl, Or.inr rfl, Or.inr rfl, Nat.le_refl _, trivial, fun w => w, fun w => w, fun w => w, fun w => w, fun w =>
      w, fun w => w, fun w => w, fun w => w, fun w => w, fun w => w, fun w => w, fun w => w, fun w => w⟩
  exact Keeps.refl _ _

theorem State.markSubmit_keeps {s : Sys2Proof.Machine.State} {n : Nat} {word : Nat} {vec : Nat} {tset : Nat}
    {seg : Nat} {t : Nat} : Keeps 309617236082865419327734018 s (State.markSubmit s n word vec tset seg t) := by
  unfold State.markSubmit
  refine Keeps.ite ?_ ?_
  · refine Keeps.step ?_ State.satAdd_keeps (kb_k 309485009821345068724781056 rfl rfl)
    refine Keeps.step ?_ State.exportEvent_keeps rfl
    exact Keeps.refl _ _
  · try extract_lets
    split
    · rename_i h4_0
      refine Keeps.ofRes (tgt := tgtOffer) ?_ h4_0 rfl
      refine ResKeeps.step ?_ State.offer_keeps rfl
      refine Keeps.step ?_ State.exportEvent_keeps rfl
      exact Keeps.refl _ _
    · rename_i h4_1
      refine Keeps.step ?_ State.modSq_keeps rfl
      refine Keeps.ofRes (tgt := tgtOffer) ?_ h4_1 rfl
      refine ResKeeps.step ?_ State.offer_keeps rfl
      refine Keeps.step ?_ State.exportEvent_keeps rfl
      exact Keeps.refl _ _
    · refine Keeps.step ?_ State.exportEvent_keeps rfl
      exact Keeps.refl _ _

theorem State.acqEvent_keeps {s : Sys2Proof.Machine.State} {src : Nat} {t : Nat} : Keeps 524288 s
    (State.acqEvent s src t) := by
  unfold State.acqEvent
  refine Keeps.ite ?_ ?_
  · refine Keeps.mkUpd ?_ ⟨Or.inr rfl, rfl, Or.inr rfl, Or.inr rfl, Or.inr rfl, Or.inr rfl, Or.inr rfl, Or.inr
      rfl, Or.inr rfl, Or.inr rfl, Or.inr rfl, Or.inr rfl, Or.inr rfl, Or.inr rfl, Or.inr rfl, Or.inr rfl, Or.inr
      rfl, Or.inr rfl, Or.inr rfl, Or.inl rfl, Or.inr rfl, Or.inr rfl, Or.inr rfl, Or.inr rfl, Or.inr rfl, Or.inr
      rfl, Or.inr rfl, Or.inr rfl, Or.inr rfl, Or.inr rfl, Or.inr rfl, Or.inr rfl, Or.inr rfl, Or.inr rfl, Or.inr
      rfl, Or.inr rfl, Or.inr rfl, Or.inr rfl, Or.inr rfl, Or.inr rfl, Or.inr rfl, Or.inr rfl, Or.inr rfl, Or.inr
      rfl, Or.inr rfl, Or.inr rfl, Nat.le_refl _, trivial, fun w => w, fun w => w, fun w => w, fun w => w, fun w =>
      w, fun w => w, fun w => w, fun w => w, fun w => w, fun w => w, fun w => w, fun w => w, fun w => w⟩
    exact Keeps.refl _ _
  · exact Keeps.refl _ _

theorem State.doMark_keeps {s : Sys2Proof.Machine.State} {n : Nat} {word : Nat} {vec : Nat} {tset : Nat} {seg :
    Nat} {t : Nat} : Keeps 309617236082865419328264578 s (State.doMark s n word vec tset seg t) := by
  unfold State.doMark
  refine Keeps.foldl _ _ ?_ ?_
  · refine Keeps.ite ?_ ?_
    · refine Keeps.step ?_ State.acqEvent_keeps rfl
      refine Keeps.ite ?_ ?_
      · refine Keeps.step ?_ State.markSubmit_keeps rfl
        refine Keeps.ite ?_ ?_
        · refine Keeps.step ?_ State.modSq_keeps rfl
          exact Keeps.refl _ _
        · exact Keeps.refl _ _
      · refine Keeps.ite ?_ ?_
        · refine Keeps.step ?_ State.modSq_keeps rfl
          exact Keeps.refl _ _
        · exact Keeps.refl _ _
    · refine Keeps.ite ?_ ?_
      · refine Keeps.step ?_ State.markSubmit_keeps rfl
        refine Keeps.ite ?_ ?_
        · refine Keeps.step ?_ State.modSq_keeps rfl
          exact Keeps.refl _ _
        · exact Keeps.refl _ _
      · refine Keeps.ite ?_ ?_
        · refine Keeps.step ?_ State.modSq_keeps rfl
          exact Keeps.refl _ _
        · exact Keeps.refl _ _
  · intro y_ a_ h_
    refine Keeps.step ?_ State.pulseTout_keeps rfl
    with_reducible assumption

theorem State.doTset_keeps {s : Sys2Proof.Machine.State} {n : Nat} {word : Nat} : Keeps 256 s
    (State.doTset s n word) := by
  unfold State.doTset
  refine Keeps.step ?_ State.modSq_keeps rfl
  exact Keeps.refl _ _

theorem State.doAct_keeps {s : Sys2Proof.Machine.State} {n : Nat} {word : Nat} {vec : Nat} {tset : Nat} {seg :
    Nat} {t : Nat} : Keeps 309617383656818009004677506 s (State.doAct s n word vec tset seg t) := by
  unfold State.doAct
  refine Keeps.ite ?_ ?_
  · refine Keeps.step ?_ State.doMark_keeps rfl
    exact Keeps.refl _ _
  · refine Keeps.ite ?_ ?_
    · refine Keeps.step ?_ State.changeFlag_keeps rfl
      exact Keeps.refl _ _
    · refine Keeps.step ?_ State.doTset_keeps rfl
      exact Keeps.refl _ _

theorem State.doActs_keeps {s : Sys2Proof.Machine.State} {n : Nat} {vec : Nat} {tset : Nat} {seg : Nat} {t :
    Nat} : Keeps 309617383656818009004677506 s (State.doActs s n vec tset seg t) := by
  unfold State.doActs
  refine Keeps.foldl _ _ ?_ ?_
  · refine Keeps.step ?_ State.modSq_keeps rfl
    exact Keeps.refl _ _
  · intro y_ a_ h_
    refine Keeps.step ?_ State.doAct_keeps rfl
    with_reducible assumption

theorem State.rdvTell_keeps {s : Sys2Proof.Machine.State} {n : Nat} {m : Sys2Proof.RdvMsg} {t : Nat} : Keeps
    37778931862957161781250 s (State.rdvTell s n m t) := by
  unfold State.rdvTell
  refine Keeps.foldl _ _ ?_ ?_
  · exact Keeps.refl _ _
  · intro y_ a_ h_
    refine Keeps.ite ?_ ?_
    · refine Keeps.step ?_ State.amlSend_keeps rfl
      with_reducible assumption
    · with_reducible assumption

theorem State.tellExcused_keeps {s : Sys2Proof.Machine.State} {n : Nat} {b : Bool} {t : Nat} : Keeps
    37778931862957161781250 s (State.tellExcused s n b t) := by
  unfold State.tellExcused
  refine Keeps.step ?_ State.rdvTell_keeps rfl
  exact Keeps.refl _ _

theorem State.spanTell_keeps {s : Sys2Proof.Machine.State} {n : Nat} {m : Sys2Proof.SpanMsg} {t : Nat} : Keeps
    37778931862957161781250 s (State.spanTell s n m t) := by
  unfold State.spanTell
  refine Keeps.ite ?_ ?_
  · refine Keeps.step ?_ State.amlSend_keeps rfl
    exact Keeps.refl _ _
  · exact Keeps.refl _ _

theorem State.withdraw_keeps {s : Sys2Proof.Machine.State} {n : Nat} : Keeps 37926505815546838194306 s
    (State.withdraw s n) := by
  unfold State.withdraw
  refine Keeps.mkUpd ?_ ⟨Or.inr rfl, rfl, Or.inr rfl, Or.inr rfl, Or.inr rfl, Or.inr rfl, Or.inr rfl, Or.inl
      rfl, Or.inr rfl, Or.inr rfl, Or.inr rfl, Or.inr rfl, Or.inr rfl, Or.inr rfl, Or.inr rfl, Or.inr rfl, Or.inr
      rfl, Or.inr rfl, Or.inr rfl, Or.inr rfl, Or.inr rfl, Or.inr rfl, Or.inr rfl, Or.inr rfl, Or.inr rfl, Or.inr
      rfl, Or.inr rfl, Or.inr rfl, Or.inr rfl, Or.inr rfl, Or.inr rfl, Or.inr rfl, Or.inr rfl, Or.inr rfl, Or.inr
      rfl, Or.inr rfl, Or.inr rfl, Or.inr rfl, Or.inr rfl, Or.inr rfl, Or.inr rfl, Or.inr rfl, Or.inr rfl, Or.inr
      rfl, Or.inr rfl, Or.inr rfl, Nat.le_refl _, trivial, fun w => w, fun w => w, fun w => w, fun w => w, fun w =>
      w, fun w => w, fun w => w, fun w => w, fun w => w, fun w => w, fun w => w, fun w => w, fun w => w⟩
  refine Keeps.foldl _ _ ?_ ?_
  · refine Keeps.ite ?_ ?_
    · refine Keeps.step ?_ State.rdvTell_keeps rfl
      exact Keeps.refl _ _
    · exact Keeps.refl _ _
  · intro y_ a_ h_
    refine Keeps.step ?_ State.wrBit_keeps (kb_k 147573952589676412928 rfl rfl)
    with_reducible assumption

theorem State.dropEdges_keeps {s : Sys2Proof.Machine.State} {n : Nat} : Keeps 16 s (State.dropEdges s n) := by
  unfold State.dropEdges
  refine Keeps.foldl _ _ ?_ ?_
  · exact Keeps.refl _ _
  · intro y_ a_ h_
    refine Keeps.step ?_ State.modCh_keeps rfl
    with_reducible assumption

theorem State.idleChannel_keeps {s : Sys2Proof.Machine.State} {c : Nat} : Keeps 16 s (State.idleChannel s c) := by
  unfold State.idleChannel
  refine Keeps.ite ?_ ?_
  · refine Keeps.step ?_ State.modCh_keeps rfl
    exact Keeps.refl _ _
  · exact Keeps.refl _ _

theorem State.endRegs_keeps {s : Sys2Proof.Machine.State} {n : Nat} {cause : Nat} {code : Nat} {t : Nat} {st :
    Nat} : Keeps 309485009821345068724781058 s (State.endRegs s n cause code t st) := by
  unfold State.endRegs
  refine Keeps.step ?_ State.wr_keeps (kb_k 309485009821345068724781056 rfl rfl)
  refine Keeps.step ?_ State.wr_keeps (kb_k 309485009821345068724781056 rfl rfl)
  refine Keeps.step ?_ State.wr3_keeps (kb_k 309485009821345068724781056 rfl rfl)
  refine Keeps.step ?_ State.wr_keeps (kb_k 309485009821345068724781056 rfl rfl)
  refine Keeps.step ?_ State.wr_keeps (kb_k 309485009821345068724781056 rfl rfl)
  refine Keeps.step ?_ State.wr_keeps (kb_k 309485009821345068724781056 rfl rfl)
  exact Keeps.refl _ _

theorem State.endBurst_keeps {s : Sys2Proof.Machine.State} {n : Nat} {cause : Nat} {code : Nat} {t : Nat} :
    Keeps 1547557422942198283903802258 s (State.endBurst s n cause code t) := by
  unfold State.endBurst
  refine Keeps.step ?_ State.tellExcused_keeps rfl
  refine Keeps.ite ?_ ?_
  · refine Keeps.step ?_ State.spanTell_keeps rfl
    refine Keeps.ite ?_ ?_
    · refine Keeps.step ?_ State.dropEdges_keeps rfl
      refine Keeps.step ?_ State.count_keeps rfl
      refine Keeps.step ?_ State.hopDiscard_keeps rfl
      refine Keeps.step ?_ State.withdraw_keeps rfl
      refine Keeps.step ?_ State.modSq_keeps rfl
      refine Keeps.step ?_ State.wr_keeps (kb_k 309485009821345068724781056 rfl rfl)
      refine Keeps.step ?_ State.endRegs_keeps rfl
      refine Keeps.ite ?_ ?_
      · exact Keeps.refl _ _
      · refine Keeps.step ?_ State.doActs_keeps rfl
        exact Keeps.refl _ _
    · refine Keeps.foldl _ _ ?_ ?_
      · refine Keeps.step ?_ State.count_keeps rfl
        refine Keeps.step ?_ State.hopDiscard_keeps rfl
        refine Keeps.step ?_ State.withdraw_keeps rfl
        refine Keeps.step ?_ State.modSq_keeps rfl
        refine Keeps.step ?_ State.wr_keeps (kb_k 309485009821345068724781056 rfl rfl)
        refine Keeps.step ?_ State.endRegs_keeps rfl
        refine Keeps.ite ?_ ?_
        · exact Keeps.refl _ _
        · refine Keeps.step ?_ State.doActs_keeps rfl
          exact Keeps.refl _ _
      · intro y_ a_ h_
        refine Keeps.step ?_ State.idleChannel_keeps rfl
        with_reducible assumption
  · refine Keeps.ite ?_ ?_
    · refine Keeps.step ?_ State.dropEdges_keeps rfl
      refine Keeps.step ?_ State.count_keeps rfl
      refine Keeps.step ?_ State.hopDiscard_keeps rfl
      refine Keeps.step ?_ State.withdraw_keeps rfl
      refine Keeps.step ?_ State.modSq_keeps rfl
      refine Keeps.step ?_ State.wr_keeps (kb_k 309485009821345068724781056 rfl rfl)
      refine Keeps.step ?_ State.endRegs_keeps rfl
      refine Keeps.ite ?_ ?_
      · exact Keeps.refl _ _
      · refine Keeps.step ?_ State.doActs_keeps rfl
        exact Keeps.refl _ _
    · refine Keeps.foldl _ _ ?_ ?_
      · refine Keeps.step ?_ State.count_keeps rfl
        refine Keeps.step ?_ State.hopDiscard_keeps rfl
        refine Keeps.step ?_ State.withdraw_keeps rfl
        refine Keeps.step ?_ State.modSq_keeps rfl
        refine Keeps.step ?_ State.wr_keeps (kb_k 309485009821345068724781056 rfl rfl)
        refine Keeps.step ?_ State.endRegs_keeps rfl
        refine Keeps.ite ?_ ?_
        · exact Keeps.refl _ _
        · refine Keeps.step ?_ State.doActs_keeps rfl
          exact Keeps.refl _ _
      · intro y_ a_ h_
        refine Keeps.step ?_ State.idleChannel_keeps rfl
        with_reducible assumption

theorem State.startsEnd_keeps {s : Sys2Proof.Machine.State} {n : Nat} : Keeps 268435456 s (State.startsEnd s n) := by
  unfold State.startsEnd
  refine Keeps.mkUpd ?_ ⟨Or.inr rfl, rfl, Or.inr rfl, Or.inr rfl, Or.inr rfl, Or.inr rfl, Or.inr rfl, Or.inr
      rfl, Or.inr rfl, Or.inr rfl, Or.inr rfl, Or.inr rfl, Or.inr rfl, Or.inr rfl, Or.inr rfl, Or.inr rfl, Or.inr
      rfl, Or.inr rfl, Or.inr rfl, Or.inr rfl, Or.inr rfl, Or.inr rfl, Or.inr rfl, Or.inr rfl, Or.inr rfl, Or.inr
      rfl, Or.inr rfl, Or.inr rfl, Or.inl rfl, Or.inr rfl, Or.inr rfl, Or.inr rfl, Or.inr rfl, Or.inr rfl, Or.inr
      rfl, Or.inr rfl, Or.inr rfl, Or.inr rfl, Or.inr rfl, Or.inr rfl, Or.inr rfl, Or.inr rfl, Or.inr rfl, Or.inr
      rfl, Or.inr rfl, Or.inr rfl, Nat.le_refl _, trivial, fun w => w, fun w => w, fun w => w, fun w => w, fun w =>
      w, fun w => w, fun w => w, fun w => w, fun w => w, fun w => w, fun w => w, fun w => w, fun w => w⟩
  exact Keeps.refl _ _

theorem State.burstDone_keeps {s : Sys2Proof.Machine.State} {n : Nat} : Keeps 16480681309683408519288717318 s
    (State.burstDone s n) := by
  unfold State.burstDone
  refine Keeps.step ?_ State.followSites_keeps rfl
  refine Keeps.ite ?_ ?_
  · refine Keeps.step ?_ State.raiseCause_keeps rfl
    refine Keeps.step ?_ State.idleCommits_keeps rfl
    refine Keeps.step ?_ State.startsEnd_keeps rfl
    exact Keeps.refl _ _
  · refine Keeps.step ?_ State.idleCommits_keeps rfl
    refine Keeps.step ?_ State.startsEnd_keeps rfl
    exact Keeps.refl _ _

theorem State.endArm_keeps {s : Sys2Proof.Machine.State} {n : Nat} {cause : Nat} {t : Nat} : Keeps
    16480737978081202955568241414 s (State.endArm s n cause t) := by
  unfold State.endArm
  refine Keeps.step ?_ State.burstDone_keeps rfl
  refine Keeps.ite ?_ ?_
  · refine Keeps.step ?_ State.spanTell_keeps rfl
    refine Keeps.step ?_ State.exportEvent_keeps rfl
    refine Keeps.step ?_ State.exportEvent_keeps rfl
    refine Keeps.step ?_ State.glnMark_keeps rfl
    refine Keeps.step ?_ State.glnMark_keeps rfl
    refine Keeps.step ?_ State.count_keeps rfl
    refine Keeps.step ?_ State.hopDiscard_keeps rfl
    refine Keeps.step ?_ State.modSq_keeps rfl
    refine Keeps.step ?_ State.wr_keeps (kb_k 309485009821345068724781056 rfl rfl)
    refine Keeps.step ?_ State.endRegs_keeps rfl
    exact Keeps.refl _ _
  · refine Keeps.step ?_ State.exportEvent_keeps rfl
    refine Keeps.step ?_ State.exportEvent_keeps rfl
    refine Keeps.step ?_ State.glnMark_keeps rfl
    refine Keeps.step ?_ State.glnMark_keeps rfl
    refine Keeps.step ?_ State.count_keeps rfl
    refine Keeps.step ?_ State.hopDiscard_keeps rfl
    refine Keeps.step ?_ State.modSq_keeps rfl
    refine Keeps.step ?_ State.wr_keeps (kb_k 309485009821345068724781056 rfl rfl)
    refine Keeps.step ?_ State.endRegs_keeps rfl
    exact Keeps.refl _ _

theorem State.siteEnd_keeps {s : Sys2Proof.Machine.State} {n : Nat} {cause : Nat} {code : Nat} {t : Nat} : Keeps
    16480964799246333290367146902 s (State.siteEnd s n cause code t) := by
  unfold State.siteEnd
  refine Keeps.ite ?_ ?_
  · refine Keeps.step ?_ State.endBurst_keeps rfl
    refine Keeps.ite ?_ ?_
    · refine Keeps.step ?_ State.ucAbandon_keeps rfl
      exact Keeps.refl _ _
    · exact Keeps.refl _ _
  · refine Keeps.ite ?_ ?_
    · refine Keeps.step ?_ State.endArm_keeps rfl
      refine Keeps.ite ?_ ?_
      · refine Keeps.step ?_ State.ucAbandon_keeps rfl
        exact Keeps.refl _ _
      · exact Keeps.refl _ _
    · refine Keeps.ite ?_ ?_
      · refine Keeps.ite ?_ ?_
        · refine Keeps.step ?_ State.dropEdges_keeps rfl
          refine Keeps.ite ?_ ?_
          · refine Keeps.step ?_ State.wr_keeps (kb_k 309485009821345068724781056 rfl rfl)
            refine Keeps.step ?_ State.wr_keeps (kb_k 309485009821345068724781056 rfl rfl)
            refine Keeps.step ?_ State.wr_keeps (kb_k 309485009821345068724781056 rfl rfl)
            refine Keeps.ite ?_ ?_
            · refine Keeps.step ?_ State.ucAbandon_keeps rfl
              exact Keeps.refl _ _
            · exact Keeps.refl _ _
          · refine Keeps.step ?_ State.wr_keeps (kb_k 309485009821345068724781056 rfl rfl)
            refine Keeps.ite ?_ ?_
            · refine Keeps.step ?_ State.ucAbandon_keeps rfl
              exact Keeps.refl _ _
            · exact Keeps.refl _ _
        · refine Keeps.ite ?_ ?_
          · refine Keeps.step ?_ State.wr_keeps (kb_k 309485009821345068724781056 rfl rfl)
            refine Keeps.step ?_ State.wr_keeps (kb_k 309485009821345068724781056 rfl rfl)
            refine Keeps.step ?_ State.wr_keeps (kb_k 309485009821345068724781056 rfl rfl)
            refine Keeps.ite ?_ ?_
            · refine Keeps.step ?_ State.ucAbandon_keeps rfl
              exact Keeps.refl _ _
            · exact Keeps.refl _ _
          · refine Keeps.step ?_ State.wr_keeps (kb_k 309485009821345068724781056 rfl rfl)
            refine Keeps.ite ?_ ?_
            · refine Keeps.step ?_ State.ucAbandon_keeps rfl
              exact Keeps.refl _ _
            · exact Keeps.refl _ _
      · refine Keeps.ite ?_ ?_
        · refine Keeps.step ?_ State.ucAbandon_keeps rfl
          exact Keeps.refl _ _
        · exact Keeps.refl _ _

theorem State.safeEnter_keeps {s : Sys2Proof.Machine.State} {n : Nat} {bit : Nat} {t : Nat} : Keeps
    16480965979837954007778450326 s (State.safeEnter s n bit t) := by
  unfold State.safeEnter
  refine Keeps.ite ?_ ?_
  · refine Keeps.step ?_ State.tellExcused_keeps rfl
    refine Keeps.step ?_ State.spanTell_keeps rfl
    refine Keeps.step ?_ State.siteEnd_keeps rfl
    refine Keeps.step ?_ State.count_keeps rfl
    refine Keeps.step ?_ State.wrBit_keeps (kb_k 1180591620717411303424 rfl rfl)
    refine Keeps.step ?_ State.wrBit_keeps (kb_k 1180591620717411303424 rfl rfl)
    exact Keeps.refl _ _
  · refine Keeps.step ?_ State.tellExcused_keeps rfl
    refine Keeps.step ?_ State.siteEnd_keeps rfl
    refine Keeps.step ?_ State.count_keeps rfl
    refine Keeps.step ?_ State.wrBit_keeps (kb_k 1180591620717411303424 rfl rfl)
    refine Keeps.step ?_ State.wrBit_keeps (kb_k 1180591620717411303424 rfl rfl)
    exact Keeps.refl _ _

theorem State.safeClear_keeps {s : Sys2Proof.Machine.State} {n : Nat} {bit : Nat} : Keeps
    38959523483674573084674 s (State.safeClear s n bit) := by
  unfold State.safeClear
  refine Keeps.ite ?_ ?_
  · exact Keeps.refl _ _
  · refine Keeps.ite ?_ ?_
    · refine Keeps.step ?_ State.tellExcused_keeps rfl
      refine Keeps.ite ?_ ?_
      · refine Keeps.step ?_ State.spanTell_keeps rfl
        refine Keeps.step ?_ State.wrBit_keeps (kb_k 1180591620717411303424 rfl rfl)
        refine Keeps.step ?_ State.wrBit_keeps (kb_k 1180591620717411303424 rfl rfl)
        exact Keeps.refl _ _
      · refine Keeps.step ?_ State.wrBit_keeps (kb_k 1180591620717411303424 rfl rfl)
        refine Keeps.step ?_ State.wrBit_keeps (kb_k 1180591620717411303424 rfl rfl)
        exact Keeps.refl _ _
    · refine Keeps.step ?_ State.wrBit_keeps (kb_k 1180591620717411303424 rfl rfl)
      exact Keeps.refl _ _

end Sys2Proof.Machine
end

