-- ==== Sys2Proof/Laws/FrameRegisters.lean ====
section
/-! SUPPORT. What each function of Machine/Registers.lean may change: one mask of `Keeps` for each. -/

namespace Sys2Proof.Machine

open Reg

theorem State.stage_keeps {s : Sys2Proof.Machine.State} {p : Sys2Proof.Page} {f : Sys2Proof.Machine.Field} {v :
    Nat} {i : Nat} {j : Nat} : Keeps 4 s (State.stage s p f v i j) := by
  unfold State.stage
  refine Keeps.mkUpd ?_ ⟨Or.inr rfl, rfl, Or.inl rfl, Or.inr rfl, Or.inr rfl, Or.inr rfl, Or.inr rfl, Or.inr
      rfl, Or.inr rfl, Or.inr rfl, Or.inr rfl, Or.inr rfl, Or.inr rfl, Or.inr rfl, Or.inr rfl, Or.inr rfl, Or.inr
      rfl, Or.inr rfl, Or.inr rfl, Or.inr rfl, Or.inr rfl, Or.inr rfl, Or.inr rfl, Or.inr rfl, Or.inr rfl, Or.inr
      rfl, Or.inr rfl, Or.inr rfl, Or.inr rfl, Or.inr rfl, Or.inr rfl, Or.inr rfl, Or.inr rfl, Or.inr rfl, Or.inr
      rfl, Or.inr rfl, Or.inr rfl, Or.inr rfl, Or.inr rfl, Or.inr rfl, Or.inr rfl, Or.inr rfl, Or.inr rfl, Or.inr
      rfl, Or.inr rfl, Or.inr rfl, Nat.le_refl _, trivial,
      (by first | with_reducible exact tabRising_filter _ _ _ | with_reducible exact tabRising_tabInsert _ _ _ _ (Nat.zero_le _)),
      fun w => w, fun w => w, fun w => w, fun w => w, fun w => w, fun w => w, fun w => w, fun w => w, fun w => w,
      fun w => w, fun w => w, fun w => w⟩
  exact Keeps.refl _ _

theorem State.writeField_keeps {s : Sys2Proof.Machine.State} {p : Sys2Proof.Page} {fa :
    Sys2Proof.Machine.FieldAt} {v : Nat} {mixed : Bool} {busy : Bool} : Keeps (kindBit p ||| 6) s
    (State.writeField s p fa v mixed busy) := by
  unfold State.writeField
  split
  · split
    · refine Keeps.step ?_ State.stage_keeps (kb_lit _ rfl)
      exact Keeps.refl _ _
    · refine Keeps.ite ?_ ?_
      · refine Keeps.ite ?_ ?_
        · exact Keeps.refl _ _
        · refine Keeps.step ?_ State.werr_keeps (kb_self _ rfl)
          exact Keeps.refl _ _
      · refine Keeps.step ?_ State.wr_keeps (kb_self _ rfl)
        exact Keeps.refl _ _
    · refine Keeps.step ?_ State.wr_keeps (kb_self _ rfl)
      exact Keeps.refl _ _
  · refine Keeps.step ?_ State.wr_keeps (kb_self _ rfl)
    exact Keeps.refl _ _
  · exact Keeps.refl _ _

theorem State.writeFields_keeps {s : Sys2Proof.Machine.State} {p : Sys2Proof.Page} {fs : List
    Sys2Proof.Machine.FieldAt} {word : Nat} : Keeps (kindBit p ||| 6) s (State.writeFields s p fs word) := by
  unfold State.writeFields
  refine Keeps.foldl _ _ ?_ ?_
  · exact Keeps.refl _ _
  · intro y_ a_ h_
    refine Keeps.step ?_ State.writeField_keeps (kb_self _ rfl)
    with_reducible assumption

theorem State.writePlain_keeps {s : Sys2Proof.Machine.State} {r : Sys2Proof.Requester} {p : Sys2Proof.Page} {off
    : Nat} {word : Nat} : Keeps (kindBit p ||| 2147483654) s (State.writePlain s r p off word) := by
  unfold State.writePlain
  refine Keeps.ite ?_ ?_
  · exact Keeps.refl _ _
  · refine Keeps.ite ?_ ?_
    · refine Keeps.step ?_ State.werr_keeps (kb_self _ rfl)
      exact Keeps.refl _ _
    · refine Keeps.ite ?_ ?_
      · refine Keeps.step ?_ State.werr_keeps (kb_self _ rfl)
        exact Keeps.refl _ _
      · refine Keeps.step ?_ State.pagePairs_keeps (kb_lit _ rfl)
        refine Keeps.step ?_ State.writeFields_keeps (kb_self _ rfl)
        exact Keeps.refl _ _

theorem State.writeWith_keeps {m : Nat} {s x : State} {r : Requester} {p : Page} {off word : Nat} {act : State → State}
    (h : Keeps m s x) (hm : (kindBit p ||| 2147483654) ||| m = m) (ha : ∀ y, Keeps m s y → Keeps m s (act y)) :
    Keeps m s (State.writeWith x r p off word act) := by
  unfold State.writeWith
  refine Keeps.ite (h.step State.werr_keeps (or_trans (kb_self _ rfl) hm)) ?_
  refine Keeps.ite (h.step State.werr_keeps (or_trans (kb_self _ rfl) hm)) ?_
  refine ha _ (Keeps.step ?_ State.pagePairs_keeps (or_trans (kb_lit _ rfl) hm))
  exact h.step State.writeFields_keeps (or_trans (kb_self _ rfl) hm)

theorem State.resetFields_keeps {s : State} {p : Page} {sel : FieldAt → Bool} : Keeps (kindBit p ||| 2) s
    (State.resetFields s p sel) := by
  unfold State.resetFields
  refine Keeps.mkRegs (Keeps.refl _ _) (kb_tb _ rfl) (tabRising_filter _ _ _) fun k h => tabFind_filter _ _ _
      fun v => ?_
  rw [keyInPage_ne p fun e => by rw [Nat.testBit_or, kindBit_testBit p k e, Bool.true_or] at h; cases h]
  rfl

end Sys2Proof.Machine
end

