-- ==== Sys2Proof/Laws/FrameConverters.lean ====
section
/-! SUPPORT. What each function of Machine/Converters.lean may change: one mask of `Keeps` for each. -/

namespace Sys2Proof.Machine

open Reg

theorem State.modAs_keeps {s : Sys2Proof.Machine.State} {n : Nat} {f : Sys2Proof.Machine.AsOp →
    Sys2Proof.Machine.AsOp} : Keeps 262144 s (State.modAs s n f) := by
  unfold State.modAs
  refine Keeps.mkUpd ?_ ⟨Or.inr rfl, rfl, Or.inr rfl, Or.inr rfl, Or.inr rfl, Or.inr rfl, Or.inr rfl, Or.inr
      rfl, Or.inr rfl, Or.inr rfl, Or.inr rfl, Or.inr rfl, Or.inr rfl, Or.inr rfl, Or.inr rfl, Or.inr rfl, Or.inr
      rfl, Or.inr rfl, Or.inl rfl, Or.inr rfl, Or.inr rfl, Or.inr rfl, Or.inr rfl, Or.inr rfl, Or.inr rfl, Or.inr
      rfl, Or.inr rfl, Or.inr rfl, Or.inr rfl, Or.inr rfl, Or.inr rfl, Or.inr rfl, Or.inr rfl, Or.inr rfl, Or.inr
      rfl, Or.inr rfl, Or.inr rfl, Or.inr rfl, Or.inr rfl, Or.inr rfl, Or.inr rfl, Or.inr rfl, Or.inr rfl, Or.inr
      rfl, Or.inr rfl, Or.inr rfl, Nat.le_refl _, trivial, fun w => w, fun w => w, fun w => w, fun w => w, fun w =>
      w, fun w => w, fun w => w, fun w => w, fun w => w, fun w => w, fun w => w, fun w => w, fun w => w⟩
  exact Keeps.refl _ _

theorem State.noteSamples_keeps {s : Sys2Proof.Machine.State} {n : Nat} {clk : Nat} {xs : List
    Sys2Proof.Machine.Sample} : Keeps 38723405159531090752634882 s (State.noteSamples s n clk xs) := by
  unfold State.noteSamples
  refine Keeps.step ?_ State.modAs_keeps rfl
  refine Keeps.ite ?_ ?_
  · refine Keeps.step ?_ State.count_keeps rfl
    refine Keeps.step ?_ State.count_keeps rfl
    exact Keeps.refl _ _
  · refine Keeps.step ?_ State.wr_keeps (kb_k 38685626227668133590597632 rfl rfl)
    refine Keeps.step ?_ State.count_keeps rfl
    refine Keeps.step ?_ State.count_keeps rfl
    exact Keeps.refl _ _

theorem State.setActive_keeps {s : Sys2Proof.Machine.State} {a : Nat} : Keeps 77371252455336267181326338 s
    (State.setActive s a) := by
  unfold State.setActive
  refine Keeps.ite ?_ ?_
  · exact Keeps.refl _ _
  · refine Keeps.mkUpd ?_ ⟨Or.inr rfl, rfl, Or.inr rfl, Or.inr rfl, Or.inr rfl, Or.inr rfl, Or.inr rfl, Or.inr
      rfl, Or.inr rfl, Or.inr rfl, Or.inr rfl, Or.inr rfl, Or.inr rfl, Or.inr rfl, Or.inr rfl, Or.inr rfl, Or.inr
      rfl, Or.inl rfl, Or.inr rfl, Or.inr rfl, Or.inr rfl, Or.inr rfl, Or.inr rfl, Or.inr rfl, Or.inr rfl, Or.inr
      rfl, Or.inr rfl, Or.inr rfl, Or.inr rfl, Or.inr rfl, Or.inr rfl, Or.inr rfl, Or.inr rfl, Or.inr rfl, Or.inr
      rfl, Or.inr rfl, Or.inr rfl, Or.inr rfl, Or.inr rfl, Or.inr rfl, Or.inr rfl, Or.inr rfl, Or.inr rfl, Or.inr
      rfl, Or.inr rfl, Or.inr rfl, Nat.le_refl _, trivial, fun w => w, fun w => w, fun w => w, fun w => w, fun w =>
      w, fun w => w, fun w => w, fun w => w, fun w => w, fun w => w, fun w => w, fun w => w, fun w => w⟩
    refine Keeps.step ?_ State.wr_keeps (kb_k 77371252455336267181195264 rfl rfl)
    refine Keeps.step ?_ State.wr_keeps (kb_k 77371252455336267181195264 rfl rfl)
    exact Keeps.refl _ _

theorem State.refWrite_keeps {s : Sys2Proof.Machine.State} {r : Sys2Proof.Requester} {word : Nat} {inWindow :
    Bool} : Keeps 77371252455336269328809990 s (State.refWrite s r word inWindow) := by
  unfold State.refWrite
  refine Keeps.ite ?_ ?_
  · refine Keeps.ite ?_ ?_
    · refine Keeps.step ?_ State.writePlain_keeps (kb_k 77371252455336267181195264 rfl rfl)
      refine Keeps.step ?_ State.wr_keeps (kb_k 77371252455336267181195264 rfl rfl)
      exact Keeps.refl _ _
    · refine Keeps.step ?_ State.wr_keeps (kb_k 77371252455336267181195264 rfl rfl)
      refine Keeps.step ?_ State.writePlain_keeps (kb_k 77371252455336267181195264 rfl rfl)
      refine Keeps.step ?_ State.wr_keeps (kb_k 77371252455336267181195264 rfl rfl)
      exact Keeps.refl _ _
  · refine Keeps.ite ?_ ?_
    · refine Keeps.step ?_ State.pagePairs_keeps rfl
      refine Keeps.step ?_ State.wr_keeps (kb_k 77371252455336267181195264 rfl rfl)
      refine Keeps.step ?_ State.setActive_keeps rfl
      refine Keeps.ite ?_ ?_
      · refine Keeps.step ?_ State.writePlain_keeps (kb_k 77371252455336267181195264 rfl rfl)
        refine Keeps.step ?_ State.wr_keeps (kb_k 77371252455336267181195264 rfl rfl)
        exact Keeps.refl _ _
      · refine Keeps.step ?_ State.wr_keeps (kb_k 77371252455336267181195264 rfl rfl)
        refine Keeps.step ?_ State.writePlain_keeps (kb_k 77371252455336267181195264 rfl rfl)
        refine Keeps.step ?_ State.wr_keeps (kb_k 77371252455336267181195264 rfl rfl)
        exact Keeps.refl _ _
    · refine Keeps.step ?_ State.setActive_keeps rfl
      refine Keeps.ite ?_ ?_
      · refine Keeps.step ?_ State.writePlain_keeps (kb_k 77371252455336267181195264 rfl rfl)
        refine Keeps.step ?_ State.wr_keeps (kb_k 77371252455336267181195264 rfl rfl)
        exact Keeps.refl _ _
      · refine Keeps.step ?_ State.wr_keeps (kb_k 77371252455336267181195264 rfl rfl)
        refine Keeps.step ?_ State.writePlain_keeps (kb_k 77371252455336267181195264 rfl rfl)
        refine Keeps.step ?_ State.wr_keeps (kb_k 77371252455336267181195264 rfl rfl)
        exact Keeps.refl _ _

theorem execReferenceSelect_keeps {r : Sys2Proof.Requester} {v : Sys2Proof.Word} {inWindow : Bool} {s :
    Sys2Proof.Machine.State} : ResKeeps tgtNext 77371252455336269328809990 s (execReferenceSelect r v inWindow s) :=
    by
  unfold execReferenceSelect
  refine ResKeeps.some rfl ?_
  refine Keeps.step ?_ State.refWrite_keeps rfl
  exact Keeps.refl _ _

theorem execReferenceSettled_keeps {s : Sys2Proof.Machine.State} : ResKeeps tgtNext 77371252455336267181195267 s
    (execReferenceSettled s) := by
  unfold execReferenceSettled
  refine ResKeeps.some rfl ?_
  refine Keeps.ite ?_ ?_
  · refine Keeps.step ?_ State.wr_keeps (kb_k 77371252455336267181195264 rfl rfl)
    refine Keeps.step ?_ State.advanceTo_keeps rfl
    exact Keeps.refl _ _
  · exact Keeps.refl _ _

theorem execExtReferenceFallback_keeps {s : Sys2Proof.Machine.State} : ResKeeps tgtNext
    77371252455336269328809986 s (execExtReferenceFallback s) := by
  unfold execExtReferenceFallback
  refine ResKeeps.some rfl ?_
  refine Keeps.ite ?_ ?_
  · refine Keeps.step ?_ State.pagePairs_keeps rfl
    refine Keeps.step ?_ State.wr_keeps (kb_k 77371252455336267181195264 rfl rfl)
    refine Keeps.step ?_ State.setActive_keeps rfl
    exact Keeps.refl _ _
  · exact Keeps.refl _ _

theorem State.scanStart_keeps {s : Sys2Proof.Machine.State} : Keeps 77409031387199224343101442 s
    (State.scanStart s) := by
  unfold State.scanStart
  refine Keeps.ite ?_ ?_
  · exact Keeps.refl _ _
  · refine Keeps.ite ?_ ?_
    · refine Keeps.step ?_ State.count_keeps rfl
      refine Keeps.step ?_ State.satAdd_keeps (kb_k 77371252455336267181195264 rfl rfl)
      exact Keeps.refl _ _
    · refine Keeps.ite ?_ ?_
      · refine Keeps.step ?_ State.wr_keeps (kb_k 77371252455336267181195264 rfl rfl)
        exact Keeps.refl _ _
      · refine Keeps.mkUpd ?_ ⟨Or.inr rfl, rfl, Or.inr rfl, Or.inr rfl, Or.inr rfl, Or.inr rfl, Or.inr rfl,
          Or.inr rfl, Or.inr rfl, Or.inr rfl, Or.inr rfl, Or.inr rfl, Or.inr rfl, Or.inr rfl, Or.inr rfl, Or.inr
          rfl, Or.inr rfl, Or.inl rfl, Or.inr rfl, Or.inr rfl, Or.inr rfl, Or.inr rfl, Or.inr rfl, Or.inr rfl,
          Or.inr rfl, Or.inr rfl, Or.inr rfl, Or.inr rfl, Or.inr rfl, Or.inr rfl, Or.inr rfl, Or.inr rfl, Or.inr
          rfl, Or.inr rfl, Or.inr rfl, Or.inr rfl, Or.inr rfl, Or.inr rfl, Or.inr rfl, Or.inr rfl, Or.inr rfl,
          Or.inr rfl, Or.inr rfl, Or.inr rfl, Or.inr rfl, Or.inr rfl, Nat.le_refl _, trivial, fun w => w, fun w =>
          w, fun w => w, fun w => w, fun w => w, fun w => w, fun w => w, fun w => w, fun w => w, fun w => w, fun w
          => w, fun w => w, fun w => w⟩
        refine Keeps.step ?_ State.wr_keeps (kb_k 77371252455336267181195264 rfl rfl)
        refine Keeps.step ?_ State.wr_keeps (kb_k 77371252455336267181195264 rfl rfl)
        exact Keeps.refl _ _

theorem State.scanFree_keeps {s : Sys2Proof.Machine.State} : Keeps 38685626227668133590597634 s (State.scanFree s) := by
  unfold State.scanFree
  refine Keeps.foldl _ _ ?_ ?_
  · exact Keeps.refl _ _
  · intro y_ a_ h_
    refine Keeps.ite ?_ ?_
    · refine Keeps.step ?_ State.wr_keeps (kb_k 38685626227668133590597632 rfl rfl)
      with_reducible assumption
    · with_reducible assumption

theorem State.scanOver_keeps {s : Sys2Proof.Machine.State} : Keeps 116056878683004400771923974 s
    (State.scanOver s) := by
  unfold State.scanOver
  refine Keeps.ite ?_ ?_
  · refine Keeps.step ?_ State.scanCommit_keeps rfl
    refine Keeps.mkUpd ?_ ⟨Or.inr rfl, rfl, Or.inr rfl, Or.inr rfl, Or.inr rfl, Or.inr rfl, Or.inr rfl, Or.inr
        rfl, Or.inr rfl, Or.inr rfl, Or.inr rfl, Or.inr rfl, Or.inr rfl, Or.inr rfl, Or.inr rfl, Or.inr rfl, Or.inr
        rfl, Or.inl rfl, Or.inr rfl, Or.inr rfl, Or.inr rfl, Or.inr rfl, Or.inr rfl, Or.inr rfl, Or.inr rfl, Or.inr
        rfl, Or.inr rfl, Or.inr rfl, Or.inr rfl, Or.inr rfl, Or.inr rfl, Or.inr rfl, Or.inr rfl, Or.inr rfl, Or.inr
        rfl, Or.inr rfl, Or.inr rfl, Or.inr rfl, Or.inr rfl, Or.inr rfl, Or.inr rfl, Or.inr rfl, Or.inr rfl, Or.inr
        rfl, Or.inr rfl, Or.inr rfl, Nat.le_refl _, trivial, fun w => w, fun w => w, fun w => w, fun w => w, fun w
        => w, fun w => w, fun w => w, fun w => w, fun w => w, fun w => w, fun w => w, fun w => w, fun w => w⟩
    refine Keeps.step ?_ State.scanFree_keeps rfl
    refine Keeps.step ?_ State.wr_keeps (kb_k 77371252455336267181195264 rfl rfl)
    exact Keeps.refl _ _
  · refine Keeps.mkUpd ?_ ⟨Or.inr rfl, rfl, Or.inr rfl, Or.inr rfl, Or.inr rfl, Or.inr rfl, Or.inr rfl, Or.inr
      rfl, Or.inr rfl, Or.inr rfl, Or.inr rfl, Or.inr rfl, Or.inr rfl, Or.inr rfl, Or.inr rfl, Or.inr rfl, Or.inr
      rfl, Or.inl rfl, Or.inr rfl, Or.inr rfl, Or.inr rfl, Or.inr rfl, Or.inr rfl, Or.inr rfl, Or.inr rfl, Or.inr
      rfl, Or.inr rfl, Or.inr rfl, Or.inr rfl, Or.inr rfl, Or.inr rfl, Or.inr rfl, Or.inr rfl, Or.inr rfl, Or.inr
      rfl, Or.inr rfl, Or.inr rfl, Or.inr rfl, Or.inr rfl, Or.inr rfl, Or.inr rfl, Or.inr rfl, Or.inr rfl, Or.inr
      rfl, Or.inr rfl, Or.inr rfl, Nat.le_refl _, trivial, fun w => w, fun w => w, fun w => w, fun w => w, fun w =>
      w, fun w => w, fun w => w, fun w => w, fun w => w, fun w => w, fun w => w, fun w => w, fun w => w⟩
    refine Keeps.step ?_ State.scanFree_keeps rfl
    refine Keeps.step ?_ State.wr_keeps (kb_k 77371252455336267181195264 rfl rfl)
    exact Keeps.refl _ _

theorem State.scanAbort_keeps {s : Sys2Proof.Machine.State} : Keeps 116056878683004400771923974 s
    (State.scanAbort s) := by
  unfold State.scanAbort
  refine Keeps.ite ?_ ?_
  · refine Keeps.step ?_ State.scanOver_keeps rfl
    refine Keeps.step ?_ State.wr_keeps (kb_k 77371252455336267181195264 rfl rfl)
    exact Keeps.refl _ _
  · exact Keeps.refl _ _

theorem State.scanCtlWrite_keeps {s : Sys2Proof.Machine.State} {r : Sys2Proof.Requester} {word : Nat} : Keeps
    116094657614867360081182726 s (State.scanCtlWrite s r word) := by
  unfold State.scanCtlWrite
  refine State.writeWith_keeps ?_ (kb_k 77371252455336267181195264 rfl rfl) ?_
  · exact Keeps.refl _ _
  · intro y0_ h_
    refine Keeps.ite ?_ ?_
    · refine Keeps.step ?_ State.scanAbort_keeps rfl
      refine Keeps.ite ?_ ?_
      · refine Keeps.step ?_ State.scanStart_keeps rfl
        with_reducible assumption
      · with_reducible assumption
    · refine Keeps.ite ?_ ?_
      · refine Keeps.step ?_ State.scanStart_keeps rfl
        with_reducible assumption
      · with_reducible assumption

theorem execScanStart_keeps {r : Sys2Proof.Requester} {s : Sys2Proof.Machine.State} : ResKeeps tgtNext
    116094657614867360081182726 s (execScanStart r s) := by
  unfold execScanStart
  refine ResKeeps.some rfl ?_
  refine Keeps.step ?_ State.scanCtlWrite_keeps rfl
  exact Keeps.refl _ _

theorem execScanAbort_keeps {r : Sys2Proof.Requester} {s : Sys2Proof.Machine.State} : ResKeeps tgtNext
    116094657614867360081182726 s (execScanAbort r s) := by
  unfold execScanAbort
  refine ResKeeps.some rfl ?_
  refine Keeps.step ?_ State.scanCtlWrite_keeps rfl
  exact Keeps.refl _ _

theorem execScanPeriodStart_keeps {s : Sys2Proof.Machine.State} : ResKeeps tgtNext 77409031387199224343101443 s
    (execScanPeriodStart s) := by
  unfold execScanPeriodStart
  refine ResKeeps.ite ?_ ?_
  · refine ResKeeps.some rfl ?_
    refine Keeps.step ?_ State.scanStart_keeps rfl
    refine Keeps.mkUpd ?_ ⟨Or.inr rfl, rfl, Or.inr rfl, Or.inr rfl, Or.inr rfl, Or.inr rfl, Or.inr rfl, Or.inr
        rfl, Or.inr rfl, Or.inr rfl, Or.inr rfl, Or.inr rfl, Or.inr rfl, Or.inr rfl, Or.inr rfl, Or.inr rfl, Or.inr
        rfl, Or.inl rfl, Or.inr rfl, Or.inr rfl, Or.inr rfl, Or.inr rfl, Or.inr rfl, Or.inr rfl, Or.inr rfl, Or.inr
        rfl, Or.inr rfl, Or.inr rfl, Or.inr rfl, Or.inr rfl, Or.inr rfl, Or.inr rfl, Or.inr rfl, Or.inr rfl, Or.inr
        rfl, Or.inr rfl, Or.inr rfl, Or.inr rfl, Or.inr rfl, Or.inr rfl, Or.inr rfl, Or.inr rfl, Or.inr rfl, Or.inr
        rfl, Or.inr rfl, Or.inr rfl, Nat.le_refl _, trivial, fun w => w, fun w => w, fun w => w, fun w => w, fun w
        => w, fun w => w, fun w => w, fun w => w, fun w => w, fun w => w, fun w => w, fun w => w, fun w => w⟩
    refine Keeps.step ?_ State.advanceTo_keeps rfl
    exact Keeps.refl _ _
  · refine ResKeeps.some rfl ?_
    exact Keeps.refl _ _

theorem execScanTriggerStart_keeps {s : Sys2Proof.Machine.State} : ResKeeps tgtNext 77409031387199224343101443 s
    (execScanTriggerStart s) := by
  unfold execScanTriggerStart
  split
  · refine ResKeeps.some rfl ?_
    refine Keeps.ite ?_ ?_
    · refine Keeps.step ?_ State.scanStart_keeps rfl
      refine Keeps.mkUpd ?_ ⟨Or.inr rfl, rfl, Or.inr rfl, Or.inr rfl, Or.inr rfl, Or.inr rfl, Or.inr rfl, Or.inr
          rfl, Or.inr rfl, Or.inr rfl, Or.inr rfl, Or.inr rfl, Or.inr rfl, Or.inr rfl, Or.inr rfl, Or.inr rfl,
          Or.inr rfl, Or.inl rfl, Or.inr rfl, Or.inr rfl, Or.inr rfl, Or.inr rfl, Or.inr rfl, Or.inr rfl, Or.inr
          rfl, Or.inr rfl, Or.inr rfl, Or.inr rfl, Or.inr rfl, Or.inr rfl, Or.inr rfl, Or.inr rfl, Or.inr rfl,
          Or.inr rfl, Or.inr rfl, Or.inr rfl, Or.inr rfl, Or.inr rfl, Or.inr rfl, Or.inr rfl, Or.inr rfl, Or.inr
          rfl, Or.inr rfl, Or.inr rfl, Or.inr rfl, Or.inr rfl, Nat.le_refl _, trivial, fun w => w, fun w => w, fun w
          => w, fun w => w, fun w => w, fun w => w, fun w => w, fun w => w, fun w => w, fun w => w, fun w => w, fun
          w => w, fun w => w⟩
      refine Keeps.step ?_ State.advanceTo_keeps rfl
      exact Keeps.refl _ _
    · refine Keeps.mkUpd ?_ ⟨Or.inr rfl, rfl, Or.inr rfl, Or.inr rfl, Or.inr rfl, Or.inr rfl, Or.inr rfl, Or.inr
        rfl, Or.inr rfl, Or.inr rfl, Or.inr rfl, Or.inr rfl, Or.inr rfl, Or.inr rfl, Or.inr rfl, Or.inr rfl, Or.inr
        rfl, Or.inl rfl, Or.inr rfl, Or.inr rfl, Or.inr rfl, Or.inr rfl, Or.inr rfl, Or.inr rfl, Or.inr rfl, Or.inr
        rfl, Or.inr rfl, Or.inr rfl, Or.inr rfl, Or.inr rfl, Or.inr rfl, Or.inr rfl, Or.inr rfl, Or.inr rfl, Or.inr
        rfl, Or.inr rfl, Or.inr rfl, Or.inr rfl, Or.inr rfl, Or.inr rfl, Or.inr rfl, Or.inr rfl, Or.inr rfl, Or.inr
        rfl, Or.inr rfl, Or.inr rfl, Nat.le_refl _, trivial, fun w => w, fun w => w, fun w => w, fun w => w, fun w
        => w, fun w => w, fun w => w, fun w => w, fun w => w, fun w => w, fun w => w, fun w => w, fun w => w⟩
      refine Keeps.step ?_ State.advanceTo_keeps rfl
      exact Keeps.refl _ _
  · refine ResKeeps.some rfl ?_
    exact Keeps.refl _ _

theorem State.openSwitch_keeps {s : Sys2Proof.Machine.State} {e : Sys2Proof.Machine.ScanEntry} : Keeps 131072 s
    (State.openSwitch s e) := by
  unfold State.openSwitch
  split
  · exact Keeps.refl _ _
  · refine Keeps.mkUpd ?_ ⟨Or.inr rfl, rfl, Or.inr rfl, Or.inr rfl, Or.inr rfl, Or.inr rfl, Or.inr rfl, Or.inr
      rfl, Or.inr rfl, Or.inr rfl, Or.inr rfl, Or.inr rfl, Or.inr rfl, Or.inr rfl, Or.inr rfl, Or.inr rfl, Or.inr
      rfl, Or.inl rfl, Or.inr rfl, Or.inr rfl, Or.inr rfl, Or.inr rfl, Or.inr rfl, Or.inr rfl, Or.inr rfl, Or.inr
      rfl, Or.inr rfl, Or.inr rfl, Or.inr rfl, Or.inr rfl, Or.inr rfl, Or.inr rfl, Or.inr rfl, Or.inr rfl, Or.inr
      rfl, Or.inr rfl, Or.inr rfl, Or.inr rfl, Or.inr rfl, Or.inr rfl, Or.inr rfl, Or.inr rfl, Or.inr rfl, Or.inr
      rfl, Or.inr rfl, Or.inr rfl, Nat.le_refl _, trivial, fun w => w, fun w => w, fun w => w, fun w => w, fun w =>
      w, fun w => w, fun w => w, fun w => w, fun w => w, fun w => w, fun w => w, fun w => w, fun w => w⟩
    exact Keeps.refl _ _

theorem State.urgDrop_keeps {s : Sys2Proof.Machine.State} {n : Nat} {ch : Nat} : Keeps
    38723405159531090752372738 s (State.urgDrop s n ch) := by
  unfold State.urgDrop
  refine Keeps.step ?_ State.count_keeps rfl
  refine Keeps.ite ?_ ?_
  · refine Keeps.step ?_ State.wr_keeps (kb_k 38685626227668133590597632 rfl rfl)
    refine Keeps.step ?_ State.satAdd_keeps (kb_k 38685626227668133590597632 rfl rfl)
    exact Keeps.refl _ _
  · refine Keeps.step ?_ State.wr_keeps (kb_k 38685626227668133590597632 rfl rfl)
    refine Keeps.step ?_ State.wr_keeps (kb_k 38685626227668133590597632 rfl rfl)
    refine Keeps.step ?_ State.satAdd_keeps (kb_k 38685626227668133590597632 rfl rfl)
    exact Keeps.refl _ _

theorem State.urgEnd_keeps {s : Sys2Proof.Machine.State} {n : Nat} : Keeps 38723405159531090752634882 s
    (State.urgEnd s n) := by
  unfold State.urgEnd
  split
  · refine Keeps.step ?_ State.urgDrop_keeps rfl
    refine Keeps.step ?_ State.wr_keeps (kb_k 38685626227668133590597632 rfl rfl)
    refine Keeps.step ?_ State.modAs_keeps rfl
    exact Keeps.refl _ _
  · exact Keeps.refl _ _

theorem State.startGroup_keeps {s : Sys2Proof.Machine.State} {c : Nat} {es : List Sys2Proof.Machine.ScanEntry} :
    Keeps 38723405159531090752765955 s (State.startGroup s c es) := by
  unfold State.startGroup
  refine Keeps.mkUpd ?_ ⟨Or.inr rfl, rfl, Or.inr rfl, Or.inr rfl, Or.inr rfl, Or.inr rfl, Or.inr rfl, Or.inr
      rfl, Or.inr rfl, Or.inr rfl, Or.inr rfl, Or.inr rfl, Or.inr rfl, Or.inr rfl, Or.inr rfl, Or.inr rfl, Or.inr
      rfl, Or.inl rfl, Or.inr rfl, Or.inr rfl, Or.inr rfl, Or.inr rfl, Or.inr rfl, Or.inr rfl, Or.inr rfl, Or.inr
      rfl, Or.inr rfl, Or.inr rfl, Or.inr rfl, Or.inr rfl, Or.inr rfl, Or.inr rfl, Or.inr rfl, Or.inr rfl, Or.inr
      rfl, Or.inr rfl, Or.inr rfl, Or.inr rfl, Or.inr rfl, Or.inr rfl, Or.inr rfl, Or.inr rfl, Or.inr rfl, Or.inr
      rfl, Or.inr rfl, Or.inr rfl, Nat.le_refl _, trivial, fun w => w, fun w => w, fun w => w, fun w => w, fun w =>
      w, fun w => w, fun w => w, fun w => w, fun w => w, fun w => w, fun w => w, fun w => w, fun w => w⟩
  refine Keeps.foldl _ _ ?_ ?_
  · refine Keeps.step ?_ State.scanFree_keeps rfl
    refine Keeps.foldl _ _ ?_ ?_
    · refine Keeps.foldl _ _ ?_ ?_
      · refine Keeps.step ?_ State.advanceTo_keeps rfl
        exact Keeps.refl _ _
      · intro y_ a_ h_
        refine Keeps.step ?_ State.urgEnd_keeps rfl
        with_reducible assumption
    · intro y_ a_ h_
      refine Keeps.step ?_ State.openSwitch_keeps rfl
      with_reducible assumption
  · intro y_ a_ h_
    refine Keeps.step ?_ State.wr_keeps (kb_k 38685626227668133590597632 rfl rfl)
    with_reducible assumption

theorem State.scanGroup_keeps {s : Sys2Proof.Machine.State} : Keeps 116094657614867357933961219 s
    (State.scanGroup s) := by
  unfold State.scanGroup
  refine Keeps.ite ?_ ?_
  · exact Keeps.refl _ _
  · refine Keeps.ite ?_ ?_
    · refine Keeps.step ?_ State.wr_keeps (kb_k 77371252455336267181195264 rfl rfl)
      exact Keeps.refl _ _
    · refine Keeps.ite ?_ ?_
      · refine Keeps.step ?_ State.wr_keeps (kb_k 77371252455336267181195264 rfl rfl)
        exact Keeps.refl _ _
      · refine Keeps.step ?_ State.startGroup_keeps rfl
        refine Keeps.ite ?_ ?_
        · refine Keeps.step ?_ State.count_keeps rfl
          exact Keeps.refl _ _
        · exact Keeps.refl _ _

theorem execScanGroupStart_keeps {s : Sys2Proof.Machine.State} : ResKeeps tgtNext 116094657614867357933961219 s
    (execScanGroupStart s) := by
  unfold execScanGroupStart
  refine ResKeeps.some rfl ?_
  refine Keeps.step ?_ State.scanGroup_keeps rfl
  exact Keeps.refl _ _

theorem State.closeSwitch_keeps {s : Sys2Proof.Machine.State} {e : Sys2Proof.Machine.ScanEntry} : Keeps 131072 s
    (State.closeSwitch s e) := by
  unfold State.closeSwitch
  split
  · exact Keeps.refl _ _
  · refine Keeps.ite ?_ ?_
    · exact Keeps.refl _ _
    · refine Keeps.mkUpd ?_ ⟨Or.inr rfl, rfl, Or.inr rfl, Or.inr rfl, Or.inr rfl, Or.inr rfl, Or.inr rfl, Or.inr
        rfl, Or.inr rfl, Or.inr rfl, Or.inr rfl, Or.inr rfl, Or.inr rfl, Or.inr rfl, Or.inr rfl, Or.inr rfl, Or.inr
        rfl, Or.inl rfl, Or.inr rfl, Or.inr rfl, Or.inr rfl, Or.inr rfl, Or.inr rfl, Or.inr rfl, Or.inr rfl, Or.inr
        rfl, Or.inr rfl, Or.inr rfl, Or.inr rfl, Or.inr rfl, Or.inr rfl, Or.inr rfl, Or.inr rfl, Or.inr rfl, Or.inr
        rfl, Or.inr rfl, Or.inr rfl, Or.inr rfl, Or.inr rfl, Or.inr rfl, Or.inr rfl, Or.inr rfl, Or.inr rfl, Or.inr
        rfl, Or.inr rfl, Or.inr rfl, Nat.le_refl _, trivial, fun w => w, fun w => w, fun w => w, fun w => w, fun w
        => w, fun w => w, fun w => w, fun w => w, fun w => w, fun w => w, fun w => w, fun w => w, fun w => w⟩
      exact Keeps.refl _ _

theorem execAbusSwitchClose_keeps {bus : Fin 8} {s : Sys2Proof.Machine.State} : ResKeeps tgtNext 131073 s
    (execAbusSwitchClose bus s) := by
  unfold execAbusSwitchClose
  split
  · refine ResKeeps.some rfl ?_
    refine Keeps.step ?_ State.closeSwitch_keeps rfl
    refine Keeps.step ?_ State.advanceTo_keeps rfl
    exact Keeps.refl _ _
  · refine ResKeeps.some rfl ?_
    exact Keeps.refl _ _

theorem State.scanItem_keeps {s : Sys2Proof.Machine.State} : Keeps 77484589250925138666553346 s (State.scanItem s) := by
  unfold State.scanItem
  refine Keeps.ite ?_ ?_
  · refine Keeps.step ?_ State.satAdd_keeps (kb_k 77371252455336267181195264 rfl rfl)
    exact Keeps.refl _ _
  · split
    · rename_i h4_0
      refine Keeps.ofRes (tgt := tgtOffer) ?_ h4_0 rfl
      refine ResKeeps.step ?_ State.offer_keeps rfl
      exact Keeps.refl _ _
    · rename_i h4_1
      refine Keeps.step ?_ State.wr_keeps (kb_k 77371252455336267181195264 rfl rfl)
      refine Keeps.mkUpd ?_ ⟨Or.inr rfl, rfl, Or.inr rfl, Or.inr rfl, Or.inr rfl, Or.inr rfl, Or.inr rfl, Or.inr
          rfl, Or.inr rfl, Or.inr rfl, Or.inr rfl, Or.inr rfl, Or.inr rfl, Or.inr rfl, Or.inr rfl, Or.inr rfl,
          Or.inr rfl, Or.inl rfl, Or.inr rfl, Or.inr rfl, Or.inr rfl, Or.inr rfl, Or.inr rfl, Or.inr rfl, Or.inr
          rfl, Or.inr rfl, Or.inr rfl, Or.inr rfl, Or.inr rfl, Or.inr rfl, Or.inr rfl, Or.inr rfl, Or.inr rfl,
          Or.inr rfl, Or.inr rfl, Or.inr rfl, Or.inr rfl, Or.inr rfl, Or.inr rfl, Or.inr rfl, Or.inr rfl, Or.inr
          rfl, Or.inr rfl, Or.inr rfl, Or.inr rfl, Or.inr rfl, Nat.le_refl _, trivial, fun w => w, fun w => w, fun w
          => w, fun w => w, fun w => w, fun w => w, fun w => w, fun w => w, fun w => w, fun w => w, fun w => w, fun
          w => w, fun w => w⟩
      refine Keeps.ofRes (tgt := tgtOffer) ?_ h4_1 rfl
      refine ResKeeps.step ?_ State.offer_keeps rfl
      exact Keeps.refl _ _
    · exact Keeps.refl _ _

theorem State.queueResult_keeps {s : Sys2Proof.Machine.State} {e : Sys2Proof.Machine.ScanEntry} {raw : List
    Sys2Proof.RawSample} : Keeps 116170215478593272257413127 s (State.queueResult s e raw) := by
  unfold State.queueResult
  refine Keeps.ite ?_ ?_
  · refine Keeps.step ?_ State.scanOver_keeps rfl
    refine Keeps.ite ?_ ?_
    · refine Keeps.step ?_ State.scanItem_keeps rfl
      refine Keeps.step ?_ State.count_keeps rfl
      refine Keeps.step ?_ State.count_keeps rfl
      refine Keeps.mkUpd ?_ ⟨Or.inr rfl, rfl, Or.inr rfl, Or.inr rfl, Or.inr rfl, Or.inr rfl, Or.inr rfl, Or.inr
          rfl, Or.inr rfl, Or.inr rfl, Or.inr rfl, Or.inr rfl, Or.inr rfl, Or.inr rfl, Or.inr rfl, Or.inr rfl,
          Or.inr rfl, Or.inl rfl, Or.inr rfl, Or.inr rfl, Or.inr rfl, Or.inr rfl, Or.inr rfl, Or.inr rfl, Or.inr
          rfl, Or.inr rfl, Or.inr rfl, Or.inr rfl, Or.inr rfl, Or.inr rfl, Or.inr rfl, Or.inr rfl, Or.inr rfl,
          Or.inr rfl, Or.inr rfl, Or.inr rfl, Or.inr rfl, Or.inr rfl, Or.inr rfl, Or.inr rfl, Or.inr rfl, Or.inr
          rfl, Or.inr rfl, Or.inr rfl, Or.inr rfl, Or.inr rfl, Nat.le_refl _, trivial, fun w => w, fun w => w, fun w
          => w, fun w => w, fun w => w, fun w => w, fun w => w, fun w => w, fun w => w, fun w => w, fun w => w, fun
          w => w, fun w => w⟩
      refine Keeps.step ?_ State.noteSamples_keeps rfl
      refine Keeps.step ?_ State.advanceTo_keeps rfl
      exact Keeps.refl _ _
    · refine Keeps.step ?_ State.count_keeps rfl
      refine Keeps.step ?_ State.count_keeps rfl
      refine Keeps.mkUpd ?_ ⟨Or.inr rfl, rfl, Or.inr rfl, Or.inr rfl, Or.inr rfl, Or.inr rfl, Or.inr rfl, Or.inr
          rfl, Or.inr rfl, Or.inr rfl, Or.inr rfl, Or.inr rfl, Or.inr rfl, Or.inr rfl, Or.inr rfl, Or.inr rfl,
          Or.inr rfl, Or.inl rfl, Or.inr rfl, Or.inr rfl, Or.inr rfl, Or.inr rfl, Or.inr rfl, Or.inr rfl, Or.inr
          rfl, Or.inr rfl, Or.inr rfl, Or.inr rfl, Or.inr rfl, Or.inr rfl, Or.inr rfl, Or.inr rfl, Or.inr rfl,
          Or.inr rfl, Or.inr rfl, Or.inr rfl, Or.inr rfl, Or.inr rfl, Or.inr rfl, Or.inr rfl, Or.inr rfl, Or.inr
          rfl, Or.inr rfl, Or.inr rfl, Or.inr rfl, Or.inr rfl, Nat.le_refl _, trivial, fun w => w, fun w => w, fun w
          => w, fun w => w, fun w => w, fun w => w, fun w => w, fun w => w, fun w => w, fun w => w, fun w => w, fun
          w => w, fun w => w⟩
      refine Keeps.step ?_ State.noteSamples_keeps rfl
      refine Keeps.step ?_ State.advanceTo_keeps rfl
      exact Keeps.refl _ _
  · refine Keeps.step ?_ State.count_keeps rfl
    refine Keeps.mkUpd ?_ ⟨Or.inr rfl, rfl, Or.inr rfl, Or.inr rfl, Or.inr rfl, Or.inr rfl, Or.inr rfl, Or.inr
        rfl, Or.inr rfl, Or.inr rfl, Or.inr rfl, Or.inr rfl, Or.inr rfl, Or.inr rfl, Or.inr rfl, Or.inr rfl, Or.inr
        rfl, Or.inl rfl, Or.inr rfl, Or.inr rfl, Or.inr rfl, Or.inr rfl, Or.inr rfl, Or.inr rfl, Or.inr rfl, Or.inr
        rfl, Or.inr rfl, Or.inr rfl, Or.inr rfl, Or.inr rfl, Or.inr rfl, Or.inr rfl, Or.inr rfl, Or.inr rfl, Or.inr
        rfl, Or.inr rfl, Or.inr rfl, Or.inr rfl, Or.inr rfl, Or.inr rfl, Or.inr rfl, Or.inr rfl, Or.inr rfl, Or.inr
        rfl, Or.inr rfl, Or.inr rfl, Nat.le_refl _, trivial, fun w => w, fun w => w, fun w => w, fun w => w, fun w
        => w, fun w => w, fun w => w, fun w => w, fun w => w, fun w => w, fun w => w, fun w => w, fun w => w⟩
    refine Keeps.step ?_ State.noteSamples_keeps rfl
    refine Keeps.step ?_ State.advanceTo_keeps rfl
    exact Keeps.refl _ _

theorem execScanResultQueue_keeps {raw : List Sys2Proof.RawSample} {s : Sys2Proof.Machine.State} : ResKeeps
    tgtNext 116170215478593272257413127 s (execScanResultQueue raw s) := by
  unfold execScanResultQueue
  split
  · try extract_lets
    split
    · refine ResKeeps.some rfl ?_
      refine Keeps.ite ?_ ?_
      · refine Keeps.step ?_ State.queueResult_keeps rfl
        refine Keeps.step ?_ State.closeSwitch_keeps rfl
        exact Keeps.refl _ _
      · exact Keeps.refl _ _
    · refine ResKeeps.some rfl ?_
      exact Keeps.refl _ _
  · refine ResKeeps.some rfl ?_
    exact Keeps.refl _ _

theorem execScanQueueCopy_keeps {s : Sys2Proof.Machine.State} : ResKeeps tgtNext 77975715365213950781292546 s
    (execScanQueueCopy s) := by
  unfold execScanQueueCopy
  split
  · refine ResKeeps.ite ?_ ?_
    · refine ResKeeps.some rfl ?_
      exact Keeps.refl _ _
    · refine ResKeeps.some rfl ?_
      refine Keeps.step ?_ State.raiseCause_keeps rfl
      refine Keeps.mkUpd ?_ ⟨Or.inr rfl, rfl, Or.inr rfl, Or.inr rfl, Or.inr rfl, Or.inr rfl, Or.inr rfl, Or.inr
          rfl, Or.inr rfl, Or.inr rfl, Or.inr rfl, Or.inr rfl, Or.inr rfl, Or.inr rfl, Or.inr rfl, Or.inr rfl,
          Or.inr rfl, Or.inl rfl, Or.inr rfl, Or.inr rfl, Or.inr rfl, Or.inr rfl, Or.inr rfl, Or.inr rfl, Or.inr
          rfl, Or.inr rfl, Or.inr rfl, Or.inr rfl, Or.inr rfl, Or.inr rfl, Or.inr rfl, Or.inr rfl, Or.inr rfl,
          Or.inr rfl, Or.inr rfl, Or.inr rfl, Or.inr rfl, Or.inr rfl, Or.inr rfl, Or.inr rfl, Or.inr rfl, Or.inr
          rfl, Or.inr rfl, Or.inr rfl, Or.inr rfl, Or.inr rfl, Nat.le_refl _, trivial, fun w => w, fun w => w, fun w
          => w, fun w => w, fun w => w, fun w => w, fun w => w, fun w => w, fun w => w, fun w => w, fun w => w, fun
          w => w, fun w => w⟩
      refine Keeps.step ?_ State.wr_keeps (kb_k 77371252455336267181195264 rfl rfl)
      refine Keeps.step ?_ State.hostWrite_keeps rfl
      exact Keeps.refl _ _
  · refine ResKeeps.some rfl ?_
    exact Keeps.refl _ _

theorem State.putAct_keeps {s : Sys2Proof.Machine.State} {n : Nat} {a : Nat} : Keeps 38685626227668133590597634
    s (State.putAct s n a) := by
  unfold State.putAct
  refine Keeps.foldl _ _ ?_ ?_
  · exact Keeps.refl _ _
  · intro y_ a_ h_
    refine Keeps.step ?_ State.wr_keeps (kb_k 38685626227668133590597632 rfl rfl)
    with_reducible assumption

theorem State.singleBegin_keeps {s : Sys2Proof.Machine.State} {n : Nat} {clk : Nat} : Keeps
    38685626227668133590859778 s (State.singleBegin s n clk) := by
  unfold State.singleBegin
  refine Keeps.step ?_ State.wr3_keeps (kb_k 38685626227668133590597632 rfl rfl)
  refine Keeps.step ?_ State.modAs_keeps rfl
  exact Keeps.refl _ _

theorem State.singleRun_keeps {s : Sys2Proof.Machine.State} {n : Nat} : Keeps 38685626227668133590859778 s
    (State.singleRun s n) := by
  unfold State.singleRun
  refine Keeps.ite ?_ ?_
  · exact Keeps.refl _ _
  · refine Keeps.ite ?_ ?_
    · refine Keeps.step ?_ State.modAs_keeps rfl
      refine Keeps.step ?_ State.wr_keeps (kb_k 38685626227668133590597632 rfl rfl)
      refine Keeps.step ?_ State.wr_keeps (kb_k 38685626227668133590597632 rfl rfl)
      refine Keeps.step ?_ State.putAct_keeps rfl
      exact Keeps.refl _ _
    · refine Keeps.step ?_ State.singleBegin_keeps rfl
      refine Keeps.step ?_ State.wr_keeps (kb_k 38685626227668133590597632 rfl rfl)
      refine Keeps.step ?_ State.wr_keeps (kb_k 38685626227668133590597632 rfl rfl)
      refine Keeps.step ?_ State.putAct_keeps rfl
      exact Keeps.refl _ _

theorem State.singleSync_keeps {s : Sys2Proof.Machine.State} {t : Nat} : Keeps 38685626227668133590859778 s
    (State.singleSync s t) := by
  unfold State.singleSync
  refine Keeps.foldl _ _ ?_ ?_
  · exact Keeps.refl _ _
  · intro y_ a_ h_
    split
    · split
      · refine Keeps.ite ?_ ?_
        · refine Keeps.step ?_ State.singleBegin_keeps rfl
          with_reducible assumption
        · with_reducible assumption
      · with_reducible assumption
    · with_reducible assumption

theorem State.singleFill_keeps {s : Sys2Proof.Machine.State} {n : Nat} {o : Sys2Proof.Machine.SingleOp} :
    ResKeeps tgtFst 38685626227668133590859778 s (State.singleFill s n o) := by
  unfold State.singleFill
  refine ResKeeps.ite ?_ ?_
  · refine ResKeeps.some rfl ?_
    refine Keeps.step ?_ State.modAs_keeps rfl
    exact Keeps.refl _ _
  · refine ResKeeps.some rfl ?_
    refine Keeps.step ?_ State.wr_keeps (kb_k 38685626227668133590597632 rfl rfl)
    refine Keeps.step ?_ State.satAdd_keeps (kb_k 38685626227668133590597632 rfl rfl)
    refine Keeps.ite ?_ ?_
    · refine Keeps.step ?_ State.modAs_keeps rfl
      exact Keeps.refl _ _
    · refine Keeps.step ?_ State.wr_keeps (kb_k 38685626227668133590597632 rfl rfl)
      refine Keeps.step ?_ State.wr_keeps (kb_k 38685626227668133590597632 rfl rfl)
      refine Keeps.step ?_ State.modAs_keeps rfl
      exact Keeps.refl _ _

theorem State.singleEnd_keeps {s : Sys2Proof.Machine.State} {n : Nat} {clk : Nat} : Keeps
    38685626227668133590859778 s (State.singleEnd s n clk) := by
  unfold State.singleEnd
  split
  · refine Keeps.step ?_ State.putAct_keeps rfl
    refine Keeps.step ?_ State.modAs_keeps rfl
    exact Keeps.refl _ _
  · exact Keeps.refl _ _

theorem State.scCtlWrite_keeps {s : Sys2Proof.Machine.State} {r : Sys2Proof.Requester} {n : Nat} {word : Nat} :
    Keeps 38685626227668135738343430 s (State.scCtlWrite s r n word) := by
  unfold State.scCtlWrite
  refine State.writeWith_keeps ?_ (kb_k 38685626227668133590597632 rfl rfl) ?_
  · exact Keeps.refl _ _
  · intro y0_ h_
    refine Keeps.ite ?_ ?_
    · refine Keeps.ite ?_ ?_
      · refine Keeps.step ?_ State.singleEnd_keeps rfl
        refine Keeps.ite ?_ ?_
        · refine Keeps.step ?_ State.singleRun_keeps rfl
          with_reducible assumption
        · with_reducible assumption
      · refine Keeps.ite ?_ ?_
        · refine Keeps.step ?_ State.singleRun_keeps rfl
          with_reducible assumption
        · with_reducible assumption
    · refine Keeps.ite ?_ ?_
      · refine Keeps.step ?_ State.singleRun_keeps rfl
        with_reducible assumption
      · with_reducible assumption

theorem execSingleRunStart_keeps {r : Sys2Proof.Requester} {n : Fin 4} {s : Sys2Proof.Machine.State} : ResKeeps
    tgtNext 38685626227668135738343430 s (execSingleRunStart r n s) := by
  unfold execSingleRunStart
  refine ResKeeps.some rfl ?_
  refine Keeps.step ?_ State.scCtlWrite_keeps rfl
  exact Keeps.refl _ _

theorem execSingleRunStop_keeps {r : Sys2Proof.Requester} {n : Fin 4} {s : Sys2Proof.Machine.State} : ResKeeps
    tgtNext 38685626227668135738343430 s (execSingleRunStop r n s) := by
  unfold execSingleRunStop
  refine ResKeeps.some rfl ?_
  refine Keeps.step ?_ State.scCtlWrite_keeps rfl
  exact Keeps.refl _ _

theorem State.singleBlock_keeps {s : Sys2Proof.Machine.State} {n : Nat} {o : Sys2Proof.Machine.SingleOp} {raw :
    List Sys2Proof.RawSample} : Keeps 39327868069408774352601090 s (State.singleBlock s n o raw) := by
  unfold State.singleBlock
  refine Keeps.step ?_ State.raiseCause_keeps rfl
  refine Keeps.ite ?_ ?_
  · refine Keeps.step ?_ State.singleEnd_keeps rfl
    refine Keeps.ite ?_ ?_
    · refine Keeps.step ?_ State.wr_keeps (kb_k 38685626227668133590597632 rfl rfl)
      refine Keeps.step ?_ State.modAs_keeps rfl
      refine Keeps.step ?_ State.wr_keeps (kb_k 38685626227668133590597632 rfl rfl)
      refine Keeps.foldl _ _ ?_ ?_
      · refine Keeps.step ?_ State.hostWrite_keeps rfl
        exact Keeps.refl _ _
      · intro y_ a_ h_
        refine Keeps.step ?_ State.noteSamples_keeps rfl
        with_reducible assumption
    · refine Keeps.step ?_ State.modAs_keeps rfl
      refine Keeps.step ?_ State.wr_keeps (kb_k 38685626227668133590597632 rfl rfl)
      refine Keeps.foldl _ _ ?_ ?_
      · refine Keeps.step ?_ State.hostWrite_keeps rfl
        exact Keeps.refl _ _
      · intro y_ a_ h_
        refine Keeps.step ?_ State.noteSamples_keeps rfl
        with_reducible assumption
  · refine Keeps.ite ?_ ?_
    · refine Keeps.step ?_ State.wr_keeps (kb_k 38685626227668133590597632 rfl rfl)
      refine Keeps.step ?_ State.modAs_keeps rfl
      refine Keeps.step ?_ State.wr_keeps (kb_k 38685626227668133590597632 rfl rfl)
      refine Keeps.foldl _ _ ?_ ?_
      · refine Keeps.step ?_ State.hostWrite_keeps rfl
        exact Keeps.refl _ _
      · intro y_ a_ h_
        refine Keeps.step ?_ State.noteSamples_keeps rfl
        with_reducible assumption
    · refine Keeps.step ?_ State.modAs_keeps rfl
      refine Keeps.step ?_ State.wr_keeps (kb_k 38685626227668133590597632 rfl rfl)
      refine Keeps.foldl _ _ ?_ ?_
      · refine Keeps.step ?_ State.hostWrite_keeps rfl
        exact Keeps.refl _ _
      · intro y_ a_ h_
        refine Keeps.step ?_ State.noteSamples_keeps rfl
        with_reducible assumption

theorem execSingleBlockWrite_keeps {n : Fin 4} {raw : List Sys2Proof.RawSample} {s : Sys2Proof.Machine.State} :
    ResKeeps tgtNext 39327868069408774352601090 s (execSingleBlockWrite n raw s) := by
  unfold execSingleBlockWrite
  split
  · split
    · rename_i h4_0
      refine ResKeeps.some rfl ?_
      refine Keeps.ite ?_ ?_
      · refine Keeps.step ?_ State.singleBlock_keeps rfl
        refine Keeps.ofRes (tgt := tgtFst) ?_ h4_0 rfl
        refine ResKeeps.step ?_ State.singleFill_keeps rfl
        exact Keeps.refl _ _
      · refine Keeps.ofRes (tgt := tgtFst) ?_ h4_0 rfl
        refine ResKeeps.step ?_ State.singleFill_keeps rfl
        exact Keeps.refl _ _
  · refine ResKeeps.some rfl ?_
    exact Keeps.refl _ _

theorem State.urgTake_keeps {s : Sys2Proof.Machine.State} {n : Nat} {ch : Nat} : Keeps
    38685626227668133590859778 s (State.urgTake s n ch) := by
  unfold State.urgTake
  refine Keeps.step ?_ State.wr_keeps (kb_k 38685626227668133590597632 rfl rfl)
  refine Keeps.step ?_ State.wr_keeps (kb_k 38685626227668133590597632 rfl rfl)
  refine Keeps.step ?_ State.modAs_keeps rfl
  exact Keeps.refl _ _

theorem State.urgGo_keeps {s : Sys2Proof.Machine.State} {n : Nat} {ch : Nat} : Keeps 38723405159531090752634882
    s (State.urgGo s n ch) := by
  unfold State.urgGo
  refine Keeps.ite ?_ ?_
  · refine Keeps.step ?_ State.wr_keeps (kb_k 38685626227668133590597632 rfl rfl)
    exact Keeps.refl _ _
  · refine Keeps.ite ?_ ?_
    · refine Keeps.step ?_ State.urgTake_keeps rfl
      refine Keeps.step ?_ State.urgEnd_keeps rfl
      exact Keeps.refl _ _
    · refine Keeps.ite ?_ ?_
      · refine Keeps.step ?_ State.urgDrop_keeps rfl
        exact Keeps.refl _ _
      · refine Keeps.step ?_ State.urgTake_keeps rfl
        exact Keeps.refl _ _

theorem State.urgWrite_keeps {s : Sys2Proof.Machine.State} {r : Sys2Proof.Requester} {n : Nat} {ch : Nat} {word
    : Nat} : Keeps 38723405159531092900118534 s (State.urgWrite s r n ch word) := by
  unfold State.urgWrite
  refine State.writeWith_keeps ?_ (kb_k 38685626227668133590597632 rfl rfl) ?_
  · exact Keeps.refl _ _
  · intro y0_ h_
    refine Keeps.ite ?_ ?_
    · refine Keeps.step ?_ State.urgGo_keeps rfl
      with_reducible assumption
    · with_reducible assumption

theorem execUrgentRequest_keeps {r : Sys2Proof.Requester} {n : Fin 4} {ch : Fin 2} {v : Sys2Proof.Word} {s :
    Sys2Proof.Machine.State} : ResKeeps tgtNext 38723405159531092900118534 s (execUrgentRequest r n ch v s) := by
  unfold execUrgentRequest
  refine ResKeeps.some rfl ?_
  refine Keeps.step ?_ State.urgWrite_keeps rfl
  exact Keeps.refl _ _

theorem State.urgResult_keeps {s : Sys2Proof.Machine.State} {n : Nat} {u : Sys2Proof.Machine.UrgOp} {raw : List
    Sys2Proof.RawSample} : Keeps 38723405159531090752634883 s (State.urgResult s n u raw) := by
  unfold State.urgResult
  refine Keeps.step ?_ State.count_keeps rfl
  refine Keeps.step ?_ State.wr_keeps (kb_k 38685626227668133590597632 rfl rfl)
  refine Keeps.step ?_ State.wr_keeps (kb_k 38685626227668133590597632 rfl rfl)
  refine Keeps.step ?_ State.wr_keeps (kb_k 38685626227668133590597632 rfl rfl)
  refine Keeps.step ?_ State.wr_keeps (kb_k 38685626227668133590597632 rfl rfl)
  refine Keeps.step ?_ State.wr_keeps (kb_k 38685626227668133590597632 rfl rfl)
  refine Keeps.step ?_ State.modAs_keeps rfl
  refine Keeps.step ?_ State.noteSamples_keeps rfl
  refine Keeps.step ?_ State.advanceTo_keeps rfl
  exact Keeps.refl _ _

theorem execUrgentResult_keeps {n : Fin 4} {raw : List Sys2Proof.RawSample} {s : Sys2Proof.Machine.State} :
    ResKeeps tgtNext 38723405159531090752634883 s (execUrgentResult n raw s) := by
  unfold execUrgentResult
  split
  · refine ResKeeps.some rfl ?_
    refine Keeps.ite ?_ ?_
    · refine Keeps.step ?_ State.urgResult_keeps rfl
      exact Keeps.refl _ _
    · exact Keeps.refl _ _
  · refine ResKeeps.some rfl ?_
    exact Keeps.refl _ _

theorem State.sliceLost_keeps {s : Sys2Proof.Machine.State} {n : Nat} : Keeps 116094657614867357933961222 s
    (State.sliceLost s n) := by
  unfold State.sliceLost
  refine Keeps.step ?_ State.wr_keeps (kb_k 38685626227668133590597632 rfl rfl)
  refine Keeps.ite ?_ ?_
  · refine Keeps.step ?_ State.scanAbort_keeps rfl
    refine Keeps.step ?_ State.modAs_keeps rfl
    refine Keeps.step ?_ State.urgEnd_keeps rfl
    exact Keeps.refl _ _
  · refine Keeps.step ?_ State.modAs_keeps rfl
    refine Keeps.step ?_ State.urgEnd_keeps rfl
    exact Keeps.refl _ _

end Sys2Proof.Machine
end

