-- ==== Sys2Proof/Laws/FrameAcquisition.lean ====
section
/-! SUPPORT. What each function of Machine/Acquisition.lean may change: one mask of `Keeps` for each. -/

namespace Sys2Proof.Machine

open Reg

theorem State.acqAct_keeps {s : Sys2Proof.Machine.State} {a : Nat} : Keeps 38685626227668133590597634 s
    (State.acqAct s a) := by
  unfold State.acqAct
  refine Keeps.foldl _ _ ?_ ?_
  · exact Keeps.refl _ _
  · intro y_ a_ h_
    refine Keeps.step ?_ State.putAct_keeps rfl
    with_reducible assumption

theorem State.rearm_keeps {s : Sys2Proof.Machine.State} : Keeps 154742504910672534362914818 s (State.rearm s) := by
  unfold State.rearm
  refine Keeps.mkUpd ?_ ⟨Or.inr rfl, rfl, Or.inr rfl, Or.inr rfl, Or.inr rfl, Or.inr rfl, Or.inr rfl, Or.inr
      rfl, Or.inr rfl, Or.inr rfl, Or.inr rfl, Or.inr rfl, Or.inr rfl, Or.inr rfl, Or.inr rfl, Or.inr rfl, Or.inr
      rfl, Or.inr rfl, Or.inr rfl, Or.inl rfl, Or.inr rfl, Or.inr rfl, Or.inr rfl, Or.inr rfl, Or.inr rfl, Or.inr
      rfl, Or.inr rfl, Or.inr rfl, Or.inr rfl, Or.inr rfl, Or.inr rfl, Or.inr rfl, Or.inr rfl, Or.inr rfl, Or.inr
      rfl, Or.inr rfl, Or.inr rfl, Or.inr rfl, Or.inr rfl, Or.inr rfl, Or.inr rfl, Or.inr rfl, Or.inr rfl, Or.inr
      rfl, Or.inr rfl, Or.inr rfl, Nat.le_refl _, trivial, fun w => w, fun w => w, fun w => w, fun w => w, fun w =>
      w, fun w => w, fun w => w, fun w => w, fun w => w, fun w => w, fun w => w, fun w => w, fun w => w⟩
  refine Keeps.step ?_ State.wr_keeps (kb_k 154742504910672534362390528 rfl rfl)
  exact Keeps.refl _ _

theorem State.acqIdle_keeps {s : Sys2Proof.Machine.State} : Keeps 193428131138340667953512454 s (State.acqIdle s) := by
  unfold State.acqIdle
  refine Keeps.ite ?_ ?_
  · refine Keeps.step ?_ State.commitAll_keeps (kb_k 154742504910672534362390528 rfl rfl)
    refine Keeps.mkUpd ?_ ⟨Or.inr rfl, rfl, Or.inr rfl, Or.inr rfl, Or.inr rfl, Or.inr rfl, Or.inr rfl, Or.inr
        rfl, Or.inr rfl, Or.inr rfl, Or.inr rfl, Or.inr rfl, Or.inr rfl, Or.inr rfl, Or.inr rfl, Or.inr rfl, Or.inr
        rfl, Or.inr rfl, Or.inr rfl, Or.inl rfl, Or.inr rfl, Or.inr rfl, Or.inr rfl, Or.inr rfl, Or.inr rfl, Or.inr
        rfl, Or.inr rfl, Or.inr rfl, Or.inr rfl, Or.inr rfl, Or.inr rfl, Or.inr rfl, Or.inr rfl, Or.inr rfl, Or.inr
        rfl, Or.inr rfl, Or.inr rfl, Or.inr rfl, Or.inr rfl, Or.inr rfl, Or.inr rfl, Or.inr rfl, Or.inr rfl, Or.inr
        rfl, Or.inr rfl, Or.inr rfl, Nat.le_refl _, trivial, fun w => w, fun w => w, fun w => w, fun w => w, fun w
        => w, fun w => w, fun w => w, fun w => w, fun w => w, fun w => w, fun w => w, fun w => w, fun w => w⟩
    refine Keeps.step ?_ State.acqAct_keeps rfl
    refine Keeps.step ?_ State.wr_keeps (kb_k 154742504910672534362390528 rfl rfl)
    refine Keeps.step ?_ State.wr_keeps (kb_k 154742504910672534362390528 rfl rfl)
    exact Keeps.refl _ _
  · refine Keeps.mkUpd ?_ ⟨Or.inr rfl, rfl, Or.inr rfl, Or.inr rfl, Or.inr rfl, Or.inr rfl, Or.inr rfl, Or.inr
      rfl, Or.inr rfl, Or.inr rfl, Or.inr rfl, Or.inr rfl, Or.inr rfl, Or.inr rfl, Or.inr rfl, Or.inr rfl, Or.inr
      rfl, Or.inr rfl, Or.inr rfl, Or.inl rfl, Or.inr rfl, Or.inr rfl, Or.inr rfl, Or.inr rfl, Or.inr rfl, Or.inr
      rfl, Or.inr rfl, Or.inr rfl, Or.inr rfl, Or.inr rfl, Or.inr rfl, Or.inr rfl, Or.inr rfl, Or.inr rfl, Or.inr
      rfl, Or.inr rfl, Or.inr rfl, Or.inr rfl, Or.inr rfl, Or.inr rfl, Or.inr rfl, Or.inr rfl, Or.inr rfl, Or.inr
      rfl, Or.inr rfl, Or.inr rfl, Nat.le_refl _, trivial, fun w => w, fun w => w, fun w => w, fun w => w, fun w =>
      w, fun w => w, fun w => w, fun w => w, fun w => w, fun w => w, fun w => w, fun w => w, fun w => w⟩
    refine Keeps.step ?_ State.acqAct_keeps rfl
    refine Keeps.step ?_ State.wr_keeps (kb_k 154742504910672534362390528 rfl rfl)
    refine Keeps.step ?_ State.wr_keeps (kb_k 154742504910672534362390528 rfl rfl)
    exact Keeps.refl _ _

theorem State.acqArm_keeps {s : Sys2Proof.Machine.State} : Keeps 193465910070203625115287554 s (State.acqArm s) := by
  unfold State.acqArm
  refine Keeps.ite ?_ ?_
  · exact Keeps.refl _ _
  · refine Keeps.ite ?_ ?_
    · refine Keeps.step ?_ State.wr_keeps (kb_k 154742504910672534362390528 rfl rfl)
      refine Keeps.step ?_ State.wr_keeps (kb_k 154742504910672534362390528 rfl rfl)
      exact Keeps.refl _ _
    · refine Keeps.step ?_ State.rearm_keeps rfl
      refine Keeps.mkUpd ?_ ⟨Or.inr rfl, rfl, Or.inr rfl, Or.inr rfl, Or.inr rfl, Or.inr rfl, Or.inr rfl, Or.inr
          rfl, Or.inr rfl, Or.inr rfl, Or.inr rfl, Or.inr rfl, Or.inr rfl, Or.inr rfl, Or.inr rfl, Or.inr rfl,
          Or.inr rfl, Or.inr rfl, Or.inr rfl, Or.inl rfl, Or.inr rfl, Or.inr rfl, Or.inr rfl, Or.inr rfl, Or.inr
          rfl, Or.inr rfl, Or.inr rfl, Or.inr rfl, Or.inr rfl, Or.inr rfl, Or.inr rfl, Or.inr rfl, Or.inr rfl,
          Or.inr rfl, Or.inr rfl, Or.inr rfl, Or.inr rfl, Or.inr rfl, Or.inr rfl, Or.inr rfl, Or.inr rfl, Or.inr
          rfl, Or.inr rfl, Or.inr rfl, Or.inr rfl, Or.inr rfl, Nat.le_refl _, trivial, fun w => w, fun w => w, fun w
          => w, fun w => w, fun w => w, fun w => w, fun w => w, fun w => w, fun w => w, fun w => w, fun w => w, fun
          w => w, fun w => w⟩
      refine Keeps.step ?_ State.count_keeps rfl
      refine Keeps.step ?_ State.acqAct_keeps rfl
      exact Keeps.refl _ _

theorem execArmInstant_keeps {s : Sys2Proof.Machine.State} : ResKeeps tgtNext 154742504910672534362914823 s
    (execArmInstant s) := by
  unfold execArmInstant
  refine ResKeeps.ite ?_ ?_
  · refine ResKeeps.some rfl ?_
    exact Keeps.refl _ _
  · refine ResKeeps.ite ?_ ?_
    · refine ResKeeps.some rfl ?_
      refine Keeps.step ?_ State.wr_keeps (kb_k 154742504910672534362390528 rfl rfl)
      exact Keeps.refl _ _
    · refine ResKeeps.some rfl ?_
      refine Keeps.mkUpd ?_ ⟨Or.inr rfl, rfl, Or.inr rfl, Or.inr rfl, Or.inr rfl, Or.inr rfl, Or.inr rfl, Or.inr
          rfl, Or.inr rfl, Or.inr rfl, Or.inr rfl, Or.inr rfl, Or.inr rfl, Or.inr rfl, Or.inr rfl, Or.inr rfl,
          Or.inr rfl, Or.inr rfl, Or.inr rfl, Or.inl rfl, Or.inr rfl, Or.inr rfl, Or.inr rfl, Or.inr rfl, Or.inr
          rfl, Or.inr rfl, Or.inr rfl, Or.inr rfl, Or.inr rfl, Or.inr rfl, Or.inr rfl, Or.inr rfl, Or.inr rfl,
          Or.inr rfl, Or.inr rfl, Or.inr rfl, Or.inr rfl, Or.inr rfl, Or.inr rfl, Or.inr rfl, Or.inr rfl, Or.inr
          rfl, Or.inr rfl, Or.inr rfl, Or.inr rfl, Or.inr rfl, Nat.le_refl _, trivial, fun w => w, fun w => w, fun w
          => w, fun w => w, fun w => w, fun w => w, fun w => w, fun w => w, fun w => w, fun w => w, fun w => w, fun
          w => w, fun w => w⟩
      refine Keeps.step ?_ State.wr_keeps (kb_k 154742504910672534362390528 rfl rfl)
      refine Keeps.step ?_ State.wr_keeps (kb_k 154742504910672534362390528 rfl rfl)
      refine Keeps.step ?_ State.advanceTo_keeps rfl
      refine Keeps.ite ?_ ?_
      · refine Keeps.step ?_ State.commitAll_keeps (kb_k 154742504910672534362390528 rfl rfl)
        exact Keeps.refl _ _
      · exact Keeps.refl _ _

theorem execPretriggerFull_keeps {s : Sys2Proof.Machine.State} : ResKeeps tgtNext 154742504910672534362390531 s
    (execPretriggerFull s) := by
  unfold execPretriggerFull
  split
  · refine ResKeeps.ite ?_ ?_
    · refine ResKeeps.some rfl ?_
      refine Keeps.step ?_ State.wr_keeps (kb_k 154742504910672534362390528 rfl rfl)
      refine Keeps.step ?_ State.advanceTo_keeps rfl
      exact Keeps.refl _ _
    · refine ResKeeps.some rfl ?_
      exact Keeps.refl _ _
  · refine ResKeeps.some rfl ?_
    exact Keeps.refl _ _

theorem State.missed_keeps {s : Sys2Proof.Machine.State} {n : Nat} : Keeps 154780283842535491524165634 s
    (State.missed s n) := by
  unfold State.missed
  refine Keeps.ite ?_ ?_
  · exact Keeps.refl _ _
  · refine Keeps.step ?_ State.count_keeps rfl
    refine Keeps.step ?_ State.satAdd_keeps (kb_k 154742504910672534362390528 rfl rfl)
    exact Keeps.refl _ _

theorem State.acceptTrigger_keeps {s : Sys2Proof.Machine.State} {r : Sys2Proof.Machine.Rec} {k : Nat} {fs : List
    Sys2Proof.Machine.Firing} : Keeps 154799173308466970642415618 s (State.acceptTrigger s r k fs) := by
  unfold State.acceptTrigger
  refine Keeps.step ?_ State.exportEvent_keeps rfl
  refine Keeps.step ?_ State.count_keeps rfl
  refine Keeps.mkUpd ?_ ⟨Or.inr rfl, rfl, Or.inr rfl, Or.inr rfl, Or.inr rfl, Or.inr rfl, Or.inr rfl, Or.inr
      rfl, Or.inr rfl, Or.inr rfl, Or.inr rfl, Or.inr rfl, Or.inr rfl, Or.inr rfl, Or.inr rfl, Or.inr rfl, Or.inr
      rfl, Or.inr rfl, Or.inr rfl, Or.inl rfl, Or.inr rfl, Or.inr rfl, Or.inr rfl, Or.inr rfl, Or.inr rfl, Or.inr
      rfl, Or.inr rfl, Or.inr rfl, Or.inr rfl, Or.inr rfl, Or.inr rfl, Or.inr rfl, Or.inr rfl, Or.inr rfl, Or.inr
      rfl, Or.inr rfl, Or.inr rfl, Or.inr rfl, Or.inr rfl, Or.inr rfl, Or.inr rfl, Or.inr rfl, Or.inr rfl, Or.inr
      rfl, Or.inr rfl, Or.inr rfl, Nat.le_refl _, trivial, fun w => w, fun w => w, fun w => w, fun w => w, fun w =>
      w, fun w => w, fun w => w, fun w => w, fun w => w, fun w => w, fun w => w, fun w => w, fun w => w⟩
  refine Keeps.step ?_ State.wr_keeps (kb_k 154742504910672534362390528 rfl rfl)
  refine Keeps.step ?_ State.wr_keeps (kb_k 154742504910672534362390528 rfl rfl)
  refine Keeps.step ?_ State.wr_keeps (kb_k 154742504910672534362390528 rfl rfl)
  refine Keeps.step ?_ State.wr_keeps (kb_k 154742504910672534362390528 rfl rfl)
  refine Keeps.step ?_ State.wr_keeps (kb_k 154742504910672534362390528 rfl rfl)
  exact Keeps.refl _ _

theorem State.decideTriggers_keeps {s : Sys2Proof.Machine.State} {r : Sys2Proof.Machine.Rec} {fs : List
    Sys2Proof.Machine.Firing} : Keeps 154799173308466970642415618 s (State.decideTriggers s r fs) := by
  unfold State.decideTriggers
  refine Keeps.ite ?_ ?_
  · try extract_lets
    split
    · refine Keeps.step ?_ State.acceptTrigger_keeps rfl
      refine Keeps.step ?_ State.missed_keeps rfl
      refine Keeps.ite ?_ ?_
      · exact Keeps.refl _ _
      · refine Keeps.step ?_ State.satAdd_keeps (kb_k 154742504910672534362390528 rfl rfl)
        exact Keeps.refl _ _
    · refine Keeps.step ?_ State.missed_keeps rfl
      refine Keeps.ite ?_ ?_
      · exact Keeps.refl _ _
      · refine Keeps.step ?_ State.satAdd_keeps (kb_k 154742504910672534362390528 rfl rfl)
        exact Keeps.refl _ _
  · refine Keeps.step ?_ State.missed_keeps rfl
    exact Keeps.refl _ _

theorem State.acqTake_keeps {s : Sys2Proof.Machine.State} {r : Sys2Proof.Machine.Rec} {new : List
    (List Sys2Proof.Machine.Sample)} : Keeps 38723405159531090753159170 s (State.acqTake s r new) := by
  unfold State.acqTake
  refine Keeps.mkUpd ?_ ⟨Or.inr rfl, rfl, Or.inr rfl, Or.inr rfl, Or.inr rfl, Or.inr rfl, Or.inr rfl, Or.inr
      rfl, Or.inr rfl, Or.inr rfl, Or.inr rfl, Or.inr rfl, Or.inr rfl, Or.inr rfl, Or.inr rfl, Or.inr rfl, Or.inr
      rfl, Or.inr rfl, Or.inr rfl, Or.inl rfl, Or.inr rfl, Or.inr rfl, Or.inr rfl, Or.inr rfl, Or.inr rfl, Or.inr
      rfl, Or.inr rfl, Or.inr rfl, Or.inr rfl, Or.inr rfl, Or.inr rfl, Or.inr rfl, Or.inr rfl, Or.inr rfl, Or.inr
      rfl, Or.inr rfl, Or.inr rfl, Or.inr rfl, Or.inr rfl, Or.inr rfl, Or.inr rfl, Or.inr rfl, Or.inr rfl, Or.inr
      rfl, Or.inr rfl, Or.inr rfl, Nat.le_refl _, trivial, fun w => w, fun w => w, fun w => w, fun w => w, fun w =>
      w, fun w => w, fun w => w, fun w => w, fun w => w, fun w => w, fun w => w, fun w => w, fun w => w⟩
  refine Keeps.foldl _ _ ?_ ?_
  · exact Keeps.refl _ _
  · intro y_ a_ h_
    split
    · refine Keeps.foldl _ _ ?_ ?_
      · with_reducible assumption
      · intro y_ a_ h_
        refine Keeps.step ?_ State.noteSamples_keeps rfl
        with_reducible assumption

theorem State.triggers_keeps {s : Sys2Proof.Machine.State} {r : Sys2Proof.Machine.Rec} {raws : List
    (List Sys2Proof.RawSample)} {pats : List (BitVec 64)} : Keeps 193484799536135104233275394 s
    (State.triggers s r raws pats) := by
  unfold State.triggers
  try extract_lets
  split
  · refine Keeps.step ?_ State.decideTriggers_keeps rfl
    refine Keeps.mkUpd ?_ ⟨Or.inr rfl, rfl, Or.inr rfl, Or.inr rfl, Or.inr rfl, Or.inr rfl, Or.inr rfl, Or.inr
        rfl, Or.inr rfl, Or.inr rfl, Or.inr rfl, Or.inr rfl, Or.inr rfl, Or.inr rfl, Or.inr rfl, Or.inr rfl, Or.inr
        rfl, Or.inr rfl, Or.inr rfl, Or.inl rfl, Or.inr rfl, Or.inr rfl, Or.inr rfl, Or.inr rfl, Or.inr rfl, Or.inr
        rfl, Or.inr rfl, Or.inr rfl, Or.inr rfl, Or.inr rfl, Or.inr rfl, Or.inr rfl, Or.inr rfl, Or.inr rfl, Or.inr
        rfl, Or.inr rfl, Or.inr rfl, Or.inr rfl, Or.inr rfl, Or.inr rfl, Or.inr rfl, Or.inr rfl, Or.inr rfl, Or.inr
        rfl, Or.inr rfl, Or.inr rfl, Nat.le_refl _, trivial, fun w => w, fun w => w, fun w => w, fun w => w, fun w
        => w, fun w => w, fun w => w, fun w => w, fun w => w, fun w => w, fun w => w, fun w => w, fun w => w⟩
    refine Keeps.step ?_ State.acqTake_keeps rfl
    exact Keeps.refl _ _

theorem State.rearmTriggers_keeps {s : Sys2Proof.Machine.State} : Keeps 154780283842535491524689922 s
    (State.rearmTriggers s) := by
  unfold State.rearmTriggers
  refine Keeps.step ?_ State.missed_keeps rfl
  refine Keeps.mkUpd ?_ ⟨Or.inr rfl, rfl, Or.inr rfl, Or.inr rfl, Or.inr rfl, Or.inr rfl, Or.inr rfl, Or.inr
      rfl, Or.inr rfl, Or.inr rfl, Or.inr rfl, Or.inr rfl, Or.inr rfl, Or.inr rfl, Or.inr rfl, Or.inr rfl, Or.inr
      rfl, Or.inr rfl, Or.inr rfl, Or.inl rfl, Or.inr rfl, Or.inr rfl, Or.inr rfl, Or.inr rfl, Or.inr rfl, Or.inr
      rfl, Or.inr rfl, Or.inr rfl, Or.inr rfl, Or.inr rfl, Or.inr rfl, Or.inr rfl, Or.inr rfl, Or.inr rfl, Or.inr
      rfl, Or.inr rfl, Or.inr rfl, Or.inr rfl, Or.inr rfl, Or.inr rfl, Or.inr rfl, Or.inr rfl, Or.inr rfl, Or.inr
      rfl, Or.inr rfl, Or.inr rfl, Nat.le_refl _, trivial, fun w => w, fun w => w, fun w => w, fun w => w, fun w =>
      w, fun w => w, fun w => w, fun w => w, fun w => w, fun w => w, fun w => w, fun w => w, fun w => w⟩
  exact Keeps.refl _ _

theorem execTriggerAccept_keeps {raws : List (List Sys2Proof.RawSample)} {pats : List (BitVec 64)} {s :
    Sys2Proof.Machine.State} : ResKeeps tgtNext 193484799536135104233275394 s (execTriggerAccept raws pats s) := by
  unfold execTriggerAccept
  split
  · refine ResKeeps.some rfl ?_
    refine Keeps.ite ?_ ?_
    · refine Keeps.step ?_ State.triggers_keeps rfl
      exact Keeps.refl _ _
    · exact Keeps.refl _ _
  · refine ResKeeps.some rfl ?_
    refine Keeps.ite ?_ ?_
    · refine Keeps.step ?_ State.rearmTriggers_keeps rfl
      exact Keeps.refl _ _
    · exact Keeps.refl _ _

theorem State.writeRecordMem_keeps {s : Sys2Proof.Machine.State} {r : Sys2Proof.Machine.Rec} {smp : List
    (List Sys2Proof.Machine.Sample)} : Keeps 1099511627776 s (State.writeRecordMem s r smp) := by
  unfold State.writeRecordMem
  refine Keeps.mkUpd ?_ ⟨Or.inr rfl, rfl, Or.inr rfl, Or.inr rfl, Or.inr rfl, Or.inr rfl, Or.inr rfl, Or.inr
      rfl, Or.inr rfl, Or.inr rfl, Or.inr rfl, Or.inr rfl, Or.inr rfl, Or.inr rfl, Or.inr rfl, Or.inr rfl, Or.inr
      rfl, Or.inr rfl, Or.inr rfl, Or.inr rfl, Or.inr rfl, Or.inr rfl, Or.inr rfl, Or.inr rfl, Or.inr rfl, Or.inr
      rfl, Or.inr rfl, Or.inr rfl, Or.inr rfl, Or.inr rfl, Or.inr rfl, Or.inr rfl, Or.inr rfl, Or.inr rfl, Or.inr
      rfl, Or.inr rfl, Or.inr rfl, Or.inr rfl, Or.inr rfl, Or.inl rfl, Or.inr rfl, Or.inr rfl, Or.inr rfl, Or.inr
      rfl, Or.inr rfl, Or.inr rfl, Nat.le_refl _, trivial, fun w => w, fun w => w, fun w => w, fun w => w, fun w =>
      w,
      (by intro w_; repeat' first | with_reducible assumption | with_reducible refine tabWf_memPutBytes _ _ _ ?_ | with_reducible refine tabWf_memPutNat _ _ _ _ ?_ | with_reducible refine tabWf_memPut _ _ _ ?_ | with_reducible refine tabWf_tabPut _ _ _ _ ?_ | with_reducible refine tabWf_tabErase _ _ _ ?_ | with_reducible refine tabWf_filter _ _ _ ?_ | with_reducible refine tabWf_foldl _ _ _ ?_ ?_ | (intro m_ a_ h_) | exact rfl | split),
      fun w => w, fun w => w, fun w => w, fun w => w, fun w => w, fun w => w, fun w => w⟩
  exact Keeps.refl _ _

theorem State.endRecord_keeps {s : Sys2Proof.Machine.State} {r : Sys2Proof.Machine.Rec} {nout : Nat} {ovfl :
    Bool} {aborted : Bool} : Keeps 1099512152064 s (State.endRecord s r nout ovfl aborted) := by
  unfold State.endRecord
  refine Keeps.mkUpd ?_ ⟨Or.inr rfl, rfl, Or.inr rfl, Or.inr rfl, Or.inr rfl, Or.inr rfl, Or.inr rfl, Or.inr
      rfl, Or.inr rfl, Or.inr rfl, Or.inr rfl, Or.inr rfl, Or.inr rfl, Or.inr rfl, Or.inr rfl, Or.inr rfl, Or.inr
      rfl, Or.inr rfl, Or.inr rfl, Or.inl rfl, Or.inr rfl, Or.inr rfl, Or.inr rfl, Or.inr rfl, Or.inr rfl, Or.inr
      rfl, Or.inr rfl, Or.inr rfl, Or.inr rfl, Or.inr rfl, Or.inr rfl, Or.inr rfl, Or.inr rfl, Or.inr rfl, Or.inr
      rfl, Or.inr rfl, Or.inr rfl, Or.inr rfl, Or.inr rfl, Or.inr rfl, Or.inr rfl, Or.inr rfl, Or.inr rfl, Or.inr
      rfl, Or.inr rfl, Or.inr rfl, Nat.le_refl _, trivial, fun w => w, fun w => w, fun w => w, fun w => w, fun w =>
      w, fun w => w, fun w => w, fun w => w, fun w => w, fun w => w, fun w => w, fun w => w, fun w => w⟩
  refine Keeps.step ?_ State.writeRecordMem_keeps rfl
  exact Keeps.refl _ _

theorem State.afterRecord_keeps {s : Sys2Proof.Machine.State} {ovfl : Bool} : Keeps 193428131138340667953512454
    s (State.afterRecord s ovfl) := by
  unfold State.afterRecord
  refine Keeps.ite ?_ ?_
  · refine Keeps.step ?_ State.rearm_keeps rfl
    exact Keeps.refl _ _
  · refine Keeps.step ?_ State.acqIdle_keeps rfl
    exact Keeps.refl _ _

theorem execRecordLastSample_keeps {raws : List (List Sys2Proof.RawSample)} {s : Sys2Proof.Machine.State} :
    ResKeeps tgtNext 193465910070204724627177479 s (execRecordLastSample raws s) := by
  unfold execRecordLastSample
  split
  · refine ResKeeps.ite ?_ ?_
    · refine ResKeeps.some rfl ?_
      exact Keeps.refl _ _
    · refine ResKeeps.ite ?_ ?_
      · refine ResKeeps.some rfl ?_
        refine Keeps.step ?_ State.acqTake_keeps rfl
        exact Keeps.refl _ _
      · refine ResKeeps.some rfl ?_
        refine Keeps.step ?_ State.afterRecord_keeps rfl
        refine Keeps.step ?_ State.endRecord_keeps rfl
        refine Keeps.step ?_ State.advanceTo_keeps rfl
        refine Keeps.step ?_ State.acqTake_keeps rfl
        exact Keeps.refl _ _
  · refine ResKeeps.some rfl ?_
    exact Keeps.refl _ _

theorem execRecordOverflow_keeps {s : Sys2Proof.Machine.State} : ResKeeps tgtNext 193465910070204724626915334 s
    (execRecordOverflow s) := by
  unfold execRecordOverflow
  split
  · refine ResKeeps.ite ?_ ?_
    · refine ResKeeps.some rfl ?_
      refine Keeps.step ?_ State.acqIdle_keeps rfl
      refine Keeps.step ?_ State.count_keeps rfl
      refine Keeps.step ?_ State.wr_keeps (kb_k 154742504910672534362390528 rfl rfl)
      refine Keeps.step ?_ State.endRecord_keeps rfl
      exact Keeps.refl _ _
    · refine ResKeeps.some rfl ?_
      exact Keeps.refl _ _
  · refine ResKeeps.some rfl ?_
    exact Keeps.refl _ _

theorem State.acqAbort_keeps {s : Sys2Proof.Machine.State} : Keeps 193428131138341767465140230 s
    (State.acqAbort s) := by
  unfold State.acqAbort
  split
  · refine Keeps.ite ?_ ?_
    · refine Keeps.step ?_ State.acqIdle_keeps rfl
      refine Keeps.step ?_ State.endRecord_keeps rfl
      exact Keeps.refl _ _
    · refine Keeps.step ?_ State.acqIdle_keeps rfl
      exact Keeps.refl _ _
  · refine Keeps.ite ?_ ?_
    · exact Keeps.refl _ _
    · refine Keeps.step ?_ State.acqIdle_keeps rfl
      exact Keeps.refl _ _

theorem State.acqStop_keeps {s : Sys2Proof.Machine.State} : Keeps 193428131138340667953512454 s (State.acqStop s) := by
  unfold State.acqStop
  refine Keeps.ite ?_ ?_
  · exact Keeps.refl _ _
  · refine Keeps.ite ?_ ?_
    · refine Keeps.mkUpd ?_ ⟨Or.inr rfl, rfl, Or.inr rfl, Or.inr rfl, Or.inr rfl, Or.inr rfl, Or.inr rfl, Or.inr
        rfl, Or.inr rfl, Or.inr rfl, Or.inr rfl, Or.inr rfl, Or.inr rfl, Or.inr rfl, Or.inr rfl, Or.inr rfl, Or.inr
        rfl, Or.inr rfl, Or.inr rfl, Or.inl rfl, Or.inr rfl, Or.inr rfl, Or.inr rfl, Or.inr rfl, Or.inr rfl, Or.inr
        rfl, Or.inr rfl, Or.inr rfl, Or.inr rfl, Or.inr rfl, Or.inr rfl, Or.inr rfl, Or.inr rfl, Or.inr rfl, Or.inr
        rfl, Or.inr rfl, Or.inr rfl, Or.inr rfl, Or.inr rfl, Or.inr rfl, Or.inr rfl, Or.inr rfl, Or.inr rfl, Or.inr
        rfl, Or.inr rfl, Or.inr rfl, Nat.le_refl _, trivial, fun w => w, fun w => w, fun w => w, fun w => w, fun w
        => w, fun w => w, fun w => w, fun w => w, fun w => w, fun w => w, fun w => w, fun w => w, fun w => w⟩
      exact Keeps.refl _ _
    · refine Keeps.step ?_ State.acqIdle_keeps rfl
      exact Keeps.refl _ _

theorem State.acqCtlWrite_keeps {s : Sys2Proof.Machine.State} {r : Sys2Proof.Requester} {word : Nat} : Keeps
    193465910070204726774398982 s (State.acqCtlWrite s r word) := by
  unfold State.acqCtlWrite
  refine State.writeWith_keeps ?_ (kb_k 154742504910672534362390528 rfl rfl) ?_
  · exact Keeps.refl _ _
  · intro y0_ h_
    refine Keeps.ite ?_ ?_
    · refine Keeps.step ?_ State.commitAll_keeps (kb_k 154742504910672534362390528 rfl rfl)
      refine Keeps.ite ?_ ?_
      · refine Keeps.step ?_ State.acqAbort_keeps rfl
        refine Keeps.ite ?_ ?_
        · refine Keeps.step ?_ State.acqStop_keeps rfl
          refine Keeps.ite ?_ ?_
          · refine Keeps.step ?_ State.acqEvent_keeps rfl
            refine Keeps.ite ?_ ?_
            · refine Keeps.step ?_ State.acqArm_keeps rfl
              with_reducible assumption
            · with_reducible assumption
          · refine Keeps.ite ?_ ?_
            · refine Keeps.step ?_ State.acqArm_keeps rfl
              with_reducible assumption
            · with_reducible assumption
        · refine Keeps.ite ?_ ?_
          · refine Keeps.step ?_ State.acqEvent_keeps rfl
            refine Keeps.ite ?_ ?_
            · refine Keeps.step ?_ State.acqArm_keeps rfl
              with_reducible assumption
            · with_reducible assumption
          · refine Keeps.ite ?_ ?_
            · refine Keeps.step ?_ State.acqArm_keeps rfl
              with_reducible assumption
            · with_reducible assumption
      · refine Keeps.ite ?_ ?_
        · refine Keeps.step ?_ State.acqStop_keeps rfl
          refine Keeps.ite ?_ ?_
          · refine Keeps.step ?_ State.acqEvent_keeps rfl
            refine Keeps.ite ?_ ?_
            · refine Keeps.step ?_ State.acqArm_keeps rfl
              with_reducible assumption
            · with_reducible assumption
          · refine Keeps.ite ?_ ?_
            · refine Keeps.step ?_ State.acqArm_keeps rfl
              with_reducible assumption
            · with_reducible assumption
        · refine Keeps.ite ?_ ?_
          · refine Keeps.step ?_ State.acqEvent_keeps rfl
            refine Keeps.ite ?_ ?_
            · refine Keeps.step ?_ State.acqArm_keeps rfl
              with_reducible assumption
            · with_reducible assumption
          · refine Keeps.ite ?_ ?_
            · refine Keeps.step ?_ State.acqArm_keeps rfl
              with_reducible assumption
            · with_reducible assumption
    · refine Keeps.ite ?_ ?_
      · refine Keeps.step ?_ State.acqAbort_keeps rfl
        refine Keeps.ite ?_ ?_
        · refine Keeps.step ?_ State.acqStop_keeps rfl
          refine Keeps.ite ?_ ?_
          · refine Keeps.step ?_ State.acqEvent_keeps rfl
            refine Keeps.ite ?_ ?_
            · refine Keeps.step ?_ State.acqArm_keeps rfl
              with_reducible assumption
            · with_reducible assumption
          · refine Keeps.ite ?_ ?_
            · refine Keeps.step ?_ State.acqArm_keeps rfl
              with_reducible assumption
            · with_reducible assumption
        · refine Keeps.ite ?_ ?_
          · refine Keeps.step ?_ State.acqEvent_keeps rfl
            refine Keeps.ite ?_ ?_
            · refine Keeps.step ?_ State.acqArm_keeps rfl
              with_reducible assumption
            · with_reducible assumption
          · refine Keeps.ite ?_ ?_
            · refine Keeps.step ?_ State.acqArm_keeps rfl
              with_reducible assumption
            · with_reducible assumption
      · refine Keeps.ite ?_ ?_
        · refine Keeps.step ?_ State.acqStop_keeps rfl
          refine Keeps.ite ?_ ?_
          · refine Keeps.step ?_ State.acqEvent_keeps rfl
            refine Keeps.ite ?_ ?_
            · refine Keeps.step ?_ State.acqArm_keeps rfl
              with_reducible assumption
            · with_reducible assumption
          · refine Keeps.ite ?_ ?_
            · refine Keeps.step ?_ State.acqArm_keeps rfl
              with_reducible assumption
            · with_reducible assumption
        · refine Keeps.ite ?_ ?_
          · refine Keeps.step ?_ State.acqEvent_keeps rfl
            refine Keeps.ite ?_ ?_
            · refine Keeps.step ?_ State.acqArm_keeps rfl
              with_reducible assumption
            · with_reducible assumption
          · refine Keeps.ite ?_ ?_
            · refine Keeps.step ?_ State.acqArm_keeps rfl
              with_reducible assumption
            · with_reducible assumption

theorem execAcqArm_keeps {r : Sys2Proof.Requester} {s : Sys2Proof.Machine.State} : ResKeeps tgtNext
    193465910070204726774398982 s (execAcqArm r s) := by
  unfold execAcqArm
  refine ResKeeps.some rfl ?_
  refine Keeps.step ?_ State.acqCtlWrite_keeps rfl
  exact Keeps.refl _ _

theorem execAcqForce_keeps {r : Sys2Proof.Requester} {s : Sys2Proof.Machine.State} : ResKeeps tgtNext
    193465910070204726774398982 s (execAcqForce r s) := by
  unfold execAcqForce
  refine ResKeeps.some rfl ?_
  refine Keeps.step ?_ State.acqCtlWrite_keeps rfl
  exact Keeps.refl _ _

theorem execAcqStop_keeps {r : Sys2Proof.Requester} {s : Sys2Proof.Machine.State} : ResKeeps tgtNext
    193465910070204726774398982 s (execAcqStop r s) := by
  unfold execAcqStop
  refine ResKeeps.some rfl ?_
  refine Keeps.step ?_ State.acqCtlWrite_keeps rfl
  exact Keeps.refl _ _

theorem execAcqAbort_keeps {r : Sys2Proof.Requester} {s : Sys2Proof.Machine.State} : ResKeeps tgtNext
    193465910070204726774398982 s (execAcqAbort r s) := by
  unfold execAcqAbort
  refine ResKeeps.some rfl ?_
  refine Keeps.step ?_ State.acqCtlWrite_keeps rfl
  exact Keeps.refl _ _

theorem State.acqItem_keeps {s : Sys2Proof.Machine.State} {r : Sys2Proof.Machine.Rec} {smp : List
    (List Sys2Proof.Machine.Sample)} : Keeps 154855841706261405848141826 s (State.acqItem s r smp) := by
  unfold State.acqItem
  refine Keeps.ite ?_ ?_
  · refine Keeps.step ?_ State.satAdd_keeps (kb_k 154742504910672534362390528 rfl rfl)
    exact Keeps.refl _ _
  · split
    · rename_i h4_0
      refine Keeps.ofRes (tgt := tgtOffer) ?_ h4_0 rfl
      refine ResKeeps.step ?_ State.offer_keeps rfl
      exact Keeps.refl _ _
    · rename_i h4_1
      refine Keeps.step ?_ State.wr_keeps (kb_k 154742504910672534362390528 rfl rfl)
      refine Keeps.mkUpd ?_ ⟨Or.inr rfl, rfl, Or.inr rfl, Or.inr rfl, Or.inr rfl, Or.inr rfl, Or.inr rfl, Or.inr
          rfl, Or.inr rfl, Or.inr rfl, Or.inr rfl, Or.inr rfl, Or.inr rfl, Or.inr rfl, Or.inr rfl, Or.inr rfl,
          Or.inr rfl, Or.inr rfl, Or.inr rfl, Or.inl rfl, Or.inr rfl, Or.inr rfl, Or.inr rfl, Or.inr rfl, Or.inr
          rfl, Or.inr rfl, Or.inr rfl, Or.inr rfl, Or.inr rfl, Or.inr rfl, Or.inr rfl, Or.inr rfl, Or.inr rfl,
          Or.inr rfl, Or.inr rfl, Or.inr rfl, Or.inr rfl, Or.inr rfl, Or.inr rfl, Or.inr rfl, Or.inr rfl, Or.inr
          rfl, Or.inr rfl, Or.inr rfl, Or.inr rfl, Or.inr rfl, Nat.le_refl _, trivial, fun w => w, fun w => w, fun w
          => w, fun w => w, fun w => w, fun w => w, fun w => w, fun w => w, fun w => w, fun w => w, fun w => w, fun
          w => w, fun w => w⟩
      refine Keeps.ofRes (tgt := tgtOffer) ?_ h4_1 rfl
      refine ResKeeps.step ?_ State.offer_keeps rfl
      exact Keeps.refl _ _
    · exact Keeps.refl _ _

theorem State.completeRecord_keeps {s : Sys2Proof.Machine.State} {r : Sys2Proof.Machine.Rec} {smp : List
    (List Sys2Proof.Machine.Sample)} : Keeps 155460304616070919727185922 s (State.completeRecord s r smp) := by
  unfold State.completeRecord
  refine Keeps.ite ?_ ?_
  · refine Keeps.step ?_ State.acqItem_keeps rfl
    refine Keeps.step ?_ State.count_keeps rfl
    refine Keeps.step ?_ State.count_keeps rfl
    refine Keeps.step ?_ State.raiseCause_keeps rfl
    refine Keeps.step ?_ State.wr_keeps (kb_k 154742504910672534362390528 rfl rfl)
    refine Keeps.mkUpd ?_ ⟨Or.inr rfl, rfl, Or.inr rfl, Or.inr rfl, Or.inr rfl, Or.inr rfl, Or.inr rfl, Or.inr
        rfl, Or.inr rfl, Or.inr rfl, Or.inr rfl, Or.inr rfl, Or.inr rfl, Or.inr rfl, Or.inr rfl, Or.inr rfl, Or.inr
        rfl, Or.inr rfl, Or.inr rfl, Or.inl rfl, Or.inr rfl, Or.inr rfl, Or.inr rfl, Or.inr rfl, Or.inr rfl, Or.inr
        rfl, Or.inr rfl, Or.inr rfl, Or.inr rfl, Or.inr rfl, Or.inr rfl, Or.inr rfl, Or.inr rfl, Or.inr rfl, Or.inr
        rfl, Or.inr rfl, Or.inr rfl, Or.inr rfl, Or.inr rfl, Or.inr rfl, Or.inl rfl, Or.inr rfl, Or.inr rfl, Or.inr
        rfl, Or.inr rfl, Or.inr rfl, Nat.le_refl _, trivial, fun w => w, fun w => w, fun w => w, fun w => w, fun w
        => w, fun w => w,
        (by intro w_; repeat' first | with_reducible assumption | with_reducible refine tabWf_memPutBytes _ _ _ ?_ | with_reducible refine tabWf_memPutNat _ _ _ _ ?_ | with_reducible refine tabWf_memPut _ _ _ ?_ | with_reducible refine tabWf_tabPut _ _ _ _ ?_ | with_reducible refine tabWf_tabErase _ _ _ ?_ | with_reducible refine tabWf_filter _ _ _ ?_ | with_reducible refine tabWf_foldl _ _ _ ?_ ?_ | (intro m_ a_ h_) | exact rfl | split),
        fun w => w, fun w => w, fun w => w, fun w => w, fun w => w, fun w => w⟩
    exact Keeps.refl _ _
  · refine Keeps.step ?_ State.count_keeps rfl
    refine Keeps.step ?_ State.count_keeps rfl
    refine Keeps.step ?_ State.raiseCause_keeps rfl
    refine Keeps.step ?_ State.wr_keeps (kb_k 154742504910672534362390528 rfl rfl)
    refine Keeps.mkUpd ?_ ⟨Or.inr rfl, rfl, Or.inr rfl, Or.inr rfl, Or.inr rfl, Or.inr rfl, Or.inr rfl, Or.inr
        rfl, Or.inr rfl, Or.inr rfl, Or.inr rfl, Or.inr rfl, Or.inr rfl, Or.inr rfl, Or.inr rfl, Or.inr rfl, Or.inr
        rfl, Or.inr rfl, Or.inr rfl, Or.inl rfl, Or.inr rfl, Or.inr rfl, Or.inr rfl, Or.inr rfl, Or.inr rfl, Or.inr
        rfl, Or.inr rfl, Or.inr rfl, Or.inr rfl, Or.inr rfl, Or.inr rfl, Or.inr rfl, Or.inr rfl, Or.inr rfl, Or.inr
        rfl, Or.inr rfl, Or.inr rfl, Or.inr rfl, Or.inr rfl, Or.inr rfl, Or.inl rfl, Or.inr rfl, Or.inr rfl, Or.inr
        rfl, Or.inr rfl, Or.inr rfl, Nat.le_refl _, trivial, fun w => w, fun w => w, fun w => w, fun w => w, fun w
        => w, fun w => w,
        (by intro w_; repeat' first | with_reducible assumption | with_reducible refine tabWf_memPutBytes _ _ _ ?_ | with_reducible refine tabWf_memPutNat _ _ _ _ ?_ | with_reducible refine tabWf_memPut _ _ _ ?_ | with_reducible refine tabWf_tabPut _ _ _ _ ?_ | with_reducible refine tabWf_tabErase _ _ _ ?_ | with_reducible refine tabWf_filter _ _ _ ?_ | with_reducible refine tabWf_foldl _ _ _ ?_ ?_ | (intro m_ a_ h_) | exact rfl | split),
        fun w => w, fun w => w, fun w => w, fun w => w, fun w => w, fun w => w⟩
    exact Keeps.refl _ _

theorem execRecordComplete_keeps {s : Sys2Proof.Machine.State} : ResKeeps tgtNext 155460304616070919727185922 s
    (execRecordComplete s) := by
  unfold execRecordComplete
  split
  · refine ResKeeps.some rfl ?_
    refine Keeps.step ?_ State.completeRecord_keeps rfl
    exact Keeps.refl _ _
  · refine ResKeeps.some rfl ?_
    exact Keeps.refl _ _

theorem State.rconsWrite_keeps {s : Sys2Proof.Machine.State} {r : Sys2Proof.Requester} {word : Nat} : Keeps
    154742504910672536510398470 s (State.rconsWrite s r word) := by
  unfold State.rconsWrite
  refine Keeps.ite ?_ ?_
  · refine Keeps.step ?_ State.werr_keeps (kb_k 154742504910672534362390528 rfl rfl)
    exact Keeps.refl _ _
  · refine State.writeWith_keeps ?_ (kb_k 154742504910672534362390528 rfl rfl) ?_
    · exact Keeps.refl _ _
    · intro y0_ h_
      refine Keeps.mkUpd ?_ ⟨Or.inr rfl, rfl, Or.inr rfl, Or.inr rfl, Or.inr rfl, Or.inr rfl, Or.inr rfl, Or.inr
          rfl, Or.inr rfl, Or.inr rfl, Or.inr rfl, Or.inr rfl, Or.inr rfl, Or.inr rfl, Or.inr rfl, Or.inr rfl,
          Or.inr rfl, Or.inr rfl, Or.inr rfl, Or.inl rfl, Or.inr rfl, Or.inr rfl, Or.inr rfl, Or.inr rfl, Or.inr
          rfl, Or.inr rfl, Or.inr rfl, Or.inr rfl, Or.inr rfl, Or.inr rfl, Or.inr rfl, Or.inr rfl, Or.inr rfl,
          Or.inr rfl, Or.inr rfl, Or.inr rfl, Or.inr rfl, Or.inr rfl, Or.inr rfl, Or.inr rfl, Or.inr rfl, Or.inr
          rfl, Or.inr rfl, Or.inr rfl, Or.inr rfl, Or.inr rfl, Nat.le_refl _, trivial, fun w => w, fun w => w, fun w
          => w, fun w => w, fun w => w, fun w => w, fun w => w, fun w => w, fun w => w, fun w => w, fun w => w, fun
          w => w, fun w => w⟩
      with_reducible assumption

theorem execAcqRelease_keeps {r : Sys2Proof.Requester} {v : Sys2Proof.Word} {s : Sys2Proof.Machine.State} :
    ResKeeps tgtNext 154742504910672536510398470 s (execAcqRelease r v s) := by
  unfold execAcqRelease
  refine ResKeeps.some rfl ?_
  refine Keeps.step ?_ State.rconsWrite_keeps rfl
  exact Keeps.refl _ _

theorem State.acqLost_keeps {s : Sys2Proof.Machine.State} : Keeps 193428131138340667953512454 s (State.acqLost s) := by
  unfold State.acqLost
  refine Keeps.ite ?_ ?_
  · exact Keeps.refl _ _
  · refine Keeps.step ?_ State.acqIdle_keeps rfl
    exact Keeps.refl _ _

end Sys2Proof.Machine
end

