-- ==== Sys2Proof/Laws/FrameVectors.lean ====
section
/-! SUPPORT. What each function of Machine/Vectors.lean may change: one mask of `Keeps` for each. -/

namespace Sys2Proof.Machine

open Reg

theorem State.issue_keeps {s : Sys2Proof.Machine.State} {c : Nat} {per : Nat} {start : Nat} {e :
    Sys2Proof.Machine.Edge} : ResKeeps tgtFst 9903520314283042199192993810 s (State.issue s c per start e) := by
  unfold State.issue
  refine ResKeeps.ite ?_ ?_
  · refine ResKeeps.some rfl ?_
    refine Keeps.step ?_ State.wrBit_keeps (kb_k 9903520314283042199192993792 rfl rfl)
    exact Keeps.refl _ _
  · refine ResKeeps.ite ?_ ?_
    · refine ResKeeps.some rfl ?_
      refine Keeps.step ?_ State.wrBit_keeps (kb_k 9903520314283042199192993792 rfl rfl)
      exact Keeps.refl _ _
    · refine ResKeeps.some rfl ?_
      refine Keeps.step ?_ State.modCh_keeps rfl
      exact Keeps.refl _ _

theorem State.issueStrobes_keeps {s : Sys2Proof.Machine.State} {c : Nat} {per : Nat} {start : Nat} {e :
    Sys2Proof.Machine.Edge} : Keeps 9903520314283042199192993810 s (State.issueStrobes s c per start e) := by
  unfold State.issueStrobes
  split
  · refine Keeps.ofRes (tgt := tgtFst) ?_ rfl rfl
    refine ResKeeps.step ?_ State.issue_keeps rfl
    exact Keeps.refl _ _
  · refine Keeps.ofRes (tgt := tgtFst) ?_ rfl rfl
    refine ResKeeps.step ?_ State.issue_keeps rfl
    exact Keeps.refl _ _
  · try extract_lets
    split
    · rename_i h4_0
      refine Keeps.ite ?_ ?_
      · split
        · rename_i h8_0
          refine Keeps.ite ?_ ?_
          · refine Keeps.step ?_ State.modCh_keeps rfl
            refine Keeps.ofRes (tgt := tgtFst) ?_ h8_0 rfl
            refine ResKeeps.step ?_ State.issue_keeps rfl
            refine Keeps.ofRes (tgt := tgtFst) ?_ h4_0 rfl
            refine ResKeeps.step ?_ State.issue_keeps rfl
            exact Keeps.refl _ _
          · refine Keeps.ofRes (tgt := tgtFst) ?_ h8_0 rfl
            refine ResKeeps.step ?_ State.issue_keeps rfl
            refine Keeps.ofRes (tgt := tgtFst) ?_ h4_0 rfl
            refine ResKeeps.step ?_ State.issue_keeps rfl
            exact Keeps.refl _ _
      · refine Keeps.ofRes (tgt := tgtFst) ?_ h4_0 rfl
        refine ResKeeps.step ?_ State.issue_keeps rfl
        exact Keeps.refl _ _

theorem State.applyAction_keeps {s : Sys2Proof.Machine.State} {c : Nat} {per : Nat} {start : Nat} {e :
    Sys2Proof.Machine.Edge} {judged : Bool} : Keeps 9903520314283042199192993810 s
    (State.applyAction s c per start e judged) := by
  unfold State.applyAction
  refine Keeps.step ?_ State.modCh_keeps rfl
  refine Keeps.ite ?_ ?_
  · refine Keeps.step ?_ State.issueStrobes_keeps rfl
    refine Keeps.foldl _ _ ?_ ?_
    · exact Keeps.refl _ _
    · intro y_ a_ h_
      refine Keeps.ofRes (tgt := tgtFst) ?_ rfl rfl
      refine ResKeeps.step ?_ State.issue_keeps rfl
      with_reducible assumption
  · refine Keeps.foldl _ _ ?_ ?_
    · exact Keeps.refl _ _
    · intro y_ a_ h_
      refine Keeps.ofRes (tgt := tgtFst) ?_ rfl rfl
      refine ResKeeps.step ?_ State.issue_keeps rfl
      with_reducible assumption

theorem State.applyVector_keeps {s : Sys2Proof.Machine.State} {n : Nat} {ts : Nat} {seg : Nat} {code : Nat →
    Nat} {judged : Bool} : Keeps 9903520314283042199192994066 s (State.applyVector s n ts seg code judged) := by
  unfold State.applyVector
  refine Keeps.step ?_ State.modSq_keeps rfl
  refine Keeps.foldl _ _ ?_ ?_
  · exact Keeps.refl _ _
  · intro y_ a_ h_
    split
    · refine Keeps.step ?_ State.applyAction_keeps rfl
      with_reducible assumption

theorem State.addResult_keeps {s : Sys2Proof.Machine.State} {r : Sys2Proof.Machine.CmpResult} : Keeps
    37778931862957161782546 s (State.addResult s r) := by
  unfold State.addResult
  refine Keeps.ite ?_ ?_
  · refine Keeps.step ?_ State.spanTell_keeps rfl
    refine Keeps.mkUpd ?_ ⟨Or.inr rfl, rfl, Or.inr rfl, Or.inr rfl, Or.inr rfl, Or.inr rfl, Or.inr rfl, Or.inr
        rfl, Or.inr rfl, Or.inr rfl, Or.inl rfl, Or.inr rfl, Or.inr rfl, Or.inr rfl, Or.inr rfl, Or.inr rfl, Or.inr
        rfl, Or.inr rfl, Or.inr rfl, Or.inr rfl, Or.inr rfl, Or.inr rfl, Or.inr rfl, Or.inr rfl, Or.inr rfl, Or.inr
        rfl, Or.inr rfl, Or.inr rfl, Or.inr rfl, Or.inr rfl, Or.inr rfl, Or.inr rfl, Or.inr rfl, Or.inr rfl, Or.inr
        rfl, Or.inr rfl, Or.inr rfl, Or.inr rfl, Or.inr rfl, Or.inr rfl, Or.inr rfl, Or.inr rfl, Or.inr rfl, Or.inr
        rfl, Or.inr rfl, Or.inr rfl, Nat.le_refl _, trivial, fun w => w, fun w => w, fun w => w, fun w => w, fun w
        => w, fun w => w, fun w => w, fun w => w, fun w => w, fun w => w, fun w => w, fun w => w, fun w => w⟩
    refine Keeps.step ?_ State.modCh_keeps rfl
    refine Keeps.step ?_ State.modSq_keeps rfl
    exact Keeps.refl _ _
  · refine Keeps.mkUpd ?_ ⟨Or.inr rfl, rfl, Or.inr rfl, Or.inr rfl, Or.inr rfl, Or.inr rfl, Or.inr rfl, Or.inr
      rfl, Or.inr rfl, Or.inr rfl, Or.inl rfl, Or.inr rfl, Or.inr rfl, Or.inr rfl, Or.inr rfl, Or.inr rfl, Or.inr
      rfl, Or.inr rfl, Or.inr rfl, Or.inr rfl, Or.inr rfl, Or.inr rfl, Or.inr rfl, Or.inr rfl, Or.inr rfl, Or.inr
      rfl, Or.inr rfl, Or.inr rfl, Or.inr rfl, Or.inr rfl, Or.inr rfl, Or.inr rfl, Or.inr rfl, Or.inr rfl, Or.inr
      rfl, Or.inr rfl, Or.inr rfl, Or.inr rfl, Or.inr rfl, Or.inr rfl, Or.inr rfl, Or.inr rfl, Or.inr rfl, Or.inr
      rfl, Or.inr rfl, Or.inr rfl, Nat.le_refl _, trivial, fun w => w, fun w => w, fun w => w, fun w => w, fun w =>
      w, fun w => w, fun w => w, fun w => w, fun w => w, fun w => w, fun w => w, fun w => w, fun w => w⟩
    refine Keeps.step ?_ State.modCh_keeps rfl
    refine Keeps.step ?_ State.modSq_keeps rfl
    exact Keeps.refl _ _

theorem State.strobeActs_keeps {s : Sys2Proof.Machine.State} {c : Nat} {e : Sys2Proof.Machine.Edge} {seen : List
    (Bool × Bool)} : Keeps 37778931862957161782546 s (State.strobeActs s c e seen) := by
  unfold State.strobeActs
  try extract_lets
  split
  · refine Keeps.step ?_ State.addResult_keeps rfl
    exact Keeps.refl _ _

theorem State.edgeActs_keeps {s : Sys2Proof.Machine.State} {c : Nat} {e : Sys2Proof.Machine.Edge} {seen : List
    (Bool × Bool)} : Keeps 37778931862957161782547 s (State.edgeActs s c e seen) := by
  unfold State.edgeActs
  refine Keeps.ite ?_ ?_
  · refine Keeps.step ?_ State.idleChannel_keeps rfl
    refine Keeps.ite ?_ ?_
    · refine Keeps.ite ?_ ?_
      · refine Keeps.step ?_ State.modCh_keeps rfl
        refine Keeps.step ?_ State.advanceTo_keeps rfl
        exact Keeps.refl _ _
      · refine Keeps.step ?_ State.strobeActs_keeps rfl
        refine Keeps.step ?_ State.modCh_keeps rfl
        refine Keeps.step ?_ State.advanceTo_keeps rfl
        exact Keeps.refl _ _
    · refine Keeps.ite ?_ ?_
      · refine Keeps.step ?_ State.modCh_keeps rfl
        refine Keeps.step ?_ State.advanceTo_keeps rfl
        exact Keeps.refl _ _
      · refine Keeps.step ?_ State.modCh_keeps rfl
        refine Keeps.step ?_ State.modCh_keeps rfl
        refine Keeps.step ?_ State.advanceTo_keeps rfl
        exact Keeps.refl _ _
  · refine Keeps.ite ?_ ?_
    · refine Keeps.ite ?_ ?_
      · refine Keeps.step ?_ State.modCh_keeps rfl
        refine Keeps.step ?_ State.advanceTo_keeps rfl
        exact Keeps.refl _ _
      · refine Keeps.step ?_ State.strobeActs_keeps rfl
        refine Keeps.step ?_ State.modCh_keeps rfl
        refine Keeps.step ?_ State.advanceTo_keeps rfl
        exact Keeps.refl _ _
    · refine Keeps.ite ?_ ?_
      · refine Keeps.step ?_ State.modCh_keeps rfl
        refine Keeps.step ?_ State.advanceTo_keeps rfl
        exact Keeps.refl _ _
      · refine Keeps.step ?_ State.modCh_keeps rfl
        refine Keeps.step ?_ State.modCh_keeps rfl
        refine Keeps.step ?_ State.advanceTo_keeps rfl
        exact Keeps.refl _ _

theorem execEdgeEvent_keeps {ch : Fin 320} {seen : List (Bool × Bool)} {s : Sys2Proof.Machine.State} : ResKeeps
    tgtNext 37778931862957161782547 s (execEdgeEvent ch seen s) := by
  unfold execEdgeEvent
  split
  · refine ResKeeps.some rfl ?_
    refine Keeps.step ?_ State.edgeActs_keeps rfl
    exact Keeps.refl _ _
  · refine ResKeeps.some rfl ?_
    exact Keeps.refl _ _

end Sys2Proof.Machine
end

