-- ==== Sys2Proof/Laws/FrameProgram.lean ====
section
/-! SUPPORT. What each function of Machine/Program.lean may change: one mask of `Keeps` for each. -/

namespace Sys2Proof.Machine

open Reg

theorem State.granError_keeps {s : Sys2Proof.Machine.State} {w : Nat} : Keeps 618970019642690139597045762 s
    (State.granError s w) := by
  unfold State.granError
  refine Keeps.step ?_ State.pagePairs_keeps rfl
  refine Keeps.step ?_ State.wr_keeps (kb_k 618970019642690137449562112 rfl rfl)
  refine Keeps.step ?_ State.wr_keeps (kb_k 618970019642690137449562112 rfl rfl)
  exact Keeps.refl _ _

theorem State.granCorrect_keeps {s : Sys2Proof.Machine.State} {qs : List Nat} : Keeps
    619007798574553094611337218 s (State.granCorrect s qs) := by
  unfold State.granCorrect
  refine Keeps.foldl _ _ ?_ ?_
  · exact Keeps.refl _ _
  · intro y_ a_ h_
    refine Keeps.step ?_ State.count_keeps rfl
    refine Keeps.step ?_ State.satAdd_keeps (kb_k 618970019642690137449562112 rfl rfl)
    with_reducible assumption

theorem State.touch_keeps {s : Sys2Proof.Machine.State} {n : Nat} {w : Nat} : Keeps 619007798574553094611337474
    s (State.touch s n w) := by
  unfold State.touch
  refine Keeps.step ?_ State.granCorrect_keeps rfl
  refine Keeps.step ?_ State.count_keeps rfl
  refine Keeps.step ?_ State.modSq_keeps rfl
  exact Keeps.refl _ _

theorem State.passCycle_keeps {s : Sys2Proof.Machine.State} : Keeps 146028888065 s (State.passCycle s) := by
  unfold State.passCycle
  try extract_lets
  split
  · refine Keeps.ite ?_ ?_
    · refine Keeps.mkUpd ?_ ⟨Or.inr rfl, rfl, Or.inr rfl, Or.inr rfl, Or.inr rfl, Or.inr rfl, Or.inr rfl, Or.inr
        rfl, Or.inr rfl, Or.inr rfl, Or.inr rfl, Or.inr rfl, Or.inr rfl, Or.inr rfl, Or.inr rfl, Or.inr rfl, Or.inr
        rfl, Or.inr rfl, Or.inr rfl, Or.inr rfl, Or.inr rfl, Or.inr rfl, Or.inr rfl, Or.inr rfl, Or.inr rfl, Or.inr
        rfl, Or.inr rfl, Or.inr rfl, Or.inr rfl, Or.inr rfl, Or.inr rfl, Or.inr rfl, Or.inr rfl, Or.inr rfl, Or.inr
        rfl, Or.inr rfl, Or.inl rfl, Or.inr rfl, Or.inr rfl, Or.inr rfl, Or.inr rfl, Or.inr rfl, Or.inr rfl, Or.inr
        rfl, Or.inr rfl, Or.inr rfl, Nat.le_refl _, trivial, fun w => w, fun w => w,
        (by intro w_; repeat' first | with_reducible assumption | with_reducible refine tabWf_memPutBytes _ _ _ ?_ | with_reducible refine tabWf_memPutNat _ _ _ _ ?_ | with_reducible refine tabWf_memPut _ _ _ ?_ | with_reducible refine tabWf_tabPut _ _ _ _ ?_ | with_reducible refine tabWf_tabErase _ _ _ ?_ | with_reducible refine tabWf_filter _ _ _ ?_ | with_reducible refine tabWf_foldl _ _ _ ?_ ?_ | (intro m_ a_ h_) | exact rfl | split),
        fun w => w, fun w => w, fun w => w, fun w => w, fun w => w, fun w => w, fun w => w, fun w => w, fun w => w,
        fun w => w⟩
      refine Keeps.mkUpd ?_ ⟨Or.inr rfl, rfl, Or.inr rfl, Or.inr rfl, Or.inr rfl, Or.inr rfl, Or.inr rfl, Or.inr
          rfl, Or.inr rfl, Or.inr rfl, Or.inr rfl, Or.inr rfl, Or.inr rfl, Or.inr rfl, Or.inr rfl, Or.inr rfl,
          Or.inr rfl, Or.inr rfl, Or.inr rfl, Or.inr rfl, Or.inr rfl, Or.inr rfl, Or.inr rfl, Or.inr rfl, Or.inr
          rfl, Or.inr rfl, Or.inr rfl, Or.inr rfl, Or.inr rfl, Or.inr rfl, Or.inr rfl, Or.inr rfl, Or.inr rfl,
          Or.inl rfl, Or.inr rfl, Or.inr rfl, Or.inr rfl, Or.inr rfl, Or.inr rfl, Or.inr rfl, Or.inr rfl, Or.inr
          rfl, Or.inr rfl, Or.inr rfl, Or.inr rfl, Or.inr rfl, Nat.le_refl _, trivial, fun w => w, fun w => w, fun w
          => w, fun w => w, fun w => w, fun w => w, fun w => w, fun w => w, fun w => w, fun w => w, fun w => w, fun
          w => w, fun w => w⟩
      refine Keeps.step ?_ State.advanceTo_keeps rfl
      exact Keeps.refl _ _
    · refine Keeps.mkUpd ?_ ⟨Or.inr rfl, rfl, Or.inr rfl, Or.inr rfl, Or.inr rfl, Or.inr rfl, Or.inr rfl, Or.inr
        rfl, Or.inr rfl, Or.inr rfl, Or.inr rfl, Or.inr rfl, Or.inr rfl, Or.inr rfl, Or.inr rfl, Or.inr rfl, Or.inr
        rfl, Or.inr rfl, Or.inr rfl, Or.inr rfl, Or.inr rfl, Or.inr rfl, Or.inr rfl, Or.inr rfl, Or.inr rfl, Or.inr
        rfl, Or.inr rfl, Or.inr rfl, Or.inr rfl, Or.inr rfl, Or.inr rfl, Or.inr rfl, Or.inr rfl, Or.inl rfl, Or.inr
        rfl, Or.inr rfl, Or.inr rfl, Or.inr rfl, Or.inr rfl, Or.inr rfl, Or.inr rfl, Or.inr rfl, Or.inr rfl, Or.inr
        rfl, Or.inr rfl, Or.inr rfl, Nat.le_refl _, trivial, fun w => w, fun w => w, fun w => w, fun w => w, fun w
        => w, fun w => w, fun w => w, fun w => w, fun w => w, fun w => w, fun w => w, fun w => w, fun w => w⟩
      refine Keeps.step ?_ State.advanceTo_keeps rfl
      exact Keeps.refl _ _
  · refine Keeps.mkUpd ?_ ⟨Or.inr rfl, rfl, Or.inr rfl, Or.inr rfl, Or.inr rfl, Or.inr rfl, Or.inr rfl, Or.inr
      rfl, Or.inr rfl, Or.inr rfl, Or.inr rfl, Or.inr rfl, Or.inr rfl, Or.inr rfl, Or.inr rfl, Or.inr rfl, Or.inr
      rfl, Or.inr rfl, Or.inr rfl, Or.inr rfl, Or.inr rfl, Or.inr rfl, Or.inr rfl, Or.inr rfl, Or.inr rfl, Or.inr
      rfl, Or.inr rfl, Or.inr rfl, Or.inr rfl, Or.inr rfl, Or.inr rfl, Or.inr rfl, Or.inr rfl, Or.inl rfl, Or.inr
      rfl, Or.inr rfl, Or.inr rfl, Or.inr rfl, Or.inr rfl, Or.inr rfl, Or.inr rfl, Or.inr rfl, Or.inr rfl, Or.inr
      rfl, Or.inr rfl, Or.inr rfl, Nat.le_refl _, trivial, fun w => w, fun w => w, fun w => w, fun w => w, fun w =>
      w, fun w => w, fun w => w, fun w => w, fun w => w, fun w => w, fun w => w, fun w => w, fun w => w⟩
    refine Keeps.step ?_ State.advanceTo_keeps rfl
    exact Keeps.refl _ _

theorem State.hopRelease_keeps {s : Sys2Proof.Machine.State} {n : Nat} : Keeps 1237940039285380274899124738 s
    (State.hopRelease s n) := by
  unfold State.hopRelease
  refine Keeps.ite ?_ ?_
  · refine Keeps.step ?_ State.wr_keeps (kb_k 1237940039285380274899124224 rfl rfl)
    refine Keeps.step ?_ State.modHop_keeps rfl
    refine Keeps.step ?_ State.wr_keeps (kb_k 1237940039285380274899124224 rfl rfl)
    exact Keeps.refl _ _
  · refine Keeps.step ?_ State.modHop_keeps rfl
    refine Keeps.step ?_ State.wr_keeps (kb_k 1237940039285380274899124224 rfl rfl)
    exact Keeps.refl _ _

theorem State.hopError_keeps {s : Sys2Proof.Machine.State} {n : Nat} {reason : Nat} {lane : Nat} {idx : Nat}
    {used : Bool} : Keeps 1237940039285380274899124226 s (State.hopError s n reason lane idx used) := by
  unfold State.hopError
  refine Keeps.step ?_ State.wr_keeps (kb_k 1237940039285380274899124224 rfl rfl)
  refine Keeps.step ?_ State.wr_keeps (kb_k 1237940039285380274899124224 rfl rfl)
  refine Keeps.step ?_ State.wr_keeps (kb_k 1237940039285380274899124224 rfl rfl)
  refine Keeps.step ?_ State.wr_keeps (kb_k 1237940039285380274899124224 rfl rfl)
  refine Keeps.step ?_ State.wr_keeps (kb_k 1237940039285380274899124224 rfl rfl)
  exact Keeps.refl _ _

theorem State.hopSeek_keeps {s : Sys2Proof.Machine.State} {n : Nat} {i : Nat} : Keeps
    1237940039285380274899124738 s (State.hopSeek s n i) := by
  unfold State.hopSeek
  refine Keeps.step ?_ State.modHop_keeps rfl
  refine Keeps.step ?_ State.wr_keeps (kb_k 1237940039285380274899124224 rfl rfl)
  exact Keeps.refl _ _

theorem State.hopReach_keeps {s : Sys2Proof.Machine.State} {n : Nat} {i : Nat} : ResKeeps tgtSum
    1237977818217243232060899842 s (State.hopReach s n i) := by
  unfold State.hopReach
  refine ResKeeps.ite ?_ ?_
  · refine ResKeeps.ite ?_ ?_
    · exact ResKeeps.none rfl
    · refine ResKeeps.ite ?_ ?_
      · refine ResKeeps.some rfl ?_
        exact Keeps.refl _ _
      · refine ResKeeps.some rfl ?_
        refine Keeps.step ?_ State.hopSeek_keeps rfl
        exact Keeps.refl _ _
  · refine ResKeeps.ite ?_ ?_
    · exact ResKeeps.none rfl
    · refine ResKeeps.ite ?_ ?_
      · refine ResKeeps.ite ?_ ?_
        · refine ResKeeps.some rfl ?_
          exact Keeps.refl _ _
        · refine ResKeeps.some rfl ?_
          refine Keeps.step ?_ State.hopSeek_keeps rfl
          refine Keeps.step ?_ State.count_keeps rfl
          refine Keeps.step ?_ State.wr_keeps (kb_k 1237940039285380274899124224 rfl rfl)
          refine Keeps.step ?_ State.hopDiscard_keeps rfl
          exact Keeps.refl _ _
      · refine ResKeeps.some rfl ?_
        refine Keeps.step ?_ State.hopSeek_keeps rfl
        exact Keeps.refl _ _

theorem State.endNext_keeps {s : Sys2Proof.Machine.State} {n : Nat} {cause : Nat} {code : Nat} : Keeps
    1547557422942198283903802259 s (State.endNext s n cause code) := by
  unfold State.endNext
  refine Keeps.step ?_ State.endBurst_keeps rfl
  refine Keeps.step ?_ State.advanceTo_keeps rfl
  exact Keeps.refl _ _

theorem State.noteFs_keeps {s : Sys2Proof.Machine.State} {n : Nat} {op : Nat} : Keeps
    309485009821345068724781058 s (State.noteFs s n op) := by
  unfold State.noteFs
  refine Keeps.ite ?_ ?_
  · exact Keeps.refl _ _
  · refine Keeps.step ?_ State.wr_keeps (kb_k 309485009821345068724781056 rfl rfl)
    exact Keeps.refl _ _

theorem State.hopEndSeg_keeps {s : Sys2Proof.Machine.State} {n : Nat} : Keeps 1237940039285380274899124738 s
    (State.hopEndSeg s n) := by
  unfold State.hopEndSeg
  split
  · refine Keeps.ite ?_ ?_
    · refine Keeps.step ?_ State.hopRelease_keeps rfl
      exact Keeps.refl _ _
    · exact Keeps.refl _ _
  · exact Keeps.refl _ _

theorem State.takeJump_keeps {s : Sys2Proof.Machine.State} {n : Nat} {target : Nat} : Keeps
    1237977818217243232060900098 s (State.takeJump s n target) := by
  unfold State.takeJump
  refine Keeps.step ?_ State.count_keeps rfl
  refine Keeps.step ?_ State.wr_keeps (kb_k 1237940039285380274899124224 rfl rfl)
  refine Keeps.step ?_ State.hopDiscard_keeps rfl
  refine Keeps.step ?_ State.modSq_keeps rfl
  refine Keeps.step ?_ State.hopEndSeg_keeps rfl
  refine Keeps.step ?_ State.count_keeps rfl
  refine Keeps.step ?_ State.count_keeps rfl
  exact Keeps.refl _ _

theorem State.decoded_keeps {s : Sys2Proof.Machine.State} {n : Nat} {counted : Bool} : Keeps
    928492808395898163336118530 s (State.decoded s n counted) := by
  unfold State.decoded
  refine Keeps.ite ?_ ?_
  · refine Keeps.step ?_ State.count_keeps rfl
    refine Keeps.step ?_ State.modSq_keeps rfl
    refine Keeps.step ?_ State.touch_keeps rfl
    refine Keeps.step ?_ State.wr_keeps (kb_k 309485009821345068724781056 rfl rfl)
    exact Keeps.refl _ _
  · refine Keeps.step ?_ State.modSq_keeps rfl
    refine Keeps.step ?_ State.touch_keeps rfl
    refine Keeps.step ?_ State.wr_keeps (kb_k 309485009821345068724781056 rfl rfl)
    exact Keeps.refl _ _

theorem State.word_keeps {m : Nat} {s x : State} {n op : Nat} {act : State → Nat → State} (h : Keeps m s x)
    (hm : 2166527442584888421353364371 ||| m = m) (ha : ∀ y w, Keeps m s y → Keeps m s (act y w)) : Keeps m s
        (State.word x n op act) := by
  unfold State.word
  split
  · exact h
  · have hd := h.step (State.decoded_keeps (n := n) (counted := true)) (or_trans rfl hm)
    exact Keeps.ite (hd.step State.endNext_keeps (or_trans rfl hm)) (ha _ _ hd)

theorem State.ctl_keeps {s : State} {n : Nat} {c : Ctl} : Keeps 1547557422942198283903802259 s (State.ctl s n c) := by
  cases c with
  | go o => exact Keeps.step (Keeps.refl _ _) State.modSq_keeps rfl
  | stop r => exact Keeps.step (Keeps.refl _ _) State.endNext_keeps rfl

theorem State.nextPc_keeps {s : Sys2Proof.Machine.State} {n : Nat} {f : Sys2Proof.Machine.SqOp →
    Sys2Proof.Machine.SqOp} : Keeps 256 s (State.nextPc s n f) := by
  unfold State.nextPc
  refine Keeps.step ?_ State.modSq_keeps rfl
  exact Keeps.refl _ _

theorem State.condWord_keeps {s : Sys2Proof.Machine.State} {n : Nat} {op : Nat} {w : Nat} : Keeps
    1547557422942198283903802259 s (State.condWord s n op w) := by
  unfold State.condWord
  refine Keeps.ite ?_ ?_
  · refine Keeps.step ?_ State.nextPc_keeps rfl
    exact Keeps.refl _ _
  · split
    · refine Keeps.step ?_ State.endNext_keeps rfl
      exact Keeps.refl _ _
    · refine Keeps.step ?_ State.takeJump_keeps rfl
      refine Keeps.step ?_ State.noteFs_keeps rfl
      exact Keeps.refl _ _
    · refine Keeps.step ?_ State.nextPc_keeps rfl
      refine Keeps.step ?_ State.noteFs_keeps rfl
      exact Keeps.refl _ _

theorem State.segWord_keeps {s : Sys2Proof.Machine.State} {n : Nat} {w : Nat} : Keeps
    2166527442584888421353364371 s (State.segWord s n w) := by
  unfold State.segWord
  refine Keeps.ite ?_ ?_
  · refine Keeps.step ?_ State.endNext_keeps rfl
    refine Keeps.step ?_ State.decoded_keeps rfl
    exact Keeps.refl _ _
  · refine Keeps.ite ?_ ?_
    · refine Keeps.step ?_ State.endNext_keeps rfl
      refine Keeps.step ?_ State.decoded_keeps rfl
      exact Keeps.refl _ _
    · refine Keeps.ite ?_ ?_
      · split
        · rename_i h8_0
          refine Keeps.ofRes (tgt := tgtSum) ?_ h8_0 rfl
          refine ResKeeps.step ?_ State.hopReach_keeps rfl
          refine Keeps.step ?_ State.modSq_keeps rfl
          refine Keeps.step ?_ State.decoded_keeps rfl
          exact Keeps.refl _ _
        · refine Keeps.step ?_ State.endNext_keeps rfl
          refine Keeps.step ?_ State.hopError_keeps rfl
          refine Keeps.step ?_ State.modSq_keeps rfl
          refine Keeps.step ?_ State.decoded_keeps rfl
          exact Keeps.refl _ _
      · refine Keeps.step ?_ State.modSq_keeps rfl
        refine Keeps.step ?_ State.decoded_keeps rfl
        exact Keeps.refl _ _

theorem execSegWord_keeps {n : Fin 32} {s : Sys2Proof.Machine.State} : ResKeeps tgtNext
    2166527442584888421353364371 s (execSegWord n s) := by
  unfold execSegWord
  refine ResKeeps.some rfl ?_
  split
  · refine Keeps.step ?_ State.segWord_keeps rfl
    exact Keeps.refl _ _
  · exact Keeps.refl _ _

theorem execLoopWord_keeps {n : Fin 32} {s : Sys2Proof.Machine.State} : ResKeeps tgtNext
    2166527442584888421353364371 s (execLoopWord n s) := by
  unfold execLoopWord
  refine ResKeeps.some rfl ?_
  refine State.word_keeps ?_ rfl ?_
  · exact Keeps.refl _ _
  · intro y0_ y1_ h_
    refine Keeps.step ?_ State.ctl_keeps rfl
    with_reducible assumption

theorem State.endlWord_keeps {s : Sys2Proof.Machine.State} {n : Nat} : Keeps 2166527442584888421353364371 s
    (State.endlWord s n) := by
  unfold State.endlWord
  refine Keeps.ite ?_ ?_
  · refine Keeps.step ?_ State.endNext_keeps rfl
    refine Keeps.step ?_ State.decoded_keeps rfl
    exact Keeps.refl _ _
  · refine Keeps.step ?_ State.ctl_keeps rfl
    refine Keeps.step ?_ State.decoded_keeps rfl
    exact Keeps.refl _ _

theorem execEndlWord_keeps {n : Fin 32} {s : Sys2Proof.Machine.State} : ResKeeps tgtNext
    2166527442584888421353364371 s (execEndlWord n s) := by
  unfold execEndlWord
  refine ResKeeps.some rfl ?_
  split
  · refine Keeps.step ?_ State.endlWord_keeps rfl
    exact Keeps.refl _ _
  · exact Keeps.refl _ _

theorem execCallWord_keeps {n : Fin 32} {s : Sys2Proof.Machine.State} : ResKeeps tgtNext
    2166527442584888421353364371 s (execCallWord n s) := by
  unfold execCallWord
  refine ResKeeps.some rfl ?_
  refine State.word_keeps ?_ rfl ?_
  · exact Keeps.refl _ _
  · intro y0_ y1_ h_
    refine Keeps.step ?_ State.ctl_keeps rfl
    with_reducible assumption

theorem execRetWord_keeps {n : Fin 32} {s : Sys2Proof.Machine.State} : ResKeeps tgtNext
    2166527442584888421353364371 s (execRetWord n s) := by
  unfold execRetWord
  refine ResKeeps.some rfl ?_
  refine State.word_keeps ?_ rfl ?_
  · exact Keeps.refl _ _
  · intro y0_ y1_ h_
    refine Keeps.step ?_ State.ctl_keeps rfl
    with_reducible assumption

theorem execJmpWord_keeps {n : Fin 32} {s : Sys2Proof.Machine.State} : ResKeeps tgtNext
    2166527442584888421353364371 s (execJmpWord n s) := by
  unfold execJmpWord
  refine ResKeeps.some rfl ?_
  refine State.word_keeps ?_ rfl ?_
  · exact Keeps.refl _ _
  · intro y0_ y1_ h_
    refine Keeps.step ?_ State.modSq_keeps rfl
    with_reducible assumption

theorem execJfWord_keeps {n : Fin 32} {s : Sys2Proof.Machine.State} : ResKeeps tgtNext
    2166527442584888421353364371 s (execJfWord n s) := by
  unfold execJfWord
  refine ResKeeps.some rfl ?_
  refine State.word_keeps ?_ rfl ?_
  · exact Keeps.refl _ _
  · intro y0_ y1_ h_
    refine Keeps.step ?_ State.condWord_keeps rfl
    with_reducible assumption

theorem execJpWord_keeps {n : Fin 32} {s : Sys2Proof.Machine.State} : ResKeeps tgtNext
    2166527442584888421353364371 s (execJpWord n s) := by
  unfold execJpWord
  refine ResKeeps.some rfl ?_
  refine State.word_keeps ?_ rfl ?_
  · exact Keeps.refl _ _
  · intro y0_ y1_ h_
    refine Keeps.step ?_ State.condWord_keeps rfl
    with_reducible assumption

theorem execJflWord_keeps {n : Fin 32} {s : Sys2Proof.Machine.State} : ResKeeps tgtNext
    2166527442584888421353364371 s (execJflWord n s) := by
  unfold execJflWord
  refine ResKeeps.some rfl ?_
  refine State.word_keeps ?_ rfl ?_
  · exact Keeps.refl _ _
  · intro y0_ y1_ h_
    refine Keeps.step ?_ State.condWord_keeps rfl
    with_reducible assumption

theorem State.matchWord_keeps {s : Sys2Proof.Machine.State} {n : Nat} {w : Nat} : Keeps
    1547557422942198283903802259 s (State.matchWord s n w) := by
  unfold State.matchWord
  refine Keeps.ite ?_ ?_
  · refine Keeps.step ?_ State.endNext_keeps rfl
    exact Keeps.refl _ _
  · refine Keeps.step ?_ State.nextPc_keeps rfl
    exact Keeps.refl _ _

theorem execMatchWord_keeps {n : Fin 32} {s : Sys2Proof.Machine.State} : ResKeeps tgtNext
    2166527442584888421353364371 s (execMatchWord n s) := by
  unfold execMatchWord
  refine ResKeeps.some rfl ?_
  refine State.word_keeps ?_ rfl ?_
  · exact Keeps.refl _ _
  · intro y0_ y1_ h_
    refine Keeps.step ?_ State.matchWord_keeps rfl
    with_reducible assumption

theorem State.waittWord_keeps {s : Sys2Proof.Machine.State} {n : Nat} {w : Nat} : Keeps
    1547557422942198283903802259 s (State.waittWord s n w) := by
  unfold State.waittWord
  refine Keeps.ite ?_ ?_
  · refine Keeps.step ?_ State.endNext_keeps rfl
    exact Keeps.refl _ _
  · refine Keeps.ite ?_ ?_
    · refine Keeps.step ?_ State.endNext_keeps rfl
      exact Keeps.refl _ _
    · refine Keeps.ite ?_ ?_
      · refine Keeps.step ?_ State.wr_keeps (kb_k 309485009821345068724781056 rfl rfl)
        refine Keeps.step ?_ State.nextPc_keeps rfl
        exact Keeps.refl _ _
      · refine Keeps.step ?_ State.nextPc_keeps rfl
        exact Keeps.refl _ _

theorem execWaittWord_keeps {n : Fin 32} {s : Sys2Proof.Machine.State} : ResKeeps tgtNext
    2166527442584888421353364371 s (execWaittWord n s) := by
  unfold execWaittWord
  refine ResKeeps.some rfl ?_
  refine State.word_keeps ?_ rfl ?_
  · exact Keeps.refl _ _
  · intro y0_ y1_ h_
    refine Keeps.step ?_ State.waittWord_keeps rfl
    with_reducible assumption

theorem State.rdvWord_keeps {s : Sys2Proof.Machine.State} {n : Nat} {w : Nat} : Keeps
    1547557422942198283903802259 s (State.rdvWord s n w) := by
  unfold State.rdvWord
  refine Keeps.ite ?_ ?_
  · refine Keeps.step ?_ State.endNext_keeps rfl
    exact Keeps.refl _ _
  · refine Keeps.ite ?_ ?_
    · refine Keeps.step ?_ State.endNext_keeps rfl
      exact Keeps.refl _ _
    · refine Keeps.step ?_ State.nextPc_keeps rfl
      exact Keeps.refl _ _

theorem execRdvWord_keeps {n : Fin 32} {s : Sys2Proof.Machine.State} : ResKeeps tgtNext
    2166527442584888421353364371 s (execRdvWord n s) := by
  unfold execRdvWord
  refine ResKeeps.some rfl ?_
  refine State.word_keeps ?_ rfl ?_
  · exact Keeps.refl _ _
  · intro y0_ y1_ h_
    refine Keeps.step ?_ State.rdvWord_keeps rfl
    with_reducible assumption

theorem State.waitingWord_keeps {s : Sys2Proof.Machine.State} {n : Nat} {w : Nat} : Keeps 256 s
    (State.waitingWord s n w) := by
  unfold State.waitingWord
  refine Keeps.step ?_ State.nextPc_keeps rfl
  exact Keeps.refl _ _

theorem execMarkWord_keeps {n : Fin 32} {s : Sys2Proof.Machine.State} : ResKeeps tgtNext
    2166527442584888421353364371 s (execMarkWord n s) := by
  unfold execMarkWord
  refine ResKeeps.some rfl ?_
  refine State.word_keeps ?_ rfl ?_
  · exact Keeps.refl _ _
  · intro y0_ y1_ h_
    refine Keeps.step ?_ State.waitingWord_keeps rfl
    with_reducible assumption

theorem execFlagWord_keeps {n : Fin 32} {s : Sys2Proof.Machine.State} : ResKeeps tgtNext
    2166527442584888421353364371 s (execFlagWord n s) := by
  unfold execFlagWord
  refine ResKeeps.some rfl ?_
  refine State.word_keeps ?_ rfl ?_
  · exact Keeps.refl _ _
  · intro y0_ y1_ h_
    refine Keeps.ite ?_ ?_
    · refine Keeps.step ?_ State.endNext_keeps rfl
      with_reducible assumption
    · refine Keeps.step ?_ State.waitingWord_keeps rfl
      with_reducible assumption

theorem execTsetWord_keeps {n : Fin 32} {s : Sys2Proof.Machine.State} : ResKeeps tgtNext
    2166527442584888421353364371 s (execTsetWord n s) := by
  unfold execTsetWord
  refine ResKeeps.some rfl ?_
  refine State.word_keeps ?_ rfl ?_
  · exact Keeps.refl _ _
  · intro y0_ y1_ h_
    refine Keeps.ite ?_ ?_
    · refine Keeps.step ?_ State.endNext_keeps rfl
      with_reducible assumption
    · refine Keeps.step ?_ State.waitingWord_keeps rfl
      with_reducible assumption

theorem execStopWord_keeps {n : Fin 32} {s : Sys2Proof.Machine.State} : ResKeeps tgtNext
    2166527442584888421353364371 s (execStopWord n s) := by
  unfold execStopWord
  refine ResKeeps.some rfl ?_
  refine State.word_keeps ?_ rfl ?_
  · exact Keeps.refl _ _
  · intro y0_ y1_ h_
    refine Keeps.step ?_ State.endNext_keeps rfl
    with_reducible assumption

theorem State.illegalWord_keeps {s : Sys2Proof.Machine.State} {n : Nat} : Keeps 2166527442584888423500848019 s
    (State.illegalWord s n) := by
  unfold State.illegalWord
  refine Keeps.ite ?_ ?_
  · split
    · refine Keeps.step ?_ State.endNext_keeps rfl
      refine Keeps.step ?_ State.granError_keeps rfl
      refine Keeps.step ?_ State.decoded_keeps rfl
      exact Keeps.refl _ _
    · refine Keeps.ite ?_ ?_
      · refine Keeps.step ?_ State.endNext_keeps rfl
        refine Keeps.step ?_ State.decoded_keeps rfl
        exact Keeps.refl _ _
      · exact Keeps.refl _ _
    · exact Keeps.refl _ _
  · exact Keeps.refl _ _

theorem execIllegalOpcode_keeps {n : Fin 32} {s : Sys2Proof.Machine.State} : ResKeeps tgtNext
    2166527442584888423500848019 s (execIllegalOpcode n s) := by
  unfold execIllegalOpcode
  refine ResKeeps.some rfl ?_
  refine Keeps.step ?_ State.illegalWord_keeps rfl
  exact Keeps.refl _ _

end Sys2Proof.Machine
end

