-- ==== Sys2Proof/Laws/FrameGleaner.lean ====
section
/-! SUPPORT. What each function of Machine/Gleaner.lean may change: one mask of `Keeps` for each. -/

namespace Sys2Proof.Machine

open Reg

theorem State.glnClear_keeps {s : Sys2Proof.Machine.State} {n : Nat} : Keeps 65536 s (State.glnClear s n) := by
  unfold State.glnClear
  refine Keeps.mkUpd ?_ ⟨Or.inr rfl, rfl, Or.inr rfl, Or.inr rfl, Or.inr rfl, Or.inr rfl, Or.inr rfl, Or.inr
      rfl, Or.inr rfl, Or.inr rfl, Or.inr rfl, Or.inr rfl, Or.inr rfl, Or.inr rfl, Or.inr rfl, Or.inr rfl, Or.inl
      rfl, Or.inr rfl, Or.inr rfl, Or.inr rfl, Or.inr rfl, Or.inr rfl, Or.inr rfl, Or.inr rfl, Or.inr rfl, Or.inr
      rfl, Or.inr rfl, Or.inr rfl, Or.inr rfl, Or.inr rfl, Or.inr rfl, Or.inr rfl, Or.inr rfl, Or.inr rfl, Or.inr
      rfl, Or.inr rfl, Or.inr rfl, Or.inr rfl, Or.inr rfl, Or.inr rfl, Or.inr rfl, Or.inr rfl, Or.inr rfl, Or.inr
      rfl, Or.inr rfl, Or.inr rfl, Nat.le_refl _, trivial, fun w => w, fun w => w, fun w => w, fun w => w, fun w =>
      w, fun w => w, fun w => w, fun w => w, fun w => w, fun w => w, fun w => w, fun w => w, fun w => w⟩
  exact Keeps.refl _ _

theorem State.glnStart_keeps {s : Sys2Proof.Machine.State} {n : Nat} : Keeps 4951760157141521099596578818 s
    (State.glnStart s n) := by
  unfold State.glnStart
  refine Keeps.step ?_ State.modGln_keeps rfl
  refine Keeps.step ?_ State.wr_keeps (kb_k 4951760157141521099596496896 rfl rfl)
  refine Keeps.step ?_ State.wr_keeps (kb_k 4951760157141521099596496896 rfl rfl)
  refine Keeps.step ?_ State.wr_keeps (kb_k 4951760157141521099596496896 rfl rfl)
  refine Keeps.step ?_ State.wr_keeps (kb_k 4951760157141521099596496896 rfl rfl)
  refine Keeps.step ?_ State.wr_keeps (kb_k 4951760157141521099596496896 rfl rfl)
  refine Keeps.step ?_ State.wr_keeps (kb_k 4951760157141521099596496896 rfl rfl)
  refine Keeps.step ?_ State.wr_keeps (kb_k 4951760157141521099596496896 rfl rfl)
  refine Keeps.step ?_ State.wr_keeps (kb_k 4951760157141521099596496896 rfl rfl)
  refine Keeps.ite ?_ ?_
  · refine Keeps.step ?_ State.glnClear_keeps rfl
    exact Keeps.refl _ _
  · exact Keeps.refl _ _

theorem State.glnItem_keeps {s : Sys2Proof.Machine.State} {n : Nat} {typ : Nat} {token : Nat} {arg : Nat} {data
    : Nat} : Keeps 4951873493937109971081740290 s (State.glnItem s n typ token arg data) := by
  unfold State.glnItem
  refine Keeps.ite ?_ ?_
  · refine Keeps.step ?_ State.satAdd_keeps (kb_k 4951760157141521099596496896 rfl rfl)
    exact Keeps.refl _ _
  · split
    · rename_i h4_0
      refine Keeps.ofRes (tgt := tgtOffer) ?_ h4_0 rfl
      refine ResKeeps.step ?_ State.offer_keeps rfl
      exact Keeps.refl _ _
    · rename_i h4_1
      refine Keeps.step ?_ State.modGln_keeps rfl
      refine Keeps.ofRes (tgt := tgtOffer) ?_ h4_1 rfl
      refine ResKeeps.step ?_ State.offer_keeps rfl
      exact Keeps.refl _ _
    · exact Keeps.refl _ _

theorem State.stopLog_keeps {s : Sys2Proof.Machine.State} {n : Nat} {why : Nat} : Keeps
    4951873493937109971081740290 s (State.stopLog s n why) := by
  unfold State.stopLog
  refine Keeps.ite ?_ ?_
  · refine Keeps.step ?_ State.glnItem_keeps rfl
    refine Keeps.step ?_ State.modGln_keeps rfl
    exact Keeps.refl _ _
  · exact Keeps.refl _ _

theorem State.logVector_keeps {s : Sys2Proof.Machine.State} {n : Nat} {v : Nat} {typ : Nat} {rs : List
    Sys2Proof.Machine.CmpResult} : Keeps 4951760157141521099596513282 s (State.logVector s n v typ rs) := by
  unfold State.logVector
  refine Keeps.ite ?_ ?_
  · exact Keeps.refl _ _
  · refine Keeps.ite ?_ ?_
    · refine Keeps.step ?_ State.satAdd_keeps (kb_k 4951760157141521099596496896 rfl rfl)
      exact Keeps.refl _ _
    · refine Keeps.ite ?_ ?_
      · exact Keeps.refl _ _
      · refine Keeps.ite ?_ ?_
        · refine Keeps.mkUpd ?_ ⟨Or.inr rfl, rfl, Or.inr rfl, Or.inr rfl, Or.inr rfl, Or.inr rfl, Or.inr rfl,
            Or.inr rfl, Or.inr rfl, Or.inr rfl, Or.inr rfl, Or.inr rfl, Or.inr rfl, Or.inr rfl, Or.inl rfl, Or.inr
            rfl, Or.inr rfl, Or.inr rfl, Or.inr rfl, Or.inr rfl, Or.inr rfl, Or.inr rfl, Or.inr rfl, Or.inr rfl,
            Or.inr rfl, Or.inr rfl, Or.inr rfl, Or.inr rfl, Or.inr rfl, Or.inr rfl, Or.inr rfl, Or.inr rfl, Or.inr
            rfl, Or.inr rfl, Or.inr rfl, Or.inr rfl, Or.inr rfl, Or.inr rfl, Or.inr rfl, Or.inr rfl, Or.inr rfl,
            Or.inr rfl, Or.inr rfl, Or.inr rfl, Or.inr rfl, Or.inr rfl, Nat.le_refl _, trivial, fun w => w, fun w =>
            w, fun w => w, fun w => w, fun w => w, fun w => w, fun w => w, fun w => w, fun w => w, fun w => w, fun w
            => w, fun w => w, fun w => w⟩
          refine Keeps.step ?_ State.modGln_keeps rfl
          exact Keeps.refl _ _
        · refine Keeps.step ?_ State.modGln_keeps rfl
          refine Keeps.step ?_ State.wr_keeps (kb_k 4951760157141521099596496896 rfl rfl)
          refine Keeps.step ?_ State.wr_keeps (kb_k 4951760157141521099596496896 rfl rfl)
          refine Keeps.step ?_ State.satAdd_keeps (kb_k 4951760157141521099596496896 rfl rfl)
          refine Keeps.step ?_ State.satAdd_keeps (kb_k 4951760157141521099596496896 rfl rfl)
          exact Keeps.refl _ _

theorem State.endVector_keeps {s : Sys2Proof.Machine.State} {n : Nat} {v : Nat} {rs : List
    Sys2Proof.Machine.CmpResult} : Keeps 4951797936073384056758288386 s (State.endVector s n v rs) := by
  unfold State.endVector
  refine Keeps.ite ?_ ?_
  · refine Keeps.ite ?_ ?_
    · refine Keeps.step ?_ State.logVector_keeps rfl
      exact Keeps.refl _ _
    · exact Keeps.refl _ _
  · refine Keeps.ite ?_ ?_
    · refine Keeps.step ?_ State.logVector_keeps rfl
      refine Keeps.step ?_ State.count_keeps rfl
      refine Keeps.step ?_ State.count_keeps rfl
      exact Keeps.refl _ _
    · refine Keeps.step ?_ State.count_keeps rfl
      exact Keeps.refl _ _

theorem State.endVectors_keeps {s : State} {n : Nat} {l : List (Nat × List CmpResult)} : Keeps
    4951797936073384056758288386 s (State.endVectors s n l) := by
  induction l generalizing s with
  | nil => exact Keeps.refl _ _
  | cons v rest ih =>
    unfold State.endVectors
    refine Keeps.ite (Keeps.refl _ _) ?_
    refine Keeps.step ?_ ih rfl
    refine Keeps.step ?_ State.endVector_keeps rfl
    exact Keeps.step (Keeps.refl _ _) State.modGln_keeps rfl

theorem State.bitmapUpdate_keeps {s : Sys2Proof.Machine.State} {r : Sys2Proof.Machine.CmpResult} : Keeps
    4951760157141521099596513282 s (State.bitmapUpdate s r) := by
  unfold State.bitmapUpdate
  refine Keeps.ite ?_ ?_
  · exact Keeps.refl _ _
  · split
    · exact Keeps.refl _ _
    · try extract_lets
      split
      · refine Keeps.ite ?_ ?_
        · refine Keeps.step ?_ State.satAdd_keeps (kb_k 4951760157141521099596496896 rfl rfl)
          exact Keeps.refl _ _
        · refine Keeps.ite ?_ ?_
          · refine Keeps.step ?_ State.wr_keeps (kb_k 4951760157141521099596496896 rfl rfl)
            refine Keeps.step ?_ State.satAdd_keeps (kb_k 4951760157141521099596496896 rfl rfl)
            exact Keeps.refl _ _
          · refine Keeps.mkUpd ?_ ⟨Or.inr rfl, rfl, Or.inr rfl, Or.inr rfl, Or.inr rfl, Or.inr rfl, Or.inr rfl,
              Or.inr rfl, Or.inr rfl, Or.inr rfl, Or.inr rfl, Or.inr rfl, Or.inr rfl, Or.inr rfl, Or.inl rfl, Or.inr
              rfl, Or.inr rfl, Or.inr rfl, Or.inr rfl, Or.inr rfl, Or.inr rfl, Or.inr rfl, Or.inr rfl, Or.inr rfl,
              Or.inr rfl, Or.inr rfl, Or.inr rfl, Or.inr rfl, Or.inr rfl, Or.inr rfl, Or.inr rfl, Or.inr rfl, Or.inr
              rfl, Or.inr rfl, Or.inr rfl, Or.inr rfl, Or.inr rfl, Or.inr rfl, Or.inr rfl, Or.inr rfl, Or.inr rfl,
              Or.inr rfl, Or.inr rfl, Or.inr rfl, Or.inr rfl, Or.inr rfl, Nat.le_refl _, trivial, fun w => w, fun w
              => w, fun w => w, fun w => w, fun w => w, fun w => w, fun w => w, fun w => w, fun w => w, fun w => w,
              fun w => w, fun w => w, fun w => w⟩
            exact Keeps.refl _ _

theorem State.takeResult_keeps {s : Sys2Proof.Machine.State} {r : Sys2Proof.Machine.CmpResult} : Keeps
    4951797936073384056758288386 s (State.takeResult s r) := by
  unfold State.takeResult
  refine Keeps.step ?_ State.modGln_keeps rfl
  refine Keeps.ite ?_ ?_
  · refine Keeps.step ?_ State.bitmapUpdate_keeps rfl
    refine Keeps.step ?_ State.count_keeps rfl
    refine Keeps.ite ?_ ?_
    · refine Keeps.step ?_ State.count_keeps rfl
      exact Keeps.refl _ _
    · exact Keeps.refl _ _
  · refine Keeps.ite ?_ ?_
    · refine Keeps.step ?_ State.count_keeps rfl
      exact Keeps.refl _ _
    · exact Keeps.refl _ _

theorem State.resultArrives_keeps {s : Sys2Proof.Machine.State} {r : Sys2Proof.Machine.CmpResult} {rest : List
    Sys2Proof.Machine.CmpResult} : Keeps 4951797936073384056758289410 s (State.resultArrives s r rest) := by
  unfold State.resultArrives
  refine Keeps.ite ?_ ?_
  · refine Keeps.mkUpd ?_ ⟨Or.inr rfl, rfl, Or.inr rfl, Or.inr rfl, Or.inr rfl, Or.inr rfl, Or.inr rfl, Or.inr
      rfl, Or.inr rfl, Or.inr rfl, Or.inl rfl, Or.inr rfl, Or.inr rfl, Or.inr rfl, Or.inr rfl, Or.inr rfl, Or.inr
      rfl, Or.inr rfl, Or.inr rfl, Or.inr rfl, Or.inr rfl, Or.inr rfl, Or.inr rfl, Or.inr rfl, Or.inr rfl, Or.inr
      rfl, Or.inr rfl, Or.inr rfl, Or.inr rfl, Or.inr rfl, Or.inr rfl, Or.inr rfl, Or.inr rfl, Or.inr rfl, Or.inr
      rfl, Or.inr rfl, Or.inr rfl, Or.inr rfl, Or.inr rfl, Or.inr rfl, Or.inr rfl, Or.inr rfl, Or.inr rfl, Or.inr
      rfl, Or.inr rfl, Or.inr rfl, Nat.le_refl _, trivial, fun w => w, fun w => w, fun w => w, fun w => w, fun w =>
      w, fun w => w, fun w => w, fun w => w, fun w => w, fun w => w, fun w => w, fun w => w, fun w => w⟩
    exact Keeps.refl _ _
  · refine Keeps.step ?_ State.endVectors_keeps rfl
    refine Keeps.ite ?_ ?_
    · refine Keeps.step ?_ State.count_keeps rfl
      refine Keeps.mkUpd ?_ ⟨Or.inr rfl, rfl, Or.inr rfl, Or.inr rfl, Or.inr rfl, Or.inr rfl, Or.inr rfl, Or.inr
          rfl, Or.inr rfl, Or.inr rfl, Or.inl rfl, Or.inr rfl, Or.inr rfl, Or.inr rfl, Or.inr rfl, Or.inr rfl,
          Or.inr rfl, Or.inr rfl, Or.inr rfl, Or.inr rfl, Or.inr rfl, Or.inr rfl, Or.inr rfl, Or.inr rfl, Or.inr
          rfl, Or.inr rfl, Or.inr rfl, Or.inr rfl, Or.inr rfl, Or.inr rfl, Or.inr rfl, Or.inr rfl, Or.inr rfl,
          Or.inr rfl, Or.inr rfl, Or.inr rfl, Or.inr rfl, Or.inr rfl, Or.inr rfl, Or.inr rfl, Or.inr rfl, Or.inr
          rfl, Or.inr rfl, Or.inr rfl, Or.inr rfl, Or.inr rfl, Nat.le_refl _, trivial, fun w => w, fun w => w, fun w
          => w, fun w => w, fun w => w, fun w => w, fun w => w, fun w => w, fun w => w, fun w => w, fun w => w, fun
          w => w, fun w => w⟩
      exact Keeps.refl _ _
    · refine Keeps.step ?_ State.takeResult_keeps rfl
      refine Keeps.step ?_ State.count_keeps rfl
      refine Keeps.mkUpd ?_ ⟨Or.inr rfl, rfl, Or.inr rfl, Or.inr rfl, Or.inr rfl, Or.inr rfl, Or.inr rfl, Or.inr
          rfl, Or.inr rfl, Or.inr rfl, Or.inl rfl, Or.inr rfl, Or.inr rfl, Or.inr rfl, Or.inr rfl, Or.inr rfl,
          Or.inr rfl, Or.inr rfl, Or.inr rfl, Or.inr rfl, Or.inr rfl, Or.inr rfl, Or.inr rfl, Or.inr rfl, Or.inr
          rfl, Or.inr rfl, Or.inr rfl, Or.inr rfl, Or.inr rfl, Or.inr rfl, Or.inr rfl, Or.inr rfl, Or.inr rfl,
          Or.inr rfl, Or.inr rfl, Or.inr rfl, Or.inr rfl, Or.inr rfl, Or.inr rfl, Or.inr rfl, Or.inr rfl, Or.inr
          rfl, Or.inr rfl, Or.inr rfl, Or.inr rfl, Or.inr rfl, Nat.le_refl _, trivial, fun w => w, fun w => w, fun w
          => w, fun w => w, fun w => w, fun w => w, fun w => w, fun w => w, fun w => w, fun w => w, fun w => w, fun
          w => w, fun w => w⟩
      exact Keeps.refl _ _

theorem execCompareResultArrival_keeps {s : Sys2Proof.Machine.State} : ResKeeps tgtNext
    4951797936073384056758289410 s (execCompareResultArrival s) := by
  unfold execCompareResultArrival
  split
  · refine ResKeeps.some rfl ?_
    refine Keeps.step ?_ State.resultArrives_keeps rfl
    exact Keeps.refl _ _
  · refine ResKeeps.some rfl ?_
    exact Keeps.refl _ _

theorem execUnderrunMark_keeps {s : Sys2Proof.Machine.State} : ResKeeps tgtNext 16384 s (execUnderrunMark s) := by
  unfold execUnderrunMark
  split
  · refine ResKeeps.some rfl ?_
    refine Keeps.step ?_ State.glnMark_keeps rfl
    refine Keeps.mkUpd ?_ ⟨Or.inr rfl, rfl, Or.inr rfl, Or.inr rfl, Or.inr rfl, Or.inr rfl, Or.inr rfl, Or.inr
        rfl, Or.inr rfl, Or.inr rfl, Or.inr rfl, Or.inr rfl, Or.inr rfl, Or.inr rfl, Or.inl rfl, Or.inr rfl, Or.inr
        rfl, Or.inr rfl, Or.inr rfl, Or.inr rfl, Or.inr rfl, Or.inr rfl, Or.inr rfl, Or.inr rfl, Or.inr rfl, Or.inr
        rfl, Or.inr rfl, Or.inr rfl, Or.inr rfl, Or.inr rfl, Or.inr rfl, Or.inr rfl, Or.inr rfl, Or.inr rfl, Or.inr
        rfl, Or.inr rfl, Or.inr rfl, Or.inr rfl, Or.inr rfl, Or.inr rfl, Or.inr rfl, Or.inr rfl, Or.inr rfl, Or.inr
        rfl, Or.inr rfl, Or.inr rfl, Nat.le_refl _, trivial, fun w => w, fun w => w, fun w => w, fun w => w, fun w
        => w, fun w => w, fun w => w, fun w => w, fun w => w, fun w => w, fun w => w, fun w => w, fun w => w⟩
    exact Keeps.refl _ _
  · refine ResKeeps.some rfl ?_
    exact Keeps.refl _ _

theorem State.exportGln_keeps {s : Sys2Proof.Machine.State} {p : Nat} {n : Nat} {bytes : List Sys2Proof.Byte} :
    Keeps 56668397794436279500802 s (State.exportGln s p n bytes) := by
  unfold State.exportGln
  refine Keeps.ite ?_ ?_
  · refine Keeps.step ?_ State.exportPort_keeps rfl
    exact Keeps.refl _ _
  · exact Keeps.refl _ _

theorem State.putRecord_keeps {s : Sys2Proof.Machine.State} {n : Nat} {pos : Nat} {bytes : List Sys2Proof.Byte}
    : Keeps 4951816825539316085631827970 s (State.putRecord s n pos bytes) := by
  unfold State.putRecord
  refine Keeps.step ?_ State.exportGln_keeps rfl
  refine Keeps.step ?_ State.exportGln_keeps rfl
  refine Keeps.ite ?_ ?_
  · refine Keeps.mkUpd ?_ ⟨Or.inr rfl, rfl, Or.inr rfl, Or.inr rfl, Or.inr rfl, Or.inr rfl, Or.inr rfl, Or.inr
      rfl, Or.inr rfl, Or.inr rfl, Or.inr rfl, Or.inr rfl, Or.inr rfl, Or.inr rfl, Or.inl rfl, Or.inr rfl, Or.inr
      rfl, Or.inr rfl, Or.inr rfl, Or.inr rfl, Or.inr rfl, Or.inr rfl, Or.inr rfl, Or.inr rfl, Or.inr rfl, Or.inr
      rfl, Or.inr rfl, Or.inr rfl, Or.inr rfl, Or.inr rfl, Or.inr rfl, Or.inr rfl, Or.inr rfl, Or.inr rfl, Or.inr
      rfl, Or.inr rfl, Or.inr rfl, Or.inr rfl, Or.inr rfl, Or.inr rfl, Or.inr rfl, Or.inr rfl, Or.inr rfl, Or.inr
      rfl, Or.inr rfl, Or.inr rfl, Nat.le_refl _, trivial, fun w => w, fun w => w, fun w => w, fun w => w, fun w =>
      w, fun w => w, fun w => w, fun w => w, fun w => w, fun w => w, fun w => w, fun w => w, fun w => w⟩
    refine Keeps.step ?_ State.count_keeps rfl
    refine Keeps.step ?_ State.satAdd_keeps (kb_k 4951760157141521099596496896 rfl rfl)
    refine Keeps.mkUpd ?_ ⟨Or.inr rfl, rfl, Or.inr rfl, Or.inr rfl, Or.inr rfl, Or.inr rfl, Or.inr rfl, Or.inr
        rfl, Or.inr rfl, Or.inr rfl, Or.inr rfl, Or.inr rfl, Or.inr rfl, Or.inr rfl, Or.inr rfl, Or.inr rfl, Or.inr
        rfl, Or.inr rfl, Or.inr rfl, Or.inr rfl, Or.inr rfl, Or.inr rfl, Or.inr rfl, Or.inr rfl, Or.inr rfl, Or.inr
        rfl, Or.inr rfl, Or.inr rfl, Or.inr rfl, Or.inr rfl, Or.inr rfl, Or.inr rfl, Or.inr rfl, Or.inr rfl, Or.inr
        rfl, Or.inr rfl, Or.inr rfl, Or.inr rfl, Or.inl rfl, Or.inr rfl, Or.inr rfl, Or.inr rfl, Or.inr rfl, Or.inr
        rfl, Or.inr rfl, Or.inr rfl, Nat.le_refl _, trivial, fun w => w, fun w => w, fun w => w, fun w => w,
        (by intro w_; repeat' first | with_reducible assumption | with_reducible refine tabWf_memPutBytes _ _ _ ?_ | with_reducible refine tabWf_memPutNat _ _ _ _ ?_ | with_reducible refine tabWf_memPut _ _ _ ?_ | with_reducible refine tabWf_tabPut _ _ _ _ ?_ | with_reducible refine tabWf_tabErase _ _ _ ?_ | with_reducible refine tabWf_filter _ _ _ ?_ | with_reducible refine tabWf_foldl _ _ _ ?_ ?_ | (intro m_ a_ h_) | exact rfl | split),
        fun w => w, fun w => w, fun w => w, fun w => w, fun w => w, fun w => w, fun w => w, fun w => w⟩
    exact Keeps.refl _ _
  · refine Keeps.step ?_ State.count_keeps rfl
    refine Keeps.step ?_ State.satAdd_keeps (kb_k 4951760157141521099596496896 rfl rfl)
    refine Keeps.mkUpd ?_ ⟨Or.inr rfl, rfl, Or.inr rfl, Or.inr rfl, Or.inr rfl, Or.inr rfl, Or.inr rfl, Or.inr
        rfl, Or.inr rfl, Or.inr rfl, Or.inr rfl, Or.inr rfl, Or.inr rfl, Or.inr rfl, Or.inr rfl, Or.inr rfl, Or.inr
        rfl, Or.inr rfl, Or.inr rfl, Or.inr rfl, Or.inr rfl, Or.inr rfl, Or.inr rfl, Or.inr rfl, Or.inr rfl, Or.inr
        rfl, Or.inr rfl, Or.inr rfl, Or.inr rfl, Or.inr rfl, Or.inr rfl, Or.inr rfl, Or.inr rfl, Or.inr rfl, Or.inr
        rfl, Or.inr rfl, Or.inr rfl, Or.inr rfl, Or.inl rfl, Or.inr rfl, Or.inr rfl, Or.inr rfl, Or.inr rfl, Or.inr
        rfl, Or.inr rfl, Or.inr rfl, Nat.le_refl _, trivial, fun w => w, fun w => w, fun w => w, fun w => w,
        (by intro w_; repeat' first | with_reducible assumption | with_reducible refine tabWf_memPutBytes _ _ _ ?_ | with_reducible refine tabWf_memPutNat _ _ _ _ ?_ | with_reducible refine tabWf_memPut _ _ _ ?_ | with_reducible refine tabWf_tabPut _ _ _ _ ?_ | with_reducible refine tabWf_tabErase _ _ _ ?_ | with_reducible refine tabWf_filter _ _ _ ?_ | with_reducible refine tabWf_foldl _ _ _ ?_ ?_ | (intro m_ a_ h_) | exact rfl | split),
        fun w => w, fun w => w, fun w => w, fun w => w, fun w => w, fun w => w, fun w => w, fun w => w⟩
    exact Keeps.refl _ _

theorem State.endItem_keeps {s : Sys2Proof.Machine.State} {n : Nat} {typ : Nat} : Keeps
    4951873493937109971081740290 s (State.endItem s n typ) := by
  unfold State.endItem
  refine Keeps.ite ?_ ?_
  · refine Keeps.step ?_ State.glnItem_keeps rfl
    exact Keeps.refl _ _
  · exact Keeps.refl _ _

theorem State.fullRecord_keeps {s : Sys2Proof.Machine.State} {r : Sys2Proof.Machine.GRec} : Keeps
    4951892383403041999955279874 s (State.fullRecord s r) := by
  unfold State.fullRecord
  refine Keeps.step ?_ State.stopLog_keeps rfl
  refine Keeps.step ?_ State.endItem_keeps rfl
  refine Keeps.ite ?_ ?_
  · refine Keeps.step ?_ State.satAdd_keeps (kb_k 4951760157141521099596496896 rfl rfl)
    refine Keeps.step ?_ State.modGln_keeps rfl
    refine Keeps.step ?_ State.wr_keeps (kb_k 4951760157141521099596496896 rfl rfl)
    refine Keeps.step ?_ State.putRecord_keeps rfl
    exact Keeps.refl _ _
  · refine Keeps.step ?_ State.modGln_keeps rfl
    refine Keeps.step ?_ State.wr_keeps (kb_k 4951760157141521099596496896 rfl rfl)
    refine Keeps.step ?_ State.putRecord_keeps rfl
    exact Keeps.refl _ _

theorem State.fitRecord_keeps {s : Sys2Proof.Machine.State} {r : Sys2Proof.Machine.GRec} : Keeps
    4951892383403041999955279874 s (State.fitRecord s r) := by
  unfold State.fitRecord
  refine Keeps.ite ?_ ?_
  · refine Keeps.ite ?_ ?_
    · refine Keeps.step ?_ State.stopLog_keeps rfl
      refine Keeps.step ?_ State.wr_keeps (kb_k 4951760157141521099596496896 rfl rfl)
      refine Keeps.ite ?_ ?_
      · refine Keeps.step ?_ State.glnItem_keeps rfl
        refine Keeps.step ?_ State.modGln_keeps rfl
        refine Keeps.step ?_ State.putRecord_keeps rfl
        exact Keeps.refl _ _
      · refine Keeps.step ?_ State.modGln_keeps rfl
        refine Keeps.step ?_ State.putRecord_keeps rfl
        exact Keeps.refl _ _
    · refine Keeps.ite ?_ ?_
      · refine Keeps.step ?_ State.glnItem_keeps rfl
        refine Keeps.step ?_ State.modGln_keeps rfl
        refine Keeps.step ?_ State.putRecord_keeps rfl
        exact Keeps.refl _ _
      · refine Keeps.step ?_ State.modGln_keeps rfl
        refine Keeps.step ?_ State.putRecord_keeps rfl
        exact Keeps.refl _ _
  · refine Keeps.ite ?_ ?_
    · refine Keeps.step ?_ State.endItem_keeps rfl
      refine Keeps.step ?_ State.modGln_keeps rfl
      refine Keeps.step ?_ State.putRecord_keeps rfl
      exact Keeps.refl _ _
    · refine Keeps.step ?_ State.modGln_keeps rfl
      refine Keeps.step ?_ State.putRecord_keeps rfl
      exact Keeps.refl _ _

theorem State.writeRecord_keeps {s : Sys2Proof.Machine.State} {r : Sys2Proof.Machine.GRec} : Keeps
    4951892383403041999955279874 s (State.writeRecord s r) := by
  unfold State.writeRecord
  refine Keeps.ite ?_ ?_
  · refine Keeps.step ?_ State.fitRecord_keeps rfl
    refine Keeps.step ?_ State.wr_keeps (kb_k 4951760157141521099596496896 rfl rfl)
    refine Keeps.mkUpd ?_ ⟨Or.inr rfl, rfl, Or.inr rfl, Or.inr rfl, Or.inr rfl, Or.inr rfl, Or.inr rfl, Or.inr
        rfl, Or.inr rfl, Or.inr rfl, Or.inr rfl, Or.inr rfl, Or.inr rfl, Or.inr rfl, Or.inl rfl, Or.inr rfl, Or.inr
        rfl, Or.inr rfl, Or.inr rfl, Or.inr rfl, Or.inr rfl, Or.inr rfl, Or.inr rfl, Or.inr rfl, Or.inr rfl, Or.inr
        rfl, Or.inr rfl, Or.inr rfl, Or.inr rfl, Or.inr rfl, Or.inr rfl, Or.inr rfl, Or.inr rfl, Or.inr rfl, Or.inr
        rfl, Or.inr rfl, Or.inr rfl, Or.inr rfl, Or.inr rfl, Or.inr rfl, Or.inr rfl, Or.inr rfl, Or.inr rfl, Or.inr
        rfl, Or.inr rfl, Or.inr rfl, Nat.le_refl _, trivial, fun w => w, fun w => w, fun w => w, fun w => w, fun w
        => w, fun w => w, fun w => w, fun w => w, fun w => w, fun w => w, fun w => w, fun w => w, fun w => w⟩
    refine Keeps.step ?_ State.modGln_keeps rfl
    refine Keeps.mkUpd ?_ ⟨Or.inr rfl, rfl, Or.inr rfl, Or.inr rfl, Or.inr rfl, Or.inr rfl, Or.inr rfl, Or.inr
        rfl, Or.inr rfl, Or.inr rfl, Or.inr rfl, Or.inr rfl, Or.inr rfl, Or.inr rfl, Or.inl rfl, Or.inr rfl, Or.inr
        rfl, Or.inr rfl, Or.inr rfl, Or.inr rfl, Or.inr rfl, Or.inr rfl, Or.inr rfl, Or.inr rfl, Or.inr rfl, Or.inr
        rfl, Or.inr rfl, Or.inr rfl, Or.inr rfl, Or.inr rfl, Or.inr rfl, Or.inr rfl, Or.inr rfl, Or.inr rfl, Or.inr
        rfl, Or.inr rfl, Or.inr rfl, Or.inr rfl, Or.inr rfl, Or.inr rfl, Or.inr rfl, Or.inr rfl, Or.inr rfl, Or.inr
        rfl, Or.inr rfl, Or.inr rfl, Nat.le_refl _, trivial, fun w => w, fun w => w, fun w => w, fun w => w, fun w
        => w, fun w => w, fun w => w, fun w => w, fun w => w, fun w => w, fun w => w, fun w => w, fun w => w⟩
    exact Keeps.refl _ _
  · refine Keeps.ite ?_ ?_
    · refine Keeps.ite ?_ ?_
      · refine Keeps.step ?_ State.satAdd_keeps (kb_k 4951760157141521099596496896 rfl rfl)
        refine Keeps.mkUpd ?_ ⟨Or.inr rfl, rfl, Or.inr rfl, Or.inr rfl, Or.inr rfl, Or.inr rfl, Or.inr rfl,
            Or.inr rfl, Or.inr rfl, Or.inr rfl, Or.inr rfl, Or.inr rfl, Or.inr rfl, Or.inr rfl, Or.inl rfl, Or.inr
            rfl, Or.inr rfl, Or.inr rfl, Or.inr rfl, Or.inr rfl, Or.inr rfl, Or.inr rfl, Or.inr rfl, Or.inr rfl,
            Or.inr rfl, Or.inr rfl, Or.inr rfl, Or.inr rfl, Or.inr rfl, Or.inr rfl, Or.inr rfl, Or.inr rfl, Or.inr
            rfl, Or.inr rfl, Or.inr rfl, Or.inr rfl, Or.inr rfl, Or.inr rfl, Or.inr rfl, Or.inr rfl, Or.inr rfl,
            Or.inr rfl, Or.inr rfl, Or.inr rfl, Or.inr rfl, Or.inr rfl, Nat.le_refl _, trivial, fun w => w, fun w =>
            w, fun w => w, fun w => w, fun w => w, fun w => w, fun w => w, fun w => w, fun w => w, fun w => w, fun w
            => w, fun w => w, fun w => w⟩
        exact Keeps.refl _ _
      · refine Keeps.mkUpd ?_ ⟨Or.inr rfl, rfl, Or.inr rfl, Or.inr rfl, Or.inr rfl, Or.inr rfl, Or.inr rfl,
          Or.inr rfl, Or.inr rfl, Or.inr rfl, Or.inr rfl, Or.inr rfl, Or.inr rfl, Or.inr rfl, Or.inl rfl, Or.inr
          rfl, Or.inr rfl, Or.inr rfl, Or.inr rfl, Or.inr rfl, Or.inr rfl, Or.inr rfl, Or.inr rfl, Or.inr rfl,
          Or.inr rfl, Or.inr rfl, Or.inr rfl, Or.inr rfl, Or.inr rfl, Or.inr rfl, Or.inr rfl, Or.inr rfl, Or.inr
          rfl, Or.inr rfl, Or.inr rfl, Or.inr rfl, Or.inr rfl, Or.inr rfl, Or.inr rfl, Or.inr rfl, Or.inr rfl,
          Or.inr rfl, Or.inr rfl, Or.inr rfl, Or.inr rfl, Or.inr rfl, Nat.le_refl _, trivial, fun w => w, fun w =>
          w, fun w => w, fun w => w, fun w => w, fun w => w, fun w => w, fun w => w, fun w => w, fun w => w, fun w
          => w, fun w => w, fun w => w⟩
        exact Keeps.refl _ _
    · refine Keeps.ite ?_ ?_
      · refine Keeps.step ?_ State.fullRecord_keeps rfl
        refine Keeps.mkUpd ?_ ⟨Or.inr rfl, rfl, Or.inr rfl, Or.inr rfl, Or.inr rfl, Or.inr rfl, Or.inr rfl,
            Or.inr rfl, Or.inr rfl, Or.inr rfl, Or.inr rfl, Or.inr rfl, Or.inr rfl, Or.inr rfl, Or.inl rfl, Or.inr
            rfl, Or.inr rfl, Or.inr rfl, Or.inr rfl, Or.inr rfl, Or.inr rfl, Or.inr rfl, Or.inr rfl, Or.inr rfl,
            Or.inr rfl, Or.inr rfl, Or.inr rfl, Or.inr rfl, Or.inr rfl, Or.inr rfl, Or.inr rfl, Or.inr rfl, Or.inr
            rfl, Or.inr rfl, Or.inr rfl, Or.inr rfl, Or.inr rfl, Or.inr rfl, Or.inr rfl, Or.inr rfl, Or.inr rfl,
            Or.inr rfl, Or.inr rfl, Or.inr rfl, Or.inr rfl, Or.inr rfl, Nat.le_refl _, trivial, fun w => w, fun w =>
            w, fun w => w, fun w => w, fun w => w, fun w => w, fun w => w, fun w => w, fun w => w, fun w => w, fun w
            => w, fun w => w, fun w => w⟩
        exact Keeps.refl _ _
      · refine Keeps.step ?_ State.fitRecord_keeps rfl
        refine Keeps.mkUpd ?_ ⟨Or.inr rfl, rfl, Or.inr rfl, Or.inr rfl, Or.inr rfl, Or.inr rfl, Or.inr rfl,
            Or.inr rfl, Or.inr rfl, Or.inr rfl, Or.inr rfl, Or.inr rfl, Or.inr rfl, Or.inr rfl, Or.inl rfl, Or.inr
            rfl, Or.inr rfl, Or.inr rfl, Or.inr rfl, Or.inr rfl, Or.inr rfl, Or.inr rfl, Or.inr rfl, Or.inr rfl,
            Or.inr rfl, Or.inr rfl, Or.inr rfl, Or.inr rfl, Or.inr rfl, Or.inr rfl, Or.inr rfl, Or.inr rfl, Or.inr
            rfl, Or.inr rfl, Or.inr rfl, Or.inr rfl, Or.inr rfl, Or.inr rfl, Or.inr rfl, Or.inr rfl, Or.inr rfl,
            Or.inr rfl, Or.inr rfl, Or.inr rfl, Or.inr rfl, Or.inr rfl, Nat.le_refl _, trivial, fun w => w, fun w =>
            w, fun w => w, fun w => w, fun w => w, fun w => w, fun w => w, fun w => w, fun w => w, fun w => w, fun w
            => w, fun w => w, fun w => w⟩
        exact Keeps.refl _ _

theorem execRecordWrite_keeps {s : Sys2Proof.Machine.State} : ResKeeps tgtNext 4951892383403041999955279874 s
    (execRecordWrite s) := by
  unfold execRecordWrite
  refine ResKeeps.ite ?_ ?_
  · refine ResKeeps.some rfl ?_
    exact Keeps.refl _ _
  · split
    · refine ResKeeps.some rfl ?_
      refine Keeps.step ?_ State.writeRecord_keeps rfl
      exact Keeps.refl _ _
    · refine ResKeeps.some rfl ?_
      exact Keeps.refl _ _

theorem State.exportRecord_keeps {s : Sys2Proof.Machine.State} {n : Nat} {slot : Nat} {rest : List (Nat × Nat)}
    : Keeps 4951797936073454425502466050 s (State.exportRecord s n slot rest) := by
  unfold State.exportRecord
  refine Keeps.ite ?_ ?_
  · refine Keeps.step ?_ State.wr_keeps (kb_k 4951760157141521099596496896 rfl rfl)
    exact Keeps.refl _ _
  · refine Keeps.mkUpd ?_ ⟨Or.inr rfl, rfl, Or.inr rfl, Or.inr rfl, Or.inr rfl, Or.inr rfl, Or.inr rfl, Or.inr
      rfl, Or.inr rfl, Or.inr rfl, Or.inr rfl, Or.inr rfl, Or.inr rfl, Or.inr rfl, Or.inl rfl, Or.inr rfl, Or.inr
      rfl, Or.inr rfl, Or.inr rfl, Or.inr rfl, Or.inr rfl, Or.inr rfl, Or.inr rfl, Or.inr rfl, Or.inr rfl, Or.inr
      rfl, Or.inr rfl, Or.inr rfl, Or.inr rfl, Or.inr rfl, Or.inr rfl, Or.inr rfl, Or.inr rfl, Or.inr rfl, Or.inr
      rfl, Or.inr rfl, Or.inr rfl, Or.inr rfl, Or.inr rfl, Or.inr rfl, Or.inr rfl, Or.inr rfl, Or.inr rfl, Or.inr
      rfl, Or.inr rfl, Or.inr rfl, Nat.le_refl _, trivial, fun w => w, fun w => w, fun w => w, fun w => w, fun w =>
      w, fun w => w, fun w => w, fun w => w, fun w => w, fun w => w, fun w => w, fun w => w, fun w => w⟩
    refine Keeps.step ?_ State.count_keeps rfl
    refine Keeps.step ?_ State.wr_keeps (kb_k 4951760157141521099596496896 rfl rfl)
    refine Keeps.step ?_ State.dmaWrite_keeps rfl
    exact Keeps.refl _ _

theorem execRecordExport_keeps {s : Sys2Proof.Machine.State} : ResKeeps tgtNext 4951797936073454425502466050 s
    (execRecordExport s) := by
  unfold execRecordExport
  split
  · refine ResKeeps.ite ?_ ?_
    · refine ResKeeps.some rfl ?_
      exact Keeps.refl _ _
    · refine ResKeeps.some rfl ?_
      refine Keeps.step ?_ State.exportRecord_keeps rfl
      exact Keeps.refl _ _
  · refine ResKeeps.some rfl ?_
    exact Keeps.refl _ _

theorem State.freeSlot_keeps {s : Sys2Proof.Machine.State} {n : Nat} : Keeps 37778931862957161791490 s
    (State.freeSlot s n) := by
  unfold State.freeSlot
  refine Keeps.ite ?_ ?_
  · refine Keeps.step ?_ State.count_keeps rfl
    refine Keeps.step ?_ State.modGln_keeps rfl
    exact Keeps.refl _ _
  · exact Keeps.refl _ _

theorem State.dlConsumed_keeps {s : Sys2Proof.Machine.State} {old : Nat} {new : Nat} : Keeps
    37778931862957161791490 s (State.dlConsumed s old new) := by
  unfold State.dlConsumed
  refine Keeps.foldl _ _ ?_ ?_
  · refine Keeps.mkUpd ?_ ⟨Or.inr rfl, rfl, Or.inr rfl, Or.inr rfl, Or.inr rfl, Or.inr rfl, Or.inr rfl, Or.inr
      rfl, Or.inr rfl, Or.inr rfl, Or.inr rfl, Or.inr rfl, Or.inr rfl, Or.inr rfl, Or.inl rfl, Or.inr rfl, Or.inr
      rfl, Or.inr rfl, Or.inr rfl, Or.inr rfl, Or.inr rfl, Or.inr rfl, Or.inr rfl, Or.inr rfl, Or.inr rfl, Or.inr
      rfl, Or.inr rfl, Or.inr rfl, Or.inr rfl, Or.inr rfl, Or.inr rfl, Or.inr rfl, Or.inr rfl, Or.inr rfl, Or.inr
      rfl, Or.inr rfl, Or.inr rfl, Or.inr rfl, Or.inr rfl, Or.inr rfl, Or.inr rfl, Or.inr rfl, Or.inr rfl, Or.inr
      rfl, Or.inr rfl, Or.inr rfl, Nat.le_refl _, trivial, fun w => w, fun w => w, fun w => w, fun w => w, fun w =>
      w, fun w => w, fun w => w, fun w => w, fun w => w, fun w => w, fun w => w, fun w => w, fun w => w⟩
    exact Keeps.refl _ _
  · intro y_ a_ h_
    refine Keeps.step ?_ State.freeSlot_keeps rfl
    with_reducible assumption

theorem State.dlConsWrite_keeps {s : Sys2Proof.Machine.State} {r : Sys2Proof.Requester} {word : Nat} : Keeps
    4951797936073384058905772038 s (State.dlConsWrite s r word) := by
  unfold State.dlConsWrite
  refine State.writeWith_keeps ?_ (kb_k 4951760157141521099596496896 rfl rfl) ?_
  · exact Keeps.refl _ _
  · intro y0_ h_
    refine Keeps.step ?_ State.dlConsumed_keeps rfl
    with_reducible assumption

theorem execDatalogConsumerWrite_keeps {r : Sys2Proof.Requester} {v : Sys2Proof.Word} {s :
    Sys2Proof.Machine.State} : ResKeeps tgtNext 4951797936073384058905772038 s (execDatalogConsumerWrite r v s) :=
    by
  unfold execDatalogConsumerWrite
  refine ResKeeps.some rfl ?_
  refine Keeps.step ?_ State.dlConsWrite_keeps rfl
  exact Keeps.refl _ _

theorem State.sctlWrite_keeps {s : Sys2Proof.Machine.State} {r : Sys2Proof.Requester} {n : Nat} {word : Nat} :
    Keeps 4951760157141521101744046086 s (State.sctlWrite s r n word) := by
  unfold State.sctlWrite
  refine State.writeWith_keeps ?_ (kb_k 4951760157141521099596496896 rfl rfl) ?_
  · exact Keeps.refl _ _
  · intro y0_ h_
    refine Keeps.ite ?_ ?_
    · with_reducible assumption
    · refine Keeps.ite ?_ ?_
      · refine Keeps.step ?_ State.werr_keeps (kb_k 4951760157141521099596496896 rfl rfl)
        with_reducible assumption
      · refine Keeps.step ?_ State.glnClear_keeps rfl
        with_reducible assumption

theorem execGleanerCountClear_keeps {r : Sys2Proof.Requester} {n : Fin 32} {s : Sys2Proof.Machine.State} :
    ResKeeps tgtNext 4951760157141521101744046086 s (execGleanerCountClear r n s) := by
  unfold execGleanerCountClear
  refine ResKeeps.some rfl ?_
  refine Keeps.step ?_ State.sctlWrite_keeps rfl
  exact Keeps.refl _ _

theorem State.qdrError_keeps {s : Sys2Proof.Machine.State} {port : Nat} {d : Nat} : Keeps
    19380592045697026104557570 s (State.qdrError s port d) := by
  unfold State.qdrError
  refine Keeps.step ?_ State.pagePairs_keeps rfl
  refine Keeps.step ?_ State.count_keeps rfl
  refine Keeps.step ?_ State.wr_keeps (kb_k 19342813113834066795298816 rfl rfl)
  refine Keeps.step ?_ State.wr_keeps (kb_k 19342813113834066795298816 rfl rfl)
  refine Keeps.step ?_ State.wr_keeps (kb_k 19342813113834066795298816 rfl rfl)
  exact Keeps.refl _ _

theorem State.qdrRead_keeps {s : Sys2Proof.Machine.State} {port : Nat} {d : Nat} : ResKeeps tgtSnd
    19380592045697026104557570 s (State.qdrRead s port d) := by
  unfold State.qdrRead
  split
  · refine ResKeeps.some rfl ?_
    refine Keeps.ite ?_ ?_
    · refine Keeps.step ?_ State.qdrError_keeps rfl
      exact Keeps.refl _ _
    · exact Keeps.refl _ _

theorem State.qdrWrite_keeps {s : Sys2Proof.Machine.State} {port : Nat} {d : Nat} {w : Nat} : Keeps
    17592186044416 s (State.qdrWrite s port d w) := by
  unfold State.qdrWrite
  refine Keeps.mkUpd ?_ ⟨Or.inr rfl, rfl, Or.inr rfl, Or.inr rfl, Or.inr rfl, Or.inr rfl, Or.inr rfl, Or.inr
      rfl, Or.inr rfl, Or.inr rfl, Or.inr rfl, Or.inr rfl, Or.inr rfl, Or.inr rfl, Or.inr rfl, Or.inr rfl, Or.inr
      rfl, Or.inr rfl, Or.inr rfl, Or.inr rfl, Or.inr rfl, Or.inr rfl, Or.inr rfl, Or.inr rfl, Or.inr rfl, Or.inr
      rfl, Or.inr rfl, Or.inr rfl, Or.inr rfl, Or.inr rfl, Or.inr rfl, Or.inr rfl, Or.inr rfl, Or.inr rfl, Or.inr
      rfl, Or.inr rfl, Or.inr rfl, Or.inr rfl, Or.inr rfl, Or.inr rfl, Or.inr rfl, Or.inr rfl, Or.inr rfl, Or.inl
      rfl, Or.inr rfl, Or.inr rfl, Nat.le_refl _, trivial, fun w => w, fun w => w, fun w => w, fun w => w, fun w =>
      w, fun w => w, fun w => w, fun w => w, fun w => w,
      (by intro w_; repeat' first | with_reducible assumption | with_reducible refine tabWf_memPutBytes _ _ _ ?_ | with_reducible refine tabWf_memPutNat _ _ _ _ ?_ | with_reducible refine tabWf_memPut _ _ _ ?_ | with_reducible refine tabWf_tabPut _ _ _ _ ?_ | with_reducible refine tabWf_tabErase _ _ _ ?_ | with_reducible refine tabWf_filter _ _ _ ?_ | with_reducible refine tabWf_foldl _ _ _ ?_ ?_ | (intro m_ a_ h_) | exact rfl | split),
      fun w => w, fun w => w, fun w => w⟩
  exact Keeps.refl _ _

theorem State.qdrPair_keeps {s : Sys2Proof.Machine.State} {port : Nat} {pair : Nat} : Keeps
    19380592045714618290601986 s (State.qdrPair s port pair) := by
  unfold State.qdrPair
  refine Keeps.step ?_ State.qdrWrite_keeps rfl
  refine Keeps.step ?_ State.qdrWrite_keeps rfl
  refine Keeps.ite ?_ ?_
  · refine Keeps.step ?_ State.qdrError_keeps rfl
    exact Keeps.refl _ _
  · exact Keeps.refl _ _

theorem State.orBit_keeps {s : Sys2Proof.Machine.State} {u : Nat × Nat} : Keeps 17592186044416 s (State.orBit s u) := by
  unfold State.orBit
  split
  · refine Keeps.step ?_ State.qdrWrite_keeps rfl
    exact Keeps.refl _ _

theorem State.updateBitmap_keeps {s : Sys2Proof.Machine.State} {u : Nat × Nat} : Keeps
    19380592045714618290618370 s (State.updateBitmap s u) := by
  unfold State.updateBitmap
  refine Keeps.step ?_ State.count_keeps rfl
  refine Keeps.step ?_ State.count_keeps rfl
  refine Keeps.step ?_ State.count_keeps rfl
  refine Keeps.step ?_ State.count_keeps rfl
  refine Keeps.foldl _ _ ?_ ?_
  · refine Keeps.step ?_ State.qdrPair_keeps rfl
    refine Keeps.mkUpd ?_ ⟨Or.inr rfl, rfl, Or.inr rfl, Or.inr rfl, Or.inr rfl, Or.inr rfl, Or.inr rfl, Or.inr
        rfl, Or.inr rfl, Or.inr rfl, Or.inr rfl, Or.inr rfl, Or.inr rfl, Or.inr rfl, Or.inl rfl, Or.inr rfl, Or.inr
        rfl, Or.inr rfl, Or.inr rfl, Or.inr rfl, Or.inr rfl, Or.inr rfl, Or.inr rfl, Or.inr rfl, Or.inr rfl, Or.inr
        rfl, Or.inr rfl, Or.inr rfl, Or.inr rfl, Or.inr rfl, Or.inr rfl, Or.inr rfl, Or.inr rfl, Or.inr rfl, Or.inr
        rfl, Or.inr rfl, Or.inr rfl, Or.inr rfl, Or.inr rfl, Or.inr rfl, Or.inr rfl, Or.inr rfl, Or.inr rfl, Or.inr
        rfl, Or.inr rfl, Or.inr rfl, Nat.le_refl _, trivial, fun w => w, fun w => w, fun w => w, fun w => w, fun w
        => w, fun w => w, fun w => w, fun w => w, fun w => w, fun w => w, fun w => w, fun w => w, fun w => w⟩
    exact Keeps.refl _ _
  · intro y_ a_ h_
    refine Keeps.step ?_ State.orBit_keeps rfl
    with_reducible assumption

theorem execBitmapUpdate_keeps {s : Sys2Proof.Machine.State} : ResKeeps tgtNext 19380592045714618290618370 s
    (execBitmapUpdate s) := by
  unfold execBitmapUpdate
  split
  · refine ResKeeps.ite ?_ ?_
    · refine ResKeeps.some rfl ?_
      exact Keeps.refl _ _
    · refine ResKeeps.some rfl ?_
      refine Keeps.step ?_ State.updateBitmap_keeps rfl
      exact Keeps.refl _ _
  · refine ResKeeps.some rfl ?_
    exact Keeps.refl _ _

theorem execQdrAddressParityError_keeps {port : Fin 2} {s : Sys2Proof.Machine.State} : ResKeeps tgtNext
    19380592045697026104557570 s (execQdrAddressParityError port s) := by
  unfold execQdrAddressParityError
  refine ResKeeps.some rfl ?_
  refine Keeps.step ?_ State.pagePairs_keeps rfl
  refine Keeps.step ?_ State.count_keeps rfl
  refine Keeps.step ?_ State.wr_keeps (kb_k 19342813113834066795298816 rfl rfl)
  exact Keeps.refl _ _

theorem State.brdCtlWrite_keeps {s : Sys2Proof.Machine.State} {r : Sys2Proof.Requester} {word : Nat} : Keeps
    4951760157141521101743980550 s (State.brdCtlWrite s r word) := by
  unfold State.brdCtlWrite
  refine State.writeWith_keeps ?_ (kb_k 4951760157141521099596496896 rfl rfl) ?_
  · exact Keeps.refl _ _
  · intro y0_ h_
    refine Keeps.ite ?_ ?_
    · with_reducible assumption
    · refine Keeps.ite ?_ ?_
      · refine Keeps.step ?_ State.wr_keeps (kb_k 4951760157141521099596496896 rfl rfl)
        with_reducible assumption
      · refine Keeps.step ?_ State.wr_keeps (kb_k 4951760157141521099596496896 rfl rfl)
        with_reducible assumption

theorem execBitmapReadoutStart_keeps {r : Sys2Proof.Requester} {v : Sys2Proof.Word} {s :
    Sys2Proof.Machine.State} : ResKeeps tgtNext 4951760157141521101743980550 s (execBitmapReadoutStart r v s) := by
  unfold execBitmapReadoutStart
  refine ResKeeps.some rfl ?_
  refine Keeps.step ?_ State.brdCtlWrite_keeps rfl
  exact Keeps.refl _ _

theorem State.readoutWord_keeps {s : Sys2Proof.Machine.State} {k : Nat} : Keeps 19380592045784995624714242 s
    (State.readoutWord s k) := by
  unfold State.readoutWord
  split
  · refine Keeps.ite ?_ ?_
    · split
      · rename_i h6_0
        refine Keeps.ite ?_ ?_
        · refine Keeps.step ?_ State.qdrWrite_keeps rfl
          refine Keeps.step ?_ State.dmaWrite_keeps rfl
          refine Keeps.ofRes (tgt := tgtSnd) ?_ h6_0 rfl
          refine ResKeeps.step ?_ State.qdrRead_keeps rfl
          exact Keeps.refl _ _
        · refine Keeps.step ?_ State.dmaWrite_keeps rfl
          refine Keeps.ofRes (tgt := tgtSnd) ?_ h6_0 rfl
          refine ResKeeps.step ?_ State.qdrRead_keeps rfl
          exact Keeps.refl _ _
    · split
      · rename_i h6_0
        refine Keeps.step ?_ State.dmaWrite_keeps rfl
        refine Keeps.ofRes (tgt := tgtSnd) ?_ h6_0 rfl
        refine ResKeeps.step ?_ State.draw_keeps rfl
        exact Keeps.refl _ _

theorem execBitmapReadoutDone_keeps {s : Sys2Proof.Machine.State} : ResKeeps tgtNext
    4971140749187306095221211138 s (execBitmapReadoutDone s) := by
  unfold execBitmapReadoutDone
  refine ResKeeps.ite ?_ ?_
  · refine ResKeeps.some rfl ?_
    refine Keeps.step ?_ State.wr_keeps (kb_k 4951760157141521099596496896 rfl rfl)
    refine Keeps.step ?_ State.wr_keeps (kb_k 4951760157141521099596496896 rfl rfl)
    refine Keeps.foldl _ _ ?_ ?_
    · exact Keeps.refl _ _
    · intro y_ a_ h_
      refine Keeps.step ?_ State.readoutWord_keeps rfl
      with_reducible assumption
  · refine ResKeeps.some rfl ?_
    exact Keeps.refl _ _

theorem State.glnRead_keeps {s : Sys2Proof.Machine.State} {off : Nat} : Keeps 17179885568 s (State.glnRead s off) := by
  unfold State.glnRead
  try extract_lets
  split
  · refine Keeps.ite ?_ ?_
    · refine Keeps.mkUpd ?_ ⟨Or.inr rfl, rfl, Or.inr rfl, Or.inr rfl, Or.inr rfl, Or.inr rfl, Or.inr rfl, Or.inr
        rfl, Or.inr rfl, Or.inr rfl, Or.inr rfl, Or.inr rfl, Or.inr rfl, Or.inr rfl, Or.inl rfl, Or.inr rfl, Or.inr
        rfl, Or.inr rfl, Or.inr rfl, Or.inr rfl, Or.inr rfl, Or.inr rfl, Or.inr rfl, Or.inr rfl, Or.inr rfl, Or.inr
        rfl, Or.inr rfl, Or.inr rfl, Or.inr rfl, Or.inr rfl, Or.inr rfl, Or.inr rfl, Or.inr rfl, Or.inr rfl, Or.inr
        rfl, Or.inr rfl, Or.inr rfl, Or.inr rfl, Or.inr rfl, Or.inr rfl, Or.inr rfl, Or.inr rfl, Or.inr rfl, Or.inr
        rfl, Or.inr rfl, Or.inr rfl, Nat.le_refl _, trivial, fun w => w, fun w => w, fun w => w, fun w => w, fun w
        => w, fun w => w, fun w => w, fun w => w, fun w => w, fun w => w, fun w => w, fun w => w, fun w => w⟩
      refine Keeps.mkUpd ?_ ⟨Or.inr rfl, rfl, Or.inr rfl, Or.inr rfl, Or.inr rfl, Or.inr rfl, Or.inr rfl, Or.inr
          rfl, Or.inr rfl, Or.inr rfl, Or.inr rfl, Or.inr rfl, Or.inr rfl, Or.inr rfl, Or.inl rfl, Or.inr rfl,
          Or.inr rfl, Or.inr rfl, Or.inr rfl, Or.inr rfl, Or.inr rfl, Or.inr rfl, Or.inr rfl, Or.inr rfl, Or.inr
          rfl, Or.inr rfl, Or.inr rfl, Or.inr rfl, Or.inr rfl, Or.inr rfl, Or.inr rfl, Or.inr rfl, Or.inr rfl,
          Or.inr rfl, Or.inl rfl, Or.inr rfl, Or.inr rfl, Or.inr rfl, Or.inr rfl, Or.inr rfl, Or.inr rfl, Or.inr
          rfl, Or.inr rfl, Or.inr rfl, Or.inr rfl, Or.inr rfl, Nat.le_refl _, trivial, fun w => w, fun w => w, fun w
          => w, fun w => w, fun w => w, fun w => w, fun w => w, fun w => w, fun w => w, fun w => w, fun w => w, fun
          w => w, fun w => w⟩
      exact Keeps.refl _ _
    · refine Keeps.mkUpd ?_ ⟨Or.inr rfl, rfl, Or.inr rfl, Or.inr rfl, Or.inr rfl, Or.inr rfl, Or.inr rfl, Or.inr
        rfl, Or.inr rfl, Or.inr rfl, Or.inr rfl, Or.inr rfl, Or.inr rfl, Or.inr rfl, Or.inl rfl, Or.inr rfl, Or.inr
        rfl, Or.inr rfl, Or.inr rfl, Or.inr rfl, Or.inr rfl, Or.inr rfl, Or.inr rfl, Or.inr rfl, Or.inr rfl, Or.inr
        rfl, Or.inr rfl, Or.inr rfl, Or.inr rfl, Or.inr rfl, Or.inr rfl, Or.inr rfl, Or.inr rfl, Or.inr rfl, Or.inl
        rfl, Or.inr rfl, Or.inr rfl, Or.inr rfl, Or.inr rfl, Or.inr rfl, Or.inr rfl, Or.inr rfl, Or.inr rfl, Or.inr
        rfl, Or.inr rfl, Or.inr rfl, Nat.le_refl _, trivial, fun w => w, fun w => w, fun w => w, fun w => w, fun w
        => w, fun w => w, fun w => w, fun w => w, fun w => w, fun w => w, fun w => w, fun w => w, fun w => w⟩
      exact Keeps.refl _ _
  · refine Keeps.mkUpd ?_ ⟨Or.inr rfl, rfl, Or.inr rfl, Or.inr rfl, Or.inr rfl, Or.inr rfl, Or.inr rfl, Or.inr
      rfl, Or.inr rfl, Or.inr rfl, Or.inr rfl, Or.inr rfl, Or.inr rfl, Or.inr rfl, Or.inl rfl, Or.inr rfl, Or.inr
      rfl, Or.inr rfl, Or.inr rfl, Or.inr rfl, Or.inr rfl, Or.inr rfl, Or.inr rfl, Or.inr rfl, Or.inr rfl, Or.inr
      rfl, Or.inr rfl, Or.inr rfl, Or.inr rfl, Or.inr rfl, Or.inr rfl, Or.inr rfl, Or.inr rfl, Or.inr rfl, Or.inl
      rfl, Or.inr rfl, Or.inr rfl, Or.inr rfl, Or.inr rfl, Or.inr rfl, Or.inr rfl, Or.inr rfl, Or.inr rfl, Or.inr
      rfl, Or.inr rfl, Or.inr rfl, Nat.le_refl _, trivial, fun w => w, fun w => w, fun w => w, fun w => w, fun w =>
      w, fun w => w, fun w => w, fun w => w, fun w => w, fun w => w, fun w => w, fun w => w, fun w => w⟩
    exact Keeps.refl _ _

theorem execCountLowRead_keeps {c : Sys2Proof.GCount} {s : Sys2Proof.Machine.State} : ResKeeps tgtNext
    17179885568 s (execCountLowRead c s) := by
  unfold execCountLowRead
  refine ResKeeps.some rfl ?_
  refine Keeps.step ?_ State.glnRead_keeps rfl
  exact Keeps.refl _ _

end Sys2Proof.Machine
end

