-- ==== Sys2Proof/Laws/FrameSites.lean ====
section
/-! SUPPORT. What each function of Machine/Sites.lean may change: one mask of `Keeps` for each. -/

namespace Sys2Proof.Machine

open Reg

theorem State.hopStart_keeps {s : Sys2Proof.Machine.State} {n : Nat} : Keeps 1237977818217243232060899842 s
    (State.hopStart s n) := by
  unfold State.hopStart
  refine Keeps.step ?_ State.wr3_keeps (kb_k 1237940039285380274899124224 rfl rfl)
  refine Keeps.step ?_ State.wr_keeps (kb_k 1237940039285380274899124224 rfl rfl)
  refine Keeps.step ?_ State.wr_keeps (kb_k 1237940039285380274899124224 rfl rfl)
  refine Keeps.step ?_ State.wr_keeps (kb_k 1237940039285380274899124224 rfl rfl)
  refine Keeps.step ?_ State.wr_keeps (kb_k 1237940039285380274899124224 rfl rfl)
  refine Keeps.step ?_ State.wr_keeps (kb_k 1237940039285380274899124224 rfl rfl)
  refine Keeps.step ?_ State.hopSeek_keeps rfl
  refine Keeps.step ?_ State.hopDiscard_keeps rfl
  exact Keeps.refl _ _

theorem State.cancelStep_keeps {s : Sys2Proof.Machine.State} : Keeps 9444732965740364169218 s (State.cancelStep s) := by
  unfold State.cancelStep
  split
  · refine Keeps.step ?_ State.wr_keeps (kb_k 9444732965739290427392 rfl rfl)
    refine Keeps.step ?_ State.wr_keeps (kb_k 9444732965739290427392 rfl rfl)
    refine Keeps.mkUpd ?_ ⟨Or.inr rfl, rfl, Or.inr rfl, Or.inr rfl, Or.inr rfl, Or.inr rfl, Or.inr rfl, Or.inr
        rfl, Or.inr rfl, Or.inr rfl, Or.inr rfl, Or.inr rfl, Or.inr rfl, Or.inr rfl, Or.inr rfl, Or.inr rfl, Or.inr
        rfl, Or.inr rfl, Or.inr rfl, Or.inr rfl, Or.inr rfl, Or.inr rfl, Or.inr rfl, Or.inr rfl, Or.inr rfl, Or.inr
        rfl, Or.inr rfl, Or.inr rfl, Or.inr rfl, Or.inr rfl, Or.inl rfl, Or.inr rfl, Or.inr rfl, Or.inr rfl, Or.inr
        rfl, Or.inr rfl, Or.inr rfl, Or.inr rfl, Or.inr rfl, Or.inr rfl, Or.inr rfl, Or.inr rfl, Or.inr rfl, Or.inr
        rfl, Or.inr rfl, Or.inr rfl, Nat.le_refl _, trivial, fun w => w, fun w => w, fun w => w, fun w => w, fun w
        => w, fun w => w, fun w => w, fun w => w, fun w => w, fun w => w, fun w => w, fun w => w, fun w => w⟩
    exact Keeps.refl _ _
  · exact Keeps.refl _ _

theorem State.arm_keeps {s : Sys2Proof.Machine.State} {n : Nat} : Keeps 16480747422814168695932410630 s
    (State.arm s n) := by
  unfold State.arm
  try extract_lets
  split
  · refine Keeps.ite ?_ ?_
    · split
      · rename_i h6_0
        refine Keeps.ofRes (tgt := tgtSum) ?_ h6_0 rfl
        refine ResKeeps.step ?_ State.hopReach_keeps rfl
        refine Keeps.step ?_ State.tellExcused_keeps rfl
        refine Keeps.step ?_ State.followSites_keeps rfl
        refine Keeps.step ?_ State.cancelStep_keeps rfl
        refine Keeps.step ?_ State.glnStart_keeps rfl
        refine Keeps.step ?_ State.hopStart_keeps rfl
        refine Keeps.step ?_ State.modSq_keeps rfl
        refine Keeps.step ?_ State.wr_keeps (kb_k 309485009821345068724781056 rfl rfl)
        refine Keeps.step ?_ State.wr_keeps (kb_k 309485009821345068724781056 rfl rfl)
        refine Keeps.step ?_ State.wr_keeps (kb_k 309485009821345068724781056 rfl rfl)
        refine Keeps.step ?_ State.wr_keeps (kb_k 309485009821345068724781056 rfl rfl)
        refine Keeps.step ?_ State.wr_keeps (kb_k 309485009821345068724781056 rfl rfl)
        refine Keeps.step ?_ State.wr_keeps (kb_k 309485009821345068724781056 rfl rfl)
        exact Keeps.refl _ _
      · refine Keeps.step ?_ State.endArm_keeps rfl
        refine Keeps.step ?_ State.hopError_keeps rfl
        refine Keeps.step ?_ State.tellExcused_keeps rfl
        refine Keeps.step ?_ State.followSites_keeps rfl
        refine Keeps.step ?_ State.cancelStep_keeps rfl
        refine Keeps.step ?_ State.glnStart_keeps rfl
        refine Keeps.step ?_ State.hopStart_keeps rfl
        refine Keeps.step ?_ State.modSq_keeps rfl
        refine Keeps.step ?_ State.wr_keeps (kb_k 309485009821345068724781056 rfl rfl)
        refine Keeps.step ?_ State.wr_keeps (kb_k 309485009821345068724781056 rfl rfl)
        refine Keeps.step ?_ State.wr_keeps (kb_k 309485009821345068724781056 rfl rfl)
        refine Keeps.step ?_ State.wr_keeps (kb_k 309485009821345068724781056 rfl rfl)
        refine Keeps.step ?_ State.wr_keeps (kb_k 309485009821345068724781056 rfl rfl)
        refine Keeps.step ?_ State.wr_keeps (kb_k 309485009821345068724781056 rfl rfl)
        exact Keeps.refl _ _
    · refine Keeps.step ?_ State.tellExcused_keeps rfl
      refine Keeps.step ?_ State.followSites_keeps rfl
      refine Keeps.step ?_ State.cancelStep_keeps rfl
      refine Keeps.step ?_ State.glnStart_keeps rfl
      refine Keeps.step ?_ State.hopStart_keeps rfl
      refine Keeps.step ?_ State.modSq_keeps rfl
      refine Keeps.step ?_ State.wr_keeps (kb_k 309485009821345068724781056 rfl rfl)
      refine Keeps.step ?_ State.wr_keeps (kb_k 309485009821345068724781056 rfl rfl)
      refine Keeps.step ?_ State.wr_keeps (kb_k 309485009821345068724781056 rfl rfl)
      refine Keeps.step ?_ State.wr_keeps (kb_k 309485009821345068724781056 rfl rfl)
      refine Keeps.step ?_ State.wr_keeps (kb_k 309485009821345068724781056 rfl rfl)
      refine Keeps.step ?_ State.wr_keeps (kb_k 309485009821345068724781056 rfl rfl)
      exact Keeps.refl _ _
  · refine Keeps.step ?_ State.tellExcused_keeps rfl
    refine Keeps.step ?_ State.followSites_keeps rfl
    refine Keeps.step ?_ State.cancelStep_keeps rfl
    refine Keeps.step ?_ State.glnStart_keeps rfl
    refine Keeps.step ?_ State.hopStart_keeps rfl
    refine Keeps.step ?_ State.modSq_keeps rfl
    refine Keeps.step ?_ State.wr_keeps (kb_k 309485009821345068724781056 rfl rfl)
    refine Keeps.step ?_ State.wr_keeps (kb_k 309485009821345068724781056 rfl rfl)
    refine Keeps.step ?_ State.wr_keeps (kb_k 309485009821345068724781056 rfl rfl)
    refine Keeps.step ?_ State.wr_keeps (kb_k 309485009821345068724781056 rfl rfl)
    refine Keeps.step ?_ State.wr_keeps (kb_k 309485009821345068724781056 rfl rfl)
    refine Keeps.step ?_ State.wr_keeps (kb_k 309485009821345068724781056 rfl rfl)
    exact Keeps.refl _ _

theorem State.startSite_keeps {s : Sys2Proof.Machine.State} {n : Nat} : Keeps 16480747422814168695932410630 s
    (State.startSite s n) := by
  unfold State.startSite
  refine Keeps.ite ?_ ?_
  · refine Keeps.step ?_ State.wr_keeps (kb_k 309485009821345068724781056 rfl rfl)
    exact Keeps.refl _ _
  · refine Keeps.step ?_ State.arm_keeps rfl
    exact Keeps.refl _ _

theorem State.enterBurst_keeps {s : Sys2Proof.Machine.State} {c : Nat} : Keeps 16 s (State.enterBurst s c) := by
  unfold State.enterBurst
  refine Keeps.step ?_ State.modCh_keeps rfl
  exact Keeps.refl _ _

theorem State.launch_keeps {s : Sys2Proof.Machine.State} {n : Nat} {d : Nat} : Keeps 309541678219139505004298515
    s (State.launch s n d) := by
  unfold State.launch
  refine Keeps.step ?_ State.exportEvent_keeps rfl
  refine Keeps.step ?_ State.glnMark_keeps rfl
  refine Keeps.foldl _ _ ?_ ?_
  · refine Keeps.step ?_ State.modSq_keeps rfl
    refine Keeps.step ?_ State.wr_keeps (kb_k 309485009821345068724781056 rfl rfl)
    refine Keeps.step ?_ State.wr_keeps (kb_k 309485009821345068724781056 rfl rfl)
    refine Keeps.step ?_ State.advanceTo_keeps rfl
    exact Keeps.refl _ _
  · intro y_ a_ h_
    refine Keeps.step ?_ State.enterBurst_keeps rfl
    with_reducible assumption

theorem execLaunch_keeps {n : Fin 32} {s : Sys2Proof.Machine.State} : ResKeeps tgtNext
    309541678219139505004304659 s (execLaunch n s) := by
  unfold execLaunch
  refine ResKeeps.ite ?_ ?_
  · refine ResKeeps.some rfl ?_
    exact Keeps.refl _ _
  · refine ResKeeps.ite ?_ ?_
    · refine ResKeeps.some rfl ?_
      refine Keeps.step ?_ State.spanTell_keeps rfl
      refine Keeps.step ?_ State.modSq_keeps rfl
      refine Keeps.step ?_ State.advanceTo_keeps rfl
      exact Keeps.refl _ _
    · split
      · refine ResKeeps.some rfl ?_
        refine Keeps.step ?_ State.launch_keeps rfl
        exact Keeps.refl _ _
      · refine ResKeeps.some rfl ?_
        exact Keeps.refl _ _

theorem State.arrive_keeps {s : Sys2Proof.Machine.State} {n : Nat} {g : Nat} {t : Nat} : Keeps
    37926505815546838194562 s (State.arrive s n g t) := by
  unfold State.arrive
  refine Keeps.ite ?_ ?_
  · refine Keeps.mkUpd ?_ ⟨Or.inr rfl, rfl, Or.inr rfl, Or.inr rfl, Or.inr rfl, Or.inr rfl, Or.inr rfl, Or.inl
      rfl, Or.inr rfl, Or.inr rfl, Or.inr rfl, Or.inr rfl, Or.inr rfl, Or.inr rfl, Or.inr rfl, Or.inr rfl, Or.inr
      rfl, Or.inr rfl, Or.inr rfl, Or.inr rfl, Or.inr rfl, Or.inr rfl, Or.inr rfl, Or.inr rfl, Or.inr rfl, Or.inr
      rfl, Or.inr rfl, Or.inr rfl, Or.inr rfl, Or.inr rfl, Or.inr rfl, Or.inr rfl, Or.inr rfl, Or.inr rfl, Or.inr
      rfl, Or.inr rfl, Or.inr rfl, Or.inr rfl, Or.inr rfl, Or.inr rfl, Or.inr rfl, Or.inr rfl, Or.inr rfl, Or.inr
      rfl, Or.inr rfl, Or.inr rfl, Nat.le_refl _, trivial, fun w => w, fun w => w, fun w => w, fun w => w, fun w =>
      w, fun w => w, fun w => w, fun w => w, fun w => w, fun w => w, fun w => w, fun w => w, fun w => w⟩
    refine Keeps.step ?_ State.amlSend_keeps rfl
    refine Keeps.ite ?_ ?_
    · refine Keeps.step ?_ State.modSq_keeps rfl
      exact Keeps.refl _ _
    · exact Keeps.refl _ _
  · refine Keeps.step ?_ State.wrBit_keeps (kb_k 147573952589676412928 rfl rfl)
    refine Keeps.ite ?_ ?_
    · refine Keeps.step ?_ State.modSq_keeps rfl
      exact Keeps.refl _ _
    · exact Keeps.refl _ _

theorem State.keepAlive_keeps {s : Sys2Proof.Machine.State} {n : Nat} : Keeps 10213043250610202814755969427 s
    (State.keepAlive s n) := by
  unfold State.keepAlive
  try extract_lets
  split
  · refine Keeps.step ?_ State.count_keeps rfl
    refine Keeps.ite ?_ ?_
    · refine Keeps.step ?_ State.wr_keeps (kb_k 309485009821345068724781056 rfl rfl)
      refine Keeps.step ?_ State.wr_keeps (kb_k 309485009821345068724781056 rfl rfl)
      refine Keeps.step ?_ State.applyVector_keeps rfl
      refine Keeps.step ?_ State.advanceTo_keeps rfl
      exact Keeps.refl _ _
    · refine Keeps.ite ?_ ?_
      · refine Keeps.step ?_ State.wr_keeps (kb_k 309485009821345068724781056 rfl rfl)
        refine Keeps.step ?_ State.wr_keeps (kb_k 309485009821345068724781056 rfl rfl)
        refine Keeps.step ?_ State.applyVector_keeps rfl
        refine Keeps.step ?_ State.advanceTo_keeps rfl
        exact Keeps.refl _ _
      · refine Keeps.step ?_ State.wr_keeps (kb_k 309485009821345068724781056 rfl rfl)
        refine Keeps.step ?_ State.applyVector_keeps rfl
        refine Keeps.step ?_ State.advanceTo_keeps rfl
        exact Keeps.refl _ _
  · try extract_lets
    split
    · refine Keeps.ite ?_ ?_
      · refine Keeps.step ?_ State.arrive_keeps rfl
        refine Keeps.step ?_ State.modSq_keeps rfl
        refine Keeps.step ?_ State.count_keeps rfl
        refine Keeps.ite ?_ ?_
        · refine Keeps.step ?_ State.wr_keeps (kb_k 309485009821345068724781056 rfl rfl)
          refine Keeps.step ?_ State.wr_keeps (kb_k 309485009821345068724781056 rfl rfl)
          refine Keeps.step ?_ State.applyVector_keeps rfl
          refine Keeps.step ?_ State.advanceTo_keeps rfl
          exact Keeps.refl _ _
        · refine Keeps.ite ?_ ?_
          · refine Keeps.step ?_ State.wr_keeps (kb_k 309485009821345068724781056 rfl rfl)
            refine Keeps.step ?_ State.wr_keeps (kb_k 309485009821345068724781056 rfl rfl)
            refine Keeps.step ?_ State.applyVector_keeps rfl
            refine Keeps.step ?_ State.advanceTo_keeps rfl
            exact Keeps.refl _ _
          · refine Keeps.step ?_ State.wr_keeps (kb_k 309485009821345068724781056 rfl rfl)
            refine Keeps.step ?_ State.applyVector_keeps rfl
            refine Keeps.step ?_ State.advanceTo_keeps rfl
            exact Keeps.refl _ _
      · refine Keeps.step ?_ State.modSq_keeps rfl
        refine Keeps.step ?_ State.count_keeps rfl
        refine Keeps.ite ?_ ?_
        · refine Keeps.step ?_ State.wr_keeps (kb_k 309485009821345068724781056 rfl rfl)
          refine Keeps.step ?_ State.wr_keeps (kb_k 309485009821345068724781056 rfl rfl)
          refine Keeps.step ?_ State.applyVector_keeps rfl
          refine Keeps.step ?_ State.advanceTo_keeps rfl
          exact Keeps.refl _ _
        · refine Keeps.ite ?_ ?_
          · refine Keeps.step ?_ State.wr_keeps (kb_k 309485009821345068724781056 rfl rfl)
            refine Keeps.step ?_ State.wr_keeps (kb_k 309485009821345068724781056 rfl rfl)
            refine Keeps.step ?_ State.applyVector_keeps rfl
            refine Keeps.step ?_ State.advanceTo_keeps rfl
            exact Keeps.refl _ _
          · refine Keeps.step ?_ State.wr_keeps (kb_k 309485009821345068724781056 rfl rfl)
            refine Keeps.step ?_ State.applyVector_keeps rfl
            refine Keeps.step ?_ State.advanceTo_keeps rfl
            exact Keeps.refl _ _
    · refine Keeps.step ?_ State.modSq_keeps rfl
      refine Keeps.step ?_ State.count_keeps rfl
      refine Keeps.ite ?_ ?_
      · refine Keeps.step ?_ State.wr_keeps (kb_k 309485009821345068724781056 rfl rfl)
        refine Keeps.step ?_ State.wr_keeps (kb_k 309485009821345068724781056 rfl rfl)
        refine Keeps.step ?_ State.applyVector_keeps rfl
        refine Keeps.step ?_ State.advanceTo_keeps rfl
        exact Keeps.refl _ _
      · refine Keeps.ite ?_ ?_
        · refine Keeps.step ?_ State.wr_keeps (kb_k 309485009821345068724781056 rfl rfl)
          refine Keeps.step ?_ State.wr_keeps (kb_k 309485009821345068724781056 rfl rfl)
          refine Keeps.step ?_ State.applyVector_keeps rfl
          refine Keeps.step ?_ State.advanceTo_keeps rfl
          exact Keeps.refl _ _
        · refine Keeps.step ?_ State.wr_keeps (kb_k 309485009821345068724781056 rfl rfl)
          refine Keeps.step ?_ State.applyVector_keeps rfl
          refine Keeps.step ?_ State.advanceTo_keeps rfl
          exact Keeps.refl _ _

theorem State.oddSwitch_keeps {s : Sys2Proof.Machine.State} {n : Nat} : Keeps 9903520314283042199192993794 s
    (State.oddSwitch s n) := by
  unfold State.oddSwitch
  refine Keeps.foldl _ _ ?_ ?_
  · exact Keeps.refl _ _
  · intro y_ a_ h_
    refine Keeps.step ?_ State.wr_keeps (kb_k 9903520314283042199192993792 rfl rfl)
    with_reducible assumption

theorem State.programVector_keeps {s : Sys2Proof.Machine.State} {n : Nat} {ctrl : Nat} {code : Nat → Nat} {g :
    Sys2Proof.Machine.Seg} : Keeps 10213137697939860208197671315 s (State.programVector s n ctrl code g) := by
  unfold State.programVector
  try extract_lets
  split
  · refine Keeps.step ?_ State.count_keeps rfl
    refine Keeps.step ?_ State.wr_keeps (kb_k 309485009821345068724781056 rfl rfl)
    refine Keeps.step ?_ State.wr_keeps (kb_k 309485009821345068724781056 rfl rfl)
    refine Keeps.step ?_ State.modSq_keeps rfl
    refine Keeps.ite ?_ ?_
    · refine Keeps.step ?_ State.wr_keeps (kb_k 309485009821345068724781056 rfl rfl)
      refine Keeps.step ?_ State.applyVector_keeps rfl
      refine Keeps.ite ?_ ?_
      · refine Keeps.step ?_ State.oddSwitch_keeps rfl
        refine Keeps.ite ?_ ?_
        · refine Keeps.step ?_ State.doActs_keeps rfl
          refine Keeps.step ?_ State.advanceTo_keeps rfl
          exact Keeps.refl _ _
        · refine Keeps.step ?_ State.advanceTo_keeps rfl
          exact Keeps.refl _ _
      · refine Keeps.ite ?_ ?_
        · refine Keeps.step ?_ State.doActs_keeps rfl
          refine Keeps.step ?_ State.advanceTo_keeps rfl
          exact Keeps.refl _ _
        · refine Keeps.step ?_ State.advanceTo_keeps rfl
          exact Keeps.refl _ _
    · refine Keeps.step ?_ State.applyVector_keeps rfl
      refine Keeps.ite ?_ ?_
      · refine Keeps.step ?_ State.oddSwitch_keeps rfl
        refine Keeps.ite ?_ ?_
        · refine Keeps.step ?_ State.doActs_keeps rfl
          refine Keeps.step ?_ State.advanceTo_keeps rfl
          exact Keeps.refl _ _
        · refine Keeps.step ?_ State.advanceTo_keeps rfl
          exact Keeps.refl _ _
      · refine Keeps.ite ?_ ?_
        · refine Keeps.step ?_ State.doActs_keeps rfl
          refine Keeps.step ?_ State.advanceTo_keeps rfl
          exact Keeps.refl _ _
        · refine Keeps.step ?_ State.advanceTo_keeps rfl
          exact Keeps.refl _ _

theorem State.latchUnder_keeps {s : Sys2Proof.Machine.State} {n : Nat} {off : Nat} : Keeps
    1237940039285380274899124482 s (State.latchUnder s n off) := by
  unfold State.latchUnder
  refine Keeps.ite ?_ ?_
  · exact Keeps.refl _ _
  · refine Keeps.step ?_ State.modSq_keeps rfl
    refine Keeps.step ?_ State.wr3_keeps (kb_k 1237940039285380274899124224 rfl rfl)
    refine Keeps.step ?_ State.wr_keeps (kb_k 1237940039285380274899124224 rfl rfl)
    refine Keeps.step ?_ State.wr_keeps (kb_k 1237940039285380274899124224 rfl rfl)
    refine Keeps.step ?_ State.wr_keeps (kb_k 1237940039285380274899124224 rfl rfl)
    refine Keeps.step ?_ State.wr_keeps (kb_k 1237940039285380274899124224 rfl rfl)
    refine Keeps.step ?_ State.wr_keeps (kb_k 1237940039285380274899124224 rfl rfl)
    exact Keeps.refl _ _

theorem State.underrun_keeps {s : Sys2Proof.Machine.State} {n : Nat} : Keeps 11451077737225240483096812435 s
    (State.underrun s n) := by
  unfold State.underrun
  refine Keeps.ite ?_ ?_
  · refine Keeps.step ?_ State.endNext_keeps rfl
    refine Keeps.step ?_ State.latchUnder_keeps rfl
    exact Keeps.refl _ _
  · refine Keeps.step ?_ State.keepAlive_keeps rfl
    refine Keeps.step ?_ State.satAdd_keeps (kb_k 1237940039285380274899124224 rfl rfl)
    refine Keeps.ite ?_ ?_
    · refine Keeps.step ?_ State.latchUnder_keeps rfl
      exact Keeps.refl _ _
    · refine Keeps.mkUpd ?_ ⟨Or.inr rfl, rfl, Or.inr rfl, Or.inr rfl, Or.inr rfl, Or.inr rfl, Or.inr rfl, Or.inr
        rfl, Or.inr rfl, Or.inr rfl, Or.inr rfl, Or.inr rfl, Or.inr rfl, Or.inr rfl, Or.inl rfl, Or.inr rfl, Or.inr
        rfl, Or.inr rfl, Or.inr rfl, Or.inr rfl, Or.inr rfl, Or.inr rfl, Or.inr rfl, Or.inr rfl, Or.inr rfl, Or.inr
        rfl, Or.inr rfl, Or.inr rfl, Or.inr rfl, Or.inr rfl, Or.inr rfl, Or.inr rfl, Or.inr rfl, Or.inr rfl, Or.inr
        rfl, Or.inr rfl, Or.inr rfl, Or.inr rfl, Or.inr rfl, Or.inr rfl, Or.inr rfl, Or.inr rfl, Or.inr rfl, Or.inr
        rfl, Or.inr rfl, Or.inr rfl, Nat.le_refl _, trivial, fun w => w, fun w => w, fun w => w, fun w => w, fun w
        => w, fun w => w, fun w => w, fun w => w, fun w => w, fun w => w, fun w => w, fun w => w, fun w => w⟩
      refine Keeps.step ?_ State.modSq_keeps rfl
      refine Keeps.step ?_ State.satAdd_keeps (kb_k 1237940039285380274899124224 rfl rfl)
      refine Keeps.step ?_ State.latchUnder_keeps rfl
      exact Keeps.refl _ _

theorem State.streamBale_keeps {s : Sys2Proof.Machine.State} {n : Nat} {g : Sys2Proof.Machine.Seg} {i : Nat} {v
    : Nat} : Keeps 11451077737225240483096812435 s (State.streamBale s n g i v) := by
  unfold State.streamBale
  split
  · refine Keeps.ite ?_ ?_
    · refine Keeps.step ?_ State.endNext_keeps rfl
      refine Keeps.step ?_ State.hopError_keeps rfl
      exact Keeps.refl _ _
    · refine Keeps.step ?_ State.underrun_keeps rfl
      exact Keeps.refl _ _
  · split
    · refine Keeps.step ?_ State.endNext_keeps rfl
      refine Keeps.step ?_ State.hopError_keeps rfl
      exact Keeps.refl _ _
    · refine Keeps.step ?_ State.underrun_keeps rfl
      exact Keeps.refl _ _
    · refine Keeps.ite ?_ ?_
      · refine Keeps.step ?_ State.underrun_keeps rfl
        exact Keeps.refl _ _
      · refine Keeps.ite ?_ ?_
        · refine Keeps.step ?_ State.hopRelease_keeps rfl
          refine Keeps.step ?_ State.modHop_keeps rfl
          refine Keeps.step ?_ State.programVector_keeps rfl
          exact Keeps.refl _ _
        · refine Keeps.step ?_ State.modHop_keeps rfl
          refine Keeps.step ?_ State.programVector_keeps rfl
          exact Keeps.refl _ _

theorem State.streamVector_keeps {s : Sys2Proof.Machine.State} {n : Nat} {g : Sys2Proof.Machine.Seg} : Keeps
    11451077737225240483096812435 s (State.streamVector s n g) := by
  unfold State.streamVector
  try extract_lets
  split
  · refine Keeps.ite ?_ ?_
    · refine Keeps.step ?_ State.endNext_keeps rfl
      refine Keeps.step ?_ State.wr_keeps (kb_k 1237940039285380274899124224 rfl rfl)
      exact Keeps.refl _ _
    · refine Keeps.step ?_ State.streamBale_keeps rfl
      exact Keeps.refl _ _
  · refine Keeps.step ?_ State.streamBale_keeps rfl
    exact Keeps.refl _ _

theorem State.residentVector_keeps {s : Sys2Proof.Machine.State} {n : Nat} {g : Sys2Proof.Machine.Seg} : Keeps
    12070047756867930622693841811 s (State.residentVector s n g) := by
  unfold State.residentVector
  try extract_lets
  split
  · refine Keeps.step ?_ State.endNext_keeps rfl
    exact Keeps.refl _ _
  · refine Keeps.step ?_ State.endNext_keeps rfl
    exact Keeps.refl _ _
  · refine Keeps.step ?_ State.endNext_keeps rfl
    refine Keeps.step ?_ State.granError_keeps rfl
    exact Keeps.refl _ _
  · refine Keeps.step ?_ State.programVector_keeps rfl
    refine Keeps.foldl _ _ ?_ ?_
    · exact Keeps.refl _ _
    · intro y_ a_ h_
      refine Keeps.step ?_ State.touch_keeps rfl
      with_reducible assumption

theorem State.noVector_keeps {s : Sys2Proof.Machine.State} {n : Nat} : Keeps 11451077737225240483096796051 s
    (State.noVector s n) := by
  unfold State.noVector
  split
  · refine Keeps.step ?_ State.endNext_keeps rfl
    refine Keeps.step ?_ State.wr_keeps (kb_k 309485009821345068724781056 rfl rfl)
    exact Keeps.refl _ _
  · refine Keeps.step ?_ State.endNext_keeps rfl
    refine Keeps.step ?_ State.wr_keeps (kb_k 309485009821345068724781056 rfl rfl)
    exact Keeps.refl _ _
  · refine Keeps.ite ?_ ?_
    · refine Keeps.step ?_ State.endNext_keeps rfl
      exact Keeps.refl _ _
    · refine Keeps.step ?_ State.keepAlive_keeps rfl
      exact Keeps.refl _ _

theorem State.noteWatch_keeps {s : Sys2Proof.Machine.State} {n : Nat} : Keeps 309485009821345068724781058 s
    (State.noteWatch s n) := by
  unfold State.noteWatch
  split
  · refine Keeps.ite ?_ ?_
    · exact Keeps.refl _ _
    · refine Keeps.step ?_ State.noteFs_keeps rfl
      exact Keeps.refl _ _
  · exact Keeps.refl _ _

theorem State.commitAtBoundary_keeps {s : Sys2Proof.Machine.State} {n : Nat} : Keeps
    1547425049106725343623905286 s (State.commitAtBoundary s n) := by
  unfold State.commitAtBoundary
  refine Keeps.ite ?_ ?_
  · refine Keeps.step ?_ State.hopCommit_keeps rfl
    refine Keeps.ite ?_ ?_
    · refine Keeps.step ?_ State.commitAll_keeps (kb_k 309485009821345068724781056 rfl rfl)
      exact Keeps.refl _ _
    · exact Keeps.refl _ _
  · refine Keeps.ite ?_ ?_
    · refine Keeps.step ?_ State.commitAll_keeps (kb_k 309485009821345068724781056 rfl rfl)
      exact Keeps.refl _ _
    · exact Keeps.refl _ _

theorem State.passEnd_keeps {s : Sys2Proof.Machine.State} {n : Nat} {m : Sys2Proof.Machine.Match} {g :
    Sys2Proof.Machine.Seg} : Keeps 1547557422942198283903802259 s (State.passEnd s n m g) := by
  unfold State.passEnd
  refine Keeps.ite ?_ ?_
  · refine Keeps.step ?_ State.modSq_keeps rfl
    refine Keeps.step ?_ State.count_keeps rfl
    exact Keeps.refl _ _
  · refine Keeps.ite ?_ ?_
    · refine Keeps.step ?_ State.endNext_keeps rfl
      refine Keeps.step ?_ State.count_keeps rfl
      exact Keeps.refl _ _
    · refine Keeps.ite ?_ ?_
      · refine Keeps.step ?_ State.modSq_keeps rfl
        refine Keeps.step ?_ State.wr_keeps (kb_k 309485009821345068724781056 rfl rfl)
        refine Keeps.step ?_ State.wr_keeps (kb_k 309485009821345068724781056 rfl rfl)
        refine Keeps.step ?_ State.count_keeps rfl
        exact Keeps.refl _ _
      · refine Keeps.ite ?_ ?_
        · refine Keeps.step ?_ State.modSq_keeps rfl
          refine Keeps.step ?_ State.count_keeps rfl
          exact Keeps.refl _ _
        · refine Keeps.ite ?_ ?_
          · refine Keeps.step ?_ State.modSq_keeps rfl
            refine Keeps.step ?_ State.modSq_keeps rfl
            refine Keeps.step ?_ State.wr_keeps (kb_k 309485009821345068724781056 rfl rfl)
            refine Keeps.step ?_ State.wr_keeps (kb_k 309485009821345068724781056 rfl rfl)
            refine Keeps.step ?_ State.count_keeps rfl
            exact Keeps.refl _ _
          · refine Keeps.ite ?_ ?_
            · refine Keeps.step ?_ State.modSq_keeps rfl
              refine Keeps.step ?_ State.takeJump_keeps rfl
              refine Keeps.step ?_ State.modSq_keeps rfl
              refine Keeps.step ?_ State.wr_keeps (kb_k 309485009821345068724781056 rfl rfl)
              refine Keeps.step ?_ State.wr_keeps (kb_k 309485009821345068724781056 rfl rfl)
              refine Keeps.step ?_ State.count_keeps rfl
              exact Keeps.refl _ _
            · refine Keeps.step ?_ State.endNext_keeps rfl
              refine Keeps.step ?_ State.modSq_keeps rfl
              refine Keeps.step ?_ State.wr_keeps (kb_k 309485009821345068724781056 rfl rfl)
              refine Keeps.step ?_ State.wr_keeps (kb_k 309485009821345068724781056 rfl rfl)
              refine Keeps.step ?_ State.count_keeps rfl
              exact Keeps.refl _ _

theorem State.segEnd_keeps {s : Sys2Proof.Machine.State} {n : Nat} : Keeps 256 s (State.segEnd s n) := by
  unfold State.segEnd
  refine Keeps.step ?_ State.modSq_keeps rfl
  exact Keeps.refl _ _

theorem State.decideBoundary_keeps {s : Sys2Proof.Machine.State} {n : Nat} {g : Sys2Proof.Machine.Seg} : Keeps
    1547557422942198283903802259 s (State.decideBoundary s n g) := by
  unfold State.decideBoundary
  split
  · refine Keeps.step ?_ State.endNext_keeps rfl
    exact Keeps.refl _ _
  · split
    · refine Keeps.step ?_ State.modSq_keeps rfl
      refine Keeps.step ?_ State.takeJump_keeps rfl
      refine Keeps.step ?_ State.noteFs_keeps rfl
      exact Keeps.refl _ _
    · exact Keeps.refl _ _
  · split
    · refine Keeps.step ?_ State.passEnd_keeps rfl
      exact Keeps.refl _ _
    · refine Keeps.step ?_ State.segEnd_keeps rfl
      refine Keeps.step ?_ State.noteWatch_keeps rfl
      exact Keeps.refl _ _

theorem State.afterBoundary_keeps {s : Sys2Proof.Machine.State} {n : Nat} : Keeps 1547425049106725343623905542 s
    (State.afterBoundary s n) := by
  unfold State.afterBoundary
  refine Keeps.ite ?_ ?_
  · exact Keeps.refl _ _
  · refine Keeps.ite ?_ ?_
    · refine Keeps.step ?_ State.modSq_keeps rfl
      refine Keeps.ite ?_ ?_
      · refine Keeps.step ?_ State.modSq_keeps rfl
        refine Keeps.step ?_ State.modSq_keeps rfl
        refine Keeps.step ?_ State.commitAtBoundary_keeps rfl
        exact Keeps.refl _ _
      · refine Keeps.step ?_ State.modSq_keeps rfl
        refine Keeps.step ?_ State.commitAtBoundary_keeps rfl
        exact Keeps.refl _ _
    · refine Keeps.ite ?_ ?_
      · refine Keeps.step ?_ State.modSq_keeps rfl
        refine Keeps.step ?_ State.modSq_keeps rfl
        refine Keeps.step ?_ State.commitAtBoundary_keeps rfl
        exact Keeps.refl _ _
      · refine Keeps.step ?_ State.modSq_keeps rfl
        refine Keeps.step ?_ State.commitAtBoundary_keeps rfl
        exact Keeps.refl _ _

theorem State.boundary_keeps {s : Sys2Proof.Machine.State} {n : Nat} : Keeps 1547557422942198283903802263 s
    (State.boundary s n) := by
  unfold State.boundary
  split
  · refine Keeps.step ?_ State.afterBoundary_keeps rfl
    refine Keeps.step ?_ State.decideBoundary_keeps rfl
    refine Keeps.step ?_ State.advanceTo_keeps rfl
    exact Keeps.refl _ _
  · exact Keeps.refl _ _

theorem execSegmentBoundary_keeps {n : Fin 32} {s : Sys2Proof.Machine.State} : ResKeeps tgtNext
    1547557422942198283903802263 s (execSegmentBoundary n s) := by
  unfold execSegmentBoundary
  refine ResKeeps.some rfl ?_
  refine Keeps.ite ?_ ?_
  · refine Keeps.step ?_ State.boundary_keeps rfl
    exact Keeps.refl _ _
  · exact Keeps.refl _ _

theorem State.vectorStart_keeps {s : Sys2Proof.Machine.State} {n : Nat} : Keeps 12070047756867930622693858199 s
    (State.vectorStart s n) := by
  unfold State.vectorStart
  refine Keeps.ite ?_ ?_
  · exact Keeps.refl _ _
  · refine Keeps.ite ?_ ?_
    · refine Keeps.step ?_ State.boundary_keeps rfl
      exact Keeps.refl _ _
    · refine Keeps.ite ?_ ?_
      · exact Keeps.refl _ _
      · refine Keeps.ite ?_ ?_
        · refine Keeps.step ?_ State.keepAlive_keeps rfl
          exact Keeps.refl _ _
        · split
          · refine Keeps.step ?_ State.noVector_keeps rfl
            exact Keeps.refl _ _
          · refine Keeps.ite ?_ ?_
            · refine Keeps.step ?_ State.streamVector_keeps rfl
              refine Keeps.step ?_ State.noteWatch_keeps rfl
              exact Keeps.refl _ _
            · refine Keeps.step ?_ State.residentVector_keeps rfl
              refine Keeps.step ?_ State.noteWatch_keeps rfl
              exact Keeps.refl _ _

theorem execVectorStart_keeps {n : Fin 32} {s : Sys2Proof.Machine.State} : ResKeeps tgtNext
    12070047756867930622693858199 s (execVectorStart n s) := by
  unfold execVectorStart
  refine ResKeeps.some rfl ?_
  refine Keeps.step ?_ State.vectorStart_keeps rfl
  exact Keeps.refl _ _

theorem State.takePause_keeps {s : Sys2Proof.Machine.State} {n : Nat} {acc : Nat} : Keeps 256 s
    (State.takePause s n acc) := by
  unfold State.takePause
  refine Keeps.ite ?_ ?_
  · exact Keeps.refl _ _
  · refine Keeps.step ?_ State.modSq_keeps rfl
    exact Keeps.refl _ _

theorem State.takeResume_keeps {s : Sys2Proof.Machine.State} {n : Nat} {acc : Nat} : Keeps 256 s
    (State.takeResume s n acc) := by
  unfold State.takeResume
  refine Keeps.ite ?_ ?_
  · exact Keeps.refl _ _
  · refine Keeps.step ?_ State.modSq_keeps rfl
    exact Keeps.refl _ _

theorem State.abortSite_keeps {s : Sys2Proof.Machine.State} {n : Nat} : Keeps 16480813683518881459568630679 s
    (State.abortSite s n) := by
  unfold State.abortSite
  refine Keeps.ite ?_ ?_
  · refine Keeps.ite ?_ ?_
    · refine Keeps.step ?_ State.wr_keeps (kb_k 309485009821345068724781056 rfl rfl)
      refine Keeps.step ?_ State.endNext_keeps rfl
      exact Keeps.refl _ _
    · refine Keeps.step ?_ State.endNext_keeps rfl
      exact Keeps.refl _ _
  · refine Keeps.ite ?_ ?_
    · refine Keeps.step ?_ State.endArm_keeps rfl
      exact Keeps.refl _ _
    · exact Keeps.refl _ _

theorem State.hostTrigger_keeps {s : Sys2Proof.Machine.State} {n : Nat} : Keeps 309485009821345068724781314 s
    (State.hostTrigger s n) := by
  unfold State.hostTrigger
  split
  · refine Keeps.ite ?_ ?_
    · refine Keeps.step ?_ State.wr_keeps (kb_k 309485009821345068724781056 rfl rfl)
      refine Keeps.step ?_ State.modSq_keeps rfl
      exact Keeps.refl _ _
    · refine Keeps.step ?_ State.wr_keeps (kb_k 309485009821345068724781056 rfl rfl)
      exact Keeps.refl _ _
  · refine Keeps.step ?_ State.wr_keeps (kb_k 309485009821345068724781056 rfl rfl)
    exact Keeps.refl _ _

theorem State.sqCtlWrite_keeps {s : Sys2Proof.Machine.State} {r : Sys2Proof.Requester} {n : Nat} {word : Nat} :
    Keeps 16480823128251847202080283543 s (State.sqCtlWrite s r n word) := by
  unfold State.sqCtlWrite
  refine State.writeWith_keeps ?_ (kb_k 309485009821345068724781056 rfl rfl) ?_
  · exact Keeps.refl _ _
  · intro y0_ h_
    refine Keeps.ite ?_ ?_
    · refine Keeps.step ?_ State.hostTrigger_keeps rfl
      refine Keeps.ite ?_ ?_
      · refine Keeps.step ?_ State.abortSite_keeps rfl
        refine Keeps.ite ?_ ?_
        · refine Keeps.step ?_ State.spanTell_keeps rfl
          refine Keeps.step ?_ State.takeResume_keeps rfl
          refine Keeps.ite ?_ ?_
          · refine Keeps.step ?_ State.spanTell_keeps rfl
            refine Keeps.step ?_ State.takePause_keeps rfl
            refine Keeps.ite ?_ ?_
            · refine Keeps.step ?_ State.startSite_keeps rfl
              with_reducible assumption
            · with_reducible assumption
          · refine Keeps.ite ?_ ?_
            · refine Keeps.step ?_ State.startSite_keeps rfl
              with_reducible assumption
            · with_reducible assumption
        · refine Keeps.ite ?_ ?_
          · refine Keeps.step ?_ State.spanTell_keeps rfl
            refine Keeps.step ?_ State.takePause_keeps rfl
            refine Keeps.ite ?_ ?_
            · refine Keeps.step ?_ State.startSite_keeps rfl
              with_reducible assumption
            · with_reducible assumption
          · refine Keeps.ite ?_ ?_
            · refine Keeps.step ?_ State.startSite_keeps rfl
              with_reducible assumption
            · with_reducible assumption
      · refine Keeps.ite ?_ ?_
        · refine Keeps.step ?_ State.spanTell_keeps rfl
          refine Keeps.step ?_ State.takeResume_keeps rfl
          refine Keeps.ite ?_ ?_
          · refine Keeps.step ?_ State.spanTell_keeps rfl
            refine Keeps.step ?_ State.takePause_keeps rfl
            refine Keeps.ite ?_ ?_
            · refine Keeps.step ?_ State.startSite_keeps rfl
              with_reducible assumption
            · with_reducible assumption
          · refine Keeps.ite ?_ ?_
            · refine Keeps.step ?_ State.startSite_keeps rfl
              with_reducible assumption
            · with_reducible assumption
        · refine Keeps.ite ?_ ?_
          · refine Keeps.step ?_ State.spanTell_keeps rfl
            refine Keeps.step ?_ State.takePause_keeps rfl
            refine Keeps.ite ?_ ?_
            · refine Keeps.step ?_ State.startSite_keeps rfl
              with_reducible assumption
            · with_reducible assumption
          · refine Keeps.ite ?_ ?_
            · refine Keeps.step ?_ State.startSite_keeps rfl
              with_reducible assumption
            · with_reducible assumption
    · refine Keeps.ite ?_ ?_
      · refine Keeps.step ?_ State.abortSite_keeps rfl
        refine Keeps.ite ?_ ?_
        · refine Keeps.step ?_ State.spanTell_keeps rfl
          refine Keeps.step ?_ State.takeResume_keeps rfl
          refine Keeps.ite ?_ ?_
          · refine Keeps.step ?_ State.spanTell_keeps rfl
            refine Keeps.step ?_ State.takePause_keeps rfl
            refine Keeps.ite ?_ ?_
            · refine Keeps.step ?_ State.startSite_keeps rfl
              with_reducible assumption
            · with_reducible assumption
          · refine Keeps.ite ?_ ?_
            · refine Keeps.step ?_ State.startSite_keeps rfl
              with_reducible assumption
            · with_reducible assumption
        · refine Keeps.ite ?_ ?_
          · refine Keeps.step ?_ State.spanTell_keeps rfl
            refine Keeps.step ?_ State.takePause_keeps rfl
            refine Keeps.ite ?_ ?_
            · refine Keeps.step ?_ State.startSite_keeps rfl
              with_reducible assumption
            · with_reducible assumption
          · refine Keeps.ite ?_ ?_
            · refine Keeps.step ?_ State.startSite_keeps rfl
              with_reducible assumption
            · with_reducible assumption
      · refine Keeps.ite ?_ ?_
        · refine Keeps.step ?_ State.spanTell_keeps rfl
          refine Keeps.step ?_ State.takeResume_keeps rfl
          refine Keeps.ite ?_ ?_
          · refine Keeps.step ?_ State.spanTell_keeps rfl
            refine Keeps.step ?_ State.takePause_keeps rfl
            refine Keeps.ite ?_ ?_
            · refine Keeps.step ?_ State.startSite_keeps rfl
              with_reducible assumption
            · with_reducible assumption
          · refine Keeps.ite ?_ ?_
            · refine Keeps.step ?_ State.startSite_keeps rfl
              with_reducible assumption
            · with_reducible assumption
        · refine Keeps.ite ?_ ?_
          · refine Keeps.step ?_ State.spanTell_keeps rfl
            refine Keeps.step ?_ State.takePause_keeps rfl
            refine Keeps.ite ?_ ?_
            · refine Keeps.step ?_ State.startSite_keeps rfl
              with_reducible assumption
            · with_reducible assumption
          · refine Keeps.ite ?_ ?_
            · refine Keeps.step ?_ State.startSite_keeps rfl
              with_reducible assumption
            · with_reducible assumption

theorem execSqCtlStart_keeps {r : Sys2Proof.Requester} {n : Fin 32} {s : Sys2Proof.Machine.State} : ResKeeps
    tgtNext 16480823128251847202080283543 s (execSqCtlStart r n s) := by
  unfold execSqCtlStart
  refine ResKeeps.some rfl ?_
  refine Keeps.step ?_ State.sqCtlWrite_keeps rfl
  exact Keeps.refl _ _

theorem execSqCtlPause_keeps {r : Sys2Proof.Requester} {n : Fin 32} {s : Sys2Proof.Machine.State} : ResKeeps
    tgtNext 16480823128251847202080283543 s (execSqCtlPause r n s) := by
  unfold execSqCtlPause
  refine ResKeeps.some rfl ?_
  refine Keeps.step ?_ State.sqCtlWrite_keeps rfl
  exact Keeps.refl _ _

theorem execSqCtlResume_keeps {r : Sys2Proof.Requester} {n : Fin 32} {s : Sys2Proof.Machine.State} : ResKeeps
    tgtNext 16480823128251847202080283543 s (execSqCtlResume r n s) := by
  unfold execSqCtlResume
  refine ResKeeps.some rfl ?_
  refine Keeps.step ?_ State.sqCtlWrite_keeps rfl
  exact Keeps.refl _ _

theorem execSqCtlAbort_keeps {r : Sys2Proof.Requester} {n : Fin 32} {s : Sys2Proof.Machine.State} : ResKeeps
    tgtNext 16480823128251847202080283543 s (execSqCtlAbort r n s) := by
  unfold execSqCtlAbort
  refine ResKeeps.some rfl ?_
  refine Keeps.step ?_ State.sqCtlWrite_keeps rfl
  exact Keeps.refl _ _

theorem execSqCtlHtrig_keeps {r : Sys2Proof.Requester} {n : Fin 32} {s : Sys2Proof.Machine.State} : ResKeeps
    tgtNext 16480823128251847202080283543 s (execSqCtlHtrig r n s) := by
  unfold execSqCtlHtrig
  refine ResKeeps.some rfl ?_
  refine Keeps.step ?_ State.sqCtlWrite_keeps rfl
  exact Keeps.refl _ _

theorem State.takeHjump_keeps {s : Sys2Proof.Machine.State} {n : Nat} {target : Nat} {acc : Nat} : Keeps
    309485009821345068724781314 s (State.takeHjump s n target acc) := by
  unfold State.takeHjump
  refine Keeps.step ?_ State.modSq_keeps rfl
  refine Keeps.ite ?_ ?_
  · refine Keeps.step ?_ State.wr_keeps (kb_k 309485009821345068724781056 rfl rfl)
    exact Keeps.refl _ _
  · exact Keeps.refl _ _

theorem State.hjmpWrite_keeps {s : Sys2Proof.Machine.State} {r : Sys2Proof.Requester} {n : Nat} {word : Nat} :
    Keeps 309522788753208028034046214 s (State.hjmpWrite s r n word) := by
  unfold State.hjmpWrite
  refine State.writeWith_keeps ?_ (kb_k 309485009821345068724781056 rfl rfl) ?_
  · exact Keeps.refl _ _
  · intro y0_ h_
    refine Keeps.ite ?_ ?_
    · refine Keeps.step ?_ State.wr_keeps (kb_k 309485009821345068724781056 rfl rfl)
      with_reducible assumption
    · refine Keeps.step ?_ State.spanTell_keeps rfl
      refine Keeps.step ?_ State.takeHjump_keeps rfl
      with_reducible assumption

theorem execSqHjmpWrite_keeps {r : Sys2Proof.Requester} {n : Fin 32} {v : Sys2Proof.Word} {s :
    Sys2Proof.Machine.State} : ResKeeps tgtNext 309522788753208028034046214 s (execSqHjmpWrite r n v s) := by
  unfold execSqHjmpWrite
  refine ResKeeps.some rfl ?_
  refine Keeps.step ?_ State.hjmpWrite_keeps rfl
  exact Keeps.refl _ _

theorem execPauseApply_keeps {n : Fin 32} {s : Sys2Proof.Machine.State} : ResKeeps tgtNext 257 s
    (execPauseApply n s) := by
  unfold execPauseApply
  refine ResKeeps.ite ?_ ?_
  · refine ResKeeps.some rfl ?_
    refine Keeps.step ?_ State.modSq_keeps rfl
    refine Keeps.step ?_ State.advanceTo_keeps rfl
    exact Keeps.refl _ _
  · refine ResKeeps.some rfl ?_
    exact Keeps.refl _ _

theorem execResumeApply_keeps {n : Fin 32} {s : Sys2Proof.Machine.State} : ResKeeps tgtNext 257 s
    (execResumeApply n s) := by
  unfold execResumeApply
  refine ResKeeps.ite ?_ ?_
  · refine ResKeeps.some rfl ?_
    refine Keeps.step ?_ State.modSq_keeps rfl
    refine Keeps.step ?_ State.advanceTo_keeps rfl
    exact Keeps.refl _ _
  · refine ResKeeps.some rfl ?_
    exact Keeps.refl _ _

theorem State.applyHjump_keeps {s : Sys2Proof.Machine.State} {n : Nat} {target : Nat} : Keeps
    1547462975612540890462100355 s (State.applyHjump s n target) := by
  unfold State.applyHjump
  refine Keeps.step ?_ State.modSq_keeps rfl
  refine Keeps.ite ?_ ?_
  · refine Keeps.step ?_ State.wr_keeps (kb_k 309485009821345068724781056 rfl rfl)
    refine Keeps.step ?_ State.withdraw_keeps rfl
    refine Keeps.step ?_ State.wr_keeps (kb_k 309485009821345068724781056 rfl rfl)
    refine Keeps.step ?_ State.takeJump_keeps rfl
    refine Keeps.ite ?_ ?_
    · refine Keeps.step ?_ State.wr_keeps (kb_k 309485009821345068724781056 rfl rfl)
      refine Keeps.step ?_ State.advanceTo_keeps rfl
      exact Keeps.refl _ _
    · refine Keeps.step ?_ State.advanceTo_keeps rfl
      exact Keeps.refl _ _
  · refine Keeps.step ?_ State.withdraw_keeps rfl
    refine Keeps.step ?_ State.wr_keeps (kb_k 309485009821345068724781056 rfl rfl)
    refine Keeps.step ?_ State.takeJump_keeps rfl
    refine Keeps.ite ?_ ?_
    · refine Keeps.step ?_ State.wr_keeps (kb_k 309485009821345068724781056 rfl rfl)
      refine Keeps.step ?_ State.advanceTo_keeps rfl
      exact Keeps.refl _ _
    · refine Keeps.step ?_ State.advanceTo_keeps rfl
      exact Keeps.refl _ _

theorem execHjumpApply_keeps {n : Fin 32} {s : Sys2Proof.Machine.State} : ResKeeps tgtNext
    1547462975612540890462100355 s (execHjumpApply n s) := by
  unfold execHjumpApply
  split
  · refine ResKeeps.ite ?_ ?_
    · refine ResKeeps.some rfl ?_
      refine Keeps.step ?_ State.applyHjump_keeps rfl
      exact Keeps.refl _ _
    · refine ResKeeps.some rfl ?_
      exact Keeps.refl _ _
  · refine ResKeeps.some rfl ?_
    exact Keeps.refl _ _

theorem execWaitResume_keeps {n : Fin 32} {s : Sys2Proof.Machine.State} : ResKeeps tgtNext 257 s
    (execWaitResume n s) := by
  unfold execWaitResume
  refine ResKeeps.ite ?_ ?_
  · refine ResKeeps.some rfl ?_
    refine Keeps.step ?_ State.modSq_keeps rfl
    refine Keeps.step ?_ State.advanceTo_keeps rfl
    exact Keeps.refl _ _
  · refine ResKeeps.some rfl ?_
    exact Keeps.refl _ _

theorem State.waitTimeout_keeps {s : Sys2Proof.Machine.State} {n : Nat} {w : Sys2Proof.Machine.Wait} {cause :
    Nat} : Keeps 1547557422942198283903802259 s (State.waitTimeout s n w cause) := by
  unfold State.waitTimeout
  refine Keeps.ite ?_ ?_
  · refine Keeps.step ?_ State.endNext_keeps rfl
    refine Keeps.step ?_ State.withdraw_keeps rfl
    exact Keeps.refl _ _
  · refine Keeps.step ?_ State.modSq_keeps rfl
    refine Keeps.step ?_ State.advanceTo_keeps rfl
    refine Keeps.step ?_ State.withdraw_keeps rfl
    exact Keeps.refl _ _

theorem execWaittTimeout_keeps {n : Fin 32} {s : Sys2Proof.Machine.State} : ResKeeps tgtNext
    1547557422942198283903802259 s (execWaittTimeout n s) := by
  unfold execWaittTimeout
  split
  · split
    · refine ResKeeps.ite ?_ ?_
      · refine ResKeeps.some rfl ?_
        refine Keeps.step ?_ State.waitTimeout_keeps rfl
        exact Keeps.refl _ _
      · refine ResKeeps.some rfl ?_
        exact Keeps.refl _ _
    · refine ResKeeps.some rfl ?_
      exact Keeps.refl _ _
  · refine ResKeeps.some rfl ?_
    exact Keeps.refl _ _

theorem execRdvTimeout_keeps {n : Fin 32} {s : Sys2Proof.Machine.State} : ResKeeps tgtNext
    1547557422942198283903802259 s (execRdvTimeout n s) := by
  unfold execRdvTimeout
  split
  · try extract_lets
    split
    · refine ResKeeps.ite ?_ ?_
      · refine ResKeeps.some rfl ?_
        refine Keeps.step ?_ State.waitTimeout_keeps rfl
        exact Keeps.refl _ _
      · refine ResKeeps.some rfl ?_
        exact Keeps.refl _ _
    · refine ResKeeps.ite ?_ ?_
      · refine ResKeeps.some rfl ?_
        refine Keeps.step ?_ State.waitTimeout_keeps rfl
        exact Keeps.refl _ _
      · refine ResKeeps.some rfl ?_
        exact Keeps.refl _ _
    · refine ResKeeps.some rfl ?_
      exact Keeps.refl _ _
  · refine ResKeeps.some rfl ?_
    exact Keeps.refl _ _

theorem State.releaseWaits_keeps {s : Sys2Proof.Machine.State} {t : Nat} {sel : Nat → Sys2Proof.Machine.WaitKind
    → Bool} : Keeps 256 s (State.releaseWaits s t sel) := by
  unfold State.releaseWaits
  refine Keeps.foldl _ _ ?_ ?_
  · exact Keeps.refl _ _
  · intro y_ a_ h_
    split
    · refine Keeps.ite ?_ ?_
      · refine Keeps.step ?_ State.modSq_keeps rfl
        with_reducible assumption
      · with_reducible assumption
    · with_reducible assumption

theorem State.rgRelease_keeps {s : Sys2Proof.Machine.State} {g : Nat} : Keeps 147573952589676413315 s
    (State.rgRelease s g) := by
  unfold State.rgRelease
  refine Keeps.mkUpd ?_ ⟨Or.inr rfl, rfl, Or.inr rfl, Or.inr rfl, Or.inr rfl, Or.inr rfl, Or.inr rfl, Or.inl
      rfl, Or.inr rfl, Or.inr rfl, Or.inr rfl, Or.inr rfl, Or.inr rfl, Or.inr rfl, Or.inr rfl, Or.inr rfl, Or.inr
      rfl, Or.inr rfl, Or.inr rfl, Or.inr rfl, Or.inr rfl, Or.inr rfl, Or.inr rfl, Or.inr rfl, Or.inr rfl, Or.inr
      rfl, Or.inr rfl, Or.inr rfl, Or.inr rfl, Or.inr rfl, Or.inr rfl, Or.inr rfl, Or.inr rfl, Or.inr rfl, Or.inr
      rfl, Or.inr rfl, Or.inr rfl, Or.inr rfl, Or.inr rfl, Or.inr rfl, Or.inr rfl, Or.inr rfl, Or.inr rfl, Or.inr
      rfl, Or.inr rfl, Or.inr rfl, Nat.le_refl _, trivial, fun w => w, fun w => w, fun w => w, fun w => w, fun w =>
      w, fun w => w, fun w => w, fun w => w, fun w => w, fun w => w, fun w => w, fun w => w, fun w => w⟩
  refine Keeps.step ?_ State.wr_keeps (kb_k 147573952589676412928 rfl rfl)
  refine Keeps.step ?_ State.releaseWaits_keeps rfl
  refine Keeps.step ?_ State.advanceTo_keeps rfl
  exact Keeps.refl _ _

theorem execRendezvousRelease_keeps {g : Fin 16} {s : Sys2Proof.Machine.State} : ResKeeps tgtNext
    147573952589676413315 s (execRendezvousRelease g s) := by
  unfold execRendezvousRelease
  refine ResKeeps.some rfl ?_
  refine Keeps.ite ?_ ?_
  · refine Keeps.step ?_ State.rgRelease_keeps rfl
    exact Keeps.refl _ _
  · exact Keeps.refl _ _

theorem execRendezvousStall_keeps {s : Sys2Proof.Machine.State} : ResKeeps tgtNext 147573952589676413186 s
    (execRendezvousStall s) := by
  unfold execRendezvousStall
  refine ResKeeps.some rfl ?_
  refine Keeps.foldl _ _ ?_ ?_
  · exact Keeps.refl _ _
  · intro y_ a_ h_
    refine Keeps.ite ?_ ?_
    · refine Keeps.step ?_ State.modSq_keeps rfl
      refine Keeps.step ?_ State.wr_keeps (kb_k 147573952589676412928 rfl rfl)
      with_reducible assumption
    · refine Keeps.step ?_ State.wr_keeps (kb_k 147573952589676412928 rfl rfl)
      with_reducible assumption

theorem State.drain_keeps {s : Sys2Proof.Machine.State} {n : Nat} : Keeps 16480737978081202955568234502 s
    (State.drain s n) := by
  unfold State.drain
  refine Keeps.step ?_ State.burstDone_keeps rfl
  refine Keeps.step ?_ State.exportEvent_keeps rfl
  refine Keeps.step ?_ State.glnMark_keeps rfl
  refine Keeps.step ?_ State.wr_keeps (kb_k 309485009821345068724781056 rfl rfl)
  refine Keeps.step ?_ State.endVectors_keeps rfl
  exact Keeps.refl _ _

theorem execDrain_keeps {n : Fin 32} {s : Sys2Proof.Machine.State} : ResKeeps tgtNext
    16480737978081202955568234502 s (execDrain n s) := by
  unfold execDrain
  refine ResKeeps.some rfl ?_
  refine Keeps.ite ?_ ?_
  · refine Keeps.step ?_ State.drain_keeps rfl
    exact Keeps.refl _ _
  · exact Keeps.refl _ _

theorem State.flagWrite_keeps {s : Sys2Proof.Machine.State} {r : Sys2Proof.Requester} {i : Nat} {op : Nat} {word
    : Nat} : Keeps 37926505815548985677958 s (State.flagWrite s r i op word) := by
  unfold State.flagWrite
  refine State.writeWith_keeps ?_ (kb_k 147573952589676412928 rfl rfl) ?_
  · exact Keeps.refl _ _
  · intro y0_ h_
    refine Keeps.foldl _ _ ?_ ?_
    · with_reducible assumption
    · intro y_ a_ h_
      refine Keeps.step ?_ State.changeFlag_keeps rfl
      with_reducible assumption

theorem execSiteFlagSet_keeps {r : Sys2Proof.Requester} {i : Fin 2} {v : Sys2Proof.Word} {s :
    Sys2Proof.Machine.State} : ResKeeps tgtNext 37926505815548985677958 s (execSiteFlagSet r i v s) := by
  unfold execSiteFlagSet
  refine ResKeeps.some rfl ?_
  refine Keeps.step ?_ State.flagWrite_keeps rfl
  exact Keeps.refl _ _

theorem execSiteFlagClear_keeps {r : Sys2Proof.Requester} {i : Fin 2} {v : Sys2Proof.Word} {s :
    Sys2Proof.Machine.State} : ResKeeps tgtNext 37926505815548985677958 s (execSiteFlagClear r i v s) := by
  unfold execSiteFlagClear
  refine ResKeeps.some rfl ?_
  refine Keeps.step ?_ State.flagWrite_keeps rfl
  exact Keeps.refl _ _

theorem State.applyFlag_keeps {s : Sys2Proof.Machine.State} {e : Sys2Proof.Machine.SharedEvent} : Keeps
    147573952589676413059 s (State.applyFlag s e) := by
  unfold State.applyFlag
  refine Keeps.step ?_ State.logFlag_keeps rfl
  refine Keeps.step ?_ State.putFlag_keeps rfl
  refine Keeps.mkUpd ?_ ⟨Or.inr rfl, rfl, Or.inr rfl, Or.inr rfl, Or.inr rfl, Or.inr rfl, Or.inr rfl, Or.inl
      rfl, Or.inr rfl, Or.inr rfl, Or.inr rfl, Or.inr rfl, Or.inr rfl, Or.inr rfl, Or.inr rfl, Or.inr rfl, Or.inr
      rfl, Or.inr rfl, Or.inr rfl, Or.inr rfl, Or.inr rfl, Or.inr rfl, Or.inr rfl, Or.inr rfl, Or.inr rfl, Or.inr
      rfl, Or.inr rfl, Or.inr rfl, Or.inr rfl, Or.inr rfl, Or.inr rfl, Or.inr rfl, Or.inr rfl, Or.inr rfl, Or.inr
      rfl, Or.inr rfl, Or.inr rfl, Or.inr rfl, Or.inr rfl, Or.inr rfl, Or.inr rfl, Or.inr rfl, Or.inr rfl, Or.inr
      rfl, Or.inr rfl, Or.inr rfl, Nat.le_refl _, trivial, fun w => w, fun w => w, fun w => w, fun w => w, fun w =>
      w, fun w => w, fun w => w, fun w => w, fun w => w, fun w => w, fun w => w, fun w => w, fun w => w⟩
  refine Keeps.step ?_ State.advanceTo_keeps rfl
  exact Keeps.refl _ _

theorem execSharedFlagApply_keeps {s : Sys2Proof.Machine.State} : ResKeeps tgtNext 147573952589676413059 s
    (execSharedFlagApply s) := by
  unfold execSharedFlagApply
  split
  · refine ResKeeps.some rfl ?_
    refine Keeps.step ?_ State.applyFlag_keeps rfl
    exact Keeps.refl _ _
  · refine ResKeeps.some rfl ?_
    exact Keeps.refl _ _

theorem State.atPulseWrite_keeps {s : Sys2Proof.Machine.State} {r : Sys2Proof.Requester} {word : Nat} : Keeps
    37926505815548985677958 s (State.atPulseWrite s r word) := by
  unfold State.atPulseWrite
  refine State.writeWith_keeps ?_ (kb_k 147573952589676412928 rfl rfl) ?_
  · exact Keeps.refl _ _
  · intro y0_ h_
    refine Keeps.foldl _ _ ?_ ?_
    · with_reducible assumption
    · intro y_ a_ h_
      refine Keeps.step ?_ State.raiseAt_keeps rfl
      with_reducible assumption

theorem execAtPulse_keeps {r : Sys2Proof.Requester} {v : Sys2Proof.Word} {s : Sys2Proof.Machine.State} :
    ResKeeps tgtNext 37926505815548985677958 s (execAtPulse r v s) := by
  unfold execAtPulse
  refine ResKeeps.some rfl ?_
  refine Keeps.step ?_ State.atPulseWrite_keeps rfl
  exact Keeps.refl _ _

theorem State.applyAt_keeps {s : Sys2Proof.Machine.State} {e : Sys2Proof.Machine.SharedEvent} : Keeps 8590590337
    s (State.applyAt s e) := by
  unfold State.applyAt
  refine Keeps.step ?_ State.releaseWaits_keeps rfl
  refine Keeps.step ?_ State.acqEvent_keeps rfl
  refine Keeps.mkUpd ?_ ⟨Or.inr rfl, rfl, Or.inr rfl, Or.inr rfl, Or.inr rfl, Or.inr rfl, Or.inr rfl, Or.inl
      rfl, Or.inr rfl, Or.inr rfl, Or.inr rfl, Or.inr rfl, Or.inr rfl, Or.inr rfl, Or.inr rfl, Or.inr rfl, Or.inr
      rfl, Or.inl rfl, Or.inr rfl, Or.inr rfl, Or.inr rfl, Or.inr rfl, Or.inr rfl, Or.inr rfl, Or.inr rfl, Or.inr
      rfl, Or.inr rfl, Or.inr rfl, Or.inr rfl, Or.inr rfl, Or.inr rfl, Or.inr rfl, Or.inr rfl, Or.inr rfl, Or.inr
      rfl, Or.inr rfl, Or.inr rfl, Or.inr rfl, Or.inr rfl, Or.inr rfl, Or.inr rfl, Or.inr rfl, Or.inr rfl, Or.inr
      rfl, Or.inr rfl, Or.inr rfl, Nat.le_refl _, trivial, fun w => w, fun w => w, fun w => w, fun w => w, fun w =>
      w, fun w => w, fun w => w, fun w => w, fun w => w, fun w => w, fun w => w, fun w => w, fun w => w⟩
  refine Keeps.ofRes (tgt := tgtSnd) ?_ rfl rfl
  refine ResKeeps.step ?_ State.draw_keeps rfl
  refine Keeps.step ?_ State.advanceTo_keeps rfl
  exact Keeps.refl _ _

theorem execAtLineApply_keeps {s : Sys2Proof.Machine.State} : ResKeeps tgtNext 8590590337 s (execAtLineApply s) := by
  unfold execAtLineApply
  split
  · refine ResKeeps.some rfl ?_
    refine Keeps.step ?_ State.applyAt_keeps rfl
    exact Keeps.refl _ _
  · refine ResKeeps.some rfl ?_
    exact Keeps.refl _ _

end Sys2Proof.Machine
end

