-- ==== Sys2Proof/Laws/FrameTime.lean ====
section
/-! SUPPORT. What each function of Machine/Time.lean may change: one mask of `Keeps` for each. -/

namespace Sys2Proof.Machine

open Reg

theorem State.newPiece_keeps {s : Sys2Proof.Machine.State} {k : Nat} {tb : Nat} {inc : Nat} : Keeps 1073741824 s
    (State.newPiece s k tb inc) := by
  unfold State.newPiece
  refine Keeps.mkUpd ?_ ⟨Or.inr rfl, rfl, Or.inr rfl, Or.inr rfl, Or.inr rfl, Or.inr rfl, Or.inr rfl, Or.inr
      rfl, Or.inr rfl, Or.inr rfl, Or.inr rfl, Or.inr rfl, Or.inr rfl, Or.inr rfl, Or.inr rfl, Or.inr rfl, Or.inr
      rfl, Or.inr rfl, Or.inr rfl, Or.inr rfl, Or.inr rfl, Or.inr rfl, Or.inr rfl, Or.inr rfl, Or.inr rfl, Or.inr
      rfl, Or.inr rfl, Or.inr rfl, Or.inr rfl, Or.inr rfl, Or.inl rfl, Or.inr rfl, Or.inr rfl, Or.inr rfl, Or.inr
      rfl, Or.inr rfl, Or.inr rfl, Or.inr rfl, Or.inr rfl, Or.inr rfl, Or.inr rfl, Or.inr rfl, Or.inr rfl, Or.inr
      rfl, Or.inr rfl, Or.inr rfl, Nat.le_refl _, trivial, fun w => w, fun w => w, fun w => w, fun w => w, fun w =>
      w, fun w => w, fun w => w, fun w => w, fun w => w, fun w => w, fun w => w, fun w => w, fun w => w⟩
  exact Keeps.refl _ _

theorem State.putAdj_keeps {s : Sys2Proof.Machine.State} {a : Int} : Keeps 9444732965739290427394 s
    (State.putAdj s a) := by
  unfold State.putAdj
  refine Keeps.step ?_ State.wr_keeps (kb_k 9444732965739290427392 rfl rfl)
  refine Keeps.step ?_ State.wr_keeps (kb_k 9444732965739290427392 rfl rfl)
  exact Keeps.refl _ _

theorem State.setAdj_keeps {s : Sys2Proof.Machine.State} {a : Int} {k : Nat} : Keeps 9444732965740364169218 s
    (State.setAdj s a k) := by
  unfold State.setAdj
  refine Keeps.step ?_ State.putAdj_keeps rfl
  refine Keeps.step ?_ State.newPiece_keeps rfl
  exact Keeps.refl _ _

theorem State.newAdj_keeps {s : Sys2Proof.Machine.State} {a : Int} : Keeps 47223664828697525950466 s
    (State.newAdj s a) := by
  unfold State.newAdj
  refine Keeps.ite ?_ ?_
  · refine Keeps.mkUpd ?_ ⟨Or.inr rfl, rfl, Or.inr rfl, Or.inr rfl, Or.inr rfl, Or.inr rfl, Or.inr rfl, Or.inr
      rfl, Or.inr rfl, Or.inr rfl, Or.inr rfl, Or.inr rfl, Or.inr rfl, Or.inr rfl, Or.inr rfl, Or.inr rfl, Or.inr
      rfl, Or.inr rfl, Or.inr rfl, Or.inr rfl, Or.inr rfl, Or.inr rfl, Or.inr rfl, Or.inr rfl, Or.inr rfl, Or.inr
      rfl, Or.inr rfl, Or.inr rfl, Or.inr rfl, Or.inr rfl, Or.inl rfl, Or.inr rfl, Or.inr rfl, Or.inr rfl, Or.inr
      rfl, Or.inr rfl, Or.inr rfl, Or.inr rfl, Or.inr rfl, Or.inr rfl, Or.inr rfl, Or.inr rfl, Or.inr rfl, Or.inr
      rfl, Or.inr rfl, Or.inr rfl, Nat.le_refl _, trivial, fun w => w, fun w => w, fun w => w, fun w => w, fun w =>
      w, fun w => w, fun w => w, fun w => w, fun w => w, fun w => w, fun w => w, fun w => w, fun w => w⟩
    refine Keeps.step ?_ State.amlSend_keeps rfl
    exact Keeps.refl _ _
  · refine Keeps.step ?_ State.setAdj_keeps rfl
    exact Keeps.refl _ _

theorem State.applySharedAdj_keeps {s : Sys2Proof.Machine.State} {a : Int} {t : Nat} {rest : List (Int × Nat)} :
    Keeps 9444732965740364169219 s (State.applySharedAdj s a t rest) := by
  unfold State.applySharedAdj
  refine Keeps.step ?_ State.setAdj_keeps rfl
  refine Keeps.mkUpd ?_ ⟨Or.inr rfl, rfl, Or.inr rfl, Or.inr rfl, Or.inr rfl, Or.inr rfl, Or.inr rfl, Or.inr
      rfl, Or.inr rfl, Or.inr rfl, Or.inr rfl, Or.inr rfl, Or.inr rfl, Or.inr rfl, Or.inr rfl, Or.inr rfl, Or.inr
      rfl, Or.inr rfl, Or.inr rfl, Or.inr rfl, Or.inr rfl, Or.inr rfl, Or.inr rfl, Or.inr rfl, Or.inr rfl, Or.inr
      rfl, Or.inr rfl, Or.inr rfl, Or.inr rfl, Or.inr rfl, Or.inl rfl, Or.inr rfl, Or.inr rfl, Or.inr rfl, Or.inr
      rfl, Or.inr rfl, Or.inr rfl, Or.inr rfl, Or.inr rfl, Or.inr rfl, Or.inr rfl, Or.inr rfl, Or.inr rfl, Or.inr
      rfl, Or.inr rfl, Or.inr rfl, Nat.le_refl _, trivial, fun w => w, fun w => w, fun w => w, fun w => w, fun w =>
      w, fun w => w, fun w => w, fun w => w, fun w => w, fun w => w, fun w => w, fun w => w, fun w => w⟩
  refine Keeps.step ?_ State.advanceTo_keeps rfl
  exact Keeps.refl _ _

theorem execSharedAdjApply_keeps {s : Sys2Proof.Machine.State} : ResKeeps tgtNext 9444732965740364169219 s
    (execSharedAdjApply s) := by
  unfold execSharedAdjApply
  split
  · refine ResKeeps.some rfl ?_
    refine Keeps.step ?_ State.applySharedAdj_keeps rfl
    exact Keeps.refl _ _
  · refine ResKeeps.some rfl ?_
    exact Keeps.refl _ _

theorem State.readNow_keeps {s : Sys2Proof.Machine.State} : Keeps 18253611008 s (State.readNow s) := by
  unfold State.readNow
  refine Keeps.ite ?_ ?_
  · refine Keeps.mkUpd ?_ ⟨Or.inr rfl, rfl, Or.inr rfl, Or.inr rfl, Or.inr rfl, Or.inr rfl, Or.inr rfl, Or.inr
      rfl, Or.inr rfl, Or.inr rfl, Or.inr rfl, Or.inr rfl, Or.inr rfl, Or.inr rfl, Or.inr rfl, Or.inr rfl, Or.inr
      rfl, Or.inr rfl, Or.inr rfl, Or.inr rfl, Or.inr rfl, Or.inr rfl, Or.inr rfl, Or.inr rfl, Or.inr rfl, Or.inr
      rfl, Or.inr rfl, Or.inr rfl, Or.inr rfl, Or.inr rfl, Or.inr rfl, Or.inr rfl, Or.inr rfl, Or.inr rfl, Or.inl
      rfl, Or.inr rfl, Or.inr rfl, Or.inr rfl, Or.inr rfl, Or.inr rfl, Or.inr rfl, Or.inr rfl, Or.inr rfl, Or.inr
      rfl, Or.inr rfl, Or.inr rfl, Nat.le_refl _, trivial, fun w => w, fun w => w, fun w => w, fun w => w, fun w =>
      w, fun w => w, fun w => w, fun w => w, fun w => w, fun w => w, fun w => w, fun w => w, fun w => w⟩
    exact Keeps.refl _ _
  · refine Keeps.mkUpd ?_ ⟨Or.inr rfl, rfl, Or.inr rfl, Or.inr rfl, Or.inr rfl, Or.inr rfl, Or.inr rfl, Or.inr
      rfl, Or.inr rfl, Or.inr rfl, Or.inr rfl, Or.inr rfl, Or.inr rfl, Or.inr rfl, Or.inr rfl, Or.inr rfl, Or.inr
      rfl, Or.inr rfl, Or.inr rfl, Or.inr rfl, Or.inr rfl, Or.inr rfl, Or.inr rfl, Or.inr rfl, Or.inr rfl, Or.inr
      rfl, Or.inr rfl, Or.inr rfl, Or.inr rfl, Or.inr rfl, Or.inl rfl, Or.inr rfl, Or.inr rfl, Or.inr rfl, Or.inl
      rfl, Or.inr rfl, Or.inr rfl, Or.inr rfl, Or.inr rfl, Or.inr rfl, Or.inr rfl, Or.inr rfl, Or.inr rfl, Or.inr
      rfl, Or.inr rfl, Or.inr rfl, Nat.le_refl _, trivial, fun w => w, fun w => w, fun w => w, fun w => w, fun w =>
      w, fun w => w, fun w => w, fun w => w, fun w => w, fun w => w, fun w => w, fun w => w, fun w => w⟩
    exact Keeps.refl _ _

theorem execTimeNowRead_keeps {s : Sys2Proof.Machine.State} : ResKeeps tgtNext 18253611008 s (execTimeNowRead s) := by
  unfold execTimeNowRead
  refine ResKeeps.some rfl ?_
  refine Keeps.ite ?_ ?_
  · refine Keeps.step ?_ State.readNow_keeps rfl
    exact Keeps.refl _ _
  · refine Keeps.mkUpd ?_ ⟨Or.inr rfl, rfl, Or.inr rfl, Or.inr rfl, Or.inr rfl, Or.inr rfl, Or.inr rfl, Or.inr
      rfl, Or.inr rfl, Or.inr rfl, Or.inr rfl, Or.inr rfl, Or.inr rfl, Or.inr rfl, Or.inr rfl, Or.inr rfl, Or.inr
      rfl, Or.inr rfl, Or.inr rfl, Or.inr rfl, Or.inr rfl, Or.inr rfl, Or.inr rfl, Or.inr rfl, Or.inr rfl, Or.inr
      rfl, Or.inr rfl, Or.inr rfl, Or.inr rfl, Or.inr rfl, Or.inr rfl, Or.inr rfl, Or.inr rfl, Or.inr rfl, Or.inl
      rfl, Or.inr rfl, Or.inr rfl, Or.inr rfl, Or.inr rfl, Or.inr rfl, Or.inr rfl, Or.inr rfl, Or.inr rfl, Or.inr
      rfl, Or.inr rfl, Or.inr rfl, Nat.le_refl _, trivial, fun w => w, fun w => w, fun w => w, fun w => w, fun w =>
      w, fun w => w, fun w => w, fun w => w, fun w => w, fun w => w, fun w => w, fun w => w, fun w => w⟩
    exact Keeps.refl _ _

theorem State.holdEvent_keeps {s : Sys2Proof.Machine.State} {cause : Nat} {dir : Nat} : Keeps
    56668397794436279500802 s (State.holdEvent s cause dir) := by
  unfold State.holdEvent
  refine Keeps.step ?_ State.exportEvent_keeps rfl
  exact Keeps.refl _ _

theorem State.enterHold_keeps {s : Sys2Proof.Machine.State} {cause : Nat} : Keeps 670576040567491499458562 s
    (State.enterHold s cause) := by
  unfold State.enterHold
  refine Keeps.ite ?_ ?_
  · refine Keeps.step ?_ State.wr_keeps (kb_k 9444732965739290427392 rfl rfl)
    exact Keeps.refl _ _
  · refine Keeps.step ?_ State.raiseCause_keeps rfl
    refine Keeps.step ?_ State.holdEvent_keeps rfl
    refine Keeps.step ?_ State.count_keeps rfl
    refine Keeps.mkUpd ?_ ⟨Or.inr rfl, rfl, Or.inr rfl, Or.inr rfl, Or.inr rfl, Or.inr rfl, Or.inr rfl, Or.inr
        rfl, Or.inr rfl, Or.inr rfl, Or.inr rfl, Or.inr rfl, Or.inr rfl, Or.inr rfl, Or.inr rfl, Or.inr rfl, Or.inr
        rfl, Or.inr rfl, Or.inr rfl, Or.inr rfl, Or.inr rfl, Or.inr rfl, Or.inr rfl, Or.inr rfl, Or.inr rfl, Or.inr
        rfl, Or.inr rfl, Or.inr rfl, Or.inr rfl, Or.inr rfl, Or.inl rfl, Or.inr rfl, Or.inr rfl, Or.inr rfl, Or.inr
        rfl, Or.inr rfl, Or.inr rfl, Or.inr rfl, Or.inr rfl, Or.inr rfl, Or.inr rfl, Or.inr rfl, Or.inr rfl, Or.inr
        rfl, Or.inr rfl, Or.inr rfl, Nat.le_refl _, trivial, fun w => w, fun w => w, fun w => w, fun w => w, fun w
        => w, fun w => w, fun w => w, fun w => w, fun w => w, fun w => w, fun w => w, fun w => w, fun w => w⟩
    refine Keeps.step ?_ State.wr_keeps (kb_k 9444732965739290427392 rfl rfl)
    refine Keeps.step ?_ State.wr_keeps (kb_k 9444732965739290427392 rfl rfl)
    exact Keeps.refl _ _

theorem State.leaveHold_keeps {s : Sys2Proof.Machine.State} : Keeps 670576040567490425716738 s (State.leaveHold s) := by
  unfold State.leaveHold
  refine Keeps.ite ?_ ?_
  · refine Keeps.step ?_ State.raiseCause_keeps rfl
    refine Keeps.step ?_ State.holdEvent_keeps rfl
    refine Keeps.step ?_ State.wr_keeps (kb_k 9444732965739290427392 rfl rfl)
    refine Keeps.step ?_ State.wr_keeps (kb_k 9444732965739290427392 rfl rfl)
    exact Keeps.refl _ _
  · exact Keeps.refl _ _

theorem State.setDisc_keeps {s : Sys2Proof.Machine.State} : Keeps 613907642773054146215938 s (State.setDisc s) := by
  unfold State.setDisc
  refine Keeps.step ?_ State.raiseCause_keeps rfl
  refine Keeps.step ?_ State.wr_keeps (kb_k 9444732965739290427392 rfl rfl)
  exact Keeps.refl _ _

theorem execWatchdogExpire_keeps {s : Sys2Proof.Machine.State} : ResKeeps tgtNext 670576040567491499458562 s
    (execWatchdogExpire s) := by
  unfold execWatchdogExpire
  refine ResKeeps.some rfl ?_
  refine Keeps.ite ?_ ?_
  · refine Keeps.step ?_ State.enterHold_keeps rfl
    exact Keeps.refl _ _
  · exact Keeps.refl _ _

theorem State.putDlog_keeps {s : Sys2Proof.Machine.State} {d : Nat} {bs : List Sys2Proof.Byte} : Keeps
    9444732965739290427394 s (State.putDlog s d bs) := by
  unfold State.putDlog
  refine Keeps.step ?_ State.wr_keeps (kb_k 9444732965739290427392 rfl rfl)
  refine Keeps.step ?_ State.wr_keeps (kb_k 9444732965739290427392 rfl rfl)
  refine Keeps.step ?_ State.wr_keeps (kb_k 9444732965739290427392 rfl rfl)
  refine Keeps.step ?_ State.wr_keeps (kb_k 9444732965739290427392 rfl rfl)
  refine Keeps.step ?_ State.wr_keeps (kb_k 9444732965739290427392 rfl rfl)
  refine Keeps.step ?_ State.wr_keeps (kb_k 9444732965739290427392 rfl rfl)
  refine Keeps.step ?_ State.wr_keeps (kb_k 9444732965739290427392 rfl rfl)
  refine Keeps.step ?_ State.wr_keeps (kb_k 9444732965739290427392 rfl rfl)
  exact Keeps.refl _ _

theorem State.stepSnapshots_keeps {s : Sys2Proof.Machine.State} : Keeps 37778931862957161775106 s
    (State.stepSnapshots s) := by
  unfold State.stepSnapshots
  refine Keeps.mkUpd ?_ ⟨Or.inr rfl, rfl, Or.inr rfl, Or.inr rfl, Or.inr rfl, Or.inr rfl, Or.inr rfl, Or.inr
      rfl, Or.inr rfl, Or.inr rfl, Or.inr rfl, Or.inr rfl, Or.inr rfl, Or.inr rfl, Or.inr rfl, Or.inr rfl, Or.inl
      rfl, Or.inr rfl, Or.inr rfl, Or.inr rfl, Or.inr rfl, Or.inr rfl, Or.inr rfl, Or.inr rfl, Or.inr rfl, Or.inr
      rfl, Or.inr rfl, Or.inr rfl, Or.inr rfl, Or.inr rfl, Or.inr rfl, Or.inr rfl, Or.inr rfl, Or.inr rfl, Or.inr
      rfl, Or.inr rfl, Or.inr rfl, Or.inr rfl, Or.inr rfl, Or.inr rfl, Or.inr rfl, Or.inr rfl, Or.inr rfl, Or.inr
      rfl, Or.inr rfl, Or.inr rfl, Nat.le_refl _, trivial, fun w => w, fun w => w, fun w => w, fun w => w, fun w =>
      w, fun w => w, fun w => w, fun w => w, fun w => w, fun w => w, fun w => w, fun w => w, fun w => w⟩
  refine Keeps.ite ?_ ?_
  · refine Keeps.step ?_ State.wr_keeps (kb_k 37778931862957161709568 rfl rfl)
    exact Keeps.refl _ _
  · exact Keeps.refl _ _

theorem State.discontinuity_keeps {s : Sys2Proof.Machine.State} {k : Nat} {kind : Nat} {delta : Int} : Keeps
    66113130760176643670019 s (State.discontinuity s k kind delta) := by
  unfold State.discontinuity
  refine Keeps.step ?_ State.stepSnapshots_keeps rfl
  refine Keeps.step ?_ State.exportEvent_keeps rfl
  refine Keeps.step ?_ State.wr_keeps (kb_k 9444732965739290427392 rfl rfl)
  refine Keeps.step ?_ State.putDlog_keeps rfl
  refine Keeps.step ?_ State.wr_keeps (kb_k 9444732965739290427392 rfl rfl)
  refine Keeps.step ?_ State.wr_keeps (kb_k 9444732965739290427392 rfl rfl)
  refine Keeps.step ?_ State.newPiece_keeps rfl
  refine Keeps.step ?_ State.advanceTo_keeps rfl
  exact Keeps.refl _ _

theorem State.requestStep_keeps {s : Sys2Proof.Machine.State} : Keeps 9444732965740364169218 s
    (State.requestStep s) := by
  unfold State.requestStep
  refine Keeps.ite ?_ ?_
  · refine Keeps.step ?_ State.wr_keeps (kb_k 9444732965739290427392 rfl rfl)
    exact Keeps.refl _ _
  · refine Keeps.step ?_ State.wr_keeps (kb_k 9444732965739290427392 rfl rfl)
    refine Keeps.mkUpd ?_ ⟨Or.inr rfl, rfl, Or.inr rfl, Or.inr rfl, Or.inr rfl, Or.inr rfl, Or.inr rfl, Or.inr
        rfl, Or.inr rfl, Or.inr rfl, Or.inr rfl, Or.inr rfl, Or.inr rfl, Or.inr rfl, Or.inr rfl, Or.inr rfl, Or.inr
        rfl, Or.inr rfl, Or.inr rfl, Or.inr rfl, Or.inr rfl, Or.inr rfl, Or.inr rfl, Or.inr rfl, Or.inr rfl, Or.inr
        rfl, Or.inr rfl, Or.inr rfl, Or.inr rfl, Or.inr rfl, Or.inl rfl, Or.inr rfl, Or.inr rfl, Or.inr rfl, Or.inr
        rfl, Or.inr rfl, Or.inr rfl, Or.inr rfl, Or.inr rfl, Or.inr rfl, Or.inr rfl, Or.inr rfl, Or.inr rfl, Or.inr
        rfl, Or.inr rfl, Or.inr rfl, Nat.le_refl _, trivial, fun w => w, fun w => w, fun w => w, fun w => w, fun w
        => w, fun w => w, fun w => w, fun w => w, fun w => w, fun w => w, fun w => w, fun w => w, fun w => w⟩
    exact Keeps.refl _ _

theorem State.timeCtlWrite_keeps {s : Sys2Proof.Machine.State} {r : Sys2Proof.Requester} {word : Nat} : Keeps
    670576040567493646942214 s (State.timeCtlWrite s r word) := by
  unfold State.timeCtlWrite
  refine State.writeWith_keeps ?_ (kb_k 9444732965739290427392 rfl rfl) ?_
  · exact Keeps.refl _ _
  · intro y0_ h_
    refine Keeps.ite ?_ ?_
    · refine Keeps.step ?_ State.enterHold_keeps rfl
      refine Keeps.ite ?_ ?_
      · refine Keeps.step ?_ State.requestStep_keeps rfl
        with_reducible assumption
      · with_reducible assumption
    · refine Keeps.ite ?_ ?_
      · refine Keeps.step ?_ State.requestStep_keeps rfl
        with_reducible assumption
      · with_reducible assumption

theorem execStepRequest_keeps {r : Sys2Proof.Requester} {s : Sys2Proof.Machine.State} : ResKeeps tgtNext
    670576040567493646942214 s (execStepRequest r s) := by
  unfold execStepRequest
  refine ResKeeps.some rfl ?_
  refine Keeps.step ?_ State.timeCtlWrite_keeps rfl
  exact Keeps.refl _ _

theorem execHoldRequest_keeps {r : Sys2Proof.Requester} {s : Sys2Proof.Machine.State} : ResKeeps tgtNext
    670576040567493646942214 s (execHoldRequest r s) := by
  unfold execHoldRequest
  refine ResKeeps.some rfl ?_
  refine Keeps.step ?_ State.timeCtlWrite_keeps rfl
  exact Keeps.refl _ _

theorem State.applyStep_keeps {s : Sys2Proof.Machine.State} {k : Nat} : Keeps 66113130760176643676163 s
    (State.applyStep s k) := by
  unfold State.applyStep
  refine Keeps.ite ?_ ?_
  · refine Keeps.step ?_ State.amlSend_keeps rfl
    refine Keeps.step ?_ State.count_keeps rfl
    refine Keeps.step ?_ State.discontinuity_keeps rfl
    refine Keeps.step ?_ State.wr_keeps (kb_k 9444732965739290427392 rfl rfl)
    refine Keeps.mkUpd ?_ ⟨Or.inr rfl, rfl, Or.inr rfl, Or.inr rfl, Or.inr rfl, Or.inr rfl, Or.inr rfl, Or.inr
        rfl, Or.inr rfl, Or.inr rfl, Or.inr rfl, Or.inr rfl, Or.inr rfl, Or.inr rfl, Or.inr rfl, Or.inr rfl, Or.inr
        rfl, Or.inr rfl, Or.inr rfl, Or.inr rfl, Or.inr rfl, Or.inr rfl, Or.inr rfl, Or.inr rfl, Or.inr rfl, Or.inr
        rfl, Or.inr rfl, Or.inr rfl, Or.inr rfl, Or.inr rfl, Or.inl rfl, Or.inr rfl, Or.inr rfl, Or.inr rfl, Or.inr
        rfl, Or.inr rfl, Or.inr rfl, Or.inr rfl, Or.inr rfl, Or.inr rfl, Or.inr rfl, Or.inr rfl, Or.inr rfl, Or.inr
        rfl, Or.inr rfl, Or.inr rfl, Nat.le_refl _, trivial, fun w => w, fun w => w, fun w => w, fun w => w, fun w
        => w, fun w => w, fun w => w, fun w => w, fun w => w, fun w => w, fun w => w, fun w => w, fun w => w⟩
    exact Keeps.refl _ _
  · refine Keeps.step ?_ State.count_keeps rfl
    refine Keeps.step ?_ State.discontinuity_keeps rfl
    refine Keeps.step ?_ State.wr_keeps (kb_k 9444732965739290427392 rfl rfl)
    refine Keeps.mkUpd ?_ ⟨Or.inr rfl, rfl, Or.inr rfl, Or.inr rfl, Or.inr rfl, Or.inr rfl, Or.inr rfl, Or.inr
        rfl, Or.inr rfl, Or.inr rfl, Or.inr rfl, Or.inr rfl, Or.inr rfl, Or.inr rfl, Or.inr rfl, Or.inr rfl, Or.inr
        rfl, Or.inr rfl, Or.inr rfl, Or.inr rfl, Or.inr rfl, Or.inr rfl, Or.inr rfl, Or.inr rfl, Or.inr rfl, Or.inr
        rfl, Or.inr rfl, Or.inr rfl, Or.inr rfl, Or.inr rfl, Or.inl rfl, Or.inr rfl, Or.inr rfl, Or.inr rfl, Or.inr
        rfl, Or.inr rfl, Or.inr rfl, Or.inr rfl, Or.inr rfl, Or.inr rfl, Or.inr rfl, Or.inr rfl, Or.inr rfl, Or.inr
        rfl, Or.inr rfl, Or.inr rfl, Nat.le_refl _, trivial, fun w => w, fun w => w, fun w => w, fun w => w, fun w
        => w, fun w => w, fun w => w, fun w => w, fun w => w, fun w => w, fun w => w, fun w => w, fun w => w⟩
    exact Keeps.refl _ _

theorem execStepApply_keeps {s : Sys2Proof.Machine.State} : ResKeeps tgtNext 66113130760176643676163 s
    (execStepApply s) := by
  unfold execStepApply
  split
  · refine ResKeeps.some rfl ?_
    refine Keeps.step ?_ State.applyStep_keeps rfl
    exact Keeps.refl _ _
  · refine ResKeeps.some rfl ?_
    exact Keeps.refl _ _

theorem State.servo_keeps {s : Sys2Proof.Machine.State} {o : Int} : Keeps 670576040567491499464706 s
    (State.servo s o) := by
  unfold State.servo
  refine Keeps.step ?_ State.count_keeps rfl
  refine Keeps.step ?_ State.newAdj_keeps rfl
  refine Keeps.mkUpd ?_ ⟨Or.inr rfl, rfl, Or.inr rfl, Or.inr rfl, Or.inr rfl, Or.inr rfl, Or.inr rfl, Or.inr
      rfl, Or.inr rfl, Or.inr rfl, Or.inr rfl, Or.inr rfl, Or.inr rfl, Or.inr rfl, Or.inr rfl, Or.inr rfl, Or.inr
      rfl, Or.inr rfl, Or.inr rfl, Or.inr rfl, Or.inr rfl, Or.inr rfl, Or.inr rfl, Or.inr rfl, Or.inr rfl, Or.inr
      rfl, Or.inr rfl, Or.inr rfl, Or.inr rfl, Or.inr rfl, Or.inl rfl, Or.inr rfl, Or.inr rfl, Or.inr rfl, Or.inr
      rfl, Or.inr rfl, Or.inr rfl, Or.inr rfl, Or.inr rfl, Or.inr rfl, Or.inr rfl, Or.inr rfl, Or.inr rfl, Or.inr
      rfl, Or.inr rfl, Or.inr rfl, Nat.le_refl _, trivial, fun w => w, fun w => w, fun w => w, fun w => w, fun w =>
      w, fun w => w, fun w => w, fun w => w, fun w => w, fun w => w, fun w => w, fun w => w, fun w => w⟩
  refine Keeps.step ?_ State.wr_keeps (kb_k 9444732965739290427392 rfl rfl)
  refine Keeps.step ?_ State.wr_keeps (kb_k 9444732965739290427392 rfl rfl)
  refine Keeps.ite ?_ ?_
  · refine Keeps.step ?_ State.wr_keeps (kb_k 9444732965739290427392 rfl rfl)
    refine Keeps.step ?_ State.leaveHold_keeps rfl
    exact Keeps.refl _ _
  · refine Keeps.step ?_ State.leaveHold_keeps rfl
    exact Keeps.refl _ _

theorem State.submitOffset_keeps {s : Sys2Proof.Machine.State} : Keeps 670576040567491499464706 s
    (State.submitOffset s) := by
  unfold State.submitOffset
  refine Keeps.ite ?_ ?_
  · refine Keeps.step ?_ State.wr_keeps (kb_k 9444732965739290427392 rfl rfl)
    refine Keeps.step ?_ State.count_keeps rfl
    exact Keeps.refl _ _
  · refine Keeps.ite ?_ ?_
    · refine Keeps.step ?_ State.enterHold_keeps rfl
      refine Keeps.step ?_ State.setDisc_keeps rfl
      refine Keeps.step ?_ State.count_keeps rfl
      exact Keeps.refl _ _
    · refine Keeps.step ?_ State.servo_keeps rfl
      refine Keeps.step ?_ State.count_keeps rfl
      exact Keeps.refl _ _

theorem State.ofsWrite_keeps {s : Sys2Proof.Machine.State} {r : Sys2Proof.Requester} {word : Nat} : Keeps
    670576040567493646948358 s (State.ofsWrite s r word) := by
  unfold State.ofsWrite
  refine State.writeWith_keeps ?_ (kb_k 9444732965739290427392 rfl rfl) ?_
  · exact Keeps.refl _ _
  · intro y0_ h_
    refine Keeps.step ?_ State.submitOffset_keeps rfl
    with_reducible assumption

theorem execOffsetSubmit_keeps {r : Sys2Proof.Requester} {v : Sys2Proof.Word} {s : Sys2Proof.Machine.State} :
    ResKeeps tgtNext 670576040567493646948358 s (execOffsetSubmit r v s) := by
  unfold execOffsetSubmit
  refine ResKeeps.some rfl ?_
  refine Keeps.step ?_ State.ofsWrite_keeps rfl
  exact Keeps.refl _ _

theorem State.adjWrite_keeps {s : Sys2Proof.Machine.State} {r : Sys2Proof.Requester} {word : Nat} : Keeps
    670576040567493646948358 s (State.adjWrite s r word) := by
  unfold State.adjWrite
  refine Keeps.ite ?_ ?_
  · exact Keeps.refl _ _
  · refine State.writeWith_keeps ?_ (kb_k 9444732965739290427392 rfl rfl) ?_
    · exact Keeps.refl _ _
    · intro y0_ h_
      refine Keeps.step ?_ State.newAdj_keeps rfl
      refine Keeps.step ?_ State.leaveHold_keeps rfl
      with_reducible assumption

theorem execAdjWrite_keeps {r : Sys2Proof.Requester} {v : Sys2Proof.Word} {s : Sys2Proof.Machine.State} :
    ResKeeps tgtNext 670576040567493646948358 s (execAdjWrite r v s) := by
  unfold execAdjWrite
  refine ResKeeps.some rfl ?_
  refine Keeps.step ?_ State.adjWrite_keeps rfl
  exact Keeps.refl _ _

theorem State.adj0Write_keeps {s : Sys2Proof.Machine.State} {r : Sys2Proof.Requester} {word : Nat} : Keeps
    9444732965741437911046 s (State.adj0Write s r word) := by
  unfold State.adj0Write
  refine Keeps.ite ?_ ?_
  · exact Keeps.refl _ _
  · refine Keeps.step ?_ State.writePlain_keeps (kb_k 9444732965739290427392 rfl rfl)
    exact Keeps.refl _ _

theorem State.timeCfgWrite_keeps {s : Sys2Proof.Machine.State} {r : Sys2Proof.Requester} {word : Nat} : Keeps
    9444732965742511652870 s (State.timeCfgWrite s r word) := by
  unfold State.timeCfgWrite
  refine Keeps.ite ?_ ?_
  · refine Keeps.mkUpd ?_ ⟨Or.inr rfl, rfl, Or.inr rfl, Or.inr rfl, Or.inr rfl, Or.inr rfl, Or.inr rfl, Or.inr
      rfl, Or.inr rfl, Or.inr rfl, Or.inr rfl, Or.inr rfl, Or.inr rfl, Or.inr rfl, Or.inr rfl, Or.inr rfl, Or.inr
      rfl, Or.inr rfl, Or.inr rfl, Or.inr rfl, Or.inr rfl, Or.inr rfl, Or.inr rfl, Or.inr rfl, Or.inr rfl, Or.inr
      rfl, Or.inr rfl, Or.inr rfl, Or.inr rfl, Or.inr rfl, Or.inl rfl, Or.inr rfl, Or.inr rfl, Or.inr rfl, Or.inr
      rfl, Or.inr rfl, Or.inr rfl, Or.inr rfl, Or.inr rfl, Or.inr rfl, Or.inr rfl, Or.inr rfl, Or.inr rfl, Or.inr
      rfl, Or.inr rfl, Or.inr rfl, Nat.le_refl _, trivial, fun w => w, fun w => w, fun w => w, fun w => w, fun w =>
      w, fun w => w, fun w => w, fun w => w, fun w => w, fun w => w, fun w => w, fun w => w, fun w => w⟩
    refine Keeps.step ?_ State.writePlain_keeps (kb_k 9444732965739290427392 rfl rfl)
    exact Keeps.refl _ _
  · refine Keeps.step ?_ State.writePlain_keeps (kb_k 9444732965739290427392 rfl rfl)
    exact Keeps.refl _ _

theorem State.copyTime_keeps {s : Sys2Proof.Machine.State} {k : Nat} {kind : Nat} {lead : Nat} : Keeps
    670576040567491499458563 s (State.copyTime s k kind lead) := by
  unfold State.copyTime
  refine Keeps.ite ?_ ?_
  · refine Keeps.step ?_ State.leaveHold_keeps rfl
    refine Keeps.step ?_ State.discontinuity_keeps rfl
    refine Keeps.step ?_ State.wr_keeps (kb_k 9444732965739290427392 rfl rfl)
    refine Keeps.mkUpd ?_ ⟨Or.inr rfl, rfl, Or.inr rfl, Or.inr rfl, Or.inr rfl, Or.inr rfl, Or.inr rfl, Or.inr
        rfl, Or.inr rfl, Or.inr rfl, Or.inr rfl, Or.inr rfl, Or.inr rfl, Or.inr rfl, Or.inr rfl, Or.inr rfl, Or.inr
        rfl, Or.inr rfl, Or.inr rfl, Or.inr rfl, Or.inr rfl, Or.inr rfl, Or.inr rfl, Or.inr rfl, Or.inr rfl, Or.inr
        rfl, Or.inr rfl, Or.inr rfl, Or.inr rfl, Or.inr rfl, Or.inl rfl, Or.inr rfl, Or.inr rfl, Or.inr rfl, Or.inr
        rfl, Or.inr rfl, Or.inr rfl, Or.inr rfl, Or.inr rfl, Or.inr rfl, Or.inr rfl, Or.inr rfl, Or.inr rfl, Or.inr
        rfl, Or.inr rfl, Or.inr rfl, Nat.le_refl _, trivial, fun w => w, fun w => w, fun w => w, fun w => w, fun w
        => w, fun w => w, fun w => w, fun w => w, fun w => w, fun w => w, fun w => w, fun w => w, fun w => w⟩
    exact Keeps.refl _ _
  · refine Keeps.step ?_ State.discontinuity_keeps rfl
    refine Keeps.step ?_ State.wr_keeps (kb_k 9444732965739290427392 rfl rfl)
    refine Keeps.mkUpd ?_ ⟨Or.inr rfl, rfl, Or.inr rfl, Or.inr rfl, Or.inr rfl, Or.inr rfl, Or.inr rfl, Or.inr
        rfl, Or.inr rfl, Or.inr rfl, Or.inr rfl, Or.inr rfl, Or.inr rfl, Or.inr rfl, Or.inr rfl, Or.inr rfl, Or.inr
        rfl, Or.inr rfl, Or.inr rfl, Or.inr rfl, Or.inr rfl, Or.inr rfl, Or.inr rfl, Or.inr rfl, Or.inr rfl, Or.inr
        rfl, Or.inr rfl, Or.inr rfl, Or.inr rfl, Or.inr rfl, Or.inl rfl, Or.inr rfl, Or.inr rfl, Or.inr rfl, Or.inr
        rfl, Or.inr rfl, Or.inr rfl, Or.inr rfl, Or.inr rfl, Or.inr rfl, Or.inr rfl, Or.inr rfl, Or.inr rfl, Or.inr
        rfl, Or.inr rfl, Or.inr rfl, Nat.le_refl _, trivial, fun w => w, fun w => w, fun w => w, fun w => w, fun w
        => w, fun w => w, fun w => w, fun w => w, fun w => w, fun w => w, fun w => w, fun w => w, fun w => w⟩
    exact Keeps.refl _ _

theorem State.copyLate_keeps {s : Sys2Proof.Machine.State} : Keeps 670576040567491499458562 s (State.copyLate s) := by
  unfold State.copyLate
  refine Keeps.step ?_ State.enterHold_keeps rfl
  refine Keeps.step ?_ State.setDisc_keeps rfl
  refine Keeps.mkUpd ?_ ⟨Or.inr rfl, rfl, Or.inr rfl, Or.inr rfl, Or.inr rfl, Or.inr rfl, Or.inr rfl, Or.inr
      rfl, Or.inr rfl, Or.inr rfl, Or.inr rfl, Or.inr rfl, Or.inr rfl, Or.inr rfl, Or.inr rfl, Or.inr rfl, Or.inr
      rfl, Or.inr rfl, Or.inr rfl, Or.inr rfl, Or.inr rfl, Or.inr rfl, Or.inr rfl, Or.inr rfl, Or.inr rfl, Or.inr
      rfl, Or.inr rfl, Or.inr rfl, Or.inr rfl, Or.inr rfl, Or.inl rfl, Or.inr rfl, Or.inr rfl, Or.inr rfl, Or.inr
      rfl, Or.inr rfl, Or.inr rfl, Or.inr rfl, Or.inr rfl, Or.inr rfl, Or.inr rfl, Or.inr rfl, Or.inr rfl, Or.inr
      rfl, Or.inr rfl, Or.inr rfl, Nat.le_refl _, trivial, fun w => w, fun w => w, fun w => w, fun w => w, fun w =>
      w, fun w => w, fun w => w, fun w => w, fun w => w, fun w => w, fun w => w, fun w => w, fun w => w⟩
  exact Keeps.refl _ _

theorem State.compareTime_keeps {s : Sys2Proof.Machine.State} {k : Nat} {lead : Nat} : Keeps
    670576040567491499458562 s (State.compareTime s k lead) := by
  unfold State.compareTime
  refine Keeps.ite ?_ ?_
  · refine Keeps.step ?_ State.leaveHold_keeps rfl
    refine Keeps.mkUpd ?_ ⟨Or.inr rfl, rfl, Or.inr rfl, Or.inr rfl, Or.inr rfl, Or.inr rfl, Or.inr rfl, Or.inr
        rfl, Or.inr rfl, Or.inr rfl, Or.inr rfl, Or.inr rfl, Or.inr rfl, Or.inr rfl, Or.inr rfl, Or.inr rfl, Or.inr
        rfl, Or.inr rfl, Or.inr rfl, Or.inr rfl, Or.inr rfl, Or.inr rfl, Or.inr rfl, Or.inr rfl, Or.inr rfl, Or.inr
        rfl, Or.inr rfl, Or.inr rfl, Or.inr rfl, Or.inr rfl, Or.inl rfl, Or.inr rfl, Or.inr rfl, Or.inr rfl, Or.inr
        rfl, Or.inr rfl, Or.inr rfl, Or.inr rfl, Or.inr rfl, Or.inr rfl, Or.inr rfl, Or.inr rfl, Or.inr rfl, Or.inr
        rfl, Or.inr rfl, Or.inr rfl, Nat.le_refl _, trivial, fun w => w, fun w => w, fun w => w, fun w => w, fun w
        => w, fun w => w, fun w => w, fun w => w, fun w => w, fun w => w, fun w => w, fun w => w, fun w => w⟩
    exact Keeps.refl _ _
  · refine Keeps.step ?_ State.enterHold_keeps rfl
    refine Keeps.step ?_ State.setDisc_keeps rfl
    refine Keeps.mkUpd ?_ ⟨Or.inr rfl, rfl, Or.inr rfl, Or.inr rfl, Or.inr rfl, Or.inr rfl, Or.inr rfl, Or.inr
        rfl, Or.inr rfl, Or.inr rfl, Or.inr rfl, Or.inr rfl, Or.inr rfl, Or.inr rfl, Or.inr rfl, Or.inr rfl, Or.inr
        rfl, Or.inr rfl, Or.inr rfl, Or.inr rfl, Or.inr rfl, Or.inr rfl, Or.inr rfl, Or.inr rfl, Or.inr rfl, Or.inr
        rfl, Or.inr rfl, Or.inr rfl, Or.inr rfl, Or.inr rfl, Or.inl rfl, Or.inr rfl, Or.inr rfl, Or.inr rfl, Or.inr
        rfl, Or.inr rfl, Or.inr rfl, Or.inr rfl, Or.inr rfl, Or.inr rfl, Or.inr rfl, Or.inr rfl, Or.inr rfl, Or.inr
        rfl, Or.inr rfl, Or.inr rfl, Nat.le_refl _, trivial, fun w => w, fun w => w, fun w => w, fun w => w, fun w
        => w, fun w => w, fun w => w, fun w => w, fun w => w, fun w => w, fun w => w, fun w => w, fun w => w⟩
    exact Keeps.refl _ _

theorem State.followSync_keeps {s : Sys2Proof.Machine.State} {t : Nat} : Keeps 670576040567491499458563 s
    (State.followSync s t) := by
  unfold State.followSync
  refine Keeps.ite ?_ ?_
  · exact Keeps.refl _ _
  · split
    · exact Keeps.refl _ _
    · refine Keeps.ite ?_ ?_
      · refine Keeps.ite ?_ ?_
        · refine Keeps.step ?_ State.copyLate_keeps rfl
          refine Keeps.mkUpd ?_ ⟨Or.inr rfl, rfl, Or.inr rfl, Or.inr rfl, Or.inr rfl, Or.inr rfl, Or.inr rfl,
              Or.inr rfl, Or.inr rfl, Or.inr rfl, Or.inr rfl, Or.inr rfl, Or.inr rfl, Or.inr rfl, Or.inr rfl, Or.inr
              rfl, Or.inr rfl, Or.inr rfl, Or.inr rfl, Or.inr rfl, Or.inr rfl, Or.inr rfl, Or.inr rfl, Or.inr rfl,
              Or.inr rfl, Or.inr rfl, Or.inr rfl, Or.inr rfl, Or.inr rfl, Or.inr rfl, Or.inl rfl, Or.inr rfl, Or.inr
              rfl, Or.inr rfl, Or.inr rfl, Or.inr rfl, Or.inr rfl, Or.inr rfl, Or.inr rfl, Or.inr rfl, Or.inr rfl,
              Or.inr rfl, Or.inr rfl, Or.inr rfl, Or.inr rfl, Or.inr rfl, Nat.le_refl _, trivial, fun w => w, fun w
              => w, fun w => w, fun w => w, fun w => w, fun w => w, fun w => w, fun w => w, fun w => w, fun w => w,
              fun w => w, fun w => w, fun w => w⟩
          exact Keeps.refl _ _
        · refine Keeps.step ?_ State.copyTime_keeps rfl
          refine Keeps.mkUpd ?_ ⟨Or.inr rfl, rfl, Or.inr rfl, Or.inr rfl, Or.inr rfl, Or.inr rfl, Or.inr rfl,
              Or.inr rfl, Or.inr rfl, Or.inr rfl, Or.inr rfl, Or.inr rfl, Or.inr rfl, Or.inr rfl, Or.inr rfl, Or.inr
              rfl, Or.inr rfl, Or.inr rfl, Or.inr rfl, Or.inr rfl, Or.inr rfl, Or.inr rfl, Or.inr rfl, Or.inr rfl,
              Or.inr rfl, Or.inr rfl, Or.inr rfl, Or.inr rfl, Or.inr rfl, Or.inr rfl, Or.inl rfl, Or.inr rfl, Or.inr
              rfl, Or.inr rfl, Or.inr rfl, Or.inr rfl, Or.inr rfl, Or.inr rfl, Or.inr rfl, Or.inr rfl, Or.inr rfl,
              Or.inr rfl, Or.inr rfl, Or.inr rfl, Or.inr rfl, Or.inr rfl, Nat.le_refl _, trivial, fun w => w, fun w
              => w, fun w => w, fun w => w, fun w => w, fun w => w, fun w => w, fun w => w, fun w => w, fun w => w,
              fun w => w, fun w => w, fun w => w⟩
          exact Keeps.refl _ _
      · refine Keeps.ite ?_ ?_
        · refine Keeps.ite ?_ ?_
          · refine Keeps.step ?_ State.copyLate_keeps rfl
            refine Keeps.mkUpd ?_ ⟨Or.inr rfl, rfl, Or.inr rfl, Or.inr rfl, Or.inr rfl, Or.inr rfl, Or.inr rfl,
                Or.inr rfl, Or.inr rfl, Or.inr rfl, Or.inr rfl, Or.inr rfl, Or.inr rfl, Or.inr rfl, Or.inr rfl,
                Or.inr rfl, Or.inr rfl, Or.inr rfl, Or.inr rfl, Or.inr rfl, Or.inr rfl, Or.inr rfl, Or.inr rfl,
                Or.inr rfl, Or.inr rfl, Or.inr rfl, Or.inr rfl, Or.inr rfl, Or.inr rfl, Or.inr rfl, Or.inl rfl,
                Or.inr rfl, Or.inr rfl, Or.inr rfl, Or.inr rfl, Or.inr rfl, Or.inr rfl, Or.inr rfl, Or.inr rfl,
                Or.inr rfl, Or.inr rfl, Or.inr rfl, Or.inr rfl, Or.inr rfl, Or.inr rfl, Or.inr rfl, Nat.le_refl _,
                trivial, fun w => w, fun w => w, fun w => w, fun w => w, fun w => w, fun w => w, fun w => w, fun w
                => w, fun w => w, fun w => w, fun w => w, fun w => w, fun w => w⟩
            exact Keeps.refl _ _
          · refine Keeps.step ?_ State.copyTime_keeps rfl
            refine Keeps.mkUpd ?_ ⟨Or.inr rfl, rfl, Or.inr rfl, Or.inr rfl, Or.inr rfl, Or.inr rfl, Or.inr rfl,
                Or.inr rfl, Or.inr rfl, Or.inr rfl, Or.inr rfl, Or.inr rfl, Or.inr rfl, Or.inr rfl, Or.inr rfl,
                Or.inr rfl, Or.inr rfl, Or.inr rfl, Or.inr rfl, Or.inr rfl, Or.inr rfl, Or.inr rfl, Or.inr rfl,
                Or.inr rfl, Or.inr rfl, Or.inr rfl, Or.inr rfl, Or.inr rfl, Or.inr rfl, Or.inr rfl, Or.inl rfl,
                Or.inr rfl, Or.inr rfl, Or.inr rfl, Or.inr rfl, Or.inr rfl, Or.inr rfl, Or.inr rfl, Or.inr rfl,
                Or.inr rfl, Or.inr rfl, Or.inr rfl, Or.inr rfl, Or.inr rfl, Or.inr rfl, Or.inr rfl, Nat.le_refl _,
                trivial, fun w => w, fun w => w, fun w => w, fun w => w, fun w => w, fun w => w, fun w => w, fun w
                => w, fun w => w, fun w => w, fun w => w, fun w => w, fun w => w⟩
            exact Keeps.refl _ _
        · refine Keeps.ite ?_ ?_
          · refine Keeps.step ?_ State.compareTime_keeps rfl
            refine Keeps.mkUpd ?_ ⟨Or.inr rfl, rfl, Or.inr rfl, Or.inr rfl, Or.inr rfl, Or.inr rfl, Or.inr rfl,
                Or.inr rfl, Or.inr rfl, Or.inr rfl, Or.inr rfl, Or.inr rfl, Or.inr rfl, Or.inr rfl, Or.inr rfl,
                Or.inr rfl, Or.inr rfl, Or.inr rfl, Or.inr rfl, Or.inr rfl, Or.inr rfl, Or.inr rfl, Or.inr rfl,
                Or.inr rfl, Or.inr rfl, Or.inr rfl, Or.inr rfl, Or.inr rfl, Or.inr rfl, Or.inr rfl, Or.inl rfl,
                Or.inr rfl, Or.inr rfl, Or.inr rfl, Or.inr rfl, Or.inr rfl, Or.inr rfl, Or.inr rfl, Or.inr rfl,
                Or.inr rfl, Or.inr rfl, Or.inr rfl, Or.inr rfl, Or.inr rfl, Or.inr rfl, Or.inr rfl, Nat.le_refl _,
                trivial, fun w => w, fun w => w, fun w => w, fun w => w, fun w => w, fun w => w, fun w => w, fun w
                => w, fun w => w, fun w => w, fun w => w, fun w => w, fun w => w⟩
            exact Keeps.refl _ _
          · refine Keeps.mkUpd ?_ ⟨Or.inr rfl, rfl, Or.inr rfl, Or.inr rfl, Or.inr rfl, Or.inr rfl, Or.inr rfl,
              Or.inr rfl, Or.inr rfl, Or.inr rfl, Or.inr rfl, Or.inr rfl, Or.inr rfl, Or.inr rfl, Or.inr rfl, Or.inr
              rfl, Or.inr rfl, Or.inr rfl, Or.inr rfl, Or.inr rfl, Or.inr rfl, Or.inr rfl, Or.inr rfl, Or.inr rfl,
              Or.inr rfl, Or.inr rfl, Or.inr rfl, Or.inr rfl, Or.inr rfl, Or.inr rfl, Or.inl rfl, Or.inr rfl, Or.inr
              rfl, Or.inr rfl, Or.inr rfl, Or.inr rfl, Or.inr rfl, Or.inr rfl, Or.inr rfl, Or.inr rfl, Or.inr rfl,
              Or.inr rfl, Or.inr rfl, Or.inr rfl, Or.inr rfl, Or.inr rfl, Nat.le_refl _, trivial, fun w => w, fun w
              => w, fun w => w, fun w => w, fun w => w, fun w => w, fun w => w, fun w => w, fun w => w, fun w => w,
              fun w => w, fun w => w, fun w => w⟩
            exact Keeps.refl _ _

end Sys2Proof.Machine
end

