-- ==== Sys2Proof/Laws/FrameClock.lean ====
section
/-! SUPPORT. What each function of Machine/Clock.lean may change: one mask of `Keeps` for each. -/

namespace Sys2Proof.Machine

open Reg

theorem State.syncCheck_keeps {s : Sys2Proof.Machine.State} {t : Nat} : Keeps 147573952591823896706 s
    (State.syncCheck s t) := by
  unfold State.syncCheck
  refine Keeps.mkUpd ?_ ⟨Or.inr rfl, rfl, Or.inr rfl, Or.inr rfl, Or.inr rfl, Or.inr rfl, Or.inr rfl, Or.inl
      rfl, Or.inr rfl, Or.inr rfl, Or.inr rfl, Or.inr rfl, Or.inr rfl, Or.inr rfl, Or.inr rfl, Or.inr rfl, Or.inr
      rfl, Or.inr rfl, Or.inr rfl, Or.inr rfl, Or.inr rfl, Or.inr rfl, Or.inr rfl, Or.inr rfl, Or.inr rfl, Or.inr
      rfl, Or.inr rfl, Or.inr rfl, Or.inr rfl, Or.inr rfl, Or.inr rfl, Or.inr rfl, Or.inr rfl, Or.inr rfl, Or.inr
      rfl, Or.inr rfl, Or.inr rfl, Or.inr rfl, Or.inr rfl, Or.inr rfl, Or.inr rfl, Or.inr rfl, Or.inr rfl, Or.inr
      rfl, Or.inr rfl, Or.inr rfl, Nat.le_refl _, trivial, fun w => w, fun w => w, fun w => w, fun w => w, fun w =>
      w, fun w => w, fun w => w, fun w => w, fun w => w, fun w => w, fun w => w, fun w => w, fun w => w⟩
  refine Keeps.ite ?_ ?_
  · refine Keeps.step ?_ State.pagePairs_keeps rfl
    refine Keeps.step ?_ State.wr_keeps (kb_k 147573952589676412928 rfl rfl)
    exact Keeps.refl _ _
  · exact Keeps.refl _ _

theorem State.syncAt_keeps {s : Sys2Proof.Machine.State} {t : Nat} : Keeps 39356349842188216914221443 s
    (State.syncAt s t) := by
  unfold State.syncAt
  refine Keeps.ite ?_ ?_
  · refine Keeps.step ?_ State.amlSend_keeps rfl
    refine Keeps.step ?_ State.amlSend_keeps rfl
    refine Keeps.step ?_ State.singleSync_keeps rfl
    refine Keeps.step ?_ State.followSync_keeps rfl
    refine Keeps.step ?_ State.releaseWaits_keeps rfl
    refine Keeps.step ?_ State.syncCheck_keeps rfl
    refine Keeps.step ?_ State.wr_keeps (kb_k 147573952589676412928 rfl rfl)
    refine Keeps.step ?_ State.advanceTo_keeps rfl
    exact Keeps.refl _ _
  · refine Keeps.step ?_ State.amlSend_keeps rfl
    refine Keeps.step ?_ State.singleSync_keeps rfl
    refine Keeps.step ?_ State.followSync_keeps rfl
    refine Keeps.step ?_ State.releaseWaits_keeps rfl
    refine Keeps.step ?_ State.syncCheck_keeps rfl
    refine Keeps.step ?_ State.wr_keeps (kb_k 147573952589676412928 rfl rfl)
    refine Keeps.step ?_ State.advanceTo_keeps rfl
    exact Keeps.refl _ _

theorem execSyncDetected_keeps {refclk : Nat} {s : Sys2Proof.Machine.State} : ResKeeps tgtNext
    39356349842188216914221443 s (execSyncDetected refclk s) := by
  unfold execSyncDetected
  refine ResKeeps.some rfl ?_
  refine Keeps.ite ?_ ?_
  · exact Keeps.refl _ _
  · refine Keeps.step ?_ State.syncAt_keeps rfl
    exact Keeps.refl _ _

theorem execSyncLost_keeps {s : Sys2Proof.Machine.State} : ResKeeps tgtNext 147573952591823896579 s
    (execSyncLost s) := by
  unfold execSyncLost
  refine ResKeeps.ite ?_ ?_
  · refine ResKeeps.some rfl ?_
    refine Keeps.step ?_ State.pagePairs_keeps rfl
    refine Keeps.step ?_ State.wr_keeps (kb_k 147573952589676412928 rfl rfl)
    refine Keeps.step ?_ State.advanceTo_keeps rfl
    exact Keeps.refl _ _
  · refine ResKeeps.some rfl ?_
    exact Keeps.refl _ _

theorem State.syncCtlWrite_keeps {s : Sys2Proof.Machine.State} {r : Sys2Proof.Requester} {word : Nat} : Keeps
    147573952591823896710 s (State.syncCtlWrite s r word) := by
  unfold State.syncCtlWrite
  refine State.writeWith_keeps ?_ (kb_k 147573952589676412928 rfl rfl) ?_
  · exact Keeps.refl _ _
  · intro y0_ h_
    refine Keeps.ite ?_ ?_
    · refine Keeps.mkUpd ?_ ⟨Or.inr rfl, rfl, Or.inr rfl, Or.inr rfl, Or.inr rfl, Or.inr rfl, Or.inr rfl, Or.inl
        rfl, Or.inr rfl, Or.inr rfl, Or.inr rfl, Or.inr rfl, Or.inr rfl, Or.inr rfl, Or.inr rfl, Or.inr rfl, Or.inr
        rfl, Or.inr rfl, Or.inr rfl, Or.inr rfl, Or.inr rfl, Or.inr rfl, Or.inr rfl, Or.inr rfl, Or.inr rfl, Or.inr
        rfl, Or.inr rfl, Or.inr rfl, Or.inr rfl, Or.inr rfl, Or.inr rfl, Or.inr rfl, Or.inr rfl, Or.inr rfl, Or.inr
        rfl, Or.inr rfl, Or.inr rfl, Or.inr rfl, Or.inr rfl, Or.inr rfl, Or.inr rfl, Or.inr rfl, Or.inr rfl, Or.inr
        rfl, Or.inr rfl, Or.inr rfl, Nat.le_refl _, trivial, fun w => w, fun w => w, fun w => w, fun w => w, fun w
        => w, fun w => w, fun w => w, fun w => w, fun w => w, fun w => w, fun w => w, fun w => w, fun w => w⟩
      refine Keeps.mkUpd ?_ ⟨Or.inr rfl, rfl, Or.inr rfl, Or.inr rfl, Or.inr rfl, Or.inr rfl, Or.inr rfl, Or.inl
          rfl, Or.inr rfl, Or.inr rfl, Or.inr rfl, Or.inr rfl, Or.inr rfl, Or.inr rfl, Or.inr rfl, Or.inr rfl,
          Or.inr rfl, Or.inr rfl, Or.inr rfl, Or.inr rfl, Or.inr rfl, Or.inr rfl, Or.inr rfl, Or.inr rfl, Or.inr
          rfl, Or.inr rfl, Or.inr rfl, Or.inr rfl, Or.inr rfl, Or.inr rfl, Or.inr rfl, Or.inr rfl, Or.inr rfl,
          Or.inr rfl, Or.inr rfl, Or.inr rfl, Or.inr rfl, Or.inr rfl, Or.inr rfl, Or.inr rfl, Or.inr rfl, Or.inr
          rfl, Or.inr rfl, Or.inr rfl, Or.inr rfl, Or.inr rfl, Nat.le_refl _, trivial, fun w => w, fun w => w, fun w
          => w, fun w => w, fun w => w, fun w => w, fun w => w, fun w => w, fun w => w, fun w => w, fun w => w, fun
          w => w, fun w => w⟩
      with_reducible assumption
    · refine Keeps.mkUpd ?_ ⟨Or.inr rfl, rfl, Or.inr rfl, Or.inr rfl, Or.inr rfl, Or.inr rfl, Or.inr rfl, Or.inl
        rfl, Or.inr rfl, Or.inr rfl, Or.inr rfl, Or.inr rfl, Or.inr rfl, Or.inr rfl, Or.inr rfl, Or.inr rfl, Or.inr
        rfl, Or.inr rfl, Or.inr rfl, Or.inr rfl, Or.inr rfl, Or.inr rfl, Or.inr rfl, Or.inr rfl, Or.inr rfl, Or.inr
        rfl, Or.inr rfl, Or.inr rfl, Or.inr rfl, Or.inr rfl, Or.inr rfl, Or.inr rfl, Or.inr rfl, Or.inr rfl, Or.inr
        rfl, Or.inr rfl, Or.inr rfl, Or.inr rfl, Or.inr rfl, Or.inr rfl, Or.inr rfl, Or.inr rfl, Or.inr rfl, Or.inr
        rfl, Or.inr rfl, Or.inr rfl, Nat.le_refl _, trivial, fun w => w, fun w => w, fun w => w, fun w => w, fun w
        => w, fun w => w, fun w => w, fun w => w, fun w => w, fun w => w, fun w => w, fun w => w, fun w => w⟩
      with_reducible assumption

theorem execSyncGeneratorStart_keeps {r : Sys2Proof.Requester} {v : Sys2Proof.Word} {s :
    Sys2Proof.Machine.State} : ResKeeps tgtNext 147573952591823896710 s (execSyncGeneratorStart r v s) := by
  unfold execSyncGeneratorStart
  refine ResKeeps.some rfl ?_
  refine Keeps.step ?_ State.syncCtlWrite_keeps rfl
  exact Keeps.refl _ _

theorem execSyncGeneratorStop_keeps {r : Sys2Proof.Requester} {v : Sys2Proof.Word} {s : Sys2Proof.Machine.State}
    : ResKeeps tgtNext 147573952591823896710 s (execSyncGeneratorStop r v s) := by
  unfold execSyncGeneratorStop
  refine ResKeeps.some rfl ?_
  refine Keeps.step ?_ State.syncCtlWrite_keeps rfl
  exact Keeps.refl _ _

theorem State.syncPulse_keeps {s : Sys2Proof.Machine.State} {t : Nat} : Keeps 39356349842188216914221443 s
    (State.syncPulse s t) := by
  unfold State.syncPulse
  refine Keeps.ite ?_ ?_
  · refine Keeps.step ?_ State.syncAt_keeps rfl
    refine Keeps.mkUpd ?_ ⟨Or.inr rfl, rfl, Or.inr rfl, Or.inr rfl, Or.inr rfl, Or.inr rfl, Or.inr rfl, Or.inl
        rfl, Or.inr rfl, Or.inr rfl, Or.inr rfl, Or.inr rfl, Or.inr rfl, Or.inr rfl, Or.inr rfl, Or.inr rfl, Or.inr
        rfl, Or.inr rfl, Or.inr rfl, Or.inr rfl, Or.inr rfl, Or.inr rfl, Or.inr rfl, Or.inr rfl, Or.inr rfl, Or.inr
        rfl, Or.inr rfl, Or.inr rfl, Or.inr rfl, Or.inr rfl, Or.inr rfl, Or.inr rfl, Or.inr rfl, Or.inr rfl, Or.inr
        rfl, Or.inr rfl, Or.inr rfl, Or.inr rfl, Or.inr rfl, Or.inr rfl, Or.inr rfl, Or.inr rfl, Or.inr rfl, Or.inr
        rfl, Or.inr rfl, Or.inr rfl, Nat.le_refl _, trivial, fun w => w, fun w => w, fun w => w, fun w => w, fun w
        => w, fun w => w, fun w => w, fun w => w, fun w => w, fun w => w, fun w => w, fun w => w, fun w => w⟩
    refine Keeps.step ?_ State.advanceTo_keeps rfl
    exact Keeps.refl _ _
  · refine Keeps.mkUpd ?_ ⟨Or.inr rfl, rfl, Or.inr rfl, Or.inr rfl, Or.inr rfl, Or.inr rfl, Or.inr rfl, Or.inl
      rfl, Or.inr rfl, Or.inr rfl, Or.inr rfl, Or.inr rfl, Or.inr rfl, Or.inr rfl, Or.inr rfl, Or.inr rfl, Or.inr
      rfl, Or.inr rfl, Or.inr rfl, Or.inr rfl, Or.inr rfl, Or.inr rfl, Or.inr rfl, Or.inr rfl, Or.inr rfl, Or.inr
      rfl, Or.inr rfl, Or.inr rfl, Or.inr rfl, Or.inr rfl, Or.inr rfl, Or.inr rfl, Or.inr rfl, Or.inr rfl, Or.inr
      rfl, Or.inr rfl, Or.inr rfl, Or.inr rfl, Or.inr rfl, Or.inr rfl, Or.inr rfl, Or.inr rfl, Or.inr rfl, Or.inr
      rfl, Or.inr rfl, Or.inr rfl, Nat.le_refl _, trivial, fun w => w, fun w => w, fun w => w, fun w => w, fun w =>
      w, fun w => w, fun w => w, fun w => w, fun w => w, fun w => w, fun w => w, fun w => w, fun w => w⟩
    refine Keeps.step ?_ State.advanceTo_keeps rfl
    exact Keeps.refl _ _

theorem execSyncPulseGenerate_keeps {s : Sys2Proof.Machine.State} : ResKeeps tgtNext 39356349842188216914221443
    s (execSyncPulseGenerate s) := by
  unfold execSyncPulseGenerate
  split
  · refine ResKeeps.some rfl ?_
    refine Keeps.step ?_ State.syncPulse_keeps rfl
    exact Keeps.refl _ _
  · refine ResKeeps.some rfl ?_
    exact Keeps.refl _ _

theorem State.modCg_keeps {s : Sys2Proof.Machine.State} {n : Nat} {f : Sys2Proof.Machine.CgOp →
    Sys2Proof.Machine.CgOp} : Keeps 64 s (State.modCg s n f) := by
  unfold State.modCg
  refine Keeps.mkUpd ?_ ⟨Or.inr rfl, rfl, Or.inr rfl, Or.inr rfl, Or.inr rfl, Or.inr rfl, Or.inl rfl, Or.inr
      rfl, Or.inr rfl, Or.inr rfl, Or.inr rfl, Or.inr rfl, Or.inr rfl, Or.inr rfl, Or.inr rfl, Or.inr rfl, Or.inr
      rfl, Or.inr rfl, Or.inr rfl, Or.inr rfl, Or.inr rfl, Or.inr rfl, Or.inr rfl, Or.inr rfl, Or.inr rfl, Or.inr
      rfl, Or.inr rfl, Or.inr rfl, Or.inr rfl, Or.inr rfl, Or.inr rfl, Or.inr rfl, Or.inr rfl, Or.inr rfl, Or.inr
      rfl, Or.inr rfl, Or.inr rfl, Or.inr rfl, Or.inr rfl, Or.inr rfl, Or.inr rfl, Or.inr rfl, Or.inr rfl, Or.inr
      rfl, Or.inr rfl, Or.inr rfl, Nat.le_refl _, trivial, fun w => w, fun w => w, fun w => w, fun w => w, fun w =>
      w, fun w => w, fun w => w, fun w => w, fun w => w, fun w => w, fun w => w, fun w => w, fun w => w⟩
  exact Keeps.refl _ _

theorem State.cgPendSync_keeps {s : Sys2Proof.Machine.State} {n : Nat} : Keeps 147573952589676412930 s
    (State.cgPendSync s n) := by
  unfold State.cgPendSync
  refine Keeps.step ?_ State.wr_keeps (kb_k 147573952589676412928 rfl rfl)
  exact Keeps.refl _ _

theorem State.cgGo_keeps {s : Sys2Proof.Machine.State} : Keeps 147573952589676412994 s (State.cgGo s) := by
  unfold State.cgGo
  refine Keeps.foldl _ _ ?_ ?_
  · refine Keeps.ite ?_ ?_
    · exact Keeps.refl _ _
    · refine Keeps.step ?_ State.wr_keeps (kb_k 147573952589676412928 rfl rfl)
      exact Keeps.refl _ _
  · intro y_ a_ h_
    refine Keeps.step ?_ State.cgPendSync_keeps rfl
    refine Keeps.step ?_ State.modCg_keeps rfl
    with_reducible assumption

theorem State.cgCtlWrite_keeps {s : Sys2Proof.Machine.State} {r : Sys2Proof.Requester} {n : Nat} {word : Nat} :
    Keeps 147573952591823896646 s (State.cgCtlWrite s r n word) := by
  unfold State.cgCtlWrite
  refine State.writeWith_keeps ?_ (kb_k 147573952589676412928 rfl rfl) ?_
  · exact Keeps.refl _ _
  · intro y0_ h_
    refine Keeps.ite ?_ ?_
    · refine Keeps.step ?_ State.cgPendSync_keeps rfl
      refine Keeps.step ?_ State.modCg_keeps rfl
      with_reducible assumption
    · refine Keeps.ite ?_ ?_
      · refine Keeps.step ?_ State.cgPendSync_keeps rfl
        refine Keeps.step ?_ State.wr_keeps (kb_k 147573952589676412928 rfl rfl)
        refine Keeps.step ?_ State.modCg_keeps rfl
        with_reducible assumption
      · with_reducible assumption

theorem execClockGeneratorStart_keeps {r : Sys2Proof.Requester} {n : Fin 8} {v : Sys2Proof.Word} {s :
    Sys2Proof.Machine.State} : ResKeeps tgtNext 147573952591823896646 s (execClockGeneratorStart r n v s) := by
  unfold execClockGeneratorStart
  refine ResKeeps.some rfl ?_
  refine Keeps.step ?_ State.cgCtlWrite_keeps rfl
  exact Keeps.refl _ _

theorem execClockGeneratorStop_keeps {r : Sys2Proof.Requester} {n : Fin 8} {v : Sys2Proof.Word} {s :
    Sys2Proof.Machine.State} : ResKeeps tgtNext 147573952591823896646 s (execClockGeneratorStop r n v s) := by
  unfold execClockGeneratorStop
  refine ResKeeps.some rfl ?_
  refine Keeps.step ?_ State.cgCtlWrite_keeps rfl
  exact Keeps.refl _ _

theorem State.cgCommit_keeps {s : Sys2Proof.Machine.State} {n : Nat} : Keeps 147573952589676412934 s
    (State.cgCommit s n) := by
  unfold State.cgCommit
  refine Keeps.ite ?_ ?_
  · refine Keeps.step ?_ State.commitWhere_keeps (kb_k 147573952589676412928 rfl rfl)
    exact Keeps.refl _ _
  · refine Keeps.step ?_ State.wr_keeps (kb_k 147573952589676412928 rfl rfl)
    refine Keeps.mkUpd ?_ ⟨Or.inr rfl, rfl, Or.inl rfl, Or.inr rfl, Or.inr rfl, Or.inr rfl, Or.inr rfl, Or.inr
        rfl, Or.inr rfl, Or.inr rfl, Or.inr rfl, Or.inr rfl, Or.inr rfl, Or.inr rfl, Or.inr rfl, Or.inr rfl, Or.inr
        rfl, Or.inr rfl, Or.inr rfl, Or.inr rfl, Or.inr rfl, Or.inr rfl, Or.inr rfl, Or.inr rfl, Or.inr rfl, Or.inr
        rfl, Or.inr rfl, Or.inr rfl, Or.inr rfl, Or.inr rfl, Or.inr rfl, Or.inr rfl, Or.inr rfl, Or.inr rfl, Or.inr
        rfl, Or.inr rfl, Or.inr rfl, Or.inr rfl, Or.inr rfl, Or.inr rfl, Or.inr rfl, Or.inr rfl, Or.inr rfl, Or.inr
        rfl, Or.inr rfl, Or.inr rfl, Nat.le_refl _, trivial,
        (by first | with_reducible exact tabRising_filter _ _ _ | with_reducible exact tabRising_tabInsert _ _ _ _ (Nat.zero_le _)),
        fun w => w, fun w => w, fun w => w, fun w => w, fun w => w, fun w => w, fun w => w, fun w => w, fun w => w,
        fun w => w, fun w => w, fun w => w⟩
    exact Keeps.refl _ _

theorem State.cgReset_keeps {s : Sys2Proof.Machine.State} {n : Nat} {t : Nat} : Keeps 147573952589676412999 s
    (State.cgReset s n t) := by
  unfold State.cgReset
  refine Keeps.ite ?_ ?_
  · refine Keeps.step ?_ State.wr_keeps (kb_k 147573952589676412928 rfl rfl)
    refine Keeps.ite ?_ ?_
    · refine Keeps.step ?_ State.wr_keeps (kb_k 147573952589676412928 rfl rfl)
      refine Keeps.step ?_ State.modCg_keeps rfl
      refine Keeps.ite ?_ ?_
      · refine Keeps.step ?_ State.cgCommit_keeps rfl
        refine Keeps.step ?_ State.advanceTo_keeps rfl
        exact Keeps.refl _ _
      · refine Keeps.step ?_ State.advanceTo_keeps rfl
        exact Keeps.refl _ _
    · refine Keeps.step ?_ State.modCg_keeps rfl
      refine Keeps.ite ?_ ?_
      · refine Keeps.step ?_ State.cgCommit_keeps rfl
        refine Keeps.step ?_ State.advanceTo_keeps rfl
        exact Keeps.refl _ _
      · refine Keeps.step ?_ State.advanceTo_keeps rfl
        exact Keeps.refl _ _
  · refine Keeps.step ?_ State.wr_keeps (kb_k 147573952589676412928 rfl rfl)
    refine Keeps.step ?_ State.wr_keeps (kb_k 147573952589676412928 rfl rfl)
    refine Keeps.ite ?_ ?_
    · refine Keeps.step ?_ State.wr_keeps (kb_k 147573952589676412928 rfl rfl)
      refine Keeps.step ?_ State.modCg_keeps rfl
      refine Keeps.ite ?_ ?_
      · refine Keeps.step ?_ State.cgCommit_keeps rfl
        refine Keeps.step ?_ State.advanceTo_keeps rfl
        exact Keeps.refl _ _
      · refine Keeps.step ?_ State.advanceTo_keeps rfl
        exact Keeps.refl _ _
    · refine Keeps.step ?_ State.modCg_keeps rfl
      refine Keeps.ite ?_ ?_
      · refine Keeps.step ?_ State.cgCommit_keeps rfl
        refine Keeps.step ?_ State.advanceTo_keeps rfl
        exact Keeps.refl _ _
      · refine Keeps.step ?_ State.advanceTo_keeps rfl
        exact Keeps.refl _ _

theorem execCgPhaseReset_keeps {n : Fin 8} {s : Sys2Proof.Machine.State} : ResKeeps tgtNext
    147573952589676412999 s (execCgPhaseReset n s) := by
  unfold execCgPhaseReset
  split
  · refine ResKeeps.some rfl ?_
    refine Keeps.step ?_ State.cgReset_keeps rfl
    exact Keeps.refl _ _
  · refine ResKeeps.some rfl ?_
    exact Keeps.refl _ _

end Sys2Proof.Machine
end

