-- ==== Sys2Proof/Laws/FrameAml.lean ====
section
/-! SUPPORT. What each function of Machine/Aml.lean may change: one mask of `Keeps` for each. -/

namespace Sys2Proof.Machine

open Reg

theorem State.modAml_keeps {s : Sys2Proof.Machine.State} {p : Nat} {f : Sys2Proof.Machine.AmlOp →
    Sys2Proof.Machine.AmlOp} : Keeps 2048 s (State.modAml s p f) := by
  unfold State.modAml
  refine Keeps.mkUpd ?_ ⟨Or.inr rfl, rfl, Or.inr rfl, Or.inr rfl, Or.inr rfl, Or.inr rfl, Or.inr rfl, Or.inr
      rfl, Or.inr rfl, Or.inr rfl, Or.inr rfl, Or.inl rfl, Or.inr rfl, Or.inr rfl, Or.inr rfl, Or.inr rfl, Or.inr
      rfl, Or.inr rfl, Or.inr rfl, Or.inr rfl, Or.inr rfl, Or.inr rfl, Or.inr rfl, Or.inr rfl, Or.inr rfl, Or.inr
      rfl, Or.inr rfl, Or.inr rfl, Or.inr rfl, Or.inr rfl, Or.inr rfl, Or.inr rfl, Or.inr rfl, Or.inr rfl, Or.inr
      rfl, Or.inr rfl, Or.inr rfl, Or.inr rfl, Or.inr rfl, Or.inr rfl, Or.inr rfl, Or.inr rfl, Or.inr rfl, Or.inr
      rfl, Or.inr rfl, Or.inr rfl, Nat.le_refl _, trivial, fun w => w, fun w => w, fun w => w, fun w => w, fun w =>
      w, fun w => w, fun w => w, fun w => w, fun w => w, fun w => w, fun w => w, fun w => w, fun w => w⟩
  exact Keeps.refl _ _

theorem State.setAml_keeps {s : Sys2Proof.Machine.State} {p : Nat} {st : Nat} {reason : Nat} : Keeps
    1813388729421944030494722 s (State.setAml s p st reason) := by
  unfold State.setAml
  refine Keeps.ite ?_ ?_
  · refine Keeps.step ?_ State.wr_keeps (kb_k 1208925819614629174706176 rfl rfl)
    exact Keeps.refl _ _
  · refine Keeps.step ?_ State.raiseCause_keeps rfl
    refine Keeps.step ?_ State.wr_keeps (kb_k 1208925819614629174706176 rfl rfl)
    refine Keeps.step ?_ State.wr_keeps (kb_k 1208925819614629174706176 rfl rfl)
    refine Keeps.step ?_ State.wr_keeps (kb_k 1208925819614629174706176 rfl rfl)
    exact Keeps.refl _ _

theorem State.amlFresh_keeps {s : Sys2Proof.Machine.State} {p : Nat} : Keeps 2048 s (State.amlFresh s p) := by
  unfold State.amlFresh
  refine Keeps.step ?_ State.modAml_keeps rfl
  exact Keeps.refl _ _

theorem State.amlTrain_keeps {s : Sys2Proof.Machine.State} {p : Nat} {reason : Nat} : Keeps
    1813388729421944030496770 s (State.amlTrain s p reason) := by
  unfold State.amlTrain
  refine Keeps.step ?_ State.setAml_keeps rfl
  refine Keeps.step ?_ State.amlFresh_keeps rfl
  exact Keeps.refl _ _

theorem State.rgCheck_keeps {s : Sys2Proof.Machine.State} {g : Nat} : Keeps 147573952589676413186 s
    (State.rgCheck s g) := by
  unfold State.rgCheck
  refine Keeps.ite ?_ ?_
  · refine Keeps.foldl _ _ ?_ ?_
    · refine Keeps.step ?_ State.wr_keeps (kb_k 147573952589676412928 rfl rfl)
      refine Keeps.step ?_ State.wr_keeps (kb_k 147573952589676412928 rfl rfl)
      exact Keeps.refl _ _
    · intro y_ a_ h_
      split
      · refine Keeps.ite ?_ ?_
        · refine Keeps.step ?_ State.modSq_keeps rfl
          with_reducible assumption
        · with_reducible assumption
      · with_reducible assumption
  · refine Keeps.step ?_ State.wr_keeps (kb_k 147573952589676412928 rfl rfl)
    refine Keeps.step ?_ State.wr_keeps (kb_k 147573952589676412928 rfl rfl)
    exact Keeps.refl _ _

theorem State.chipsLost_keeps {s : Sys2Proof.Machine.State} {mask : Nat} : Keeps 1548171330584971339140537235 s
    (State.chipsLost s mask) := by
  unfold State.chipsLost
  refine Keeps.ite ?_ ?_
  · refine Keeps.step ?_ State.enterHold_keeps rfl
    refine Keeps.mkUpd ?_ ⟨Or.inr rfl, rfl, Or.inr rfl, Or.inr rfl, Or.inr rfl, Or.inr rfl, Or.inr rfl, Or.inr
        rfl, Or.inr rfl, Or.inr rfl, Or.inr rfl, Or.inr rfl, Or.inr rfl, Or.inr rfl, Or.inr rfl, Or.inr rfl, Or.inr
        rfl, Or.inr rfl, Or.inr rfl, Or.inr rfl, Or.inr rfl, Or.inr rfl, Or.inr rfl, Or.inr rfl, Or.inr rfl, Or.inr
        rfl, Or.inr rfl, Or.inr rfl, Or.inr rfl, Or.inr rfl, Or.inl rfl, Or.inr rfl, Or.inr rfl, Or.inr rfl, Or.inr
        rfl, Or.inr rfl, Or.inr rfl, Or.inr rfl, Or.inr rfl, Or.inr rfl, Or.inr rfl, Or.inr rfl, Or.inr rfl, Or.inr
        rfl, Or.inr rfl, Or.inr rfl, Nat.le_refl _, trivial, fun w => w, fun w => w, fun w => w, fun w => w, fun w
        => w, fun w => w, fun w => w, fun w => w, fun w => w, fun w => w, fun w => w, fun w => w, fun w => w⟩
    refine Keeps.ite ?_ ?_
    · refine Keeps.mkUpd ?_ ⟨Or.inr rfl, rfl, Or.inr rfl, Or.inr rfl, Or.inr rfl, Or.inr rfl, Or.inr rfl, Or.inr
        rfl, Or.inr rfl, Or.inr rfl, Or.inr rfl, Or.inr rfl, Or.inr rfl, Or.inr rfl, Or.inr rfl, Or.inr rfl, Or.inr
        rfl, Or.inr rfl, Or.inr rfl, Or.inr rfl, Or.inr rfl, Or.inr rfl, Or.inr rfl, Or.inr rfl, Or.inl rfl, Or.inr
        rfl, Or.inr rfl, Or.inr rfl, Or.inr rfl, Or.inr rfl, Or.inr rfl, Or.inr rfl, Or.inr rfl, Or.inr rfl, Or.inr
        rfl, Or.inr rfl, Or.inr rfl, Or.inr rfl, Or.inr rfl, Or.inr rfl, Or.inr rfl, Or.inr rfl, Or.inr rfl, Or.inr
        rfl, Or.inr rfl, Or.inr rfl, Nat.le_refl _, trivial, fun w => w, fun w => w, fun w => w, fun w => w, fun w
        => w, fun w => w, fun w => w, fun w => w, fun w => w, fun w => w, fun w => w, fun w => w, fun w => w⟩
      refine Keeps.foldl _ _ ?_ ?_
      · refine Keeps.foldl _ _ ?_ ?_
        · refine Keeps.mkUpd ?_ ⟨Or.inr rfl, rfl, Or.inr rfl, Or.inr rfl, Or.inr rfl, Or.inr rfl, Or.inr rfl,
            Or.inl rfl, Or.inr rfl, Or.inr rfl, Or.inr rfl, Or.inr rfl, Or.inr rfl, Or.inr rfl, Or.inr rfl, Or.inr
            rfl, Or.inr rfl, Or.inr rfl, Or.inr rfl, Or.inr rfl, Or.inr rfl, Or.inr rfl, Or.inr rfl, Or.inr rfl,
            Or.inr rfl, Or.inr rfl, Or.inr rfl, Or.inr rfl, Or.inr rfl, Or.inr rfl, Or.inr rfl, Or.inr rfl, Or.inr
            rfl, Or.inr rfl, Or.inr rfl, Or.inr rfl, Or.inr rfl, Or.inr rfl, Or.inr rfl, Or.inr rfl, Or.inr rfl,
            Or.inr rfl, Or.inr rfl, Or.inr rfl, Or.inr rfl, Or.inr rfl, Nat.le_refl _, trivial, fun w => w, fun w =>
            w, fun w => w, fun w => w, fun w => w, fun w => w, fun w => w, fun w => w, fun w => w, fun w => w, fun w
            => w, fun w => w, fun w => w⟩
          exact Keeps.refl _ _
        · intro y_ a_ h_
          refine Keeps.step ?_ State.rgCheck_keeps rfl
          with_reducible assumption
      · intro y_ a_ h_
        refine Keeps.ite ?_ ?_
        · refine Keeps.step ?_ State.endNext_keeps rfl
          with_reducible assumption
        · with_reducible assumption
    · refine Keeps.foldl _ _ ?_ ?_
      · refine Keeps.foldl _ _ ?_ ?_
        · refine Keeps.mkUpd ?_ ⟨Or.inr rfl, rfl, Or.inr rfl, Or.inr rfl, Or.inr rfl, Or.inr rfl, Or.inr rfl,
            Or.inl rfl, Or.inr rfl, Or.inr rfl, Or.inr rfl, Or.inr rfl, Or.inr rfl, Or.inr rfl, Or.inr rfl, Or.inr
            rfl, Or.inr rfl, Or.inr rfl, Or.inr rfl, Or.inr rfl, Or.inr rfl, Or.inr rfl, Or.inr rfl, Or.inr rfl,
            Or.inr rfl, Or.inr rfl, Or.inr rfl, Or.inr rfl, Or.inr rfl, Or.inr rfl, Or.inr rfl, Or.inr rfl, Or.inr
            rfl, Or.inr rfl, Or.inr rfl, Or.inr rfl, Or.inr rfl, Or.inr rfl, Or.inr rfl, Or.inr rfl, Or.inr rfl,
            Or.inr rfl, Or.inr rfl, Or.inr rfl, Or.inr rfl, Or.inr rfl, Nat.le_refl _, trivial, fun w => w, fun w =>
            w, fun w => w, fun w => w, fun w => w, fun w => w, fun w => w, fun w => w, fun w => w, fun w => w, fun w
            => w, fun w => w, fun w => w⟩
          exact Keeps.refl _ _
        · intro y_ a_ h_
          refine Keeps.step ?_ State.rgCheck_keeps rfl
          with_reducible assumption
      · intro y_ a_ h_
        refine Keeps.ite ?_ ?_
        · refine Keeps.step ?_ State.endNext_keeps rfl
          with_reducible assumption
        · with_reducible assumption
  · refine Keeps.ite ?_ ?_
    · refine Keeps.mkUpd ?_ ⟨Or.inr rfl, rfl, Or.inr rfl, Or.inr rfl, Or.inr rfl, Or.inr rfl, Or.inr rfl, Or.inr
        rfl, Or.inr rfl, Or.inr rfl, Or.inr rfl, Or.inr rfl, Or.inr rfl, Or.inr rfl, Or.inr rfl, Or.inr rfl, Or.inr
        rfl, Or.inr rfl, Or.inr rfl, Or.inr rfl, Or.inr rfl, Or.inr rfl, Or.inr rfl, Or.inr rfl, Or.inl rfl, Or.inr
        rfl, Or.inr rfl, Or.inr rfl, Or.inr rfl, Or.inr rfl, Or.inr rfl, Or.inr rfl, Or.inr rfl, Or.inr rfl, Or.inr
        rfl, Or.inr rfl, Or.inr rfl, Or.inr rfl, Or.inr rfl, Or.inr rfl, Or.inr rfl, Or.inr rfl, Or.inr rfl, Or.inr
        rfl, Or.inr rfl, Or.inr rfl, Nat.le_refl _, trivial, fun w => w, fun w => w, fun w => w, fun w => w, fun w
        => w, fun w => w, fun w => w, fun w => w, fun w => w, fun w => w, fun w => w, fun w => w, fun w => w⟩
      refine Keeps.foldl _ _ ?_ ?_
      · refine Keeps.foldl _ _ ?_ ?_
        · refine Keeps.mkUpd ?_ ⟨Or.inr rfl, rfl, Or.inr rfl, Or.inr rfl, Or.inr rfl, Or.inr rfl, Or.inr rfl,
            Or.inl rfl, Or.inr rfl, Or.inr rfl, Or.inr rfl, Or.inr rfl, Or.inr rfl, Or.inr rfl, Or.inr rfl, Or.inr
            rfl, Or.inr rfl, Or.inr rfl, Or.inr rfl, Or.inr rfl, Or.inr rfl, Or.inr rfl, Or.inr rfl, Or.inr rfl,
            Or.inr rfl, Or.inr rfl, Or.inr rfl, Or.inr rfl, Or.inr rfl, Or.inr rfl, Or.inr rfl, Or.inr rfl, Or.inr
            rfl, Or.inr rfl, Or.inr rfl, Or.inr rfl, Or.inr rfl, Or.inr rfl, Or.inr rfl, Or.inr rfl, Or.inr rfl,
            Or.inr rfl, Or.inr rfl, Or.inr rfl, Or.inr rfl, Or.inr rfl, Nat.le_refl _, trivial, fun w => w, fun w =>
            w, fun w => w, fun w => w, fun w => w, fun w => w, fun w => w, fun w => w, fun w => w, fun w => w, fun w
            => w, fun w => w, fun w => w⟩
          exact Keeps.refl _ _
        · intro y_ a_ h_
          refine Keeps.step ?_ State.rgCheck_keeps rfl
          with_reducible assumption
      · intro y_ a_ h_
        refine Keeps.ite ?_ ?_
        · refine Keeps.step ?_ State.endNext_keeps rfl
          with_reducible assumption
        · with_reducible assumption
    · refine Keeps.foldl _ _ ?_ ?_
      · refine Keeps.foldl _ _ ?_ ?_
        · refine Keeps.mkUpd ?_ ⟨Or.inr rfl, rfl, Or.inr rfl, Or.inr rfl, Or.inr rfl, Or.inr rfl, Or.inr rfl,
            Or.inl rfl, Or.inr rfl, Or.inr rfl, Or.inr rfl, Or.inr rfl, Or.inr rfl, Or.inr rfl, Or.inr rfl, Or.inr
            rfl, Or.inr rfl, Or.inr rfl, Or.inr rfl, Or.inr rfl, Or.inr rfl, Or.inr rfl, Or.inr rfl, Or.inr rfl,
            Or.inr rfl, Or.inr rfl, Or.inr rfl, Or.inr rfl, Or.inr rfl, Or.inr rfl, Or.inr rfl, Or.inr rfl, Or.inr
            rfl, Or.inr rfl, Or.inr rfl, Or.inr rfl, Or.inr rfl, Or.inr rfl, Or.inr rfl, Or.inr rfl, Or.inr rfl,
            Or.inr rfl, Or.inr rfl, Or.inr rfl, Or.inr rfl, Or.inr rfl, Nat.le_refl _, trivial, fun w => w, fun w =>
            w, fun w => w, fun w => w, fun w => w, fun w => w, fun w => w, fun w => w, fun w => w, fun w => w, fun w
            => w, fun w => w, fun w => w⟩
          exact Keeps.refl _ _
        · intro y_ a_ h_
          refine Keeps.step ?_ State.rgCheck_keeps rfl
          with_reducible assumption
      · intro y_ a_ h_
        refine Keeps.ite ?_ ?_
        · refine Keeps.step ?_ State.endNext_keeps rfl
          with_reducible assumption
        · with_reducible assumption

theorem State.chipsBack_keeps {s : Sys2Proof.Machine.State} {mask : Nat} : Keeps 147573952590750155138 s
    (State.chipsBack s mask) := by
  unfold State.chipsBack
  refine Keeps.ite ?_ ?_
  · refine Keeps.mkUpd ?_ ⟨Or.inr rfl, rfl, Or.inr rfl, Or.inr rfl, Or.inr rfl, Or.inr rfl, Or.inr rfl, Or.inr
      rfl, Or.inr rfl, Or.inr rfl, Or.inr rfl, Or.inr rfl, Or.inr rfl, Or.inr rfl, Or.inr rfl, Or.inr rfl, Or.inr
      rfl, Or.inr rfl, Or.inr rfl, Or.inr rfl, Or.inr rfl, Or.inr rfl, Or.inr rfl, Or.inr rfl, Or.inr rfl, Or.inr
      rfl, Or.inr rfl, Or.inr rfl, Or.inr rfl, Or.inr rfl, Or.inl rfl, Or.inr rfl, Or.inr rfl, Or.inr rfl, Or.inr
      rfl, Or.inr rfl, Or.inr rfl, Or.inr rfl, Or.inr rfl, Or.inr rfl, Or.inr rfl, Or.inr rfl, Or.inr rfl, Or.inr
      rfl, Or.inr rfl, Or.inr rfl, Nat.le_refl _, trivial, fun w => w, fun w => w, fun w => w, fun w => w, fun w =>
      w, fun w => w, fun w => w, fun w => w, fun w => w, fun w => w, fun w => w, fun w => w, fun w => w⟩
    refine Keeps.foldl _ _ ?_ ?_
    · refine Keeps.mkUpd ?_ ⟨Or.inr rfl, rfl, Or.inr rfl, Or.inr rfl, Or.inr rfl, Or.inr rfl, Or.inr rfl, Or.inl
        rfl, Or.inr rfl, Or.inr rfl, Or.inr rfl, Or.inr rfl, Or.inr rfl, Or.inr rfl, Or.inr rfl, Or.inr rfl, Or.inr
        rfl, Or.inr rfl, Or.inr rfl, Or.inr rfl, Or.inr rfl, Or.inr rfl, Or.inr rfl, Or.inr rfl, Or.inr rfl, Or.inr
        rfl, Or.inr rfl, Or.inr rfl, Or.inr rfl, Or.inr rfl, Or.inr rfl, Or.inr rfl, Or.inr rfl, Or.inr rfl, Or.inr
        rfl, Or.inr rfl, Or.inr rfl, Or.inr rfl, Or.inr rfl, Or.inr rfl, Or.inr rfl, Or.inr rfl, Or.inr rfl, Or.inr
        rfl, Or.inr rfl, Or.inr rfl, Nat.le_refl _, trivial, fun w => w, fun w => w, fun w => w, fun w => w, fun w
        => w, fun w => w, fun w => w, fun w => w, fun w => w, fun w => w, fun w => w, fun w => w, fun w => w⟩
      exact Keeps.refl _ _
    · intro y_ a_ h_
      refine Keeps.step ?_ State.rgCheck_keeps rfl
      with_reducible assumption
  · refine Keeps.foldl _ _ ?_ ?_
    · refine Keeps.mkUpd ?_ ⟨Or.inr rfl, rfl, Or.inr rfl, Or.inr rfl, Or.inr rfl, Or.inr rfl, Or.inr rfl, Or.inl
        rfl, Or.inr rfl, Or.inr rfl, Or.inr rfl, Or.inr rfl, Or.inr rfl, Or.inr rfl, Or.inr rfl, Or.inr rfl, Or.inr
        rfl, Or.inr rfl, Or.inr rfl, Or.inr rfl, Or.inr rfl, Or.inr rfl, Or.inr rfl, Or.inr rfl, Or.inr rfl, Or.inr
        rfl, Or.inr rfl, Or.inr rfl, Or.inr rfl, Or.inr rfl, Or.inr rfl, Or.inr rfl, Or.inr rfl, Or.inr rfl, Or.inr
        rfl, Or.inr rfl, Or.inr rfl, Or.inr rfl, Or.inr rfl, Or.inr rfl, Or.inr rfl, Or.inr rfl, Or.inr rfl, Or.inr
        rfl, Or.inr rfl, Or.inr rfl, Nat.le_refl _, trivial, fun w => w, fun w => w, fun w => w, fun w => w, fun w
        => w, fun w => w, fun w => w, fun w => w, fun w => w, fun w => w, fun w => w, fun w => w, fun w => w⟩
      exact Keeps.refl _ _
    · intro y_ a_ h_
      refine Keeps.step ?_ State.rgCheck_keeps rfl
      with_reducible assumption

theorem execAmlLinkDown_keeps {p : Fin 4} {reason : Fin 5} {lost : BitVec 16} {s : Sys2Proof.Machine.State} :
    ResKeeps tgtNext 1549380256404585968315243411 s (execAmlLinkDown p reason lost s) := by
  unfold execAmlLinkDown
  refine ResKeeps.some rfl ?_
  refine Keeps.step ?_ State.chipsLost_keeps rfl
  refine Keeps.ite ?_ ?_
  · refine Keeps.step ?_ State.setAml_keeps rfl
    refine Keeps.step ?_ State.amlFresh_keeps rfl
    exact Keeps.refl _ _
  · exact Keeps.refl _ _

theorem State.amlTrained_keeps {s : Sys2Proof.Machine.State} {p : Nat} {t : Sys2Proof.AmlTraining} : Keeps
    1851167661284901192271874 s (State.amlTrained s p t) := by
  unfold State.amlTrained
  refine Keeps.ite ?_ ?_
  · refine Keeps.step ?_ State.setAml_keeps rfl
    exact Keeps.refl _ _
  · refine Keeps.ite ?_ ?_
    · refine Keeps.step ?_ State.setAml_keeps rfl
      exact Keeps.refl _ _
    · refine Keeps.step ?_ State.amlPut_keeps rfl
      refine Keeps.step ?_ State.setAml_keeps rfl
      refine Keeps.step ?_ State.wr_keeps (kb_k 1208925819614629174706176 rfl rfl)
      refine Keeps.step ?_ State.wr_keeps (kb_k 1208925819614629174706176 rfl rfl)
      refine Keeps.step ?_ State.wr_keeps (kb_k 1208925819614629174706176 rfl rfl)
      exact Keeps.refl _ _

theorem execAmlTrain_keeps {p : Fin 4} {t : Sys2Proof.AmlTraining} {s : Sys2Proof.Machine.State} : ResKeeps
    tgtNext 1851167661284901192271874 s (execAmlTrain p t s) := by
  unfold execAmlTrain
  refine ResKeeps.some rfl ?_
  refine Keeps.ite ?_ ?_
  · refine Keeps.step ?_ State.amlTrained_keeps rfl
    exact Keeps.refl _ _
  · exact Keeps.refl _ _

theorem State.amlCfgWrite_keeps {s : Sys2Proof.Machine.State} {r : Sys2Proof.Requester} {p : Nat} {word : Nat} :
    Keeps 1813388729421946177980422 s (State.amlCfgWrite s r p word) := by
  unfold State.amlCfgWrite
  refine State.writeWith_keeps ?_ (kb_k 1208925819614629174706176 rfl rfl) ?_
  · exact Keeps.refl _ _
  · intro y0_ h_
    refine Keeps.ite ?_ ?_
    · refine Keeps.step ?_ State.amlTrain_keeps rfl
      with_reducible assumption
    · with_reducible assumption

theorem State.amlCtlWrite_keeps {s : Sys2Proof.Machine.State} {r : Sys2Proof.Requester} {p : Nat} {word : Nat} :
    Keeps 1813388729421946177980422 s (State.amlCtlWrite s r p word) := by
  unfold State.amlCtlWrite
  refine State.writeWith_keeps ?_ (kb_k 1208925819614629174706176 rfl rfl) ?_
  · exact Keeps.refl _ _
  · intro y0_ h_
    refine Keeps.ite ?_ ?_
    · refine Keeps.step ?_ State.amlTrain_keeps rfl
      with_reducible assumption
    · with_reducible assumption

theorem execAmlRetrain_keeps {r : Sys2Proof.Requester} {p : Fin 4} {s : Sys2Proof.Machine.State} : ResKeeps
    tgtNext 1813388729421946177980422 s (execAmlRetrain r p s) := by
  unfold execAmlRetrain
  refine ResKeeps.some rfl ?_
  refine Keeps.step ?_ State.amlCtlWrite_keeps rfl
  exact Keeps.refl _ _

theorem execAmlTrainRetry_keeps {p : Fin 4} {s : Sys2Proof.Machine.State} : ResKeeps tgtNext
    1813388729421944030496770 s (execAmlTrainRetry p s) := by
  unfold execAmlTrainRetry
  refine ResKeeps.some rfl ?_
  refine Keeps.ite ?_ ?_
  · refine Keeps.step ?_ State.amlTrain_keeps rfl
    exact Keeps.refl _ _
  · exact Keeps.refl _ _

theorem State.capx_keeps {s : Sys2Proof.Machine.State} {p : Nat} {chip : Nat} {chips : Nat} {major : Nat} {minor
    : Nat} {reach : Nat} : Keeps 1813536303374534780649858 s (State.capx s p chip chips major minor reach) := by
  unfold State.capx
  refine Keeps.ite ?_ ?_
  · refine Keeps.step ?_ State.setAml_keeps rfl
    refine Keeps.step ?_ State.wr_keeps (kb_k 1208925819614629174706176 rfl rfl)
    refine Keeps.step ?_ State.wr_keeps (kb_k 1208925819614629174706176 rfl rfl)
    refine Keeps.step ?_ State.wr_keeps (kb_k 1208925819614629174706176 rfl rfl)
    exact Keeps.refl _ _
  · refine Keeps.ite ?_ ?_
    · refine Keeps.step ?_ State.setAml_keeps rfl
      refine Keeps.step ?_ State.wr_keeps (kb_k 1208925819614629174706176 rfl rfl)
      refine Keeps.step ?_ State.wr_keeps (kb_k 1208925819614629174706176 rfl rfl)
      refine Keeps.step ?_ State.wr_keeps (kb_k 1208925819614629174706176 rfl rfl)
      exact Keeps.refl _ _
    · refine Keeps.ite ?_ ?_
      · refine Keeps.step ?_ State.chipsBack_keeps rfl
        refine Keeps.step ?_ State.setAml_keeps rfl
        refine Keeps.step ?_ State.wr_keeps (kb_k 1208925819614629174706176 rfl rfl)
        refine Keeps.step ?_ State.wr_keeps (kb_k 1208925819614629174706176 rfl rfl)
        refine Keeps.step ?_ State.wr_keeps (kb_k 1208925819614629174706176 rfl rfl)
        refine Keeps.step ?_ State.wr_keeps (kb_k 1208925819614629174706176 rfl rfl)
        exact Keeps.refl _ _
      · refine Keeps.step ?_ State.chipsBack_keeps rfl
        refine Keeps.step ?_ State.setAml_keeps rfl
        refine Keeps.step ?_ State.wr_keeps (kb_k 1208925819614629174706176 rfl rfl)
        refine Keeps.step ?_ State.wr_keeps (kb_k 1208925819614629174706176 rfl rfl)
        refine Keeps.step ?_ State.wr_keeps (kb_k 1208925819614629174706176 rfl rfl)
        exact Keeps.refl _ _

theorem execCapxFlit_keeps {p : Fin 4} {chip : Fin 16} {chips : BitVec 16} {major : BitVec 8} {minor : BitVec 8}
    {reach : BitVec 16} {s : Sys2Proof.Machine.State} : ResKeeps tgtNext 1813536303374534780649858 s
    (execCapxFlit p chip chips major minor reach s) := by
  unfold execCapxFlit
  refine ResKeeps.some rfl ?_
  refine Keeps.ite ?_ ?_
  · refine Keeps.step ?_ State.capx_keeps rfl
    exact Keeps.refl _ _
  · exact Keeps.refl _ _

theorem State.amlAcked_keeps {s : Sys2Proof.Machine.State} {p : Nat} {ack : Nat} : Keeps 37778931862957161777154
    s (State.amlAcked s p ack) := by
  unfold State.amlAcked
  refine Keeps.ite ?_ ?_
  · refine Keeps.step ?_ State.count_keeps rfl
    refine Keeps.step ?_ State.modAml_keeps rfl
    exact Keeps.refl _ _
  · exact Keeps.refl _ _

theorem State.amlReplay_keeps {s : Sys2Proof.Machine.State} {p : Nat} : Keeps 1851167661284903339755522 s
    (State.amlReplay s p) := by
  unfold State.amlReplay
  refine Keeps.ite ?_ ?_
  · refine Keeps.step ?_ State.pagePairs_keeps rfl
    refine Keeps.step ?_ State.amlTrain_keeps rfl
    refine Keeps.step ?_ State.wr_keeps (kb_k 1208925819614629174706176 rfl rfl)
    exact Keeps.refl _ _
  · refine Keeps.step ?_ State.count_keeps rfl
    refine Keeps.step ?_ State.modAml_keeps rfl
    exact Keeps.refl _ _

theorem State.amlAck_keeps {s : Sys2Proof.Machine.State} {p : Nat} {ack : Nat} {nak : Bool} : Keeps
    1851167661284903339755522 s (State.amlAck s p ack nak) := by
  unfold State.amlAck
  refine Keeps.ite ?_ ?_
  · refine Keeps.step ?_ State.amlReplay_keeps rfl
    refine Keeps.step ?_ State.amlAcked_keeps rfl
    exact Keeps.refl _ _
  · refine Keeps.step ?_ State.amlAcked_keeps rfl
    exact Keeps.refl _ _

theorem execAckFlit_keeps {p : Fin 4} {ack : BitVec 8} {nak : Bool} {s : Sys2Proof.Machine.State} : ResKeeps
    tgtNext 1851167661284903339755522 s (execAckFlit p ack nak s) := by
  unfold execAckFlit
  refine ResKeeps.some rfl ?_
  refine Keeps.ite ?_ ?_
  · refine Keeps.step ?_ State.amlAck_keeps rfl
    refine Keeps.step ?_ State.count_keeps rfl
    exact Keeps.refl _ _
  · exact Keeps.refl _ _

theorem execIdleFlit_keeps {p : Fin 4} {ack : BitVec 8} {nak : Bool} {s : Sys2Proof.Machine.State} : ResKeeps
    tgtNext 1851167661284903339755522 s (execIdleFlit p ack nak s) := by
  unfold execIdleFlit
  refine ResKeeps.some rfl ?_
  refine Keeps.ite ?_ ?_
  · refine Keeps.step ?_ State.amlAck_keeps rfl
    exact Keeps.refl _ _
  · exact Keeps.refl _ _

theorem State.flitBad_keeps {s : Sys2Proof.Machine.State} {p : Nat} : Keeps 37778931862957161777154 s
    (State.flitBad s p) := by
  unfold State.flitBad
  refine Keeps.step ?_ State.modAml_keeps rfl
  refine Keeps.step ?_ State.count_keeps rfl
  exact Keeps.refl _ _

theorem execFlitCrcError_keeps {p : Fin 4} {s : Sys2Proof.Machine.State} : ResKeeps tgtNext
    37778931862957161777154 s (execFlitCrcError p s) := by
  unfold execFlitCrcError
  refine ResKeeps.some rfl ?_
  refine Keeps.ite ?_ ?_
  · refine Keeps.step ?_ State.flitBad_keeps rfl
    exact Keeps.refl _ _
  · exact Keeps.refl _ _

theorem State.flitIn_keeps {m : Nat} {s x : State} {p : Nat} {h : FlitHdr} {msg : AmlMsg} {act : State → State}
    (hx : Keeps m s x) (hm : 1851167661284903339763714 ||| m = m) (ha : ∀ y, Keeps m s y → Keeps m s (act y)) :
    Keeps m s (State.flitIn x p h msg act) := by
  unfold State.flitIn
  refine Keeps.ite hx ?_
  extract_lets s1 s2 f s3 key
  have h1 : Keeps m s s1 := (hx.step State.count_keeps (or_trans rfl hm)).step State.amlAck_keeps
      (or_trans rfl hm)
  have h2 : Keeps m s s2 := h1.step State.modAml_keeps (or_trans rfl hm)
  have h3 : Keeps m s s3 := by
    refine Keeps.ite (Keeps.foldl _ _ h2 fun y a hy => ?_) h2
    exact Keeps.ite (hy.step State.amlPut_keeps (or_trans rfl hm)) hy
  refine Keeps.ite h3 (ha _ ?_)
  exact h3.step (m := 8192)
      (Keeps.mkUpd (Keeps.refl _ _) ⟨Or.inr rfl, rfl, Or.inr rfl, Or.inr rfl, Or.inr rfl, Or.inr rfl, Or.inr rfl, Or.inr rfl, Or.inr rfl, Or.inr rfl, Or.inr rfl, Or.inr rfl, Or.inr rfl, Or.inl rfl, Or.inr rfl, Or.inr rfl, Or.inr rfl, Or.inr rfl, Or.inr rfl, Or.inr rfl, Or.inr rfl, Or.inr rfl, Or.inr rfl, Or.inr rfl, Or.inr rfl, Or.inr rfl, Or.inr rfl, Or.inr rfl, Or.inr rfl, Or.inr rfl, Or.inr rfl, Or.inr rfl, Or.inr rfl, Or.inr rfl, Or.inr rfl, Or.inr rfl, Or.inr rfl, Or.inr rfl, Or.inr rfl, Or.inr rfl, Or.inr rfl, Or.inr rfl, Or.inr rfl, Or.inr rfl, Or.inr rfl, Or.inr rfl, Nat.le_refl _, trivial, fun w => w, fun w => w, fun w => w, fun w => w, fun w => w, fun w => w, fun w => w, fun w => w, fun w => w, fun w => w, fun w => w, fun w => w, fun w => w⟩)
      (or_trans rfl hm)

theorem State.onTime_keeps {s : State} {t : Nat} : ResKeeps tgtSnd 147573952591823896578 s (State.onTime s t) := by
  have h : Keeps 147573952591823896578 s ((s.wr pClk GRP_STAT_AMLLATE 1).pagePairs pClk) := by
    refine Keeps.step (Keeps.step (Keeps.refl _ _) State.wr_keeps (kb_k 147573952589676412928 rfl rfl))
        State.pagePairs_keeps rfl
  unfold State.onTime
  exact ResKeeps.ite (ResKeeps.some rfl h) (ResKeeps.some rfl (Keeps.refl _ _))

theorem execSyncmFlit_keeps {p : Fin 4} {h : Sys2Proof.FlitHdr} {cnt : Sys2Proof.Word} {s :
    Sys2Proof.Machine.State} : ResKeeps tgtNext 1851167661284903339763714 s (execSyncmFlit p h cnt s) := by
  unfold execSyncmFlit
  refine ResKeeps.some rfl ?_
  refine State.flitIn_keeps ?_ rfl ?_
  · exact Keeps.refl _ _
  · intro y0_ h_
    refine Keeps.ite ?_ ?_
    · with_reducible assumption
    · refine Keeps.step ?_ State.pagePairs_keeps rfl
      refine Keeps.step ?_ State.wr_keeps (kb_k 1208925819614629174706176 rfl rfl)
      with_reducible assumption

theorem State.farPulse_keeps {s : Sys2Proof.Machine.State} {chip : Nat} {line : Nat} {t : Nat} : Keeps
    147573952591823896706 s (State.farPulse s chip line t) := by
  unfold State.farPulse
  refine Keeps.mkUpd ?_ ⟨Or.inr rfl, rfl, Or.inr rfl, Or.inr rfl, Or.inr rfl, Or.inr rfl, Or.inr rfl, Or.inl
      rfl, Or.inr rfl, Or.inr rfl, Or.inr rfl, Or.inr rfl, Or.inr rfl, Or.inr rfl, Or.inr rfl, Or.inr rfl, Or.inr
      rfl, Or.inr rfl, Or.inr rfl, Or.inr rfl, Or.inr rfl, Or.inr rfl, Or.inr rfl, Or.inr rfl, Or.inr rfl, Or.inr
      rfl, Or.inr rfl, Or.inr rfl, Or.inr rfl, Or.inr rfl, Or.inr rfl, Or.inr rfl, Or.inr rfl, Or.inr rfl, Or.inr
      rfl, Or.inr rfl, Or.inr rfl, Or.inr rfl, Or.inr rfl, Or.inr rfl, Or.inr rfl, Or.inr rfl, Or.inr rfl, Or.inr
      rfl, Or.inr rfl, Or.inr rfl, Nat.le_refl _, trivial, fun w => w, fun w => w, fun w => w, fun w => w, fun w =>
      w, fun w => w, fun w => w, fun w => w, fun w => w, fun w => w, fun w => w, fun w => w, fun w => w⟩
  refine Keeps.ofRes (tgt := tgtSnd) ?_ rfl rfl
  refine ResKeeps.step ?_ State.onTime_keeps rfl
  exact Keeps.refl _ _

theorem execTrigFlit_keeps {p : Fin 4} {h : Sys2Proof.FlitHdr} {line : Fin 16} {f : Sys2Proof.FlitTime} {s :
    Sys2Proof.Machine.State} : ResKeeps tgtNext 1851315235237493016176770 s (execTrigFlit p h line f s) := by
  unfold execTrigFlit
  refine ResKeeps.some rfl ?_
  refine State.flitIn_keeps ?_ rfl ?_
  · exact Keeps.refl _ _
  · intro y0_ h_
    refine Keeps.step ?_ State.farPulse_keeps rfl
    with_reducible assumption

theorem State.farFlag_keeps {s : Sys2Proof.Machine.State} {chip : Nat} {idx : Nat} {op : Nat} {rank : Nat} {t :
    Nat} : Keeps 147573952591823896706 s (State.farFlag s chip idx op rank t) := by
  unfold State.farFlag
  refine Keeps.mkUpd ?_ ⟨Or.inr rfl, rfl, Or.inr rfl, Or.inr rfl, Or.inr rfl, Or.inr rfl, Or.inr rfl, Or.inl
      rfl, Or.inr rfl, Or.inr rfl, Or.inr rfl, Or.inr rfl, Or.inr rfl, Or.inr rfl, Or.inr rfl, Or.inr rfl, Or.inr
      rfl, Or.inr rfl, Or.inr rfl, Or.inr rfl, Or.inr rfl, Or.inr rfl, Or.inr rfl, Or.inr rfl, Or.inr rfl, Or.inr
      rfl, Or.inr rfl, Or.inr rfl, Or.inr rfl, Or.inr rfl, Or.inr rfl, Or.inr rfl, Or.inr rfl, Or.inr rfl, Or.inr
      rfl, Or.inr rfl, Or.inr rfl, Or.inr rfl, Or.inr rfl, Or.inr rfl, Or.inr rfl, Or.inr rfl, Or.inr rfl, Or.inr
      rfl, Or.inr rfl, Or.inr rfl, Nat.le_refl _, trivial, fun w => w, fun w => w, fun w => w, fun w => w, fun w =>
      w, fun w => w, fun w => w, fun w => w, fun w => w, fun w => w, fun w => w, fun w => w, fun w => w⟩
  refine Keeps.ofRes (tgt := tgtSnd) ?_ rfl rfl
  refine ResKeeps.step ?_ State.onTime_keeps rfl
  exact Keeps.refl _ _

theorem execFlagFlit_keeps {p : Fin 4} {h : Sys2Proof.FlitHdr} {idx : Fin 64} {op : Fin 3} {rank : Fin 34} {f :
    Sys2Proof.FlitTime} {s : Sys2Proof.Machine.State} : ResKeeps tgtNext 1851315235237493016176770 s
    (execFlagFlit p h idx op rank f s) := by
  unfold execFlagFlit
  refine ResKeeps.some rfl ?_
  refine State.flitIn_keeps ?_ rfl ?_
  · exact Keeps.refl _ _
  · intro y0_ h_
    refine Keeps.step ?_ State.farFlag_keeps rfl
    with_reducible assumption

theorem State.farRdv_keeps {s : Sys2Proof.Machine.State} {chip : Nat} {g : Nat} {m : Sys2Proof.RdvMsg} {t : Nat}
    : Keeps 147573952591823896962 s (State.farRdv s chip g m t) := by
  unfold State.farRdv
  try extract_lets
  split
  · refine Keeps.mkUpd ?_ ⟨Or.inr rfl, rfl, Or.inr rfl, Or.inr rfl, Or.inr rfl, Or.inr rfl, Or.inr rfl, Or.inl
      rfl, Or.inr rfl, Or.inr rfl, Or.inr rfl, Or.inr rfl, Or.inr rfl, Or.inr rfl, Or.inr rfl, Or.inr rfl, Or.inr
      rfl, Or.inr rfl, Or.inr rfl, Or.inr rfl, Or.inr rfl, Or.inr rfl, Or.inr rfl, Or.inr rfl, Or.inr rfl, Or.inr
      rfl, Or.inr rfl, Or.inr rfl, Or.inr rfl, Or.inr rfl, Or.inr rfl, Or.inr rfl, Or.inr rfl, Or.inr rfl, Or.inr
      rfl, Or.inr rfl, Or.inr rfl, Or.inr rfl, Or.inr rfl, Or.inr rfl, Or.inr rfl, Or.inr rfl, Or.inr rfl, Or.inr
      rfl, Or.inr rfl, Or.inr rfl, Nat.le_refl _, trivial, fun w => w, fun w => w, fun w => w, fun w => w, fun w =>
      w, fun w => w, fun w => w, fun w => w, fun w => w, fun w => w, fun w => w, fun w => w, fun w => w⟩
    refine Keeps.ofRes (tgt := tgtSnd) ?_ rfl rfl
    refine ResKeeps.step ?_ State.onTime_keeps rfl
    exact Keeps.refl _ _
  · refine Keeps.mkUpd ?_ ⟨Or.inr rfl, rfl, Or.inr rfl, Or.inr rfl, Or.inr rfl, Or.inr rfl, Or.inr rfl, Or.inl
      rfl, Or.inr rfl, Or.inr rfl, Or.inr rfl, Or.inr rfl, Or.inr rfl, Or.inr rfl, Or.inr rfl, Or.inr rfl, Or.inr
      rfl, Or.inr rfl, Or.inr rfl, Or.inr rfl, Or.inr rfl, Or.inr rfl, Or.inr rfl, Or.inr rfl, Or.inr rfl, Or.inr
      rfl, Or.inr rfl, Or.inr rfl, Or.inr rfl, Or.inr rfl, Or.inr rfl, Or.inr rfl, Or.inr rfl, Or.inr rfl, Or.inr
      rfl, Or.inr rfl, Or.inr rfl, Or.inr rfl, Or.inr rfl, Or.inr rfl, Or.inr rfl, Or.inr rfl, Or.inr rfl, Or.inr
      rfl, Or.inr rfl, Or.inr rfl, Nat.le_refl _, trivial, fun w => w, fun w => w, fun w => w, fun w => w, fun w =>
      w, fun w => w, fun w => w, fun w => w, fun w => w, fun w => w, fun w => w, fun w => w, fun w => w⟩
    exact Keeps.refl _ _
  · refine Keeps.mkUpd ?_ ⟨Or.inr rfl, rfl, Or.inr rfl, Or.inr rfl, Or.inr rfl, Or.inr rfl, Or.inr rfl, Or.inl
      rfl, Or.inr rfl, Or.inr rfl, Or.inr rfl, Or.inr rfl, Or.inr rfl, Or.inr rfl, Or.inr rfl, Or.inr rfl, Or.inr
      rfl, Or.inr rfl, Or.inr rfl, Or.inr rfl, Or.inr rfl, Or.inr rfl, Or.inr rfl, Or.inr rfl, Or.inr rfl, Or.inr
      rfl, Or.inr rfl, Or.inr rfl, Or.inr rfl, Or.inr rfl, Or.inr rfl, Or.inr rfl, Or.inr rfl, Or.inr rfl, Or.inr
      rfl, Or.inr rfl, Or.inr rfl, Or.inr rfl, Or.inr rfl, Or.inr rfl, Or.inr rfl, Or.inr rfl, Or.inr rfl, Or.inr
      rfl, Or.inr rfl, Or.inr rfl, Nat.le_refl _, trivial, fun w => w, fun w => w, fun w => w, fun w => w, fun w =>
      w, fun w => w, fun w => w, fun w => w, fun w => w, fun w => w, fun w => w, fun w => w, fun w => w⟩
    exact Keeps.refl _ _
  · refine Keeps.mkUpd ?_ ⟨Or.inr rfl, rfl, Or.inr rfl, Or.inr rfl, Or.inr rfl, Or.inr rfl, Or.inr rfl, Or.inl
      rfl, Or.inr rfl, Or.inr rfl, Or.inr rfl, Or.inr rfl, Or.inr rfl, Or.inr rfl, Or.inr rfl, Or.inr rfl, Or.inr
      rfl, Or.inr rfl, Or.inr rfl, Or.inr rfl, Or.inr rfl, Or.inr rfl, Or.inr rfl, Or.inr rfl, Or.inr rfl, Or.inr
      rfl, Or.inr rfl, Or.inr rfl, Or.inr rfl, Or.inr rfl, Or.inr rfl, Or.inr rfl, Or.inr rfl, Or.inr rfl, Or.inr
      rfl, Or.inr rfl, Or.inr rfl, Or.inr rfl, Or.inr rfl, Or.inr rfl, Or.inr rfl, Or.inr rfl, Or.inr rfl, Or.inr
      rfl, Or.inr rfl, Or.inr rfl, Nat.le_refl _, trivial, fun w => w, fun w => w, fun w => w, fun w => w, fun w =>
      w, fun w => w, fun w => w, fun w => w, fun w => w, fun w => w, fun w => w, fun w => w, fun w => w⟩
    exact Keeps.refl _ _
  · refine Keeps.step ?_ State.rgCheck_keeps rfl
    refine Keeps.mkUpd ?_ ⟨Or.inr rfl, rfl, Or.inr rfl, Or.inr rfl, Or.inr rfl, Or.inr rfl, Or.inr rfl, Or.inl
        rfl, Or.inr rfl, Or.inr rfl, Or.inr rfl, Or.inr rfl, Or.inr rfl, Or.inr rfl, Or.inr rfl, Or.inr rfl, Or.inr
        rfl, Or.inr rfl, Or.inr rfl, Or.inr rfl, Or.inr rfl, Or.inr rfl, Or.inr rfl, Or.inr rfl, Or.inr rfl, Or.inr
        rfl, Or.inr rfl, Or.inr rfl, Or.inr rfl, Or.inr rfl, Or.inr rfl, Or.inr rfl, Or.inr rfl, Or.inr rfl, Or.inr
        rfl, Or.inr rfl, Or.inr rfl, Or.inr rfl, Or.inr rfl, Or.inr rfl, Or.inr rfl, Or.inr rfl, Or.inr rfl, Or.inr
        rfl, Or.inr rfl, Or.inr rfl, Nat.le_refl _, trivial, fun w => w, fun w => w, fun w => w, fun w => w, fun w
        => w, fun w => w, fun w => w, fun w => w, fun w => w, fun w => w, fun w => w, fun w => w, fun w => w⟩
    exact Keeps.refl _ _

theorem execRdvFlit_keeps {p : Fin 4} {h : Sys2Proof.FlitHdr} {g : Fin 16} {m : Sys2Proof.RdvMsg} {f :
    Sys2Proof.FlitTime} {s : Sys2Proof.Machine.State} : ResKeeps tgtNext 1851315235237493016177026 s
    (execRdvFlit p h g m f s) := by
  unfold execRdvFlit
  refine ResKeeps.some rfl ?_
  refine State.flitIn_keeps ?_ rfl ?_
  · exact Keeps.refl _ _
  · intro y0_ h_
    refine Keeps.step ?_ State.farRdv_keeps rfl
    with_reducible assumption

theorem State.rgWrite_keeps {s : Sys2Proof.Machine.State} {r : Sys2Proof.Requester} {g : Nat} {off : Nat} {word
    : Nat} : Keeps 37926505815548985678086 s (State.rgWrite s r g off word) := by
  unfold State.rgWrite
  refine State.writeWith_keeps ?_ (kb_k 147573952589676412928 rfl rfl) ?_
  · exact Keeps.refl _ _
  · intro y0_ h_
    refine Keeps.ite ?_ ?_
    · refine Keeps.step ?_ State.amlSend_keeps rfl
      refine Keeps.step ?_ State.amlSend_keeps rfl
      refine Keeps.step ?_ State.rgCheck_keeps rfl
      with_reducible assumption
    · refine Keeps.step ?_ State.rgCheck_keeps rfl
      with_reducible assumption

theorem State.spanCfgWrite_keeps {s : Sys2Proof.Machine.State} {r : Sys2Proof.Requester} {n : Nat} {word : Nat}
    : Keeps 37926505815548985677830 s (State.spanCfgWrite s r n word) := by
  unfold State.spanCfgWrite
  refine State.writeWith_keeps ?_ (kb_k 147573952589676412928 rfl rfl) ?_
  · exact Keeps.refl _ _
  · intro y0_ h_
    refine Keeps.step ?_ State.spanTell_keeps rfl
    refine Keeps.ite ?_ ?_
    · refine Keeps.step ?_ State.amlSend_keeps rfl
      with_reducible assumption
    · with_reducible assumption

theorem State.putPart_keeps {s : Sys2Proof.Machine.State} {sp : Nat} {chip : Nat} {v : Nat} : Keeps 128 s
    (State.putPart s sp chip v) := by
  unfold State.putPart
  refine Keeps.mkUpd ?_ ⟨Or.inr rfl, rfl, Or.inr rfl, Or.inr rfl, Or.inr rfl, Or.inr rfl, Or.inr rfl, Or.inl
      rfl, Or.inr rfl, Or.inr rfl, Or.inr rfl, Or.inr rfl, Or.inr rfl, Or.inr rfl, Or.inr rfl, Or.inr rfl, Or.inr
      rfl, Or.inr rfl, Or.inr rfl, Or.inr rfl, Or.inr rfl, Or.inr rfl, Or.inr rfl, Or.inr rfl, Or.inr rfl, Or.inr
      rfl, Or.inr rfl, Or.inr rfl, Or.inr rfl, Or.inr rfl, Or.inr rfl, Or.inr rfl, Or.inr rfl, Or.inr rfl, Or.inr
      rfl, Or.inr rfl, Or.inr rfl, Or.inr rfl, Or.inr rfl, Or.inr rfl, Or.inr rfl, Or.inr rfl, Or.inr rfl, Or.inr
      rfl, Or.inr rfl, Or.inr rfl, Nat.le_refl _, trivial, fun w => w, fun w => w, fun w => w, fun w => w, fun w =>
      w, fun w => w, fun w => w, fun w => w, fun w => w, fun w => w, fun w => w, fun w => w, fun w => w⟩
  exact Keeps.refl _ _

theorem State.farPart_keeps {s : Sys2Proof.Machine.State} {chip : Nat} {n : Nat} {m : Sys2Proof.SpanMsg} {t :
    Nat} : Keeps 16480965979837954007778450327 s (State.farPart s chip n m t) := by
  unfold State.farPart
  split
  · refine Keeps.ite ?_ ?_
    · refine Keeps.step ?_ State.modSq_keeps rfl
      exact Keeps.refl _ _
    · exact Keeps.refl _ _
  · refine Keeps.step ?_ State.takePause_keeps rfl
    exact Keeps.refl _ _
  · refine Keeps.step ?_ State.takeResume_keeps rfl
    exact Keeps.refl _ _
  · refine Keeps.ite ?_ ?_
    · refine Keeps.step ?_ State.takeHjump_keeps rfl
      exact Keeps.refl _ _
    · exact Keeps.refl _ _
  · refine Keeps.ite ?_ ?_
    · refine Keeps.step ?_ State.endNext_keeps rfl
      exact Keeps.refl _ _
    · refine Keeps.ite ?_ ?_
      · refine Keeps.step ?_ State.endArm_keeps rfl
        exact Keeps.refl _ _
      · exact Keeps.refl _ _
  · refine Keeps.step ?_ State.safeEnter_keeps rfl
    refine Keeps.mkUpd ?_ ⟨Or.inr rfl, rfl, Or.inr rfl, Or.inr rfl, Or.inr rfl, Or.inr rfl, Or.inr rfl, Or.inl
        rfl, Or.inr rfl, Or.inr rfl, Or.inr rfl, Or.inr rfl, Or.inr rfl, Or.inr rfl, Or.inr rfl, Or.inr rfl, Or.inr
        rfl, Or.inr rfl, Or.inr rfl, Or.inr rfl, Or.inr rfl, Or.inr rfl, Or.inr rfl, Or.inr rfl, Or.inr rfl, Or.inr
        rfl, Or.inr rfl, Or.inr rfl, Or.inr rfl, Or.inr rfl, Or.inr rfl, Or.inr rfl, Or.inr rfl, Or.inr rfl, Or.inr
        rfl, Or.inr rfl, Or.inr rfl, Or.inr rfl, Or.inr rfl, Or.inr rfl, Or.inr rfl, Or.inr rfl, Or.inr rfl, Or.inr
        rfl, Or.inr rfl, Or.inr rfl, Nat.le_refl _, trivial, fun w => w, fun w => w, fun w => w, fun w => w, fun w
        => w, fun w => w, fun w => w, fun w => w, fun w => w, fun w => w, fun w => w, fun w => w, fun w => w⟩
    exact Keeps.refl _ _
  · refine Keeps.ite ?_ ?_
    · refine Keeps.mkUpd ?_ ⟨Or.inr rfl, rfl, Or.inr rfl, Or.inr rfl, Or.inr rfl, Or.inr rfl, Or.inr rfl, Or.inl
        rfl, Or.inr rfl, Or.inr rfl, Or.inr rfl, Or.inr rfl, Or.inr rfl, Or.inr rfl, Or.inr rfl, Or.inr rfl, Or.inr
        rfl, Or.inr rfl, Or.inr rfl, Or.inr rfl, Or.inr rfl, Or.inr rfl, Or.inr rfl, Or.inr rfl, Or.inr rfl, Or.inr
        rfl, Or.inr rfl, Or.inr rfl, Or.inr rfl, Or.inr rfl, Or.inr rfl, Or.inr rfl, Or.inr rfl, Or.inr rfl, Or.inr
        rfl, Or.inr rfl, Or.inr rfl, Or.inr rfl, Or.inr rfl, Or.inr rfl, Or.inr rfl, Or.inr rfl, Or.inr rfl, Or.inr
        rfl, Or.inr rfl, Or.inr rfl, Nat.le_refl _, trivial, fun w => w, fun w => w, fun w => w, fun w => w, fun w
        => w, fun w => w, fun w => w, fun w => w, fun w => w, fun w => w, fun w => w, fun w => w, fun w => w⟩
      exact Keeps.refl _ _
    · refine Keeps.step ?_ State.safeClear_keeps rfl
      refine Keeps.mkUpd ?_ ⟨Or.inr rfl, rfl, Or.inr rfl, Or.inr rfl, Or.inr rfl, Or.inr rfl, Or.inr rfl, Or.inl
          rfl, Or.inr rfl, Or.inr rfl, Or.inr rfl, Or.inr rfl, Or.inr rfl, Or.inr rfl, Or.inr rfl, Or.inr rfl,
          Or.inr rfl, Or.inr rfl, Or.inr rfl, Or.inr rfl, Or.inr rfl, Or.inr rfl, Or.inr rfl, Or.inr rfl, Or.inr
          rfl, Or.inr rfl, Or.inr rfl, Or.inr rfl, Or.inr rfl, Or.inr rfl, Or.inr rfl, Or.inr rfl, Or.inr rfl,
          Or.inr rfl, Or.inr rfl, Or.inr rfl, Or.inr rfl, Or.inr rfl, Or.inr rfl, Or.inr rfl, Or.inr rfl, Or.inr
          rfl, Or.inr rfl, Or.inr rfl, Or.inr rfl, Or.inr rfl, Nat.le_refl _, trivial, fun w => w, fun w => w, fun w
          => w, fun w => w, fun w => w, fun w => w, fun w => w, fun w => w, fun w => w, fun w => w, fun w => w, fun
          w => w, fun w => w⟩
      exact Keeps.refl _ _
  · exact Keeps.refl _ _
  · exact Keeps.refl _ _
  · exact Keeps.refl _ _

theorem State.notePart_keeps {s : Sys2Proof.Machine.State} {sp : Nat} {chip : Nat} {x_ : Option Nat} : Keeps 128
    s (State.notePart s sp chip x_) := by
  unfold State.notePart
  split
  · refine Keeps.step ?_ State.putPart_keeps rfl
    exact Keeps.refl _ _
  · exact Keeps.refl _ _

theorem State.farSpan_keeps {s : Sys2Proof.Machine.State} {chip : Nat} {sp : Nat} {m : Sys2Proof.SpanMsg} {t :
    Nat} : Keeps 16480965979837954007778450327 s (State.farSpan s chip sp m t) := by
  unfold State.farSpan
  try extract_lets
  split
  · refine Keeps.step ?_ State.farPart_keeps rfl
    refine Keeps.step ?_ State.notePart_keeps rfl
    exact Keeps.refl _ _
  · refine Keeps.step ?_ State.notePart_keeps rfl
    exact Keeps.refl _ _

theorem execSpanFlit_keeps {p : Fin 4} {h : Sys2Proof.FlitHdr} {sp : Fin 16} {m : Sys2Proof.SpanMsg} {f :
    Sys2Proof.FlitTime} {s : Sys2Proof.Machine.State} : ResKeeps tgtNext 16482174905657568636953164695 s
    (execSpanFlit p h sp m f s) := by
  unfold execSpanFlit
  refine ResKeeps.some rfl ?_
  refine State.flitIn_keeps ?_ rfl ?_
  · exact Keeps.refl _ _
  · intro y0_ h_
    refine Keeps.step ?_ State.farSpan_keeps rfl
    with_reducible assumption

theorem State.farTime_keeps {s : Sys2Proof.Machine.State} {chip : Nat} {m : Sys2Proof.TimeMsg} {t : Nat} : Keeps
    670576040567491499458563 s (State.farTime s chip m t) := by
  unfold State.farTime
  refine Keeps.ite ?_ ?_
  · exact Keeps.refl _ _
  · try extract_lets
    split
    · refine Keeps.ite ?_ ?_
      · refine Keeps.step ?_ State.setAdj_keeps rfl
        refine Keeps.mkUpd ?_ ⟨Or.inr rfl, rfl, Or.inr rfl, Or.inr rfl, Or.inr rfl, Or.inr rfl, Or.inr rfl,
            Or.inr rfl, Or.inr rfl, Or.inr rfl, Or.inr rfl, Or.inr rfl, Or.inr rfl, Or.inr rfl, Or.inr rfl, Or.inr
            rfl, Or.inr rfl, Or.inr rfl, Or.inr rfl, Or.inr rfl, Or.inr rfl, Or.inr rfl, Or.inr rfl, Or.inr rfl,
            Or.inr rfl, Or.inr rfl, Or.inr rfl, Or.inr rfl, Or.inr rfl, Or.inr rfl, Or.inl rfl, Or.inr rfl, Or.inr
            rfl, Or.inr rfl, Or.inr rfl, Or.inr rfl, Or.inr rfl, Or.inr rfl, Or.inr rfl, Or.inr rfl, Or.inr rfl,
            Or.inr rfl, Or.inr rfl, Or.inr rfl, Or.inr rfl, Or.inr rfl, Nat.le_refl _, trivial, fun w => w, fun w =>
            w, fun w => w, fun w => w, fun w => w, fun w => w, fun w => w, fun w => w, fun w => w, fun w => w, fun w
            => w, fun w => w, fun w => w⟩
        exact Keeps.refl _ _
      · refine Keeps.mkUpd ?_ ⟨Or.inr rfl, rfl, Or.inr rfl, Or.inr rfl, Or.inr rfl, Or.inr rfl, Or.inr rfl,
          Or.inr rfl, Or.inr rfl, Or.inr rfl, Or.inr rfl, Or.inr rfl, Or.inr rfl, Or.inr rfl, Or.inr rfl, Or.inr
          rfl, Or.inr rfl, Or.inr rfl, Or.inr rfl, Or.inr rfl, Or.inr rfl, Or.inr rfl, Or.inr rfl, Or.inr rfl,
          Or.inr rfl, Or.inr rfl, Or.inr rfl, Or.inr rfl, Or.inr rfl, Or.inr rfl, Or.inl rfl, Or.inr rfl, Or.inr
          rfl, Or.inr rfl, Or.inr rfl, Or.inr rfl, Or.inr rfl, Or.inr rfl, Or.inr rfl, Or.inr rfl, Or.inr rfl,
          Or.inr rfl, Or.inr rfl, Or.inr rfl, Or.inr rfl, Or.inr rfl, Nat.le_refl _, trivial, fun w => w, fun w =>
          w, fun w => w, fun w => w, fun w => w, fun w => w, fun w => w, fun w => w, fun w => w, fun w => w, fun w
          => w, fun w => w, fun w => w⟩
        refine Keeps.mkUpd ?_ ⟨Or.inr rfl, rfl, Or.inr rfl, Or.inr rfl, Or.inr rfl, Or.inr rfl, Or.inr rfl,
            Or.inr rfl, Or.inr rfl, Or.inr rfl, Or.inr rfl, Or.inr rfl, Or.inr rfl, Or.inr rfl, Or.inr rfl, Or.inr
            rfl, Or.inr rfl, Or.inr rfl, Or.inr rfl, Or.inr rfl, Or.inr rfl, Or.inr rfl, Or.inr rfl, Or.inr rfl,
            Or.inr rfl, Or.inr rfl, Or.inr rfl, Or.inr rfl, Or.inr rfl, Or.inr rfl, Or.inl rfl, Or.inr rfl, Or.inr
            rfl, Or.inr rfl, Or.inr rfl, Or.inr rfl, Or.inr rfl, Or.inr rfl, Or.inr rfl, Or.inr rfl, Or.inr rfl,
            Or.inr rfl, Or.inr rfl, Or.inr rfl, Or.inr rfl, Or.inr rfl, Nat.le_refl _, trivial, fun w => w, fun w =>
            w, fun w => w, fun w => w, fun w => w, fun w => w, fun w => w, fun w => w, fun w => w, fun w => w, fun w
            => w, fun w => w, fun w => w⟩
        exact Keeps.refl _ _
    · refine Keeps.ite ?_ ?_
      · refine Keeps.step ?_ State.followSync_keeps rfl
        refine Keeps.mkUpd ?_ ⟨Or.inr rfl, rfl, Or.inr rfl, Or.inr rfl, Or.inr rfl, Or.inr rfl, Or.inr rfl,
            Or.inr rfl, Or.inr rfl, Or.inr rfl, Or.inr rfl, Or.inr rfl, Or.inr rfl, Or.inr rfl, Or.inr rfl, Or.inr
            rfl, Or.inr rfl, Or.inr rfl, Or.inr rfl, Or.inr rfl, Or.inr rfl, Or.inr rfl, Or.inr rfl, Or.inr rfl,
            Or.inr rfl, Or.inr rfl, Or.inr rfl, Or.inr rfl, Or.inr rfl, Or.inr rfl, Or.inl rfl, Or.inr rfl, Or.inr
            rfl, Or.inr rfl, Or.inr rfl, Or.inr rfl, Or.inr rfl, Or.inr rfl, Or.inr rfl, Or.inr rfl, Or.inr rfl,
            Or.inr rfl, Or.inr rfl, Or.inr rfl, Or.inr rfl, Or.inr rfl, Nat.le_refl _, trivial, fun w => w, fun w =>
            w, fun w => w, fun w => w, fun w => w, fun w => w, fun w => w, fun w => w, fun w => w, fun w => w, fun w
            => w, fun w => w, fun w => w⟩
        refine Keeps.mkUpd ?_ ⟨Or.inr rfl, rfl, Or.inr rfl, Or.inr rfl, Or.inr rfl, Or.inr rfl, Or.inr rfl,
            Or.inr rfl, Or.inr rfl, Or.inr rfl, Or.inr rfl, Or.inr rfl, Or.inr rfl, Or.inr rfl, Or.inr rfl, Or.inr
            rfl, Or.inr rfl, Or.inr rfl, Or.inr rfl, Or.inr rfl, Or.inr rfl, Or.inr rfl, Or.inr rfl, Or.inr rfl,
            Or.inr rfl, Or.inr rfl, Or.inr rfl, Or.inr rfl, Or.inr rfl, Or.inr rfl, Or.inl rfl, Or.inr rfl, Or.inr
            rfl, Or.inr rfl, Or.inr rfl, Or.inr rfl, Or.inr rfl, Or.inr rfl, Or.inr rfl, Or.inr rfl, Or.inr rfl,
            Or.inr rfl, Or.inr rfl, Or.inr rfl, Or.inr rfl, Or.inr rfl, Nat.le_refl _, trivial, fun w => w, fun w =>
            w, fun w => w, fun w => w, fun w => w, fun w => w, fun w => w, fun w => w, fun w => w, fun w => w, fun w
            => w, fun w => w, fun w => w⟩
        exact Keeps.refl _ _
      · refine Keeps.mkUpd ?_ ⟨Or.inr rfl, rfl, Or.inr rfl, Or.inr rfl, Or.inr rfl, Or.inr rfl, Or.inr rfl,
          Or.inr rfl, Or.inr rfl, Or.inr rfl, Or.inr rfl, Or.inr rfl, Or.inr rfl, Or.inr rfl, Or.inr rfl, Or.inr
          rfl, Or.inr rfl, Or.inr rfl, Or.inr rfl, Or.inr rfl, Or.inr rfl, Or.inr rfl, Or.inr rfl, Or.inr rfl,
          Or.inr rfl, Or.inr rfl, Or.inr rfl, Or.inr rfl, Or.inr rfl, Or.inr rfl, Or.inl rfl, Or.inr rfl, Or.inr
          rfl, Or.inr rfl, Or.inr rfl, Or.inr rfl, Or.inr rfl, Or.inr rfl, Or.inr rfl, Or.inr rfl, Or.inr rfl,
          Or.inr rfl, Or.inr rfl, Or.inr rfl, Or.inr rfl, Or.inr rfl, Nat.le_refl _, trivial, fun w => w, fun w =>
          w, fun w => w, fun w => w, fun w => w, fun w => w, fun w => w, fun w => w, fun w => w, fun w => w, fun w
          => w, fun w => w, fun w => w⟩
        refine Keeps.mkUpd ?_ ⟨Or.inr rfl, rfl, Or.inr rfl, Or.inr rfl, Or.inr rfl, Or.inr rfl, Or.inr rfl,
            Or.inr rfl, Or.inr rfl, Or.inr rfl, Or.inr rfl, Or.inr rfl, Or.inr rfl, Or.inr rfl, Or.inr rfl, Or.inr
            rfl, Or.inr rfl, Or.inr rfl, Or.inr rfl, Or.inr rfl, Or.inr rfl, Or.inr rfl, Or.inr rfl, Or.inr rfl,
            Or.inr rfl, Or.inr rfl, Or.inr rfl, Or.inr rfl, Or.inr rfl, Or.inr rfl, Or.inl rfl, Or.inr rfl, Or.inr
            rfl, Or.inr rfl, Or.inr rfl, Or.inr rfl, Or.inr rfl, Or.inr rfl, Or.inr rfl, Or.inr rfl, Or.inr rfl,
            Or.inr rfl, Or.inr rfl, Or.inr rfl, Or.inr rfl, Or.inr rfl, Nat.le_refl _, trivial, fun w => w, fun w =>
            w, fun w => w, fun w => w, fun w => w, fun w => w, fun w => w, fun w => w, fun w => w, fun w => w, fun w
            => w, fun w => w, fun w => w⟩
        exact Keeps.refl _ _

theorem execTimeFlit_keeps {p : Fin 4} {h : Sys2Proof.FlitHdr} {m : Sys2Proof.TimeMsg} {f : Sys2Proof.FlitTime}
    {s : Sys2Proof.Machine.State} : ResKeeps tgtNext 1879501860182122821658627 s (execTimeFlit p h m f s) := by
  unfold execTimeFlit
  refine ResKeeps.some rfl ?_
  refine State.flitIn_keeps ?_ rfl ?_
  · exact Keeps.refl _ _
  · intro y0_ h_
    refine Keeps.step ?_ State.farTime_keeps rfl
    with_reducible assumption

theorem execCalFlit_keeps {p : Fin 4} {h : Sys2Proof.FlitHdr} {m : Sys2Proof.CalMsg} {s :
    Sys2Proof.Machine.State} : ResKeeps tgtNext 1851167661284903356540930 s (execCalFlit p h m s) := by
  unfold execCalFlit
  refine ResKeeps.some rfl ?_
  refine State.flitIn_keeps ?_ rfl ?_
  · exact Keeps.refl _ _
  · intro y0_ h_
    split
    · refine Keeps.mkUpd ?_ ⟨Or.inr rfl, rfl, Or.inr rfl, Or.inr rfl, Or.inr rfl, Or.inr rfl, Or.inr rfl, Or.inr
        rfl, Or.inr rfl, Or.inr rfl, Or.inr rfl, Or.inr rfl, Or.inr rfl, Or.inr rfl, Or.inr rfl, Or.inr rfl, Or.inr
        rfl, Or.inr rfl, Or.inr rfl, Or.inr rfl, Or.inr rfl, Or.inr rfl, Or.inr rfl, Or.inr rfl, Or.inl rfl, Or.inr
        rfl, Or.inr rfl, Or.inr rfl, Or.inr rfl, Or.inr rfl, Or.inr rfl, Or.inr rfl, Or.inr rfl, Or.inr rfl, Or.inr
        rfl, Or.inr rfl, Or.inr rfl, Or.inr rfl, Or.inr rfl, Or.inr rfl, Or.inr rfl, Or.inr rfl, Or.inr rfl, Or.inr
        rfl, Or.inr rfl, Or.inr rfl, Nat.le_refl _, trivial, fun w => w, fun w => w, fun w => w, fun w => w, fun w
        => w, fun w => w, fun w => w, fun w => w, fun w => w, fun w => w, fun w => w, fun w => w, fun w => w⟩
      with_reducible assumption
    · refine Keeps.mkUpd ?_ ⟨Or.inr rfl, rfl, Or.inr rfl, Or.inr rfl, Or.inr rfl, Or.inr rfl, Or.inr rfl, Or.inr
        rfl, Or.inr rfl, Or.inr rfl, Or.inr rfl, Or.inr rfl, Or.inr rfl, Or.inr rfl, Or.inr rfl, Or.inr rfl, Or.inr
        rfl, Or.inr rfl, Or.inr rfl, Or.inr rfl, Or.inr rfl, Or.inr rfl, Or.inr rfl, Or.inr rfl, Or.inl rfl, Or.inr
        rfl, Or.inr rfl, Or.inr rfl, Or.inr rfl, Or.inr rfl, Or.inr rfl, Or.inr rfl, Or.inr rfl, Or.inr rfl, Or.inr
        rfl, Or.inr rfl, Or.inr rfl, Or.inr rfl, Or.inr rfl, Or.inr rfl, Or.inr rfl, Or.inr rfl, Or.inr rfl, Or.inr
        rfl, Or.inr rfl, Or.inr rfl, Nat.le_refl _, trivial, fun w => w, fun w => w, fun w => w, fun w => w, fun w
        => w, fun w => w, fun w => w, fun w => w, fun w => w, fun w => w, fun w => w, fun w => w, fun w => w⟩
      with_reducible assumption

end Sys2Proof.Machine
end

