-- ==== Sys2Proof/Laws/FrameDdr.lean ====
section
/-! SUPPORT. What each function of Machine/Ddr.lean may change: one mask of `Keeps` for each. -/

namespace Sys2Proof.Machine

open Reg

theorem State.dcFreeze_keeps {s : Sys2Proof.Machine.State} {n : Nat} {cause : Nat} {addr : Nat} {syn : Nat}
    {beat : Nat} {cls : Nat} : Keeps 9671406556917035545133058 s (State.dcFreeze s n cause addr syn beat cls) := by
  unfold State.dcFreeze
  refine Keeps.step ?_ State.pagePairs_keeps rfl
  refine Keeps.step ?_ State.wr3_keeps (kb_k 9671406556917033397649408 rfl rfl)
  refine Keeps.step ?_ State.wr_keeps (kb_k 9671406556917033397649408 rfl rfl)
  refine Keeps.step ?_ State.wr_keeps (kb_k 9671406556917033397649408 rfl rfl)
  refine Keeps.step ?_ State.wr_keeps (kb_k 9671406556917033397649408 rfl rfl)
  refine Keeps.step ?_ State.wr_keeps (kb_k 9671406556917033397649408 rfl rfl)
  refine Keeps.step ?_ State.wr_keeps (kb_k 9671406556917033397649408 rfl rfl)
  refine Keeps.step ?_ State.wr_keeps (kb_k 9671406556917033397649408 rfl rfl)
  refine Keeps.ite ?_ ?_
  · refine Keeps.step ?_ State.wr_keeps (kb_k 9671406556917033397649408 rfl rfl)
    refine Keeps.step ?_ State.wr_keeps (kb_k 9671406556917033397649408 rfl rfl)
    exact Keeps.refl _ _
  · refine Keeps.ite ?_ ?_
    · refine Keeps.step ?_ State.wr_keeps (kb_k 9671406556917033397649408 rfl rfl)
      refine Keeps.step ?_ State.wr_keeps (kb_k 9671406556917033397649408 rfl rfl)
      exact Keeps.refl _ _
    · refine Keeps.step ?_ State.wr_keeps (kb_k 9671406556917033397649408 rfl rfl)
      refine Keeps.step ?_ State.wr_keeps (kb_k 9671406556917033397649408 rfl rfl)
      exact Keeps.refl _ _

theorem State.dcFreezeOpen_keeps {s : Sys2Proof.Machine.State} {n : Nat} {cause : Nat} {addr : Nat} {cls : Nat}
    : Keeps 9671406556917044135067650 s (State.dcFreezeOpen s n cause addr cls) := by
  unfold State.dcFreezeOpen
  refine Keeps.step ?_ State.dcFreeze_keeps rfl
  refine Keeps.ofRes (tgt := tgtSnd) ?_ rfl rfl
  refine ResKeeps.step ?_ State.draw_keeps rfl
  refine Keeps.ofRes (tgt := tgtSnd) ?_ rfl rfl
  refine ResKeeps.step ?_ State.draw_keeps rfl
  exact Keeps.refl _ _

theorem State.dcCorrected_keeps {s : Sys2Proof.Machine.State} {n : Nat} {addr : Nat} : Keeps
    9709185488779990559424514 s (State.dcCorrected s n addr) := by
  unfold State.dcCorrected
  refine Keeps.step ?_ State.count_keeps rfl
  refine Keeps.step ?_ State.wr_keeps (kb_k 9671406556917033397649408 rfl rfl)
  refine Keeps.step ?_ State.wr_keeps (kb_k 9671406556917033397649408 rfl rfl)
  refine Keeps.step ?_ State.wr_keeps (kb_k 9671406556917033397649408 rfl rfl)
  exact Keeps.refl _ _

theorem State.dcArrayRead_keeps {s : Sys2Proof.Machine.State} {n : Nat} {cls : Nat} {a : Nat} {ecc :
    Sys2Proof.DdrEcc} : ResKeeps tgtSnd 9709185488780001296842754 s (State.dcArrayRead s n cls a ecc) := by
  unfold State.dcArrayRead
  try extract_lets
  split
  · refine ResKeeps.some rfl ?_
    refine Keeps.ite ?_ ?_
    · refine Keeps.step ?_ State.count_keeps rfl
      refine Keeps.step ?_ State.count_keeps rfl
      exact Keeps.refl _ _
    · refine Keeps.step ?_ State.count_keeps rfl
      exact Keeps.refl _ _
  · refine ResKeeps.some rfl ?_
    refine Keeps.step ?_ State.dcCorrected_keeps rfl
    refine Keeps.ite ?_ ?_
    · refine Keeps.step ?_ State.count_keeps rfl
      refine Keeps.step ?_ State.count_keeps rfl
      exact Keeps.refl _ _
    · refine Keeps.step ?_ State.count_keeps rfl
      exact Keeps.refl _ _
  · refine ResKeeps.some rfl ?_
    refine Keeps.step ?_ State.dcFreeze_keeps rfl
    refine Keeps.ite ?_ ?_
    · refine Keeps.step ?_ State.count_keeps rfl
      refine Keeps.step ?_ State.count_keeps rfl
      exact Keeps.refl _ _
    · refine Keeps.step ?_ State.count_keeps rfl
      exact Keeps.refl _ _
  · refine ResKeeps.some rfl ?_
    refine Keeps.step ?_ State.dcFreezeOpen_keeps rfl
    exact Keeps.refl _ _

theorem State.ddrAccess_keeps {s : Sys2Proof.Machine.State} {cls : Sys2Proof.DdrClass} {a : Nat} {write : Option
    (List Sys2Proof.Byte)} {ecc : Sys2Proof.DdrEcc} : ResKeeps tgtSnd 9709185488788797389864962 s
    (State.ddrAccess s cls a write ecc) := by
  unfold State.ddrAccess
  split
  · refine ResKeeps.some rfl ?_
    exact Keeps.refl _ _
  · refine ResKeeps.ite ?_ ?_
    · refine ResKeeps.some rfl ?_
      exact Keeps.refl _ _
    · try extract_lets
      split
      · refine ResKeeps.ite ?_ ?_
        · refine ResKeeps.some rfl ?_
          refine Keeps.ofRes (tgt := tgtSnd) ?_ rfl rfl
          refine ResKeeps.step ?_ State.dcArrayRead_keeps rfl
          exact Keeps.refl _ _
        · refine ResKeeps.some rfl ?_
          refine Keeps.ofRes (tgt := tgtSnd) ?_ rfl rfl
          refine ResKeeps.step ?_ State.dcArrayRead_keeps rfl
          exact Keeps.refl _ _
      · refine ResKeeps.ite ?_ ?_
        · refine ResKeeps.ite ?_ ?_
          · refine ResKeeps.some rfl ?_
            refine Keeps.step ?_ State.dcFreezeOpen_keeps rfl
            exact Keeps.refl _ _
          · refine ResKeeps.some rfl ?_
            refine Keeps.step ?_ State.count_keeps rfl
            refine Keeps.mkUpd ?_ ⟨Or.inr rfl, rfl, Or.inr rfl, Or.inr rfl, Or.inr rfl, Or.inr rfl, Or.inr rfl,
                Or.inr rfl, Or.inr rfl, Or.inr rfl, Or.inr rfl, Or.inr rfl, Or.inr rfl, Or.inr rfl, Or.inr rfl,
                Or.inr rfl, Or.inr rfl, Or.inr rfl, Or.inr rfl, Or.inr rfl, Or.inr rfl, Or.inr rfl, Or.inr rfl,
                Or.inr rfl, Or.inr rfl, Or.inr rfl, Or.inr rfl, Or.inr rfl, Or.inr rfl, Or.inr rfl, Or.inr rfl,
                Or.inr rfl, Or.inr rfl, Or.inr rfl, Or.inr rfl, Or.inr rfl, Or.inr rfl, Or.inr rfl, Or.inr rfl,
                Or.inr rfl, Or.inr rfl, Or.inr rfl, Or.inl rfl, Or.inr rfl, Or.inr rfl, Or.inr rfl, Nat.le_refl _,
                trivial, fun w => w, fun w => w, fun w => w, fun w => w, fun w => w, fun w => w, fun w => w, fun w
                => w,
                (by intro w_; repeat' first | with_reducible assumption | with_reducible refine tabWf_memPutBytes _ _ _ ?_ | with_reducible refine tabWf_memPutNat _ _ _ _ ?_ | with_reducible refine tabWf_memPut _ _ _ ?_ | with_reducible refine tabWf_tabPut _ _ _ _ ?_ | with_reducible refine tabWf_tabErase _ _ _ ?_ | with_reducible refine tabWf_filter _ _ _ ?_ | with_reducible refine tabWf_foldl _ _ _ ?_ ?_ | (intro m_ a_ h_) | exact rfl | split),
                fun w => w, fun w => w, fun w => w, fun w => w⟩
            exact Keeps.refl _ _
        · refine ResKeeps.ite ?_ ?_
          · refine ResKeeps.some rfl ?_
            refine Keeps.step ?_ State.count_keeps rfl
            refine Keeps.mkUpd ?_ ⟨Or.inr rfl, rfl, Or.inr rfl, Or.inr rfl, Or.inr rfl, Or.inr rfl, Or.inr rfl,
                Or.inr rfl, Or.inr rfl, Or.inr rfl, Or.inr rfl, Or.inr rfl, Or.inr rfl, Or.inr rfl, Or.inr rfl,
                Or.inr rfl, Or.inr rfl, Or.inr rfl, Or.inr rfl, Or.inr rfl, Or.inr rfl, Or.inr rfl, Or.inr rfl,
                Or.inr rfl, Or.inr rfl, Or.inr rfl, Or.inr rfl, Or.inr rfl, Or.inr rfl, Or.inr rfl, Or.inr rfl,
                Or.inr rfl, Or.inr rfl, Or.inr rfl, Or.inr rfl, Or.inr rfl, Or.inr rfl, Or.inr rfl, Or.inr rfl,
                Or.inr rfl, Or.inr rfl, Or.inr rfl, Or.inl rfl, Or.inr rfl, Or.inr rfl, Or.inr rfl, Nat.le_refl _,
                trivial, fun w => w, fun w => w, fun w => w, fun w => w, fun w => w, fun w => w, fun w => w, fun w
                => w,
                (by intro w_; repeat' first | with_reducible assumption | with_reducible refine tabWf_memPutBytes _ _ _ ?_ | with_reducible refine tabWf_memPutNat _ _ _ _ ?_ | with_reducible refine tabWf_memPut _ _ _ ?_ | with_reducible refine tabWf_tabPut _ _ _ _ ?_ | with_reducible refine tabWf_tabErase _ _ _ ?_ | with_reducible refine tabWf_filter _ _ _ ?_ | with_reducible refine tabWf_foldl _ _ _ ?_ ?_ | (intro m_ a_ h_) | exact rfl | split),
                fun w => w, fun w => w, fun w => w, fun w => w⟩
            refine Keeps.ofRes (tgt := tgtSnd) ?_ rfl rfl
            refine ResKeeps.step ?_ State.dcArrayRead_keeps rfl
            exact Keeps.refl _ _
          · refine ResKeeps.some rfl ?_
            refine Keeps.ofRes (tgt := tgtSnd) ?_ rfl rfl
            refine ResKeeps.step ?_ State.dcArrayRead_keeps rfl
            exact Keeps.refl _ _

theorem State.ddrReadGo_keeps {s : State} {cls : DdrClass} {a len : Nat} {ecc : DdrEcc} {k : Nat} : ResKeeps
    tgtSnd 9709185488788797389864962 s (State.ddrReadGo s cls a len ecc k) := by
  induction k generalizing s a len ecc with
  | zero => exact ResKeeps.some rfl (Keeps.refl _ _)
  | succ k ih =>
    unfold State.ddrReadGo
    refine ResKeeps.ite (ResKeeps.some rfl (Keeps.refl _ _)) ?_
    extract_lets off j r rest
    have hr : Keeps 9709185488788797389864962 s r.2 := by
      refine Keeps.ofRes (tgt := tgtSnd) ?_ rfl rfl
      exact ResKeeps.step (Keeps.refl _ _) State.ddrAccess_keeps rfl
    have hrest : Keeps 9709185488788797389864962 s rest.2 := by
      refine Keeps.ofRes (tgt := tgtSnd) ?_ rfl rfl
      exact ResKeeps.step hr ih rfl
    split
    · exact ResKeeps.some rfl hrest
    · exact ResKeeps.some rfl hrest

theorem State.ddrRead_keeps {s : Sys2Proof.Machine.State} {cls : Sys2Proof.DdrClass} {a : Nat} {len : Nat} {ecc
    : Sys2Proof.DdrEcc} : ResKeeps tgtSnd 9709185488788797389864962 s (State.ddrRead s cls a len ecc) := by
  unfold State.ddrRead
  refine ResKeeps.step ?_ State.ddrReadGo_keeps rfl
  exact Keeps.refl _ _

theorem State.ddrWriteGo_keeps {s : State} {cls : DdrClass} {a : Nat} {bs : List Byte} {ecc : DdrEcc} {k : Nat}
    : ResKeeps tgtSnd 9709185488788797389864962 s (State.ddrWriteGo s cls a bs ecc k) := by
  induction k generalizing s a bs ecc with
  | zero => exact ResKeeps.some rfl (Keeps.refl _ _)
  | succ k ih =>
    unfold State.ddrWriteGo
    refine ResKeeps.ite (ResKeeps.some rfl (Keeps.refl _ _)) ?_
    extract_lets j r rest
    have hr : Keeps 9709185488788797389864962 s r.2 := by
      refine Keeps.ofRes (tgt := tgtSnd) ?_ rfl rfl
      exact ResKeeps.step (Keeps.refl _ _) State.ddrAccess_keeps rfl
    refine ResKeeps.some rfl ?_
    refine Keeps.ofRes (tgt := tgtSnd) ?_ rfl rfl
    exact ResKeeps.step hr ih rfl

theorem State.ddrWrite_keeps {s : Sys2Proof.Machine.State} {cls : Sys2Proof.DdrClass} {a : Nat} {bs : List
    Sys2Proof.Byte} {ecc : Sys2Proof.DdrEcc} : ResKeeps tgtSnd 9709185488788797389864962 s
    (State.ddrWrite s cls a bs ecc) := by
  unfold State.ddrWrite
  refine ResKeeps.step ?_ State.ddrWriteGo_keeps rfl
  exact Keeps.refl _ _

theorem State.ddrServe_keeps {s : Sys2Proof.Machine.State} {reqs : List Sys2Proof.DdrReq} : Keeps
    9709185488788797391962114 s (State.ddrServe s reqs) := by
  unfold State.ddrServe
  refine Keeps.foldl _ _ ?_ ?_
  · refine Keeps.mkUpd ?_ ⟨Or.inr rfl, rfl, Or.inr rfl, Or.inr rfl, Or.inr rfl, Or.inr rfl, Or.inr rfl, Or.inr
      rfl, Or.inr rfl, Or.inr rfl, Or.inr rfl, Or.inr rfl, Or.inr rfl, Or.inr rfl, Or.inr rfl, Or.inr rfl, Or.inr
      rfl, Or.inr rfl, Or.inr rfl, Or.inr rfl, Or.inr rfl, Or.inl rfl, Or.inr rfl, Or.inr rfl, Or.inr rfl, Or.inr
      rfl, Or.inr rfl, Or.inr rfl, Or.inr rfl, Or.inr rfl, Or.inr rfl, Or.inr rfl, Or.inr rfl, Or.inr rfl, Or.inr
      rfl, Or.inr rfl, Or.inr rfl, Or.inr rfl, Or.inr rfl, Or.inr rfl, Or.inr rfl, Or.inr rfl, Or.inr rfl, Or.inr
      rfl, Or.inr rfl, Or.inr rfl, Nat.le_refl _, trivial, fun w => w, fun w => w, fun w => w, fun w => w, fun w =>
      w, fun w => w, fun w => w, fun w => w, fun w => w, fun w => w, fun w => w, fun w => w, fun w => w⟩
    exact Keeps.refl _ _
  · intro y_ a_ h_
    refine Keeps.mkUpd ?_ ⟨Or.inr rfl, rfl, Or.inr rfl, Or.inr rfl, Or.inr rfl, Or.inr rfl, Or.inr rfl, Or.inr
        rfl, Or.inr rfl, Or.inr rfl, Or.inr rfl, Or.inr rfl, Or.inr rfl, Or.inr rfl, Or.inr rfl, Or.inr rfl, Or.inr
        rfl, Or.inr rfl, Or.inr rfl, Or.inr rfl, Or.inr rfl, Or.inl rfl, Or.inr rfl, Or.inr rfl, Or.inr rfl, Or.inr
        rfl, Or.inr rfl, Or.inr rfl, Or.inr rfl, Or.inr rfl, Or.inr rfl, Or.inr rfl, Or.inr rfl, Or.inr rfl, Or.inr
        rfl, Or.inr rfl, Or.inr rfl, Or.inr rfl, Or.inr rfl, Or.inr rfl, Or.inr rfl, Or.inr rfl, Or.inr rfl, Or.inr
        rfl, Or.inr rfl, Or.inr rfl, Nat.le_refl _, trivial, fun w => w, fun w => w, fun w => w, fun w => w, fun w
        => w, fun w => w, fun w => w, fun w => w, fun w => w, fun w => w, fun w => w, fun w => w, fun w => w⟩
    refine Keeps.ofRes (tgt := tgtSnd) ?_ rfl rfl
    refine ResKeeps.step ?_ State.ddrAccess_keeps rfl
    with_reducible assumption

theorem execDdrRequest_keeps {reqs : List Sys2Proof.DdrReq} {s : Sys2Proof.Machine.State} : ResKeeps tgtNext
    9709185488788797391962114 s (execDdrRequest reqs s) := by
  unfold execDdrRequest
  refine ResKeeps.some rfl ?_
  refine Keeps.step ?_ State.ddrServe_keeps rfl
  exact Keeps.refl _ _

theorem State.drawBytes_keeps {s : State} {k : Nat} : ResKeeps tgtSnd 8589934592 s (State.drawBytes s k) := by
  induction k generalizing s with
  | zero => exact ResKeeps.some rfl (Keeps.refl _ _)
  | succ k ih =>
    unfold State.drawBytes
    refine ResKeeps.some rfl ?_
    refine Keeps.ofRes (tgt := tgtSnd) ?_ rfl rfl
    refine ResKeeps.step ?_ ih rfl
    refine Keeps.ofRes (tgt := tgtSnd) ?_ rfl rfl
    exact ResKeeps.step (Keeps.refl _ _) State.draw_keeps rfl

theorem State.dcAlert_keeps {s : Sys2Proof.Machine.State} {n : Nat} {a : Nat} {cls : Sys2Proof.DdrClass} : Keeps
    9671406556925840228089858 s (State.dcAlert s n a cls) := by
  unfold State.dcAlert
  split
  · refine Keeps.ite ?_ ?_
    · refine Keeps.step ?_ State.dcFreezeOpen_keeps rfl
      refine Keeps.mkUpd ?_ ⟨Or.inr rfl, rfl, Or.inr rfl, Or.inr rfl, Or.inr rfl, Or.inr rfl, Or.inr rfl, Or.inr
          rfl, Or.inr rfl, Or.inr rfl, Or.inr rfl, Or.inr rfl, Or.inr rfl, Or.inr rfl, Or.inr rfl, Or.inr rfl,
          Or.inr rfl, Or.inr rfl, Or.inr rfl, Or.inr rfl, Or.inr rfl, Or.inr rfl, Or.inr rfl, Or.inr rfl, Or.inr
          rfl, Or.inr rfl, Or.inr rfl, Or.inr rfl, Or.inr rfl, Or.inr rfl, Or.inr rfl, Or.inr rfl, Or.inr rfl,
          Or.inr rfl, Or.inr rfl, Or.inr rfl, Or.inr rfl, Or.inr rfl, Or.inr rfl, Or.inr rfl, Or.inr rfl, Or.inr
          rfl, Or.inl rfl, Or.inr rfl, Or.inr rfl, Or.inr rfl, Nat.le_refl _, trivial, fun w => w, fun w => w, fun w
          => w, fun w => w, fun w => w, fun w => w, fun w => w, fun w => w,
          (by intro w_; repeat' first | with_reducible assumption | with_reducible refine tabWf_memPutBytes _ _ _ ?_ | with_reducible refine tabWf_memPutNat _ _ _ _ ?_ | with_reducible refine tabWf_memPut _ _ _ ?_ | with_reducible refine tabWf_tabPut _ _ _ _ ?_ | with_reducible refine tabWf_tabErase _ _ _ ?_ | with_reducible refine tabWf_filter _ _ _ ?_ | with_reducible refine tabWf_foldl _ _ _ ?_ ?_ | (intro m_ a_ h_) | exact rfl | split),
          fun w => w, fun w => w, fun w => w, fun w => w⟩
      refine Keeps.ofRes (tgt := tgtSnd) ?_ rfl rfl
      refine ResKeeps.step ?_ State.drawBytes_keeps rfl
      exact Keeps.refl _ _
    · exact Keeps.refl _ _
  · exact Keeps.refl _ _

theorem execDdrAlert_keeps {n : Fin 4} {a : BitVec 37} {cls : Sys2Proof.DdrClass} {s : Sys2Proof.Machine.State}
    : ResKeeps tgtNext 9671406556925840228089858 s (execDdrAlert n a cls s) := by
  unfold execDdrAlert
  refine ResKeeps.some rfl ?_
  refine Keeps.step ?_ State.dcAlert_keeps rfl
  exact Keeps.refl _ _

theorem State.setRate_keeps {s : Sys2Proof.Machine.State} {n : Nat} {double : Bool} : Keeps
    9671406556917033397649410 s (State.setRate s n double) := by
  unfold State.setRate
  refine Keeps.step ?_ State.wr_keeps (kb_k 9671406556917033397649408 rfl rfl)
  refine Keeps.step ?_ State.wr_keeps (kb_k 9671406556917033397649408 rfl rfl)
  exact Keeps.refl _ _

theorem State.setDebt_keeps {s : Sys2Proof.Machine.State} {n : Nat} {d : Nat} : Keeps 9671406556917033397649410
    s (State.setDebt s n d) := by
  unfold State.setDebt
  refine Keeps.ite ?_ ?_
  · refine Keeps.step ?_ State.setRate_keeps rfl
    refine Keeps.step ?_ State.wr_keeps (kb_k 9671406556917033397649408 rfl rfl)
    exact Keeps.refl _ _
  · refine Keeps.step ?_ State.wr_keeps (kb_k 9671406556917033397649408 rfl rfl)
    exact Keeps.refl _ _

theorem State.refTick_keeps {s : Sys2Proof.Machine.State} {n : Nat} : Keeps 9709185488779990559424514 s
    (State.refTick s n) := by
  unfold State.refTick
  refine Keeps.ite ?_ ?_
  · refine Keeps.ite ?_ ?_
    · refine Keeps.step ?_ State.count_keeps rfl
      refine Keeps.step ?_ State.wr_keeps (kb_k 9671406556917033397649408 rfl rfl)
      exact Keeps.refl _ _
    · refine Keeps.step ?_ State.wr_keeps (kb_k 9671406556917033397649408 rfl rfl)
      exact Keeps.refl _ _
  · exact Keeps.refl _ _

theorem execRefreshTick_keeps {n : Fin 4} {s : Sys2Proof.Machine.State} : ResKeeps tgtNext
    9709185488779990559424514 s (execRefreshTick n s) := by
  unfold execRefreshTick
  refine ResKeeps.some rfl ?_
  refine Keeps.step ?_ State.refTick_keeps rfl
  exact Keeps.refl _ _

theorem State.refSet_keeps {s : Sys2Proof.Machine.State} {n : Nat} {waiting : Bool} : Keeps
    9709185488779990559424514 s (State.refSet s n waiting) := by
  unfold State.refSet
  refine Keeps.ite ?_ ?_
  · exact Keeps.refl _ _
  · refine Keeps.ite ?_ ?_
    · refine Keeps.step ?_ State.count_keeps rfl
      refine Keeps.step ?_ State.count_keeps rfl
      refine Keeps.step ?_ State.setDebt_keeps rfl
      exact Keeps.refl _ _
    · refine Keeps.ite ?_ ?_
      · refine Keeps.step ?_ State.count_keeps rfl
        refine Keeps.step ?_ State.setDebt_keeps rfl
        exact Keeps.refl _ _
      · exact Keeps.refl _ _

theorem execRefreshSet_keeps {n : Fin 4} {waiting : Bool} {s : Sys2Proof.Machine.State} : ResKeeps tgtNext
    9709185488779990559424514 s (execRefreshSet n waiting s) := by
  unfold execRefreshSet
  refine ResKeeps.some rfl ?_
  refine Keeps.step ?_ State.refSet_keeps rfl
  exact Keeps.refl _ _

theorem State.mr4Apply_keeps {s : Sys2Proof.Machine.State} {n : Nat} {ranks : List
    (Sys2Proof.Mr4Class × BitVec 3)} : Keeps 9671406556917035546181634 s (State.mr4Apply s n ranks) := by
  unfold State.mr4Apply
  refine Keeps.step ?_ State.pagePairs_keeps rfl
  refine Keeps.ite ?_ ?_
  · refine Keeps.step ?_ State.setDebt_keeps rfl
    refine Keeps.mkUpd ?_ ⟨Or.inr rfl, rfl, Or.inr rfl, Or.inr rfl, Or.inr rfl, Or.inr rfl, Or.inr rfl, Or.inr
        rfl, Or.inr rfl, Or.inr rfl, Or.inr rfl, Or.inr rfl, Or.inr rfl, Or.inr rfl, Or.inr rfl, Or.inr rfl, Or.inr
        rfl, Or.inr rfl, Or.inr rfl, Or.inr rfl, Or.inl rfl, Or.inr rfl, Or.inr rfl, Or.inr rfl, Or.inr rfl, Or.inr
        rfl, Or.inr rfl, Or.inr rfl, Or.inr rfl, Or.inr rfl, Or.inr rfl, Or.inr rfl, Or.inr rfl, Or.inr rfl, Or.inr
        rfl, Or.inr rfl, Or.inr rfl, Or.inr rfl, Or.inr rfl, Or.inr rfl, Or.inr rfl, Or.inr rfl, Or.inr rfl, Or.inr
        rfl, Or.inr rfl, Or.inr rfl, Nat.le_refl _, trivial, fun w => w, fun w => w, fun w => w, fun w => w, fun w
        => w, fun w => w, fun w => w, fun w => w, fun w => w, fun w => w, fun w => w, fun w => w, fun w => w⟩
    refine Keeps.ite ?_ ?_
    · refine Keeps.step ?_ State.wr_keeps (kb_k 9671406556917033397649408 rfl rfl)
      refine Keeps.step ?_ State.wr_keeps (kb_k 9671406556917033397649408 rfl rfl)
      exact Keeps.refl _ _
    · refine Keeps.step ?_ State.wr_keeps (kb_k 9671406556917033397649408 rfl rfl)
      exact Keeps.refl _ _
  · refine Keeps.step ?_ State.setRate_keeps rfl
    refine Keeps.mkUpd ?_ ⟨Or.inr rfl, rfl, Or.inr rfl, Or.inr rfl, Or.inr rfl, Or.inr rfl, Or.inr rfl, Or.inr
        rfl, Or.inr rfl, Or.inr rfl, Or.inr rfl, Or.inr rfl, Or.inr rfl, Or.inr rfl, Or.inr rfl, Or.inr rfl, Or.inr
        rfl, Or.inr rfl, Or.inr rfl, Or.inr rfl, Or.inl rfl, Or.inr rfl, Or.inr rfl, Or.inr rfl, Or.inr rfl, Or.inr
        rfl, Or.inr rfl, Or.inr rfl, Or.inr rfl, Or.inr rfl, Or.inr rfl, Or.inr rfl, Or.inr rfl, Or.inr rfl, Or.inr
        rfl, Or.inr rfl, Or.inr rfl, Or.inr rfl, Or.inr rfl, Or.inr rfl, Or.inr rfl, Or.inr rfl, Or.inr rfl, Or.inr
        rfl, Or.inr rfl, Or.inr rfl, Nat.le_refl _, trivial, fun w => w, fun w => w, fun w => w, fun w => w, fun w
        => w, fun w => w, fun w => w, fun w => w, fun w => w, fun w => w, fun w => w, fun w => w, fun w => w⟩
    refine Keeps.ite ?_ ?_
    · refine Keeps.step ?_ State.wr_keeps (kb_k 9671406556917033397649408 rfl rfl)
      refine Keeps.step ?_ State.wr_keeps (kb_k 9671406556917033397649408 rfl rfl)
      exact Keeps.refl _ _
    · refine Keeps.step ?_ State.wr_keeps (kb_k 9671406556917033397649408 rfl rfl)
      exact Keeps.refl _ _

theorem execMr4Read_keeps {n : Fin 4} {ranks : List (Sys2Proof.Mr4Class × BitVec 3)} {s :
    Sys2Proof.Machine.State} : ResKeeps tgtNext 9671406556917035546181634 s (execMr4Read n ranks s) := by
  unfold execMr4Read
  refine ResKeeps.some rfl ?_
  refine Keeps.ite ?_ ?_
  · refine Keeps.step ?_ State.mr4Apply_keeps rfl
    exact Keeps.refl _ _
  · exact Keeps.refl _ _

theorem State.dcSelfRefresh_keeps {s : Sys2Proof.Machine.State} {n : Nat} : Keeps 9860301216231821358989314 s
    (State.dcSelfRefresh s n) := by
  unfold State.dcSelfRefresh
  refine Keeps.ite ?_ ?_
  · exact Keeps.refl _ _
  · refine Keeps.step ?_ State.pagePairs_keeps rfl
    refine Keeps.step ?_ State.wr_keeps (kb_k 9671406556917033397649408 rfl rfl)
    refine Keeps.step ?_ State.count_keeps rfl
    refine Keeps.step ?_ State.count_keeps rfl
    refine Keeps.step ?_ State.setDebt_keeps rfl
    refine Keeps.mkUpd ?_ ⟨Or.inr rfl, rfl, Or.inr rfl, Or.inr rfl, Or.inr rfl, Or.inr rfl, Or.inr rfl, Or.inr
        rfl, Or.inr rfl, Or.inr rfl, Or.inr rfl, Or.inr rfl, Or.inr rfl, Or.inr rfl, Or.inr rfl, Or.inr rfl, Or.inr
        rfl, Or.inr rfl, Or.inr rfl, Or.inr rfl, Or.inl rfl, Or.inr rfl, Or.inr rfl, Or.inr rfl, Or.inr rfl, Or.inr
        rfl, Or.inr rfl, Or.inr rfl, Or.inr rfl, Or.inr rfl, Or.inr rfl, Or.inr rfl, Or.inr rfl, Or.inr rfl, Or.inr
        rfl, Or.inr rfl, Or.inr rfl, Or.inr rfl, Or.inr rfl, Or.inr rfl, Or.inr rfl, Or.inr rfl, Or.inr rfl, Or.inr
        rfl, Or.inr rfl, Or.inr rfl, Nat.le_refl _, trivial, fun w => w, fun w => w, fun w => w, fun w => w, fun w
        => w, fun w => w, fun w => w, fun w => w, fun w => w, fun w => w, fun w => w, fun w => w, fun w => w⟩
    refine Keeps.step ?_ State.ucAbandon_keeps rfl
    exact Keeps.refl _ _

theorem State.dcResume_keeps {s : Sys2Proof.Machine.State} {n : Nat} : Keeps 9671406556917035546181634 s
    (State.dcResume s n) := by
  unfold State.dcResume
  refine Keeps.step ?_ State.pagePairs_keeps rfl
  refine Keeps.step ?_ State.wr_keeps (kb_k 9671406556917033397649408 rfl rfl)
  refine Keeps.mkUpd ?_ ⟨Or.inr rfl, rfl, Or.inr rfl, Or.inr rfl, Or.inr rfl, Or.inr rfl, Or.inr rfl, Or.inr
      rfl, Or.inr rfl, Or.inr rfl, Or.inr rfl, Or.inr rfl, Or.inr rfl, Or.inr rfl, Or.inr rfl, Or.inr rfl, Or.inr
      rfl, Or.inr rfl, Or.inr rfl, Or.inr rfl, Or.inl rfl, Or.inr rfl, Or.inr rfl, Or.inr rfl, Or.inr rfl, Or.inr
      rfl, Or.inr rfl, Or.inr rfl, Or.inr rfl, Or.inr rfl, Or.inr rfl, Or.inr rfl, Or.inr rfl, Or.inr rfl, Or.inr
      rfl, Or.inr rfl, Or.inr rfl, Or.inr rfl, Or.inr rfl, Or.inr rfl, Or.inr rfl, Or.inr rfl, Or.inr rfl, Or.inr
      rfl, Or.inr rfl, Or.inr rfl, Nat.le_refl _, trivial, fun w => w, fun w => w, fun w => w, fun w => w, fun w =>
      w, fun w => w, fun w => w, fun w => w, fun w => w, fun w => w, fun w => w, fun w => w, fun w => w⟩
  exact Keeps.refl _ _

theorem State.srexit_keeps {s : Sys2Proof.Machine.State} {n : Nat} {ranks : List
    (Sys2Proof.Mr4Class × BitVec 3)} {fits : Bool} : Keeps 9671406556917035550375938 s (State.srexit s n ranks fits)
    := by
  unfold State.srexit
  refine Keeps.ite ?_ ?_
  · exact Keeps.refl _ _
  · refine Keeps.ite ?_ ?_
    · refine Keeps.step ?_ State.dcResume_keeps rfl
      refine Keeps.step ?_ State.ucDrop_keeps rfl
      refine Keeps.step ?_ State.mr4Apply_keeps rfl
      refine Keeps.step ?_ State.wr_keeps (kb_k 9671406556917033397649408 rfl rfl)
      exact Keeps.refl _ _
    · refine Keeps.step ?_ State.wr_keeps (kb_k 9671406556917033397649408 rfl rfl)
      refine Keeps.step ?_ State.wr_keeps (kb_k 9671406556917033397649408 rfl rfl)
      refine Keeps.step ?_ State.ucDrop_keeps rfl
      refine Keeps.step ?_ State.mr4Apply_keeps rfl
      refine Keeps.step ?_ State.wr_keeps (kb_k 9671406556917033397649408 rfl rfl)
      exact Keeps.refl _ _

theorem State.trainStart_keeps {s : Sys2Proof.Machine.State} {n : Nat} : Keeps 9671406556917035545133058 s
    (State.trainStart s n) := by
  unfold State.trainStart
  refine Keeps.step ?_ State.pagePairs_keeps rfl
  refine Keeps.step ?_ State.wr_keeps (kb_k 9671406556917033397649408 rfl rfl)
  exact Keeps.refl _ _

theorem State.writeDelays_keeps {s : Sys2Proof.Machine.State} {n : Nat} {lanes : List (BitVec 8 × BitVec 8)} {wr
    : Bool} : Keeps 9671406556917033397649410 s (State.writeDelays s n lanes wr) := by
  unfold State.writeDelays
  refine Keeps.foldl _ _ ?_ ?_
  · exact Keeps.refl _ _
  · intro y_ a_ h_
    refine Keeps.ite ?_ ?_
    · refine Keeps.step ?_ State.wr_keeps (kb_k 9671406556917033397649408 rfl rfl)
      refine Keeps.step ?_ State.wr_keeps (kb_k 9671406556917033397649408 rfl rfl)
      with_reducible assumption
    · refine Keeps.step ?_ State.wr_keeps (kb_k 9671406556917033397649408 rfl rfl)
      with_reducible assumption

theorem State.trainEnd_keeps {s : Sys2Proof.Machine.State} {n : Nat} {t : Sys2Proof.DdrTraining} : Keeps
    9709185488779992707956738 s (State.trainEnd s n t) := by
  unfold State.trainEnd
  refine Keeps.ite ?_ ?_
  · exact Keeps.refl _ _
  · refine Keeps.ite ?_ ?_
    · refine Keeps.step ?_ State.dcResume_keeps rfl
      refine Keeps.step ?_ State.writeDelays_keeps rfl
      refine Keeps.step ?_ State.wr_keeps (kb_k 9671406556917033397649408 rfl rfl)
      refine Keeps.step ?_ State.wr_keeps (kb_k 9671406556917033397649408 rfl rfl)
      refine Keeps.step ?_ State.wr_keeps (kb_k 9671406556917033397649408 rfl rfl)
      refine Keeps.step ?_ State.count_keeps rfl
      refine Keeps.step ?_ State.wr_keeps (kb_k 9671406556917033397649408 rfl rfl)
      exact Keeps.refl _ _
    · refine Keeps.step ?_ State.pagePairs_keeps rfl
      refine Keeps.step ?_ State.wr_keeps (kb_k 9671406556917033397649408 rfl rfl)
      refine Keeps.step ?_ State.wr_keeps (kb_k 9671406556917033397649408 rfl rfl)
      refine Keeps.step ?_ State.count_keeps rfl
      refine Keeps.step ?_ State.wr_keeps (kb_k 9671406556917033397649408 rfl rfl)
      exact Keeps.refl _ _

theorem execDdrTrain_keeps {n : Fin 4} {t : Sys2Proof.DdrTraining} {s : Sys2Proof.Machine.State} : ResKeeps
    tgtNext 9709185488779992707956738 s (execDdrTrain n t s) := by
  unfold execDdrTrain
  refine ResKeeps.some rfl ?_
  refine Keeps.step ?_ State.trainEnd_keeps rfl
  exact Keeps.refl _ _

theorem execDdrRetrain_keeps {n : Fin 4} {delays : List (BitVec 8)} {s : Sys2Proof.Machine.State} : ResKeeps
    tgtNext 9671406556917033397649410 s (execDdrRetrain n delays s) := by
  unfold execDdrRetrain
  refine ResKeeps.some rfl ?_
  refine Keeps.ite ?_ ?_
  · refine Keeps.step ?_ State.writeDelays_keeps rfl
    exact Keeps.refl _ _
  · exact Keeps.refl _ _

theorem execZqcal_keeps {n : Fin 4} {status : BitVec 8} {s : Sys2Proof.Machine.State} : ResKeeps tgtNext 1048576
    s (execZqcal n status s) := by
  unfold execZqcal
  refine ResKeeps.some rfl ?_
  refine Keeps.ite ?_ ?_
  · refine Keeps.mkUpd ?_ ⟨Or.inr rfl, rfl, Or.inr rfl, Or.inr rfl, Or.inr rfl, Or.inr rfl, Or.inr rfl, Or.inr
      rfl, Or.inr rfl, Or.inr rfl, Or.inr rfl, Or.inr rfl, Or.inr rfl, Or.inr rfl, Or.inr rfl, Or.inr rfl, Or.inr
      rfl, Or.inr rfl, Or.inr rfl, Or.inr rfl, Or.inl rfl, Or.inr rfl, Or.inr rfl, Or.inr rfl, Or.inr rfl, Or.inr
      rfl, Or.inr rfl, Or.inr rfl, Or.inr rfl, Or.inr rfl, Or.inr rfl, Or.inr rfl, Or.inr rfl, Or.inr rfl, Or.inr
      rfl, Or.inr rfl, Or.inr rfl, Or.inr rfl, Or.inr rfl, Or.inr rfl, Or.inr rfl, Or.inr rfl, Or.inr rfl, Or.inr
      rfl, Or.inr rfl, Or.inr rfl, Nat.le_refl _, trivial, fun w => w, fun w => w, fun w => w, fun w => w, fun w =>
      w, fun w => w, fun w => w, fun w => w, fun w => w, fun w => w, fun w => w, fun w => w, fun w => w⟩
    exact Keeps.refl _ _
  · exact Keeps.refl _ _

theorem State.dcCtlWrite_keeps {s : Sys2Proof.Machine.State} {r : Sys2Proof.Requester} {n : Nat} {word : Nat}
    {ranks : List (Sys2Proof.Mr4Class × BitVec 3)} {fits : Bool} : Keeps 9860301216231821358989318 s
    (State.dcCtlWrite s r n word ranks fits) := by
  unfold State.dcCtlWrite
  refine Keeps.ite ?_ ?_
  · refine Keeps.ite ?_ ?_
    · refine Keeps.step ?_ State.werr_keeps (kb_k 9671406556917033397649408 rfl rfl)
      refine State.writeWith_keeps ?_ (kb_k 9671406556917033397649408 rfl rfl) ?_
      · exact Keeps.refl _ _
      · intro y0_ h_
        refine Keeps.step ?_ State.srexit_keeps rfl
        with_reducible assumption
    · refine Keeps.step ?_ State.werr_keeps (kb_k 9671406556917033397649408 rfl rfl)
      exact Keeps.refl _ _
  · refine State.writeWith_keeps ?_ (kb_k 9671406556917033397649408 rfl rfl) ?_
    · exact Keeps.refl _ _
    · intro y0_ h_
      refine Keeps.ite ?_ ?_
      · refine Keeps.step ?_ State.srexit_keeps rfl
        refine Keeps.ite ?_ ?_
        · refine Keeps.step ?_ State.dcSelfRefresh_keeps rfl
          refine Keeps.ite ?_ ?_
          · refine Keeps.step ?_ State.trainStart_keeps rfl
            refine Keeps.ite ?_ ?_
            · refine Keeps.step ?_ State.pagePairs_keeps rfl
              refine Keeps.step ?_ State.wr_keeps (kb_k 9671406556917033397649408 rfl rfl)
              with_reducible assumption
            · with_reducible assumption
          · refine Keeps.ite ?_ ?_
            · refine Keeps.step ?_ State.pagePairs_keeps rfl
              refine Keeps.step ?_ State.wr_keeps (kb_k 9671406556917033397649408 rfl rfl)
              with_reducible assumption
            · with_reducible assumption
        · refine Keeps.ite ?_ ?_
          · refine Keeps.step ?_ State.trainStart_keeps rfl
            refine Keeps.ite ?_ ?_
            · refine Keeps.step ?_ State.pagePairs_keeps rfl
              refine Keeps.step ?_ State.wr_keeps (kb_k 9671406556917033397649408 rfl rfl)
              with_reducible assumption
            · with_reducible assumption
          · refine Keeps.ite ?_ ?_
            · refine Keeps.step ?_ State.pagePairs_keeps rfl
              refine Keeps.step ?_ State.wr_keeps (kb_k 9671406556917033397649408 rfl rfl)
              with_reducible assumption
            · with_reducible assumption
      · refine Keeps.ite ?_ ?_
        · refine Keeps.step ?_ State.dcSelfRefresh_keeps rfl
          refine Keeps.ite ?_ ?_
          · refine Keeps.step ?_ State.trainStart_keeps rfl
            refine Keeps.ite ?_ ?_
            · refine Keeps.step ?_ State.pagePairs_keeps rfl
              refine Keeps.step ?_ State.wr_keeps (kb_k 9671406556917033397649408 rfl rfl)
              with_reducible assumption
            · with_reducible assumption
          · refine Keeps.ite ?_ ?_
            · refine Keeps.step ?_ State.pagePairs_keeps rfl
              refine Keeps.step ?_ State.wr_keeps (kb_k 9671406556917033397649408 rfl rfl)
              with_reducible assumption
            · with_reducible assumption
        · refine Keeps.ite ?_ ?_
          · refine Keeps.step ?_ State.trainStart_keeps rfl
            refine Keeps.ite ?_ ?_
            · refine Keeps.step ?_ State.pagePairs_keeps rfl
              refine Keeps.step ?_ State.wr_keeps (kb_k 9671406556917033397649408 rfl rfl)
              with_reducible assumption
            · with_reducible assumption
          · refine Keeps.ite ?_ ?_
            · refine Keeps.step ?_ State.pagePairs_keeps rfl
              refine Keeps.step ?_ State.wr_keeps (kb_k 9671406556917033397649408 rfl rfl)
              with_reducible assumption
            · with_reducible assumption

theorem execDdrUnfreeze_keeps {r : Sys2Proof.Requester} {n : Fin 4} {s : Sys2Proof.Machine.State} : ResKeeps
    tgtNext 9860301216231821358989318 s (execDdrUnfreeze r n s) := by
  unfold execDdrUnfreeze
  refine ResKeeps.some rfl ?_
  refine Keeps.step ?_ State.dcCtlWrite_keeps rfl
  exact Keeps.refl _ _

theorem execSelfRefreshEntry_keeps {r : Sys2Proof.Requester} {n : Fin 4} {s : Sys2Proof.Machine.State} :
    ResKeeps tgtNext 9860301216231821358989318 s (execSelfRefreshEntry r n s) := by
  unfold execSelfRefreshEntry
  refine ResKeeps.some rfl ?_
  refine Keeps.step ?_ State.dcCtlWrite_keeps rfl
  exact Keeps.refl _ _

theorem execSrexit_keeps {r : Sys2Proof.Requester} {n : Fin 4} {ranks : List (Sys2Proof.Mr4Class × BitVec 3)}
    {fits : Bool} {s : Sys2Proof.Machine.State} : ResKeeps tgtNext 9860301216231821358989318 s
    (execSrexit r n ranks fits s) := by
  unfold execSrexit
  refine ResKeeps.some rfl ?_
  refine Keeps.step ?_ State.dcCtlWrite_keeps rfl
  exact Keeps.refl _ _

theorem State.ddrCfgWrite_keeps {s : Sys2Proof.Machine.State} {r : Sys2Proof.Requester} {word : Nat} : Keeps
    4835703278458518846308358 s (State.ddrCfgWrite s r word) := by
  unfold State.ddrCfgWrite
  refine Keeps.ite ?_ ?_
  · refine Keeps.step ?_ State.werr_keeps (kb_k 4835703278458516698824704 rfl rfl)
    exact Keeps.refl _ _
  · refine Keeps.step ?_ State.writePlain_keeps (kb_k 4835703278458516698824704 rfl rfl)
    exact Keeps.refl _ _

theorem execDdrCfgWrite_keeps {r : Sys2Proof.Requester} {v : Sys2Proof.Word} {s : Sys2Proof.Machine.State} :
    ResKeeps tgtNext 4835703278458518846308358 s (execDdrCfgWrite r v s) := by
  unfold execDdrCfgWrite
  refine ResKeeps.some rfl ?_
  refine Keeps.step ?_ State.ddrCfgWrite_keeps rfl
  exact Keeps.refl _ _

theorem State.dcCfgWrite_keeps {s : Sys2Proof.Machine.State} {r : Sys2Proof.Requester} {n : Nat} {word : Nat} :
    Keeps 9671406556917035545133062 s (State.dcCfgWrite s r n word) := by
  unfold State.dcCfgWrite
  refine Keeps.ite ?_ ?_
  · refine Keeps.step ?_ State.werr_keeps (kb_k 9671406556917033397649408 rfl rfl)
    exact Keeps.refl _ _
  · refine State.writeWith_keeps ?_ (kb_k 9671406556917033397649408 rfl rfl) ?_
    · exact Keeps.refl _ _
    · intro y0_ h_
      refine Keeps.step ?_ State.trainStart_keeps rfl
      refine Keeps.step ?_ State.wr_keeps (kb_k 9671406556917033397649408 rfl rfl)
      with_reducible assumption

theorem execDcCfgWrite_keeps {r : Sys2Proof.Requester} {n : Fin 4} {v : Sys2Proof.Word} {s :
    Sys2Proof.Machine.State} : ResKeeps tgtNext 9671406556917035545133062 s (execDcCfgWrite r n v s) := by
  unfold execDcCfgWrite
  refine ResKeeps.some rfl ?_
  refine Keeps.step ?_ State.dcCfgWrite_keeps rfl
  exact Keeps.refl _ _

theorem State.qdrPortTrain_keeps {s : Sys2Proof.Machine.State} {port : Nat} {eye : Nat} : Keeps
    19342813113834066795298818 s (State.qdrPortTrain s port eye) := by
  unfold State.qdrPortTrain
  refine Keeps.ite ?_ ?_
  · refine Keeps.ite ?_ ?_
    · refine Keeps.step ?_ State.wr_keeps (kb_k 19342813113834066795298816 rfl rfl)
      exact Keeps.refl _ _
    · refine Keeps.step ?_ State.wr_keeps (kb_k 19342813113834066795298816 rfl rfl)
      exact Keeps.refl _ _
  · refine Keeps.ite ?_ ?_
    · refine Keeps.ite ?_ ?_
      · refine Keeps.step ?_ State.wr_keeps (kb_k 19342813113834066795298816 rfl rfl)
        refine Keeps.ite ?_ ?_
        · refine Keeps.step ?_ State.wr_keeps (kb_k 19342813113834066795298816 rfl rfl)
          exact Keeps.refl _ _
        · refine Keeps.step ?_ State.wr_keeps (kb_k 19342813113834066795298816 rfl rfl)
          exact Keeps.refl _ _
      · refine Keeps.step ?_ State.wr_keeps (kb_k 19342813113834066795298816 rfl rfl)
        refine Keeps.ite ?_ ?_
        · refine Keeps.step ?_ State.wr_keeps (kb_k 19342813113834066795298816 rfl rfl)
          exact Keeps.refl _ _
        · refine Keeps.step ?_ State.wr_keeps (kb_k 19342813113834066795298816 rfl rfl)
          exact Keeps.refl _ _
    · refine Keeps.ite ?_ ?_
      · refine Keeps.step ?_ State.wr_keeps (kb_k 19342813113834066795298816 rfl rfl)
        refine Keeps.step ?_ State.wr_keeps (kb_k 19342813113834066795298816 rfl rfl)
        exact Keeps.refl _ _
      · refine Keeps.step ?_ State.wr_keeps (kb_k 19342813113834066795298816 rfl rfl)
        refine Keeps.step ?_ State.wr_keeps (kb_k 19342813113834066795298816 rfl rfl)
        exact Keeps.refl _ _

theorem State.qdrTrain_keeps {s : Sys2Proof.Machine.State} {qa : Nat} {qb : Nat} : Keeps
    19342813113834068942782466 s (State.qdrTrain s qa qb) := by
  unfold State.qdrTrain
  refine Keeps.step ?_ State.pagePairs_keeps rfl
  refine Keeps.step ?_ State.qdrPortTrain_keeps rfl
  refine Keeps.step ?_ State.qdrPortTrain_keeps rfl
  exact Keeps.refl _ _

theorem State.qdrCtlWrite_keeps {s : Sys2Proof.Machine.State} {r : Sys2Proof.Requester} {word : Nat} {qa : Nat}
    {qb : Nat} : Keeps 19342813113834068942782470 s (State.qdrCtlWrite s r word qa qb) := by
  unfold State.qdrCtlWrite
  refine State.writeWith_keeps ?_ (kb_k 19342813113834066795298816 rfl rfl) ?_
  · exact Keeps.refl _ _
  · intro y0_ h_
    refine Keeps.ite ?_ ?_
    · refine Keeps.step ?_ State.qdrTrain_keeps rfl
      with_reducible assumption
    · with_reducible assumption

theorem execQdrTrain_keeps {r : Sys2Proof.Requester} {qa : BitVec 8} {qb : BitVec 8} {s :
    Sys2Proof.Machine.State} : ResKeeps tgtNext 19342813113834068942782470 s (execQdrTrain r qa qb s) := by
  unfold execQdrTrain
  refine ResKeeps.some rfl ?_
  refine Keeps.step ?_ State.qdrCtlWrite_keeps rfl
  exact Keeps.refl _ _

end Sys2Proof.Machine
end

