-- ==== Sys2Proof/Laws/FrameBarista.lean ====
section
/-! SUPPORT. What each function of Machine/Barista.lean may change: one mask of `Keeps` for each. -/

namespace Sys2Proof.Machine

open Reg

theorem State.modCore_keeps {s : Sys2Proof.Machine.State} {n : Nat} {f : Sys2Proof.Machine.BwOp →
    Sys2Proof.Machine.BwOp} : Keeps 8388608 s (State.modCore s n f) := by
  unfold State.modCore
  refine Keeps.mkUpd ?_ ⟨Or.inr rfl, rfl, Or.inr rfl, Or.inr rfl, Or.inr rfl, Or.inr rfl, Or.inr rfl, Or.inr
      rfl, Or.inr rfl, Or.inr rfl, Or.inr rfl, Or.inr rfl, Or.inr rfl, Or.inr rfl, Or.inr rfl, Or.inr rfl, Or.inr
      rfl, Or.inr rfl, Or.inr rfl, Or.inr rfl, Or.inr rfl, Or.inr rfl, Or.inr rfl, Or.inl rfl, Or.inr rfl, Or.inr
      rfl, Or.inr rfl, Or.inr rfl, Or.inr rfl, Or.inr rfl, Or.inr rfl, Or.inr rfl, Or.inr rfl, Or.inr rfl, Or.inr
      rfl, Or.inr rfl, Or.inr rfl, Or.inr rfl, Or.inr rfl, Or.inr rfl, Or.inr rfl, Or.inr rfl, Or.inr rfl, Or.inr
      rfl, Or.inr rfl, Or.inr rfl, Nat.le_refl _, trivial, fun w => w, fun w => w, fun w => w, fun w => w, fun w =>
      w, fun w => w, fun w => w, fun w => w, fun w => w, fun w => w, fun w => w, fun w => w, fun w => w⟩
  exact Keeps.refl _ _

theorem State.stallCount_keeps {s : Sys2Proof.Machine.State} {n : Nat} {k : Nat} : Keeps 37778931862957161775106
    s (State.stallCount s n k) := by
  unfold State.stallCount
  refine Keeps.ite ?_ ?_
  · exact Keeps.refl _ _
  · refine Keeps.step ?_ State.count_keeps rfl
    refine Keeps.step ?_ State.count_keeps rfl
    refine Keeps.step ?_ State.count_keeps rfl
    exact Keeps.refl _ _

theorem State.loadRun_keeps {s : Sys2Proof.Machine.State} {n : Nat} {b : Bool} : Keeps 32768 s
    (State.loadRun s n b) := by
  unfold State.loadRun
  refine Keeps.ite ?_ ?_
  · refine Keeps.ite ?_ ?_
    · refine Keeps.mkUpd ?_ ⟨Or.inr rfl, rfl, Or.inr rfl, Or.inr rfl, Or.inr rfl, Or.inr rfl, Or.inr rfl, Or.inr
        rfl, Or.inr rfl, Or.inr rfl, Or.inr rfl, Or.inr rfl, Or.inr rfl, Or.inr rfl, Or.inr rfl, Or.inl rfl, Or.inr
        rfl, Or.inr rfl, Or.inr rfl, Or.inr rfl, Or.inr rfl, Or.inr rfl, Or.inr rfl, Or.inr rfl, Or.inr rfl, Or.inr
        rfl, Or.inr rfl, Or.inr rfl, Or.inr rfl, Or.inr rfl, Or.inr rfl, Or.inr rfl, Or.inr rfl, Or.inr rfl, Or.inr
        rfl, Or.inr rfl, Or.inr rfl, Or.inr rfl, Or.inr rfl, Or.inr rfl, Or.inr rfl, Or.inr rfl, Or.inr rfl, Or.inr
        rfl, Or.inr rfl, Or.inr rfl, Nat.le_refl _, trivial, fun w => w, fun w => w, fun w => w, fun w => w, fun w
        => w, fun w => w, fun w => w, fun w => w, fun w => w, fun w => w, fun w => w, fun w => w, fun w => w⟩
      exact Keeps.refl _ _
    · exact Keeps.refl _ _
  · refine Keeps.ite ?_ ?_
    · exact Keeps.refl _ _
    · refine Keeps.mkUpd ?_ ⟨Or.inr rfl, rfl, Or.inr rfl, Or.inr rfl, Or.inr rfl, Or.inr rfl, Or.inr rfl, Or.inr
        rfl, Or.inr rfl, Or.inr rfl, Or.inr rfl, Or.inr rfl, Or.inr rfl, Or.inr rfl, Or.inr rfl, Or.inl rfl, Or.inr
        rfl, Or.inr rfl, Or.inr rfl, Or.inr rfl, Or.inr rfl, Or.inr rfl, Or.inr rfl, Or.inr rfl, Or.inr rfl, Or.inr
        rfl, Or.inr rfl, Or.inr rfl, Or.inr rfl, Or.inr rfl, Or.inr rfl, Or.inr rfl, Or.inr rfl, Or.inr rfl, Or.inr
        rfl, Or.inr rfl, Or.inr rfl, Or.inr rfl, Or.inr rfl, Or.inr rfl, Or.inr rfl, Or.inr rfl, Or.inr rfl, Or.inr
        rfl, Or.inr rfl, Or.inr rfl, Nat.le_refl _, trivial, fun w => w, fun w => w, fun w => w, fun w => w, fun w
        => w, fun w => w, fun w => w, fun w => w, fun w => w, fun w => w, fun w => w, fun w => w, fun w => w⟩
      exact Keeps.refl _ _

theorem State.takeEnd_keeps {s : Sys2Proof.Machine.State} {n : Nat} {v : Nat} : Keeps 2455630571092215519608834
    s (State.takeEnd s n v) := by
  unfold State.takeEnd
  split
  · refine Keeps.step ?_ State.loadRun_keeps rfl
    refine Keeps.step ?_ State.wr_keeps (kb_k 2417851639229258349412352 rfl rfl)
    refine Keeps.mkUpd ?_ ⟨Or.inr rfl, rfl, Or.inr rfl, Or.inr rfl, Or.inr rfl, Or.inr rfl, Or.inr rfl, Or.inr
        rfl, Or.inr rfl, Or.inr rfl, Or.inr rfl, Or.inr rfl, Or.inr rfl, Or.inr rfl, Or.inr rfl, Or.inl rfl, Or.inr
        rfl, Or.inr rfl, Or.inr rfl, Or.inr rfl, Or.inr rfl, Or.inr rfl, Or.inr rfl, Or.inr rfl, Or.inr rfl, Or.inr
        rfl, Or.inr rfl, Or.inr rfl, Or.inr rfl, Or.inr rfl, Or.inr rfl, Or.inr rfl, Or.inr rfl, Or.inr rfl, Or.inr
        rfl, Or.inr rfl, Or.inr rfl, Or.inr rfl, Or.inr rfl, Or.inr rfl, Or.inr rfl, Or.inr rfl, Or.inr rfl, Or.inr
        rfl, Or.inr rfl, Or.inr rfl, Nat.le_refl _, trivial, fun w => w, fun w => w, fun w => w, fun w => w, fun w
        => w, fun w => w, fun w => w, fun w => w, fun w => w, fun w => w, fun w => w, fun w => w, fun w => w⟩
    refine Keeps.step ?_ State.modCore_keeps rfl
    refine Keeps.step ?_ State.count_keeps rfl
    refine Keeps.step ?_ State.count_keeps rfl
    refine Keeps.step ?_ State.stallCount_keeps rfl
    exact Keeps.refl _ _
  · exact Keeps.refl _ _

theorem State.coreWake_keeps {s : Sys2Proof.Machine.State} {n : Nat} : Keeps 2455630571092215519608834 s
    (State.coreWake s n) := by
  unfold State.coreWake
  refine Keeps.ite ?_ ?_
  · exact Keeps.refl _ _
  · split
    · refine Keeps.ite ?_ ?_
      · refine Keeps.step ?_ State.takeEnd_keeps rfl
        exact Keeps.refl _ _
      · exact Keeps.refl _ _
    · refine Keeps.step ?_ State.modCore_keeps rfl
      refine Keeps.step ?_ State.stallCount_keeps rfl
      exact Keeps.refl _ _
    · exact Keeps.refl _ _

theorem State.complete_keeps {s : Sys2Proof.Machine.State} {e : Nat} {en : Sys2Proof.Machine.Entry} {code : Nat}
    {brewer : Nat} : Keeps 113336795588871485227010 s (State.complete s e en code brewer) := by
  unfold State.complete
  refine Keeps.ite ?_ ?_
  · refine Keeps.ite ?_ ?_
    · refine Keeps.step ?_ State.wr_keeps (kb_k 75557863725914323419136 rfl rfl)
      refine Keeps.mkUpd ?_ ⟨Or.inr rfl, rfl, Or.inr rfl, Or.inr rfl, Or.inr rfl, Or.inr rfl, Or.inr rfl, Or.inr
          rfl, Or.inr rfl, Or.inr rfl, Or.inr rfl, Or.inr rfl, Or.inr rfl, Or.inr rfl, Or.inr rfl, Or.inl rfl,
          Or.inr rfl, Or.inr rfl, Or.inr rfl, Or.inr rfl, Or.inr rfl, Or.inr rfl, Or.inr rfl, Or.inr rfl, Or.inr
          rfl, Or.inr rfl, Or.inr rfl, Or.inr rfl, Or.inr rfl, Or.inr rfl, Or.inr rfl, Or.inr rfl, Or.inr rfl,
          Or.inr rfl, Or.inr rfl, Or.inr rfl, Or.inr rfl, Or.inr rfl, Or.inr rfl, Or.inr rfl, Or.inr rfl, Or.inr
          rfl, Or.inr rfl, Or.inr rfl, Or.inr rfl, Or.inr rfl, Nat.le_refl _, trivial, fun w => w, fun w => w, fun w
          => w, fun w => w, fun w => w, fun w => w, fun w => w, fun w => w, fun w => w, fun w => w, fun w => w, fun
          w => w, fun w => w⟩
      refine Keeps.step ?_ State.count_keeps rfl
      exact Keeps.refl _ _
    · refine Keeps.mkUpd ?_ ⟨Or.inr rfl, rfl, Or.inr rfl, Or.inr rfl, Or.inr rfl, Or.inr rfl, Or.inr rfl, Or.inr
        rfl, Or.inr rfl, Or.inr rfl, Or.inr rfl, Or.inr rfl, Or.inr rfl, Or.inr rfl, Or.inr rfl, Or.inl rfl, Or.inr
        rfl, Or.inr rfl, Or.inr rfl, Or.inr rfl, Or.inr rfl, Or.inr rfl, Or.inr rfl, Or.inr rfl, Or.inr rfl, Or.inr
        rfl, Or.inr rfl, Or.inr rfl, Or.inr rfl, Or.inr rfl, Or.inr rfl, Or.inr rfl, Or.inr rfl, Or.inr rfl, Or.inr
        rfl, Or.inr rfl, Or.inr rfl, Or.inr rfl, Or.inr rfl, Or.inr rfl, Or.inr rfl, Or.inr rfl, Or.inr rfl, Or.inr
        rfl, Or.inr rfl, Or.inr rfl, Nat.le_refl _, trivial, fun w => w, fun w => w, fun w => w, fun w => w, fun w
        => w, fun w => w, fun w => w, fun w => w, fun w => w, fun w => w, fun w => w, fun w => w, fun w => w⟩
      refine Keeps.step ?_ State.count_keeps rfl
      exact Keeps.refl _ _
  · refine Keeps.mkUpd ?_ ⟨Or.inr rfl, rfl, Or.inr rfl, Or.inr rfl, Or.inr rfl, Or.inr rfl, Or.inr rfl, Or.inr
      rfl, Or.inr rfl, Or.inr rfl, Or.inr rfl, Or.inr rfl, Or.inr rfl, Or.inr rfl, Or.inr rfl, Or.inl rfl, Or.inr
      rfl, Or.inr rfl, Or.inr rfl, Or.inr rfl, Or.inr rfl, Or.inr rfl, Or.inr rfl, Or.inr rfl, Or.inr rfl, Or.inr
      rfl, Or.inr rfl, Or.inr rfl, Or.inr rfl, Or.inr rfl, Or.inr rfl, Or.inr rfl, Or.inr rfl, Or.inr rfl, Or.inr
      rfl, Or.inr rfl, Or.inr rfl, Or.inr rfl, Or.inr rfl, Or.inr rfl, Or.inr rfl, Or.inr rfl, Or.inr rfl, Or.inr
      rfl, Or.inr rfl, Or.inr rfl, Nat.le_refl _, trivial, fun w => w, fun w => w, fun w => w, fun w => w, fun w =>
      w, fun w => w, fun w => w, fun w => w, fun w => w, fun w => w, fun w => w, fun w => w, fun w => w⟩
    refine Keeps.step ?_ State.count_keeps rfl
    exact Keeps.refl _ _

theorem State.flushItems_keeps {s : Sys2Proof.Machine.State} {n : Nat} : Keeps 113336795588871485227010 s
    (State.flushItems s n) := by
  unfold State.flushItems
  refine Keeps.foldl _ _ ?_ ?_
  · exact Keeps.refl _ _
  · intro y_ a_ h_
    refine Keeps.step ?_ State.count_keeps rfl
    refine Keeps.step ?_ State.complete_keeps rfl
    with_reducible assumption

theorem State.brstDone_keeps {s : Sys2Proof.Machine.State} {n : Nat} {v : Nat} : Keeps 113336795588871485227010
    s (State.brstDone s n v) := by
  unfold State.brstDone
  try extract_lets
  split
  · split
    · refine Keeps.ite ?_ ?_
      · refine Keeps.step ?_ State.count_keeps rfl
        refine Keeps.step ?_ State.complete_keeps rfl
        exact Keeps.refl _ _
      · refine Keeps.step ?_ State.count_keeps rfl
        refine Keeps.step ?_ State.wr_keeps (kb_k 75557863725914323419136 rfl rfl)
        refine Keeps.step ?_ State.satAdd_keeps (kb_k 75557863725914323419136 rfl rfl)
        exact Keeps.refl _ _
    · refine Keeps.step ?_ State.count_keeps rfl
      refine Keeps.step ?_ State.wr_keeps (kb_k 75557863725914323419136 rfl rfl)
      refine Keeps.step ?_ State.satAdd_keeps (kb_k 75557863725914323419136 rfl rfl)
      exact Keeps.refl _ _
  · refine Keeps.step ?_ State.count_keeps rfl
    refine Keeps.step ?_ State.wr_keeps (kb_k 75557863725914323419136 rfl rfl)
    refine Keeps.step ?_ State.satAdd_keeps (kb_k 75557863725914323419136 rfl rfl)
    exact Keeps.refl _ _

theorem execDispatchTimeout_keeps {s : Sys2Proof.Machine.State} : ResKeeps tgtNext 113336795588873632710659 s
    (execDispatchTimeout s) := by
  unfold execDispatchTimeout
  split
  · refine ResKeeps.some rfl ?_
    refine Keeps.ite ?_ ?_
    · refine Keeps.step ?_ State.pagePairs_keeps rfl
      refine Keeps.step ?_ State.wr_keeps (kb_k 75557863725914323419136 rfl rfl)
      refine Keeps.step ?_ State.count_keeps rfl
      refine Keeps.step ?_ State.complete_keeps rfl
      refine Keeps.step ?_ State.advanceTo_keeps rfl
      exact Keeps.refl _ _
    · exact Keeps.refl _ _
  · refine ResKeeps.some rfl ?_
    exact Keeps.refl _ _

theorem State.reportFirst_keeps {s : Sys2Proof.Machine.State} {e : Nat} {rest : List Nat} {en :
    Sys2Proof.Machine.Entry} {code : Nat} {brewer : Nat} {ts : Nat} : Keeps 680020773603597923418114 s
    (State.reportFirst s e rest en code brewer ts) := by
  unfold State.reportFirst
  refine Keeps.step ?_ State.raiseCause_keeps rfl
  refine Keeps.step ?_ State.wr_keeps (kb_k 75557863725914323419136 rfl rfl)
  refine Keeps.mkUpd ?_ ⟨Or.inr rfl, rfl, Or.inr rfl, Or.inr rfl, Or.inr rfl, Or.inr rfl, Or.inr rfl, Or.inr
      rfl, Or.inr rfl, Or.inr rfl, Or.inr rfl, Or.inr rfl, Or.inr rfl, Or.inr rfl, Or.inr rfl, Or.inl rfl, Or.inr
      rfl, Or.inr rfl, Or.inr rfl, Or.inr rfl, Or.inr rfl, Or.inr rfl, Or.inr rfl, Or.inr rfl, Or.inr rfl, Or.inr
      rfl, Or.inr rfl, Or.inr rfl, Or.inr rfl, Or.inr rfl, Or.inr rfl, Or.inr rfl, Or.inr rfl, Or.inr rfl, Or.inr
      rfl, Or.inr rfl, Or.inr rfl, Or.inr rfl, Or.inr rfl, Or.inr rfl, Or.inr rfl, Or.inr rfl, Or.inr rfl, Or.inr
      rfl, Or.inr rfl, Or.inr rfl, Nat.le_refl _, trivial, fun w => w, fun w => w, fun w => w, fun w => w, fun w =>
      w, fun w => w, fun w => w, fun w => w, fun w => w, fun w => w, fun w => w, fun w => w, fun w => w⟩
  refine Keeps.step ?_ State.hostWrite_keeps rfl
  exact Keeps.refl _ _

theorem execCompletionReport_keeps {s : Sys2Proof.Machine.State} : ResKeeps tgtNext 680020773603597923418114 s
    (execCompletionReport s) := by
  unfold execCompletionReport
  split
  · split
    · split
      · refine ResKeeps.some rfl ?_
        refine Keeps.ite ?_ ?_
        · exact Keeps.refl _ _
        · refine Keeps.ite ?_ ?_
          · refine Keeps.step ?_ State.wr_keeps (kb_k 75557863725914323419136 rfl rfl)
            exact Keeps.refl _ _
          · refine Keeps.step ?_ State.reportFirst_keeps rfl
            exact Keeps.refl _ _
      · refine ResKeeps.some rfl ?_
        exact Keeps.refl _ _
    · refine ResKeeps.some rfl ?_
      exact Keeps.refl _ _
  · refine ResKeeps.some rfl ?_
    exact Keeps.refl _ _

theorem State.giveItem_keeps {s : Sys2Proof.Machine.State} {n : Nat} {e : Nat} {en : Sys2Proof.Machine.Entry} :
    Keeps 113336795593269540126722 s (State.giveItem s n e en) := by
  unfold State.giveItem
  refine Keeps.step ?_ State.count_keeps rfl
  refine Keeps.step ?_ State.satAdd_keeps (kb_k 75557863725914323419136 rfl rfl)
  refine Keeps.ite ?_ ?_
  · refine Keeps.step ?_ State.satAdd_keeps (kb_k 75557863725914323419136 rfl rfl)
    refine Keeps.step ?_ State.bwPut_keeps rfl
    refine Keeps.mkUpd ?_ ⟨Or.inr rfl, rfl, Or.inr rfl, Or.inr rfl, Or.inr rfl, Or.inr rfl, Or.inr rfl, Or.inr
        rfl, Or.inr rfl, Or.inr rfl, Or.inr rfl, Or.inr rfl, Or.inr rfl, Or.inr rfl, Or.inr rfl, Or.inl rfl, Or.inr
        rfl, Or.inr rfl, Or.inr rfl, Or.inr rfl, Or.inr rfl, Or.inr rfl, Or.inr rfl, Or.inr rfl, Or.inr rfl, Or.inr
        rfl, Or.inr rfl, Or.inr rfl, Or.inr rfl, Or.inr rfl, Or.inr rfl, Or.inr rfl, Or.inr rfl, Or.inr rfl, Or.inr
        rfl, Or.inr rfl, Or.inr rfl, Or.inr rfl, Or.inr rfl, Or.inr rfl, Or.inr rfl, Or.inr rfl, Or.inr rfl, Or.inr
        rfl, Or.inr rfl, Or.inr rfl, Nat.le_refl _, trivial, fun w => w, fun w => w, fun w => w, fun w => w, fun w
        => w, fun w => w, fun w => w, fun w => w, fun w => w, fun w => w, fun w => w, fun w => w, fun w => w⟩
    exact Keeps.refl _ _
  · refine Keeps.step ?_ State.bwPut_keeps rfl
    refine Keeps.mkUpd ?_ ⟨Or.inr rfl, rfl, Or.inr rfl, Or.inr rfl, Or.inr rfl, Or.inr rfl, Or.inr rfl, Or.inr
        rfl, Or.inr rfl, Or.inr rfl, Or.inr rfl, Or.inr rfl, Or.inr rfl, Or.inr rfl, Or.inr rfl, Or.inl rfl, Or.inr
        rfl, Or.inr rfl, Or.inr rfl, Or.inr rfl, Or.inr rfl, Or.inr rfl, Or.inr rfl, Or.inr rfl, Or.inr rfl, Or.inr
        rfl, Or.inr rfl, Or.inr rfl, Or.inr rfl, Or.inr rfl, Or.inr rfl, Or.inr rfl, Or.inr rfl, Or.inr rfl, Or.inr
        rfl, Or.inr rfl, Or.inr rfl, Or.inr rfl, Or.inr rfl, Or.inr rfl, Or.inr rfl, Or.inr rfl, Or.inr rfl, Or.inr
        rfl, Or.inr rfl, Or.inr rfl, Nat.le_refl _, trivial, fun w => w, fun w => w, fun w => w, fun w => w, fun w
        => w, fun w => w, fun w => w, fun w => w, fun w => w, fun w => w, fun w => w, fun w => w, fun w => w⟩
    exact Keeps.refl _ _

theorem execItemDispatch_keeps {s : Sys2Proof.Machine.State} : ResKeeps tgtNext 2531188434822527889539074 s
    (execItemDispatch s) := by
  unfold execItemDispatch
  split
  · split
    · refine ResKeeps.some rfl ?_
      refine Keeps.ite ?_ ?_
      · refine Keeps.step ?_ State.takeEnd_keeps rfl
        refine Keeps.step ?_ State.giveItem_keeps rfl
        exact Keeps.refl _ _
      · exact Keeps.refl _ _
    · refine ResKeeps.some rfl ?_
      exact Keeps.refl _ _
  · refine ResKeeps.some rfl ?_
    exact Keeps.refl _ _

theorem State.submit_keeps {s : Sys2Proof.Machine.State} {src : Nat} {bs : List Sys2Proof.Byte} : ResKeeps
    tgtSnd 113336795588871485227010 s (State.submit s src bs) := by
  unfold State.submit
  refine ResKeeps.ite ?_ ?_
  · refine ResKeeps.some rfl ?_
    exact Keeps.refl _ _
  · refine ResKeeps.ite ?_ ?_
    · refine ResKeeps.some rfl ?_
      exact Keeps.refl _ _
    · split
      · rename_i h6_0
        refine ResKeeps.some rfl ?_
        refine Keeps.ofRes (tgt := tgtOpt) ?_ h6_0 rfl
        refine ResKeeps.step ?_ State.brstAccept_keeps rfl
        exact Keeps.refl _ _
      · refine ResKeeps.some rfl ?_
        refine Keeps.step ?_ State.count_keeps rfl
        exact Keeps.refl _ _

theorem State.cancel_keeps {s : Sys2Proof.Machine.State} {src : Nat} {token : Nat} : ResKeeps tgtSnd
    113336795588871485227010 s (State.cancel s src token) := by
  unfold State.cancel
  refine ResKeeps.ite ?_ ?_
  · refine ResKeeps.some rfl ?_
    exact Keeps.refl _ _
  · dsimp only
    split
    · refine ResKeeps.some rfl ?_
      refine Keeps.step ?_ State.count_keeps rfl
      refine Keeps.step ?_ State.complete_keeps rfl
      exact Keeps.refl _ _
    · refine ResKeeps.ite ?_ ?_
      · refine ResKeeps.some rfl ?_
        exact Keeps.refl _ _
      · refine ResKeeps.some rfl ?_
        exact Keeps.refl _ _

theorem State.subGoWrite_keeps {s : Sys2Proof.Machine.State} {r : Sys2Proof.Requester} {word : Nat} : Keeps
    113336795588873632710662 s (State.subGoWrite s r word) := by
  unfold State.subGoWrite
  refine State.writeWith_keeps ?_ (kb_k 75557863725914323419136 rfl rfl) ?_
  · exact Keeps.refl _ _
  · intro y0_ h_
    refine Keeps.ite ?_ ?_
    · refine Keeps.step ?_ State.wr_keeps (kb_k 75557863725914323419136 rfl rfl)
      refine Keeps.ofRes (tgt := tgtSnd) ?_ rfl rfl
      refine ResKeeps.step ?_ State.submit_keeps rfl
      with_reducible assumption
    · with_reducible assumption

theorem execBrstSubgo_keeps {r : Sys2Proof.Requester} {s : Sys2Proof.Machine.State} : ResKeeps tgtNext
    113336795588873632710662 s (execBrstSubgo r s) := by
  unfold execBrstSubgo
  refine ResKeeps.some rfl ?_
  refine Keeps.step ?_ State.subGoWrite_keeps rfl
  exact Keeps.refl _ _

theorem State.cancelWrite_keeps {s : Sys2Proof.Machine.State} {r : Sys2Proof.Requester} {word : Nat} : Keeps
    113336795588873632710662 s (State.cancelWrite s r word) := by
  unfold State.cancelWrite
  refine State.writeWith_keeps ?_ (kb_k 75557863725914323419136 rfl rfl) ?_
  · exact Keeps.refl _ _
  · intro y0_ h_
    refine Keeps.step ?_ State.wr_keeps (kb_k 75557863725914323419136 rfl rfl)
    refine Keeps.ofRes (tgt := tgtSnd) ?_ rfl rfl
    refine ResKeeps.step ?_ State.cancel_keeps rfl
    with_reducible assumption

theorem execBrstCancel_keeps {r : Sys2Proof.Requester} {token : Sys2Proof.Word} {s : Sys2Proof.Machine.State} :
    ResKeeps tgtNext 113336795588873632710662 s (execBrstCancel r token s) := by
  unfold execBrstCancel
  refine ResKeeps.some rfl ?_
  refine Keeps.step ?_ State.cancelWrite_keeps rfl
  exact Keeps.refl _ _

theorem State.brstCtlWrite_keeps {s : Sys2Proof.Machine.State} {r : Sys2Proof.Requester} {word : Nat} : Keeps
    75557863725916470902790 s (State.brstCtlWrite s r word) := by
  unfold State.brstCtlWrite
  refine State.writeWith_keeps ?_ (kb_k 75557863725914323419136 rfl rfl) ?_
  · exact Keeps.refl _ _
  · intro y0_ h_
    refine Keeps.ite ?_ ?_
    · refine Keeps.foldl _ _ ?_ ?_
      · refine Keeps.ite ?_ ?_
        · refine Keeps.foldl _ _ ?_ ?_
          · with_reducible assumption
          · intro y_ a_ h_
            refine Keeps.step ?_ State.wr_keeps (kb_k 75557863725914323419136 rfl rfl)
            with_reducible assumption
        · with_reducible assumption
      · intro y_ a_ h_
        refine Keeps.step ?_ State.wr_keeps (kb_k 75557863725914323419136 rfl rfl)
        with_reducible assumption
    · refine Keeps.ite ?_ ?_
      · refine Keeps.foldl _ _ ?_ ?_
        · with_reducible assumption
        · intro y_ a_ h_
          refine Keeps.step ?_ State.wr_keeps (kb_k 75557863725914323419136 rfl rfl)
          with_reducible assumption
      · with_reducible assumption

theorem execPeakClear_keeps {r : Sys2Proof.Requester} {s : Sys2Proof.Machine.State} : ResKeeps tgtNext
    75557863725916470902790 s (execPeakClear r s) := by
  unfold execPeakClear
  refine ResKeeps.some rfl ?_
  refine Keeps.step ?_ State.brstCtlWrite_keeps rfl
  exact Keeps.refl _ _

theorem execHistogramClear_keeps {r : Sys2Proof.Requester} {s : Sys2Proof.Machine.State} : ResKeeps tgtNext
    75557863725916470902790 s (execHistogramClear r s) := by
  unfold execHistogramClear
  refine ResKeeps.some rfl ?_
  refine Keeps.step ?_ State.brstCtlWrite_keeps rfl
  exact Keeps.refl _ _

theorem State.windowEnd_keeps {s : Sys2Proof.Machine.State} : Keeps 75557863725914323451907 s (State.windowEnd s) := by
  unfold State.windowEnd
  refine Keeps.mkUpd ?_ ⟨Or.inr rfl, rfl, Or.inr rfl, Or.inr rfl, Or.inr rfl, Or.inr rfl, Or.inr rfl, Or.inr
      rfl, Or.inr rfl, Or.inr rfl, Or.inr rfl, Or.inr rfl, Or.inr rfl, Or.inr rfl, Or.inr rfl, Or.inl rfl, Or.inr
      rfl, Or.inr rfl, Or.inr rfl, Or.inr rfl, Or.inr rfl, Or.inr rfl, Or.inr rfl, Or.inr rfl, Or.inr rfl, Or.inr
      rfl, Or.inr rfl, Or.inr rfl, Or.inr rfl, Or.inr rfl, Or.inr rfl, Or.inr rfl, Or.inr rfl, Or.inr rfl, Or.inr
      rfl, Or.inr rfl, Or.inr rfl, Or.inr rfl, Or.inr rfl, Or.inr rfl, Or.inr rfl, Or.inr rfl, Or.inr rfl, Or.inr
      rfl, Or.inr rfl, Or.inr rfl, Nat.le_refl _, trivial, fun w => w, fun w => w, fun w => w, fun w => w, fun w =>
      w, fun w => w, fun w => w, fun w => w, fun w => w, fun w => w, fun w => w, fun w => w, fun w => w⟩
  refine Keeps.foldl _ _ ?_ ?_
  · refine Keeps.step ?_ State.advanceTo_keeps rfl
    exact Keeps.refl _ _
  · intro y_ a_ h_
    refine Keeps.step ?_ State.wr_keeps (kb_k 75557863725914323419136 rfl rfl)
    with_reducible assumption

theorem execLoadWindowEnd_keeps {s : Sys2Proof.Machine.State} : ResKeeps tgtNext 75557863725914323451907 s
    (execLoadWindowEnd s) := by
  unfold execLoadWindowEnd
  refine ResKeeps.some rfl ?_
  refine Keeps.ite ?_ ?_
  · refine Keeps.step ?_ State.windowEnd_keeps rfl
    exact Keeps.refl _ _
  · exact Keeps.refl _ _

theorem State.dropHeld_keeps {s : Sys2Proof.Machine.State} {k : Nat} : Keeps 232113757366008801544257794 s
    (State.dropHeld s k) := by
  unfold State.dropHeld
  refine Keeps.ite ?_ ?_
  · refine Keeps.step ?_ State.modSq_keeps rfl
    exact Keeps.refl _ _
  · refine Keeps.ite ?_ ?_
    · refine Keeps.step ?_ State.modGln_keeps rfl
      exact Keeps.refl _ _
    · refine Keeps.ite ?_ ?_
      · refine Keeps.step ?_ State.wr_keeps (kb_k 77371252455336267181195264 rfl rfl)
        refine Keeps.mkUpd ?_ ⟨Or.inr rfl, rfl, Or.inr rfl, Or.inr rfl, Or.inr rfl, Or.inr rfl, Or.inr rfl,
            Or.inr rfl, Or.inr rfl, Or.inr rfl, Or.inr rfl, Or.inr rfl, Or.inr rfl, Or.inr rfl, Or.inr rfl, Or.inr
            rfl, Or.inr rfl, Or.inl rfl, Or.inr rfl, Or.inr rfl, Or.inr rfl, Or.inr rfl, Or.inr rfl, Or.inr rfl,
            Or.inr rfl, Or.inr rfl, Or.inr rfl, Or.inr rfl, Or.inr rfl, Or.inr rfl, Or.inr rfl, Or.inr rfl, Or.inr
            rfl, Or.inr rfl, Or.inr rfl, Or.inr rfl, Or.inr rfl, Or.inr rfl, Or.inr rfl, Or.inr rfl, Or.inr rfl,
            Or.inr rfl, Or.inr rfl, Or.inr rfl, Or.inr rfl, Or.inr rfl, Nat.le_refl _, trivial, fun w => w, fun w =>
            w, fun w => w, fun w => w, fun w => w, fun w => w, fun w => w, fun w => w, fun w => w, fun w => w, fun w
            => w, fun w => w, fun w => w⟩
        exact Keeps.refl _ _
      · refine Keeps.step ?_ State.wr_keeps (kb_k 154742504910672534362390528 rfl rfl)
        refine Keeps.mkUpd ?_ ⟨Or.inr rfl, rfl, Or.inr rfl, Or.inr rfl, Or.inr rfl, Or.inr rfl, Or.inr rfl,
            Or.inr rfl, Or.inr rfl, Or.inr rfl, Or.inr rfl, Or.inr rfl, Or.inr rfl, Or.inr rfl, Or.inr rfl, Or.inr
            rfl, Or.inr rfl, Or.inr rfl, Or.inr rfl, Or.inl rfl, Or.inr rfl, Or.inr rfl, Or.inr rfl, Or.inr rfl,
            Or.inr rfl, Or.inr rfl, Or.inr rfl, Or.inr rfl, Or.inr rfl, Or.inr rfl, Or.inr rfl, Or.inr rfl, Or.inr
            rfl, Or.inr rfl, Or.inr rfl, Or.inr rfl, Or.inr rfl, Or.inr rfl, Or.inr rfl, Or.inr rfl, Or.inr rfl,
            Or.inr rfl, Or.inr rfl, Or.inr rfl, Or.inr rfl, Or.inr rfl, Nat.le_refl _, trivial, fun w => w, fun w =>
            w, fun w => w, fun w => w, fun w => w, fun w => w, fun w => w, fun w => w, fun w => w, fun w => w, fun w
            => w, fun w => w, fun w => w⟩
        exact Keeps.refl _ _

theorem State.acceptHeldOf_keeps {s : Sys2Proof.Machine.State} {k : Nat} : Keeps 232227094161597673029484802 s
    (State.acceptHeldOf s k) := by
  unfold State.acceptHeldOf
  split
  · split
    · rename_i h4_0
      refine Keeps.step ?_ State.dropHeld_keeps rfl
      refine Keeps.ofRes (tgt := tgtOpt) ?_ h4_0 rfl
      refine ResKeeps.step ?_ State.brstAccept_keeps rfl
      exact Keeps.refl _ _
    · exact Keeps.refl _ _
  · exact Keeps.refl _ _

theorem State.acceptHeld_keeps {s : Sys2Proof.Machine.State} : Keeps 232227094161597673029484802 s
    (State.acceptHeld s) := by
  unfold State.acceptHeld
  split
  · refine Keeps.ite ?_ ?_
    · refine Keeps.step ?_ State.acceptHeldOf_keeps rfl
      exact Keeps.refl _ _
    · exact Keeps.refl _ _
  · exact Keeps.refl _ _

theorem execHeldItemAccept_keeps {s : Sys2Proof.Machine.State} : ResKeeps tgtNext 232227094161597673029484802 s
    (execHeldItemAccept s) := by
  unfold execHeldItemAccept
  refine ResKeeps.some rfl ?_
  refine Keeps.step ?_ State.acceptHeld_keeps rfl
  exact Keeps.refl _ _

theorem State.brstLost_keeps {s : Sys2Proof.Machine.State} : Keeps 234569387937101017063866626 s
    (State.brstLost s) := by
  unfold State.brstLost
  refine Keeps.mkUpd ?_ ⟨Or.inr rfl, rfl, Or.inr rfl, Or.inr rfl, Or.inr rfl, Or.inr rfl, Or.inr rfl, Or.inr
      rfl, Or.inr rfl, Or.inr rfl, Or.inr rfl, Or.inr rfl, Or.inr rfl, Or.inr rfl, Or.inr rfl, Or.inl rfl, Or.inr
      rfl, Or.inr rfl, Or.inr rfl, Or.inr rfl, Or.inr rfl, Or.inr rfl, Or.inr rfl, Or.inr rfl, Or.inr rfl, Or.inr
      rfl, Or.inr rfl, Or.inr rfl, Or.inr rfl, Or.inr rfl, Or.inr rfl, Or.inr rfl, Or.inr rfl, Or.inr rfl, Or.inr
      rfl, Or.inr rfl, Or.inr rfl, Or.inr rfl, Or.inr rfl, Or.inr rfl, Or.inr rfl, Or.inr rfl, Or.inr rfl, Or.inr
      rfl, Or.inr rfl, Or.inr rfl, Nat.le_refl _, trivial, fun w => w, fun w => w, fun w => w, fun w => w, fun w =>
      w, fun w => w, fun w => w, fun w => w, fun w => w, fun w => w, fun w => w, fun w => w, fun w => w⟩
  refine Keeps.foldl _ _ ?_ ?_
  · refine Keeps.foldl _ _ ?_ ?_
    · exact Keeps.refl _ _
    · intro y_ a_ h_
      refine Keeps.step ?_ State.takeEnd_keeps rfl
      with_reducible assumption
  · intro y_ a_ h_
    refine Keeps.ite ?_ ?_
    · refine Keeps.step ?_ State.dropHeld_keeps rfl
      with_reducible assumption
    · with_reducible assumption

theorem State.brstBack_keeps {s : Sys2Proof.Machine.State} : Keeps 32768 s (State.brstBack s) := by
  unfold State.brstBack
  refine Keeps.mkUpd ?_ ⟨Or.inr rfl, rfl, Or.inr rfl, Or.inr rfl, Or.inr rfl, Or.inr rfl, Or.inr rfl, Or.inr
      rfl, Or.inr rfl, Or.inr rfl, Or.inr rfl, Or.inr rfl, Or.inr rfl, Or.inr rfl, Or.inr rfl, Or.inl rfl, Or.inr
      rfl, Or.inr rfl, Or.inr rfl, Or.inr rfl, Or.inr rfl, Or.inr rfl, Or.inr rfl, Or.inr rfl, Or.inr rfl, Or.inr
      rfl, Or.inr rfl, Or.inr rfl, Or.inr rfl, Or.inr rfl, Or.inr rfl, Or.inr rfl, Or.inr rfl, Or.inr rfl, Or.inr
      rfl, Or.inr rfl, Or.inr rfl, Or.inr rfl, Or.inr rfl, Or.inr rfl, Or.inr rfl, Or.inr rfl, Or.inr rfl, Or.inr
      rfl, Or.inr rfl, Or.inr rfl, Nat.le_refl _, trivial, fun w => w, fun w => w, fun w => w, fun w => w, fun w =>
      w, fun w => w, fun w => w, fun w => w, fun w => w, fun w => w, fun w => w, fun w => w, fun w => w⟩
  exact Keeps.refl _ _

theorem State.coreRelease_keeps {s : Sys2Proof.Machine.State} {n : Nat} : Keeps 2417851639229258357833730 s
    (State.coreRelease s n) := by
  unfold State.coreRelease
  refine Keeps.step ?_ State.loadRun_keeps rfl
  refine Keeps.step ?_ State.wr_keeps (kb_k 2417851639229258349412352 rfl rfl)
  refine Keeps.step ?_ State.modCore_keeps rfl
  exact Keeps.refl _ _

theorem State.coreHold_keeps {s : Sys2Proof.Machine.State} {n : Nat} : Keeps 2531188434818129843027970 s
    (State.coreHold s n) := by
  unfold State.coreHold
  refine Keeps.ite ?_ ?_
  · exact Keeps.refl _ _
  · refine Keeps.step ?_ State.modCore_keeps rfl
    refine Keeps.step ?_ State.wr_keeps (kb_k 2417851639229258349412352 rfl rfl)
    refine Keeps.step ?_ State.wr_keeps (kb_k 2417851639229258349412352 rfl rfl)
    refine Keeps.mkUpd ?_ ⟨Or.inr rfl, rfl, Or.inr rfl, Or.inr rfl, Or.inr rfl, Or.inr rfl, Or.inr rfl, Or.inr
        rfl, Or.inr rfl, Or.inr rfl, Or.inr rfl, Or.inr rfl, Or.inr rfl, Or.inr rfl, Or.inr rfl, Or.inl rfl, Or.inr
        rfl, Or.inr rfl, Or.inr rfl, Or.inr rfl, Or.inr rfl, Or.inr rfl, Or.inr rfl, Or.inr rfl, Or.inr rfl, Or.inr
        rfl, Or.inr rfl, Or.inr rfl, Or.inr rfl, Or.inr rfl, Or.inr rfl, Or.inr rfl, Or.inr rfl, Or.inr rfl, Or.inr
        rfl, Or.inr rfl, Or.inr rfl, Or.inr rfl, Or.inr rfl, Or.inr rfl, Or.inr rfl, Or.inr rfl, Or.inr rfl, Or.inr
        rfl, Or.inr rfl, Or.inr rfl, Nat.le_refl _, trivial, fun w => w, fun w => w, fun w => w, fun w => w, fun w
        => w, fun w => w, fun w => w, fun w => w, fun w => w, fun w => w, fun w => w, fun w => w, fun w => w⟩
    refine Keeps.step ?_ State.loadRun_keeps rfl
    refine Keeps.step ?_ State.flushItems_keeps rfl
    exact Keeps.refl _ _

theorem State.bwCtlWrite_keeps {s : Sys2Proof.Machine.State} {r : Sys2Proof.Requester} {n : Nat} {word : Nat} :
    Keeps 2531188434818131990511622 s (State.bwCtlWrite s r n word) := by
  unfold State.bwCtlWrite
  refine State.writeWith_keeps ?_ (kb_k 2417851639229258349412352 rfl rfl) ?_
  · exact Keeps.refl _ _
  · intro y0_ h_
    refine Keeps.ite ?_ ?_
    · refine Keeps.step ?_ State.coreRelease_keeps rfl
      with_reducible assumption
    · refine Keeps.ite ?_ ?_
      · refine Keeps.step ?_ State.coreHold_keeps rfl
        with_reducible assumption
      · with_reducible assumption

theorem execBrewerRun_keeps {r : Sys2Proof.Requester} {n : Fin 16} {v : Sys2Proof.Word} {s :
    Sys2Proof.Machine.State} : ResKeeps tgtNext 2531188434818131990511622 s (execBrewerRun r n v s) := by
  unfold execBrewerRun
  refine ResKeeps.some rfl ?_
  refine Keeps.step ?_ State.bwCtlWrite_keeps rfl
  exact Keeps.refl _ _

theorem execBrewerHold_keeps {r : Sys2Proof.Requester} {n : Fin 16} {v : Sys2Proof.Word} {s :
    Sys2Proof.Machine.State} : ResKeeps tgtNext 2531188434818131990511622 s (execBrewerHold r n v s) := by
  unfold execBrewerHold
  refine ResKeeps.some rfl ?_
  refine Keeps.step ?_ State.bwCtlWrite_keeps rfl
  exact Keeps.refl _ _

theorem State.bwDoorWrite_keeps {s : Sys2Proof.Machine.State} {r : Sys2Proof.Requester} {n : Nat} {word : Nat} :
    Keeps 2455630571092217667092486 s (State.bwDoorWrite s r n word) := by
  unfold State.bwDoorWrite
  refine State.writeWith_keeps ?_ (kb_k 2417851639229258349412352 rfl rfl) ?_
  · exact Keeps.refl _ _
  · intro y0_ h_
    refine Keeps.step ?_ State.coreWake_keeps rfl
    refine Keeps.step ?_ State.wr_keeps (kb_k 2417851639229258349412352 rfl rfl)
    with_reducible assumption

theorem execBwDoor_keeps {r : Sys2Proof.Requester} {n : Fin 16} {v : Sys2Proof.Word} {s :
    Sys2Proof.Machine.State} : ResKeeps tgtNext 2455630571092217667092486 s (execBwDoor r n v s) := by
  unfold execBwDoor
  refine ResKeeps.some rfl ?_
  refine Keeps.step ?_ State.bwDoorWrite_keeps rfl
  exact Keeps.refl _ _

theorem State.bwDoorClrWrite_keeps {s : Sys2Proof.Machine.State} {r : Sys2Proof.Requester} {n : Nat} {word :
    Nat} : Keeps 2417851639229260496896006 s (State.bwDoorClrWrite s r n word) := by
  unfold State.bwDoorClrWrite
  refine State.writeWith_keeps ?_ (kb_k 2417851639229258349412352 rfl rfl) ?_
  · exact Keeps.refl _ _
  · intro y0_ h_
    refine Keeps.step ?_ State.wr_keeps (kb_k 2417851639229258349412352 rfl rfl)
    with_reducible assumption

theorem State.bwIeWrite_keeps {s : Sys2Proof.Machine.State} {r : Sys2Proof.Requester} {n : Nat} {word : Nat} :
    Keeps 2455630571092217667092486 s (State.bwIeWrite s r n word) := by
  unfold State.bwIeWrite
  refine State.writeWith_keeps ?_ (kb_k 2417851639229258349412352 rfl rfl) ?_
  · exact Keeps.refl _ _
  · intro y0_ h_
    refine Keeps.step ?_ State.coreWake_keeps rfl
    with_reducible assumption

theorem execMachineTimerInterrupt_keeps {n : Fin 16} {s : Sys2Proof.Machine.State} : ResKeeps tgtNext
    2455630571092215519608835 s (execMachineTimerInterrupt n s) := by
  unfold execMachineTimerInterrupt
  refine ResKeeps.some rfl ?_
  refine Keeps.ite ?_ ?_
  · refine Keeps.step ?_ State.coreWake_keeps rfl
    refine Keeps.step ?_ State.advanceTo_keeps rfl
    exact Keeps.refl _ _
  · exact Keeps.refl _ _

end Sys2Proof.Machine
end

