-- ==== Sys2Proof/Laws/FrameHostRegs.lean ====
section
/-! SUPPORT. What each function of Machine/HostRegs.lean may change: one mask of `Keeps` for each. -/

namespace Sys2Proof.Machine

open Reg

theorem State.msiFlush_keeps {s : Sys2Proof.Machine.State} : Keeps 268435456 s (State.msiFlush s) := by
  unfold State.msiFlush
  refine Keeps.foldl _ _ ?_ ?_
  · exact Keeps.refl _ _
  · intro y_ a_ h_
    refine Keeps.ite ?_ ?_
    · refine Keeps.mkUpd ?_ ⟨Or.inr rfl, rfl, Or.inr rfl, Or.inr rfl, Or.inr rfl, Or.inr rfl, Or.inr rfl, Or.inr
        rfl, Or.inr rfl, Or.inr rfl, Or.inr rfl, Or.inr rfl, Or.inr rfl, Or.inr rfl, Or.inr rfl, Or.inr rfl, Or.inr
        rfl, Or.inr rfl, Or.inr rfl, Or.inr rfl, Or.inr rfl, Or.inr rfl, Or.inr rfl, Or.inr rfl, Or.inr rfl, Or.inr
        rfl, Or.inr rfl, Or.inr rfl, Or.inl rfl, Or.inr rfl, Or.inr rfl, Or.inr rfl, Or.inr rfl, Or.inr rfl, Or.inr
        rfl, Or.inr rfl, Or.inr rfl, Or.inr rfl, Or.inr rfl, Or.inr rfl, Or.inr rfl, Or.inr rfl, Or.inr rfl, Or.inr
        rfl, Or.inr rfl, Or.inr rfl, Nat.le_refl _, trivial, fun w => w, fun w => w, fun w => w, fun w => w, fun w
        => w, fun w => w, fun w => w, fun w => w, fun w => w, fun w => w, fun w => w, fun w => w, fun w => w⟩
      with_reducible assumption
    · with_reducible assumption

theorem State.msixWrite_keeps {s : Sys2Proof.Machine.State} {r : Sys2Proof.Requester} {k : Nat} {word : Nat} :
    Keeps 604462909807314855788546 s (State.msixWrite s r k word) := by
  unfold State.msixWrite
  refine Keeps.ite ?_ ?_
  · refine Keeps.step ?_ State.werr_keeps (kb_k 604462909807314587353088 rfl rfl)
    exact Keeps.refl _ _
  · refine Keeps.step ?_ State.msiFlush_keeps rfl
    refine Keeps.mkUpd ?_ ⟨Or.inr rfl, rfl, Or.inr rfl, Or.inr rfl, Or.inr rfl, Or.inr rfl, Or.inr rfl, Or.inr
        rfl, Or.inr rfl, Or.inr rfl, Or.inr rfl, Or.inr rfl, Or.inr rfl, Or.inr rfl, Or.inr rfl, Or.inr rfl, Or.inr
        rfl, Or.inr rfl, Or.inr rfl, Or.inr rfl, Or.inr rfl, Or.inr rfl, Or.inr rfl, Or.inr rfl, Or.inr rfl, Or.inr
        rfl, Or.inr rfl, Or.inr rfl, Or.inl rfl, Or.inr rfl, Or.inr rfl, Or.inr rfl, Or.inr rfl, Or.inr rfl, Or.inr
        rfl, Or.inr rfl, Or.inr rfl, Or.inr rfl, Or.inr rfl, Or.inr rfl, Or.inr rfl, Or.inr rfl, Or.inr rfl, Or.inr
        rfl, Or.inr rfl, Or.inr rfl, Nat.le_refl _, trivial, fun w => w, fun w => w, fun w => w, fun w => w, fun w
        => w, fun w => w, fun w => w, fun w => w, fun w => w, fun w => w, fun w => w, fun w => w, fun w => w⟩
    exact Keeps.refl _ _

theorem State.ringEnd_keeps {s : Sys2Proof.Machine.State} {n : Nat} {c : Sys2Proof.Machine.Compl} : Keeps
    268435456 s (State.ringEnd s n c) := by
  unfold State.ringEnd
  refine Keeps.step ?_ State.modRing_keeps rfl
  exact Keeps.refl _ _

theorem State.startCmd_keeps {s : Sys2Proof.Machine.State} {n : Nat} {c : Option (List Sys2Proof.Byte)} {rest :
    List (Option (List Sys2Proof.Byte))} : Keeps 604462909807323445723138 s (State.startCmd s n c rest) := by
  unfold State.startCmd
  try extract_lets
  split
  · refine Keeps.ite ?_ ?_
    · refine Keeps.step ?_ State.ringEnd_keeps rfl
      refine Keeps.step ?_ State.modRing_keeps rfl
      exact Keeps.refl _ _
    · refine Keeps.step ?_ State.modRing_keeps rfl
      refine Keeps.step ?_ State.modRing_keeps rfl
      exact Keeps.refl _ _
  · refine Keeps.step ?_ State.ringEnd_keeps rfl
    refine Keeps.step ?_ State.wr_keeps (kb_k 604462909807314587353088 rfl rfl)
    refine Keeps.ofRes (tgt := tgtSnd) ?_ rfl rfl
    refine ResKeeps.step ?_ State.draw_keeps rfl
    refine Keeps.ofRes (tgt := tgtSnd) ?_ rfl rfl
    refine ResKeeps.step ?_ State.draw_keeps rfl
    refine Keeps.step ?_ State.modRing_keeps rfl
    exact Keeps.refl _ _

theorem State.ringGo_keeps {s : State} {n k : Nat} : Keeps 604462909807323445723138 s (State.ringGo s n k) := by
  induction k generalizing s with
  | zero => exact Keeps.refl _ _
  | succ k ih =>
    unfold State.ringGo
    split
    · exact Keeps.refl _ _
    · refine Keeps.ite (Keeps.refl _ _) ?_
      refine Keeps.ite (Keeps.step (Keeps.refl _ _) State.wr_keeps (kb_k 604462909807314587353088 rfl rfl)) ?_
      refine Keeps.step ?_ ih rfl
      exact Keeps.step (Keeps.refl _ _) State.startCmd_keeps rfl

theorem State.ringKick_keeps {s : Sys2Proof.Machine.State} {n : Nat} : Keeps 604462909807323445723138 s
    (State.ringKick s n) := by
  unfold State.ringKick
  refine Keeps.step ?_ State.ringGo_keeps rfl
  exact Keeps.refl _ _

theorem State.abiSelWrite_keeps {s : Sys2Proof.Machine.State} {r : Sys2Proof.Requester} {word : Nat} : Keeps
    604462909807316734836742 s (State.abiSelWrite s r word) := by
  unfold State.abiSelWrite
  refine Keeps.ite ?_ ?_
  · refine Keeps.step ?_ State.writePlain_keeps (kb_k 604462909807314587353088 rfl rfl)
    exact Keeps.refl _ _
  · refine Keeps.step ?_ State.werr_keeps (kb_k 604462909807314587353088 rfl rfl)
    exact Keeps.refl _ _

theorem execAbiSelect_keeps {r : Sys2Proof.Requester} {v : Sys2Proof.Word} {s : Sys2Proof.Machine.State} :
    ResKeeps tgtNext 604462909807316734836742 s (execAbiSelect r v s) := by
  unfold execAbiSelect
  refine ResKeeps.some rfl ?_
  refine Keeps.step ?_ State.abiSelWrite_keeps rfl
  exact Keeps.refl _ _

theorem State.crCfgWrite_keeps {s : Sys2Proof.Machine.State} {r : Sys2Proof.Requester} {n : Nat} {word : Nat} :
    Keeps 604462909807325593206790 s (State.crCfgWrite s r n word) := by
  unfold State.crCfgWrite
  refine Keeps.ite ?_ ?_
  · refine Keeps.step ?_ State.wr_keeps (kb_k 604462909807314587353088 rfl rfl)
    exact Keeps.refl _ _
  · refine State.writeWith_keeps ?_ (kb_k 604462909807314587353088 rfl rfl) ?_
    · exact Keeps.refl _ _
    · intro y0_ h_
      refine Keeps.step ?_ State.ringKick_keeps rfl
      with_reducible assumption

theorem execRingEnable_keeps {r : Sys2Proof.Requester} {n : Fin 8} {en : Bool} {s : Sys2Proof.Machine.State} :
    ResKeeps tgtNext 604462909807325593206790 s (execRingEnable r n en s) := by
  unfold execRingEnable
  refine ResKeeps.some rfl ?_
  refine Keeps.step ?_ State.crCfgWrite_keeps rfl
  exact Keeps.refl _ _

theorem State.cqConsWrite_keeps {s : Sys2Proof.Machine.State} {r : Sys2Proof.Requester} {n : Nat} {word : Nat} :
    Keeps 604462909807325593206790 s (State.cqConsWrite s r n word) := by
  unfold State.cqConsWrite
  refine State.writeWith_keeps ?_ (kb_k 604462909807314587353088 rfl rfl) ?_
  · exact Keeps.refl _ _
  · intro y0_ h_
    refine Keeps.step ?_ State.ringKick_keeps rfl
    with_reducible assumption

theorem State.bdoorWrite_keeps {s : Sys2Proof.Machine.State} {r : Sys2Proof.Requester} {word : Nat} : Keeps
    604462909807317003272198 s (State.bdoorWrite s r word) := by
  unfold State.bdoorWrite
  refine State.writeWith_keeps ?_ (kb_k 604462909807314587353088 rfl rfl) ?_
  · exact Keeps.refl _ _
  · intro y0_ h_
    try extract_lets
    split
    · refine Keeps.ite ?_ ?_
      · refine Keeps.step ?_ State.wr_keeps (kb_k 604462909807314587353088 rfl rfl)
        with_reducible assumption
      · refine Keeps.step ?_ State.raiseCause_keeps rfl
        refine Keeps.step ?_ State.wr_keeps (kb_k 604462909807314587353088 rfl rfl)
        with_reducible assumption
    · refine Keeps.step ?_ State.wr_keeps (kb_k 604462909807314587353088 rfl rfl)
      with_reducible assumption

theorem State.bdoorcWrite_keeps {s : Sys2Proof.Machine.State} {r : Sys2Proof.Requester} {word : Nat} : Keeps
    604462909807316734836742 s (State.bdoorcWrite s r word) := by
  unfold State.bdoorcWrite
  refine State.writeWith_keeps ?_ (kb_k 604462909807314587353088 rfl rfl) ?_
  · exact Keeps.refl _ _
  · intro y0_ h_
    refine Keeps.step ?_ State.wr_keeps (kb_k 604462909807314587353088 rfl rfl)
    with_reducible assumption

theorem State.hostRegWrite_keeps {s : Sys2Proof.Machine.State} {r : Sys2Proof.Requester} {off : Nat} {word :
    Nat} : Keeps 604462909807325593206790 s (State.hostRegWrite s r off word) := by
  unfold State.hostRegWrite
  refine Keeps.ite ?_ ?_
  · refine Keeps.step ?_ State.abiSelWrite_keeps rfl
    exact Keeps.refl _ _
  · refine Keeps.ite ?_ ?_
    · refine Keeps.step ?_ State.bdoorWrite_keeps rfl
      exact Keeps.refl _ _
    · refine Keeps.ite ?_ ?_
      · refine Keeps.step ?_ State.bdoorcWrite_keeps rfl
        exact Keeps.refl _ _
      · refine Keeps.ite ?_ ?_
        · refine Keeps.step ?_ State.crCfgWrite_keeps rfl
          exact Keeps.refl _ _
        · refine Keeps.ite ?_ ?_
          · refine Keeps.step ?_ State.cqConsWrite_keeps rfl
            exact Keeps.refl _ _
          · refine Keeps.ite ?_ ?_
            · refine Keeps.step ?_ State.msixWrite_keeps rfl
              exact Keeps.refl _ _
            · refine Keeps.step ?_ State.writePlain_keeps (kb_k 604462909807314587353088 rfl rfl)
              exact Keeps.refl _ _

end Sys2Proof.Machine
end

