-- ==== Sys2Proof/Laws/FramePins.lean ====
section
/-! SUPPORT. What each function of Machine/Pins.lean may change: one mask of `Keeps` for each. -/

namespace Sys2Proof.Machine

open Reg

theorem State.putOpc_keeps {s : Sys2Proof.Machine.State} {sh : Nat} {k : Nat} {v : Nat} : Keeps
    9903520314283042199192993794 s (State.putOpc s sh k v) := by
  unfold State.putOpc
  refine Keeps.step ?_ State.wr_keeps (kb_k 9903520314283042199192993792 rfl rfl)
  exact Keeps.refl _ _

theorem State.opcTrip_keeps {s : Sys2Proof.Machine.State} {c : Nat} : Keeps 9903520314283042199192993826 s
    (State.opcTrip s c) := by
  unfold State.opcTrip
  try extract_lets
  split
  · exact Keeps.refl _ _
  · refine Keeps.mkUpd ?_ ⟨Or.inr rfl, rfl, Or.inr rfl, Or.inr rfl, Or.inr rfl, Or.inl rfl, Or.inr rfl, Or.inr
      rfl, Or.inr rfl, Or.inr rfl, Or.inr rfl, Or.inr rfl, Or.inr rfl, Or.inr rfl, Or.inr rfl, Or.inr rfl, Or.inr
      rfl, Or.inr rfl, Or.inr rfl, Or.inr rfl, Or.inr rfl, Or.inr rfl, Or.inr rfl, Or.inr rfl, Or.inr rfl, Or.inr
      rfl, Or.inr rfl, Or.inr rfl, Or.inr rfl, Or.inr rfl, Or.inr rfl, Or.inr rfl, Or.inr rfl, Or.inr rfl, Or.inr
      rfl, Or.inr rfl, Or.inr rfl, Or.inr rfl, Or.inr rfl, Or.inr rfl, Or.inr rfl, Or.inr rfl, Or.inr rfl, Or.inr
      rfl, Or.inr rfl, Or.inr rfl, Nat.le_refl _, trivial, fun w => w, fun w => w, fun w => w, fun w => w, fun w =>
      w, fun w => w, fun w => w, fun w => w, fun w => w, fun w => w, fun w => w, fun w => w, fun w => w⟩
    refine Keeps.foldl _ _ ?_ ?_
    · refine Keeps.step ?_ State.putOpc_keeps rfl
      exact Keeps.refl _ _
    · intro y_ a_ h_
      refine Keeps.step ?_ State.putOpc_keeps rfl
      with_reducible assumption

theorem State.tripSafe_keeps {s : Sys2Proof.Machine.State} {c : Nat} {bit : Nat} : Keeps
    16480965979837954012073417622 s (State.tripSafe s c bit) := by
  unfold State.tripSafe
  split
  · refine Keeps.step ?_ State.safeEnter_keeps rfl
    exact Keeps.refl _ _
  · refine Keeps.mkUpd ?_ ⟨Or.inr rfl, rfl, Or.inr rfl, Or.inr rfl, Or.inr rfl, Or.inr rfl, Or.inr rfl, Or.inr
      rfl, Or.inr rfl, Or.inr rfl, Or.inr rfl, Or.inr rfl, Or.inr rfl, Or.inr rfl, Or.inr rfl, Or.inr rfl, Or.inr
      rfl, Or.inr rfl, Or.inr rfl, Or.inr rfl, Or.inr rfl, Or.inr rfl, Or.inr rfl, Or.inr rfl, Or.inr rfl, Or.inr
      rfl, Or.inr rfl, Or.inr rfl, Or.inr rfl, Or.inr rfl, Or.inr rfl, Or.inr rfl, Or.inl rfl, Or.inr rfl, Or.inr
      rfl, Or.inr rfl, Or.inr rfl, Or.inr rfl, Or.inr rfl, Or.inr rfl, Or.inr rfl, Or.inr rfl, Or.inr rfl, Or.inr
      rfl, Or.inr rfl, Or.inr rfl, Nat.le_refl _, trivial, fun w => w, fun w => w, fun w => w, fun w => w, fun w =>
      w, fun w => w, fun w => w, fun w => w, fun w => w, fun w => w, fun w => w, fun w => w, fun w => w⟩
    exact Keeps.refl _ _

theorem State.ocTrip_keeps {s : Sys2Proof.Machine.State} {c : Nat} : Keeps 16480965979837954012073417654 s
    (State.ocTrip s c) := by
  unfold State.ocTrip
  refine Keeps.ite ?_ ?_
  · exact Keeps.refl _ _
  · refine Keeps.step ?_ State.sheafPair_keeps rfl
    refine Keeps.step ?_ State.modCh_keeps rfl
    refine Keeps.step ?_ State.wr_keeps (kb_k 9903520314283042199192993792 rfl rfl)
    refine Keeps.step ?_ State.tripSafe_keeps rfl
    refine Keeps.step ?_ State.opcTrip_keeps rfl
    exact Keeps.refl _ _

theorem execOvercurrentTrip_keeps {ch : Fin 320} {s : Sys2Proof.Machine.State} : ResKeeps tgtNext
    16480965979837954012073417654 s (execOvercurrentTrip ch s) := by
  unfold execOvercurrentTrip
  refine ResKeeps.some rfl ?_
  refine Keeps.step ?_ State.ocTrip_keeps rfl
  exact Keeps.refl _ _

theorem execOcConditionClear_keeps {ch : Fin 320} {s : Sys2Proof.Machine.State} : ResKeeps tgtNext 2147483664 s
    (execOcConditionClear ch s) := by
  unfold execOcConditionClear
  refine ResKeeps.some rfl ?_
  refine Keeps.step ?_ State.sheafPair_keeps rfl
  refine Keeps.step ?_ State.modCh_keeps rfl
  exact Keeps.refl _ _

theorem State.oorTrip_keeps {s : Sys2Proof.Machine.State} {c : Nat} : Keeps 16480965979837954012073417622 s
    (State.oorTrip s c) := by
  unfold State.oorTrip
  refine Keeps.ite ?_ ?_
  · exact Keeps.refl _ _
  · refine Keeps.step ?_ State.sheafPair_keeps rfl
    refine Keeps.step ?_ State.modCh_keeps rfl
    refine Keeps.step ?_ State.wr_keeps (kb_k 9903520314283042199192993792 rfl rfl)
    refine Keeps.ite ?_ ?_
    · refine Keeps.step ?_ State.tripSafe_keeps rfl
      exact Keeps.refl _ _
    · exact Keeps.refl _ _

theorem execOutOfRangeTrip_keeps {ch : Fin 320} {s : Sys2Proof.Machine.State} : ResKeeps tgtNext
    16480965979837954012073417622 s (execOutOfRangeTrip ch s) := by
  unfold execOutOfRangeTrip
  refine ResKeeps.some rfl ?_
  refine Keeps.step ?_ State.oorTrip_keeps rfl
  exact Keeps.refl _ _

theorem execOorConditionClear_keeps {ch : Fin 320} {s : Sys2Proof.Machine.State} : ResKeeps tgtNext 2147483664 s
    (execOorConditionClear ch s) := by
  unfold execOorConditionClear
  refine ResKeeps.some rfl ?_
  refine Keeps.step ?_ State.sheafPair_keeps rfl
  refine Keeps.step ?_ State.modCh_keeps rfl
  exact Keeps.refl _ _

theorem State.abusGrant_keeps {s : Sys2Proof.Machine.State} {c : Nat} {want : Bool} : Keeps
    9903520314283042199192993794 s (State.abusGrant s c want) := by
  unfold State.abusGrant
  refine Keeps.ite ?_ ?_
  · refine Keeps.ite ?_ ?_
    · refine Keeps.step ?_ State.wr_keeps (kb_k 9903520314283042199192993792 rfl rfl)
      exact Keeps.refl _ _
    · exact Keeps.refl _ _
  · refine Keeps.foldl _ _ ?_ ?_
    · exact Keeps.refl _ _
    · intro y_ a_ h_
      refine Keeps.step ?_ State.wr_keeps (kb_k 9903520314283042199192993792 rfl rfl)
      with_reducible assumption

theorem State.forceFollow_keeps {s : Sys2Proof.Machine.State} {c : Nat} {old : Nat} : Keeps
    9903520314283042199192993794 s (State.forceFollow s c old) := by
  unfold State.forceFollow
  refine Keeps.ite ?_ ?_
  · exact Keeps.refl _ _
  · refine Keeps.step ?_ State.wr_keeps (kb_k 9903520314283042199192993792 rfl rfl)
    exact Keeps.refl _ _

theorem State.pmuCtlWrite_keeps {s : Sys2Proof.Machine.State} {r : Sys2Proof.Requester} {c : Nat} {word : Nat} :
    Keeps 9903520314283042201340477446 s (State.pmuCtlWrite s r c word) := by
  unfold State.pmuCtlWrite
  refine State.writeWith_keeps ?_ (kb_k 9903520314283042199192993792 rfl rfl) ?_
  · exact Keeps.refl _ _
  · intro y0_ h_
    refine Keeps.step ?_ State.abusGrant_keeps rfl
    refine Keeps.step ?_ State.forceFollow_keeps rfl
    with_reducible assumption

theorem execPmuCtlWrite_keeps {r : Sys2Proof.Requester} {ch : Fin 320} {v : Sys2Proof.Word} {s :
    Sys2Proof.Machine.State} : ResKeeps tgtNext 9903520314283042201340477446 s (execPmuCtlWrite r ch v s) := by
  unfold execPmuCtlWrite
  refine ResKeeps.some rfl ?_
  refine Keeps.step ?_ State.pmuCtlWrite_keeps rfl
  exact Keeps.refl _ _

theorem State.pmuClampWrite_keeps {s : Sys2Proof.Machine.State} {r : Sys2Proof.Requester} {c : Nat} {word : Nat}
    : Keeps 9903520314283042201340477446 s (State.pmuClampWrite s r c word) := by
  unfold State.pmuClampWrite
  refine Keeps.step ?_ State.writePlain_keeps (kb_k 9903520314283042199192993792 rfl rfl)
  exact Keeps.refl _ _

theorem execPmuClampWrite_keeps {r : Sys2Proof.Requester} {ch : Fin 320} {v : Sys2Proof.Word} {s :
    Sys2Proof.Machine.State} : ResKeeps tgtNext 9903520314283042201340477446 s (execPmuClampWrite r ch v s) := by
  unfold execPmuClampWrite
  refine ResKeeps.some rfl ?_
  refine Keeps.step ?_ State.pmuClampWrite_keeps rfl
  exact Keeps.refl _ _

theorem State.opcStart_keeps {s : Sys2Proof.Machine.State} {k : Nat} : Keeps 9903520314283042199192993826 s
    (State.opcStart s k) := by
  unfold State.opcStart
  refine Keeps.ite ?_ ?_
  · refine Keeps.step ?_ State.wr_keeps (kb_k 9903520314283042199192993792 rfl rfl)
    exact Keeps.refl _ _
  · refine Keeps.mkUpd ?_ ⟨Or.inr rfl, rfl, Or.inr rfl, Or.inr rfl, Or.inr rfl, Or.inl rfl, Or.inr rfl, Or.inr
      rfl, Or.inr rfl, Or.inr rfl, Or.inr rfl, Or.inr rfl, Or.inr rfl, Or.inr rfl, Or.inr rfl, Or.inr rfl, Or.inr
      rfl, Or.inr rfl, Or.inr rfl, Or.inr rfl, Or.inr rfl, Or.inr rfl, Or.inr rfl, Or.inr rfl, Or.inr rfl, Or.inr
      rfl, Or.inr rfl, Or.inr rfl, Or.inr rfl, Or.inr rfl, Or.inr rfl, Or.inr rfl, Or.inr rfl, Or.inr rfl, Or.inr
      rfl, Or.inr rfl, Or.inr rfl, Or.inr rfl, Or.inr rfl, Or.inr rfl, Or.inr rfl, Or.inr rfl, Or.inr rfl, Or.inr
      rfl, Or.inr rfl, Or.inr rfl, Nat.le_refl _, trivial, fun w => w, fun w => w, fun w => w, fun w => w, fun w =>
      w, fun w => w, fun w => w, fun w => w, fun w => w, fun w => w, fun w => w, fun w => w, fun w => w⟩
    refine Keeps.step ?_ State.wr_keeps (kb_k 9903520314283042199192993792 rfl rfl)
    exact Keeps.refl _ _

theorem State.opcCtlWrite_keeps {s : Sys2Proof.Machine.State} {r : Sys2Proof.Requester} {k : Nat} {word : Nat} :
    Keeps 9903520314283042201340477478 s (State.opcCtlWrite s r k word) := by
  unfold State.opcCtlWrite
  refine State.writeWith_keeps ?_ (kb_k 9903520314283042199192993792 rfl rfl) ?_
  · exact Keeps.refl _ _
  · intro y0_ h_
    refine Keeps.ite ?_ ?_
    · refine Keeps.step ?_ State.opcStart_keeps rfl
      with_reducible assumption
    · with_reducible assumption

theorem execOpenPinCheckStart_keeps {r : Sys2Proof.Requester} {sh : Fin 40} {v : Sys2Proof.Word} {s :
    Sys2Proof.Machine.State} : ResKeeps tgtNext 9903520314283042201340477478 s (execOpenPinCheckStart r sh v s) :=
    by
  unfold execOpenPinCheckStart
  refine ResKeeps.some rfl ?_
  refine Keeps.step ?_ State.opcCtlWrite_keeps rfl
  exact Keeps.refl _ _

theorem execOpcSettleElapsed_keeps {sh : Fin 40} {s : Sys2Proof.Machine.State} : ResKeeps tgtNext 33 s
    (execOpcSettleElapsed sh s) := by
  unfold execOpcSettleElapsed
  split
  · refine ResKeeps.ite ?_ ?_
    · refine ResKeeps.some rfl ?_
      exact Keeps.refl _ _
    · refine ResKeeps.some rfl ?_
      refine Keeps.mkUpd ?_ ⟨Or.inr rfl, rfl, Or.inr rfl, Or.inr rfl, Or.inr rfl, Or.inl rfl, Or.inr rfl, Or.inr
          rfl, Or.inr rfl, Or.inr rfl, Or.inr rfl, Or.inr rfl, Or.inr rfl, Or.inr rfl, Or.inr rfl, Or.inr rfl,
          Or.inr rfl, Or.inr rfl, Or.inr rfl, Or.inr rfl, Or.inr rfl, Or.inr rfl, Or.inr rfl, Or.inr rfl, Or.inr
          rfl, Or.inr rfl, Or.inr rfl, Or.inr rfl, Or.inr rfl, Or.inr rfl, Or.inr rfl, Or.inr rfl, Or.inr rfl,
          Or.inr rfl, Or.inr rfl, Or.inr rfl, Or.inr rfl, Or.inr rfl, Or.inr rfl, Or.inr rfl, Or.inr rfl, Or.inr
          rfl, Or.inr rfl, Or.inr rfl, Or.inr rfl, Or.inr rfl, Nat.le_refl _, trivial, fun w => w, fun w => w, fun w
          => w, fun w => w, fun w => w, fun w => w, fun w => w, fun w => w, fun w => w, fun w => w, fun w => w, fun
          w => w, fun w => w⟩
      refine Keeps.step ?_ State.advanceTo_keeps rfl
      exact Keeps.refl _ _
  · refine ResKeeps.some rfl ?_
    exact Keeps.refl _ _

theorem State.opcEnd_keeps {s : Sys2Proof.Machine.State} {k : Nat} {o : Sys2Proof.Machine.Opc} {samples : List
    (BitVec 8 × BitVec 8)} : Keeps 9903520314283042199192993827 s (State.opcEnd s k o samples) := by
  unfold State.opcEnd
  refine Keeps.ite ?_ ?_
  · refine Keeps.mkUpd ?_ ⟨Or.inr rfl, rfl, Or.inr rfl, Or.inr rfl, Or.inr rfl, Or.inl rfl, Or.inr rfl, Or.inr
      rfl, Or.inr rfl, Or.inr rfl, Or.inr rfl, Or.inr rfl, Or.inr rfl, Or.inr rfl, Or.inr rfl, Or.inr rfl, Or.inr
      rfl, Or.inr rfl, Or.inr rfl, Or.inr rfl, Or.inr rfl, Or.inr rfl, Or.inr rfl, Or.inr rfl, Or.inr rfl, Or.inr
      rfl, Or.inr rfl, Or.inr rfl, Or.inr rfl, Or.inr rfl, Or.inr rfl, Or.inr rfl, Or.inr rfl, Or.inr rfl, Or.inr
      rfl, Or.inr rfl, Or.inr rfl, Or.inr rfl, Or.inr rfl, Or.inr rfl, Or.inr rfl, Or.inr rfl, Or.inr rfl, Or.inr
      rfl, Or.inr rfl, Or.inr rfl, Nat.le_refl _, trivial, fun w => w, fun w => w, fun w => w, fun w => w, fun w =>
      w, fun w => w, fun w => w, fun w => w, fun w => w, fun w => w, fun w => w, fun w => w, fun w => w⟩
    refine Keeps.foldl _ _ ?_ ?_
    · refine Keeps.step ?_ State.advanceTo_keeps rfl
      exact Keeps.refl _ _
    · intro y_ a_ h_
      refine Keeps.ite ?_ ?_
      · refine Keeps.step ?_ State.putOpc_keeps rfl
        with_reducible assumption
      · with_reducible assumption
  · refine Keeps.mkUpd ?_ ⟨Or.inr rfl, rfl, Or.inr rfl, Or.inr rfl, Or.inr rfl, Or.inl rfl, Or.inr rfl, Or.inr
      rfl, Or.inr rfl, Or.inr rfl, Or.inr rfl, Or.inr rfl, Or.inr rfl, Or.inr rfl, Or.inr rfl, Or.inr rfl, Or.inr
      rfl, Or.inr rfl, Or.inr rfl, Or.inr rfl, Or.inr rfl, Or.inr rfl, Or.inr rfl, Or.inr rfl, Or.inr rfl, Or.inr
      rfl, Or.inr rfl, Or.inr rfl, Or.inr rfl, Or.inr rfl, Or.inr rfl, Or.inr rfl, Or.inr rfl, Or.inr rfl, Or.inr
      rfl, Or.inr rfl, Or.inr rfl, Or.inr rfl, Or.inr rfl, Or.inr rfl, Or.inr rfl, Or.inr rfl, Or.inr rfl, Or.inr
      rfl, Or.inr rfl, Or.inr rfl, Nat.le_refl _, trivial, fun w => w, fun w => w, fun w => w, fun w => w, fun w =>
      w, fun w => w, fun w => w, fun w => w, fun w => w, fun w => w, fun w => w, fun w => w, fun w => w⟩
    refine Keeps.step ?_ State.wr_keeps (kb_k 9903520314283042199192993792 rfl rfl)
    refine Keeps.foldl _ _ ?_ ?_
    · refine Keeps.foldl _ _ ?_ ?_
      · refine Keeps.step ?_ State.advanceTo_keeps rfl
        exact Keeps.refl _ _
      · intro y_ a_ h_
        refine Keeps.ite ?_ ?_
        · refine Keeps.step ?_ State.putOpc_keeps rfl
          with_reducible assumption
        · with_reducible assumption
    · intro y_ a_ h_
      refine Keeps.step ?_ State.putOpc_keeps rfl
      with_reducible assumption

theorem execOpcSamplingEnd_keeps {sh : Fin 40} {samples : List (BitVec 8 × BitVec 8)} {s :
    Sys2Proof.Machine.State} : ResKeeps tgtNext 9903520314283042199192993827 s (execOpcSamplingEnd sh samples s) :=
    by
  unfold execOpcSamplingEnd
  split
  · refine ResKeeps.ite ?_ ?_
    · refine ResKeeps.some rfl ?_
      refine Keeps.step ?_ State.opcEnd_keeps rfl
      exact Keeps.refl _ _
    · refine ResKeeps.some rfl ?_
      exact Keeps.refl _ _
  · refine ResKeeps.some rfl ?_
    exact Keeps.refl _ _

theorem State.shSiteWrite_keeps {s : Sys2Proof.Machine.State} {r : Sys2Proof.Requester} {k : Nat} {word : Nat} :
    Keeps 9903520314283042201340477446 s (State.shSiteWrite s r k word) := by
  unfold State.shSiteWrite
  refine Keeps.ite ?_ ?_
  · refine Keeps.step ?_ State.werr_keeps (kb_k 9903520314283042199192993792 rfl rfl)
    exact Keeps.refl _ _
  · refine Keeps.step ?_ State.writePlain_keeps (kb_k 9903520314283042199192993792 rfl rfl)
    exact Keeps.refl _ _

theorem execShSiteWrite_keeps {r : Sys2Proof.Requester} {sh : Fin 40} {v : Sys2Proof.Word} {s :
    Sys2Proof.Machine.State} : ResKeeps tgtNext 9903520314283042201340477446 s (execShSiteWrite r sh v s) := by
  unfold execShSiteWrite
  refine ResKeeps.some rfl ?_
  refine Keeps.step ?_ State.shSiteWrite_keeps rfl
  exact Keeps.refl _ _

end Sys2Proof.Machine
end

