-- ==== Sys2Proof/Laws/FrameEthernet.lean ====
section
/-! SUPPORT. What each function of Machine/Ethernet.lean may change: one mask of `Keeps` for each. -/

namespace Sys2Proof.Machine

open Reg

theorem State.modEth_keeps {s : Sys2Proof.Machine.State} {p : Nat} {f : Sys2Proof.Machine.EthOp →
    Sys2Proof.Machine.EthOp} : Keeps 536870912 s (State.modEth s p f) := by
  unfold State.modEth
  refine Keeps.mkUpd ?_ ⟨Or.inr rfl, rfl, Or.inr rfl, Or.inr rfl, Or.inr rfl, Or.inr rfl, Or.inr rfl, Or.inr
      rfl, Or.inr rfl, Or.inr rfl, Or.inr rfl, Or.inr rfl, Or.inr rfl, Or.inr rfl, Or.inr rfl, Or.inr rfl, Or.inr
      rfl, Or.inr rfl, Or.inr rfl, Or.inr rfl, Or.inr rfl, Or.inr rfl, Or.inr rfl, Or.inr rfl, Or.inr rfl, Or.inr
      rfl, Or.inr rfl, Or.inr rfl, Or.inr rfl, Or.inl rfl, Or.inr rfl, Or.inr rfl, Or.inr rfl, Or.inr rfl, Or.inr
      rfl, Or.inr rfl, Or.inr rfl, Or.inr rfl, Or.inr rfl, Or.inr rfl, Or.inr rfl, Or.inr rfl, Or.inr rfl, Or.inr
      rfl, Or.inr rfl, Or.inr rfl, Nat.le_refl _, trivial, fun w => w, fun w => w, fun w => w, fun w => w, fun w =>
      w, fun w => w, fun w => w, fun w => w, fun w => w, fun w => w, fun w => w, fun w => w, fun w => w⟩
  exact Keeps.refl _ _

theorem State.ethPut_keeps {s : Sys2Proof.Machine.State} {p : Nat} {a : Nat} {bs : List Sys2Proof.Byte} : Keeps
    74766799077376 s (State.ethPut s p a bs) := by
  unfold State.ethPut
  refine Keeps.ite ?_ ?_
  · split
    · refine Keeps.step ?_ State.bwPut_keeps rfl
      exact Keeps.refl _ _
    · exact Keeps.refl _ _
  · refine Keeps.step ?_ State.hostWrite_keeps rfl
    exact Keeps.refl _ _

theorem State.ethDrop_keeps {s : Sys2Proof.Machine.State} {p : Nat} : Keeps 56668397794435742629890 s
    (State.ethDrop s p) := by
  unfold State.ethDrop
  refine Keeps.step ?_ State.count_keeps rfl
  refine Keeps.step ?_ State.satAdd_keeps (kb_k 18889465931478580854784 rfl rfl)
  exact Keeps.refl _ _

theorem State.frameIn_keeps {s : Sys2Proof.Machine.State} {p : Nat} {t : Nat} {f : List Sys2Proof.Byte} {good :
    Bool} : Keeps 661131307676517397495811 s (State.frameIn s p t f good) := by
  unfold State.frameIn
  try extract_lets
  split
  · refine Keeps.step ?_ State.ethDrop_keeps rfl
    refine Keeps.step ?_ State.count_keeps rfl
    refine Keeps.step ?_ State.advanceTo_keeps rfl
    exact Keeps.refl _ _
  · refine Keeps.ite ?_ ?_
    · refine Keeps.step ?_ State.ethDrop_keeps rfl
      refine Keeps.step ?_ State.count_keeps rfl
      refine Keeps.step ?_ State.advanceTo_keeps rfl
      exact Keeps.refl _ _
    · refine Keeps.step ?_ State.raiseCause_keeps rfl
      refine Keeps.step ?_ State.wr_keeps (kb_k 18889465931478580854784 rfl rfl)
      refine Keeps.step ?_ State.count_keeps rfl
      refine Keeps.step ?_ State.ethPut_keeps rfl
      refine Keeps.step ?_ State.count_keeps rfl
      refine Keeps.step ?_ State.advanceTo_keeps rfl
      exact Keeps.refl _ _

theorem execFrameReceive_keeps {p : Fin 2} {t : Nat} {frame : List Sys2Proof.Byte} {good : Bool} {s :
    Sys2Proof.Machine.State} : ResKeeps tgtNext 661131307676517397495811 s (execFrameReceive p t frame good s) := by
  unfold execFrameReceive
  refine ResKeeps.some rfl ?_
  refine Keeps.ite ?_ ?_
  · refine Keeps.step ?_ State.frameIn_keeps rfl
    exact Keeps.refl _ _
  · exact Keeps.refl _ _

theorem State.frameOut_keeps {s : Sys2Proof.Machine.State} {p : Nat} {t : Nat} {host : List Sys2Proof.Byte} :
    Keeps 661131307676517934366723 s (State.frameOut s p t host) := by
  unfold State.frameOut
  refine Keeps.step ?_ State.raiseCause_keeps rfl
  refine Keeps.step ?_ State.wr_keeps (kb_k 18889465931478580854784 rfl rfl)
  refine Keeps.step ?_ State.count_keeps rfl
  refine Keeps.step ?_ State.modEth_keeps rfl
  split
  · refine Keeps.step ?_ State.count_keeps rfl
    refine Keeps.step ?_ State.ethPut_keeps rfl
    refine Keeps.step ?_ State.ethPut_keeps rfl
    refine Keeps.step ?_ State.advanceTo_keeps rfl
    exact Keeps.refl _ _
  · refine Keeps.step ?_ State.ethPut_keeps rfl
    refine Keeps.step ?_ State.advanceTo_keeps rfl
    exact Keeps.refl _ _

theorem execFrameTransmit_keeps {p : Fin 2} {t : Nat} {slot : List Sys2Proof.Byte} {s : Sys2Proof.Machine.State}
    : ResKeeps tgtNext 661131307676517934366723 s (execFrameTransmit p t slot s) := by
  unfold execFrameTransmit
  refine ResKeeps.some rfl ?_
  refine Keeps.ite ?_ ?_
  · refine Keeps.step ?_ State.frameOut_keeps rfl
    exact Keeps.refl _ _
  · exact Keeps.refl _ _

theorem State.linkChange_keeps {s : Sys2Proof.Machine.State} {p : Nat} {up : Bool} : Keeps
    18889465931478580854786 s (State.linkChange s p up) := by
  unfold State.linkChange
  refine Keeps.ite ?_ ?_
  · exact Keeps.refl _ _
  · refine Keeps.step ?_ State.wr_keeps (kb_k 18889465931478580854784 rfl rfl)
    refine Keeps.step ?_ State.wr_keeps (kb_k 18889465931478580854784 rfl rfl)
    exact Keeps.refl _ _

theorem execEthLinkChange_keeps {p : Fin 2} {up : Bool} {s : Sys2Proof.Machine.State} : ResKeeps tgtNext
    18889465931478580854786 s (execEthLinkChange p up s) := by
  unfold execEthLinkChange
  refine ResKeeps.some rfl ?_
  refine Keeps.ite ?_ ?_
  · refine Keeps.step ?_ State.linkChange_keeps rfl
    exact Keeps.refl _ _
  · exact Keeps.refl _ _

theorem State.ethCfgWrite_keeps {s : Sys2Proof.Machine.State} {r : Sys2Proof.Requester} {p : Nat} {word : Nat} :
    Keeps 18889465931480728338438 s (State.ethCfgWrite s r p word) := by
  unfold State.ethCfgWrite
  refine State.writeWith_keeps ?_ (kb_k 18889465931478580854784 rfl rfl) ?_
  · exact Keeps.refl _ _
  · intro y0_ h_
    refine Keeps.ite ?_ ?_
    · with_reducible assumption
    · refine Keeps.step ?_ State.linkChange_keeps rfl
      with_reducible assumption

theorem State.expCtlWrite_keeps {s : Sys2Proof.Machine.State} {r : Sys2Proof.Requester} {p : Nat} {word : Nat} :
    Keeps 18889465931481265209350 s (State.expCtlWrite s r p word) := by
  unfold State.expCtlWrite
  refine State.writeWith_keeps ?_ (kb_k 18889465931478580854784 rfl rfl) ?_
  · exact Keeps.refl _ _
  · intro y0_ h_
    refine Keeps.ite ?_ ?_
    · refine Keeps.step ?_ State.modEth_keeps rfl
      with_reducible assumption
    · with_reducible assumption

theorem State.datagram_keeps {s : Sys2Proof.Machine.State} {p : Nat} : Keeps 56668397794444869435394 s
    (State.datagram s p) := by
  unfold State.datagram
  refine Keeps.step ?_ State.count_keeps rfl
  refine Keeps.step ?_ State.count_keeps rfl
  refine Keeps.step ?_ State.count_keeps rfl
  refine Keeps.step ?_ State.wr_keeps (kb_k 18889465931478580854784 rfl rfl)
  refine Keeps.step ?_ State.modEth_keeps rfl
  refine Keeps.ofRes (tgt := tgtSnd) ?_ rfl rfl
  refine ResKeeps.step ?_ State.draw_keeps rfl
  exact Keeps.refl _ _

theorem execDatagramSend_keeps {p : Fin 2} {s : Sys2Proof.Machine.State} : ResKeeps tgtNext
    56668397794444869435395 s (execDatagramSend p s) := by
  unfold execDatagramSend
  refine ResKeeps.some rfl ?_
  refine Keeps.ite ?_ ?_
  · exact Keeps.refl _ _
  · refine Keeps.ite ?_ ?_
    · refine Keeps.step ?_ State.datagram_keeps rfl
      exact Keeps.refl _ _
    · refine Keeps.step ?_ State.datagram_keeps rfl
      refine Keeps.step ?_ State.advanceTo_keeps rfl
      exact Keeps.refl _ _

end Sys2Proof.Machine
end

