-- ==== Sys2Proof/Laws/FrameHopper.lean ====
section
/-! SUPPORT. What each function of Machine/Hopper.lean may change: one mask of `Keeps` for each. -/

namespace Sys2Proof.Machine

open Reg

theorem State.hopFetch_keeps {s : Sys2Proof.Machine.State} {n : Nat} : Keeps 512 s (State.hopFetch s n) := by
  unfold State.hopFetch
  refine Keeps.ite ?_ ?_
  · exact Keeps.refl _ _
  · refine Keeps.ite ?_ ?_
    · refine Keeps.ite ?_ ?_
      · exact Keeps.refl _ _
      · refine Keeps.step ?_ State.modHop_keeps rfl
        exact Keeps.refl _ _
    · refine Keeps.ite ?_ ?_
      · exact Keeps.refl _ _
      · refine Keeps.step ?_ State.modHop_keeps rfl
        exact Keeps.refl _ _

theorem execHopperFetch_keeps {n : Fin 32} {s : Sys2Proof.Machine.State} : ResKeeps tgtNext 512 s
    (execHopperFetch n s) := by
  unfold execHopperFetch
  refine ResKeeps.some rfl ?_
  refine Keeps.step ?_ State.hopFetch_keeps rfl
  exact Keeps.refl _ _

theorem State.hopCount_keeps {s : Sys2Proof.Machine.State} {n : Nat} {r : Sys2Proof.Machine.HopReq} {k : Nat} : Keeps
    9709185488788797389865474 s (State.hopCount s n r k) := by
  unfold State.hopCount
  refine Keeps.ite ?_ ?_
  · exact Keeps.refl _ _
  · refine Keeps.step ?_ State.count_keeps rfl
    exact Keeps.refl _ _

theorem State.hopTake_keeps {s : Sys2Proof.Machine.State} {n : Nat} {r : Sys2Proof.Machine.HopReq} {rest :
    List Sys2Proof.Machine.HopReq} : Keeps 9709185488788797389865474 s (State.hopTake s n r rest) := by
  unfold State.hopTake
  refine Keeps.step ?_ State.hopCount_keeps rfl
  refine Keeps.step ?_ State.modHop_keeps rfl
  exact Keeps.refl _ _

theorem State.hopArrive_keeps {s : Sys2Proof.Machine.State} {n : Nat} {r : Sys2Proof.Machine.HopReq} {rest :
    List Sys2Proof.Machine.HopReq} {data : List Sys2Proof.Byte} {ecc : Sys2Proof.DdrEcc} : Keeps
    9709185488788797389865474 s (State.hopArrive s n r rest data ecc) := by
  unfold State.hopArrive
  refine Keeps.ite ?_ ?_
  · refine Keeps.step ?_ State.hopCount_keeps rfl
    refine Keeps.ofRes (tgt := tgtSnd) ?_ rfl rfl
    refine ResKeeps.ite ?_ ?_
    · refine ResKeeps.ite ?_ ?_
      · refine ResKeeps.some rfl ?_
        refine Keeps.step ?_ State.hopTake_keeps rfl
        exact Keeps.refl _ _
      · refine ResKeeps.some rfl ?_
        refine Keeps.step ?_ State.hopTake_keeps rfl
        exact Keeps.refl _ _
    · refine ResKeeps.step ?_ State.ddrRead_keeps rfl
      refine Keeps.step ?_ State.hopTake_keeps rfl
      exact Keeps.refl _ _
  · refine Keeps.ite ?_ ?_
    · refine Keeps.step ?_ State.modHop_keeps rfl
      refine Keeps.ofRes (tgt := tgtSnd) ?_ rfl rfl
      refine ResKeeps.ite ?_ ?_
      · refine ResKeeps.ite ?_ ?_
        · refine ResKeeps.some rfl ?_
          refine Keeps.step ?_ State.hopTake_keeps rfl
          exact Keeps.refl _ _
        · refine ResKeeps.some rfl ?_
          refine Keeps.step ?_ State.hopTake_keeps rfl
          exact Keeps.refl _ _
      · refine ResKeeps.step ?_ State.ddrRead_keeps rfl
        refine Keeps.step ?_ State.hopTake_keeps rfl
        exact Keeps.refl _ _
    · refine Keeps.step ?_ State.modHop_keeps rfl
      refine Keeps.ofRes (tgt := tgtSnd) ?_ rfl rfl
      refine ResKeeps.ite ?_ ?_
      · refine ResKeeps.ite ?_ ?_
        · refine ResKeeps.some rfl ?_
          refine Keeps.step ?_ State.hopTake_keeps rfl
          exact Keeps.refl _ _
        · refine ResKeeps.some rfl ?_
          refine Keeps.step ?_ State.hopTake_keeps rfl
          exact Keeps.refl _ _
      · refine ResKeeps.step ?_ State.ddrRead_keeps rfl
        refine Keeps.step ?_ State.hopTake_keeps rfl
        exact Keeps.refl _ _

theorem execHopperDataArrival_keeps {n : Fin 32} {data : List Sys2Proof.Byte} {ecc : Sys2Proof.DdrEcc} {s :
    Sys2Proof.Machine.State} : ResKeeps tgtNext 9709185488788797389865474 s (execHopperDataArrival n data ecc s) :=
    by
  unfold execHopperDataArrival
  split
  · refine ResKeeps.some rfl ?_
    refine Keeps.step ?_ State.hopArrive_keeps rfl
    exact Keeps.refl _ _
  · refine ResKeeps.some rfl ?_
    exact Keeps.refl _ _

theorem State.hprodWrite_keeps {s : Sys2Proof.Machine.State} {r : Sys2Proof.Requester} {n : Nat} {word : Nat} :
    Keeps 1237940039285380277046607878 s (State.hprodWrite s r n word) := by
  unfold State.hprodWrite
  refine Keeps.step ?_ State.writePlain_keeps (kb_k 1237940039285380274899124224 rfl rfl)
  exact Keeps.refl _ _

theorem execHostProducerWrite_keeps {r : Sys2Proof.Requester} {n : Fin 32} {v : Sys2Proof.Word} {s :
    Sys2Proof.Machine.State} : ResKeeps tgtNext 1237940039285380277046607878 s (execHostProducerWrite r n v s) := by
  unfold execHostProducerWrite
  refine ResKeeps.some rfl ?_
  refine Keeps.step ?_ State.hprodWrite_keeps rfl
  exact Keeps.refl _ _

theorem State.hopFail_keeps {s : Sys2Proof.Machine.State} {n : Nat} {reason : Nat} {lane : Nat} {idx : Nat} :
    Keeps 16480737978081202955568241414 s (State.hopFail s n reason lane idx) := by
  unfold State.hopFail
  try extract_lets
  split
  · refine Keeps.ite ?_ ?_
    · refine Keeps.step ?_ State.endArm_keeps rfl
      refine Keeps.step ?_ State.wr_keeps (kb_k 1237940039285380274899124224 rfl rfl)
      refine Keeps.step ?_ State.count_keeps rfl
      refine Keeps.step ?_ State.count_keeps rfl
      refine Keeps.step ?_ State.hopError_keeps rfl
      refine Keeps.step ?_ State.modHop_keeps rfl
      exact Keeps.refl _ _
    · refine Keeps.step ?_ State.count_keeps rfl
      refine Keeps.step ?_ State.count_keeps rfl
      refine Keeps.step ?_ State.hopError_keeps rfl
      refine Keeps.step ?_ State.modHop_keeps rfl
      exact Keeps.refl _ _
  · refine Keeps.step ?_ State.count_keeps rfl
    refine Keeps.step ?_ State.count_keeps rfl
    refine Keeps.step ?_ State.hopError_keeps rfl
    refine Keeps.step ?_ State.modHop_keeps rfl
    exact Keeps.refl _ _

theorem State.hopUsable_keeps {s : Sys2Proof.Machine.State} {n : Nat} {h : List Sys2Proof.Byte} {body : List
    Sys2Proof.Byte} : Keeps 37778931862957161775618 s (State.hopUsable s n h body) := by
  unfold State.hopUsable
  refine Keeps.step ?_ State.count_keeps rfl
  refine Keeps.step ?_ State.modHop_keeps rfl
  exact Keeps.refl _ _

theorem State.baleCheck_keeps {s : Sys2Proof.Machine.State} {n : Nat} : Keeps 16480737978081202955568241414 s
    (State.baleCheck s n) := by
  unfold State.baleCheck
  refine Keeps.ite ?_ ?_
  · exact Keeps.refl _ _
  · refine Keeps.ite ?_ ?_
    · refine Keeps.ite ?_ ?_
      · refine Keeps.step ?_ State.hopFail_keeps rfl
        exact Keeps.refl _ _
      · exact Keeps.refl _ _
    · refine Keeps.ite ?_ ?_
      · refine Keeps.step ?_ State.hopFail_keeps rfl
        exact Keeps.refl _ _
      · refine Keeps.ite ?_ ?_
        · refine Keeps.ite ?_ ?_
          · refine Keeps.step ?_ State.hopFail_keeps rfl
            exact Keeps.refl _ _
          · exact Keeps.refl _ _
        · split
          · refine Keeps.step ?_ State.hopFail_keeps rfl
            exact Keeps.refl _ _
          · refine Keeps.step ?_ State.hopUsable_keeps rfl
            exact Keeps.refl _ _

theorem execBaleCheck_keeps {n : Fin 32} {s : Sys2Proof.Machine.State} : ResKeeps tgtNext
    16480737978081202955568241414 s (execBaleCheck n s) := by
  unfold execBaleCheck
  refine ResKeeps.some rfl ?_
  refine Keeps.step ?_ State.baleCheck_keeps rfl
  exact Keeps.refl _ _

theorem State.putLane_keeps {s : Sys2Proof.Machine.State} {n : Nat} {idx : Nat} {k : Nat} {l :
    Sys2Proof.Machine.Lane} : Keeps 512 s (State.putLane s n idx k l) := by
  unfold State.putLane
  refine Keeps.step ?_ State.modHop_keeps rfl
  exact Keeps.refl _ _

theorem State.laneFail_keeps {s : Sys2Proof.Machine.State} {n : Nat} {b : Sys2Proof.Machine.BaleOp} {k : Nat}
    {reason : Nat} : Keeps 16480737978081202955568241414 s (State.laneFail s n b k reason) := by
  unfold State.laneFail
  try extract_lets
  split
  · refine Keeps.ite ?_ ?_
    · refine Keeps.step ?_ State.hopError_keeps rfl
      refine Keeps.step ?_ State.putLane_keeps rfl
      exact Keeps.refl _ _
    · refine Keeps.step ?_ State.hopFail_keeps rfl
      refine Keeps.step ?_ State.putLane_keeps rfl
      exact Keeps.refl _ _
  · refine Keeps.step ?_ State.putLane_keeps rfl
    exact Keeps.refl _ _

theorem State.grind_keeps {s : Sys2Proof.Machine.State} {n : Nat} {lane : Nat} {want : Nat → Bool} : Keeps
    16480737978081202955568241414 s (State.grind s n lane want) := by
  unfold State.grind
  split
  · exact Keeps.refl _ _
  · refine Keeps.ite ?_ ?_
    · refine Keeps.step ?_ State.laneFail_keeps rfl
      exact Keeps.refl _ _
    · refine Keeps.ite ?_ ?_
      · exact Keeps.refl _ _
      · refine Keeps.ite ?_ ?_
        · refine Keeps.step ?_ State.laneFail_keeps rfl
          exact Keeps.refl _ _
        · refine Keeps.step ?_ State.count_keeps rfl
          refine Keeps.step ?_ State.putLane_keeps rfl
          exact Keeps.refl _ _

theorem execEndToken_keeps {n : Fin 32} {lane : Fin 321} {s : Sys2Proof.Machine.State} : ResKeeps tgtNext
    16480737978081202955568241414 s (execEndToken n lane s) := by
  unfold execEndToken
  refine ResKeeps.some rfl ?_
  refine Keeps.step ?_ State.grind_keeps rfl
  exact Keeps.refl _ _

theorem execLitToken_keeps {n : Fin 32} {lane : Fin 321} {s : Sys2Proof.Machine.State} : ResKeeps tgtNext
    16480737978081202955568241414 s (execLitToken n lane s) := by
  unfold execLitToken
  refine ResKeeps.some rfl ?_
  refine Keeps.step ?_ State.grind_keeps rfl
  exact Keeps.refl _ _

theorem execRepToken_keeps {n : Fin 32} {lane : Fin 321} {s : Sys2Proof.Machine.State} : ResKeeps tgtNext
    16480737978081202955568241414 s (execRepToken n lane s) := by
  unfold execRepToken
  refine ResKeeps.some rfl ?_
  refine Keeps.step ?_ State.grind_keeps rfl
  exact Keeps.refl _ _

theorem execDictToken_keeps {n : Fin 32} {lane : Fin 321} {s : Sys2Proof.Machine.State} : ResKeeps tgtNext
    16480737978081202955568241414 s (execDictToken n lane s) := by
  unfold execDictToken
  refine ResKeeps.some rfl ?_
  refine Keeps.step ?_ State.grind_keeps rfl
  exact Keeps.refl _ _

theorem execXorToken_keeps {n : Fin 32} {lane : Fin 321} {s : Sys2Proof.Machine.State} : ResKeeps tgtNext
    16480737978081202955568241414 s (execXorToken n lane s) := by
  unfold execXorToken
  refine ResKeeps.some rfl ?_
  refine Keeps.step ?_ State.grind_keeps rfl
  exact Keeps.refl _ _

theorem execReservedToken_keeps {n : Fin 32} {lane : Fin 321} {s : Sys2Proof.Machine.State} : ResKeeps tgtNext
    16480737978081202955568241414 s (execReservedToken n lane s) := by
  unfold execReservedToken
  refine ResKeeps.some rfl ?_
  refine Keeps.step ?_ State.grind_keeps rfl
  exact Keeps.refl _ _

theorem State.granAccessed_keeps {s : Sys2Proof.Machine.State} {qs : List Nat} : Keeps 37778931862957161775106 s
    (State.granAccessed s qs) := by
  unfold State.granAccessed
  refine Keeps.foldl _ _ ?_ ?_
  · exact Keeps.refl _ _
  · intro y_ a_ h_
    refine Keeps.step ?_ State.count_keeps rfl
    with_reducible assumption

theorem State.granStore_keeps {s : Sys2Proof.Machine.State} {a : Nat} {bs : List Sys2Proof.Byte} {qs : List Nat}
    : Keeps 206158430208 s (State.granStore s a bs qs) := by
  unfold State.granStore
  refine Keeps.mkUpd ?_ ⟨Or.inr rfl, rfl, Or.inr rfl, Or.inr rfl, Or.inr rfl, Or.inr rfl, Or.inr rfl, Or.inr
      rfl, Or.inr rfl, Or.inr rfl, Or.inr rfl, Or.inr rfl, Or.inr rfl, Or.inr rfl, Or.inr rfl, Or.inr rfl, Or.inr
      rfl, Or.inr rfl, Or.inr rfl, Or.inr rfl, Or.inr rfl, Or.inr rfl, Or.inr rfl, Or.inr rfl, Or.inr rfl, Or.inr
      rfl, Or.inr rfl, Or.inr rfl, Or.inr rfl, Or.inr rfl, Or.inr rfl, Or.inr rfl, Or.inr rfl, Or.inr rfl, Or.inr
      rfl, Or.inl rfl, Or.inl rfl, Or.inr rfl, Or.inr rfl, Or.inr rfl, Or.inr rfl, Or.inr rfl, Or.inr rfl, Or.inr
      rfl, Or.inr rfl, Or.inr rfl, Nat.le_refl _, trivial, fun w => w,
      (by intro w_; repeat' first | with_reducible assumption | with_reducible refine tabWf_memPutBytes _ _ _ ?_ | with_reducible refine tabWf_memPutNat _ _ _ _ ?_ | with_reducible refine tabWf_memPut _ _ _ ?_ | with_reducible refine tabWf_tabPut _ _ _ _ ?_ | with_reducible refine tabWf_tabErase _ _ _ ?_ | with_reducible refine tabWf_filter _ _ _ ?_ | with_reducible refine tabWf_foldl _ _ _ ?_ ?_ | (intro m_ a_ h_) | exact rfl | split),
      (by intro w_; repeat' first | with_reducible assumption | with_reducible refine tabWf_memPutBytes _ _ _ ?_ | with_reducible refine tabWf_memPutNat _ _ _ _ ?_ | with_reducible refine tabWf_memPut _ _ _ ?_ | with_reducible refine tabWf_tabPut _ _ _ _ ?_ | with_reducible refine tabWf_tabErase _ _ _ ?_ | with_reducible refine tabWf_filter _ _ _ ?_ | with_reducible refine tabWf_foldl _ _ _ ?_ ?_ | (intro m_ a_ h_) | exact rfl | split),
      fun w => w, fun w => w, fun w => w, fun w => w, fun w => w, fun w => w, fun w => w, fun w => w, fun w => w,
      fun w => w⟩
  exact Keeps.refl _ _

theorem State.granDrop_keeps {s : Sys2Proof.Machine.State} {qs : List Nat} : Keeps 618970019642690137449562114 s
    (State.granDrop s qs) := by
  unfold State.granDrop
  refine Keeps.ite ?_ ?_
  · refine Keeps.step ?_ State.wr_keeps (kb_k 618970019642690137449562112 rfl rfl)
    exact Keeps.refl _ _
  · exact Keeps.refl _ _

theorem State.granWrite_keeps {s : Sys2Proof.Machine.State} {a : Nat} {bs : List Sys2Proof.Byte} : Keeps
    619007798574553302917251074 s (State.granWrite s a bs) := by
  unfold State.granWrite
  dsimp only
  split
  · refine Keeps.step ?_ State.wr_keeps (kb_k 618970019642690137449562112 rfl rfl)
    refine Keeps.step ?_ State.granError_keeps rfl
    exact Keeps.refl _ _
  · refine Keeps.step ?_ State.granDrop_keeps rfl
    refine Keeps.step ?_ State.granStore_keeps rfl
    refine Keeps.step ?_ State.granCorrect_keeps rfl
    refine Keeps.step ?_ State.granAccessed_keeps rfl
    exact Keeps.refl _ _

theorem State.dictWrite_keeps {s : Sys2Proof.Machine.State} {a : Nat} {bs : List Sys2Proof.Byte} : Keeps
    618970019642690412327469058 s (State.dictWrite s a bs) := by
  unfold State.dictWrite
  refine Keeps.ite ?_ ?_
  · refine Keeps.step ?_ State.wr_keeps (kb_k 618970019642690137449562112 rfl rfl)
    refine Keeps.mkUpd ?_ ⟨Or.inr rfl, rfl, Or.inr rfl, Or.inr rfl, Or.inr rfl, Or.inr rfl, Or.inr rfl, Or.inr
        rfl, Or.inr rfl, Or.inr rfl, Or.inr rfl, Or.inr rfl, Or.inr rfl, Or.inr rfl, Or.inr rfl, Or.inr rfl, Or.inr
        rfl, Or.inr rfl, Or.inr rfl, Or.inr rfl, Or.inr rfl, Or.inr rfl, Or.inr rfl, Or.inr rfl, Or.inr rfl, Or.inr
        rfl, Or.inr rfl, Or.inr rfl, Or.inr rfl, Or.inr rfl, Or.inr rfl, Or.inr rfl, Or.inr rfl, Or.inr rfl, Or.inr
        rfl, Or.inr rfl, Or.inr rfl, Or.inl rfl, Or.inr rfl, Or.inr rfl, Or.inr rfl, Or.inr rfl, Or.inr rfl, Or.inr
        rfl, Or.inr rfl, Or.inr rfl, Nat.le_refl _, trivial, fun w => w, fun w => w, fun w => w,
        (by intro w_; repeat' first | with_reducible assumption | with_reducible refine tabWf_memPutBytes _ _ _ ?_ | with_reducible refine tabWf_memPutNat _ _ _ _ ?_ | with_reducible refine tabWf_memPut _ _ _ ?_ | with_reducible refine tabWf_tabPut _ _ _ _ ?_ | with_reducible refine tabWf_tabErase _ _ _ ?_ | with_reducible refine tabWf_filter _ _ _ ?_ | with_reducible refine tabWf_foldl _ _ _ ?_ ?_ | (intro m_ a_ h_) | exact rfl | split),
        fun w => w, fun w => w, fun w => w, fun w => w, fun w => w, fun w => w, fun w => w, fun w => w, fun w => w⟩
    exact Keeps.refl _ _
  · refine Keeps.mkUpd ?_ ⟨Or.inr rfl, rfl, Or.inr rfl, Or.inr rfl, Or.inr rfl, Or.inr rfl, Or.inr rfl, Or.inr
      rfl, Or.inr rfl, Or.inr rfl, Or.inr rfl, Or.inr rfl, Or.inr rfl, Or.inr rfl, Or.inr rfl, Or.inr rfl, Or.inr
      rfl, Or.inr rfl, Or.inr rfl, Or.inr rfl, Or.inr rfl, Or.inr rfl, Or.inr rfl, Or.inr rfl, Or.inr rfl, Or.inr
      rfl, Or.inr rfl, Or.inr rfl, Or.inr rfl, Or.inr rfl, Or.inr rfl, Or.inr rfl, Or.inr rfl, Or.inr rfl, Or.inr
      rfl, Or.inr rfl, Or.inr rfl, Or.inl rfl, Or.inr rfl, Or.inr rfl, Or.inr rfl, Or.inr rfl, Or.inr rfl, Or.inr
      rfl, Or.inr rfl, Or.inr rfl, Nat.le_refl _, trivial, fun w => w, fun w => w, fun w => w,
      (by intro w_; repeat' first | with_reducible assumption | with_reducible refine tabWf_memPutBytes _ _ _ ?_ | with_reducible refine tabWf_memPutNat _ _ _ _ ?_ | with_reducible refine tabWf_memPut _ _ _ ?_ | with_reducible refine tabWf_tabPut _ _ _ _ ?_ | with_reducible refine tabWf_tabErase _ _ _ ?_ | with_reducible refine tabWf_filter _ _ _ ?_ | with_reducible refine tabWf_foldl _ _ _ ?_ ?_ | (intro m_ a_ h_) | exact rfl | split),
      fun w => w, fun w => w, fun w => w, fun w => w, fun w => w, fun w => w, fun w => w, fun w => w, fun w => w⟩
    exact Keeps.refl _ _

theorem State.bar2Write_keeps {s : Sys2Proof.Machine.State} {a : Nat} {bs : List Sys2Proof.Byte} : Keeps
    5570767955716079075446554626 s (State.bar2Write s a bs) := by
  unfold State.bar2Write
  refine Keeps.ite ?_ ?_
  · refine Keeps.ite ?_ ?_
    · refine Keeps.step ?_ State.wr_keeps (kb_k 618970019642690137449562112 rfl rfl)
      exact Keeps.refl _ _
    · refine Keeps.step ?_ State.granWrite_keeps rfl
      exact Keeps.refl _ _
  · refine Keeps.ite ?_ ?_
    · refine Keeps.ite ?_ ?_
      · refine Keeps.step ?_ State.wr_keeps (kb_k 618970019642690137449562112 rfl rfl)
        exact Keeps.refl _ _
      · refine Keeps.step ?_ State.dictWrite_keeps rfl
        exact Keeps.refl _ _
    · refine Keeps.ite ?_ ?_
      · refine Keeps.ite ?_ ?_
        · refine Keeps.step ?_ State.bwPut_keeps rfl
          exact Keeps.refl _ _
        · exact Keeps.refl _ _
      · refine Keeps.ite ?_ ?_
        · refine Keeps.step ?_ State.werr_keeps (kb_k 4951760157141521099596496896 rfl rfl)
          exact Keeps.refl _ _
        · exact Keeps.refl _ _

theorem State.bar2Put_keeps {s : State} {a : Nat} {bs : List Byte} {k : Nat} : Keeps
    5570767955716079075446554626 s (State.bar2Put s a bs k) := by
  induction k generalizing s a bs with
  | zero => exact Keeps.refl _ _
  | succ k ih =>
    unfold State.bar2Put
    refine Keeps.ite (Keeps.refl _ _) ?_
    refine Keeps.step ?_ ih rfl
    exact Keeps.step (Keeps.refl _ _) State.bar2Write_keeps rfl

theorem execBar2Write_keeps {a : BitVec 26} {bytes : List Sys2Proof.Byte} {s : Sys2Proof.Machine.State} :
    ResKeeps tgtNext 5570767955716079075446554626 s (execBar2Write a bytes s) := by
  unfold execBar2Write
  refine ResKeeps.some rfl ?_
  refine Keeps.ite ?_ ?_
  · exact Keeps.refl _ _
  · refine Keeps.step ?_ State.bar2Put_keeps rfl
    exact Keeps.refl _ _

end Sys2Proof.Machine
end

