-- ==== Sys2Proof/Laws/FrameWinnower.lean ====
section
/-! SUPPORT. What each function of Machine/Winnower.lean may change: one mask of `Keeps` for each. -/

namespace Sys2Proof.Machine

open Reg

theorem State.putCres_keeps {s : Sys2Proof.Machine.State} {c : Nat} {k : Nat} {reason : Nat} : Keeps
    302231454903657293676546 s (State.putCres s c k reason) := by
  unfold State.putCres
  refine Keeps.step ?_ State.wr_keeps (kb_k 302231454903657293676544 rfl rfl)
  exact Keeps.refl _ _

theorem State.putResult_keeps {s : Sys2Proof.Machine.State} {proc : Nat} {u : Nat} {reason : Nat} : Keeps
    302231454903657293676546 s (State.putResult s proc u reason) := by
  unfold State.putResult
  refine Keeps.ite ?_ ?_
  · refine Keeps.step ?_ State.wr_keeps (kb_k 302231454903657293676544 rfl rfl)
    exact Keeps.refl _ _
  · refine Keeps.ite ?_ ?_
    · refine Keeps.step ?_ State.putCres_keeps rfl
      exact Keeps.refl _ _
    · refine Keeps.ite ?_ ?_
      · refine Keeps.step ?_ State.wr_keeps (kb_k 302231454903657293676544 rfl rfl)
        refine Keeps.step ?_ State.putCres_keeps rfl
        exact Keeps.refl _ _
      · refine Keeps.ite ?_ ?_
        · refine Keeps.step ?_ State.wr_keeps (kb_k 302231454903657293676544 rfl rfl)
          exact Keeps.refl _ _
        · refine Keeps.ite ?_ ?_
          · refine Keeps.step ?_ State.wr_keeps (kb_k 302231454903657293676544 rfl rfl)
            exact Keeps.refl _ _
          · exact Keeps.refl _ _

theorem State.putValid_keeps {s : Sys2Proof.Machine.State} {proc : Nat} {u : Nat} : Keeps
    302231454903657293676546 s (State.putValid s proc u) := by
  unfold State.putValid
  refine Keeps.ite ?_ ?_
  · refine Keeps.step ?_ State.wr_keeps (kb_k 302231454903657293676544 rfl rfl)
    exact Keeps.refl _ _
  · refine Keeps.ite ?_ ?_
    · refine Keeps.step ?_ State.wrBit_keeps (kb_k 302231454903657293676544 rfl rfl)
      exact Keeps.refl _ _
    · refine Keeps.ite ?_ ?_
      · refine Keeps.step ?_ State.wr_keeps (kb_k 302231454903657293676544 rfl rfl)
        refine Keeps.step ?_ State.wrBit_keeps (kb_k 302231454903657293676544 rfl rfl)
        exact Keeps.refl _ _
      · refine Keeps.ite ?_ ?_
        · refine Keeps.step ?_ State.wr_keeps (kb_k 302231454903657293676544 rfl rfl)
          exact Keeps.refl _ _
        · refine Keeps.ite ?_ ?_
          · refine Keeps.step ?_ State.wr_keeps (kb_k 302231454903657293676544 rfl rfl)
            exact Keeps.refl _ _
          · exact Keeps.refl _ _

theorem State.winnDrop_keeps {s : Sys2Proof.Machine.State} {us : List Nat} : Keeps 16777216 s
    (State.winnDrop s us) := by
  unfold State.winnDrop
  refine Keeps.mkUpd ?_ ⟨Or.inr rfl, rfl, Or.inr rfl, Or.inr rfl, Or.inr rfl, Or.inr rfl, Or.inr rfl, Or.inr
      rfl, Or.inr rfl, Or.inr rfl, Or.inr rfl, Or.inr rfl, Or.inr rfl, Or.inr rfl, Or.inr rfl, Or.inr rfl, Or.inr
      rfl, Or.inr rfl, Or.inr rfl, Or.inr rfl, Or.inr rfl, Or.inr rfl, Or.inr rfl, Or.inr rfl, Or.inl rfl, Or.inr
      rfl, Or.inr rfl, Or.inr rfl, Or.inr rfl, Or.inr rfl, Or.inr rfl, Or.inr rfl, Or.inr rfl, Or.inr rfl, Or.inr
      rfl, Or.inr rfl, Or.inr rfl, Or.inr rfl, Or.inr rfl, Or.inr rfl, Or.inr rfl, Or.inr rfl, Or.inr rfl, Or.inr
      rfl, Or.inr rfl, Or.inr rfl, Nat.le_refl _, trivial, fun w => w, fun w => w, fun w => w, fun w => w, fun w =>
      w, fun w => w, fun w => w, fun w => w, fun w => w, fun w => w, fun w => w, fun w => w, fun w => w⟩
  exact Keeps.refl _ _

theorem State.unitFails_keeps {s : Sys2Proof.Machine.State} {u : Nat} {reason : Nat} : Keeps
    340010386766614472228866 s (State.unitFails s u reason) := by
  unfold State.unitFails
  refine Keeps.ite ?_ ?_
  · refine Keeps.step ?_ State.wr_keeps (kb_k 302231454903657293676544 rfl rfl)
    refine Keeps.step ?_ State.winnDrop_keeps rfl
    refine Keeps.step ?_ State.count_keeps rfl
    refine Keeps.step ?_ State.satAdd_keeps (kb_k 302231454903657293676544 rfl rfl)
    refine Keeps.step ?_ State.putResult_keeps rfl
    exact Keeps.refl _ _
  · refine Keeps.step ?_ State.winnDrop_keeps rfl
    refine Keeps.step ?_ State.count_keeps rfl
    refine Keeps.step ?_ State.satAdd_keeps (kb_k 302231454903657293676544 rfl rfl)
    refine Keeps.step ?_ State.putResult_keeps rfl
    exact Keeps.refl _ _

theorem State.unitOk_keeps {s : Sys2Proof.Machine.State} {u : Nat} : Keeps 340010386766614472228866 s
    (State.unitOk s u) := by
  unfold State.unitOk
  refine Keeps.step ?_ State.winnDrop_keeps rfl
  refine Keeps.step ?_ State.count_keeps rfl
  refine Keeps.step ?_ State.putValid_keeps rfl
  refine Keeps.step ?_ State.putResult_keeps rfl
  exact Keeps.refl _ _

theorem State.winnTake_keeps {s : Sys2Proof.Machine.State} {proc : Nat} {sites : Nat} : Keeps
    340010386766614472228866 s (State.winnTake s proc sites) := by
  unfold State.winnTake
  refine Keeps.foldl _ _ ?_ ?_
  · refine Keeps.foldl _ _ ?_ ?_
    · refine Keeps.mkUpd ?_ ⟨Or.inr rfl, rfl, Or.inr rfl, Or.inr rfl, Or.inr rfl, Or.inr rfl, Or.inr rfl, Or.inr
        rfl, Or.inr rfl, Or.inr rfl, Or.inr rfl, Or.inr rfl, Or.inr rfl, Or.inr rfl, Or.inr rfl, Or.inr rfl, Or.inr
        rfl, Or.inr rfl, Or.inr rfl, Or.inr rfl, Or.inr rfl, Or.inr rfl, Or.inr rfl, Or.inr rfl, Or.inl rfl, Or.inr
        rfl, Or.inr rfl, Or.inr rfl, Or.inr rfl, Or.inr rfl, Or.inr rfl, Or.inr rfl, Or.inr rfl, Or.inr rfl, Or.inr
        rfl, Or.inr rfl, Or.inr rfl, Or.inr rfl, Or.inr rfl, Or.inr rfl, Or.inr rfl, Or.inr rfl, Or.inr rfl, Or.inr
        rfl, Or.inr rfl, Or.inr rfl, Nat.le_refl _, trivial, fun w => w, fun w => w, fun w => w, fun w => w, fun w
        => w, fun w => w, fun w => w, fun w => w, fun w => w, fun w => w, fun w => w, fun w => w, fun w => w⟩
      exact Keeps.refl _ _
    · intro y_ a_ h_
      refine Keeps.step ?_ State.unitFails_keeps rfl
      with_reducible assumption
  · intro y_ a_ h_
    refine Keeps.step ?_ State.unitFails_keeps rfl
    with_reducible assumption

theorem State.winnBegin_keeps {s : Sys2Proof.Machine.State} {proc : Nat} {sites : Nat} : Keeps
    340010386766614472228866 s (State.winnBegin s proc sites) := by
  unfold State.winnBegin
  refine Keeps.step ?_ State.winnTake_keeps rfl
  refine Keeps.ite ?_ ?_
  · refine Keeps.step ?_ State.wr_keeps (kb_k 302231454903657293676544 rfl rfl)
    refine Keeps.step ?_ State.count_keeps rfl
    refine Keeps.step ?_ State.wr_keeps (kb_k 302231454903657293676544 rfl rfl)
    refine Keeps.step ?_ State.wr_keeps (kb_k 302231454903657293676544 rfl rfl)
    refine Keeps.step ?_ State.wr_keeps (kb_k 302231454903657293676544 rfl rfl)
    refine Keeps.step ?_ State.wr_keeps (kb_k 302231454903657293676544 rfl rfl)
    refine Keeps.step ?_ State.wr_keeps (kb_k 302231454903657293676544 rfl rfl)
    exact Keeps.refl _ _
  · refine Keeps.ite ?_ ?_
    · refine Keeps.step ?_ State.wr_keeps (kb_k 302231454903657293676544 rfl rfl)
      refine Keeps.step ?_ State.count_keeps rfl
      refine Keeps.step ?_ State.wr_keeps (kb_k 302231454903657293676544 rfl rfl)
      refine Keeps.step ?_ State.wr_keeps (kb_k 302231454903657293676544 rfl rfl)
      refine Keeps.step ?_ State.wr_keeps (kb_k 302231454903657293676544 rfl rfl)
      refine Keeps.step ?_ State.wr_keeps (kb_k 302231454903657293676544 rfl rfl)
      refine Keeps.step ?_ State.wr_keeps (kb_k 302231454903657293676544 rfl rfl)
      exact Keeps.refl _ _
    · refine Keeps.step ?_ State.count_keeps rfl
      refine Keeps.step ?_ State.wr_keeps (kb_k 302231454903657293676544 rfl rfl)
      refine Keeps.step ?_ State.wr_keeps (kb_k 302231454903657293676544 rfl rfl)
      refine Keeps.step ?_ State.wr_keeps (kb_k 302231454903657293676544 rfl rfl)
      refine Keeps.step ?_ State.wr_keeps (kb_k 302231454903657293676544 rfl rfl)
      refine Keeps.step ?_ State.wr_keeps (kb_k 302231454903657293676544 rfl rfl)
      exact Keeps.refl _ _

theorem State.winnRefuse_keeps {s : Sys2Proof.Machine.State} {reason : Nat} : Keeps 302231454903657293676546 s
    (State.winnRefuse s reason) := by
  unfold State.winnRefuse
  refine Keeps.step ?_ State.wr_keeps (kb_k 302231454903657293676544 rfl rfl)
  refine Keeps.step ?_ State.wr_keeps (kb_k 302231454903657293676544 rfl rfl)
  exact Keeps.refl _ _

theorem State.winnStart_keeps {s : Sys2Proof.Machine.State} : Keeps 340010386766614472228866 s (State.winnStart s) := by
  unfold State.winnStart
  refine Keeps.ite ?_ ?_
  · refine Keeps.step ?_ State.winnRefuse_keeps rfl
    exact Keeps.refl _ _
  · refine Keeps.ite ?_ ?_
    · refine Keeps.step ?_ State.winnRefuse_keeps rfl
      exact Keeps.refl _ _
    · refine Keeps.ite ?_ ?_
      · refine Keeps.step ?_ State.winnRefuse_keeps rfl
        exact Keeps.refl _ _
      · refine Keeps.step ?_ State.winnBegin_keeps rfl
        exact Keeps.refl _ _

theorem State.loopRestored_keeps {s : Sys2Proof.Machine.State} {n : Nat} : Keeps 8 s (State.loopRestored s n) := by
  unfold State.loopRestored
  refine Keeps.foldl _ _ ?_ ?_
  · refine Keeps.step ?_ State.modPage_keeps rfl
    exact Keeps.refl _ _
  · intro y_ a_ h_
    refine Keeps.step ?_ State.modPage_keeps rfl
    with_reducible assumption

theorem State.winnEnd_keeps {s : Sys2Proof.Machine.State} : Keeps 906694364710972166242314 s (State.winnEnd s) := by
  unfold State.winnEnd
  refine Keeps.foldl _ _ ?_ ?_
  · refine Keeps.mkUpd ?_ ⟨Or.inr rfl, rfl, Or.inr rfl, Or.inr rfl, Or.inr rfl, Or.inr rfl, Or.inr rfl, Or.inr
      rfl, Or.inr rfl, Or.inr rfl, Or.inr rfl, Or.inr rfl, Or.inr rfl, Or.inr rfl, Or.inr rfl, Or.inr rfl, Or.inr
      rfl, Or.inr rfl, Or.inr rfl, Or.inr rfl, Or.inr rfl, Or.inr rfl, Or.inr rfl, Or.inr rfl, Or.inl rfl, Or.inr
      rfl, Or.inr rfl, Or.inr rfl, Or.inr rfl, Or.inr rfl, Or.inr rfl, Or.inr rfl, Or.inr rfl, Or.inr rfl, Or.inr
      rfl, Or.inr rfl, Or.inr rfl, Or.inr rfl, Or.inr rfl, Or.inr rfl, Or.inr rfl, Or.inr rfl, Or.inr rfl, Or.inr
      rfl, Or.inr rfl, Or.inr rfl, Nat.le_refl _, trivial, fun w => w, fun w => w, fun w => w, fun w => w, fun w =>
      w, fun w => w, fun w => w, fun w => w, fun w => w, fun w => w, fun w => w, fun w => w, fun w => w⟩
    refine Keeps.step ?_ State.raiseCause_keeps rfl
    refine Keeps.step ?_ State.wr_keeps (kb_k 302231454903657293676544 rfl rfl)
    exact Keeps.refl _ _
  · intro y_ a_ h_
    refine Keeps.step ?_ State.loopRestored_keeps rfl
    with_reducible assumption

theorem execProcedureEnd_keeps {s : Sys2Proof.Machine.State} : ResKeeps tgtNext 906694364710972166242314 s
    (execProcedureEnd s) := by
  unfold execProcedureEnd
  refine ResKeeps.some rfl ?_
  refine Keeps.ite ?_ ?_
  · refine Keeps.step ?_ State.winnEnd_keeps rfl
    exact Keeps.refl _ _
  · exact Keeps.refl _ _

theorem State.winnStop_keeps {s : Sys2Proof.Machine.State} {reason : Nat} : Keeps 944473296573929328017418 s
    (State.winnStop s reason) := by
  unfold State.winnStop
  refine Keeps.step ?_ State.winnEnd_keeps rfl
  refine Keeps.foldl _ _ ?_ ?_
  · exact Keeps.refl _ _
  · intro y_ a_ h_
    refine Keeps.step ?_ State.unitFails_keeps rfl
    with_reducible assumption

theorem State.winnCtlWrite_keeps {s : Sys2Proof.Machine.State} {r : Sys2Proof.Requester} {word : Nat} : Keeps
    944473296573931475501070 s (State.winnCtlWrite s r word) := by
  unfold State.winnCtlWrite
  refine State.writeWith_keeps ?_ (kb_k 302231454903657293676544 rfl rfl) ?_
  · exact Keeps.refl _ _
  · intro y0_ h_
    refine Keeps.ite ?_ ?_
    · refine Keeps.step ?_ State.winnStop_keeps rfl
      refine Keeps.ite ?_ ?_
      · refine Keeps.step ?_ State.winnStart_keeps rfl
        with_reducible assumption
      · with_reducible assumption
    · refine Keeps.ite ?_ ?_
      · refine Keeps.step ?_ State.winnStart_keeps rfl
        with_reducible assumption
      · with_reducible assumption

theorem execWinnAbort_keeps {r : Sys2Proof.Requester} {s : Sys2Proof.Machine.State} : ResKeeps tgtNext
    944473296573931475501070 s (execWinnAbort r s) := by
  unfold execWinnAbort
  refine ResKeeps.some rfl ?_
  refine Keeps.step ?_ State.winnCtlWrite_keeps rfl
  exact Keeps.refl _ _

theorem State.winnProcStart_keeps {s : Sys2Proof.Machine.State} {r : Sys2Proof.Requester} {proc : Nat} : Keeps
    944473296573931475501070 s (State.winnProcStart s r proc) := by
  unfold State.winnProcStart
  refine Keeps.ite ?_ ?_
  · refine Keeps.step ?_ State.winnCtlWrite_keeps rfl
    exact Keeps.refl _ _
  · exact Keeps.refl _ _

theorem execConvProcedure_keeps {r : Sys2Proof.Requester} {s : Sys2Proof.Machine.State} : ResKeeps tgtNext
    944473296573931475501070 s (execConvProcedure r s) := by
  unfold execConvProcedure
  refine ResKeeps.some rfl ?_
  refine Keeps.step ?_ State.winnProcStart_keeps rfl
  exact Keeps.refl _ _

theorem execLevelProcedure_keeps {r : Sys2Proof.Requester} {s : Sys2Proof.Machine.State} : ResKeeps tgtNext
    944473296573931475501070 s (execLevelProcedure r s) := by
  unfold execLevelProcedure
  refine ResKeeps.some rfl ?_
  refine Keeps.step ?_ State.winnProcStart_keeps rfl
  exact Keeps.refl _ _

theorem execCmpProcedure_keeps {r : Sys2Proof.Requester} {s : Sys2Proof.Machine.State} : ResKeeps tgtNext
    944473296573931475501070 s (execCmpProcedure r s) := by
  unfold execCmpProcedure
  refine ResKeeps.some rfl ?_
  refine Keeps.step ?_ State.winnProcStart_keeps rfl
  exact Keeps.refl _ _

theorem execImpProcedure_keeps {r : Sys2Proof.Requester} {s : Sys2Proof.Machine.State} : ResKeeps tgtNext
    944473296573931475501070 s (execImpProcedure r s) := by
  unfold execImpProcedure
  refine ResKeeps.some rfl ?_
  refine Keeps.step ?_ State.winnProcStart_keeps rfl
  exact Keeps.refl _ _

theorem execDeskewProcedure_keeps {r : Sys2Proof.Requester} {s : Sys2Proof.Machine.State} : ResKeeps tgtNext
    944473296573931475501070 s (execDeskewProcedure r s) := by
  unfold execDeskewProcedure
  refine ResKeeps.some rfl ?_
  refine Keeps.step ?_ State.winnProcStart_keeps rfl
  exact Keeps.refl _ _

theorem execLoopCalibration_keeps {r : Sys2Proof.Requester} {s : Sys2Proof.Machine.State} : ResKeeps tgtNext
    944473296573931475501070 s (execLoopCalibration r s) := by
  unfold execLoopCalibration
  refine ResKeeps.some rfl ?_
  refine Keeps.step ?_ State.winnProcStart_keeps rfl
  exact Keeps.refl _ _

theorem execMcskewProcedure_keeps {r : Sys2Proof.Requester} {s : Sys2Proof.Machine.State} : ResKeeps tgtNext
    944473296573931475501070 s (execMcskewProcedure r s) := by
  unfold execMcskewProcedure
  refine ResKeeps.some rfl ?_
  refine Keeps.step ?_ State.winnProcStart_keeps rfl
  exact Keeps.refl _ _

theorem execEyeProcedure_keeps {r : Sys2Proof.Requester} {s : Sys2Proof.Machine.State} : ResKeeps tgtNext
    944473296573931475501070 s (execEyeProcedure r s) := by
  unfold execEyeProcedure
  refine ResKeeps.some rfl ?_
  refine Keeps.step ?_ State.winnProcStart_keeps rfl
  exact Keeps.refl _ _

theorem execSyszProcedure_keeps {r : Sys2Proof.Requester} {s : Sys2Proof.Machine.State} : ResKeeps tgtNext
    944473296573931475501070 s (execSyszProcedure r s) := by
  unfold execSyszProcedure
  refine ResKeeps.some rfl ?_
  refine Keeps.step ?_ State.winnProcStart_keeps rfl
  exact Keeps.refl _ _

theorem execSysfProcedure_keeps {r : Sys2Proof.Requester} {s : Sys2Proof.Machine.State} : ResKeeps tgtNext
    944473296573931475501070 s (execSysfProcedure r s) := by
  unfold execSysfProcedure
  refine ResKeeps.some rfl ?_
  refine Keeps.step ?_ State.winnProcStart_keeps rfl
  exact Keeps.refl _ _

theorem execAutoLoop_keeps {s : Sys2Proof.Machine.State} : ResKeeps tgtNext 340010386766614472228866 s
    (execAutoLoop s) := by
  unfold execAutoLoop
  refine ResKeeps.ite ?_ ?_
  · refine ResKeeps.some rfl ?_
    refine Keeps.step ?_ State.winnBegin_keeps rfl
    refine Keeps.mkUpd ?_ ⟨Or.inr rfl, rfl, Or.inr rfl, Or.inr rfl, Or.inr rfl, Or.inr rfl, Or.inr rfl, Or.inr
        rfl, Or.inr rfl, Or.inr rfl, Or.inr rfl, Or.inr rfl, Or.inr rfl, Or.inr rfl, Or.inr rfl, Or.inr rfl, Or.inr
        rfl, Or.inr rfl, Or.inr rfl, Or.inr rfl, Or.inr rfl, Or.inr rfl, Or.inr rfl, Or.inr rfl, Or.inl rfl, Or.inr
        rfl, Or.inr rfl, Or.inr rfl, Or.inr rfl, Or.inr rfl, Or.inr rfl, Or.inr rfl, Or.inr rfl, Or.inr rfl, Or.inr
        rfl, Or.inr rfl, Or.inr rfl, Or.inr rfl, Or.inr rfl, Or.inr rfl, Or.inr rfl, Or.inr rfl, Or.inr rfl, Or.inr
        rfl, Or.inr rfl, Or.inr rfl, Nat.le_refl _, trivial, fun w => w, fun w => w, fun w => w, fun w => w, fun w
        => w, fun w => w, fun w => w, fun w => w, fun w => w, fun w => w, fun w => w, fun w => w, fun w => w⟩
    exact Keeps.refl _ _
  · refine ResKeeps.some rfl ?_
    exact Keeps.refl _ _

theorem State.winnAbandon_keeps {s : Sys2Proof.Machine.State} {lost : Nat → Bool} : Keeps
    1095589024025760126533642 s (State.winnAbandon s lost) := by
  unfold State.winnAbandon
  refine Keeps.ite ?_ ?_
  · exact Keeps.refl _ _
  · refine Keeps.ite ?_ ?_
    · refine Keeps.step ?_ State.winnStop_keeps rfl
      refine Keeps.foldl _ _ ?_ ?_
      · refine Keeps.step ?_ State.ucAbandon_keeps rfl
        exact Keeps.refl _ _
      · intro y_ a_ h_
        refine Keeps.step ?_ State.unitFails_keeps rfl
        with_reducible assumption
    · refine Keeps.step ?_ State.count_keeps rfl
      refine Keeps.step ?_ State.satAdd_keeps (kb_k 302231454903657293676544 rfl rfl)
      refine Keeps.foldl _ _ ?_ ?_
      · refine Keeps.step ?_ State.ucAbandon_keeps rfl
        exact Keeps.refl _ _
      · intro y_ a_ h_
        refine Keeps.step ?_ State.unitFails_keeps rfl
        with_reducible assumption

theorem State.calChanged_keeps {s : Sys2Proof.Machine.State} : Keeps 16777216 s (State.calChanged s) := by
  unfold State.calChanged
  refine Keeps.mkUpd ?_ ⟨Or.inr rfl, rfl, Or.inr rfl, Or.inr rfl, Or.inr rfl, Or.inr rfl, Or.inr rfl, Or.inr
      rfl, Or.inr rfl, Or.inr rfl, Or.inr rfl, Or.inr rfl, Or.inr rfl, Or.inr rfl, Or.inr rfl, Or.inr rfl, Or.inr
      rfl, Or.inr rfl, Or.inr rfl, Or.inr rfl, Or.inr rfl, Or.inr rfl, Or.inr rfl, Or.inr rfl, Or.inl rfl, Or.inr
      rfl, Or.inr rfl, Or.inr rfl, Or.inr rfl, Or.inr rfl, Or.inr rfl, Or.inr rfl, Or.inr rfl, Or.inr rfl, Or.inr
      rfl, Or.inr rfl, Or.inr rfl, Or.inr rfl, Or.inr rfl, Or.inr rfl, Or.inr rfl, Or.inr rfl, Or.inr rfl, Or.inr
      rfl, Or.inr rfl, Or.inr rfl, Nat.le_refl _, trivial, fun w => w, fun w => w, fun w => w, fun w => w, fun w =>
      w, fun w => w, fun w => w, fun w => w, fun w => w, fun w => w, fun w => w, fun w => w, fun w => w⟩
  exact Keeps.refl _ _

theorem State.traced_keeps {s : Sys2Proof.Machine.State} : Keeps 16777216 s (State.traced s) := by
  unfold State.traced
  refine Keeps.mkUpd ?_ ⟨Or.inr rfl, rfl, Or.inr rfl, Or.inr rfl, Or.inr rfl, Or.inr rfl, Or.inr rfl, Or.inr
      rfl, Or.inr rfl, Or.inr rfl, Or.inr rfl, Or.inr rfl, Or.inr rfl, Or.inr rfl, Or.inr rfl, Or.inr rfl, Or.inr
      rfl, Or.inr rfl, Or.inr rfl, Or.inr rfl, Or.inr rfl, Or.inr rfl, Or.inr rfl, Or.inr rfl, Or.inl rfl, Or.inr
      rfl, Or.inr rfl, Or.inr rfl, Or.inr rfl, Or.inr rfl, Or.inr rfl, Or.inr rfl, Or.inr rfl, Or.inr rfl, Or.inr
      rfl, Or.inr rfl, Or.inr rfl, Or.inr rfl, Or.inr rfl, Or.inr rfl, Or.inr rfl, Or.inr rfl, Or.inr rfl, Or.inr
      rfl, Or.inr rfl, Or.inr rfl, Nat.le_refl _, trivial, fun w => w, fun w => w, fun w => w, fun w => w, fun w =>
      w, fun w => w, fun w => w, fun w => w, fun w => w, fun w => w, fun w => w, fun w => w, fun w => w⟩
  exact Keeps.refl _ _

theorem State.putConv_keeps {s : Sys2Proof.Machine.State} {m : Sys2Proof.ConvMeas} : Keeps
    38685626227668133590597634 s (State.putConv s m) := by
  unfold State.putConv
  refine Keeps.step ?_ State.wr_keeps (kb_k 38685626227668133590597632 rfl rfl)
  refine Keeps.step ?_ State.wr_keeps (kb_k 38685626227668133590597632 rfl rfl)
  refine Keeps.step ?_ State.wr_keeps (kb_k 38685626227668133590597632 rfl rfl)
  exact Keeps.refl _ _

theorem State.commitConv_keeps {s : Sys2Proof.Machine.State} {ms : List Sys2Proof.ConvMeas} {vref : Option Nat}
    : Keeps 39025636614434748062826498 s (State.commitConv s ms vref) := by
  unfold State.commitConv
  split
  · exact Keeps.refl _ _
  · refine Keeps.ite ?_ ?_
    · exact Keeps.refl _ _
    · refine Keeps.ite ?_ ?_
      · refine Keeps.foldl _ _ ?_ ?_
        · refine Keeps.step ?_ State.wr_keeps (kb_k 302231454903657293676544 rfl rfl)
          exact Keeps.refl _ _
        · intro y_ a_ h_
          refine Keeps.step ?_ State.unitFails_keeps rfl
          with_reducible assumption
      · refine Keeps.step ?_ State.calChanged_keeps rfl
        refine Keeps.step ?_ State.traced_keeps rfl
        refine Keeps.foldl _ _ ?_ ?_
        · refine Keeps.foldl _ _ ?_ ?_
          · refine Keeps.step ?_ State.wr_keeps (kb_k 302231454903657293676544 rfl rfl)
            exact Keeps.refl _ _
          · intro y_ a_ h_
            refine Keeps.step ?_ State.putConv_keeps rfl
            with_reducible assumption
        · intro y_ a_ h_
          refine Keeps.step ?_ State.unitOk_keeps rfl
          with_reducible assumption

theorem State.unitDecide_keeps {m : Nat} {s x : State} {u reason : Nat} {put : State → State} (h : Keeps m s x)
    (hm : 340010386766614472228866 ||| m = m) (ha : ∀ y, Keeps m s y → Keeps m s (put y)) :
    Keeps m s (State.unitDecide x u reason put) := by
  unfold State.unitDecide
  exact Keeps.ite (h.step State.unitFails_keeps (or_trans rfl hm)) ((ha _ h).step State.unitOk_keeps (or_trans rfl hm))

theorem State.commitLevel_keeps {s : Sys2Proof.Machine.State} {c : Nat} {dgain : Nat} {dofs : Nat} {cgain : Nat}
    {cofs : Nat} {noise : Nat} {resid : Nat} {vref : Option Nat} : Keeps 9903860324669808813665222658 s
    (State.commitLevel s c dgain dofs cgain cofs noise resid vref) := by
  unfold State.commitLevel
  refine State.unitDecide_keeps ?_ rfl ?_
  · exact Keeps.refl _ _
  · intro y0_ h_
    refine Keeps.step ?_ State.calChanged_keeps rfl
    refine Keeps.step ?_ State.traced_keeps rfl
    refine Keeps.step ?_ State.wr_keeps (kb_k 9903520314283042199192993792 rfl rfl)
    refine Keeps.step ?_ State.wr_keeps (kb_k 9903520314283042199192993792 rfl rfl)
    refine Keeps.step ?_ State.wr_keeps (kb_k 9903520314283042199192993792 rfl rfl)
    refine Keeps.step ?_ State.wr_keeps (kb_k 9903520314283042199192993792 rfl rfl)
    with_reducible assumption

theorem State.commitCmp_keeps {s : Sys2Proof.Machine.State} {c : Nat} {ofsA : Nat} {ofsB : Nat} {width : Nat}
    {resid : Nat} : Keeps 9903860324669808813665222658 s (State.commitCmp s c ofsA ofsB width resid) := by
  unfold State.commitCmp
  refine State.unitDecide_keeps ?_ rfl ?_
  · exact Keeps.refl _ _
  · intro y0_ h_
    refine Keeps.step ?_ State.calChanged_keeps rfl
    refine Keeps.step ?_ State.wr_keeps (kb_k 9903520314283042199192993792 rfl rfl)
    refine Keeps.step ?_ State.wr_keeps (kb_k 9903520314283042199192993792 rfl rfl)
    with_reducible assumption

theorem State.commitImp_keeps {s : Sys2Proof.Machine.State} {c : Nat} {ztrim : Nat} {zres : Nat} {before : Nat}
    {spread : Nat} : Keeps 9903860324669808813665222658 s (State.commitImp s c ztrim zres before spread) := by
  unfold State.commitImp
  refine State.unitDecide_keeps ?_ rfl ?_
  · exact Keeps.refl _ _
  · intro y0_ h_
    refine Keeps.step ?_ State.calChanged_keeps rfl
    refine Keeps.step ?_ State.wr_keeps (kb_k 9903520314283042199192993792 rfl rfl)
    refine Keeps.step ?_ State.wr_keeps (kb_k 9903520314283042199192993792 rfl rfl)
    with_reducible assumption

theorem State.commitDeskew_keeps {s : Sys2Proof.Machine.State} {c : Nat} {tref : Bool} {edges : List
    Sys2Proof.EdgeMeas} {mon2 : Nat} : Keeps 340010386766614472228866 s (State.commitDeskew s c tref edges mon2) :=
    by
  unfold State.commitDeskew
  refine Keeps.ite ?_ ?_
  · exact Keeps.refl _ _
  · refine State.unitDecide_keeps ?_ rfl ?_
    · exact Keeps.refl _ _
    · intro y0_ h_
      refine Keeps.mkUpd ?_ ⟨Or.inr rfl, rfl, Or.inr rfl, Or.inr rfl, Or.inr rfl, Or.inr rfl, Or.inr rfl, Or.inr
          rfl, Or.inr rfl, Or.inr rfl, Or.inr rfl, Or.inr rfl, Or.inr rfl, Or.inr rfl, Or.inr rfl, Or.inr rfl,
          Or.inr rfl, Or.inr rfl, Or.inr rfl, Or.inr rfl, Or.inr rfl, Or.inr rfl, Or.inr rfl, Or.inr rfl, Or.inl
          rfl, Or.inr rfl, Or.inr rfl, Or.inr rfl, Or.inr rfl, Or.inr rfl, Or.inr rfl, Or.inr rfl, Or.inr rfl,
          Or.inr rfl, Or.inr rfl, Or.inr rfl, Or.inr rfl, Or.inr rfl, Or.inr rfl, Or.inr rfl, Or.inr rfl, Or.inr
          rfl, Or.inr rfl, Or.inr rfl, Or.inr rfl, Or.inr rfl, Nat.le_refl _, trivial, fun w => w, fun w => w, fun w
          => w, fun w => w, fun w => w, fun w => w, fun w => w, fun w => w, fun w => w, fun w => w, fun w => w, fun
          w => w, fun w => w⟩
      refine Keeps.step ?_ State.calChanged_keeps rfl
      refine Keeps.step ?_ State.wr_keeps (kb_k 302231454903657293676544 rfl rfl)
      refine Keeps.step ?_ State.wr_keeps (kb_k 302231454903657293676544 rfl rfl)
      refine Keeps.step ?_ State.wr_keeps (kb_k 302231454903657293676544 rfl rfl)
      refine Keeps.foldl _ _ ?_ ?_
      · with_reducible assumption
      · intro y_ a_ h_
        refine Keeps.step ?_ State.wr_keeps (kb_k 302231454903657293676544 rfl rfl)
        refine Keeps.step ?_ State.wr_keeps (kb_k 302231454903657293676544 rfl rfl)
        with_reducible assumption

theorem State.commitLoop_keeps {s : Sys2Proof.Machine.State} {n : Nat} {markers : List (List Nat)} : Keeps
    309825020208111683197016066 s (State.commitLoop s n markers) := by
  unfold State.commitLoop
  refine Keeps.ite ?_ ?_
  · refine State.unitDecide_keeps ?_ rfl ?_
    · exact Keeps.refl _ _
    · intro y0_ h_
      refine Keeps.step ?_ State.wr_keeps (kb_k 309485009821345068724781056 rfl rfl)
      with_reducible assumption
  · refine Keeps.ite ?_ ?_
    · refine Keeps.ite ?_ ?_
      · exact Keeps.refl _ _
      · refine Keeps.mkUpd ?_ ⟨Or.inr rfl, rfl, Or.inr rfl, Or.inr rfl, Or.inr rfl, Or.inr rfl, Or.inr rfl,
          Or.inr rfl, Or.inr rfl, Or.inr rfl, Or.inr rfl, Or.inr rfl, Or.inr rfl, Or.inr rfl, Or.inr rfl, Or.inr
          rfl, Or.inr rfl, Or.inr rfl, Or.inr rfl, Or.inr rfl, Or.inr rfl, Or.inr rfl, Or.inr rfl, Or.inr rfl,
          Or.inl rfl, Or.inr rfl, Or.inr rfl, Or.inr rfl, Or.inr rfl, Or.inr rfl, Or.inr rfl, Or.inr rfl, Or.inr
          rfl, Or.inr rfl, Or.inr rfl, Or.inr rfl, Or.inr rfl, Or.inr rfl, Or.inr rfl, Or.inr rfl, Or.inr rfl,
          Or.inr rfl, Or.inr rfl, Or.inr rfl, Or.inr rfl, Or.inr rfl, Nat.le_refl _, trivial, fun w => w, fun w =>
          w, fun w => w, fun w => w, fun w => w, fun w => w, fun w => w, fun w => w, fun w => w, fun w => w, fun w
          => w, fun w => w, fun w => w⟩
        refine Keeps.step ?_ State.amlSend_keeps rfl
        exact Keeps.refl _ _
    · refine State.unitDecide_keeps ?_ rfl ?_
      · refine Keeps.ite ?_ ?_
        · exact Keeps.refl _ _
        · refine Keeps.mkUpd ?_ ⟨Or.inr rfl, rfl, Or.inr rfl, Or.inr rfl, Or.inr rfl, Or.inr rfl, Or.inr rfl,
            Or.inr rfl, Or.inr rfl, Or.inr rfl, Or.inr rfl, Or.inr rfl, Or.inr rfl, Or.inr rfl, Or.inr rfl, Or.inr
            rfl, Or.inr rfl, Or.inr rfl, Or.inr rfl, Or.inr rfl, Or.inr rfl, Or.inr rfl, Or.inr rfl, Or.inr rfl,
            Or.inl rfl, Or.inr rfl, Or.inr rfl, Or.inr rfl, Or.inr rfl, Or.inr rfl, Or.inr rfl, Or.inr rfl, Or.inr
            rfl, Or.inr rfl, Or.inr rfl, Or.inr rfl, Or.inr rfl, Or.inr rfl, Or.inr rfl, Or.inr rfl, Or.inr rfl,
            Or.inr rfl, Or.inr rfl, Or.inr rfl, Or.inr rfl, Or.inr rfl, Nat.le_refl _, trivial, fun w => w, fun w =>
            w, fun w => w, fun w => w, fun w => w, fun w => w, fun w => w, fun w => w, fun w => w, fun w => w, fun w
            => w, fun w => w, fun w => w⟩
          refine Keeps.step ?_ State.amlSend_keeps rfl
          exact Keeps.refl _ _
      · intro y0_ h_
        refine Keeps.step ?_ State.wr_keeps (kb_k 309485009821345068724781056 rfl rfl)
        with_reducible assumption

theorem State.commitMcskew_keeps {s : Sys2Proof.Machine.State} {tref : Bool} {phase : Int} {fctrim : Nat} {dly :
    Nat} {spread : Nat} {resid : Nat} : Keeps 340157960719204148647938 s
    (State.commitMcskew s tref phase fctrim dly spread resid) := by
  unfold State.commitMcskew
  refine Keeps.ite ?_ ?_
  · refine Keeps.step ?_ State.unitFails_keeps rfl
    refine Keeps.ite ?_ ?_
    · exact Keeps.refl _ _
    · refine Keeps.mkUpd ?_ ⟨Or.inr rfl, rfl, Or.inr rfl, Or.inr rfl, Or.inr rfl, Or.inr rfl, Or.inr rfl, Or.inr
        rfl, Or.inr rfl, Or.inr rfl, Or.inr rfl, Or.inr rfl, Or.inr rfl, Or.inr rfl, Or.inr rfl, Or.inr rfl, Or.inr
        rfl, Or.inr rfl, Or.inr rfl, Or.inr rfl, Or.inr rfl, Or.inr rfl, Or.inr rfl, Or.inr rfl, Or.inl rfl, Or.inr
        rfl, Or.inr rfl, Or.inr rfl, Or.inr rfl, Or.inr rfl, Or.inr rfl, Or.inr rfl, Or.inr rfl, Or.inr rfl, Or.inr
        rfl, Or.inr rfl, Or.inr rfl, Or.inr rfl, Or.inr rfl, Or.inr rfl, Or.inr rfl, Or.inr rfl, Or.inr rfl, Or.inr
        rfl, Or.inr rfl, Or.inr rfl, Nat.le_refl _, trivial, fun w => w, fun w => w, fun w => w, fun w => w, fun w
        => w, fun w => w, fun w => w, fun w => w, fun w => w, fun w => w, fun w => w, fun w => w, fun w => w⟩
      refine Keeps.step ?_ State.amlSend_keeps rfl
      exact Keeps.refl _ _
  · refine Keeps.ite ?_ ?_
    · refine Keeps.ite ?_ ?_
      · exact Keeps.refl _ _
      · refine Keeps.mkUpd ?_ ⟨Or.inr rfl, rfl, Or.inr rfl, Or.inr rfl, Or.inr rfl, Or.inr rfl, Or.inr rfl,
          Or.inr rfl, Or.inr rfl, Or.inr rfl, Or.inr rfl, Or.inr rfl, Or.inr rfl, Or.inr rfl, Or.inr rfl, Or.inr
          rfl, Or.inr rfl, Or.inr rfl, Or.inr rfl, Or.inr rfl, Or.inr rfl, Or.inr rfl, Or.inr rfl, Or.inr rfl,
          Or.inl rfl, Or.inr rfl, Or.inr rfl, Or.inr rfl, Or.inr rfl, Or.inr rfl, Or.inr rfl, Or.inr rfl, Or.inr
          rfl, Or.inr rfl, Or.inr rfl, Or.inr rfl, Or.inr rfl, Or.inr rfl, Or.inr rfl, Or.inr rfl, Or.inr rfl,
          Or.inr rfl, Or.inr rfl, Or.inr rfl, Or.inr rfl, Or.inr rfl, Nat.le_refl _, trivial, fun w => w, fun w =>
          w, fun w => w, fun w => w, fun w => w, fun w => w, fun w => w, fun w => w, fun w => w, fun w => w, fun w
          => w, fun w => w, fun w => w⟩
        refine Keeps.step ?_ State.amlSend_keeps rfl
        exact Keeps.refl _ _
    · refine State.unitDecide_keeps ?_ rfl ?_
      · refine Keeps.ite ?_ ?_
        · exact Keeps.refl _ _
        · refine Keeps.mkUpd ?_ ⟨Or.inr rfl, rfl, Or.inr rfl, Or.inr rfl, Or.inr rfl, Or.inr rfl, Or.inr rfl,
            Or.inr rfl, Or.inr rfl, Or.inr rfl, Or.inr rfl, Or.inr rfl, Or.inr rfl, Or.inr rfl, Or.inr rfl, Or.inr
            rfl, Or.inr rfl, Or.inr rfl, Or.inr rfl, Or.inr rfl, Or.inr rfl, Or.inr rfl, Or.inr rfl, Or.inr rfl,
            Or.inl rfl, Or.inr rfl, Or.inr rfl, Or.inr rfl, Or.inr rfl, Or.inr rfl, Or.inr rfl, Or.inr rfl, Or.inr
            rfl, Or.inr rfl, Or.inr rfl, Or.inr rfl, Or.inr rfl, Or.inr rfl, Or.inr rfl, Or.inr rfl, Or.inr rfl,
            Or.inr rfl, Or.inr rfl, Or.inr rfl, Or.inr rfl, Or.inr rfl, Nat.le_refl _, trivial, fun w => w, fun w =>
            w, fun w => w, fun w => w, fun w => w, fun w => w, fun w => w, fun w => w, fun w => w, fun w => w, fun w
            => w, fun w => w, fun w => w⟩
          refine Keeps.step ?_ State.amlSend_keeps rfl
          exact Keeps.refl _ _
      · intro y0_ h_
        refine Keeps.step ?_ State.wr_keeps (kb_k 302231454903657293676544 rfl rfl)
        refine Keeps.step ?_ State.wr_keeps (kb_k 147573952589676412928 rfl rfl)
        refine Keeps.ite ?_ ?_
        · with_reducible assumption
        · refine Keeps.step ?_ State.wr_keeps (kb_k 147573952589676412928 rfl rfl)
          refine Keeps.step ?_ State.wr_keeps (kb_k 302231454903657293676544 rfl rfl)
          with_reducible assumption

theorem State.commitEye_keeps {s : Sys2Proof.Machine.State} {l : Nat} {width : Nat} : Keeps
    340010386766614472228866 s (State.commitEye s l width) := by
  unfold State.commitEye
  refine Keeps.ite ?_ ?_
  · refine Keeps.step ?_ State.unitOk_keeps rfl
    refine Keeps.step ?_ State.wr_keeps (kb_k 302231454903657293676544 rfl rfl)
    refine Keeps.step ?_ State.wr_keeps (kb_k 302231454903657293676544 rfl rfl)
    refine Keeps.step ?_ State.wr_keeps (kb_k 302231454903657293676544 rfl rfl)
    exact Keeps.refl _ _
  · refine Keeps.step ?_ State.unitOk_keeps rfl
    refine Keeps.step ?_ State.wr_keeps (kb_k 302231454903657293676544 rfl rfl)
    exact Keeps.refl _ _

theorem State.commitSysz_keeps {s : Sys2Proof.Machine.State} {i : Nat} {mean : Int} {noise : Nat} : Keeps
    340010386766614472228866 s (State.commitSysz s i mean noise) := by
  unfold State.commitSysz
  refine State.unitDecide_keeps ?_ rfl ?_
  · exact Keeps.refl _ _
  · intro y0_ h_
    refine Keeps.mkUpd ?_ ⟨Or.inr rfl, rfl, Or.inr rfl, Or.inr rfl, Or.inr rfl, Or.inr rfl, Or.inr rfl, Or.inr
        rfl, Or.inr rfl, Or.inr rfl, Or.inr rfl, Or.inr rfl, Or.inr rfl, Or.inr rfl, Or.inr rfl, Or.inr rfl, Or.inr
        rfl, Or.inr rfl, Or.inr rfl, Or.inr rfl, Or.inr rfl, Or.inr rfl, Or.inr rfl, Or.inr rfl, Or.inl rfl, Or.inr
        rfl, Or.inr rfl, Or.inr rfl, Or.inr rfl, Or.inr rfl, Or.inr rfl, Or.inr rfl, Or.inr rfl, Or.inr rfl, Or.inr
        rfl, Or.inr rfl, Or.inr rfl, Or.inr rfl, Or.inr rfl, Or.inr rfl, Or.inr rfl, Or.inr rfl, Or.inr rfl, Or.inr
        rfl, Or.inr rfl, Or.inr rfl, Nat.le_refl _, trivial, fun w => w, fun w => w, fun w => w, fun w => w, fun w
        => w, fun w => w, fun w => w, fun w => w, fun w => w, fun w => w, fun w => w, fun w => w, fun w => w⟩
    refine Keeps.step ?_ State.wr_keeps (kb_k 302231454903657293676544 rfl rfl)
    refine Keeps.step ?_ State.wr_keeps (kb_k 302231454903657293676544 rfl rfl)
    with_reducible assumption

theorem State.commitSysf_keeps {s : Sys2Proof.Machine.State} {i : Nat} {f : Int} {noise : Nat} : Keeps
    77711262842102881653424130 s (State.commitSysf s i f noise) := by
  unfold State.commitSysf
  refine State.unitDecide_keeps ?_ rfl ?_
  · refine Keeps.step ?_ State.wr_keeps (kb_k 302231454903657293676544 rfl rfl)
    exact Keeps.refl _ _
  · intro y0_ h_
    refine Keeps.step ?_ State.calChanged_keeps rfl
    refine Keeps.step ?_ State.wr_keeps (kb_k 77371252455336267181195264 rfl rfl)
    refine Keeps.step ?_ State.wr_keeps (kb_k 77371252455336267181195264 rfl rfl)
    with_reducible assumption

theorem State.unitCommit_keeps {s : Sys2Proof.Machine.State} {m : Sys2Proof.UnitMeas} : Keeps
    10329402360748110872838215682 s (State.unitCommit s m) := by
  unfold State.unitCommit
  split
  · refine Keeps.step ?_ State.commitConv_keeps rfl
    exact Keeps.refl _ _
  · refine Keeps.step ?_ State.commitLevel_keeps rfl
    exact Keeps.refl _ _
  · refine Keeps.step ?_ State.commitCmp_keeps rfl
    exact Keeps.refl _ _
  · refine Keeps.step ?_ State.commitImp_keeps rfl
    exact Keeps.refl _ _
  · refine Keeps.step ?_ State.commitDeskew_keeps rfl
    exact Keeps.refl _ _
  · refine Keeps.step ?_ State.commitLoop_keeps rfl
    exact Keeps.refl _ _
  · refine Keeps.step ?_ State.commitMcskew_keeps rfl
    exact Keeps.refl _ _
  · refine Keeps.step ?_ State.commitEye_keeps rfl
    exact Keeps.refl _ _
  · refine Keeps.step ?_ State.commitSysz_keeps rfl
    exact Keeps.refl _ _
  · refine Keeps.step ?_ State.commitSysf_keeps rfl
    exact Keeps.refl _ _

theorem execUnitCommit_keeps {m : Sys2Proof.UnitMeas} {s : Sys2Proof.Machine.State} : ResKeeps tgtNext
    10329402360748110872838215682 s (execUnitCommit m s) := by
  unfold execUnitCommit
  refine ResKeeps.some rfl ?_
  refine Keeps.ite ?_ ?_
  · refine Keeps.step ?_ State.unitCommit_keeps rfl
    exact Keeps.refl _ _
  · exact Keeps.refl _ _

theorem State.putWord_keeps {s : Sys2Proof.Machine.State} {p : Sys2Proof.Page} {off : Nat} {word : Nat} : Keeps
    (kindBit p ||| 2) s (State.putWord s p off word) := by
  unfold State.putWord
  refine Keeps.foldl _ _ ?_ ?_
  · exact Keeps.refl _ _
  · intro y_ a_ h_
    refine Keeps.step ?_ State.wr_keeps (kb_self _ rfl)
    with_reducible assumption

theorem State.putSection_keeps {s : Sys2Proof.Machine.State} {x : Sys2Proof.Machine.ImgSection} : Keeps
    79228162495817593519834398722 s (State.putSection s x) := by
  unfold State.putSection
  refine Keeps.ite ?_ ?_
  · refine Keeps.step ?_ State.wr_keeps (kb_k 302231454903657293676544 rfl rfl)
    exact Keeps.refl _ _
  · refine Keeps.ite ?_ ?_
    · refine Keeps.foldl _ _ ?_ ?_
      · refine Keeps.foldl _ _ ?_ ?_
        · exact Keeps.refl _ _
        · intro y_ a_ h_
          refine Keeps.step ?_ State.putWord_keeps (kb_any rfl rfl)
          with_reducible assumption
      · intro y_ a_ h_
        refine Keeps.step ?_ State.wr_keeps (kb_k 302231454903657293676544 rfl rfl)
        with_reducible assumption
    · refine Keeps.ite ?_ ?_
      · refine Keeps.foldl _ _ ?_ ?_
        · refine Keeps.foldl _ _ ?_ ?_
          · exact Keeps.refl _ _
          · intro y_ a_ h_
            refine Keeps.step ?_ State.putWord_keeps (kb_any rfl rfl)
            with_reducible assumption
        · intro y_ a_ h_
          refine Keeps.step ?_ State.wrBit_keeps (kb_k 302231454903657293676544 rfl rfl)
          with_reducible assumption
      · refine Keeps.ite ?_ ?_
        · refine Keeps.foldl _ _ ?_ ?_
          · refine Keeps.foldl _ _ ?_ ?_
            · exact Keeps.refl _ _
            · intro y_ a_ h_
              refine Keeps.step ?_ State.putWord_keeps (kb_any rfl rfl)
              with_reducible assumption
          · intro y_ a_ h_
            refine Keeps.step ?_ State.wr_keeps (kb_k 302231454903657293676544 rfl rfl)
            with_reducible assumption
        · refine Keeps.foldl _ _ ?_ ?_
          · refine Keeps.foldl _ _ ?_ ?_
            · exact Keeps.refl _ _
            · intro y_ a_ h_
              refine Keeps.step ?_ State.putWord_keeps (kb_any rfl rfl)
              with_reducible assumption
          · intro y_ a_ h_
            refine Keeps.step ?_ State.wr_keeps (kb_k 302231454903657293676544 rfl rfl)
            with_reducible assumption

theorem State.loadImage_keeps {s : Sys2Proof.Machine.State} {bs : List Sys2Proof.Byte} {readOk : Bool} : Keeps
    79228162495817593519851175938 s (State.loadImage s bs readOk) := by
  unfold State.loadImage
  refine Keeps.ite ?_ ?_
  · refine Keeps.step ?_ State.wr_keeps (kb_k 302231454903657293676544 rfl rfl)
    exact Keeps.refl _ _
  · split
    · refine Keeps.ite ?_ ?_
      · refine Keeps.step ?_ State.wr_keeps (kb_k 302231454903657293676544 rfl rfl)
        exact Keeps.refl _ _
      · refine Keeps.mkUpd ?_ ⟨Or.inr rfl, rfl, Or.inr rfl, Or.inr rfl, Or.inr rfl, Or.inr rfl, Or.inr rfl,
          Or.inr rfl, Or.inr rfl, Or.inr rfl, Or.inr rfl, Or.inr rfl, Or.inr rfl, Or.inr rfl, Or.inr rfl, Or.inr
          rfl, Or.inr rfl, Or.inr rfl, Or.inr rfl, Or.inr rfl, Or.inr rfl, Or.inr rfl, Or.inr rfl, Or.inr rfl,
          Or.inl rfl, Or.inr rfl, Or.inr rfl, Or.inr rfl, Or.inr rfl, Or.inr rfl, Or.inr rfl, Or.inr rfl, Or.inr
          rfl, Or.inr rfl, Or.inr rfl, Or.inr rfl, Or.inr rfl, Or.inr rfl, Or.inr rfl, Or.inr rfl, Or.inr rfl,
          Or.inr rfl, Or.inr rfl, Or.inr rfl, Or.inr rfl, Or.inr rfl, Nat.le_refl _, trivial, fun w => w, fun w =>
          w, fun w => w, fun w => w, fun w => w, fun w => w, fun w => w, fun w => w, fun w => w, fun w => w, fun w
          => w, fun w => w, fun w => w⟩
        refine Keeps.step ?_ State.wr_keeps (kb_k 302231454903657293676544 rfl rfl)
        refine Keeps.foldl _ _ ?_ ?_
        · refine Keeps.step ?_ State.wr_keeps (kb_k 302231454903657293676544 rfl rfl)
          exact Keeps.refl _ _
        · intro y_ a_ h_
          refine Keeps.step ?_ State.putSection_keeps rfl
          with_reducible assumption

theorem State.flashErase_keeps {s : Sys2Proof.Machine.State} : Keeps 35184372088832 s (State.flashErase s) := by
  unfold State.flashErase
  refine Keeps.mkUpd ?_ ⟨Or.inr rfl, rfl, Or.inr rfl, Or.inr rfl, Or.inr rfl, Or.inr rfl, Or.inr rfl, Or.inr
      rfl, Or.inr rfl, Or.inr rfl, Or.inr rfl, Or.inr rfl, Or.inr rfl, Or.inr rfl, Or.inr rfl, Or.inr rfl, Or.inr
      rfl, Or.inr rfl, Or.inr rfl, Or.inr rfl, Or.inr rfl, Or.inr rfl, Or.inr rfl, Or.inr rfl, Or.inr rfl, Or.inr
      rfl, Or.inr rfl, Or.inr rfl, Or.inr rfl, Or.inr rfl, Or.inr rfl, Or.inr rfl, Or.inr rfl, Or.inr rfl, Or.inr
      rfl, Or.inr rfl, Or.inr rfl, Or.inr rfl, Or.inr rfl, Or.inr rfl, Or.inr rfl, Or.inr rfl, Or.inr rfl, Or.inr
      rfl, Or.inl rfl, Or.inr rfl, Nat.le_refl _, trivial, fun w => w, fun w => w, fun w => w, fun w => w, fun w =>
      w, fun w => w, fun w => w, fun w => w, fun w => w, fun w => w,
      (by intro w_; repeat' first | with_reducible assumption | with_reducible refine tabWf_memPutBytes _ _ _ ?_ | with_reducible refine tabWf_memPutNat _ _ _ _ ?_ | with_reducible refine tabWf_memPut _ _ _ ?_ | with_reducible refine tabWf_tabPut _ _ _ _ ?_ | with_reducible refine tabWf_tabErase _ _ _ ?_ | with_reducible refine tabWf_filter _ _ _ ?_ | with_reducible refine tabWf_foldl _ _ _ ?_ ?_ | (intro m_ a_ h_) | exact rfl | split),
      fun w => w, fun w => w⟩
  exact Keeps.refl _ _

theorem State.imageStart_keeps {s : Sys2Proof.Machine.State} {k : Nat} : Keeps 302231454938841682542594 s
    (State.imageStart s k) := by
  unfold State.imageStart
  refine Keeps.ite ?_ ?_
  · refine Keeps.step ?_ State.wr_keeps (kb_k 302231454903657293676544 rfl rfl)
    exact Keeps.refl _ _
  · refine Keeps.ite ?_ ?_
    · refine Keeps.step ?_ State.flashErase_keeps rfl
      refine Keeps.mkUpd ?_ ⟨Or.inr rfl, rfl, Or.inr rfl, Or.inr rfl, Or.inr rfl, Or.inr rfl, Or.inr rfl, Or.inr
          rfl, Or.inr rfl, Or.inr rfl, Or.inr rfl, Or.inr rfl, Or.inr rfl, Or.inr rfl, Or.inr rfl, Or.inr rfl,
          Or.inr rfl, Or.inr rfl, Or.inr rfl, Or.inr rfl, Or.inr rfl, Or.inr rfl, Or.inr rfl, Or.inr rfl, Or.inl
          rfl, Or.inr rfl, Or.inr rfl, Or.inr rfl, Or.inr rfl, Or.inr rfl, Or.inr rfl, Or.inr rfl, Or.inr rfl,
          Or.inr rfl, Or.inr rfl, Or.inr rfl, Or.inr rfl, Or.inr rfl, Or.inr rfl, Or.inr rfl, Or.inr rfl, Or.inr
          rfl, Or.inr rfl, Or.inr rfl, Or.inr rfl, Or.inr rfl, Nat.le_refl _, trivial, fun w => w, fun w => w, fun w
          => w, fun w => w, fun w => w, fun w => w, fun w => w, fun w => w, fun w => w, fun w => w, fun w => w, fun
          w => w, fun w => w⟩
      refine Keeps.step ?_ State.wr_keeps (kb_k 302231454903657293676544 rfl rfl)
      exact Keeps.refl _ _
    · refine Keeps.mkUpd ?_ ⟨Or.inr rfl, rfl, Or.inr rfl, Or.inr rfl, Or.inr rfl, Or.inr rfl, Or.inr rfl, Or.inr
        rfl, Or.inr rfl, Or.inr rfl, Or.inr rfl, Or.inr rfl, Or.inr rfl, Or.inr rfl, Or.inr rfl, Or.inr rfl, Or.inr
        rfl, Or.inr rfl, Or.inr rfl, Or.inr rfl, Or.inr rfl, Or.inr rfl, Or.inr rfl, Or.inr rfl, Or.inl rfl, Or.inr
        rfl, Or.inr rfl, Or.inr rfl, Or.inr rfl, Or.inr rfl, Or.inr rfl, Or.inr rfl, Or.inr rfl, Or.inr rfl, Or.inr
        rfl, Or.inr rfl, Or.inr rfl, Or.inr rfl, Or.inr rfl, Or.inr rfl, Or.inr rfl, Or.inr rfl, Or.inr rfl, Or.inr
        rfl, Or.inr rfl, Or.inr rfl, Nat.le_refl _, trivial, fun w => w, fun w => w, fun w => w, fun w => w, fun w
        => w, fun w => w, fun w => w, fun w => w, fun w => w, fun w => w, fun w => w, fun w => w, fun w => w⟩
      refine Keeps.step ?_ State.wr_keeps (kb_k 302231454903657293676544 rfl rfl)
      exact Keeps.refl _ _

theorem State.imgCtlWrite_keeps {s : Sys2Proof.Machine.State} {r : Sys2Proof.Requester} {word : Nat} : Keeps
    302231454938843830026246 s (State.imgCtlWrite s r word) := by
  unfold State.imgCtlWrite
  refine State.writeWith_keeps ?_ (kb_k 302231454903657293676544 rfl rfl) ?_
  · exact Keeps.refl _ _
  · intro y0_ h_
    refine Keeps.foldl _ _ ?_ ?_
    · with_reducible assumption
    · intro y_ a_ h_
      refine Keeps.step ?_ State.imageStart_keeps rfl
      with_reducible assumption

theorem execImgload_keeps {r : Sys2Proof.Requester} {s : Sys2Proof.Machine.State} : ResKeeps tgtNext
    302231454938843830026246 s (execImgload r s) := by
  unfold execImgload
  refine ResKeeps.some rfl ?_
  refine Keeps.step ?_ State.imgCtlWrite_keeps rfl
  exact Keeps.refl _ _

theorem execFlashload_keeps {r : Sys2Proof.Requester} {s : Sys2Proof.Machine.State} : ResKeeps tgtNext
    302231454938843830026246 s (execFlashload r s) := by
  unfold execFlashload
  refine ResKeeps.some rfl ?_
  refine Keeps.step ?_ State.imgCtlWrite_keeps rfl
  exact Keeps.refl _ _

theorem execImgsave_keeps {r : Sys2Proof.Requester} {s : Sys2Proof.Machine.State} : ResKeeps tgtNext
    302231454938843830026246 s (execImgsave r s) := by
  unfold execImgsave
  refine ResKeeps.some rfl ?_
  refine Keeps.step ?_ State.imgCtlWrite_keeps rfl
  exact Keeps.refl _ _

theorem execFlashsave_keeps {r : Sys2Proof.Requester} {s : Sys2Proof.Machine.State} : ResKeeps tgtNext
    302231454938843830026246 s (execFlashsave r s) := by
  unfold execFlashsave
  refine ResKeeps.some rfl ?_
  refine Keeps.step ?_ State.imgCtlWrite_keeps rfl
  exact Keeps.refl _ _

theorem State.imageEnd_keeps {s : Sys2Proof.Machine.State} {k : Nat} {data : List Sys2Proof.Byte} {readOk :
    Bool} : Keeps 79228162495817699072967442434 s (State.imageEnd s k data readOk) := by
  unfold State.imageEnd
  refine Keeps.ite ?_ ?_
  · refine Keeps.step ?_ State.wr_keeps (kb_k 302231454903657293676544 rfl rfl)
    refine Keeps.step ?_ State.hostWrite_keeps rfl
    exact Keeps.refl _ _
  · refine Keeps.ite ?_ ?_
    · refine Keeps.step ?_ State.loadImage_keeps rfl
      exact Keeps.refl _ _
    · refine Keeps.ite ?_ ?_
      · split
        · refine Keeps.step ?_ State.loadImage_keeps rfl
          exact Keeps.refl _ _
        · refine Keeps.step ?_ State.loadImage_keeps rfl
          exact Keeps.refl _ _
      · refine Keeps.mkUpd ?_ ⟨Or.inr rfl, rfl, Or.inr rfl, Or.inr rfl, Or.inr rfl, Or.inr rfl, Or.inr rfl,
          Or.inr rfl, Or.inr rfl, Or.inr rfl, Or.inr rfl, Or.inr rfl, Or.inr rfl, Or.inr rfl, Or.inr rfl, Or.inr
          rfl, Or.inr rfl, Or.inr rfl, Or.inr rfl, Or.inr rfl, Or.inr rfl, Or.inr rfl, Or.inr rfl, Or.inr rfl,
          Or.inr rfl, Or.inr rfl, Or.inr rfl, Or.inr rfl, Or.inr rfl, Or.inr rfl, Or.inr rfl, Or.inr rfl, Or.inr
          rfl, Or.inr rfl, Or.inr rfl, Or.inr rfl, Or.inr rfl, Or.inr rfl, Or.inr rfl, Or.inr rfl, Or.inr rfl,
          Or.inr rfl, Or.inr rfl, Or.inr rfl, Or.inl rfl, Or.inr rfl, Nat.le_refl _, trivial, fun w => w, fun w =>
          w, fun w => w, fun w => w, fun w => w, fun w => w, fun w => w, fun w => w, fun w => w, fun w => w,
          (by intro w_; repeat' first | with_reducible assumption | with_reducible refine tabWf_memPutBytes _ _ _ ?_ | with_reducible refine tabWf_memPutNat _ _ _ _ ?_ | with_reducible refine tabWf_memPut _ _ _ ?_ | with_reducible refine tabWf_tabPut _ _ _ _ ?_ | with_reducible refine tabWf_tabErase _ _ _ ?_ | with_reducible refine tabWf_filter _ _ _ ?_ | with_reducible refine tabWf_foldl _ _ _ ?_ ?_ | (intro m_ a_ h_) | exact rfl | split),
          fun w => w, fun w => w⟩
        exact Keeps.refl _ _

theorem execImageOperationDone_keeps {data : List Sys2Proof.Byte} {readOk : Bool} {s : Sys2Proof.Machine.State}
    : ResKeeps tgtNext 79228162495817699073235877890 s (execImageOperationDone data readOk s) := by
  unfold execImageOperationDone
  split
  · refine ResKeeps.ite ?_ ?_
    · refine ResKeeps.some rfl ?_
      exact Keeps.refl _ _
    · refine ResKeeps.some rfl ?_
      refine Keeps.step ?_ State.raiseCause_keeps rfl
      refine Keeps.mkUpd ?_ ⟨Or.inr rfl, rfl, Or.inr rfl, Or.inr rfl, Or.inr rfl, Or.inr rfl, Or.inr rfl, Or.inr
          rfl, Or.inr rfl, Or.inr rfl, Or.inr rfl, Or.inr rfl, Or.inr rfl, Or.inr rfl, Or.inr rfl, Or.inr rfl,
          Or.inr rfl, Or.inr rfl, Or.inr rfl, Or.inr rfl, Or.inr rfl, Or.inr rfl, Or.inr rfl, Or.inr rfl, Or.inl
          rfl, Or.inr rfl, Or.inr rfl, Or.inr rfl, Or.inr rfl, Or.inr rfl, Or.inr rfl, Or.inr rfl, Or.inr rfl,
          Or.inr rfl, Or.inr rfl, Or.inr rfl, Or.inr rfl, Or.inr rfl, Or.inr rfl, Or.inr rfl, Or.inr rfl, Or.inr
          rfl, Or.inr rfl, Or.inr rfl, Or.inr rfl, Or.inr rfl, Nat.le_refl _, trivial, fun w => w, fun w => w, fun w
          => w, fun w => w, fun w => w, fun w => w, fun w => w, fun w => w, fun w => w, fun w => w, fun w => w, fun
          w => w, fun w => w⟩
      refine Keeps.step ?_ State.wr_keeps (kb_k 302231454903657293676544 rfl rfl)
      refine Keeps.step ?_ State.wr_keeps (kb_k 302231454903657293676544 rfl rfl)
      refine Keeps.step ?_ State.imageEnd_keeps rfl
      exact Keeps.refl _ _
  · refine ResKeeps.some rfl ?_
    exact Keeps.refl _ _

theorem State.winnLost_keeps {s : Sys2Proof.Machine.State} : Keeps 16777216 s (State.winnLost s) := by
  unfold State.winnLost
  refine Keeps.mkUpd ?_ ⟨Or.inr rfl, rfl, Or.inr rfl, Or.inr rfl, Or.inr rfl, Or.inr rfl, Or.inr rfl, Or.inr
      rfl, Or.inr rfl, Or.inr rfl, Or.inr rfl, Or.inr rfl, Or.inr rfl, Or.inr rfl, Or.inr rfl, Or.inr rfl, Or.inr
      rfl, Or.inr rfl, Or.inr rfl, Or.inr rfl, Or.inr rfl, Or.inr rfl, Or.inr rfl, Or.inr rfl, Or.inl rfl, Or.inr
      rfl, Or.inr rfl, Or.inr rfl, Or.inr rfl, Or.inr rfl, Or.inr rfl, Or.inr rfl, Or.inr rfl, Or.inr rfl, Or.inr
      rfl, Or.inr rfl, Or.inr rfl, Or.inr rfl, Or.inr rfl, Or.inr rfl, Or.inr rfl, Or.inr rfl, Or.inr rfl, Or.inr
      rfl, Or.inr rfl, Or.inr rfl, Nat.le_refl _, trivial, fun w => w, fun w => w, fun w => w, fun w => w, fun w =>
      w, fun w => w, fun w => w, fun w => w, fun w => w, fun w => w, fun w => w, fun w => w, fun w => w⟩
  exact Keeps.refl _ _

end Sys2Proof.Machine
end

