-- ==== Sys2Proof/Laws/FrameLifecycle.lean ====
section
/-! SUPPORT. What each function of Machine/Lifecycle.lean may change: one mask of `Keeps` for each. -/

namespace Sys2Proof.Machine

open Reg

theorem State.ctxDrop_keeps {s : Sys2Proof.Machine.State} {n : Nat} : Keeps 4194304 s (State.ctxDrop s n) := by
  unfold State.ctxDrop
  refine Keeps.step ?_ State.modUctx_keeps rfl
  exact Keeps.refl _ _

theorem State.sheafLost_keeps {s : Sys2Proof.Machine.State} {k : Nat} : Keeps 16480964799246333290367146934 s
    (State.sheafLost s k) := by
  unfold State.sheafLost
  refine Keeps.step ?_ State.sheafPair_keeps rfl
  refine Keeps.foldl _ _ ?_ ?_
  · refine Keeps.mkUpd ?_ ⟨Or.inr rfl, rfl, Or.inr rfl, Or.inr rfl, Or.inr rfl, Or.inl rfl, Or.inr rfl, Or.inr
      rfl, Or.inr rfl, Or.inr rfl, Or.inr rfl, Or.inr rfl, Or.inr rfl, Or.inr rfl, Or.inr rfl, Or.inr rfl, Or.inr
      rfl, Or.inr rfl, Or.inr rfl, Or.inr rfl, Or.inr rfl, Or.inr rfl, Or.inr rfl, Or.inr rfl, Or.inr rfl, Or.inr
      rfl, Or.inr rfl, Or.inr rfl, Or.inr rfl, Or.inr rfl, Or.inr rfl, Or.inr rfl, Or.inr rfl, Or.inr rfl, Or.inr
      rfl, Or.inr rfl, Or.inr rfl, Or.inr rfl, Or.inr rfl, Or.inr rfl, Or.inr rfl, Or.inr rfl, Or.inr rfl, Or.inr
      rfl, Or.inr rfl, Or.inr rfl, Nat.le_refl _, trivial, fun w => w, fun w => w, fun w => w, fun w => w, fun w =>
      w, fun w => w, fun w => w, fun w => w, fun w => w, fun w => w, fun w => w, fun w => w, fun w => w⟩
    refine Keeps.foldl _ _ ?_ ?_
    · exact Keeps.refl _ _
    · intro y_ a_ h_
      refine Keeps.step ?_ State.siteEnd_keeps rfl
      with_reducible assumption
  · intro y_ a_ h_
    refine Keeps.step ?_ State.modCh_keeps rfl
    with_reducible assumption

theorem State.sqLost_keeps {s : Sys2Proof.Machine.State} {n : Nat} : Keeps 16480964799246333290367146902 s
    (State.sqLost s n) := by
  unfold State.sqLost
  refine Keeps.step ?_ State.ctxDrop_keeps rfl
  refine Keeps.step ?_ State.modSq_keeps rfl
  refine Keeps.step ?_ State.siteEnd_keeps rfl
  exact Keeps.refl _ _

theorem State.scanLost_keeps {s : Sys2Proof.Machine.State} : Keeps 38685626227668133590728706 s (State.scanLost s) := by
  unfold State.scanLost
  refine Keeps.mkUpd ?_ ⟨Or.inr rfl, rfl, Or.inr rfl, Or.inr rfl, Or.inr rfl, Or.inr rfl, Or.inr rfl, Or.inr
      rfl, Or.inr rfl, Or.inr rfl, Or.inr rfl, Or.inr rfl, Or.inr rfl, Or.inr rfl, Or.inr rfl, Or.inr rfl, Or.inr
      rfl, Or.inl rfl, Or.inr rfl, Or.inr rfl, Or.inr rfl, Or.inr rfl, Or.inr rfl, Or.inr rfl, Or.inr rfl, Or.inr
      rfl, Or.inr rfl, Or.inr rfl, Or.inr rfl, Or.inr rfl, Or.inr rfl, Or.inr rfl, Or.inr rfl, Or.inr rfl, Or.inr
      rfl, Or.inr rfl, Or.inr rfl, Or.inr rfl, Or.inr rfl, Or.inr rfl, Or.inr rfl, Or.inr rfl, Or.inr rfl, Or.inr
      rfl, Or.inr rfl, Or.inr rfl, Nat.le_refl _, trivial, fun w => w, fun w => w, fun w => w, fun w => w, fun w =>
      w, fun w => w, fun w => w, fun w => w, fun w => w, fun w => w, fun w => w, fun w => w, fun w => w⟩
  refine Keeps.step ?_ State.scanFree_keeps rfl
  exact Keeps.refl _ _

theorem State.asLost_keeps {s : Sys2Proof.Machine.State} {n : Nat} : Keeps 270837162525540991808503814 s
    (State.asLost s n) := by
  unfold State.asLost
  refine Keeps.ite ?_ ?_
  · refine Keeps.step ?_ State.acqAbort_keeps rfl
    refine Keeps.step ?_ State.sliceLost_keeps rfl
    exact Keeps.refl _ _
  · refine Keeps.step ?_ State.sliceLost_keeps rfl
    exact Keeps.refl _ _

theorem State.amlLost_keeps {s : Sys2Proof.Machine.State} {p : Nat} : Keeps 16480964799246333290367146902 s
    (State.amlLost s p) := by
  unfold State.amlLost
  refine Keeps.ite ?_ ?_
  · refine Keeps.foldl _ _ ?_ ?_
    · refine Keeps.step ?_ State.amlFresh_keeps rfl
      exact Keeps.refl _ _
    · intro y_ a_ h_
      refine Keeps.ite ?_ ?_
      · refine Keeps.step ?_ State.siteEnd_keeps rfl
        with_reducible assumption
      · with_reducible assumption
  · refine Keeps.step ?_ State.amlFresh_keeps rfl
    exact Keeps.refl _ _

theorem State.dcLost_keeps {s : Sys2Proof.Machine.State} {n : Nat} : Keeps 9860301216231821358989314 s
    (State.dcLost s n) := by
  unfold State.dcLost
  refine Keeps.foldl _ _ ?_ ?_
  · refine Keeps.ite ?_ ?_
    · refine Keeps.step ?_ State.dcSelfRefresh_keeps rfl
      exact Keeps.refl _ _
    · exact Keeps.refl _ _
  · intro y_ a_ h_
    refine Keeps.step ?_ State.ucAbandon_keeps rfl
    with_reducible assumption

theorem State.timeLost_keeps {s : Sys2Proof.Machine.State} : Keeps 1073741824 s (State.timeLost s) := by
  unfold State.timeLost
  refine Keeps.mkUpd ?_ ⟨Or.inr rfl, rfl, Or.inr rfl, Or.inr rfl, Or.inr rfl, Or.inr rfl, Or.inr rfl, Or.inr
      rfl, Or.inr rfl, Or.inr rfl, Or.inr rfl, Or.inr rfl, Or.inr rfl, Or.inr rfl, Or.inr rfl, Or.inr rfl, Or.inr
      rfl, Or.inr rfl, Or.inr rfl, Or.inr rfl, Or.inr rfl, Or.inr rfl, Or.inr rfl, Or.inr rfl, Or.inr rfl, Or.inr
      rfl, Or.inr rfl, Or.inr rfl, Or.inr rfl, Or.inr rfl, Or.inl rfl, Or.inr rfl, Or.inr rfl, Or.inr rfl, Or.inr
      rfl, Or.inr rfl, Or.inr rfl, Or.inr rfl, Or.inr rfl, Or.inr rfl, Or.inr rfl, Or.inr rfl, Or.inr rfl, Or.inr
      rfl, Or.inr rfl, Or.inr rfl, Nat.le_refl _, trivial, fun w => w, fun w => w, fun w => w, fun w => w, fun w =>
      w, fun w => w, fun w => w, fun w => w, fun w => w, fun w => w, fun w => w, fun w => w, fun w => w⟩
  exact Keeps.refl _ _

theorem State.pageLost_keeps {s : Sys2Proof.Machine.State} {p : Sys2Proof.Page} : Keeps
    16676810782023904317280345014 s (State.pageLost s p) := by
  unfold State.pageLost
  split
  · refine Keeps.step ?_ State.sheafLost_keeps rfl
    exact Keeps.refl _ _
  · refine Keeps.step ?_ State.sqLost_keeps rfl
    exact Keeps.refl _ _
  · refine Keeps.mkUpd ?_ ⟨Or.inr rfl, rfl, Or.inr rfl, Or.inr rfl, Or.inr rfl, Or.inr rfl, Or.inr rfl, Or.inr
      rfl, Or.inr rfl, Or.inr rfl, Or.inr rfl, Or.inr rfl, Or.inr rfl, Or.inr rfl, Or.inl rfl, Or.inr rfl, Or.inr
      rfl, Or.inr rfl, Or.inr rfl, Or.inr rfl, Or.inr rfl, Or.inr rfl, Or.inr rfl, Or.inr rfl, Or.inr rfl, Or.inr
      rfl, Or.inr rfl, Or.inr rfl, Or.inr rfl, Or.inr rfl, Or.inr rfl, Or.inr rfl, Or.inr rfl, Or.inr rfl, Or.inr
      rfl, Or.inr rfl, Or.inr rfl, Or.inr rfl, Or.inr rfl, Or.inr rfl, Or.inr rfl, Or.inr rfl, Or.inr rfl, Or.inr
      rfl, Or.inr rfl, Or.inr rfl, Nat.le_refl _, trivial, fun w => w, fun w => w, fun w => w, fun w => w, fun w =>
      w, fun w => w, fun w => w, fun w => w, fun w => w, fun w => w, fun w => w, fun w => w, fun w => w⟩
    exact Keeps.refl _ _
  · refine Keeps.step ?_ State.asLost_keeps rfl
    exact Keeps.refl _ _
  · refine Keeps.step ?_ State.scanLost_keeps rfl
    exact Keeps.refl _ _
  · refine Keeps.step ?_ State.acqLost_keeps rfl
    exact Keeps.refl _ _
  · refine Keeps.foldl _ _ ?_ ?_
    · exact Keeps.refl _ _
    · intro y_ a_ h_
      refine Keeps.step ?_ State.ucAbandon_keeps rfl
      with_reducible assumption
  · refine Keeps.step ?_ State.timeLost_keeps rfl
    exact Keeps.refl _ _
  · refine Keeps.step ?_ State.amlLost_keeps rfl
    exact Keeps.refl _ _
  · refine Keeps.step ?_ State.modEth_keeps rfl
    exact Keeps.refl _ _
  · refine Keeps.step ?_ State.coreHold_keeps rfl
    exact Keeps.refl _ _
  · refine Keeps.step ?_ State.brstLost_keeps rfl
    exact Keeps.refl _ _
  · refine Keeps.step ?_ State.winnLost_keeps rfl
    exact Keeps.refl _ _
  · refine Keeps.mkUpd ?_ ⟨Or.inr rfl, rfl, Or.inr rfl, Or.inr rfl, Or.inr rfl, Or.inr rfl, Or.inr rfl, Or.inr
      rfl, Or.inr rfl, Or.inr rfl, Or.inr rfl, Or.inr rfl, Or.inr rfl, Or.inr rfl, Or.inr rfl, Or.inr rfl, Or.inl
      rfl, Or.inr rfl, Or.inr rfl, Or.inr rfl, Or.inr rfl, Or.inr rfl, Or.inr rfl, Or.inr rfl, Or.inr rfl, Or.inr
      rfl, Or.inr rfl, Or.inr rfl, Or.inr rfl, Or.inr rfl, Or.inr rfl, Or.inr rfl, Or.inr rfl, Or.inr rfl, Or.inr
      rfl, Or.inr rfl, Or.inr rfl, Or.inr rfl, Or.inr rfl, Or.inr rfl, Or.inr rfl, Or.inr rfl, Or.inr rfl, Or.inr
      rfl, Or.inr rfl, Or.inr rfl, Nat.le_refl _, trivial, fun w => w, fun w => w, fun w => w, fun w => w, fun w =>
      w, fun w => w, fun w => w, fun w => w, fun w => w, fun w => w, fun w => w, fun w => w, fun w => w⟩
    exact Keeps.refl _ _
  · exact Keeps.refl _ _

theorem State.sqBack_keeps {s : Sys2Proof.Machine.State} {n : Nat} {iso : Bool} : Keeps
    1548029585803508953317901058 s (State.sqBack s n iso) := by
  unfold State.sqBack
  refine Keeps.step ?_ State.followSites_keeps rfl
  refine Keeps.step ?_ State.resetFields_keeps (kb_k 1237940039285380274899124224 rfl rfl)
  refine Keeps.mkUpd ?_ ⟨Or.inr rfl, rfl, Or.inr rfl, Or.inr rfl, Or.inr rfl, Or.inr rfl, Or.inr rfl, Or.inr
      rfl, Or.inl rfl, Or.inl rfl, Or.inr rfl, Or.inr rfl, Or.inr rfl, Or.inr rfl, Or.inr rfl, Or.inr rfl, Or.inr
      rfl, Or.inr rfl, Or.inr rfl, Or.inr rfl, Or.inr rfl, Or.inr rfl, Or.inr rfl, Or.inr rfl, Or.inr rfl, Or.inr
      rfl, Or.inr rfl, Or.inr rfl, Or.inr rfl, Or.inr rfl, Or.inr rfl, Or.inr rfl, Or.inr rfl, Or.inr rfl, Or.inr
      rfl, Or.inr rfl, Or.inr rfl, Or.inr rfl, Or.inr rfl, Or.inr rfl, Or.inr rfl, Or.inr rfl, Or.inr rfl, Or.inr
      rfl, Or.inr rfl, Or.inr rfl, Nat.le_refl _, trivial, fun w => w, fun w => w, fun w => w, fun w => w, fun w =>
      w, fun w => w, fun w => w, fun w => w, fun w => w, fun w => w, fun w => w, fun w => w, fun w => w⟩
  refine Keeps.step ?_ State.resetFields_keeps (kb_k 309485009821345068724781056 rfl rfl)
  exact Keeps.refl _ _

theorem State.glnBack_keeps {s : Sys2Proof.Machine.State} : Keeps 4951760157141521099596496898 s (State.glnBack s) := by
  unfold State.glnBack
  refine Keeps.foldl _ _ ?_ ?_
  · refine Keeps.step ?_ State.resetFields_keeps (kb_k 4951760157141521099596496896 rfl rfl)
    exact Keeps.refl _ _
  · intro y_ a_ h_
    refine Keeps.ite ?_ ?_
    · refine Keeps.step ?_ State.wr_keeps (kb_k 4951760157141521099596496896 rfl rfl)
      with_reducible assumption
    · with_reducible assumption

theorem State.timeBack_keeps {s : Sys2Proof.Machine.State} : Keeps 670723614520081175871490 s (State.timeBack s) := by
  unfold State.timeBack
  refine Keeps.step ?_ State.enterHold_keeps rfl
  refine Keeps.step ?_ State.wr_keeps (kb_k 147573952589676412928 rfl rfl)
  refine Keeps.step ?_ State.resetFields_keeps (kb_k 9444732965739290427392 rfl rfl)
  exact Keeps.refl _ _

theorem State.pageBack_keeps {s : Sys2Proof.Machine.State} {p : Sys2Proof.Page} {iso : Bool} : Keeps
    (kindBit p ||| 6503482781108586708916079374) s (State.pageBack s p iso) := by
  unfold State.pageBack
  try extract_lets
  split
  · refine Keeps.step ?_ State.sqBack_keeps (kb_lit _ rfl)
    refine Keeps.step ?_ State.modPage_keeps (kb_lit _ rfl)
    refine Keeps.step ?_ State.dropStaged_keeps (kb_self _ rfl)
    exact Keeps.refl _ _
  · refine Keeps.step ?_ State.glnBack_keeps (kb_lit _ rfl)
    refine Keeps.step ?_ State.modPage_keeps (kb_lit _ rfl)
    refine Keeps.step ?_ State.dropStaged_keeps (kb_self _ rfl)
    exact Keeps.refl _ _
  · refine Keeps.step ?_ State.resetFields_keeps (kb_self _ rfl)
    refine Keeps.step ?_ State.modPage_keeps (kb_lit _ rfl)
    refine Keeps.step ?_ State.dropStaged_keeps (kb_self _ rfl)
    exact Keeps.refl _ _
  · refine Keeps.ite ?_ ?_
    · refine Keeps.mkUpd ?_ ⟨Or.inr rfl, rfl, Or.inr rfl, Or.inr rfl, Or.inr rfl, Or.inr rfl, Or.inr rfl, Or.inr
        rfl, Or.inr rfl, Or.inr rfl, Or.inr rfl, Or.inr rfl, Or.inr rfl, Or.inr rfl, Or.inr rfl, Or.inr rfl, Or.inr
        rfl, Or.inr rfl, Or.inr rfl, Or.inl (kb_tb _ rfl), Or.inr rfl, Or.inr rfl, Or.inr rfl, Or.inr rfl, Or.inr
        rfl, Or.inr rfl, Or.inr rfl, Or.inr rfl, Or.inr rfl, Or.inr rfl, Or.inr rfl, Or.inr rfl, Or.inr rfl, Or.inr
        rfl, Or.inr rfl, Or.inr rfl, Or.inr rfl, Or.inr rfl, Or.inr rfl, Or.inr rfl, Or.inr rfl, Or.inr rfl, Or.inr
        rfl, Or.inr rfl, Or.inr rfl, Or.inr rfl, Nat.le_refl _, trivial, fun w => w, fun w => w, fun w => w, fun w
        => w, fun w => w, fun w => w, fun w => w, fun w => w, fun w => w, fun w => w, fun w => w, fun w => w, fun w
        => w⟩
      refine Keeps.step ?_ State.resetFields_keeps (kb_self _ rfl)
      refine Keeps.step ?_ State.modPage_keeps (kb_lit _ rfl)
      refine Keeps.step ?_ State.dropStaged_keeps (kb_self _ rfl)
      exact Keeps.refl _ _
    · refine Keeps.mkUpd ?_ ⟨Or.inr rfl, rfl, Or.inr rfl, Or.inr rfl, Or.inr rfl, Or.inr rfl, Or.inr rfl, Or.inr
        rfl, Or.inr rfl, Or.inr rfl, Or.inr rfl, Or.inr rfl, Or.inr rfl, Or.inr rfl, Or.inr rfl, Or.inr rfl, Or.inr
        rfl, Or.inr rfl, Or.inr rfl, Or.inl (kb_tb _ rfl), Or.inr rfl, Or.inr rfl, Or.inr rfl, Or.inr rfl, Or.inr
        rfl, Or.inr rfl, Or.inr rfl, Or.inr rfl, Or.inr rfl, Or.inr rfl, Or.inr rfl, Or.inr rfl, Or.inr rfl, Or.inr
        rfl, Or.inr rfl, Or.inr rfl, Or.inr rfl, Or.inr rfl, Or.inr rfl, Or.inr rfl, Or.inr rfl, Or.inr rfl, Or.inr
        rfl, Or.inr rfl, Or.inr rfl, Or.inr rfl, Nat.le_refl _, trivial, fun w => w, fun w => w, fun w => w, fun w
        => w, fun w => w, fun w => w, fun w => w, fun w => w, fun w => w, fun w => w, fun w => w, fun w => w, fun w
        => w⟩
      refine Keeps.step ?_ State.resetFields_keeps (kb_self _ rfl)
      refine Keeps.step ?_ State.modPage_keeps (kb_lit _ rfl)
      refine Keeps.step ?_ State.dropStaged_keeps (kb_self _ rfl)
      exact Keeps.refl _ _
  · refine Keeps.ite ?_ ?_
    · refine Keeps.ite ?_ ?_
      · refine Keeps.step ?_ State.modPage_keeps (kb_lit _ rfl)
        refine Keeps.step ?_ State.dropStaged_keeps (kb_self _ rfl)
        exact Keeps.refl _ _
      · refine Keeps.step ?_ State.resetFields_keeps (kb_self _ rfl)
        refine Keeps.step ?_ State.modPage_keeps (kb_lit _ rfl)
        refine Keeps.step ?_ State.dropStaged_keeps (kb_self _ rfl)
        exact Keeps.refl _ _
    · refine Keeps.step ?_ State.pagePairs_keeps (kb_lit _ rfl)
      refine Keeps.mkUpd ?_ ⟨Or.inr rfl, rfl, Or.inr rfl, Or.inr rfl, Or.inr rfl, Or.inr rfl, Or.inr rfl, Or.inr
          rfl, Or.inr rfl, Or.inr rfl, Or.inr rfl, Or.inr rfl, Or.inr rfl, Or.inr rfl, Or.inr rfl, Or.inr rfl,
          Or.inr rfl, Or.inr rfl, Or.inr rfl, Or.inr rfl, Or.inl (kb_tb _ rfl), Or.inr rfl, Or.inr rfl, Or.inr rfl,
          Or.inr rfl, Or.inr rfl, Or.inr rfl, Or.inr rfl, Or.inr rfl, Or.inr rfl, Or.inr rfl, Or.inr rfl, Or.inr
          rfl, Or.inr rfl, Or.inr rfl, Or.inr rfl, Or.inr rfl, Or.inr rfl, Or.inr rfl, Or.inr rfl, Or.inr rfl,
          Or.inr rfl, Or.inr rfl, Or.inr rfl, Or.inr rfl, Or.inr rfl, Nat.le_refl _, trivial, fun w => w, fun w =>
          w, fun w => w, fun w => w, fun w => w, fun w => w, fun w => w, fun w => w, fun w => w, fun w => w, fun w
          => w, fun w => w, fun w => w⟩
      refine Keeps.step ?_ State.resetFields_keeps (kb_self _ rfl)
      refine Keeps.step ?_ State.modPage_keeps (kb_lit _ rfl)
      refine Keeps.step ?_ State.dropStaged_keeps (kb_self _ rfl)
      exact Keeps.refl _ _
  · refine Keeps.step ?_ State.timeBack_keeps (kb_lit _ rfl)
    refine Keeps.step ?_ State.modPage_keeps (kb_lit _ rfl)
    refine Keeps.step ?_ State.dropStaged_keeps (kb_self _ rfl)
    exact Keeps.refl _ _
  · refine Keeps.ite ?_ ?_
    · refine Keeps.step ?_ State.amlTrain_keeps (kb_lit _ rfl)
      refine Keeps.step ?_ State.resetFields_keeps (kb_self _ rfl)
      refine Keeps.step ?_ State.modPage_keeps (kb_lit _ rfl)
      refine Keeps.step ?_ State.dropStaged_keeps (kb_self _ rfl)
      exact Keeps.refl _ _
    · refine Keeps.step ?_ State.resetFields_keeps (kb_self _ rfl)
      refine Keeps.step ?_ State.modPage_keeps (kb_lit _ rfl)
      refine Keeps.step ?_ State.dropStaged_keeps (kb_self _ rfl)
      exact Keeps.refl _ _
  · refine Keeps.ite ?_ ?_
    · refine Keeps.step ?_ State.coreRelease_keeps (kb_lit _ rfl)
      refine Keeps.step ?_ State.resetFields_keeps (kb_self _ rfl)
      refine Keeps.step ?_ State.modPage_keeps (kb_lit _ rfl)
      refine Keeps.step ?_ State.dropStaged_keeps (kb_self _ rfl)
      exact Keeps.refl _ _
    · refine Keeps.step ?_ State.resetFields_keeps (kb_self _ rfl)
      refine Keeps.step ?_ State.modPage_keeps (kb_lit _ rfl)
      refine Keeps.step ?_ State.dropStaged_keeps (kb_self _ rfl)
      exact Keeps.refl _ _
  · refine Keeps.step ?_ State.brstBack_keeps (kb_lit _ rfl)
    refine Keeps.step ?_ State.resetFields_keeps (kb_self _ rfl)
    refine Keeps.step ?_ State.modPage_keeps (kb_lit _ rfl)
    refine Keeps.step ?_ State.dropStaged_keeps (kb_self _ rfl)
    exact Keeps.refl _ _
  · refine Keeps.mkUpd ?_ ⟨Or.inr rfl, rfl, Or.inr rfl, Or.inr rfl, Or.inr rfl, Or.inr rfl, Or.inr rfl, Or.inr
      rfl, Or.inr rfl, Or.inr rfl, Or.inr rfl, Or.inr rfl, Or.inr rfl, Or.inr rfl, Or.inr rfl, Or.inr rfl, Or.inl
      (kb_tb _ rfl), Or.inr rfl, Or.inr rfl, Or.inr rfl, Or.inr rfl, Or.inr rfl, Or.inr rfl, Or.inr rfl, Or.inr rfl,
      Or.inr rfl, Or.inr rfl, Or.inr rfl, Or.inr rfl, Or.inr rfl, Or.inr rfl, Or.inr rfl, Or.inr rfl, Or.inr rfl,
      Or.inr rfl, Or.inr rfl, Or.inr rfl, Or.inr rfl, Or.inr rfl, Or.inr rfl, Or.inr rfl, Or.inr rfl, Or.inr rfl,
      Or.inr rfl, Or.inr rfl, Or.inr rfl, Nat.le_refl _, trivial, fun w => w, fun w => w, fun w => w, fun w => w,
      fun w => w, fun w => w, fun w => w, fun w => w, fun w => w, fun w => w, fun w => w, fun w => w, fun w => w⟩
    refine Keeps.step ?_ State.resetFields_keeps (kb_self _ rfl)
    refine Keeps.step ?_ State.modPage_keeps (kb_lit _ rfl)
    refine Keeps.step ?_ State.dropStaged_keeps (kb_self _ rfl)
    exact Keeps.refl _ _
  · refine Keeps.step ?_ State.modPage_keeps (kb_lit _ rfl)
    refine Keeps.step ?_ State.dropStaged_keeps (kb_self _ rfl)
    exact Keeps.refl _ _
  · refine Keeps.step ?_ State.modPage_keeps (kb_lit _ rfl)
    refine Keeps.step ?_ State.dropStaged_keeps (kb_self _ rfl)
    exact Keeps.refl _ _
  · refine Keeps.step ?_ State.modPage_keeps (kb_lit _ rfl)
    refine Keeps.step ?_ State.dropStaged_keeps (kb_self _ rfl)
    exact Keeps.refl _ _
  · refine Keeps.step ?_ State.modPage_keeps (kb_lit _ rfl)
    refine Keeps.step ?_ State.dropStaged_keeps (kb_self _ rfl)
    exact Keeps.refl _ _
  · refine Keeps.step ?_ State.modPage_keeps (kb_lit _ rfl)
    refine Keeps.step ?_ State.dropStaged_keeps (kb_self _ rfl)
    exact Keeps.refl _ _
  · refine Keeps.step ?_ State.resetFields_keeps (kb_self _ rfl)
    refine Keeps.step ?_ State.modPage_keeps (kb_lit _ rfl)
    refine Keeps.step ?_ State.dropStaged_keeps (kb_self _ rfl)
    exact Keeps.refl _ _

theorem State.isoKey_keeps {s : Sys2Proof.Machine.State} {k : Nat} {b : Bool} : Keeps 8 s (State.isoKey s k b) := by
  unfold State.isoKey
  refine Keeps.mkUpd ?_ ⟨Or.inr rfl, rfl, Or.inr rfl, Or.inl rfl, Or.inr rfl, Or.inr rfl, Or.inr rfl, Or.inr
      rfl, Or.inr rfl, Or.inr rfl, Or.inr rfl, Or.inr rfl, Or.inr rfl, Or.inr rfl, Or.inr rfl, Or.inr rfl, Or.inr
      rfl, Or.inr rfl, Or.inr rfl, Or.inr rfl, Or.inr rfl, Or.inr rfl, Or.inr rfl, Or.inr rfl, Or.inr rfl, Or.inr
      rfl, Or.inr rfl, Or.inr rfl, Or.inr rfl, Or.inr rfl, Or.inr rfl, Or.inr rfl, Or.inr rfl, Or.inr rfl, Or.inr
      rfl, Or.inr rfl, Or.inr rfl, Or.inr rfl, Or.inr rfl, Or.inr rfl, Or.inr rfl, Or.inr rfl, Or.inr rfl, Or.inr
      rfl, Or.inr rfl, Or.inr rfl, Nat.le_refl _, trivial, fun w => w, fun w => w, fun w => w, fun w => w, fun w =>
      w, fun w => w, fun w => w, fun w => w, fun w => w, fun w => w, fun w => w, fun w => w, fun w => w⟩
  exact Keeps.refl _ _

theorem State.isoPage_keeps {s : Sys2Proof.Machine.State} {p : Sys2Proof.Page} : Keeps
    16686482188580821350679043006 s (State.isoPage s p) := by
  unfold State.isoPage
  refine Keeps.ite ?_ ?_
  · exact Keeps.refl _ _
  · refine Keeps.step ?_ State.modPage_keeps rfl
    refine Keeps.step ?_ State.pageLost_keeps rfl
    refine Keeps.ite ?_ ?_
    · refine Keeps.step ?_ State.dcLost_keeps rfl
      exact Keeps.refl _ _
    · exact Keeps.refl _ _

theorem State.clusterEnds_keeps {s : Sys2Proof.Machine.State} {c : Nat} : Keeps 16480964799246333290367146902 s
    (State.clusterEnds s c) := by
  unfold State.clusterEnds
  refine Keeps.foldl _ _ ?_ ?_
  · exact Keeps.refl _ _
  · intro y_ a_ h_
    refine Keeps.ite ?_ ?_
    · refine Keeps.step ?_ State.siteEnd_keeps rfl
      with_reducible assumption
    · with_reducible assumption

theorem State.isolate_keeps {s : Sys2Proof.Machine.State} {u : Sys2Proof.Machine.RUnit} : Keeps
    16686784420035725007972719550 s (State.isolate s u) := by
  unfold State.isolate
  try extract_lets
  split
  · refine Keeps.step ?_ State.clusterEnds_keeps rfl
    refine Keeps.step ?_ State.isoKey_keeps rfl
    refine Keeps.foldl _ _ ?_ ?_
    · refine Keeps.ite ?_ ?_
      · refine Keeps.step ?_ State.winnAbandon_keeps rfl
        exact Keeps.refl _ _
      · exact Keeps.refl _ _
    · intro y_ a_ h_
      refine Keeps.step ?_ State.isoPage_keeps rfl
      with_reducible assumption
  · refine Keeps.step ?_ State.ucDrop_keeps rfl
    refine Keeps.step ?_ State.isoKey_keeps rfl
    refine Keeps.foldl _ _ ?_ ?_
    · refine Keeps.ite ?_ ?_
      · refine Keeps.step ?_ State.winnAbandon_keeps rfl
        exact Keeps.refl _ _
      · exact Keeps.refl _ _
    · intro y_ a_ h_
      refine Keeps.step ?_ State.isoPage_keeps rfl
      with_reducible assumption
  · refine Keeps.step ?_ State.ucDrop_keeps rfl
    refine Keeps.foldl _ _ ?_ ?_
    · refine Keeps.ite ?_ ?_
      · refine Keeps.step ?_ State.winnAbandon_keeps rfl
        exact Keeps.refl _ _
      · exact Keeps.refl _ _
    · intro y_ a_ h_
      refine Keeps.step ?_ State.isoPage_keeps rfl
      with_reducible assumption
  · refine Keeps.step ?_ State.ucDrop_keeps rfl
    refine Keeps.foldl _ _ ?_ ?_
    · refine Keeps.ite ?_ ?_
      · refine Keeps.step ?_ State.winnAbandon_keeps rfl
        exact Keeps.refl _ _
      · exact Keeps.refl _ _
    · intro y_ a_ h_
      refine Keeps.step ?_ State.isoPage_keeps rfl
      with_reducible assumption
  · refine Keeps.step ?_ State.ucDrop_keeps rfl
    refine Keeps.foldl _ _ ?_ ?_
    · refine Keeps.ite ?_ ?_
      · refine Keeps.step ?_ State.winnAbandon_keeps rfl
        exact Keeps.refl _ _
      · exact Keeps.refl _ _
    · intro y_ a_ h_
      refine Keeps.step ?_ State.isoPage_keeps rfl
      with_reducible assumption
  · refine Keeps.foldl _ _ ?_ ?_
    · refine Keeps.ite ?_ ?_
      · refine Keeps.step ?_ State.winnAbandon_keeps rfl
        exact Keeps.refl _ _
      · exact Keeps.refl _ _
    · intro y_ a_ h_
      refine Keeps.step ?_ State.isoPage_keeps rfl
      with_reducible assumption

theorem State.loopDue_keeps {s : Sys2Proof.Machine.State} {sites : List Nat} : Keeps 16777216 s
    (State.loopDue s sites) := by
  unfold State.loopDue
  refine Keeps.mkUpd ?_ ⟨Or.inr rfl, rfl, Or.inr rfl, Or.inr rfl, Or.inr rfl, Or.inr rfl, Or.inr rfl, Or.inr
      rfl, Or.inr rfl, Or.inr rfl, Or.inr rfl, Or.inr rfl, Or.inr rfl, Or.inr rfl, Or.inr rfl, Or.inr rfl, Or.inr
      rfl, Or.inr rfl, Or.inr rfl, Or.inr rfl, Or.inr rfl, Or.inr rfl, Or.inr rfl, Or.inr rfl, Or.inl rfl, Or.inr
      rfl, Or.inr rfl, Or.inr rfl, Or.inr rfl, Or.inr rfl, Or.inr rfl, Or.inr rfl, Or.inr rfl, Or.inr rfl, Or.inr
      rfl, Or.inr rfl, Or.inr rfl, Or.inr rfl, Or.inr rfl, Or.inr rfl, Or.inr rfl, Or.inr rfl, Or.inr rfl, Or.inr
      rfl, Or.inr rfl, Or.inr rfl, Nat.le_refl _, trivial, fun w => w, fun w => w, fun w => w, fun w => w, fun w =>
      w, fun w => w, fun w => w, fun w => w, fun w => w, fun w => w, fun w => w, fun w => w, fun w => w⟩
  exact Keeps.refl _ _

theorem State.scrub_keeps {s : Sys2Proof.Machine.State} {c : Nat} : Keeps 619007798574553234197774338 s
    (State.scrub s c) := by
  unfold State.scrub
  refine Keeps.ite ?_ ?_
  · refine Keeps.step ?_ State.pagePairs_keeps rfl
    refine Keeps.step ?_ State.wr_keeps (kb_k 618970019642690137449562112 rfl rfl)
    refine Keeps.mkUpd ?_ ⟨Or.inr rfl, rfl, Or.inr rfl, Or.inr rfl, Or.inr rfl, Or.inr rfl, Or.inr rfl, Or.inr
        rfl, Or.inr rfl, Or.inr rfl, Or.inr rfl, Or.inr rfl, Or.inr rfl, Or.inr rfl, Or.inr rfl, Or.inr rfl, Or.inr
        rfl, Or.inr rfl, Or.inr rfl, Or.inr rfl, Or.inr rfl, Or.inr rfl, Or.inr rfl, Or.inr rfl, Or.inr rfl, Or.inr
        rfl, Or.inr rfl, Or.inr rfl, Or.inr rfl, Or.inr rfl, Or.inr rfl, Or.inr rfl, Or.inr rfl, Or.inr rfl, Or.inr
        rfl, Or.inr rfl, Or.inl rfl, Or.inr rfl, Or.inr rfl, Or.inr rfl, Or.inr rfl, Or.inr rfl, Or.inr rfl, Or.inr
        rfl, Or.inr rfl, Or.inr rfl, Nat.le_refl _, trivial, fun w => w, fun w => w,
        (by intro w_; repeat' first | with_reducible assumption | with_reducible refine tabWf_memPutBytes _ _ _ ?_ | with_reducible refine tabWf_memPutNat _ _ _ _ ?_ | with_reducible refine tabWf_memPut _ _ _ ?_ | with_reducible refine tabWf_tabPut _ _ _ _ ?_ | with_reducible refine tabWf_tabErase _ _ _ ?_ | with_reducible refine tabWf_filter _ _ _ ?_ | with_reducible refine tabWf_foldl _ _ _ ?_ ?_ | (intro m_ a_ h_) | exact rfl | split),
        fun w => w, fun w => w, fun w => w, fun w => w, fun w => w, fun w => w, fun w => w, fun w => w, fun w => w,
        fun w => w⟩
    refine Keeps.step ?_ State.granCorrect_keeps rfl
    exact Keeps.refl _ _
  · refine Keeps.mkUpd ?_ ⟨Or.inr rfl, rfl, Or.inr rfl, Or.inr rfl, Or.inr rfl, Or.inr rfl, Or.inr rfl, Or.inr
      rfl, Or.inr rfl, Or.inr rfl, Or.inr rfl, Or.inr rfl, Or.inr rfl, Or.inr rfl, Or.inr rfl, Or.inr rfl, Or.inr
      rfl, Or.inr rfl, Or.inr rfl, Or.inr rfl, Or.inr rfl, Or.inr rfl, Or.inr rfl, Or.inr rfl, Or.inr rfl, Or.inr
      rfl, Or.inr rfl, Or.inr rfl, Or.inr rfl, Or.inr rfl, Or.inr rfl, Or.inr rfl, Or.inr rfl, Or.inr rfl, Or.inr
      rfl, Or.inr rfl, Or.inl rfl, Or.inr rfl, Or.inr rfl, Or.inr rfl, Or.inr rfl, Or.inr rfl, Or.inr rfl, Or.inr
      rfl, Or.inr rfl, Or.inr rfl, Nat.le_refl _, trivial, fun w => w, fun w => w,
      (by intro w_; repeat' first | with_reducible assumption | with_reducible refine tabWf_memPutBytes _ _ _ ?_ | with_reducible refine tabWf_memPutNat _ _ _ _ ?_ | with_reducible refine tabWf_memPut _ _ _ ?_ | with_reducible refine tabWf_tabPut _ _ _ _ ?_ | with_reducible refine tabWf_tabErase _ _ _ ?_ | with_reducible refine tabWf_filter _ _ _ ?_ | with_reducible refine tabWf_foldl _ _ _ ?_ ?_ | (intro m_ a_ h_) | exact rfl | split),
      fun w => w, fun w => w, fun w => w, fun w => w, fun w => w, fun w => w, fun w => w, fun w => w, fun w => w,
      fun w => w⟩
    refine Keeps.step ?_ State.granCorrect_keeps rfl
    exact Keeps.refl _ _

theorem State.restorePage_keeps {s : Sys2Proof.Machine.State} {sr : Sys2Proof.SrFindings} {p : Sys2Proof.Page} :
    Keeps (kindBit p ||| 6513154187665503742334700302) s (State.restorePage s sr p) := by
  unfold State.restorePage
  refine Keeps.ite ?_ ?_
  · exact Keeps.refl _ _
  · try extract_lets
    split
    · refine Keeps.ite ?_ ?_
      · refine Keeps.step ?_ State.pageBack_keeps (kb_self _ rfl)
        exact Keeps.refl _ _
      · refine Keeps.step ?_ State.modPage_keeps (kb_lit _ rfl)
        refine Keeps.step ?_ State.loopDue_keeps (kb_lit _ rfl)
        refine Keeps.step ?_ State.pageBack_keeps (kb_self _ rfl)
        exact Keeps.refl _ _
    · refine Keeps.step ?_ State.modPage_keeps (kb_lit _ rfl)
      refine Keeps.step ?_ State.loopDue_keeps (kb_lit _ rfl)
      refine Keeps.step ?_ State.pageBack_keeps (kb_self _ rfl)
      exact Keeps.refl _ _
    · refine Keeps.ite ?_ ?_
      · refine Keeps.step ?_ State.srexit_keeps (kb_lit _ rfl)
        refine Keeps.step ?_ State.pageBack_keeps (kb_self _ rfl)
        exact Keeps.refl _ _
      · refine Keeps.step ?_ State.pageBack_keeps (kb_self _ rfl)
        exact Keeps.refl _ _
    · refine Keeps.step ?_ State.pageBack_keeps (kb_self _ rfl)
      exact Keeps.refl _ _

theorem State.restore_keeps {s : Sys2Proof.Machine.State} {u : Sys2Proof.Machine.RUnit} {sr :
    Sys2Proof.SrFindings} {keep : Sys2Proof.Page → Bool} : Keeps 79228162495817593661330918158 s
    (State.restore s u sr keep) := by
  unfold State.restore
  try extract_lets
  split
  · refine Keeps.step ?_ State.scrub_keeps rfl
    refine Keeps.step ?_ State.isoKey_keeps rfl
    refine Keeps.foldl _ _ ?_ ?_
    · exact Keeps.refl _ _
    · intro y_ a_ h_
      refine Keeps.step ?_ State.restorePage_keeps (kb_any rfl rfl)
      with_reducible assumption
  · refine Keeps.step ?_ State.isoKey_keeps rfl
    refine Keeps.foldl _ _ ?_ ?_
    · exact Keeps.refl _ _
    · intro y_ a_ h_
      refine Keeps.step ?_ State.restorePage_keeps (kb_any rfl rfl)
      with_reducible assumption
  · refine Keeps.foldl _ _ ?_ ?_
    · exact Keeps.refl _ _
    · intro y_ a_ h_
      refine Keeps.step ?_ State.restorePage_keeps (kb_any rfl rfl)
      with_reducible assumption

theorem State.putOn_keeps {s : Sys2Proof.Machine.State} {d : Nat} {b : Bool} : Keeps 295147905179352825858 s
    (State.putOn s d b) := by
  unfold State.putOn
  refine Keeps.ite ?_ ?_
  · refine Keeps.step ?_ State.wrBit_keeps (kb_k 295147905179352825856 rfl rfl)
    exact Keeps.refl _ _
  · refine Keeps.ite ?_ ?_
    · refine Keeps.step ?_ State.wrBit_keeps (kb_k 295147905179352825856 rfl rfl)
      exact Keeps.refl _ _
    · refine Keeps.step ?_ State.wrBit_keeps (kb_k 295147905179352825856 rfl rfl)
      exact Keeps.refl _ _

theorem State.domainContents_keeps {s : Sys2Proof.Machine.State} {d : Nat} : Keeps 29023664403734100157399554 s
    (State.domainContents s d) := by
  unfold State.domainContents
  refine Keeps.ite ?_ ?_
  · refine Keeps.mkUpd ?_ ⟨Or.inr rfl, rfl, Or.inr rfl, Or.inr rfl, Or.inr rfl, Or.inr rfl, Or.inr rfl, Or.inr
      rfl, Or.inr rfl, Or.inr rfl, Or.inr rfl, Or.inr rfl, Or.inr rfl, Or.inr rfl, Or.inr rfl, Or.inr rfl, Or.inr
      rfl, Or.inr rfl, Or.inr rfl, Or.inr rfl, Or.inr rfl, Or.inr rfl, Or.inr rfl, Or.inr rfl, Or.inr rfl, Or.inr
      rfl, Or.inr rfl, Or.inr rfl, Or.inr rfl, Or.inr rfl, Or.inr rfl, Or.inr rfl, Or.inr rfl, Or.inr rfl, Or.inr
      rfl, Or.inl rfl, Or.inl rfl, Or.inr rfl, Or.inr rfl, Or.inr rfl, Or.inr rfl, Or.inr rfl, Or.inr rfl, Or.inr
      rfl, Or.inr rfl, Or.inr rfl, Nat.le_refl _, trivial, fun w => w,
      (by intro w_; repeat' first | with_reducible assumption | with_reducible refine tabWf_memPutBytes _ _ _ ?_ | with_reducible refine tabWf_memPutNat _ _ _ _ ?_ | with_reducible refine tabWf_memPut _ _ _ ?_ | with_reducible refine tabWf_tabPut _ _ _ _ ?_ | with_reducible refine tabWf_tabErase _ _ _ ?_ | with_reducible refine tabWf_filter _ _ _ ?_ | with_reducible refine tabWf_foldl _ _ _ ?_ ?_ | (intro m_ a_ h_) | exact rfl | split),
      (by intro w_; repeat' first | with_reducible assumption | with_reducible refine tabWf_memPutBytes _ _ _ ?_ | with_reducible refine tabWf_memPutNat _ _ _ _ ?_ | with_reducible refine tabWf_memPut _ _ _ ?_ | with_reducible refine tabWf_tabPut _ _ _ _ ?_ | with_reducible refine tabWf_tabErase _ _ _ ?_ | with_reducible refine tabWf_filter _ _ _ ?_ | with_reducible refine tabWf_foldl _ _ _ ?_ ?_ | (intro m_ a_ h_) | exact rfl | split),
      fun w => w, fun w => w, fun w => w, fun w => w, fun w => w, fun w => w, fun w => w, fun w => w, fun w => w,
      fun w => w⟩
    exact Keeps.refl _ _
  · refine Keeps.ite ?_ ?_
    · refine Keeps.step ?_ State.ucDrop_keeps rfl
      refine Keeps.mkUpd ?_ ⟨Or.inr rfl, rfl, Or.inr rfl, Or.inr rfl, Or.inr rfl, Or.inr rfl, Or.inr rfl, Or.inr
          rfl, Or.inr rfl, Or.inl rfl, Or.inr rfl, Or.inr rfl, Or.inr rfl, Or.inr rfl, Or.inr rfl, Or.inr rfl,
          Or.inr rfl, Or.inr rfl, Or.inr rfl, Or.inr rfl, Or.inr rfl, Or.inr rfl, Or.inr rfl, Or.inr rfl, Or.inr
          rfl, Or.inr rfl, Or.inr rfl, Or.inr rfl, Or.inr rfl, Or.inr rfl, Or.inr rfl, Or.inr rfl, Or.inr rfl,
          Or.inr rfl, Or.inr rfl, Or.inr rfl, Or.inr rfl, Or.inr rfl, Or.inr rfl, Or.inr rfl, Or.inr rfl, Or.inr
          rfl, Or.inr rfl, Or.inr rfl, Or.inr rfl, Or.inr rfl, Nat.le_refl _, trivial, fun w => w, fun w => w, fun w
          => w, fun w => w, fun w => w, fun w => w, fun w => w, fun w => w, fun w => w, fun w => w, fun w => w, fun
          w => w, fun w => w⟩
      exact Keeps.refl _ _
    · refine Keeps.ite ?_ ?_
      · refine Keeps.mkUpd ?_ ⟨Or.inr rfl, rfl, Or.inr rfl, Or.inr rfl, Or.inr rfl, Or.inr rfl, Or.inr rfl,
          Or.inr rfl, Or.inr rfl, Or.inr rfl, Or.inr rfl, Or.inr rfl, Or.inr rfl, Or.inr rfl, Or.inr rfl, Or.inr
          rfl, Or.inr rfl, Or.inr rfl, Or.inr rfl, Or.inl rfl, Or.inr rfl, Or.inr rfl, Or.inr rfl, Or.inr rfl,
          Or.inr rfl, Or.inr rfl, Or.inr rfl, Or.inr rfl, Or.inr rfl, Or.inr rfl, Or.inr rfl, Or.inr rfl, Or.inr
          rfl, Or.inr rfl, Or.inr rfl, Or.inr rfl, Or.inr rfl, Or.inr rfl, Or.inr rfl, Or.inl rfl, Or.inl rfl,
          Or.inr rfl, Or.inr rfl, Or.inr rfl, Or.inr rfl, Or.inr rfl, Nat.le_refl _, trivial, fun w => w, fun w =>
          w, fun w => w, fun w => w, fun w => w,
          (by intro w_; repeat' first | with_reducible assumption | with_reducible refine tabWf_memPutBytes _ _ _ ?_ | with_reducible refine tabWf_memPutNat _ _ _ _ ?_ | with_reducible refine tabWf_memPut _ _ _ ?_ | with_reducible refine tabWf_tabPut _ _ _ _ ?_ | with_reducible refine tabWf_tabErase _ _ _ ?_ | with_reducible refine tabWf_filter _ _ _ ?_ | with_reducible refine tabWf_foldl _ _ _ ?_ ?_ | (intro m_ a_ h_) | exact rfl | split),
          (by intro w_; repeat' first | with_reducible assumption | with_reducible refine tabWf_memPutBytes _ _ _ ?_ | with_reducible refine tabWf_memPutNat _ _ _ _ ?_ | with_reducible refine tabWf_memPut _ _ _ ?_ | with_reducible refine tabWf_tabPut _ _ _ _ ?_ | with_reducible refine tabWf_tabErase _ _ _ ?_ | with_reducible refine tabWf_filter _ _ _ ?_ | with_reducible refine tabWf_foldl _ _ _ ?_ ?_ | (intro m_ a_ h_) | exact rfl | split),
          fun w => w, fun w => w, fun w => w, fun w => w, fun w => w, fun w => w⟩
        exact Keeps.refl _ _
      · refine Keeps.ite ?_ ?_
        · refine Keeps.ite ?_ ?_
          · refine Keeps.ite ?_ ?_
            · refine Keeps.step ?_ State.ucDrop_keeps rfl
              exact Keeps.refl _ _
            · exact Keeps.refl _ _
          · refine Keeps.step ?_ State.pagePairs_keeps rfl
            refine Keeps.step ?_ State.wr_keeps (kb_k 9671406556917033397649408 rfl rfl)
            refine Keeps.mkUpd ?_ ⟨Or.inr rfl, rfl, Or.inr rfl, Or.inr rfl, Or.inr rfl, Or.inr rfl, Or.inr rfl,
                Or.inr rfl, Or.inr rfl, Or.inr rfl, Or.inr rfl, Or.inr rfl, Or.inr rfl, Or.inr rfl, Or.inr rfl,
                Or.inr rfl, Or.inr rfl, Or.inr rfl, Or.inr rfl, Or.inr rfl, Or.inl rfl, Or.inr rfl, Or.inr rfl,
                Or.inr rfl, Or.inr rfl, Or.inr rfl, Or.inr rfl, Or.inr rfl, Or.inr rfl, Or.inr rfl, Or.inr rfl,
                Or.inr rfl, Or.inr rfl, Or.inr rfl, Or.inr rfl, Or.inr rfl, Or.inr rfl, Or.inr rfl, Or.inr rfl,
                Or.inr rfl, Or.inr rfl, Or.inr rfl, Or.inl rfl, Or.inr rfl, Or.inr rfl, Or.inr rfl, Nat.le_refl _,
                trivial, fun w => w, fun w => w, fun w => w, fun w => w, fun w => w, fun w => w, fun w => w, fun w
                => w,
                (by intro w_; repeat' first | with_reducible assumption | with_reducible refine tabWf_memPutBytes _ _ _ ?_ | with_reducible refine tabWf_memPutNat _ _ _ _ ?_ | with_reducible refine tabWf_memPut _ _ _ ?_ | with_reducible refine tabWf_tabPut _ _ _ _ ?_ | with_reducible refine tabWf_tabErase _ _ _ ?_ | with_reducible refine tabWf_filter _ _ _ ?_ | with_reducible refine tabWf_foldl _ _ _ ?_ ?_ | (intro m_ a_ h_) | exact rfl | split),
                fun w => w, fun w => w, fun w => w, fun w => w⟩
            refine Keeps.ite ?_ ?_
            · refine Keeps.step ?_ State.ucDrop_keeps rfl
              exact Keeps.refl _ _
            · exact Keeps.refl _ _
        · refine Keeps.ite ?_ ?_
          · refine Keeps.step ?_ State.wr_keeps (kb_k 19342813113834066795298816 rfl rfl)
            refine Keeps.mkUpd ?_ ⟨Or.inr rfl, rfl, Or.inr rfl, Or.inr rfl, Or.inr rfl, Or.inr rfl, Or.inr rfl,
                Or.inr rfl, Or.inr rfl, Or.inr rfl, Or.inr rfl, Or.inr rfl, Or.inr rfl, Or.inr rfl, Or.inr rfl,
                Or.inr rfl, Or.inr rfl, Or.inr rfl, Or.inr rfl, Or.inr rfl, Or.inr rfl, Or.inr rfl, Or.inr rfl,
                Or.inr rfl, Or.inr rfl, Or.inr rfl, Or.inr rfl, Or.inr rfl, Or.inr rfl, Or.inr rfl, Or.inr rfl,
                Or.inr rfl, Or.inr rfl, Or.inr rfl, Or.inr rfl, Or.inr rfl, Or.inr rfl, Or.inr rfl, Or.inl rfl,
                Or.inr rfl, Or.inr rfl, Or.inr rfl, Or.inr rfl, Or.inr rfl, Or.inr rfl, Or.inr rfl, Nat.le_refl _,
                trivial, fun w => w, fun w => w, fun w => w, fun w => w,
                (by intro w_; repeat' first | with_reducible assumption | with_reducible refine tabWf_memPutBytes _ _ _ ?_ | with_reducible refine tabWf_memPutNat _ _ _ _ ?_ | with_reducible refine tabWf_memPut _ _ _ ?_ | with_reducible refine tabWf_tabPut _ _ _ _ ?_ | with_reducible refine tabWf_tabErase _ _ _ ?_ | with_reducible refine tabWf_filter _ _ _ ?_ | with_reducible refine tabWf_foldl _ _ _ ?_ ?_ | (intro m_ a_ h_) | exact rfl | split),
                fun w => w, fun w => w, fun w => w, fun w => w, fun w => w, fun w => w, fun w => w, fun w => w⟩
            exact Keeps.refl _ _
          · refine Keeps.ite ?_ ?_
            · refine Keeps.step ?_ State.wr_keeps (kb_k 19342813113834066795298816 rfl rfl)
              exact Keeps.refl _ _
            · refine Keeps.ite ?_ ?_
              · refine Keeps.mkUpd ?_ ⟨Or.inr rfl, rfl, Or.inr rfl, Or.inr rfl, Or.inr rfl, Or.inr rfl, Or.inr
                  rfl, Or.inr rfl, Or.inr rfl, Or.inr rfl, Or.inr rfl, Or.inr rfl, Or.inr rfl, Or.inr rfl, Or.inr
                  rfl, Or.inr rfl, Or.inr rfl, Or.inr rfl, Or.inr rfl, Or.inr rfl, Or.inr rfl, Or.inr rfl, Or.inr
                  rfl, Or.inr rfl, Or.inr rfl, Or.inr rfl, Or.inr rfl, Or.inr rfl, Or.inr rfl, Or.inr rfl, Or.inr
                  rfl, Or.inr rfl, Or.inr rfl, Or.inr rfl, Or.inr rfl, Or.inr rfl, Or.inr rfl, Or.inr rfl, Or.inr
                  rfl, Or.inr rfl, Or.inr rfl, Or.inl rfl, Or.inr rfl, Or.inr rfl, Or.inr rfl, Or.inr rfl,
                  Nat.le_refl _, trivial, fun w => w, fun w => w, fun w => w, fun w => w, fun w => w, fun w => w,
                  fun w => w,
                  (by intro w_; repeat' first | with_reducible assumption | with_reducible refine tabWf_memPutBytes _ _ _ ?_ | with_reducible refine tabWf_memPutNat _ _ _ _ ?_ | with_reducible refine tabWf_memPut _ _ _ ?_ | with_reducible refine tabWf_tabPut _ _ _ _ ?_ | with_reducible refine tabWf_tabErase _ _ _ ?_ | with_reducible refine tabWf_filter _ _ _ ?_ | with_reducible refine tabWf_foldl _ _ _ ?_ ?_ | (intro m_ a_ h_) | exact rfl | split),
                  fun w => w, fun w => w, fun w => w, fun w => w, fun w => w⟩
                exact Keeps.refl _ _
              · refine Keeps.ite ?_ ?_
                · refine Keeps.step ?_ State.ucDrop_keeps rfl
                  exact Keeps.refl _ _
                · refine Keeps.ite ?_ ?_
                  · refine Keeps.step ?_ State.wr_keeps (kb_k 9444732965739290427392 rfl rfl)
                    refine Keeps.mkUpd ?_ ⟨Or.inr rfl, rfl, Or.inr rfl, Or.inr rfl, Or.inr rfl, Or.inr rfl,
                        Or.inr rfl, Or.inr rfl, Or.inr rfl, Or.inr rfl, Or.inr rfl, Or.inr rfl, Or.inr rfl, Or.inr
                        rfl, Or.inr rfl, Or.inr rfl, Or.inr rfl, Or.inr rfl, Or.inr rfl, Or.inr rfl, Or.inr rfl,
                        Or.inr rfl, Or.inr rfl, Or.inr rfl, Or.inr rfl, Or.inr rfl, Or.inr rfl, Or.inr rfl, Or.inr
                        rfl, Or.inr rfl, Or.inl rfl, Or.inr rfl, Or.inr rfl, Or.inr rfl, Or.inr rfl, Or.inr rfl,
                        Or.inr rfl, Or.inr rfl, Or.inr rfl, Or.inr rfl, Or.inr rfl, Or.inr rfl, Or.inr rfl, Or.inr
                        rfl, Or.inr rfl, Or.inr rfl, Nat.le_refl _, trivial, fun w => w, fun w => w, fun w => w, fun
                        w => w, fun w => w, fun w => w, fun w => w, fun w => w, fun w => w, fun w => w, fun w => w,
                        fun w => w, fun w => w⟩
                    refine Keeps.ofRes (tgt := tgtSnd) ?_ rfl rfl
                    refine ResKeeps.step ?_ State.draw_keeps rfl
                    exact Keeps.refl _ _
                  · refine Keeps.ite ?_ ?_
                    · refine Keeps.mkUpd ?_ ⟨Or.inr rfl, rfl, Or.inr rfl, Or.inr rfl, Or.inr rfl, Or.inr rfl,
                        Or.inr rfl, Or.inr rfl, Or.inr rfl, Or.inr rfl, Or.inr rfl, Or.inr rfl, Or.inr rfl, Or.inr
                        rfl, Or.inr rfl, Or.inr rfl, Or.inr rfl, Or.inr rfl, Or.inr rfl, Or.inr rfl, Or.inr rfl,
                        Or.inr rfl, Or.inr rfl, Or.inr rfl, Or.inr rfl, Or.inr rfl, Or.inr rfl, Or.inr rfl, Or.inl
                        rfl, Or.inr rfl, Or.inr rfl, Or.inr rfl, Or.inr rfl, Or.inr rfl, Or.inr rfl, Or.inr rfl,
                        Or.inr rfl, Or.inr rfl, Or.inr rfl, Or.inr rfl, Or.inr rfl, Or.inr rfl, Or.inr rfl, Or.inr
                        rfl, Or.inr rfl, Or.inr rfl, Nat.le_refl _, trivial, fun w => w, fun w => w, fun w => w, fun
                        w => w, fun w => w, fun w => w, fun w => w, fun w => w, fun w => w, fun w => w, fun w => w,
                        fun w => w, fun w => w⟩
                      exact Keeps.refl _ _
                    · exact Keeps.refl _ _

theorem State.domainDown_keeps {s : Sys2Proof.Machine.State} {d : Nat} : Keeps 16705834741575542493784562614 s
    (State.domainDown s d) := by
  unfold State.domainDown
  refine Keeps.ite ?_ ?_
  · exact Keeps.refl _ _
  · refine Keeps.step ?_ State.putOn_keeps rfl
    refine Keeps.step ?_ State.countersOff_keeps rfl
    refine Keeps.step ?_ State.domainContents_keeps rfl
    refine Keeps.foldl _ _ ?_ ?_
    · exact Keeps.refl _ _
    · intro y_ a_ h_
      refine Keeps.step ?_ State.pageLost_keeps rfl
      with_reducible assumption

theorem State.domainUp_keeps {s : Sys2Proof.Machine.State} {d : Nat} : Keeps 79228162495817593523887770382 s
    (State.domainUp s d) := by
  unfold State.domainUp
  refine Keeps.ite ?_ ?_
  · exact Keeps.refl _ _
  · refine Keeps.ite ?_ ?_
    · refine Keeps.step ?_ State.loopDue_keeps rfl
      refine Keeps.foldl _ _ ?_ ?_
      · refine Keeps.step ?_ State.putOn_keeps rfl
        exact Keeps.refl _ _
      · intro y_ a_ h_
        refine Keeps.ite ?_ ?_
        · refine Keeps.step ?_ State.resetFields_keeps (kb_any rfl rfl)
          refine Keeps.step ?_ State.dropStaged_keeps (kb_any rfl rfl)
          with_reducible assumption
        · refine Keeps.step ?_ State.pageBack_keeps (kb_any rfl rfl)
          with_reducible assumption
    · refine Keeps.ite ?_ ?_
      · refine Keeps.step ?_ State.loopDue_keeps rfl
        refine Keeps.foldl _ _ ?_ ?_
        · refine Keeps.step ?_ State.putOn_keeps rfl
          exact Keeps.refl _ _
        · intro y_ a_ h_
          refine Keeps.ite ?_ ?_
          · refine Keeps.step ?_ State.resetFields_keeps (kb_any rfl rfl)
            refine Keeps.step ?_ State.dropStaged_keeps (kb_any rfl rfl)
            with_reducible assumption
          · refine Keeps.step ?_ State.pageBack_keeps (kb_any rfl rfl)
            with_reducible assumption
      · refine Keeps.ite ?_ ?_
        · refine Keeps.mkUpd ?_ ⟨Or.inr rfl, rfl, Or.inr rfl, Or.inr rfl, Or.inr rfl, Or.inr rfl, Or.inr rfl,
            Or.inr rfl, Or.inr rfl, Or.inr rfl, Or.inr rfl, Or.inr rfl, Or.inr rfl, Or.inr rfl, Or.inr rfl, Or.inr
            rfl, Or.inr rfl, Or.inr rfl, Or.inr rfl, Or.inr rfl, Or.inr rfl, Or.inr rfl, Or.inr rfl, Or.inr rfl,
            Or.inr rfl, Or.inr rfl, Or.inr rfl, Or.inr rfl, Or.inr rfl, Or.inr rfl, Or.inl rfl, Or.inr rfl, Or.inr
            rfl, Or.inr rfl, Or.inr rfl, Or.inr rfl, Or.inr rfl, Or.inr rfl, Or.inr rfl, Or.inr rfl, Or.inr rfl,
            Or.inr rfl, Or.inr rfl, Or.inr rfl, Or.inr rfl, Or.inr rfl, Nat.le_refl _, trivial, fun w => w, fun w =>
            w, fun w => w, fun w => w, fun w => w, fun w => w, fun w => w, fun w => w, fun w => w, fun w => w, fun w
            => w, fun w => w, fun w => w⟩
          refine Keeps.foldl _ _ ?_ ?_
          · refine Keeps.step ?_ State.putOn_keeps rfl
            exact Keeps.refl _ _
          · intro y_ a_ h_
            refine Keeps.ite ?_ ?_
            · refine Keeps.step ?_ State.resetFields_keeps (kb_any rfl rfl)
              refine Keeps.step ?_ State.dropStaged_keeps (kb_any rfl rfl)
              with_reducible assumption
            · refine Keeps.step ?_ State.pageBack_keeps (kb_any rfl rfl)
              with_reducible assumption
        · refine Keeps.foldl _ _ ?_ ?_
          · refine Keeps.step ?_ State.putOn_keeps rfl
            exact Keeps.refl _ _
          · intro y_ a_ h_
            refine Keeps.ite ?_ ?_
            · refine Keeps.step ?_ State.resetFields_keeps (kb_any rfl rfl)
              refine Keeps.step ?_ State.dropStaged_keeps (kb_any rfl rfl)
              with_reducible assumption
            · refine Keeps.step ?_ State.pageBack_keeps (kb_any rfl rfl)
              with_reducible assumption

end Sys2Proof.Machine
end

