-- ==== Sys2Proof/Laws/FrameCollector.lean ====
section
/-! SUPPORT. What each function of Machine/Collector.lean may change: one mask of `Keeps` for each. -/

namespace Sys2Proof.Machine

open Reg

theorem State.putSlot_keeps {s : Sys2Proof.Machine.State} {f : Sys2Proof.Machine.Field} {n : Nat} {b : Bool} :
    Keeps 590295810358705651714 s (State.putSlot s f n b) := by
  unfold State.putSlot
  refine Keeps.step ?_ State.wrBit_keeps (kb_k 590295810358705651712 rfl rfl)
  exact Keeps.refl _ _

theorem State.detail_keeps {s : Sys2Proof.Machine.State} {n : Nat} : ResKeeps tgtSnd 8589934592 s
    (State.detail s n) := by
  unfold State.detail
  refine ResKeeps.ite ?_ ?_
  · refine ResKeeps.some rfl ?_
    exact Keeps.refl _ _
  · refine ResKeeps.ite ?_ ?_
    · refine ResKeeps.some rfl ?_
      exact Keeps.refl _ _
    · refine ResKeeps.ite ?_ ?_
      · refine ResKeeps.some rfl ?_
        exact Keeps.refl _ _
      · refine ResKeeps.ite ?_ ?_
        · refine ResKeeps.some rfl ?_
          exact Keeps.refl _ _
        · refine ResKeeps.ite ?_ ?_
          · refine ResKeeps.some rfl ?_
            exact Keeps.refl _ _
          · refine ResKeeps.ite ?_ ?_
            · refine ResKeeps.some rfl ?_
              exact Keeps.refl _ _
            · refine ResKeeps.ite ?_ ?_
              · refine ResKeeps.some rfl ?_
                exact Keeps.refl _ _
              · refine ResKeeps.ite ?_ ?_
                · refine ResKeeps.some rfl ?_
                  exact Keeps.refl _ _
                · refine ResKeeps.ite ?_ ?_
                  · refine ResKeeps.some rfl ?_
                    exact Keeps.refl _ _
                  · refine ResKeeps.ite ?_ ?_
                    · refine ResKeeps.some rfl ?_
                      exact Keeps.refl _ _
                    · refine ResKeeps.ite ?_ ?_
                      · refine ResKeeps.some rfl ?_
                        exact Keeps.refl _ _
                      · refine ResKeeps.step ?_ State.draw_keeps rfl
                        exact Keeps.refl _ _

theorem State.fillFfr_keeps {s : Sys2Proof.Machine.State} {ns : List Nat} {secondary : Bool} : Keeps
    38369227673328752328706 s (State.fillFfr s ns secondary) := by
  unfold State.fillFfr
  split
  · exact Keeps.refl _ _
  · refine Keeps.ite ?_ ?_
    · exact Keeps.refl _ _
    · refine Keeps.ite ?_ ?_
      · refine Keeps.step ?_ State.wr_keeps (kb_k 590295810358705651712 rfl rfl)
        exact Keeps.refl _ _
      · refine Keeps.mkUpd ?_ ⟨Or.inr rfl, rfl, Or.inr rfl, Or.inr rfl, Or.inr rfl, Or.inr rfl, Or.inr rfl,
          Or.inr rfl, Or.inr rfl, Or.inr rfl, Or.inr rfl, Or.inr rfl, Or.inr rfl, Or.inr rfl, Or.inr rfl, Or.inr
          rfl, Or.inl rfl, Or.inr rfl, Or.inr rfl, Or.inr rfl, Or.inr rfl, Or.inr rfl, Or.inr rfl, Or.inr rfl,
          Or.inr rfl, Or.inr rfl, Or.inr rfl, Or.inr rfl, Or.inr rfl, Or.inr rfl, Or.inr rfl, Or.inr rfl, Or.inl
          rfl, Or.inr rfl, Or.inr rfl, Or.inr rfl, Or.inr rfl, Or.inr rfl, Or.inr rfl, Or.inr rfl, Or.inr rfl,
          Or.inr rfl, Or.inr rfl, Or.inr rfl, Or.inr rfl, Or.inr rfl, Nat.le_refl _, trivial, fun w => w, fun w =>
          w, fun w => w, fun w => w, fun w => w, fun w => w, fun w => w, fun w => w, fun w => w, fun w => w, fun w
          => w, fun w => w, fun w => w⟩
        refine Keeps.ite ?_ ?_
        · refine Keeps.step ?_ State.wr_keeps (kb_k 590295810358705651712 rfl rfl)
          refine Keeps.step ?_ State.wr_keeps (kb_k 590295810358705651712 rfl rfl)
          refine Keeps.step ?_ State.wr_keeps (kb_k 590295810358705651712 rfl rfl)
          refine Keeps.step ?_ State.wr3_keeps (kb_k 590295810358705651712 rfl rfl)
          refine Keeps.step ?_ State.wr_keeps (kb_k 590295810358705651712 rfl rfl)
          refine Keeps.step ?_ State.wr_keeps (kb_k 590295810358705651712 rfl rfl)
          refine Keeps.step ?_ State.wr_keeps (kb_k 590295810358705651712 rfl rfl)
          refine Keeps.step ?_ State.wr_keeps (kb_k 590295810358705651712 rfl rfl)
          refine Keeps.step ?_ State.wr_keeps (kb_k 590295810358705651712 rfl rfl)
          refine Keeps.step ?_ State.wr_keeps (kb_k 590295810358705651712 rfl rfl)
          refine Keeps.ofRes (tgt := tgtSnd) ?_ rfl rfl
          refine ResKeeps.step ?_ State.detail_keeps rfl
          exact Keeps.refl _ _
        · refine Keeps.step ?_ State.demandSnapshot_keeps rfl
          refine Keeps.step ?_ State.wr_keeps (kb_k 590295810358705651712 rfl rfl)
          refine Keeps.step ?_ State.wr_keeps (kb_k 590295810358705651712 rfl rfl)
          refine Keeps.step ?_ State.wr_keeps (kb_k 590295810358705651712 rfl rfl)
          refine Keeps.step ?_ State.wr3_keeps (kb_k 590295810358705651712 rfl rfl)
          refine Keeps.step ?_ State.wr_keeps (kb_k 590295810358705651712 rfl rfl)
          refine Keeps.step ?_ State.wr_keeps (kb_k 590295810358705651712 rfl rfl)
          refine Keeps.step ?_ State.wr_keeps (kb_k 590295810358705651712 rfl rfl)
          refine Keeps.step ?_ State.wr_keeps (kb_k 590295810358705651712 rfl rfl)
          refine Keeps.step ?_ State.wr_keeps (kb_k 590295810358705651712 rfl rfl)
          refine Keeps.step ?_ State.wr_keeps (kb_k 590295810358705651712 rfl rfl)
          refine Keeps.ofRes (tgt := tgtSnd) ?_ rfl rfl
          refine ResKeeps.step ?_ State.detail_keeps rfl
          exact Keeps.refl _ _

theorem State.sourceClears_keeps {s : Sys2Proof.Machine.State} {n : Nat} : Keeps 590295810360853135362 s
    (State.sourceClears s n) := by
  unfold State.sourceClears
  refine Keeps.ite ?_ ?_
  · exact Keeps.refl _ _
  · refine Keeps.ite ?_ ?_
    · refine Keeps.step ?_ State.modFlt_keeps rfl
      refine Keeps.step ?_ State.wr_keeps (kb_k 590295810358705651712 rfl rfl)
      refine Keeps.step ?_ State.modFlt_keeps rfl
      refine Keeps.step ?_ State.putSlot_keeps rfl
      exact Keeps.refl _ _
    · refine Keeps.step ?_ State.modFlt_keeps rfl
      refine Keeps.step ?_ State.putSlot_keeps rfl
      exact Keeps.refl _ _

theorem State.injectionEnds_keeps {s : Sys2Proof.Machine.State} : Keeps 590295810365148102658 s
    (State.injectionEnds s) := by
  unfold State.injectionEnds
  split
  · refine Keeps.step ?_ State.sourceClears_keeps rfl
    refine Keeps.step ?_ State.sourceClears_keeps rfl
    refine Keeps.ite ?_ ?_
    · refine Keeps.mkUpd ?_ ⟨Or.inr rfl, rfl, Or.inr rfl, Or.inr rfl, Or.inr rfl, Or.inr rfl, Or.inr rfl, Or.inr
        rfl, Or.inr rfl, Or.inr rfl, Or.inr rfl, Or.inr rfl, Or.inr rfl, Or.inr rfl, Or.inr rfl, Or.inr rfl, Or.inr
        rfl, Or.inr rfl, Or.inr rfl, Or.inr rfl, Or.inr rfl, Or.inr rfl, Or.inr rfl, Or.inr rfl, Or.inr rfl, Or.inr
        rfl, Or.inr rfl, Or.inr rfl, Or.inr rfl, Or.inr rfl, Or.inr rfl, Or.inr rfl, Or.inl rfl, Or.inr rfl, Or.inr
        rfl, Or.inr rfl, Or.inr rfl, Or.inr rfl, Or.inr rfl, Or.inr rfl, Or.inr rfl, Or.inr rfl, Or.inr rfl, Or.inr
        rfl, Or.inr rfl, Or.inr rfl, Nat.le_refl _, trivial, fun w => w, fun w => w, fun w => w, fun w => w, fun w
        => w, fun w => w, fun w => w, fun w => w, fun w => w, fun w => w, fun w => w, fun w => w, fun w => w⟩
      exact Keeps.refl _ _
    · refine Keeps.step ?_ State.modFlt_keeps rfl
      refine Keeps.mkUpd ?_ ⟨Or.inr rfl, rfl, Or.inr rfl, Or.inr rfl, Or.inr rfl, Or.inr rfl, Or.inr rfl, Or.inr
          rfl, Or.inr rfl, Or.inr rfl, Or.inr rfl, Or.inr rfl, Or.inr rfl, Or.inr rfl, Or.inr rfl, Or.inr rfl,
          Or.inr rfl, Or.inr rfl, Or.inr rfl, Or.inr rfl, Or.inr rfl, Or.inr rfl, Or.inr rfl, Or.inr rfl, Or.inr
          rfl, Or.inr rfl, Or.inr rfl, Or.inr rfl, Or.inr rfl, Or.inr rfl, Or.inr rfl, Or.inr rfl, Or.inl rfl,
          Or.inr rfl, Or.inr rfl, Or.inr rfl, Or.inr rfl, Or.inr rfl, Or.inr rfl, Or.inr rfl, Or.inr rfl, Or.inr
          rfl, Or.inr rfl, Or.inr rfl, Or.inr rfl, Or.inr rfl, Nat.le_refl _, trivial, fun w => w, fun w => w, fun w
          => w, fun w => w, fun w => w, fun w => w, fun w => w, fun w => w, fun w => w, fun w => w, fun w => w, fun
          w => w, fun w => w⟩
      exact Keeps.refl _ _
  · exact Keeps.refl _ _

theorem State.leaveModes_keeps {s : Sys2Proof.Machine.State} : Keeps 590295810365181657090 s (State.leaveModes s) := by
  unfold State.leaveModes
  refine Keeps.ite ?_ ?_
  · refine Keeps.ite ?_ ?_
    · refine Keeps.step ?_ State.injectionEnds_keeps rfl
      exact Keeps.refl _ _
    · exact Keeps.refl _ _
  · refine Keeps.mkUpd ?_ ⟨Or.inr rfl, rfl, Or.inr rfl, Or.inr rfl, Or.inr rfl, Or.inr rfl, Or.inr rfl, Or.inr
      rfl, Or.inr rfl, Or.inr rfl, Or.inr rfl, Or.inr rfl, Or.inr rfl, Or.inr rfl, Or.inr rfl, Or.inr rfl, Or.inr
      rfl, Or.inr rfl, Or.inr rfl, Or.inr rfl, Or.inr rfl, Or.inr rfl, Or.inr rfl, Or.inr rfl, Or.inr rfl, Or.inl
      rfl, Or.inr rfl, Or.inr rfl, Or.inr rfl, Or.inr rfl, Or.inr rfl, Or.inr rfl, Or.inr rfl, Or.inr rfl, Or.inr
      rfl, Or.inr rfl, Or.inr rfl, Or.inr rfl, Or.inr rfl, Or.inr rfl, Or.inr rfl, Or.inr rfl, Or.inr rfl, Or.inr
      rfl, Or.inr rfl, Or.inr rfl, Nat.le_refl _, trivial, fun w => w, fun w => w, fun w => w, fun w => w, fun w =>
      w, fun w => w, fun w => w, fun w => w, fun w => w, fun w => w, fun w => w, fun w => w, fun w => w⟩
    refine Keeps.ite ?_ ?_
    · refine Keeps.step ?_ State.injectionEnds_keeps rfl
      exact Keeps.refl _ _
    · exact Keeps.refl _ _

theorem State.dropTarget_keeps {s : Sys2Proof.Machine.State} : Keeps 67108864 s (State.dropTarget s) := by
  unfold State.dropTarget
  refine Keeps.mkUpd ?_ ⟨Or.inr rfl, rfl, Or.inr rfl, Or.inr rfl, Or.inr rfl, Or.inr rfl, Or.inr rfl, Or.inr
      rfl, Or.inr rfl, Or.inr rfl, Or.inr rfl, Or.inr rfl, Or.inr rfl, Or.inr rfl, Or.inr rfl, Or.inr rfl, Or.inr
      rfl, Or.inr rfl, Or.inr rfl, Or.inr rfl, Or.inr rfl, Or.inr rfl, Or.inr rfl, Or.inr rfl, Or.inr rfl, Or.inr
      rfl, Or.inl rfl, Or.inr rfl, Or.inr rfl, Or.inr rfl, Or.inr rfl, Or.inr rfl, Or.inr rfl, Or.inr rfl, Or.inr
      rfl, Or.inr rfl, Or.inr rfl, Or.inr rfl, Or.inr rfl, Or.inr rfl, Or.inr rfl, Or.inr rfl, Or.inr rfl, Or.inr
      rfl, Or.inr rfl, Or.inr rfl, Nat.le_refl _, trivial, fun w => w, fun w => w, fun w => w, fun w => w, fun w =>
      w, fun w => w, fun w => w, fun w => w, fun w => w, fun w => w, fun w => w, fun w => w, fun w => w⟩
  exact Keeps.refl _ _

theorem State.haltAll_keeps {s : Sys2Proof.Machine.State} : Keeps 16481268801588668028190186398 s
    (State.haltAll s) := by
  unfold State.haltAll
  refine Keeps.step ?_ State.leaveModes_keeps rfl
  refine Keeps.step ?_ State.dropTarget_keeps rfl
  refine Keeps.step ?_ State.wr_keeps (kb_k 73786976294838206464 rfl rfl)
  refine Keeps.step ?_ State.setMode_keeps rfl
  refine Keeps.step ?_ State.ucAbandon_keeps rfl
  refine Keeps.step ?_ State.winnAbandon_keeps rfl
  refine Keeps.foldl _ _ ?_ ?_
  · exact Keeps.refl _ _
  · intro y_ a_ h_
    refine Keeps.step ?_ State.safeEnter_keeps rfl
    with_reducible assumption

theorem State.enterHold6_keeps {s : Sys2Proof.Machine.State} : Keeps 16481268801588668028190186398 s
    (State.enterHold6 s) := by
  unfold State.enterHold6
  refine Keeps.ite ?_ ?_
  · exact Keeps.refl _ _
  · refine Keeps.step ?_ State.haltAll_keeps rfl
    exact Keeps.refl _ _

theorem State.alert_keeps {s : Sys2Proof.Machine.State} : Keeps 3060093480899530375397378 s (State.alert s) := by
  unfold State.alert
  refine Keeps.foldl _ _ ?_ ?_
  · refine Keeps.step ?_ State.raiseCause_keeps rfl
    exact Keeps.refl _ _
  · intro y_ a_ h_
    refine Keeps.step ?_ State.coreWake_keeps rfl
    refine Keeps.step ?_ State.modCore_keeps rfl
    with_reducible assumption

theorem State.openWindow_keeps {s : Sys2Proof.Machine.State} {n : Nat} : Keeps 2147483648 s (State.openWindow s n) := by
  unfold State.openWindow
  refine Keeps.step ?_ State.modFlt_keeps rfl
  exact Keeps.refl _ _

theorem State.react_keeps {s : Sys2Proof.Machine.State} {n : Nat} : Keeps 16686786190923156088485305278 s
    (State.react s n) := by
  unfold State.react
  refine Keeps.ite ?_ ?_
  · exact Keeps.refl _ _
  · refine Keeps.ite ?_ ?_
    · refine Keeps.step ?_ State.enterHold6_keeps rfl
      refine Keeps.ite ?_ ?_
      · refine Keeps.step ?_ State.openWindow_keeps rfl
        refine Keeps.ite ?_ ?_
        · refine Keeps.step ?_ State.modFlt_keeps rfl
          refine Keeps.step ?_ State.alert_keeps rfl
          exact Keeps.refl _ _
        · refine Keeps.step ?_ State.wr_keeps (kb_k 590295810358705651712 rfl rfl)
          refine Keeps.step ?_ State.modFlt_keeps rfl
          refine Keeps.step ?_ State.alert_keeps rfl
          exact Keeps.refl _ _
      · refine Keeps.ite ?_ ?_
        · refine Keeps.step ?_ State.modFlt_keeps rfl
          refine Keeps.step ?_ State.alert_keeps rfl
          exact Keeps.refl _ _
        · refine Keeps.step ?_ State.wr_keeps (kb_k 590295810358705651712 rfl rfl)
          refine Keeps.step ?_ State.modFlt_keeps rfl
          refine Keeps.step ?_ State.alert_keeps rfl
          exact Keeps.refl _ _
    · refine Keeps.ite ?_ ?_
      · refine Keeps.step ?_ State.isolate_keeps rfl
        refine Keeps.ite ?_ ?_
        · refine Keeps.step ?_ State.openWindow_keeps rfl
          refine Keeps.ite ?_ ?_
          · refine Keeps.step ?_ State.modFlt_keeps rfl
            refine Keeps.step ?_ State.alert_keeps rfl
            exact Keeps.refl _ _
          · refine Keeps.step ?_ State.wr_keeps (kb_k 590295810358705651712 rfl rfl)
            refine Keeps.step ?_ State.modFlt_keeps rfl
            refine Keeps.step ?_ State.alert_keeps rfl
            exact Keeps.refl _ _
        · refine Keeps.ite ?_ ?_
          · refine Keeps.step ?_ State.modFlt_keeps rfl
            refine Keeps.step ?_ State.alert_keeps rfl
            exact Keeps.refl _ _
          · refine Keeps.step ?_ State.wr_keeps (kb_k 590295810358705651712 rfl rfl)
            refine Keeps.step ?_ State.modFlt_keeps rfl
            refine Keeps.step ?_ State.alert_keeps rfl
            exact Keeps.refl _ _
      · refine Keeps.ite ?_ ?_
        · refine Keeps.ite ?_ ?_
          · refine Keeps.step ?_ State.alert_keeps rfl
            exact Keeps.refl _ _
          · refine Keeps.step ?_ State.wr_keeps (kb_k 590295810358705651712 rfl rfl)
            refine Keeps.step ?_ State.alert_keeps rfl
            exact Keeps.refl _ _
        · refine Keeps.step ?_ State.alert_keeps rfl
          exact Keeps.refl _ _

theorem State.latchFault_keeps {s : Sys2Proof.Machine.State} {n : Nat} {secondary : Bool} {cause : Nat} : Keeps
    38369227673315867426818 s (State.latchFault s n secondary cause) := by
  unfold State.latchFault
  refine Keeps.step ?_ State.wr_keeps (kb_k 590295810358705651712 rfl rfl)
  refine Keeps.step ?_ State.wr_keeps (kb_k 590295810358705651712 rfl rfl)
  refine Keeps.step ?_ State.count_keeps rfl
  refine Keeps.step ?_ State.putSlot_keeps rfl
  exact Keeps.refl _ _

theorem State.collect_keeps {s : Sys2Proof.Machine.State} {ns : List Nat} : Keeps 16686786190923156097075239871
    s (State.collect s ns) := by
  unfold State.collect
  refine Keeps.foldl _ _ ?_ ?_
  · refine Keeps.step ?_ State.fillFfr_keeps rfl
    refine Keeps.foldl _ _ ?_ ?_
    · refine Keeps.foldl _ _ ?_ ?_
      · refine Keeps.foldl _ _ ?_ ?_
        · refine Keeps.step ?_ State.advanceTo_keeps rfl
          exact Keeps.refl _ _
        · intro y_ a_ h_
          refine Keeps.ite ?_ ?_
          · refine Keeps.step ?_ State.wr_keeps (kb_k 590295810358705651712 rfl rfl)
            refine Keeps.step ?_ State.putSlot_keeps rfl
            with_reducible assumption
          · refine Keeps.step ?_ State.putSlot_keeps rfl
            with_reducible assumption
      · intro y_ a_ h_
        refine Keeps.step ?_ State.count_keeps rfl
        refine Keeps.step ?_ State.modFlt_keeps rfl
        refine Keeps.step ?_ State.putSlot_keeps rfl
        with_reducible assumption
    · intro y_ a_ h_
      refine Keeps.step ?_ State.latchFault_keeps rfl
      with_reducible assumption
  · intro y_ a_ h_
    refine Keeps.step ?_ State.react_keeps rfl
    with_reducible assumption

theorem execFaultSourceAssert_keeps {slots : List (Fin 256)} {s : Sys2Proof.Machine.State} : ResKeeps tgtNext
    16686786190923156097075239871 s (execFaultSourceAssert slots s) := by
  unfold execFaultSourceAssert
  refine ResKeeps.some rfl ?_
  refine Keeps.step ?_ State.collect_keeps rfl
  refine Keeps.foldl _ _ ?_ ?_
  · exact Keeps.refl _ _
  · intro y_ a_ h_
    refine Keeps.step ?_ State.drivePair_keeps rfl
    with_reducible assumption

theorem State.wireFault_keeps {s : Sys2Proof.Machine.State} {n : Nat} {high : Bool} : Keeps
    16686786190923156097075239871 s (State.wireFault s n high) := by
  unfold State.wireFault
  refine Keeps.step ?_ State.collect_keeps rfl
  refine Keeps.ite ?_ ?_
  · refine Keeps.step ?_ State.count_keeps rfl
    refine Keeps.step ?_ State.modFlt_keeps rfl
    exact Keeps.refl _ _
  · refine Keeps.step ?_ State.wr_keeps (kb_k 590295810358705651712 rfl rfl)
    refine Keeps.step ?_ State.wr_keeps (kb_k 590295810358705651712 rfl rfl)
    refine Keeps.step ?_ State.wr_keeps (kb_k 590295810358705651712 rfl rfl)
    refine Keeps.step ?_ State.count_keeps rfl
    refine Keeps.step ?_ State.modFlt_keeps rfl
    exact Keeps.refl _ _

theorem execWireFault_keeps {slot : Fin 256} {high : Bool} {s : Sys2Proof.Machine.State} : ResKeeps tgtNext
    16686786190923156097075239871 s (execWireFault slot high s) := by
  unfold execWireFault
  refine ResKeeps.some rfl ?_
  refine Keeps.ite ?_ ?_
  · refine Keeps.step ?_ State.wireFault_keeps rfl
    exact Keeps.refl _ _
  · exact Keeps.refl _ _

theorem State.windowCloses_keeps {s : Sys2Proof.Machine.State} {m : Nat} {e : Nat} : Keeps
    16686786190923156097075239871 s (State.windowCloses s m e) := by
  unfold State.windowCloses
  refine Keeps.foldl _ _ ?_ ?_
  · refine Keeps.step ?_ State.fillFfr_keeps rfl
    refine Keeps.foldl _ _ ?_ ?_
    · refine Keeps.foldl _ _ ?_ ?_
      · refine Keeps.step ?_ State.modFlt_keeps rfl
        refine Keeps.step ?_ State.advanceTo_keeps rfl
        exact Keeps.refl _ _
      · intro y_ a_ h_
        refine Keeps.step ?_ State.modFlt_keeps rfl
        with_reducible assumption
    · intro y_ a_ h_
      refine Keeps.step ?_ State.count_keeps rfl
      refine Keeps.step ?_ State.latchFault_keeps rfl
      with_reducible assumption
  · intro y_ a_ h_
    refine Keeps.step ?_ State.react_keeps rfl
    with_reducible assumption

theorem execShadowWindowEnd_keeps {slot : Fin 256} {s : Sys2Proof.Machine.State} : ResKeeps tgtNext
    16686786190923156097075239871 s (execShadowWindowEnd slot s) := by
  unfold execShadowWindowEnd
  split
  · refine ResKeeps.some rfl ?_
    refine Keeps.step ?_ State.windowCloses_keeps rfl
    exact Keeps.refl _ _
  · refine ResKeeps.some rfl ?_
    exact Keeps.refl _ _

theorem State.conditionEnds_keeps {s : Sys2Proof.Machine.State} {n : Nat} {temps : List (BitVec 8)} : Keeps
    1328165573309235200002 s (State.conditionEnds s n temps) := by
  unfold State.conditionEnds
  refine Keeps.ite ?_ ?_
  · refine Keeps.ite ?_ ?_
    · refine Keeps.step ?_ State.wr_keeps (kb_k 1180591620717411303424 rfl rfl)
      refine Keeps.step ?_ State.wr_keeps (kb_k 1180591620717411303424 rfl rfl)
      refine Keeps.step ?_ State.drivePair_keeps rfl
      exact Keeps.refl _ _
    · exact Keeps.refl _ _
  · refine Keeps.ite ?_ ?_
    · refine Keeps.ite ?_ ?_
      · refine Keeps.step ?_ State.wr_keeps (kb_k 1180591620717411303424 rfl rfl)
        refine Keeps.step ?_ State.wr_keeps (kb_k 1180591620717411303424 rfl rfl)
        refine Keeps.step ?_ State.drivePair_keeps rfl
        exact Keeps.refl _ _
      · exact Keeps.refl _ _
    · refine Keeps.ite ?_ ?_
      · refine Keeps.step ?_ State.wr_keeps (kb_k 147573952589676412928 rfl rfl)
        refine Keeps.step ?_ State.drivePair_keeps rfl
        exact Keeps.refl _ _
      · refine Keeps.ite ?_ ?_
        · refine Keeps.step ?_ State.wr_keeps (kb_k 1180591620717411303424 rfl rfl)
          refine Keeps.step ?_ State.drivePair_keeps rfl
          exact Keeps.refl _ _
        · refine Keeps.ite ?_ ?_
          · refine Keeps.step ?_ State.drivePair_keeps rfl
            exact Keeps.refl _ _
          · exact Keeps.refl _ _

theorem State.faultClears_keeps {s : Sys2Proof.Machine.State} {n : Nat} {temps : List (BitVec 8)} : Keeps
    1918461383667940851714 s (State.faultClears s n temps) := by
  unfold State.faultClears
  refine Keeps.ite ?_ ?_
  · refine Keeps.step ?_ State.sourceClears_keeps rfl
    refine Keeps.foldl _ _ ?_ ?_
    · exact Keeps.refl _ _
    · intro y_ a_ h_
      refine Keeps.step ?_ State.modFlt_keeps rfl
      with_reducible assumption
  · refine Keeps.step ?_ State.sourceClears_keeps rfl
    refine Keeps.step ?_ State.sourceClears_keeps rfl
    refine Keeps.step ?_ State.conditionEnds_keeps rfl
    refine Keeps.step ?_ State.modFlt_keeps rfl
    exact Keeps.refl _ _

theorem execFaultSourceClear_keeps {slot : Fin 256} {temps : List (BitVec 8)} {s : Sys2Proof.Machine.State} :
    ResKeeps tgtNext 1918461383667940851714 s (execFaultSourceClear slot temps s) := by
  unfold execFaultSourceClear
  refine ResKeeps.some rfl ?_
  refine Keeps.ite ?_ ?_
  · refine Keeps.step ?_ State.faultClears_keeps rfl
    exact Keeps.refl _ _
  · exact Keeps.refl _ _

theorem State.settle_keeps {s : Sys2Proof.Machine.State} : Keeps 38959523483678868051970 s (State.settle s) := by
  unfold State.settle
  refine Keeps.ite ?_ ?_
  · exact Keeps.refl _ _
  · refine Keeps.mkUpd ?_ ⟨Or.inr rfl, rfl, Or.inr rfl, Or.inr rfl, Or.inr rfl, Or.inr rfl, Or.inr rfl, Or.inr
      rfl, Or.inr rfl, Or.inr rfl, Or.inr rfl, Or.inr rfl, Or.inr rfl, Or.inr rfl, Or.inr rfl, Or.inr rfl, Or.inr
      rfl, Or.inr rfl, Or.inr rfl, Or.inr rfl, Or.inr rfl, Or.inr rfl, Or.inr rfl, Or.inr rfl, Or.inr rfl, Or.inr
      rfl, Or.inr rfl, Or.inr rfl, Or.inr rfl, Or.inr rfl, Or.inr rfl, Or.inr rfl, Or.inl rfl, Or.inr rfl, Or.inr
      rfl, Or.inr rfl, Or.inr rfl, Or.inr rfl, Or.inr rfl, Or.inr rfl, Or.inr rfl, Or.inr rfl, Or.inr rfl, Or.inr
      rfl, Or.inr rfl, Or.inr rfl, Nat.le_refl _, trivial, fun w => w, fun w => w, fun w => w, fun w => w, fun w =>
      w, fun w => w, fun w => w, fun w => w, fun w => w, fun w => w, fun w => w, fun w => w, fun w => w⟩
    refine Keeps.foldl _ _ ?_ ?_
    · exact Keeps.refl _ _
    · intro y_ a_ h_
      refine Keeps.foldl _ _ ?_ ?_
      · with_reducible assumption
      · intro y_ a_ h_
        refine Keeps.ite ?_ ?_
        · refine Keeps.step ?_ State.safeClear_keeps rfl
          with_reducible assumption
        · with_reducible assumption

theorem State.leaveHold6_keeps {s : Sys2Proof.Machine.State} : Keeps 604536696783609693995010 s
    (State.leaveHold6 s) := by
  unfold State.leaveHold6
  refine Keeps.ite ?_ ?_
  · refine Keeps.step ?_ State.setMode_keeps rfl
    exact Keeps.refl _ _
  · exact Keeps.refl _ _

theorem State.recover_keeps {s : Sys2Proof.Machine.State} {n : Nat} {sr : Sys2Proof.SrFindings} : Keeps
    79228162495817593665625889550 s (State.recover s n sr) := by
  unfold State.recover
  refine Keeps.step ?_ State.settle_keeps rfl
  refine Keeps.step ?_ State.leaveHold6_keeps rfl
  refine Keeps.ite ?_ ?_
  · refine Keeps.mkUpd ?_ ⟨Or.inr rfl, rfl, Or.inr rfl, Or.inr rfl, Or.inr rfl, Or.inr rfl, Or.inr rfl, Or.inr
      rfl, Or.inr rfl, Or.inr rfl, Or.inr rfl, Or.inr rfl, Or.inr rfl, Or.inr rfl, Or.inr rfl, Or.inr rfl, Or.inr
      rfl, Or.inr rfl, Or.inr rfl, Or.inr rfl, Or.inr rfl, Or.inr rfl, Or.inr rfl, Or.inr rfl, Or.inr rfl, Or.inr
      rfl, Or.inr rfl, Or.inr rfl, Or.inr rfl, Or.inr rfl, Or.inr rfl, Or.inr rfl, Or.inl rfl, Or.inr rfl, Or.inr
      rfl, Or.inr rfl, Or.inr rfl, Or.inr rfl, Or.inr rfl, Or.inr rfl, Or.inr rfl, Or.inr rfl, Or.inr rfl, Or.inr
      rfl, Or.inr rfl, Or.inr rfl, Nat.le_refl _, trivial, fun w => w, fun w => w, fun w => w, fun w => w, fun w =>
      w, fun w => w, fun w => w, fun w => w, fun w => w, fun w => w, fun w => w, fun w => w, fun w => w⟩
    refine Keeps.ite ?_ ?_
    · refine Keeps.step ?_ State.restore_keeps rfl
      refine Keeps.step ?_ State.count_keeps rfl
      refine Keeps.step ?_ State.modFlt_keeps rfl
      refine Keeps.step ?_ State.wr_keeps (kb_k 590295810358705651712 rfl rfl)
      exact Keeps.refl _ _
    · refine Keeps.step ?_ State.count_keeps rfl
      refine Keeps.step ?_ State.modFlt_keeps rfl
      refine Keeps.step ?_ State.wr_keeps (kb_k 590295810358705651712 rfl rfl)
      exact Keeps.refl _ _
  · refine Keeps.ite ?_ ?_
    · refine Keeps.step ?_ State.restore_keeps rfl
      refine Keeps.step ?_ State.count_keeps rfl
      refine Keeps.step ?_ State.modFlt_keeps rfl
      refine Keeps.step ?_ State.wr_keeps (kb_k 590295810358705651712 rfl rfl)
      exact Keeps.refl _ _
    · refine Keeps.step ?_ State.count_keeps rfl
      refine Keeps.step ?_ State.modFlt_keeps rfl
      refine Keeps.step ?_ State.wr_keeps (kb_k 590295810358705651712 rfl rfl)
      exact Keeps.refl _ _

theorem State.lockSource_keeps {s : Sys2Proof.Machine.State} {n : Nat} : Keeps 16481268801588668028190186398 s
    (State.lockSource s n) := by
  unfold State.lockSource
  refine Keeps.step ?_ State.enterHold6_keeps rfl
  refine Keeps.step ?_ State.count_keeps rfl
  refine Keeps.step ?_ State.modFlt_keeps rfl
  refine Keeps.step ?_ State.putSlot_keeps rfl
  refine Keeps.step ?_ State.wr_keeps (kb_k 590295810358705651712 rfl rfl)
  refine Keeps.step ?_ State.wr_keeps (kb_k 590295810358705651712 rfl rfl)
  exact Keeps.refl _ _

theorem State.quietEnds_keeps {s : Sys2Proof.Machine.State} {n : Nat} {sr : Sys2Proof.SrFindings} : Keeps
    79228162495817593665726700447 s (State.quietEnds s n sr) := by
  unfold State.quietEnds
  refine Keeps.ite ?_ ?_
  · refine Keeps.step ?_ State.lockSource_keeps rfl
    refine Keeps.step ?_ State.modFlt_keeps rfl
    refine Keeps.step ?_ State.advanceTo_keeps rfl
    exact Keeps.refl _ _
  · refine Keeps.step ?_ State.satAdd_keeps (kb_k 590295810358705651712 rfl rfl)
    refine Keeps.step ?_ State.recover_keeps rfl
    refine Keeps.step ?_ State.modFlt_keeps rfl
    refine Keeps.step ?_ State.advanceTo_keeps rfl
    exact Keeps.refl _ _

theorem execQuietPeriodEnd_keeps {slot : Fin 256} {sr : Sys2Proof.SrFindings} {s : Sys2Proof.Machine.State} :
    ResKeeps tgtNext 79228162495817593665726700447 s (execQuietPeriodEnd slot sr s) := by
  unfold execQuietPeriodEnd
  refine ResKeeps.some rfl ?_
  refine Keeps.ite ?_ ?_
  · refine Keeps.step ?_ State.quietEnds_keeps rfl
    exact Keeps.refl _ _
  · exact Keeps.refl _ _

theorem State.sstatWrite_keeps {s : Sys2Proof.Machine.State} {r : Sys2Proof.Requester} {n : Nat} {word : Nat} :
    Keeps 590295810360853135366 s (State.sstatWrite s r n word) := by
  unfold State.sstatWrite
  refine State.writeWith_keeps ?_ (kb_k 590295810358705651712 rfl rfl) ?_
  · exact Keeps.refl _ _
  · intro y0_ h_
    refine Keeps.ite ?_ ?_
    · refine Keeps.step ?_ State.wr_keeps (kb_k 590295810358705651712 rfl rfl)
      refine Keeps.step ?_ State.modFlt_keeps rfl
      refine Keeps.step ?_ State.putSlot_keeps rfl
      with_reducible assumption
    · with_reducible assumption

theorem execLockClear_keeps {r : Sys2Proof.Requester} {slot : Fin 256} {s : Sys2Proof.Machine.State} : ResKeeps
    tgtNext 590295810360853135366 s (execLockClear r slot s) := by
  unfold execLockClear
  refine ResKeeps.some rfl ?_
  refine Keeps.step ?_ State.sstatWrite_keeps rfl
  exact Keeps.refl _ _

theorem State.injectionStarts_keeps {s : Sys2Proof.Machine.State} {n : Nat} {kind : Nat} {dur : Nat} : Keeps
    16686786190923156097075239871 s (State.injectionStarts s n kind dur) := by
  unfold State.injectionStarts
  refine Keeps.ite ?_ ?_
  · refine Keeps.step ?_ State.collect_keeps rfl
    refine Keeps.step ?_ State.count_keeps rfl
    refine Keeps.mkUpd ?_ ⟨Or.inr rfl, rfl, Or.inr rfl, Or.inr rfl, Or.inr rfl, Or.inr rfl, Or.inr rfl, Or.inr
        rfl, Or.inr rfl, Or.inr rfl, Or.inr rfl, Or.inr rfl, Or.inr rfl, Or.inr rfl, Or.inr rfl, Or.inr rfl, Or.inr
        rfl, Or.inr rfl, Or.inr rfl, Or.inr rfl, Or.inr rfl, Or.inr rfl, Or.inr rfl, Or.inr rfl, Or.inr rfl, Or.inr
        rfl, Or.inr rfl, Or.inr rfl, Or.inr rfl, Or.inr rfl, Or.inr rfl, Or.inr rfl, Or.inl rfl, Or.inr rfl, Or.inr
        rfl, Or.inr rfl, Or.inr rfl, Or.inr rfl, Or.inr rfl, Or.inr rfl, Or.inr rfl, Or.inr rfl, Or.inr rfl, Or.inr
        rfl, Or.inr rfl, Or.inr rfl, Nat.le_refl _, trivial, fun w => w, fun w => w, fun w => w, fun w => w, fun w
        => w, fun w => w, fun w => w, fun w => w, fun w => w, fun w => w, fun w => w, fun w => w, fun w => w⟩
    refine Keeps.step ?_ State.injectionEnds_keeps rfl
    exact Keeps.refl _ _
  · refine Keeps.step ?_ State.wireFault_keeps rfl
    refine Keeps.step ?_ State.count_keeps rfl
    refine Keeps.mkUpd ?_ ⟨Or.inr rfl, rfl, Or.inr rfl, Or.inr rfl, Or.inr rfl, Or.inr rfl, Or.inr rfl, Or.inr
        rfl, Or.inr rfl, Or.inr rfl, Or.inr rfl, Or.inr rfl, Or.inr rfl, Or.inr rfl, Or.inr rfl, Or.inr rfl, Or.inr
        rfl, Or.inr rfl, Or.inr rfl, Or.inr rfl, Or.inr rfl, Or.inr rfl, Or.inr rfl, Or.inr rfl, Or.inr rfl, Or.inr
        rfl, Or.inr rfl, Or.inr rfl, Or.inr rfl, Or.inr rfl, Or.inr rfl, Or.inr rfl, Or.inl rfl, Or.inr rfl, Or.inr
        rfl, Or.inr rfl, Or.inr rfl, Or.inr rfl, Or.inr rfl, Or.inr rfl, Or.inr rfl, Or.inr rfl, Or.inr rfl, Or.inr
        rfl, Or.inr rfl, Or.inr rfl, Nat.le_refl _, trivial, fun w => w, fun w => w, fun w => w, fun w => w, fun w
        => w, fun w => w, fun w => w, fun w => w, fun w => w, fun w => w, fun w => w, fun w => w, fun w => w⟩
    refine Keeps.step ?_ State.injectionEnds_keeps rfl
    exact Keeps.refl _ _

theorem State.injWrite_keeps {s : Sys2Proof.Machine.State} {r : Sys2Proof.Requester} {word : Nat} : Keeps
    16686786190923156097075239871 s (State.injWrite s r word) := by
  unfold State.injWrite
  refine Keeps.ite ?_ ?_
  · refine Keeps.step ?_ State.werr_keeps (kb_k 590295810358705651712 rfl rfl)
    exact Keeps.refl _ _
  · refine State.writeWith_keeps ?_ (kb_k 590295810358705651712 rfl rfl) ?_
    · exact Keeps.refl _ _
    · intro y0_ h_
      refine Keeps.ite ?_ ?_
      · refine Keeps.step ?_ State.injectionStarts_keeps rfl
        with_reducible assumption
      · with_reducible assumption

theorem execFaultInjection_keeps {r : Sys2Proof.Requester} {v : Sys2Proof.Word} {s : Sys2Proof.Machine.State} :
    ResKeeps tgtNext 16686786190923156097075239871 s (execFaultInjection r v s) := by
  unfold execFaultInjection
  refine ResKeeps.some rfl ?_
  refine Keeps.step ?_ State.injWrite_keeps rfl
  exact Keeps.refl _ _

theorem execInjectionEnd_keeps {s : Sys2Proof.Machine.State} : ResKeeps tgtNext 590295810365148102659 s
    (execInjectionEnd s) := by
  unfold execInjectionEnd
  split
  · refine ResKeeps.some rfl ?_
    refine Keeps.step ?_ State.injectionEnds_keeps rfl
    refine Keeps.step ?_ State.advanceTo_keeps rfl
    exact Keeps.refl _ _
  · refine ResKeeps.some rfl ?_
    exact Keeps.refl _ _

end Sys2Proof.Machine
end

