-- ==== Sys2Proof/Laws/FrameSilo.lean ====
section
/-! SUPPORT. What each function of Machine/Silo.lean may change: one mask of `Keeps` for each. -/

namespace Sys2Proof.Machine

open Reg

theorem State.disarm_keeps {s : Sys2Proof.Machine.State} : Keeps 1180591620721706270722 s (State.disarm s) := by
  unfold State.disarm
  refine Keeps.mkUpd ?_ ⟨Or.inr rfl, rfl, Or.inr rfl, Or.inr rfl, Or.inr rfl, Or.inr rfl, Or.inr rfl, Or.inr
      rfl, Or.inr rfl, Or.inr rfl, Or.inr rfl, Or.inr rfl, Or.inr rfl, Or.inr rfl, Or.inr rfl, Or.inr rfl, Or.inr
      rfl, Or.inr rfl, Or.inr rfl, Or.inr rfl, Or.inr rfl, Or.inr rfl, Or.inr rfl, Or.inr rfl, Or.inr rfl, Or.inr
      rfl, Or.inr rfl, Or.inr rfl, Or.inr rfl, Or.inr rfl, Or.inr rfl, Or.inr rfl, Or.inl rfl, Or.inr rfl, Or.inr
      rfl, Or.inr rfl, Or.inr rfl, Or.inr rfl, Or.inr rfl, Or.inr rfl, Or.inr rfl, Or.inr rfl, Or.inr rfl, Or.inr
      rfl, Or.inr rfl, Or.inr rfl, Nat.le_refl _, trivial, fun w => w, fun w => w, fun w => w, fun w => w, fun w =>
      w, fun w => w, fun w => w, fun w => w, fun w => w, fun w => w, fun w => w, fun w => w, fun w => w⟩
  refine Keeps.step ?_ State.wr_keeps (kb_k 1180591620717411303424 rfl rfl)
  exact Keeps.refl _ _

theorem State.armFails_keeps {s : Sys2Proof.Machine.State} : Keeps 16686786190923156097075239871 s
    (State.armFails s) := by
  unfold State.armFails
  refine Keeps.step ?_ State.sourceClears_keeps rfl
  refine Keeps.step ?_ State.drivePair_keeps rfl
  refine Keeps.step ?_ State.collect_keeps rfl
  refine Keeps.step ?_ State.drivePair_keeps rfl
  refine Keeps.step ?_ State.wr_keeps (kb_k 1180591620717411303424 rfl rfl)
  refine Keeps.step ?_ State.disarm_keeps rfl
  exact Keeps.refl _ _

theorem State.armWrite_keeps {s : Sys2Proof.Machine.State} {v : Nat} : Keeps 16686786190923156097075239871 s
    (State.armWrite s v) := by
  unfold State.armWrite
  refine Keeps.ite ?_ ?_
  · refine Keeps.step ?_ State.werr_keeps (kb_k 1180591620717411303424 rfl rfl)
    exact Keeps.refl _ _
  · refine Keeps.ite ?_ ?_
    · refine Keeps.step ?_ State.disarm_keeps rfl
      exact Keeps.refl _ _
    · refine Keeps.ite ?_ ?_
      · exact Keeps.refl _ _
      · refine Keeps.ite ?_ ?_
        · refine Keeps.mkUpd ?_ ⟨Or.inr rfl, rfl, Or.inr rfl, Or.inr rfl, Or.inr rfl, Or.inr rfl, Or.inr rfl,
            Or.inr rfl, Or.inr rfl, Or.inr rfl, Or.inr rfl, Or.inr rfl, Or.inr rfl, Or.inr rfl, Or.inr rfl, Or.inr
            rfl, Or.inr rfl, Or.inr rfl, Or.inr rfl, Or.inr rfl, Or.inr rfl, Or.inr rfl, Or.inr rfl, Or.inr rfl,
            Or.inr rfl, Or.inr rfl, Or.inr rfl, Or.inr rfl, Or.inr rfl, Or.inr rfl, Or.inr rfl, Or.inr rfl, Or.inl
            rfl, Or.inr rfl, Or.inr rfl, Or.inr rfl, Or.inr rfl, Or.inr rfl, Or.inr rfl, Or.inr rfl, Or.inr rfl,
            Or.inr rfl, Or.inr rfl, Or.inr rfl, Or.inr rfl, Or.inr rfl, Nat.le_refl _, trivial, fun w => w, fun w =>
            w, fun w => w, fun w => w, fun w => w, fun w => w, fun w => w, fun w => w, fun w => w, fun w => w, fun w
            => w, fun w => w, fun w => w⟩
          refine Keeps.step ?_ State.wr_keeps (kb_k 1180591620717411303424 rfl rfl)
          refine Keeps.ofRes (tgt := tgtSnd) ?_ rfl rfl
          refine ResKeeps.step ?_ State.draw_keeps rfl
          exact Keeps.refl _ _
        · refine Keeps.ite ?_ ?_
          · refine Keeps.mkUpd ?_ ⟨Or.inr rfl, rfl, Or.inr rfl, Or.inr rfl, Or.inr rfl, Or.inr rfl, Or.inr rfl,
              Or.inr rfl, Or.inr rfl, Or.inr rfl, Or.inr rfl, Or.inr rfl, Or.inr rfl, Or.inr rfl, Or.inr rfl, Or.inr
              rfl, Or.inr rfl, Or.inr rfl, Or.inr rfl, Or.inr rfl, Or.inr rfl, Or.inr rfl, Or.inr rfl, Or.inr rfl,
              Or.inr rfl, Or.inr rfl, Or.inr rfl, Or.inr rfl, Or.inr rfl, Or.inr rfl, Or.inr rfl, Or.inr rfl, Or.inl
              rfl, Or.inr rfl, Or.inr rfl, Or.inr rfl, Or.inr rfl, Or.inr rfl, Or.inr rfl, Or.inr rfl, Or.inr rfl,
              Or.inr rfl, Or.inr rfl, Or.inr rfl, Or.inr rfl, Or.inr rfl, Nat.le_refl _, trivial, fun w => w, fun w
              => w, fun w => w, fun w => w, fun w => w, fun w => w, fun w => w, fun w => w, fun w => w, fun w => w,
              fun w => w, fun w => w, fun w => w⟩
            refine Keeps.step ?_ State.wr_keeps (kb_k 1180591620717411303424 rfl rfl)
            exact Keeps.refl _ _
          · refine Keeps.step ?_ State.armFails_keeps rfl
            exact Keeps.refl _ _

theorem execSiloArm_keeps {v : Sys2Proof.Word} {s : Sys2Proof.Machine.State} : ResKeeps tgtNext
    16686786190923156097075239871 s (execSiloArm v s) := by
  unfold execSiloArm
  refine ResKeeps.some rfl ?_
  refine Keeps.step ?_ State.armWrite_keeps rfl
  exact Keeps.refl _ _

theorem execSiloArmExpire_keeps {s : Sys2Proof.Machine.State} : ResKeeps tgtNext 1180591620721706270723 s
    (execSiloArmExpire s) := by
  unfold execSiloArmExpire
  split
  · refine ResKeeps.some rfl ?_
    refine Keeps.mkUpd ?_ ⟨Or.inr rfl, rfl, Or.inr rfl, Or.inr rfl, Or.inr rfl, Or.inr rfl, Or.inr rfl, Or.inr
        rfl, Or.inr rfl, Or.inr rfl, Or.inr rfl, Or.inr rfl, Or.inr rfl, Or.inr rfl, Or.inr rfl, Or.inr rfl, Or.inr
        rfl, Or.inr rfl, Or.inr rfl, Or.inr rfl, Or.inr rfl, Or.inr rfl, Or.inr rfl, Or.inr rfl, Or.inr rfl, Or.inr
        rfl, Or.inr rfl, Or.inr rfl, Or.inr rfl, Or.inr rfl, Or.inr rfl, Or.inr rfl, Or.inl rfl, Or.inr rfl, Or.inr
        rfl, Or.inr rfl, Or.inr rfl, Or.inr rfl, Or.inr rfl, Or.inr rfl, Or.inr rfl, Or.inr rfl, Or.inr rfl, Or.inr
        rfl, Or.inr rfl, Or.inr rfl, Nat.le_refl _, trivial, fun w => w, fun w => w, fun w => w, fun w => w, fun w
        => w, fun w => w, fun w => w, fun w => w, fun w => w, fun w => w, fun w => w, fun w => w, fun w => w⟩
    refine Keeps.step ?_ State.advanceTo_keeps rfl
    exact Keeps.refl _ _
  · refine ResKeeps.some rfl ?_
    refine Keeps.ite ?_ ?_
    · refine Keeps.step ?_ State.wr_keeps (kb_k 1180591620717411303424 rfl rfl)
      refine Keeps.step ?_ State.advanceTo_keeps rfl
      exact Keeps.refl _ _
    · exact Keeps.refl _ _

theorem State.forceWrite_keeps {s : Sys2Proof.Machine.State} {v : Nat} : Keeps 16480965979837954012073417622 s
    (State.forceWrite s v) := by
  unfold State.forceWrite
  refine Keeps.step ?_ State.settle_keeps rfl
  refine Keeps.foldl _ _ ?_ ?_
  · refine Keeps.step ?_ State.wr_keeps (kb_k 1180591620717411303424 rfl rfl)
    exact Keeps.refl _ _
  · intro y_ a_ h_
    refine Keeps.ite ?_ ?_
    · refine Keeps.step ?_ State.safeEnter_keeps rfl
      with_reducible assumption
    · with_reducible assumption

theorem execSiloForce_keeps {i3c : Bool} {v : Sys2Proof.Word} {s : Sys2Proof.Machine.State} : ResKeeps tgtNext
    16480965979837954012073417622 s (execSiloForce i3c v s) := by
  unfold execSiloForce
  refine ResKeeps.some rfl ?_
  refine Keeps.ite ?_ ?_
  · refine Keeps.step ?_ State.werr_keeps (kb_k 1180591620717411303424 rfl rfl)
    exact Keeps.refl _ _
  · refine Keeps.step ?_ State.forceWrite_keeps rfl
    exact Keeps.refl _ _

theorem State.safeNActive_keeps {s : Sys2Proof.Machine.State} : Keeps 16686786190923156097075239871 s
    (State.safeNActive s) := by
  unfold State.safeNActive
  refine Keeps.step ?_ State.collect_keeps rfl
  refine Keeps.step ?_ State.drivePair_keeps rfl
  refine Keeps.foldl _ _ ?_ ?_
  · refine Keeps.mkUpd ?_ ⟨Or.inr rfl, rfl, Or.inr rfl, Or.inr rfl, Or.inr rfl, Or.inr rfl, Or.inr rfl, Or.inr
      rfl, Or.inr rfl, Or.inr rfl, Or.inr rfl, Or.inr rfl, Or.inr rfl, Or.inr rfl, Or.inr rfl, Or.inr rfl, Or.inr
      rfl, Or.inr rfl, Or.inr rfl, Or.inr rfl, Or.inr rfl, Or.inr rfl, Or.inr rfl, Or.inr rfl, Or.inr rfl, Or.inr
      rfl, Or.inr rfl, Or.inr rfl, Or.inr rfl, Or.inr rfl, Or.inr rfl, Or.inr rfl, Or.inl rfl, Or.inr rfl, Or.inr
      rfl, Or.inr rfl, Or.inr rfl, Or.inr rfl, Or.inr rfl, Or.inr rfl, Or.inr rfl, Or.inr rfl, Or.inr rfl, Or.inr
      rfl, Or.inr rfl, Or.inr rfl, Nat.le_refl _, trivial, fun w => w, fun w => w, fun w => w, fun w => w, fun w =>
      w, fun w => w, fun w => w, fun w => w, fun w => w, fun w => w, fun w => w, fun w => w, fun w => w⟩
    refine Keeps.step ?_ State.wr_keeps (kb_k 1180591620717411303424 rfl rfl)
    exact Keeps.refl _ _
  · intro y_ a_ h_
    refine Keeps.step ?_ State.safeEnter_keeps rfl
    with_reducible assumption

theorem execSafeN_keeps {active : Bool} {s : Sys2Proof.Machine.State} : ResKeeps tgtNext
    16686786190923156097075239871 s (execSafeN active s) := by
  unfold execSafeN
  refine ResKeeps.some rfl ?_
  refine Keeps.ite ?_ ?_
  · refine Keeps.ite ?_ ?_
    · exact Keeps.refl _ _
    · refine Keeps.step ?_ State.safeNActive_keeps rfl
      exact Keeps.refl _ _
  · refine Keeps.step ?_ State.sourceClears_keeps rfl
    refine Keeps.step ?_ State.drivePair_keeps rfl
    refine Keeps.step ?_ State.wr_keeps (kb_k 1180591620717411303424 rfl rfl)
    exact Keeps.refl _ _

theorem State.groupTrip_keeps {s : Sys2Proof.Machine.State} {g : Nat} {meas : Nat} : Keeps
    16686786190923156097075239871 s (State.groupTrip s g meas) := by
  unfold State.groupTrip
  refine Keeps.ite ?_ ?_
  · refine Keeps.step ?_ State.wr_keeps (kb_k 1180591620717411303424 rfl rfl)
    exact Keeps.refl _ _
  · refine Keeps.step ?_ State.collect_keeps rfl
    refine Keeps.step ?_ State.drivePair_keeps rfl
    refine Keeps.foldl _ _ ?_ ?_
    · refine Keeps.step ?_ State.wr_keeps (kb_k 1180591620717411303424 rfl rfl)
      exact Keeps.refl _ _
    · intro y_ a_ h_
      refine Keeps.step ?_ State.safeEnter_keeps rfl
      with_reducible assumption

theorem execGroupCurrentLimit_keeps {g : Fin 8} {meas : BitVec 8} {s : Sys2Proof.Machine.State} : ResKeeps
    tgtNext 16686786190923156097075239871 s (execGroupCurrentLimit g meas s) := by
  unfold execGroupCurrentLimit
  refine ResKeeps.some rfl ?_
  refine Keeps.step ?_ State.groupTrip_keeps rfl
  exact Keeps.refl _ _

theorem State.thermal_keeps {s : Sys2Proof.Machine.State} {temps : List (BitVec 8)} : Keeps
    16686786190923156097075239871 s (State.thermal s temps) := by
  unfold State.thermal
  refine Keeps.step ?_ State.collect_keeps rfl
  refine Keeps.ite ?_ ?_
  · refine Keeps.step ?_ State.drivePair_keeps rfl
    refine Keeps.step ?_ State.wr_keeps (kb_k 1180591620717411303424 rfl rfl)
    refine Keeps.ite ?_ ?_
    · refine Keeps.step ?_ State.drivePair_keeps rfl
      refine Keeps.step ?_ State.wr_keeps (kb_k 1180591620717411303424 rfl rfl)
      refine Keeps.step ?_ State.wr_keeps (kb_k 1180591620717411303424 rfl rfl)
      refine Keeps.step ?_ State.wr_keeps (kb_k 1180591620717411303424 rfl rfl)
      exact Keeps.refl _ _
    · refine Keeps.step ?_ State.wr_keeps (kb_k 1180591620717411303424 rfl rfl)
      refine Keeps.step ?_ State.wr_keeps (kb_k 1180591620717411303424 rfl rfl)
      exact Keeps.refl _ _
  · refine Keeps.ite ?_ ?_
    · refine Keeps.step ?_ State.drivePair_keeps rfl
      refine Keeps.step ?_ State.wr_keeps (kb_k 1180591620717411303424 rfl rfl)
      refine Keeps.step ?_ State.wr_keeps (kb_k 1180591620717411303424 rfl rfl)
      refine Keeps.step ?_ State.wr_keeps (kb_k 1180591620717411303424 rfl rfl)
      exact Keeps.refl _ _
    · refine Keeps.step ?_ State.wr_keeps (kb_k 1180591620717411303424 rfl rfl)
      refine Keeps.step ?_ State.wr_keeps (kb_k 1180591620717411303424 rfl rfl)
      exact Keeps.refl _ _

theorem execThermalWarning_keeps {temps : List (BitVec 8)} {s : Sys2Proof.Machine.State} : ResKeeps tgtNext
    16686786190923156097075239871 s (execThermalWarning temps s) := by
  unfold execThermalWarning
  refine ResKeeps.some rfl ?_
  refine Keeps.ite ?_ ?_
  · refine Keeps.step ?_ State.thermal_keeps rfl
    exact Keeps.refl _ _
  · exact Keeps.refl _ _

theorem execThermalCritical_keeps {temps : List (BitVec 8)} {s : Sys2Proof.Machine.State} : ResKeeps tgtNext
    16686786190923156097075239871 s (execThermalCritical temps s) := by
  unfold execThermalCritical
  refine ResKeeps.some rfl ?_
  refine Keeps.ite ?_ ?_
  · refine Keeps.step ?_ State.thermal_keeps rfl
    exact Keeps.refl _ _
  · exact Keeps.refl _ _

theorem execLockstepMismatch_keeps {s : Sys2Proof.Machine.State} : ResKeeps tgtNext
    16686786190923156097075239871 s (execLockstepMismatch s) := by
  unfold execLockstepMismatch
  refine ResKeeps.some rfl ?_
  refine Keeps.step ?_ State.collect_keeps rfl
  refine Keeps.step ?_ State.drivePair_keeps rfl
  refine Keeps.foldl _ _ ?_ ?_
  · refine Keeps.mkUpd ?_ ⟨Or.inr rfl, rfl, Or.inr rfl, Or.inr rfl, Or.inr rfl, Or.inr rfl, Or.inr rfl, Or.inr
      rfl, Or.inr rfl, Or.inr rfl, Or.inr rfl, Or.inr rfl, Or.inr rfl, Or.inr rfl, Or.inr rfl, Or.inr rfl, Or.inr
      rfl, Or.inr rfl, Or.inr rfl, Or.inr rfl, Or.inr rfl, Or.inr rfl, Or.inr rfl, Or.inr rfl, Or.inr rfl, Or.inr
      rfl, Or.inr rfl, Or.inr rfl, Or.inr rfl, Or.inr rfl, Or.inr rfl, Or.inr rfl, Or.inl rfl, Or.inr rfl, Or.inr
      rfl, Or.inr rfl, Or.inr rfl, Or.inr rfl, Or.inr rfl, Or.inr rfl, Or.inr rfl, Or.inr rfl, Or.inr rfl, Or.inr
      rfl, Or.inr rfl, Or.inr rfl, Nat.le_refl _, trivial, fun w => w, fun w => w, fun w => w, fun w => w, fun w =>
      w, fun w => w, fun w => w, fun w => w, fun w => w, fun w => w, fun w => w, fun w => w, fun w => w⟩
    refine Keeps.step ?_ State.wr_keeps (kb_k 1180591620717411303424 rfl rfl)
    exact Keeps.refl _ _
  · intro y_ a_ h_
    refine Keeps.step ?_ State.safeEnter_keeps rfl
    with_reducible assumption

theorem execSupplyOutOfWindow_keeps {s : Sys2Proof.Machine.State} : ResKeeps tgtNext
    16686786190923156097075239871 s (execSupplyOutOfWindow s) := by
  unfold execSupplyOutOfWindow
  refine ResKeeps.some rfl ?_
  refine Keeps.step ?_ State.collect_keeps rfl
  refine Keeps.step ?_ State.drivePair_keeps rfl
  exact Keeps.refl _ _

theorem execPllUnlock_keeps {absent : Bool} {s : Sys2Proof.Machine.State} : ResKeeps tgtNext
    16686786190923156097075239871 s (execPllUnlock absent s) := by
  unfold execPllUnlock
  refine ResKeeps.some rfl ?_
  refine Keeps.ite ?_ ?_
  · exact Keeps.refl _ _
  · refine Keeps.step ?_ State.collect_keeps rfl
    refine Keeps.step ?_ State.drivePair_keeps rfl
    exact Keeps.refl _ _

end Sys2Proof.Machine
end

