-- ==== Sys2Proof/Laws/FrameModes.lean ====
section
/-! SUPPORT. What each function of Machine/Modes.lean may change: one mask of `Keeps` for each. -/

namespace Sys2Proof.Machine

open Reg

theorem State.refuseOff_keeps {s : Sys2Proof.Machine.State} {d : Nat} : Keeps 295147905179352825858 s
    (State.refuseOff s d) := by
  unfold State.refuseOff
  refine Keeps.step ?_ State.wr_keeps (kb_k 295147905179352825856 rfl rfl)
  refine Keeps.step ?_ State.wr_keeps (kb_k 295147905179352825856 rfl rfl)
  exact Keeps.refl _ _

theorem State.startDown_keeps {s : Sys2Proof.Machine.State} {d : Nat} : Keeps 67108864 s (State.startDown s d) := by
  unfold State.startDown
  refine Keeps.mkUpd ?_ ⟨Or.inr rfl, rfl, Or.inr rfl, Or.inr rfl, Or.inr rfl, Or.inr rfl, Or.inr rfl, Or.inr
      rfl, Or.inr rfl, Or.inr rfl, Or.inr rfl, Or.inr rfl, Or.inr rfl, Or.inr rfl, Or.inr rfl, Or.inr rfl, Or.inr
      rfl, Or.inr rfl, Or.inr rfl, Or.inr rfl, Or.inr rfl, Or.inr rfl, Or.inr rfl, Or.inr rfl, Or.inr rfl, Or.inr
      rfl, Or.inl rfl, Or.inr rfl, Or.inr rfl, Or.inr rfl, Or.inr rfl, Or.inr rfl, Or.inr rfl, Or.inr rfl, Or.inr
      rfl, Or.inr rfl, Or.inr rfl, Or.inr rfl, Or.inr rfl, Or.inr rfl, Or.inr rfl, Or.inr rfl, Or.inr rfl, Or.inr
      rfl, Or.inr rfl, Or.inr rfl, Nat.le_refl _, trivial, fun w => w, fun w => w, fun w => w, fun w => w, fun w =>
      w, fun w => w, fun w => w, fun w => w, fun w => w, fun w => w, fun w => w, fun w => w, fun w => w⟩
  exact Keeps.refl _ _

theorem State.startUp_keeps {s : Sys2Proof.Machine.State} {d : Nat} : Keeps 67108864 s (State.startUp s d) := by
  unfold State.startUp
  refine Keeps.ite ?_ ?_
  · exact Keeps.refl _ _
  · refine Keeps.mkUpd ?_ ⟨Or.inr rfl, rfl, Or.inr rfl, Or.inr rfl, Or.inr rfl, Or.inr rfl, Or.inr rfl, Or.inr
      rfl, Or.inr rfl, Or.inr rfl, Or.inr rfl, Or.inr rfl, Or.inr rfl, Or.inr rfl, Or.inr rfl, Or.inr rfl, Or.inr
      rfl, Or.inr rfl, Or.inr rfl, Or.inr rfl, Or.inr rfl, Or.inr rfl, Or.inr rfl, Or.inr rfl, Or.inr rfl, Or.inr
      rfl, Or.inl rfl, Or.inr rfl, Or.inr rfl, Or.inr rfl, Or.inr rfl, Or.inr rfl, Or.inr rfl, Or.inr rfl, Or.inr
      rfl, Or.inr rfl, Or.inr rfl, Or.inr rfl, Or.inr rfl, Or.inr rfl, Or.inr rfl, Or.inr rfl, Or.inr rfl, Or.inr
      rfl, Or.inr rfl, Or.inr rfl, Nat.le_refl _, trivial, fun w => w, fun w => w, fun w => w, fun w => w, fun w =>
      w, fun w => w, fun w => w, fun w => w, fun w => w, fun w => w, fun w => w, fun w => w, fun w => w⟩
    exact Keeps.refl _ _

theorem State.upEnds_keeps {s : Sys2Proof.Machine.State} {d : Nat} : Keeps 67108864 s (State.upEnds s d) := by
  unfold State.upEnds
  refine Keeps.mkUpd ?_ ⟨Or.inr rfl, rfl, Or.inr rfl, Or.inr rfl, Or.inr rfl, Or.inr rfl, Or.inr rfl, Or.inr
      rfl, Or.inr rfl, Or.inr rfl, Or.inr rfl, Or.inr rfl, Or.inr rfl, Or.inr rfl, Or.inr rfl, Or.inr rfl, Or.inr
      rfl, Or.inr rfl, Or.inr rfl, Or.inr rfl, Or.inr rfl, Or.inr rfl, Or.inr rfl, Or.inr rfl, Or.inr rfl, Or.inr
      rfl, Or.inl rfl, Or.inr rfl, Or.inr rfl, Or.inr rfl, Or.inr rfl, Or.inr rfl, Or.inr rfl, Or.inr rfl, Or.inr
      rfl, Or.inr rfl, Or.inr rfl, Or.inr rfl, Or.inr rfl, Or.inr rfl, Or.inr rfl, Or.inr rfl, Or.inr rfl, Or.inr
      rfl, Or.inr rfl, Or.inr rfl, Nat.le_refl _, trivial, fun w => w, fun w => w, fun w => w, fun w => w, fun w =>
      w, fun w => w, fun w => w, fun w => w, fun w => w, fun w => w, fun w => w, fun w => w, fun w => w⟩
  exact Keeps.refl _ _

theorem State.downEnds_keeps {s : Sys2Proof.Machine.State} {d : Nat} : Keeps 67108864 s (State.downEnds s d) := by
  unfold State.downEnds
  refine Keeps.mkUpd ?_ ⟨Or.inr rfl, rfl, Or.inr rfl, Or.inr rfl, Or.inr rfl, Or.inr rfl, Or.inr rfl, Or.inr
      rfl, Or.inr rfl, Or.inr rfl, Or.inr rfl, Or.inr rfl, Or.inr rfl, Or.inr rfl, Or.inr rfl, Or.inr rfl, Or.inr
      rfl, Or.inr rfl, Or.inr rfl, Or.inr rfl, Or.inr rfl, Or.inr rfl, Or.inr rfl, Or.inr rfl, Or.inr rfl, Or.inr
      rfl, Or.inl rfl, Or.inr rfl, Or.inr rfl, Or.inr rfl, Or.inr rfl, Or.inr rfl, Or.inr rfl, Or.inr rfl, Or.inr
      rfl, Or.inr rfl, Or.inr rfl, Or.inr rfl, Or.inr rfl, Or.inr rfl, Or.inr rfl, Or.inr rfl, Or.inr rfl, Or.inr
      rfl, Or.inr rfl, Or.inr rfl, Nat.le_refl _, trivial, fun w => w, fun w => w, fun w => w, fun w => w, fun w =>
      w, fun w => w, fun w => w, fun w => w, fun w => w, fun w => w, fun w => w, fun w => w, fun w => w⟩
  exact Keeps.refl _ _

theorem State.putReq_keeps {s : Sys2Proof.Machine.State} {d : Nat} {b : Bool} : Keeps 295147905179352825858 s
    (State.putReq s d b) := by
  unfold State.putReq
  refine Keeps.ite ?_ ?_
  · refine Keeps.step ?_ State.wrBit_keeps (kb_k 295147905179352825856 rfl rfl)
    exact Keeps.refl _ _
  · refine Keeps.ite ?_ ?_
    · refine Keeps.step ?_ State.wrBit_keeps (kb_k 295147905179352825856 rfl rfl)
      exact Keeps.refl _ _
    · refine Keeps.step ?_ State.wrBit_keeps (kb_k 295147905179352825856 rfl rfl)
      exact Keeps.refl _ _

theorem State.powerReq_keeps {s : Sys2Proof.Machine.State} {d : Nat} {on : Bool} : Keeps 295147905179419934722 s
    (State.powerReq s d on) := by
  unfold State.powerReq
  refine Keeps.ite ?_ ?_
  · exact Keeps.refl _ _
  · refine Keeps.ite ?_ ?_
    · refine Keeps.ite ?_ ?_
      · refine Keeps.step ?_ State.putReq_keeps rfl
        exact Keeps.refl _ _
      · refine Keeps.step ?_ State.startUp_keeps rfl
        refine Keeps.step ?_ State.putReq_keeps rfl
        exact Keeps.refl _ _
    · refine Keeps.ite ?_ ?_
      · refine Keeps.step ?_ State.refuseOff_keeps rfl
        exact Keeps.refl _ _
      · refine Keeps.step ?_ State.startDown_keeps rfl
        refine Keeps.step ?_ State.putReq_keeps rfl
        exact Keeps.refl _ _

theorem State.pwrReqWrite_keeps {s : Sys2Proof.Machine.State} {r : Sys2Proof.Requester} {w : Nat} {word : Nat} :
    Keeps 295147905179419934722 s (State.pwrReqWrite s r w word) := by
  unfold State.pwrReqWrite
  refine Keeps.ite ?_ ?_
  · refine Keeps.step ?_ State.werr_keeps (kb_k 295147905179352825856 rfl rfl)
    exact Keeps.refl _ _
  · refine Keeps.foldl _ _ ?_ ?_
    · exact Keeps.refl _ _
    · intro y_ a_ h_
      refine Keeps.step ?_ State.powerReq_keeps rfl
      with_reducible assumption

theorem execPowerRequest_keeps {r : Sys2Proof.Requester} {w : Fin 3} {v : Sys2Proof.Word} {s :
    Sys2Proof.Machine.State} : ResKeeps tgtNext 295147905179419934722 s (execPowerRequest r w v s) := by
  unfold execPowerRequest
  refine ResKeeps.some rfl ?_
  refine Keeps.step ?_ State.pwrReqWrite_keeps rfl
  exact Keeps.refl _ _

theorem State.modeArrives_keeps {s : Sys2Proof.Machine.State} : Keeps 605126992593974942760962 s
    (State.modeArrives s) := by
  unfold State.modeArrives
  split
  · exact Keeps.refl _ _
  · refine Keeps.ite ?_ ?_
    · exact Keeps.refl _ _
    · refine Keeps.ite ?_ ?_
      · refine Keeps.foldl _ _ ?_ ?_
        · exact Keeps.refl _ _
        · intro y_ a_ h_
          refine Keeps.step ?_ State.startDown_keeps rfl
          with_reducible assumption
      · refine Keeps.step ?_ State.leaveModes_keeps rfl
        refine Keeps.step ?_ State.dropTarget_keeps rfl
        refine Keeps.step ?_ State.wr_keeps (kb_k 73786976294838206464 rfl rfl)
        refine Keeps.step ?_ State.setMode_keeps rfl
        exact Keeps.refl _ _

theorem execPowerUpComplete_keeps {s : Sys2Proof.Machine.State} : ResKeeps tgtNext 79228162495817593528283400974
    s (execPowerUpComplete s) := by
  unfold execPowerUpComplete
  refine ResKeeps.some rfl ?_
  refine Keeps.step ?_ State.modeArrives_keeps rfl
  refine Keeps.foldl _ _ ?_ ?_
  · exact Keeps.refl _ _
  · intro y_ a_ h_
    refine Keeps.step ?_ State.domainUp_keeps rfl
    refine Keeps.step ?_ State.upEnds_keeps rfl
    with_reducible assumption

theorem State.downDone_keeps {s : Sys2Proof.Machine.State} {d : Nat} : Keeps 16705834741575542493851671478 s
    (State.downDone s d) := by
  unfold State.downDone
  refine Keeps.ite ?_ ?_
  · refine Keeps.step ?_ State.startUp_keeps rfl
    refine Keeps.step ?_ State.domainDown_keeps rfl
    refine Keeps.step ?_ State.downEnds_keeps rfl
    exact Keeps.refl _ _
  · refine Keeps.step ?_ State.domainDown_keeps rfl
    refine Keeps.step ?_ State.downEnds_keeps rfl
    exact Keeps.refl _ _

theorem execPowerDownComplete_keeps {d : Fin 80} {s : Sys2Proof.Machine.State} : ResKeeps tgtNext
    16705835331871352856885844918 s (execPowerDownComplete d s) := by
  unfold execPowerDownComplete
  refine ResKeeps.some rfl ?_
  refine Keeps.ite ?_ ?_
  · refine Keeps.step ?_ State.modeArrives_keeps rfl
    refine Keeps.step ?_ State.downDone_keeps rfl
    exact Keeps.refl _ _
  · exact Keeps.refl _ _

theorem State.refuseMode_keeps {s : Sys2Proof.Machine.State} {why : Nat} : Keeps 73786976294838206466 s
    (State.refuseMode s why) := by
  unfold State.refuseMode
  refine Keeps.step ?_ State.wr_keeps (kb_k 73786976294838206464 rfl rfl)
  refine Keeps.step ?_ State.wr_keeps (kb_k 73786976294838206464 rfl rfl)
  exact Keeps.refl _ _

theorem State.aimAt_keeps {s : Sys2Proof.Machine.State} {m : Nat} : Keeps 67108864 s (State.aimAt s m) := by
  unfold State.aimAt
  refine Keeps.mkUpd ?_ ⟨Or.inr rfl, rfl, Or.inr rfl, Or.inr rfl, Or.inr rfl, Or.inr rfl, Or.inr rfl, Or.inr
      rfl, Or.inr rfl, Or.inr rfl, Or.inr rfl, Or.inr rfl, Or.inr rfl, Or.inr rfl, Or.inr rfl, Or.inr rfl, Or.inr
      rfl, Or.inr rfl, Or.inr rfl, Or.inr rfl, Or.inr rfl, Or.inr rfl, Or.inr rfl, Or.inr rfl, Or.inr rfl, Or.inr
      rfl, Or.inl rfl, Or.inr rfl, Or.inr rfl, Or.inr rfl, Or.inr rfl, Or.inr rfl, Or.inr rfl, Or.inr rfl, Or.inr
      rfl, Or.inr rfl, Or.inr rfl, Or.inr rfl, Or.inr rfl, Or.inr rfl, Or.inr rfl, Or.inr rfl, Or.inr rfl, Or.inr
      rfl, Or.inr rfl, Or.inr rfl, Nat.le_refl _, trivial, fun w => w, fun w => w, fun w => w, fun w => w, fun w =>
      w, fun w => w, fun w => w, fun w => w, fun w => w, fun w => w, fun w => w, fun w => w, fun w => w⟩
  exact Keeps.refl _ _

theorem State.beginMode_keeps {s : Sys2Proof.Machine.State} {m : Nat} : Keeps 605126992593974942760962 s
    (State.beginMode s m) := by
  unfold State.beginMode
  refine Keeps.step ?_ State.modeArrives_keeps rfl
  refine Keeps.step ?_ State.aimAt_keeps rfl
  refine Keeps.step ?_ State.wr_keeps (kb_k 73786976294838206464 rfl rfl)
  exact Keeps.refl _ _

theorem State.refreshAll_keeps {s : Sys2Proof.Machine.State} : Keeps 9860301216231821358989314 s
    (State.refreshAll s) := by
  unfold State.refreshAll
  refine Keeps.foldl _ _ ?_ ?_
  · exact Keeps.refl _ _
  · intro y_ a_ h_
    refine Keeps.ite ?_ ?_
    · refine Keeps.step ?_ State.dcSelfRefresh_keeps rfl
      with_reducible assumption
    · with_reducible assumption

theorem State.takeMode_keeps {s : Sys2Proof.Machine.State} {dst : Nat} : Keeps 10465428208825794154266626 s
    (State.takeMode s dst) := by
  unfold State.takeMode
  refine Keeps.ite ?_ ?_
  · refine Keeps.step ?_ State.beginMode_keeps rfl
    refine Keeps.foldl _ _ ?_ ?_
    · exact Keeps.refl _ _
    · intro y_ a_ h_
      refine Keeps.step ?_ State.startDown_keeps rfl
      with_reducible assumption
  · refine Keeps.ite ?_ ?_
    · refine Keeps.step ?_ State.beginMode_keeps rfl
      refine Keeps.foldl _ _ ?_ ?_
      · refine Keeps.step ?_ State.refreshAll_keeps rfl
        exact Keeps.refl _ _
      · intro y_ a_ h_
        refine Keeps.step ?_ State.startDown_keeps rfl
        with_reducible assumption
    · refine Keeps.ite ?_ ?_
      · refine Keeps.step ?_ State.beginMode_keeps rfl
        refine Keeps.foldl _ _ ?_ ?_
        · exact Keeps.refl _ _
        · intro y_ a_ h_
          refine Keeps.step ?_ State.startUp_keeps rfl
          with_reducible assumption
      · refine Keeps.step ?_ State.leaveModes_keeps rfl
        refine Keeps.step ?_ State.setMode_keeps rfl
        exact Keeps.refl _ _

theorem State.forgetSource_keeps {s : Sys2Proof.Machine.State} {n : Nat} : Keeps 590295810360853135362 s
    (State.forgetSource s n) := by
  unfold State.forgetSource
  refine Keeps.step ?_ State.modFlt_keeps rfl
  refine Keeps.step ?_ State.wr_keeps (kb_k 590295810358705651712 rfl rfl)
  refine Keeps.step ?_ State.wr_keeps (kb_k 590295810358705651712 rfl rfl)
  refine Keeps.step ?_ State.putSlot_keeps rfl
  refine Keeps.step ?_ State.putSlot_keeps rfl
  exact Keeps.refl _ _

theorem State.bootBase_keeps {s : State} {regs : Tab Nat} (hr : tabRising 0 s.regs = true → tabRising 0 regs = true) :
    Keeps 79228162495817602255797878782 s (State.bootBase s regs) := by
  unfold State.bootBase
  refine Keeps.mkUpd (x := { s with regs := regs }) (Keeps.mkRegs (Keeps.refl _ _) rfl hr fun k h => ?_) ⟨Or.inr
      rfl, rfl, Or.inl rfl, Or.inl rfl, Or.inl rfl, Or.inl rfl, Or.inl rfl, Or.inl rfl, Or.inl rfl, Or.inl rfl,
      Or.inl rfl, Or.inl rfl, Or.inl rfl, Or.inl rfl, Or.inl rfl, Or.inl rfl, Or.inl rfl, Or.inl rfl, Or.inl rfl,
      Or.inl rfl, Or.inl rfl, Or.inl rfl, Or.inl rfl, Or.inl rfl, Or.inl rfl, Or.inl rfl, Or.inl rfl, Or.inl rfl,
      Or.inl rfl, Or.inl rfl, Or.inl rfl, Or.inl rfl, Or.inl rfl, Or.inr rfl, Or.inr rfl, Or.inl rfl, Or.inl rfl,
      Or.inl rfl, Or.inl rfl, Or.inl rfl, Or.inl rfl, Or.inl rfl, Or.inr rfl, Or.inr rfl, Or.inr rfl, Or.inr rfl,
      Nat.le_refl _, trivial, fun _ => rfl, fun _ => rfl, fun _ => rfl, fun _ => rfl, fun _ => rfl, fun _ => rfl,
      fun _ => rfl, fun _ => rfl, fun w => w, fun w => w, fun w => w, fun w => w, fun w => w⟩
  exact absurd h (allKinds_bit _ (by decide) k)

theorem State.warmBase_keeps {s : State} : Keeps 79228162495817611051890900990 s (State.warmBase s) := by
  unfold State.warmBase
  refine Keeps.step ?_ State.settle_keeps rfl
  refine Keeps.step ?_ State.wr3_keeps (kb_k 73786976294838206464 rfl rfl)
  refine Keeps.step ?_ State.wr_keeps (kb_k 73786976294838206464 rfl rfl)
  refine Keeps.step ?_ State.wr_keeps (kb_k 73786976294838206464 rfl rfl)
  refine Keeps.foldl _ _ ?_ ?_
  · refine Keeps.foldl _ _ ?_ fun y a h => h.step State.forgetSource_keeps rfl
    refine Keeps.mkUpd (x := State.bootBase s _) ?_ ⟨Or.inr rfl, rfl, Or.inr rfl, Or.inr rfl, Or.inr rfl, Or.inr
        rfl, Or.inr rfl, Or.inr rfl, Or.inr rfl, Or.inr rfl, Or.inr rfl, Or.inr rfl, Or.inr rfl, Or.inr rfl, Or.inr
        rfl, Or.inr rfl, Or.inr rfl, Or.inr rfl, Or.inr rfl, Or.inr rfl, Or.inl rfl, Or.inr rfl, Or.inr rfl, Or.inr
        rfl, Or.inr rfl, Or.inl rfl, Or.inr rfl, Or.inl rfl, Or.inr rfl, Or.inr rfl, Or.inr rfl, Or.inl rfl, Or.inl
        rfl, Or.inr rfl, Or.inr rfl, Or.inr rfl, Or.inr rfl, Or.inr rfl, Or.inr rfl, Or.inr rfl, Or.inr rfl, Or.inr
        rfl, Or.inl rfl, Or.inr rfl, Or.inr rfl, Or.inr rfl, Nat.le_refl _, trivial, fun w => w, fun w => w, fun w
        => w, fun w => w, fun w => w, fun w => w, fun w => w, fun w => w, fun w => tabWf_filter _ _ _ w, fun w => w,
        fun w => w, fun w => w, fun w => w⟩
    exact Keeps.step (Keeps.refl _ _) (State.bootBase_keeps (tabRising_filter _ _ _)) rfl
  · exact fun y a h => Keeps.ite (h.step State.putOn_keeps rfl) h

theorem State.newChallenge_keeps {s : Sys2Proof.Machine.State} : Keeps 4722366482878235148290 s
    (State.newChallenge s) := by
  unfold State.newChallenge
  refine Keeps.foldl _ _ ?_ ?_
  · exact Keeps.refl _ _
  · intro y_ a_ h_
    refine Keeps.step ?_ State.wr_keeps (kb_k 4722366482869645213696 rfl rfl)
    refine Keeps.ofRes (tgt := tgtSnd) ?_ rfl rfl
    refine ResKeeps.step ?_ State.draw_keeps rfl
    with_reducible assumption

theorem State.loadFuses_keeps {s : Sys2Proof.Machine.State} : Keeps 177125636595767704551426 s (State.loadFuses s) := by
  unfold State.loadFuses
  refine Keeps.step ?_ State.wr_keeps (kb_k 36893488147419103232 rfl rfl)
  refine Keeps.step ?_ State.newChallenge_keeps rfl
  refine Keeps.foldl _ _ ?_ ?_
  · refine Keeps.foldl _ _ ?_ ?_
    · refine Keeps.step ?_ State.wr_keeps (kb_k 36893488147419103232 rfl rfl)
      refine Keeps.step ?_ State.wr_keeps (kb_k 36893488147419103232 rfl rfl)
      refine Keeps.step ?_ State.wr_keeps (kb_k 4722366482869645213696 rfl rfl)
      refine Keeps.step ?_ State.wr_keeps (kb_k 2361183241434822606848 rfl rfl)
      exact Keeps.refl _ _
    · intro y_ a_ h_
      refine Keeps.step ?_ State.wr_keeps (kb_k 18889465931478580854784 rfl rfl)
      refine Keeps.step ?_ State.wr_keeps (kb_k 18889465931478580854784 rfl rfl)
      with_reducible assumption
  · intro y_ a_ h_
    refine Keeps.step ?_ State.wr_keeps (kb_k 151115727451828646838272 rfl rfl)
    refine Keeps.step ?_ State.wr_keeps (kb_k 151115727451828646838272 rfl rfl)
    refine Keeps.step ?_ State.wr_keeps (kb_k 151115727451828646838272 rfl rfl)
    refine Keeps.step ?_ State.wr_keeps (kb_k 151115727451828646838272 rfl rfl)
    with_reducible assumption

theorem State.checkRef_keeps {s : Sys2Proof.Machine.State} {c : Sys2Proof.RefCheck} : Keeps
    16686786227816644244494343103 s (State.checkRef s c) := by
  unfold State.checkRef
  refine Keeps.step ?_ State.wr_keeps (kb_k 36893488147419103232 rfl rfl)
  split
  · exact Keeps.refl _ _
  · refine Keeps.step ?_ State.collect_keeps rfl
    refine Keeps.step ?_ State.drivePair_keeps rfl
    refine Keeps.step ?_ State.wr_keeps (kb_k 36893488147419103232 rfl rfl)
    exact Keeps.refl _ _
  · refine Keeps.step ?_ State.wr_keeps (kb_k 36893488147419103232 rfl rfl)
    exact Keeps.refl _ _

theorem State.checkRom_keeps {s : Sys2Proof.Machine.State} {u : Nat} {crc : Nat} : Keeps
    151115727451828646838274 s (State.checkRom s u crc) := by
  unfold State.checkRom
  refine Keeps.step ?_ State.wr_keeps (kb_k 151115727451828646838272 rfl rfl)
  refine Keeps.step ?_ State.wr_keeps (kb_k 151115727451828646838272 rfl rfl)
  refine Keeps.step ?_ State.wr_keeps (kb_k 151115727451828646838272 rfl rfl)
  exact Keeps.refl _ _

theorem State.selfTest_keeps {s : Sys2Proof.Machine.State} {fails : List Nat} : Keeps
    16686786227816651872356260799 s (State.selfTest s fails) := by
  unfold State.selfTest
  refine Keeps.ite ?_ ?_
  · refine Keeps.mkUpd ?_ ⟨Or.inr rfl, rfl, Or.inr rfl, Or.inr rfl, Or.inr rfl, Or.inr rfl, Or.inr rfl, Or.inr
      rfl, Or.inr rfl, Or.inl rfl, Or.inr rfl, Or.inr rfl, Or.inr rfl, Or.inr rfl, Or.inr rfl, Or.inr rfl, Or.inr
      rfl, Or.inr rfl, Or.inr rfl, Or.inr rfl, Or.inr rfl, Or.inr rfl, Or.inr rfl, Or.inr rfl, Or.inr rfl, Or.inr
      rfl, Or.inr rfl, Or.inr rfl, Or.inr rfl, Or.inr rfl, Or.inr rfl, Or.inr rfl, Or.inr rfl, Or.inr rfl, Or.inr
      rfl, Or.inl rfl, Or.inl rfl, Or.inl rfl, Or.inl rfl, Or.inl rfl, Or.inl rfl, Or.inl rfl, Or.inr rfl, Or.inr
      rfl, Or.inr rfl, Or.inr rfl, Nat.le_refl _, trivial, fun w => w,
      (by intro w_; repeat' first | with_reducible assumption | with_reducible refine tabWf_memPutBytes _ _ _ ?_ | with_reducible refine tabWf_memPutNat _ _ _ _ ?_ | with_reducible refine tabWf_memPut _ _ _ ?_ | with_reducible refine tabWf_tabPut _ _ _ _ ?_ | with_reducible refine tabWf_tabErase _ _ _ ?_ | with_reducible refine tabWf_filter _ _ _ ?_ | with_reducible refine tabWf_foldl _ _ _ ?_ ?_ | (intro m_ a_ h_) | exact rfl | split),
      (by intro w_; repeat' first | with_reducible assumption | with_reducible refine tabWf_memPutBytes _ _ _ ?_ | with_reducible refine tabWf_memPutNat _ _ _ _ ?_ | with_reducible refine tabWf_memPut _ _ _ ?_ | with_reducible refine tabWf_tabPut _ _ _ _ ?_ | with_reducible refine tabWf_tabErase _ _ _ ?_ | with_reducible refine tabWf_filter _ _ _ ?_ | with_reducible refine tabWf_foldl _ _ _ ?_ ?_ | (intro m_ a_ h_) | exact rfl | split),
      (by intro w_; repeat' first | with_reducible assumption | with_reducible refine tabWf_memPutBytes _ _ _ ?_ | with_reducible refine tabWf_memPutNat _ _ _ _ ?_ | with_reducible refine tabWf_memPut _ _ _ ?_ | with_reducible refine tabWf_tabPut _ _ _ _ ?_ | with_reducible refine tabWf_tabErase _ _ _ ?_ | with_reducible refine tabWf_filter _ _ _ ?_ | with_reducible refine tabWf_foldl _ _ _ ?_ ?_ | (intro m_ a_ h_) | exact rfl | split),
      (by intro w_; repeat' first | with_reducible assumption | with_reducible refine tabWf_memPutBytes _ _ _ ?_ | with_reducible refine tabWf_memPutNat _ _ _ _ ?_ | with_reducible refine tabWf_memPut _ _ _ ?_ | with_reducible refine tabWf_tabPut _ _ _ _ ?_ | with_reducible refine tabWf_tabErase _ _ _ ?_ | with_reducible refine tabWf_filter _ _ _ ?_ | with_reducible refine tabWf_foldl _ _ _ ?_ ?_ | (intro m_ a_ h_) | exact rfl | split),
      (by intro w_; repeat' first | with_reducible assumption | with_reducible refine tabWf_memPutBytes _ _ _ ?_ | with_reducible refine tabWf_memPutNat _ _ _ _ ?_ | with_reducible refine tabWf_memPut _ _ _ ?_ | with_reducible refine tabWf_tabPut _ _ _ _ ?_ | with_reducible refine tabWf_tabErase _ _ _ ?_ | with_reducible refine tabWf_filter _ _ _ ?_ | with_reducible refine tabWf_foldl _ _ _ ?_ ?_ | (intro m_ a_ h_) | exact rfl | split),
      (by intro w_; repeat' first | with_reducible assumption | with_reducible refine tabWf_memPutBytes _ _ _ ?_ | with_reducible refine tabWf_memPutNat _ _ _ _ ?_ | with_reducible refine tabWf_memPut _ _ _ ?_ | with_reducible refine tabWf_tabPut _ _ _ _ ?_ | with_reducible refine tabWf_tabErase _ _ _ ?_ | with_reducible refine tabWf_filter _ _ _ ?_ | with_reducible refine tabWf_foldl _ _ _ ?_ ?_ | (intro m_ a_ h_) | exact rfl | split),
      (by intro w_; repeat' first | with_reducible assumption | with_reducible refine tabWf_memPutBytes _ _ _ ?_ | with_reducible refine tabWf_memPutNat _ _ _ _ ?_ | with_reducible refine tabWf_memPut _ _ _ ?_ | with_reducible refine tabWf_tabPut _ _ _ _ ?_ | with_reducible refine tabWf_tabErase _ _ _ ?_ | with_reducible refine tabWf_filter _ _ _ ?_ | with_reducible refine tabWf_foldl _ _ _ ?_ ?_ | (intro m_ a_ h_) | exact rfl | split),
      fun w => w, fun w => w, fun w => w, fun w => w, fun w => w⟩
    exact Keeps.refl _ _
  · refine Keeps.step ?_ State.collect_keeps rfl
    refine Keeps.foldl _ _ ?_ ?_
    · refine Keeps.step ?_ State.wr_keeps (kb_k 36893488147419103232 rfl rfl)
      refine Keeps.mkUpd ?_ ⟨Or.inr rfl, rfl, Or.inr rfl, Or.inr rfl, Or.inr rfl, Or.inr rfl, Or.inr rfl, Or.inr
          rfl, Or.inr rfl, Or.inl rfl, Or.inr rfl, Or.inr rfl, Or.inr rfl, Or.inr rfl, Or.inr rfl, Or.inr rfl,
          Or.inr rfl, Or.inr rfl, Or.inr rfl, Or.inr rfl, Or.inr rfl, Or.inr rfl, Or.inr rfl, Or.inr rfl, Or.inr
          rfl, Or.inr rfl, Or.inr rfl, Or.inr rfl, Or.inr rfl, Or.inr rfl, Or.inr rfl, Or.inr rfl, Or.inr rfl,
          Or.inr rfl, Or.inr rfl, Or.inl rfl, Or.inl rfl, Or.inl rfl, Or.inl rfl, Or.inl rfl, Or.inl rfl, Or.inl
          rfl, Or.inr rfl, Or.inr rfl, Or.inr rfl, Or.inr rfl, Nat.le_refl _, trivial, fun w => w,
          (by intro w_; repeat' first | with_reducible assumption | with_reducible refine tabWf_memPutBytes _ _ _ ?_ | with_reducible refine tabWf_memPutNat _ _ _ _ ?_ | with_reducible refine tabWf_memPut _ _ _ ?_ | with_reducible refine tabWf_tabPut _ _ _ _ ?_ | with_reducible refine tabWf_tabErase _ _ _ ?_ | with_reducible refine tabWf_filter _ _ _ ?_ | with_reducible refine tabWf_foldl _ _ _ ?_ ?_ | (intro m_ a_ h_) | exact rfl | split),
          (by intro w_; repeat' first | with_reducible assumption | with_reducible refine tabWf_memPutBytes _ _ _ ?_ | with_reducible refine tabWf_memPutNat _ _ _ _ ?_ | with_reducible refine tabWf_memPut _ _ _ ?_ | with_reducible refine tabWf_tabPut _ _ _ _ ?_ | with_reducible refine tabWf_tabErase _ _ _ ?_ | with_reducible refine tabWf_filter _ _ _ ?_ | with_reducible refine tabWf_foldl _ _ _ ?_ ?_ | (intro m_ a_ h_) | exact rfl | split),
          (by intro w_; repeat' first | with_reducible assumption | with_reducible refine tabWf_memPutBytes _ _ _ ?_ | with_reducible refine tabWf_memPutNat _ _ _ _ ?_ | with_reducible refine tabWf_memPut _ _ _ ?_ | with_reducible refine tabWf_tabPut _ _ _ _ ?_ | with_reducible refine tabWf_tabErase _ _ _ ?_ | with_reducible refine tabWf_filter _ _ _ ?_ | with_reducible refine tabWf_foldl _ _ _ ?_ ?_ | (intro m_ a_ h_) | exact rfl | split),
          (by intro w_; repeat' first | with_reducible assumption | with_reducible refine tabWf_memPutBytes _ _ _ ?_ | with_reducible refine tabWf_memPutNat _ _ _ _ ?_ | with_reducible refine tabWf_memPut _ _ _ ?_ | with_reducible refine tabWf_tabPut _ _ _ _ ?_ | with_reducible refine tabWf_tabErase _ _ _ ?_ | with_reducible refine tabWf_filter _ _ _ ?_ | with_reducible refine tabWf_foldl _ _ _ ?_ ?_ | (intro m_ a_ h_) | exact rfl | split),
          (by intro w_; repeat' first | with_reducible assumption | with_reducible refine tabWf_memPutBytes _ _ _ ?_ | with_reducible refine tabWf_memPutNat _ _ _ _ ?_ | with_reducible refine tabWf_memPut _ _ _ ?_ | with_reducible refine tabWf_tabPut _ _ _ _ ?_ | with_reducible refine tabWf_tabErase _ _ _ ?_ | with_reducible refine tabWf_filter _ _ _ ?_ | with_reducible refine tabWf_foldl _ _ _ ?_ ?_ | (intro m_ a_ h_) | exact rfl | split),
          (by intro w_; repeat' first | with_reducible assumption | with_reducible refine tabWf_memPutBytes _ _ _ ?_ | with_reducible refine tabWf_memPutNat _ _ _ _ ?_ | with_reducible refine tabWf_memPut _ _ _ ?_ | with_reducible refine tabWf_tabPut _ _ _ _ ?_ | with_reducible refine tabWf_tabErase _ _ _ ?_ | with_reducible refine tabWf_filter _ _ _ ?_ | with_reducible refine tabWf_foldl _ _ _ ?_ ?_ | (intro m_ a_ h_) | exact rfl | split),
          (by intro w_; repeat' first | with_reducible assumption | with_reducible refine tabWf_memPutBytes _ _ _ ?_ | with_reducible refine tabWf_memPutNat _ _ _ _ ?_ | with_reducible refine tabWf_memPut _ _ _ ?_ | with_reducible refine tabWf_tabPut _ _ _ _ ?_ | with_reducible refine tabWf_tabErase _ _ _ ?_ | with_reducible refine tabWf_filter _ _ _ ?_ | with_reducible refine tabWf_foldl _ _ _ ?_ ?_ | (intro m_ a_ h_) | exact rfl | split),
          fun w => w, fun w => w, fun w => w, fun w => w, fun w => w⟩
      exact Keeps.refl _ _
    · intro y_ a_ h_
      refine Keeps.step ?_ State.modFlt_keeps rfl
      with_reducible assumption

theorem State.bootMemories_keeps {s : Sys2Proof.Machine.State} {b : Sys2Proof.BootFindings} : Keeps
    29052035496102206926553090 s (State.bootMemories s b) := by
  unfold State.bootMemories
  refine Keeps.step ?_ State.qdrTrain_keeps rfl
  refine Keeps.step ?_ State.wr_keeps (kb_k 36893488147419103232 rfl rfl)
  refine Keeps.foldl _ _ ?_ ?_
  · exact Keeps.refl _ _
  · intro y_ a_ h_
    split
    · try extract_lets
      split
      · refine Keeps.step ?_ State.trainEnd_keeps rfl
        refine Keeps.ite ?_ ?_
        · refine Keeps.step ?_ State.srexit_keeps rfl
          with_reducible assumption
        · refine Keeps.step ?_ State.trainStart_keeps rfl
          with_reducible assumption
      · refine Keeps.ite ?_ ?_
        · refine Keeps.step ?_ State.srexit_keeps rfl
          with_reducible assumption
        · refine Keeps.step ?_ State.trainStart_keeps rfl
          with_reducible assumption

theorem State.bootImage_keeps {s : Sys2Proof.Machine.State} {ok : Bool} : Keeps 79228162495817593519851175938 s
    (State.bootImage s ok) := by
  unfold State.bootImage
  refine Keeps.step ?_ State.wr_keeps (kb_k 36893488147419103232 rfl rfl)
  split
  · refine Keeps.step ?_ State.loadImage_keeps rfl
    exact Keeps.refl _ _
  · refine Keeps.step ?_ State.loadImage_keeps rfl
    exact Keeps.refl _ _

theorem State.bootWaits_keeps {s : Sys2Proof.Machine.State} {b : Option Sys2Proof.BootFindings} : Keeps 67108864
    s (State.bootWaits s b) := by
  unfold State.bootWaits
  refine Keeps.mkUpd ?_ ⟨Or.inr rfl, rfl, Or.inr rfl, Or.inr rfl, Or.inr rfl, Or.inr rfl, Or.inr rfl, Or.inr
      rfl, Or.inr rfl, Or.inr rfl, Or.inr rfl, Or.inr rfl, Or.inr rfl, Or.inr rfl, Or.inr rfl, Or.inr rfl, Or.inr
      rfl, Or.inr rfl, Or.inr rfl, Or.inr rfl, Or.inr rfl, Or.inr rfl, Or.inr rfl, Or.inr rfl, Or.inr rfl, Or.inr
      rfl, Or.inl rfl, Or.inr rfl, Or.inr rfl, Or.inr rfl, Or.inr rfl, Or.inr rfl, Or.inr rfl, Or.inr rfl, Or.inr
      rfl, Or.inr rfl, Or.inr rfl, Or.inr rfl, Or.inr rfl, Or.inr rfl, Or.inr rfl, Or.inr rfl, Or.inr rfl, Or.inr
      rfl, Or.inr rfl, Or.inr rfl, Nat.le_refl _, trivial, fun w => w, fun w => w, fun w => w, fun w => w, fun w =>
      w, fun w => w, fun w => w, fun w => w, fun w => w, fun w => w, fun w => w, fun w => w, fun w => w⟩
  exact Keeps.refl _ _

theorem State.bootRun_keeps {s : Sys2Proof.Machine.State} {c : Sys2Proof.RefCheck} {b : Sys2Proof.BootFindings}
    : Keeps 79228162495817602264251489215 s (State.bootRun s c b) := by
  unfold State.bootRun
  refine Keeps.mkUpd ?_ ⟨Or.inr rfl, rfl, Or.inr rfl, Or.inr rfl, Or.inr rfl, Or.inr rfl, Or.inr rfl, Or.inr
      rfl, Or.inr rfl, Or.inr rfl, Or.inr rfl, Or.inr rfl, Or.inr rfl, Or.inr rfl, Or.inr rfl, Or.inr rfl, Or.inr
      rfl, Or.inr rfl, Or.inr rfl, Or.inr rfl, Or.inr rfl, Or.inr rfl, Or.inr rfl, Or.inr rfl, Or.inl rfl, Or.inr
      rfl, Or.inr rfl, Or.inr rfl, Or.inr rfl, Or.inr rfl, Or.inr rfl, Or.inr rfl, Or.inr rfl, Or.inr rfl, Or.inr
      rfl, Or.inr rfl, Or.inr rfl, Or.inr rfl, Or.inr rfl, Or.inr rfl, Or.inr rfl, Or.inr rfl, Or.inr rfl, Or.inr
      rfl, Or.inr rfl, Or.inr rfl, Nat.le_refl _, trivial, fun w => w, fun w => w, fun w => w, fun w => w, fun w =>
      w, fun w => w, fun w => w, fun w => w, fun w => w, fun w => w, fun w => w, fun w => w, fun w => w⟩
  refine Keeps.step ?_ State.wr_keeps (kb_k 36893488147419103232 rfl rfl)
  refine Keeps.step ?_ State.bootImage_keeps rfl
  refine Keeps.step ?_ State.wr_keeps (kb_k 36893488147419103232 rfl rfl)
  refine Keeps.step ?_ State.bootMemories_keeps rfl
  refine Keeps.step ?_ State.wr_keeps (kb_k 36893488147419103232 rfl rfl)
  refine Keeps.step ?_ State.selfTest_keeps rfl
  refine Keeps.step ?_ State.collect_keeps rfl
  refine Keeps.step ?_ State.wr_keeps (kb_k 36893488147419103232 rfl rfl)
  refine Keeps.step ?_ State.pagePairs_keeps rfl
  refine Keeps.foldl _ _ ?_ ?_
  · refine Keeps.step ?_ State.wr_keeps (kb_k 36893488147419103232 rfl rfl)
    refine Keeps.foldl _ _ ?_ ?_
    · refine Keeps.step ?_ State.wr_keeps (kb_k 36893488147419103232 rfl rfl)
      refine Keeps.step ?_ State.checkRef_keeps rfl
      refine Keeps.step ?_ State.sourceClears_keeps rfl
      refine Keeps.step ?_ State.drivePair_keeps rfl
      refine Keeps.step ?_ State.bootWaits_keeps rfl
      exact Keeps.refl _ _
    · intro y_ a_ h_
      refine Keeps.step ?_ State.domainUp_keeps rfl
      with_reducible assumption
  · intro y_ a_ h_
    split
    · refine Keeps.step ?_ State.checkRom_keeps rfl
      with_reducible assumption

theorem State.bootBegin_keeps {s : Sys2Proof.Machine.State} {ref : Option Sys2Proof.RefCheck} {b :
    Sys2Proof.BootFindings} : Keeps 79228162495817602264251489215 s (State.bootBegin s ref b) := by
  unfold State.bootBegin
  try extract_lets
  split
  · refine Keeps.step ?_ State.bootRun_keeps rfl
    refine Keeps.step ?_ State.loadFuses_keeps rfl
    exact Keeps.refl _ _
  · refine Keeps.step ?_ State.collect_keeps rfl
    refine Keeps.step ?_ State.drivePair_keeps rfl
    refine Keeps.step ?_ State.bootWaits_keeps rfl
    refine Keeps.step ?_ State.loadFuses_keeps rfl
    exact Keeps.refl _ _

theorem State.restart_keeps {s : Sys2Proof.Machine.State} {ref : Option Sys2Proof.RefCheck} {b :
    Sys2Proof.BootFindings} : Keeps 79228162495817611060480835583 s (State.restart s ref b) := by
  unfold State.restart
  refine Keeps.step ?_ State.bootBegin_keeps rfl
  refine Keeps.step ?_ State.warmBase_keeps rfl
  refine Keeps.step ?_ State.refreshAll_keeps rfl
  exact Keeps.refl _ _

theorem State.modeAsk_keeps {s : Sys2Proof.Machine.State} {r : Sys2Proof.Requester} {v : Nat} : Keeps
    10465428208825794154266630 s (State.modeAsk s r v) := by
  unfold State.modeAsk
  refine State.writeWith_keeps ?_ (kb_k 73786976294838206464 rfl rfl) ?_
  · exact Keeps.refl _ _
  · intro y0_ h_
    refine Keeps.ite ?_ ?_
    · refine Keeps.step ?_ State.refuseMode_keeps rfl
      with_reducible assumption
    · refine Keeps.step ?_ State.takeMode_keeps rfl
      with_reducible assumption

theorem State.restartAsk_keeps {s : Sys2Proof.Machine.State} {r : Sys2Proof.Requester} {v : Nat} {ref : Option
    Sys2Proof.RefCheck} {b : Sys2Proof.BootFindings} : Keeps 79228162495817611060480835583 s
    (State.restartAsk s r v ref b) := by
  unfold State.restartAsk
  refine State.writeWith_keeps ?_ (kb_k 73786976294838206464 rfl rfl) ?_
  · exact Keeps.refl _ _
  · intro y0_ h_
    refine Keeps.ite ?_ ?_
    · refine Keeps.step ?_ State.refuseMode_keeps rfl
      with_reducible assumption
    · refine Keeps.step ?_ State.restart_keeps rfl
      with_reducible assumption

theorem execIdleRequest_keeps {r : Sys2Proof.Requester} {s : Sys2Proof.Machine.State} : ResKeeps tgtNext
    10465428208825794154266630 s (execIdleRequest r s) := by
  unfold execIdleRequest
  refine ResKeeps.some rfl ?_
  refine Keeps.step ?_ State.modeAsk_keeps rfl
  exact Keeps.refl _ _

theorem execStandbyRequest_keeps {r : Sys2Proof.Requester} {s : Sys2Proof.Machine.State} : ResKeeps tgtNext
    10465428208825794154266630 s (execStandbyRequest r s) := by
  unfold execStandbyRequest
  refine ResKeeps.some rfl ?_
  refine Keeps.step ?_ State.modeAsk_keeps rfl
  exact Keeps.refl _ _

theorem execCalRequest_keeps {r : Sys2Proof.Requester} {s : Sys2Proof.Machine.State} : ResKeeps tgtNext
    10465428208825794154266630 s (execCalRequest r s) := by
  unfold execCalRequest
  refine ResKeeps.some rfl ?_
  refine Keeps.step ?_ State.modeAsk_keeps rfl
  exact Keeps.refl _ _

theorem execFactoryRequest_keeps {r : Sys2Proof.Requester} {s : Sys2Proof.Machine.State} : ResKeeps tgtNext
    10465428208825794154266630 s (execFactoryRequest r s) := by
  unfold execFactoryRequest
  refine ResKeeps.some rfl ?_
  refine Keeps.step ?_ State.modeAsk_keeps rfl
  exact Keeps.refl _ _

theorem execOffRequest_keeps {r : Sys2Proof.Requester} {s : Sys2Proof.Machine.State} : ResKeeps tgtNext
    10465428208825794154266630 s (execOffRequest r s) := by
  unfold execOffRequest
  refine ResKeeps.some rfl ?_
  refine Keeps.step ?_ State.modeAsk_keeps rfl
  exact Keeps.refl _ _

theorem execRestartRequest_keeps {r : Sys2Proof.Requester} {ref : Option Sys2Proof.RefCheck} {b :
    Sys2Proof.BootFindings} {s : Sys2Proof.Machine.State} : ResKeeps tgtNext 79228162495817611060480835583 s
    (execRestartRequest r ref b s) := by
  unfold execRestartRequest
  refine ResKeeps.some rfl ?_
  refine Keeps.step ?_ State.restartAsk_keeps rfl
  exact Keeps.refl _ _

theorem execPowerOnResetRelease_keeps {ref : Option Sys2Proof.RefCheck} {b : Sys2Proof.BootFindings} {s :
    Sys2Proof.Machine.State} : ResKeeps tgtNext 79228162495817602264251489215 s (execPowerOnResetRelease ref b s) :=
    by
  unfold execPowerOnResetRelease
  refine ResKeeps.some rfl ?_
  refine Keeps.ite ?_ ?_
  · refine Keeps.step ?_ State.bootBegin_keeps rfl
    refine Keeps.step ?_ State.safeNActive_keeps rfl
    refine Keeps.step ?_ State.wr_keeps (kb_k 36893488147419103232 rfl rfl)
    refine Keeps.step ?_ State.wr_keeps (kb_k 1180591620717411303424 rfl rfl)
    refine Keeps.mkUpd ?_ ⟨Or.inr rfl, rfl, Or.inr rfl, Or.inr rfl, Or.inr rfl, Or.inr rfl, Or.inr rfl, Or.inr
        rfl, Or.inr rfl, Or.inr rfl, Or.inr rfl, Or.inr rfl, Or.inr rfl, Or.inr rfl, Or.inr rfl, Or.inr rfl, Or.inr
        rfl, Or.inr rfl, Or.inr rfl, Or.inr rfl, Or.inr rfl, Or.inr rfl, Or.inr rfl, Or.inr rfl, Or.inr rfl, Or.inr
        rfl, Or.inl rfl, Or.inr rfl, Or.inr rfl, Or.inr rfl, Or.inr rfl, Or.inr rfl, Or.inr rfl, Or.inr rfl, Or.inr
        rfl, Or.inr rfl, Or.inr rfl, Or.inr rfl, Or.inr rfl, Or.inr rfl, Or.inr rfl, Or.inr rfl, Or.inr rfl, Or.inr
        rfl, Or.inr rfl, Or.inr rfl, Nat.le_refl _, trivial, fun w => w, fun w => w, fun w => w, fun w => w, fun w
        => w, fun w => w, fun w => w, fun w => w, fun w => w, fun w => w, fun w => w, fun w => w, fun w => w⟩
    exact Keeps.refl _ _
  · exact Keeps.refl _ _

theorem execVddaonLoss_keeps {s : State} : ResKeeps tgtNext 79228162495817611051890900990 s (execVddaonLoss s) := by
  unfold execVddaonLoss
  refine ResKeeps.some rfl ?_
  refine Keeps.mkUpd (x := State.bootBase s _) ?_ ⟨Or.inr rfl, rfl, Or.inr rfl, Or.inr rfl, Or.inr rfl, Or.inr
      rfl, Or.inr rfl, Or.inr rfl, Or.inr rfl, Or.inr rfl, Or.inr rfl, Or.inr rfl, Or.inr rfl, Or.inr rfl, Or.inr
      rfl, Or.inr rfl, Or.inr rfl, Or.inr rfl, Or.inr rfl, Or.inr rfl, Or.inr rfl, Or.inr rfl, Or.inr rfl, Or.inr
      rfl, Or.inr rfl, Or.inr rfl, Or.inl rfl, Or.inr rfl, Or.inr rfl, Or.inr rfl, Or.inr rfl, Or.inr rfl, Or.inr
      rfl, Or.inr rfl, Or.inr rfl, Or.inr rfl, Or.inr rfl, Or.inr rfl, Or.inr rfl, Or.inr rfl, Or.inr rfl, Or.inr
      rfl, Or.inl rfl, Or.inr rfl, Or.inr rfl, Or.inr rfl, Nat.le_refl _, trivial, fun w => w, fun w => w, fun w =>
      w, fun w => w, fun w => w, fun w => w, fun w => w, fun w => w, fun _ => rfl, fun w => w, fun w => w, fun w =>
      w, fun w => w⟩
  exact Keeps.step (Keeps.refl _ _) (State.bootBase_keeps fun _ => rfl) rfl

theorem execRefclkDetect_keeps {c : Sys2Proof.RefCheck} {s : Sys2Proof.Machine.State} : ResKeeps tgtNext
    79228162495817602264251489215 s (execRefclkDetect c s) := by
  unfold execRefclkDetect
  split
  · refine ResKeeps.some rfl ?_
    refine Keeps.step ?_ State.bootRun_keeps rfl
    exact Keeps.refl _ _
  · refine ResKeeps.some rfl ?_
    exact Keeps.refl _ _

theorem execBootEnd_keeps {us : Sys2Proof.Word} {s : Sys2Proof.Machine.State} : ResKeeps tgtNext
    16481268838482156175609289631 s (execBootEnd us s) := by
  unfold execBootEnd
  refine ResKeeps.some rfl ?_
  refine Keeps.ite ?_ ?_
  · refine Keeps.ite ?_ ?_
    · refine Keeps.step ?_ State.haltAll_keeps rfl
      refine Keeps.step ?_ State.loopDue_keeps rfl
      refine Keeps.step ?_ State.wr_keeps (kb_k 36893488147419103232 rfl rfl)
      refine Keeps.step ?_ State.wr_keeps (kb_k 36893488147419103232 rfl rfl)
      refine Keeps.step ?_ State.advanceTo_keeps rfl
      exact Keeps.refl _ _
    · refine Keeps.step ?_ State.setMode_keeps rfl
      refine Keeps.step ?_ State.loopDue_keeps rfl
      refine Keeps.step ?_ State.wr_keeps (kb_k 36893488147419103232 rfl rfl)
      refine Keeps.step ?_ State.wr_keeps (kb_k 36893488147419103232 rfl rfl)
      refine Keeps.step ?_ State.advanceTo_keeps rfl
      exact Keeps.refl _ _
  · exact Keeps.refl _ _

end Sys2Proof.Machine
end

