-- ==== Sys2Proof/Laws/FrameSecurity.lean ====
section
/-! SUPPORT. What each function of Machine/Security.lean may change: one mask of `Keeps` for each. -/

namespace Sys2Proof.Machine

open Reg

theorem State.zeroise_keeps {s : Sys2Proof.Machine.State} : Keeps 2361183241915993162242 s (State.zeroise s) := by
  unfold State.zeroise
  refine Keeps.step ?_ State.wr_keeps (kb_k 2361183241434822606848 rfl rfl)
  refine Keeps.step ?_ State.wr_keeps (kb_k 2361183241434822606848 rfl rfl)
  refine Keeps.mkUpd ?_ ⟨Or.inr rfl, rfl, Or.inr rfl, Or.inr rfl, Or.inr rfl, Or.inr rfl, Or.inr rfl, Or.inr
      rfl, Or.inr rfl, Or.inl rfl, Or.inr rfl, Or.inr rfl, Or.inr rfl, Or.inr rfl, Or.inr rfl, Or.inr rfl, Or.inr
      rfl, Or.inr rfl, Or.inr rfl, Or.inr rfl, Or.inr rfl, Or.inr rfl, Or.inr rfl, Or.inr rfl, Or.inr rfl, Or.inr
      rfl, Or.inr rfl, Or.inl rfl, Or.inr rfl, Or.inr rfl, Or.inr rfl, Or.inr rfl, Or.inr rfl, Or.inr rfl, Or.inr
      rfl, Or.inl rfl, Or.inl rfl, Or.inl rfl, Or.inr rfl, Or.inr rfl, Or.inr rfl, Or.inr rfl, Or.inr rfl, Or.inr
      rfl, Or.inr rfl, Or.inr rfl, Nat.le_refl _, trivial, fun w => w,
      (by intro w_; repeat' first | with_reducible assumption | with_reducible refine tabWf_memPutBytes _ _ _ ?_ | with_reducible refine tabWf_memPutNat _ _ _ _ ?_ | with_reducible refine tabWf_memPut _ _ _ ?_ | with_reducible refine tabWf_tabPut _ _ _ _ ?_ | with_reducible refine tabWf_tabErase _ _ _ ?_ | with_reducible refine tabWf_filter _ _ _ ?_ | with_reducible refine tabWf_foldl _ _ _ ?_ ?_ | (intro m_ a_ h_) | exact rfl | split),
      (by intro w_; repeat' first | with_reducible assumption | with_reducible refine tabWf_memPutBytes _ _ _ ?_ | with_reducible refine tabWf_memPutNat _ _ _ _ ?_ | with_reducible refine tabWf_memPut _ _ _ ?_ | with_reducible refine tabWf_tabPut _ _ _ _ ?_ | with_reducible refine tabWf_tabErase _ _ _ ?_ | with_reducible refine tabWf_filter _ _ _ ?_ | with_reducible refine tabWf_foldl _ _ _ ?_ ?_ | (intro m_ a_ h_) | exact rfl | split),
      (by intro w_; repeat' first | with_reducible assumption | with_reducible refine tabWf_memPutBytes _ _ _ ?_ | with_reducible refine tabWf_memPutNat _ _ _ _ ?_ | with_reducible refine tabWf_memPut _ _ _ ?_ | with_reducible refine tabWf_tabPut _ _ _ _ ?_ | with_reducible refine tabWf_tabErase _ _ _ ?_ | with_reducible refine tabWf_filter _ _ _ ?_ | with_reducible refine tabWf_foldl _ _ _ ?_ ?_ | (intro m_ a_ h_) | exact rfl | split),
      fun w => w, fun w => w, fun w => w, fun w => w, fun w => w, fun w => w, fun w => w, fun w => w, fun w => w⟩
  exact Keeps.refl _ _

theorem State.setAfterZero_keeps {s : Sys2Proof.Machine.State} {o : Option Nat} : Keeps 67108864 s
    (State.setAfterZero s o) := by
  unfold State.setAfterZero
  refine Keeps.mkUpd ?_ ⟨Or.inr rfl, rfl, Or.inr rfl, Or.inr rfl, Or.inr rfl, Or.inr rfl, Or.inr rfl, Or.inr
      rfl, Or.inr rfl, Or.inr rfl, Or.inr rfl, Or.inr rfl, Or.inr rfl, Or.inr rfl, Or.inr rfl, Or.inr rfl, Or.inr
      rfl, Or.inr rfl, Or.inr rfl, Or.inr rfl, Or.inr rfl, Or.inr rfl, Or.inr rfl, Or.inr rfl, Or.inr rfl, Or.inr
      rfl, Or.inl rfl, Or.inr rfl, Or.inr rfl, Or.inr rfl, Or.inr rfl, Or.inr rfl, Or.inr rfl, Or.inr rfl, Or.inr
      rfl, Or.inr rfl, Or.inr rfl, Or.inr rfl, Or.inr rfl, Or.inr rfl, Or.inr rfl, Or.inr rfl, Or.inr rfl, Or.inr
      rfl, Or.inr rfl, Or.inr rfl, Nat.le_refl _, trivial, fun w => w, fun w => w, fun w => w, fun w => w, fun w =>
      w, fun w => w, fun w => w, fun w => w, fun w => w, fun w => w, fun w => w, fun w => w, fun w => w⟩
  exact Keeps.refl _ _

theorem State.setToken_keeps {s : Sys2Proof.Machine.State} {o : Option (Bool × Nat)} : Keeps 67108864 s
    (State.setToken s o) := by
  unfold State.setToken
  refine Keeps.mkUpd ?_ ⟨Or.inr rfl, rfl, Or.inr rfl, Or.inr rfl, Or.inr rfl, Or.inr rfl, Or.inr rfl, Or.inr
      rfl, Or.inr rfl, Or.inr rfl, Or.inr rfl, Or.inr rfl, Or.inr rfl, Or.inr rfl, Or.inr rfl, Or.inr rfl, Or.inr
      rfl, Or.inr rfl, Or.inr rfl, Or.inr rfl, Or.inr rfl, Or.inr rfl, Or.inr rfl, Or.inr rfl, Or.inr rfl, Or.inr
      rfl, Or.inl rfl, Or.inr rfl, Or.inr rfl, Or.inr rfl, Or.inr rfl, Or.inr rfl, Or.inr rfl, Or.inr rfl, Or.inr
      rfl, Or.inr rfl, Or.inr rfl, Or.inr rfl, Or.inr rfl, Or.inr rfl, Or.inr rfl, Or.inr rfl, Or.inr rfl, Or.inr
      rfl, Or.inr rfl, Or.inr rfl, Nat.le_refl _, trivial, fun w => w, fun w => w, fun w => w, fun w => w, fun w =>
      w, fun w => w, fun w => w, fun w => w, fun w => w, fun w => w, fun w => w, fun w => w, fun w => w⟩
  exact Keeps.refl _ _

theorem State.sealNow_keeps {s : Sys2Proof.Machine.State} : Keeps 7083549724785705484802 s (State.sealNow s) := by
  unfold State.sealNow
  refine Keeps.step ?_ State.zeroise_keeps rfl
  refine Keeps.step ?_ State.wr_keeps (kb_k 4722366482869645213696 rfl rfl)
  refine Keeps.step ?_ State.wr_keeps (kb_k 2361183241434822606848 rfl rfl)
  refine Keeps.mkUpd ?_ ⟨Or.inr rfl, rfl, Or.inr rfl, Or.inr rfl, Or.inr rfl, Or.inr rfl, Or.inr rfl, Or.inr
      rfl, Or.inr rfl, Or.inr rfl, Or.inr rfl, Or.inr rfl, Or.inr rfl, Or.inr rfl, Or.inr rfl, Or.inr rfl, Or.inr
      rfl, Or.inr rfl, Or.inr rfl, Or.inr rfl, Or.inr rfl, Or.inr rfl, Or.inr rfl, Or.inr rfl, Or.inr rfl, Or.inr
      rfl, Or.inl rfl, Or.inr rfl, Or.inr rfl, Or.inr rfl, Or.inr rfl, Or.inr rfl, Or.inr rfl, Or.inr rfl, Or.inr
      rfl, Or.inr rfl, Or.inr rfl, Or.inr rfl, Or.inr rfl, Or.inr rfl, Or.inr rfl, Or.inr rfl, Or.inr rfl, Or.inr
      rfl, Or.inr rfl, Or.inr rfl, Nat.le_refl _, trivial, fun w => w, fun w => w, fun w => w, fun w => w, fun w =>
      w, fun w => w, fun w => w, fun w => w, fun w => w, fun w => w, fun w => w, fun w => w, fun _ => rfl⟩
  exact Keeps.refl _ _

theorem State.secCtlWrite_keeps {s : Sys2Proof.Machine.State} {r : Sys2Proof.Requester} {word : Nat} : Keeps
    7083549724787852968454 s (State.secCtlWrite s r word) := by
  unfold State.secCtlWrite
  refine State.writeWith_keeps ?_ (kb_k 2361183241434822606848 rfl rfl) ?_
  · exact Keeps.refl _ _
  · intro y0_ h_
    refine Keeps.ite ?_ ?_
    · refine Keeps.ite ?_ ?_
      · refine Keeps.step ?_ State.werr_keeps (kb_k 2361183241434822606848 rfl rfl)
        refine Keeps.ite ?_ ?_
        · refine Keeps.ite ?_ ?_
          · refine Keeps.step ?_ State.werr_keeps (kb_k 2361183241434822606848 rfl rfl)
            with_reducible assumption
          · refine Keeps.step ?_ State.sealNow_keeps rfl
            with_reducible assumption
        · with_reducible assumption
      · refine Keeps.step ?_ State.zeroise_keeps rfl
        refine Keeps.ite ?_ ?_
        · refine Keeps.ite ?_ ?_
          · refine Keeps.step ?_ State.werr_keeps (kb_k 2361183241434822606848 rfl rfl)
            with_reducible assumption
          · refine Keeps.step ?_ State.sealNow_keeps rfl
            with_reducible assumption
        · with_reducible assumption
    · refine Keeps.ite ?_ ?_
      · refine Keeps.ite ?_ ?_
        · refine Keeps.step ?_ State.werr_keeps (kb_k 2361183241434822606848 rfl rfl)
          with_reducible assumption
        · refine Keeps.step ?_ State.sealNow_keeps rfl
          with_reducible assumption
      · with_reducible assumption

theorem execSealDevice_keeps {r : Sys2Proof.Requester} {key : BitVec 16} {s : Sys2Proof.Machine.State} :
    ResKeeps tgtNext 7083549724787852968454 s (execSealDevice r key s) := by
  unfold execSealDevice
  refine ResKeeps.some rfl ?_
  refine Keeps.step ?_ State.secCtlWrite_keeps rfl
  exact Keeps.refl _ _

theorem execZeroise_keeps {r : Sys2Proof.Requester} {s : Sys2Proof.Machine.State} : ResKeeps tgtNext
    7083549724787852968454 s (execZeroise r s) := by
  unfold execZeroise
  refine ResKeeps.some rfl ?_
  refine Keeps.step ?_ State.secCtlWrite_keeps rfl
  exact Keeps.refl _ _

theorem execZeroisationDone_keeps {s : Sys2Proof.Machine.State} : ResKeeps tgtNext 7083549724304534929410 s
    (execZeroisationDone s) := by
  unfold execZeroisationDone
  refine ResKeeps.some rfl ?_
  refine Keeps.ite ?_ ?_
  · try extract_lets
    split
    · refine Keeps.ite ?_ ?_
      · refine Keeps.step ?_ State.wr_keeps (kb_k 4722366482869645213696 rfl rfl)
        refine Keeps.step ?_ State.wr_keeps (kb_k 4722366482869645213696 rfl rfl)
        refine Keeps.step ?_ State.setAfterZero_keeps rfl
        refine Keeps.step ?_ State.wr_keeps (kb_k 2361183241434822606848 rfl rfl)
        exact Keeps.refl _ _
      · refine Keeps.step ?_ State.wr_keeps (kb_k 2361183241434822606848 rfl rfl)
        refine Keeps.step ?_ State.wr_keeps (kb_k 4722366482869645213696 rfl rfl)
        refine Keeps.step ?_ State.setAfterZero_keeps rfl
        refine Keeps.step ?_ State.wr_keeps (kb_k 2361183241434822606848 rfl rfl)
        exact Keeps.refl _ _
    · refine Keeps.step ?_ State.wr_keeps (kb_k 2361183241434822606848 rfl rfl)
      exact Keeps.refl _ _
  · exact Keeps.refl _ _

theorem State.keyRefused_keeps {s : Sys2Proof.Machine.State} {why : Nat} : Keeps 2361183241434822606850 s
    (State.keyRefused s why) := by
  unfold State.keyRefused
  refine Keeps.step ?_ State.wr_keeps (kb_k 2361183241434822606848 rfl rfl)
  refine Keeps.step ?_ State.wr_keeps (kb_k 2361183241434822606848 rfl rfl)
  exact Keeps.refl _ _

theorem State.putKey_keeps {s : Sys2Proof.Machine.State} {slot : Nat} {key : Nat} : Keeps 2361183241434956824578
    s (State.putKey s slot key) := by
  unfold State.putKey
  refine Keeps.step ?_ State.wrBit_keeps (kb_k 2361183241434822606848 rfl rfl)
  refine Keeps.mkUpd ?_ ⟨Or.inr rfl, rfl, Or.inr rfl, Or.inr rfl, Or.inr rfl, Or.inr rfl, Or.inr rfl, Or.inr
      rfl, Or.inr rfl, Or.inr rfl, Or.inr rfl, Or.inr rfl, Or.inr rfl, Or.inr rfl, Or.inr rfl, Or.inr rfl, Or.inr
      rfl, Or.inr rfl, Or.inr rfl, Or.inr rfl, Or.inr rfl, Or.inr rfl, Or.inr rfl, Or.inr rfl, Or.inr rfl, Or.inr
      rfl, Or.inr rfl, Or.inl rfl, Or.inr rfl, Or.inr rfl, Or.inr rfl, Or.inr rfl, Or.inr rfl, Or.inr rfl, Or.inr
      rfl, Or.inr rfl, Or.inr rfl, Or.inr rfl, Or.inr rfl, Or.inr rfl, Or.inr rfl, Or.inr rfl, Or.inr rfl, Or.inr
      rfl, Or.inr rfl, Or.inr rfl, Nat.le_refl _, trivial, fun w => w, fun w => w, fun w => w, fun w => w, fun w =>
      w, fun w => w, fun w => w, fun w => w, fun w => w, fun w => w, fun w => w, fun w => w, fun w => w⟩
  exact Keeps.refl _ _

theorem State.keyLoad_keeps {s : Sys2Proof.Machine.State} : Keeps 2361183241434956824578 s (State.keyLoad s) := by
  unfold State.keyLoad
  refine Keeps.foldl _ _ ?_ ?_
  · refine Keeps.ite ?_ ?_
    · refine Keeps.step ?_ State.keyRefused_keeps rfl
      exact Keeps.refl _ _
    · refine Keeps.ite ?_ ?_
      · split
        · refine Keeps.step ?_ State.putKey_keeps rfl
          exact Keeps.refl _ _
        · refine Keeps.step ?_ State.keyRefused_keeps rfl
          exact Keeps.refl _ _
      · refine Keeps.step ?_ State.putKey_keeps rfl
        exact Keeps.refl _ _
  · intro y_ a_ h_
    refine Keeps.step ?_ State.wr_keeps (kb_k 2361183241434822606848 rfl rfl)
    with_reducible assumption

theorem State.kgoWrite_keeps {s : Sys2Proof.Machine.State} {r : Sys2Proof.Requester} {word : Nat} : Keeps
    2361183241437104308230 s (State.kgoWrite s r word) := by
  unfold State.kgoWrite
  refine State.writeWith_keeps ?_ (kb_k 2361183241434822606848 rfl rfl) ?_
  · exact Keeps.refl _ _
  · intro y0_ h_
    refine Keeps.ite ?_ ?_
    · refine Keeps.step ?_ State.keyLoad_keeps rfl
      with_reducible assumption
    · with_reducible assumption

theorem State.kdataWrite_keeps {s : Sys2Proof.Machine.State} {r : Sys2Proof.Requester} {i : Nat} {word : Nat} :
    Keeps 2361183241436970090502 s (State.kdataWrite s r i word) := by
  unfold State.kdataWrite
  refine State.writeWith_keeps ?_ (kb_k 2361183241434822606848 rfl rfl) ?_
  · exact Keeps.refl _ _
  · intro y0_ h_
    refine Keeps.step ?_ State.wr_keeps (kb_k 2361183241434822606848 rfl rfl)
    with_reducible assumption

theorem execKeyLoad_keeps {r : Sys2Proof.Requester} {s : Sys2Proof.Machine.State} : ResKeeps tgtNext
    2361183241437104308230 s (execKeyLoad r s) := by
  unfold execKeyLoad
  refine ResKeeps.some rfl ?_
  refine Keeps.step ?_ State.kgoWrite_keeps rfl
  exact Keeps.refl _ _

theorem State.dbgRefused_keeps {s : Sys2Proof.Machine.State} {why : Nat} : Keeps 4722366482869645213698 s
    (State.dbgRefused s why) := by
  unfold State.dbgRefused
  refine Keeps.step ?_ State.wr_keeps (kb_k 4722366482869645213696 rfl rfl)
  refine Keeps.step ?_ State.wr_keeps (kb_k 4722366482869645213696 rfl rfl)
  exact Keeps.refl _ _

theorem State.dbgReqWrite_keeps {s : Sys2Proof.Machine.State} {r : Sys2Proof.Requester} {word : Nat} : Keeps
    4722366482871792697350 s (State.dbgReqWrite s r word) := by
  unfold State.dbgReqWrite
  refine State.writeWith_keeps ?_ (kb_k 4722366482869645213696 rfl rfl) ?_
  · exact Keeps.refl _ _
  · intro y0_ h_
    refine Keeps.ite ?_ ?_
    · refine Keeps.step ?_ State.dbgRefused_keeps rfl
      with_reducible assumption
    · refine Keeps.step ?_ State.wr_keeps (kb_k 4722366482869645213696 rfl rfl)
      with_reducible assumption

theorem execDebugLevelRequest_keeps {r : Sys2Proof.Requester} {level : Fin 4} {s : Sys2Proof.Machine.State} :
    ResKeeps tgtNext 4722366482871792697350 s (execDebugLevelRequest r level s) := by
  unfold execDebugLevelRequest
  refine ResKeeps.some rfl ?_
  refine Keeps.step ?_ State.dbgReqWrite_keeps rfl
  exact Keeps.refl _ _

theorem State.submitToken_keeps {s : Sys2Proof.Machine.State} : Keeps 4722366482878302257154 s
    (State.submitToken s) := by
  unfold State.submitToken
  refine Keeps.step ?_ State.newChallenge_keeps rfl
  refine Keeps.ite ?_ ?_
  · refine Keeps.step ?_ State.dbgRefused_keeps rfl
    exact Keeps.refl _ _
  · refine Keeps.step ?_ State.wr_keeps (kb_k 4722366482869645213696 rfl rfl)
    refine Keeps.step ?_ State.setToken_keeps rfl
    exact Keeps.refl _ _

theorem State.tgoWrite_keeps {s : Sys2Proof.Machine.State} {r : Sys2Proof.Requester} {word : Nat} : Keeps
    4722366482880449740806 s (State.tgoWrite s r word) := by
  unfold State.tgoWrite
  refine State.writeWith_keeps ?_ (kb_k 4722366482869645213696 rfl rfl) ?_
  · exact Keeps.refl _ _
  · intro y0_ h_
    refine Keeps.ite ?_ ?_
    · refine Keeps.step ?_ State.submitToken_keeps rfl
      with_reducible assumption
    · with_reducible assumption

theorem State.tokWrite_keeps {s : Sys2Proof.Machine.State} {r : Sys2Proof.Requester} {i : Nat} {word : Nat} :
    Keeps 4722366482871792697350 s (State.tokWrite s r i word) := by
  unfold State.tokWrite
  refine State.writeWith_keeps ?_ (kb_k 4722366482869645213696 rfl rfl) ?_
  · exact Keeps.refl _ _
  · intro y0_ h_
    refine Keeps.step ?_ State.wr_keeps (kb_k 4722366482869645213696 rfl rfl)
    with_reducible assumption

theorem execTokenSubmit_keeps {r : Sys2Proof.Requester} {target : Fin 4} {s : Sys2Proof.Machine.State} :
    ResKeeps tgtNext 4722366482880449740806 s (execTokenSubmit r target s) := by
  unfold execTokenSubmit
  refine ResKeeps.some rfl ?_
  refine Keeps.step ?_ State.tgoWrite_keeps rfl
  exact Keeps.refl _ _

theorem State.tokenEnds_keeps {s : Sys2Proof.Machine.State} {ok : Bool} {target : Nat} : Keeps
    7083549724785705484802 s (State.tokenEnds s ok target) := by
  unfold State.tokenEnds
  refine Keeps.ite ?_ ?_
  · refine Keeps.step ?_ State.wr_keeps (kb_k 4722366482869645213696 rfl rfl)
    refine Keeps.step ?_ State.wr_keeps (kb_k 4722366482869645213696 rfl rfl)
    refine Keeps.step ?_ State.dbgRefused_keeps rfl
    refine Keeps.step ?_ State.setToken_keeps rfl
    exact Keeps.refl _ _
  · refine Keeps.ite ?_ ?_
    · refine Keeps.step ?_ State.wr_keeps (kb_k 4722366482869645213696 rfl rfl)
      refine Keeps.step ?_ State.dbgRefused_keeps rfl
      refine Keeps.step ?_ State.werr_keeps (kb_k 2361183241434822606848 rfl rfl)
      refine Keeps.step ?_ State.setToken_keeps rfl
      exact Keeps.refl _ _
    · refine Keeps.step ?_ State.setAfterZero_keeps rfl
      refine Keeps.step ?_ State.zeroise_keeps rfl
      refine Keeps.step ?_ State.setToken_keeps rfl
      exact Keeps.refl _ _

theorem execTokenVerified_keeps {s : Sys2Proof.Machine.State} : ResKeeps tgtNext 7083549724785705484802 s
    (execTokenVerified s) := by
  unfold execTokenVerified
  split
  · refine ResKeeps.some rfl ?_
    refine Keeps.step ?_ State.tokenEnds_keeps rfl
    exact Keeps.refl _ _
  · refine ResKeeps.some rfl ?_
    exact Keeps.refl _ _

theorem State.tapTake_keeps {s : Sys2Proof.Machine.State} {i : Sys2Proof.Machine.TapInstr} {captured : Nat} :
    Keeps 33554432 s (State.tapTake s i captured) := by
  unfold State.tapTake
  refine Keeps.mkUpd ?_ ⟨Or.inr rfl, rfl, Or.inr rfl, Or.inr rfl, Or.inr rfl, Or.inr rfl, Or.inr rfl, Or.inr
      rfl, Or.inr rfl, Or.inr rfl, Or.inr rfl, Or.inr rfl, Or.inr rfl, Or.inr rfl, Or.inr rfl, Or.inr rfl, Or.inr
      rfl, Or.inr rfl, Or.inr rfl, Or.inr rfl, Or.inr rfl, Or.inr rfl, Or.inr rfl, Or.inr rfl, Or.inr rfl, Or.inl
      rfl, Or.inr rfl, Or.inr rfl, Or.inr rfl, Or.inr rfl, Or.inr rfl, Or.inr rfl, Or.inr rfl, Or.inr rfl, Or.inr
      rfl, Or.inr rfl, Or.inr rfl, Or.inr rfl, Or.inr rfl, Or.inr rfl, Or.inr rfl, Or.inr rfl, Or.inr rfl, Or.inr
      rfl, Or.inr rfl, Or.inr rfl, Nat.le_refl _, trivial, fun w => w, fun w => w, fun w => w, fun w => w, fun w =>
      w, fun w => w, fun w => w, fun w => w, fun w => w, fun w => w, fun w => w, fun w => w, fun w => w⟩
  exact Keeps.refl _ _

theorem execBypass_keeps {s : Sys2Proof.Machine.State} : ResKeeps tgtNext 33554432 s (execBypass s) := by
  unfold execBypass
  refine ResKeeps.some rfl ?_
  refine Keeps.step ?_ State.tapTake_keeps rfl
  exact Keeps.refl _ _

theorem execIdcode_keeps {s : Sys2Proof.Machine.State} : ResKeeps tgtNext 33554432 s (execIdcode s) := by
  unfold execIdcode
  refine ResKeeps.some rfl ?_
  refine Keeps.step ?_ State.tapTake_keeps rfl
  exact Keeps.refl _ _

theorem execSamplePreload_keeps {pins : BitVec 320} {preload : BitVec 320} {s : Sys2Proof.Machine.State} :
    ResKeeps tgtNext 33554432 s (execSamplePreload pins preload s) := by
  unfold execSamplePreload
  refine ResKeeps.some rfl ?_
  refine Keeps.mkUpd ?_ ⟨Or.inr rfl, rfl, Or.inr rfl, Or.inr rfl, Or.inr rfl, Or.inr rfl, Or.inr rfl, Or.inr
      rfl, Or.inr rfl, Or.inr rfl, Or.inr rfl, Or.inr rfl, Or.inr rfl, Or.inr rfl, Or.inr rfl, Or.inr rfl, Or.inr
      rfl, Or.inr rfl, Or.inr rfl, Or.inr rfl, Or.inr rfl, Or.inr rfl, Or.inr rfl, Or.inr rfl, Or.inr rfl, Or.inl
      rfl, Or.inr rfl, Or.inr rfl, Or.inr rfl, Or.inr rfl, Or.inr rfl, Or.inr rfl, Or.inr rfl, Or.inr rfl, Or.inr
      rfl, Or.inr rfl, Or.inr rfl, Or.inr rfl, Or.inr rfl, Or.inr rfl, Or.inr rfl, Or.inr rfl, Or.inr rfl, Or.inr
      rfl, Or.inr rfl, Or.inr rfl, Nat.le_refl _, trivial, fun w => w, fun w => w, fun w => w, fun w => w, fun w =>
      w, fun w => w, fun w => w, fun w => w, fun w => w, fun w => w, fun w => w, fun w => w, fun w => w⟩
  refine Keeps.step ?_ State.tapTake_keeps rfl
  exact Keeps.refl _ _

theorem execExtest_keeps {pins : BitVec 320} {s : Sys2Proof.Machine.State} : ResKeeps tgtNext 33554432 s
    (execExtest pins s) := by
  unfold execExtest
  refine ResKeeps.some rfl ?_
  refine Keeps.ite ?_ ?_
  · refine Keeps.mkUpd ?_ ⟨Or.inr rfl, rfl, Or.inr rfl, Or.inr rfl, Or.inr rfl, Or.inr rfl, Or.inr rfl, Or.inr
      rfl, Or.inr rfl, Or.inr rfl, Or.inr rfl, Or.inr rfl, Or.inr rfl, Or.inr rfl, Or.inr rfl, Or.inr rfl, Or.inr
      rfl, Or.inr rfl, Or.inr rfl, Or.inr rfl, Or.inr rfl, Or.inr rfl, Or.inr rfl, Or.inr rfl, Or.inr rfl, Or.inl
      rfl, Or.inr rfl, Or.inr rfl, Or.inr rfl, Or.inr rfl, Or.inr rfl, Or.inr rfl, Or.inr rfl, Or.inr rfl, Or.inr
      rfl, Or.inr rfl, Or.inr rfl, Or.inr rfl, Or.inr rfl, Or.inr rfl, Or.inr rfl, Or.inr rfl, Or.inr rfl, Or.inr
      rfl, Or.inr rfl, Or.inr rfl, Nat.le_refl _, trivial, fun w => w, fun w => w, fun w => w, fun w => w, fun w =>
      w, fun w => w, fun w => w, fun w => w, fun w => w, fun w => w, fun w => w, fun w => w, fun w => w⟩
    exact Keeps.refl _ _
  · exact Keeps.refl _ _

end Sys2Proof.Machine
end

