-- ==== Sys2Proof/Laws/FrameRegWrite.lean ====
section
/-! SUPPORT. What each function of Machine/RegWrite.lean may change: one mask of `Keeps` for each. -/

namespace Sys2Proof.Machine

open Reg

theorem State.pageDown_keeps {s : Sys2Proof.Machine.State} {p : Sys2Proof.Page} : Keeps
    (kindBit p ||| 16676810782023904317280345014) s (State.pageDown s p) := by
  unfold State.pageDown
  refine Keeps.step ?_ State.dropStaged_keeps (kb_self _ rfl)
  refine Keeps.step ?_ State.pageLost_keeps (kb_lit _ rfl)
  exact Keeps.refl _ _

theorem State.pageUp_keeps {s : Sys2Proof.Machine.State} {p : Sys2Proof.Page} : Keeps
    (kindBit p ||| 6503482781108586708916079374) s (State.pageUp s p) := by
  unfold State.pageUp
  refine Keeps.ite ?_ ?_
  · exact Keeps.refl _ _
  · refine Keeps.step ?_ State.pageBack_keeps (kb_self _ rfl)
    exact Keeps.refl _ _

theorem State.ctlReset_keeps {s : Sys2Proof.Machine.State} {p : Sys2Proof.Page} {en : Bool} {rst : Bool} : Keeps
    (kindBit p ||| 16678029152576484685746527166) s (State.ctlReset s p en rst) := by
  unfold State.ctlReset
  refine Keeps.ite ?_ ?_
  · refine Keeps.step ?_ State.pageUp_keeps (kb_self _ rfl)
    refine Keeps.ite ?_ ?_
    · refine Keeps.ite ?_ ?_
      · refine Keeps.step ?_ State.modPage_keeps (kb_lit _ rfl)
        refine Keeps.ite ?_ ?_
        · refine Keeps.step ?_ State.pageDown_keeps (kb_self _ rfl)
          exact Keeps.refl _ _
        · exact Keeps.refl _ _
      · refine Keeps.ite ?_ ?_
        · refine Keeps.step ?_ State.pageDown_keeps (kb_self _ rfl)
          exact Keeps.refl _ _
        · exact Keeps.refl _ _
    · refine Keeps.step ?_ State.wr_keeps (kb_self _ rfl)
      refine Keeps.ite ?_ ?_
      · refine Keeps.step ?_ State.modPage_keeps (kb_lit _ rfl)
        refine Keeps.ite ?_ ?_
        · refine Keeps.step ?_ State.pageDown_keeps (kb_self _ rfl)
          exact Keeps.refl _ _
        · exact Keeps.refl _ _
      · refine Keeps.ite ?_ ?_
        · refine Keeps.step ?_ State.pageDown_keeps (kb_self _ rfl)
          exact Keeps.refl _ _
        · exact Keeps.refl _ _
  · refine Keeps.ite ?_ ?_
    · refine Keeps.ite ?_ ?_
      · refine Keeps.step ?_ State.modPage_keeps (kb_lit _ rfl)
        refine Keeps.ite ?_ ?_
        · refine Keeps.step ?_ State.pageDown_keeps (kb_self _ rfl)
          exact Keeps.refl _ _
        · exact Keeps.refl _ _
      · refine Keeps.ite ?_ ?_
        · refine Keeps.step ?_ State.pageDown_keeps (kb_self _ rfl)
          exact Keeps.refl _ _
        · exact Keeps.refl _ _
    · refine Keeps.step ?_ State.wr_keeps (kb_self _ rfl)
      refine Keeps.ite ?_ ?_
      · refine Keeps.step ?_ State.modPage_keeps (kb_lit _ rfl)
        refine Keeps.ite ?_ ?_
        · refine Keeps.step ?_ State.pageDown_keeps (kb_self _ rfl)
          exact Keeps.refl _ _
        · exact Keeps.refl _ _
      · refine Keeps.ite ?_ ?_
        · refine Keeps.step ?_ State.pageDown_keeps (kb_self _ rfl)
          exact Keeps.refl _ _
        · exact Keeps.refl _ _

theorem State.pageCtlWrite_keeps {s : Sys2Proof.Machine.State} {r : Sys2Proof.Requester} {p : Sys2Proof.Page}
    {word : Nat} : Keeps (kindBit p ||| 16678029447724389865166461886) s (State.pageCtlWrite s r p word) := by
  unfold State.pageCtlWrite
  refine Keeps.ite ?_ ?_
  · refine Keeps.step ?_ State.werr_keeps (kb_self _ rfl)
    exact Keeps.refl _ _
  · refine Keeps.ite ?_ ?_
    · refine Keeps.foldl _ _ ?_ ?_
      · refine Keeps.ite ?_ ?_
        · refine Keeps.step ?_ State.ctlReset_keeps (kb_self _ rfl)
          exact Keeps.refl _ _
        · exact Keeps.refl _ _
      · intro y_ a_ h_
        refine Keeps.step ?_ State.powerReq_keeps (kb_lit _ rfl)
        with_reducible assumption
    · refine Keeps.ite ?_ ?_
      · refine Keeps.step ?_ State.ctlReset_keeps (kb_self _ rfl)
        exact Keeps.refl _ _
      · exact Keeps.refl _ _

theorem State.latchClear_keeps {s : Sys2Proof.Machine.State} {slots : List Nat} : Keeps 590295810358714040322 s
    (State.latchClear s slots) := by
  unfold State.latchClear
  refine Keeps.ite ?_ ?_
  · refine Keeps.foldl _ _ ?_ ?_
    · refine Keeps.foldl _ _ ?_ ?_
      · exact Keeps.refl _ _
      · intro y_ a_ h_
        refine Keeps.step ?_ State.putSlot_keeps rfl
        with_reducible assumption
    · intro y_ a_ h_
      refine Keeps.step ?_ State.modCore_keeps rfl
      with_reducible assumption
  · refine Keeps.foldl _ _ ?_ ?_
    · exact Keeps.refl _ _
    · intro y_ a_ h_
      refine Keeps.step ?_ State.putSlot_keeps rfl
      with_reducible assumption

theorem State.fltlWrite_keeps {s : Sys2Proof.Machine.State} {r : Sys2Proof.Requester} {p : Sys2Proof.Page} {word
    : Nat} : Keeps (kindBit p ||| 590295810358714040322) s (State.fltlWrite s r p word) := by
  unfold State.fltlWrite
  refine Keeps.ite ?_ ?_
  · refine Keeps.step ?_ State.werr_keeps (kb_self _ rfl)
    exact Keeps.refl _ _
  · refine Keeps.step ?_ State.latchClear_keeps (kb_lit _ rfl)
    exact Keeps.refl _ _

theorem State.commitDrop_keeps {s : Sys2Proof.Machine.State} {p : Sys2Proof.Page} : Keeps
    (kindBit p ||| 147573952589676412998) s (State.commitDrop s p) := by
  unfold State.commitDrop
  refine Keeps.ite ?_ ?_
  · refine Keeps.foldl _ _ ?_ ?_
    · refine Keeps.step ?_ State.dropStaged_keeps (kb_self _ rfl)
      exact Keeps.refl _ _
    · intro y_ a_ h_
      refine Keeps.step ?_ State.cgPendSync_keeps (kb_lit _ rfl)
      refine Keeps.step ?_ State.modCg_keeps (kb_lit _ rfl)
      with_reducible assumption
  · refine Keeps.step ?_ State.dropStaged_keeps (kb_self _ rfl)
    exact Keeps.refl _ _

theorem State.commitGo_keeps {s : Sys2Proof.Machine.State} {p : Sys2Proof.Page} : Keeps
    (kindBit p ||| 1315311439314669131756863558) s (State.commitGo s p) := by
  unfold State.commitGo
  refine Keeps.ite ?_ ?_
  · refine Keeps.step ?_ State.cgGo_keeps (kb_lit _ rfl)
    refine Keeps.step ?_ State.wr_keeps (kb_self _ rfl)
    exact Keeps.refl _ _
  · refine Keeps.step ?_ State.applyCommit_keeps (kb_self _ rfl)
    refine Keeps.step ?_ State.wr_keeps (kb_self _ rfl)
    exact Keeps.refl _ _

theorem State.commitWrite_keeps {s : Sys2Proof.Machine.State} {r : Sys2Proof.Requester} {p : Sys2Proof.Page}
    {word : Nat} : Keeps (kindBit p ||| 1315311439314669131756863558) s (State.commitWrite s r p word) := by
  unfold State.commitWrite
  refine Keeps.ite ?_ ?_
  · refine Keeps.step ?_ State.werr_keeps (kb_self _ rfl)
    exact Keeps.refl _ _
  · refine Keeps.ite ?_ ?_
    · exact Keeps.refl _ _
    · refine Keeps.ite ?_ ?_
      · refine Keeps.step ?_ State.werr_keeps (kb_self _ rfl)
        exact Keeps.refl _ _
      · refine Keeps.ite ?_ ?_
        · refine Keeps.step ?_ State.commitDrop_keeps (kb_self _ rfl)
          exact Keeps.refl _ _
        · refine Keeps.ite ?_ ?_
          · refine Keeps.step ?_ State.commitGo_keeps (kb_self _ rfl)
            exact Keeps.refl _ _
          · exact Keeps.refl _ _

theorem State.headerWrite_keeps {s : Sys2Proof.Machine.State} {r : Sys2Proof.Requester} {p : Sys2Proof.Page}
    {off : Nat} {word : Nat} : Keeps (kindBit p ||| 16678030038020200223872113662) s
    (State.headerWrite s r p off word) := by
  unfold State.headerWrite
  refine Keeps.ite ?_ ?_
  · refine Keeps.step ?_ State.pageCtlWrite_keeps (kb_self _ rfl)
    exact Keeps.refl _ _
  · refine Keeps.ite ?_ ?_
    · refine Keeps.step ?_ State.fltlWrite_keeps (kb_self _ rfl)
      exact Keeps.refl _ _
    · refine Keeps.ite ?_ ?_
      · refine Keeps.step ?_ State.commitWrite_keeps (kb_self _ rfl)
        exact Keeps.refl _ _
      · refine Keeps.step ?_ State.writePlain_keeps (kb_self _ rfl)
        exact Keeps.refl _ _

theorem State.calWrite_keeps {s : Sys2Proof.Machine.State} {r : Sys2Proof.Requester} {p : Sys2Proof.Page} {off :
    Nat} {word : Nat} : Keeps (kindBit p ||| 2164260870) s (State.calWrite s r p off word) := by
  unfold State.calWrite
  refine Keeps.ite ?_ ?_
  · refine Keeps.step ?_ State.calChanged_keeps (kb_lit _ rfl)
    refine Keeps.step ?_ State.writePlain_keeps (kb_self _ rfl)
    exact Keeps.refl _ _
  · refine Keeps.step ?_ State.writePlain_keeps (kb_self _ rfl)
    exact Keeps.refl _ _

theorem State.shWrite_keeps {s : Sys2Proof.Machine.State} {r : Sys2Proof.Requester} {p : Sys2Proof.Page} {off :
    Nat} {word : Nat} : Keeps (kindBit p ||| 9903520314283042201357254694) s (State.shWrite s r p off word) := by
  unfold State.shWrite
  refine Keeps.ite ?_ ?_
  · refine Keeps.step ?_ State.opcCtlWrite_keeps (kb_lit _ rfl)
    exact Keeps.refl _ _
  · refine Keeps.ite ?_ ?_
    · refine Keeps.step ?_ State.shSiteWrite_keeps (kb_lit _ rfl)
      exact Keeps.refl _ _
    · refine Keeps.ite ?_ ?_
      · refine Keeps.step ?_ State.pmuCtlWrite_keeps (kb_lit _ rfl)
        exact Keeps.refl _ _
      · refine Keeps.ite ?_ ?_
        · refine Keeps.step ?_ State.pmuClampWrite_keeps (kb_lit _ rfl)
          exact Keeps.refl _ _
        · refine Keeps.step ?_ State.calWrite_keeps (kb_self _ rfl)
          exact Keeps.refl _ _

theorem State.clkWrite_keeps {s : Sys2Proof.Machine.State} {r : Sys2Proof.Requester} {off : Nat} {word : Nat} :
    Keeps 37926505815548985678278 s (State.clkWrite s r off word) := by
  unfold State.clkWrite
  refine Keeps.ite ?_ ?_
  · refine Keeps.step ?_ State.syncCtlWrite_keeps rfl
    exact Keeps.refl _ _
  · refine Keeps.ite ?_ ?_
    · refine Keeps.step ?_ State.flagWrite_keeps rfl
      exact Keeps.refl _ _
    · refine Keeps.ite ?_ ?_
      · refine Keeps.step ?_ State.flagWrite_keeps rfl
        exact Keeps.refl _ _
      · refine Keeps.ite ?_ ?_
        · refine Keeps.step ?_ State.spanCfgWrite_keeps rfl
          exact Keeps.refl _ _
        · refine Keeps.ite ?_ ?_
          · refine Keeps.step ?_ State.atPulseWrite_keeps rfl
            exact Keeps.refl _ _
          · refine Keeps.ite ?_ ?_
            · refine Keeps.step ?_ State.cgCtlWrite_keeps rfl
              exact Keeps.refl _ _
            · refine Keeps.ite ?_ ?_
              · refine Keeps.step ?_ State.rgWrite_keeps rfl
                exact Keeps.refl _ _
              · refine Keeps.step ?_ State.writePlain_keeps (kb_k 147573952589676412928 rfl rfl)
                exact Keeps.refl _ _

theorem State.timeWrite_keeps {s : Sys2Proof.Machine.State} {r : Sys2Proof.Requester} {off : Nat} {word : Nat} :
    Keeps 670576040567493646948358 s (State.timeWrite s r off word) := by
  unfold State.timeWrite
  refine Keeps.ite ?_ ?_
  · refine Keeps.step ?_ State.timeCfgWrite_keeps rfl
    exact Keeps.refl _ _
  · refine Keeps.ite ?_ ?_
    · refine Keeps.step ?_ State.timeCtlWrite_keeps rfl
      exact Keeps.refl _ _
    · refine Keeps.ite ?_ ?_
      · refine Keeps.step ?_ State.ofsWrite_keeps rfl
        exact Keeps.refl _ _
      · refine Keeps.ite ?_ ?_
        · refine Keeps.step ?_ State.adj0Write_keeps rfl
          exact Keeps.refl _ _
        · refine Keeps.ite ?_ ?_
          · refine Keeps.step ?_ State.adjWrite_keeps rfl
            exact Keeps.refl _ _
          · refine Keeps.step ?_ State.writePlain_keeps (kb_k 9444732965739290427392 rfl rfl)
            exact Keeps.refl _ _

theorem State.ascanWrite_keeps {s : Sys2Proof.Machine.State} {r : Sys2Proof.Requester} {off : Nat} {word : Nat}
    : Keeps 116094657614867368687894534 s (State.ascanWrite s r off word) := by
  unfold State.ascanWrite
  refine Keeps.ite ?_ ?_
  · refine Keeps.step ?_ State.scanCtlWrite_keeps rfl
    exact Keeps.refl _ _
  · refine Keeps.ite ?_ ?_
    · refine Keeps.ite ?_ ?_
      · refine Keeps.step ?_ State.refWrite_keeps rfl
        refine Keeps.ofRes (tgt := tgtSnd) ?_ rfl rfl
        refine ResKeeps.step ?_ State.draw_keeps rfl
        exact Keeps.refl _ _
      · refine Keeps.step ?_ State.refWrite_keeps rfl
        exact Keeps.refl _ _
    · refine Keeps.step ?_ State.calWrite_keeps (kb_k 77371252455336267181195264 rfl rfl)
      exact Keeps.refl _ _

theorem State.dcWrite_keeps {s : Sys2Proof.Machine.State} {r : Sys2Proof.Requester} {n : Nat} {off : Nat} {word
    : Nat} : Keeps 9860301216231829948923910 s (State.dcWrite s r n off word) := by
  unfold State.dcWrite
  refine Keeps.ite ?_ ?_
  · refine Keeps.step ?_ State.dcCfgWrite_keeps rfl
    exact Keeps.refl _ _
  · refine Keeps.ite ?_ ?_
    · refine Keeps.ite ?_ ?_
      · refine Keeps.step ?_ State.dcCtlWrite_keeps rfl
        refine Keeps.ofRes (tgt := tgtSnd) ?_ rfl rfl
        refine ResKeeps.step ?_ State.draw_keeps rfl
        exact Keeps.refl _ _
      · refine Keeps.step ?_ State.dcCtlWrite_keeps rfl
        exact Keeps.refl _ _
    · refine Keeps.ite ?_ ?_
      · refine Keeps.step ?_ State.werr_keeps (kb_k 9671406556917033397649408 rfl rfl)
        exact Keeps.refl _ _
      · refine Keeps.step ?_ State.writePlain_keeps (kb_k 9671406556917033397649408 rfl rfl)
        exact Keeps.refl _ _

theorem State.cntWrite_keeps {s : Sys2Proof.Machine.State} {r : Sys2Proof.Requester} {off : Nat} {word : Nat} :
    Keeps 37778931862967899193350 s (State.cntWrite s r off word) := by
  unfold State.cntWrite
  refine Keeps.ite ?_ ?_
  · refine Keeps.step ?_ State.cntCtlWrite_keeps rfl
    exact Keeps.refl _ _
  · refine Keeps.ite ?_ ?_
    · refine Keeps.step ?_ State.cntCfgWrite_keeps rfl
      exact Keeps.refl _ _
    · refine Keeps.ite ?_ ?_
      · refine Keeps.step ?_ State.counterWrite_keeps rfl
        exact Keeps.refl _ _
      · refine Keeps.step ?_ State.writePlain_keeps (kb_k 37778931862957161709568 rfl rfl)
        exact Keeps.refl _ _

theorem State.fltWrite_keeps {s : Sys2Proof.Machine.State} {r : Sys2Proof.Requester} {off : Nat} {word : Nat} :
    Keeps 16686786190923156097075239871 s (State.fltWrite s r off word) := by
  unfold State.fltWrite
  refine Keeps.ite ?_ ?_
  · refine Keeps.step ?_ State.injWrite_keeps rfl
    exact Keeps.refl _ _
  · refine Keeps.ite ?_ ?_
    · refine Keeps.ite ?_ ?_
      · refine Keeps.step ?_ State.werr_keeps (kb_k 590295810358705651712 rfl rfl)
        exact Keeps.refl _ _
      · refine Keeps.step ?_ State.latchClear_keeps rfl
        exact Keeps.refl _ _
    · refine Keeps.ite ?_ ?_
      · refine Keeps.step ?_ State.sstatWrite_keeps rfl
        exact Keeps.refl _ _
      · refine Keeps.step ?_ State.writePlain_keeps (kb_k 590295810358705651712 rfl rfl)
        exact Keeps.refl _ _

theorem State.siloWrite_keeps {s : Sys2Proof.Machine.State} {r : Sys2Proof.Requester} {off : Nat} {word : Nat} :
    Keeps 16686786190923156097075239871 s (State.siloWrite s r off word) := by
  unfold State.siloWrite
  split
  · refine Keeps.ite ?_ ?_
    · refine Keeps.step ?_ State.armWrite_keeps rfl
      exact Keeps.refl _ _
    · refine Keeps.ite ?_ ?_
      · refine Keeps.step ?_ State.forceWrite_keeps rfl
        exact Keeps.refl _ _
      · refine Keeps.step ?_ State.writePlain_keeps (kb_k 1180591620717411303424 rfl rfl)
        exact Keeps.refl _ _
  · refine Keeps.step ?_ State.werr_keeps (kb_k 1180591620717411303424 rfl rfl)
    exact Keeps.refl _ _
  · refine Keeps.ite ?_ ?_
    · refine Keeps.step ?_ State.werr_keeps (kb_k 1180591620717411303424 rfl rfl)
      refine Keeps.step ?_ State.disarm_keeps rfl
      exact Keeps.refl _ _
    · refine Keeps.step ?_ State.werr_keeps (kb_k 1180591620717411303424 rfl rfl)
      exact Keeps.refl _ _

theorem State.modeWrite_keeps {s : Sys2Proof.Machine.State} {r : Sys2Proof.Requester} {off : Nat} {word : Nat} :
    Keeps 79228162495817611060480835583 s (State.modeWrite s r off word) := by
  unfold State.modeWrite
  refine Keeps.ite ?_ ?_
  · refine Keeps.ite ?_ ?_
    · refine Keeps.step ?_ State.restartAsk_keeps rfl
      refine Keeps.ofRes (tgt := tgtSnd) ?_ rfl rfl
      refine ResKeeps.step ?_ State.draw_keeps rfl
      exact Keeps.refl _ _
    · refine Keeps.step ?_ State.modeAsk_keeps rfl
      exact Keeps.refl _ _
  · refine Keeps.ite ?_ ?_
    · refine Keeps.step ?_ State.werr_keeps (kb_k 73786976294838206464 rfl rfl)
      exact Keeps.refl _ _
    · refine Keeps.step ?_ State.writePlain_keeps (kb_k 73786976294838206464 rfl rfl)
      exact Keeps.refl _ _

theorem State.secWrite_keeps {s : Sys2Proof.Machine.State} {r : Sys2Proof.Requester} {off : Nat} {word : Nat} :
    Keeps 7083549724787852968454 s (State.secWrite s r off word) := by
  unfold State.secWrite
  refine Keeps.ite ?_ ?_
  · refine Keeps.step ?_ State.secCtlWrite_keeps rfl
    exact Keeps.refl _ _
  · refine Keeps.ite ?_ ?_
    · refine Keeps.step ?_ State.kgoWrite_keeps rfl
      exact Keeps.refl _ _
    · refine Keeps.ite ?_ ?_
      · refine Keeps.step ?_ State.kdataWrite_keeps rfl
        exact Keeps.refl _ _
      · refine Keeps.step ?_ State.writePlain_keeps (kb_k 2361183241434822606848 rfl rfl)
        exact Keeps.refl _ _

theorem State.dbgWrite_keeps {s : Sys2Proof.Machine.State} {r : Sys2Proof.Requester} {off : Nat} {word : Nat} :
    Keeps 4722366482880449740806 s (State.dbgWrite s r off word) := by
  unfold State.dbgWrite
  refine Keeps.ite ?_ ?_
  · refine Keeps.step ?_ State.dbgReqWrite_keeps rfl
    exact Keeps.refl _ _
  · refine Keeps.ite ?_ ?_
    · refine Keeps.step ?_ State.tgoWrite_keeps rfl
      exact Keeps.refl _ _
    · refine Keeps.ite ?_ ?_
      · refine Keeps.step ?_ State.tokWrite_keeps rfl
        exact Keeps.refl _ _
      · refine Keeps.step ?_ State.writePlain_keeps (kb_k 4722366482869645213696 rfl rfl)
        exact Keeps.refl _ _

theorem State.bwPageWrite_keeps {s : Sys2Proof.Machine.State} {r : Sys2Proof.Requester} {n : Nat} {off : Nat}
    {word : Nat} : Keeps 2531188434818131990511622 s (State.bwPageWrite s r n off word) := by
  unfold State.bwPageWrite
  refine Keeps.ite ?_ ?_
  · refine Keeps.step ?_ State.bwCtlWrite_keeps rfl
    exact Keeps.refl _ _
  · refine Keeps.ite ?_ ?_
    · refine Keeps.step ?_ State.bwDoorWrite_keeps rfl
      exact Keeps.refl _ _
    · refine Keeps.ite ?_ ?_
      · refine Keeps.step ?_ State.bwDoorClrWrite_keeps rfl
        exact Keeps.refl _ _
      · refine Keeps.ite ?_ ?_
        · refine Keeps.step ?_ State.bwIeWrite_keeps rfl
          exact Keeps.refl _ _
        · refine Keeps.step ?_ State.writePlain_keeps (kb_k 2417851639229258349412352 rfl rfl)
          exact Keeps.refl _ _

theorem State.glnWrite_keeps {s : Sys2Proof.Machine.State} {r : Sys2Proof.Requester} {off : Nat} {word : Nat} :
    Keeps 4951797936073384058905772038 s (State.glnWrite s r off word) := by
  unfold State.glnWrite
  refine Keeps.ite ?_ ?_
  · refine Keeps.step ?_ State.brdCtlWrite_keeps rfl
    exact Keeps.refl _ _
  · refine Keeps.ite ?_ ?_
    · refine Keeps.step ?_ State.dlConsWrite_keeps rfl
      exact Keeps.refl _ _
    · refine Keeps.ite ?_ ?_
      · refine Keeps.step ?_ State.sctlWrite_keeps rfl
        exact Keeps.refl _ _
      · refine Keeps.step ?_ State.writePlain_keeps (kb_k 4951760157141521099596496896 rfl rfl)
        exact Keeps.refl _ _

theorem State.blockWrite_keeps {s : Sys2Proof.Machine.State} {r : Sys2Proof.Requester} {p : Sys2Proof.Page} {off
    : Nat} {word : Nat} : Keeps (kindBit p ||| 79228162495817646244852924415) s (State.blockWrite s r p off word) :=
    by
  unfold State.blockWrite
  try extract_lets
  split
  · refine Keeps.step ?_ State.shWrite_keeps (kb_self _ rfl)
    exact Keeps.refl _ _
  · refine Keeps.ite ?_ ?_
    · refine Keeps.step ?_ State.sqCtlWrite_keeps (kb_lit _ rfl)
      exact Keeps.refl _ _
    · refine Keeps.ite ?_ ?_
      · refine Keeps.step ?_ State.hjmpWrite_keeps (kb_lit _ rfl)
        exact Keeps.refl _ _
      · refine Keeps.step ?_ State.writePlain_keeps (kb_self _ rfl)
        exact Keeps.refl _ _
  · refine Keeps.step ?_ State.clkWrite_keeps (kb_lit _ rfl)
    exact Keeps.refl _ _
  · refine Keeps.step ?_ State.glnWrite_keeps (kb_lit _ rfl)
    exact Keeps.refl _ _
  · refine Keeps.ite ?_ ?_
    · refine Keeps.step ?_ State.hprodWrite_keeps (kb_lit _ rfl)
      exact Keeps.refl _ _
    · refine Keeps.step ?_ State.writePlain_keeps (kb_self _ rfl)
      exact Keeps.refl _ _
  · refine Keeps.step ?_ State.timeWrite_keeps (kb_lit _ rfl)
    exact Keeps.refl _ _
  · refine Keeps.step ?_ State.ascanWrite_keeps (kb_lit _ rfl)
    exact Keeps.refl _ _
  · refine Keeps.ite ?_ ?_
    · refine Keeps.step ?_ State.scCtlWrite_keeps (kb_lit _ rfl)
      exact Keeps.refl _ _
    · refine Keeps.ite ?_ ?_
      · refine Keeps.step ?_ State.urgWrite_keeps (kb_lit _ rfl)
        exact Keeps.refl _ _
      · refine Keeps.step ?_ State.calWrite_keeps (kb_self _ rfl)
        exact Keeps.refl _ _
  · refine Keeps.ite ?_ ?_
    · refine Keeps.step ?_ State.acqCtlWrite_keeps (kb_lit _ rfl)
      exact Keeps.refl _ _
    · refine Keeps.ite ?_ ?_
      · refine Keeps.step ?_ State.rconsWrite_keeps (kb_lit _ rfl)
        exact Keeps.refl _ _
      · refine Keeps.step ?_ State.writePlain_keeps (kb_self _ rfl)
        exact Keeps.refl _ _
  · refine Keeps.step ?_ State.dcWrite_keeps (kb_lit _ rfl)
    exact Keeps.refl _ _
  · refine Keeps.ite ?_ ?_
    · refine Keeps.step ?_ State.ddrCfgWrite_keeps (kb_lit _ rfl)
      exact Keeps.refl _ _
    · refine Keeps.step ?_ State.writePlain_keeps (kb_self _ rfl)
      exact Keeps.refl _ _
  · refine Keeps.ite ?_ ?_
    · refine Keeps.ite ?_ ?_
      · refine Keeps.step ?_ State.qdrCtlWrite_keeps (kb_lit _ rfl)
        refine Keeps.ofRes (tgt := tgtSnd) ?_ rfl rfl
        refine ResKeeps.step ?_ State.draw_keeps (kb_lit _ rfl)
        refine Keeps.ofRes (tgt := tgtSnd) ?_ rfl rfl
        refine ResKeeps.step ?_ State.draw_keeps (kb_lit _ rfl)
        exact Keeps.refl _ _
      · refine Keeps.step ?_ State.qdrCtlWrite_keeps (kb_lit _ rfl)
        exact Keeps.refl _ _
    · refine Keeps.step ?_ State.writePlain_keeps (kb_self _ rfl)
      exact Keeps.refl _ _
  · refine Keeps.step ?_ State.cntWrite_keeps (kb_lit _ rfl)
    exact Keeps.refl _ _
  · refine Keeps.step ?_ State.bwPageWrite_keeps (kb_lit _ rfl)
    exact Keeps.refl _ _
  · refine Keeps.ite ?_ ?_
    · refine Keeps.step ?_ State.brstCtlWrite_keeps (kb_lit _ rfl)
      exact Keeps.refl _ _
    · refine Keeps.ite ?_ ?_
      · refine Keeps.step ?_ State.subGoWrite_keeps (kb_lit _ rfl)
        exact Keeps.refl _ _
      · refine Keeps.ite ?_ ?_
        · refine Keeps.step ?_ State.cancelWrite_keeps (kb_lit _ rfl)
          exact Keeps.refl _ _
        · refine Keeps.step ?_ State.writePlain_keeps (kb_self _ rfl)
          exact Keeps.refl _ _
  · refine Keeps.ite ?_ ?_
    · refine Keeps.step ?_ State.ethCfgWrite_keeps (kb_lit _ rfl)
      exact Keeps.refl _ _
    · refine Keeps.ite ?_ ?_
      · refine Keeps.step ?_ State.expCtlWrite_keeps (kb_lit _ rfl)
        exact Keeps.refl _ _
      · refine Keeps.step ?_ State.writePlain_keeps (kb_self _ rfl)
        exact Keeps.refl _ _
  · refine Keeps.ite ?_ ?_
    · refine Keeps.step ?_ State.amlCfgWrite_keeps (kb_lit _ rfl)
      exact Keeps.refl _ _
    · refine Keeps.ite ?_ ?_
      · refine Keeps.step ?_ State.amlCtlWrite_keeps (kb_lit _ rfl)
        exact Keeps.refl _ _
      · refine Keeps.step ?_ State.writePlain_keeps (kb_self _ rfl)
        exact Keeps.refl _ _
  · refine Keeps.ite ?_ ?_
    · refine Keeps.step ?_ State.winnCtlWrite_keeps (kb_lit _ rfl)
      exact Keeps.refl _ _
    · refine Keeps.ite ?_ ?_
      · refine Keeps.step ?_ State.imgCtlWrite_keeps (kb_lit _ rfl)
        exact Keeps.refl _ _
      · refine Keeps.step ?_ State.calWrite_keeps (kb_self _ rfl)
        exact Keeps.refl _ _
  · refine Keeps.step ?_ State.fltWrite_keeps (kb_lit _ rfl)
    exact Keeps.refl _ _
  · refine Keeps.step ?_ State.siloWrite_keeps (kb_lit _ rfl)
    exact Keeps.refl _ _
  · refine Keeps.step ?_ State.modeWrite_keeps (kb_lit _ rfl)
    exact Keeps.refl _ _
  · refine Keeps.ite ?_ ?_
    · refine Keeps.step ?_ State.pwrReqWrite_keeps (kb_lit _ rfl)
      exact Keeps.refl _ _
    · refine Keeps.step ?_ State.writePlain_keeps (kb_self _ rfl)
      exact Keeps.refl _ _
  · refine Keeps.step ?_ State.secWrite_keeps (kb_lit _ rfl)
    exact Keeps.refl _ _
  · refine Keeps.step ?_ State.dbgWrite_keeps (kb_lit _ rfl)
    exact Keeps.refl _ _
  · refine Keeps.step ?_ State.hostRegWrite_keeps (kb_lit _ rfl)
    exact Keeps.refl _ _
  · refine Keeps.step ?_ State.writePlain_keeps (kb_self _ rfl)
    exact Keeps.refl _ _

theorem State.pageWrite_keeps {s : Sys2Proof.Machine.State} {r : Sys2Proof.Requester} {p : Sys2Proof.Page} {off
    : Nat} {word : Nat} : Keeps (kindBit p ||| 79228162495817646244852924415) s (State.pageWrite s r p off word) :=
    by
  unfold State.pageWrite
  refine Keeps.ite ?_ ?_
  · refine Keeps.step ?_ State.headerWrite_keeps (kb_self _ rfl)
    exact Keeps.refl _ _
  · refine Keeps.step ?_ State.blockWrite_keeps (kb_self _ rfl)
    exact Keeps.refl _ _

theorem State.regWrite_keeps {s : Sys2Proof.Machine.State} {r : Sys2Proof.Requester} {a : Nat} {word : Nat} :
    Keeps 79228162495817646244852924415 s (State.regWrite s r a word) := by
  unfold State.regWrite
  split
  · refine Keeps.step ?_ State.pageWrite_keeps (kb_any rfl rfl)
    exact Keeps.refl _ _
  · exact Keeps.refl _ _

theorem State.barWrite_keeps {s : Sys2Proof.Machine.State} {r : Sys2Proof.Requester} {a : Nat} {len : Nat} {v :
    Nat} : Keeps 79228162495817646244852924415 s (State.barWrite s r a len v) := by
  unfold State.barWrite
  refine Keeps.ite ?_ ?_
  · refine Keeps.step ?_ State.regWrite_keeps rfl
    exact Keeps.refl _ _
  · refine Keeps.ite ?_ ?_
    · refine Keeps.step ?_ State.regWrite_keeps rfl
      refine Keeps.step ?_ State.regWrite_keeps rfl
      exact Keeps.refl _ _
    · split
      · refine Keeps.step ?_ State.werr_keeps (kb_any rfl rfl)
        exact Keeps.refl _ _
      · exact Keeps.refl _ _

theorem execRegisterWrite_keeps {r : Sys2Proof.Requester} {a : BitVec 26} {len : Nat} {v : BitVec 64} {s :
    Sys2Proof.Machine.State} : ResKeeps tgtNext 79228162495817646244852924415 s (execRegisterWrite r a len v s) :=
    by
  unfold execRegisterWrite
  refine ResKeeps.some rfl ?_
  refine Keeps.step ?_ State.barWrite_keeps rfl
  exact Keeps.refl _ _

theorem execPageCommitGo_keeps {r : Sys2Proof.Requester} {p : Sys2Proof.Page} {s : Sys2Proof.Machine.State} :
    ResKeeps tgtNext (kindBit p ||| 1315311439314669131756863558) s (execPageCommitGo r p s) := by
  unfold execPageCommitGo
  refine ResKeeps.some rfl ?_
  refine Keeps.ite ?_ ?_
  · refine Keeps.step ?_ State.commitWrite_keeps (kb_self _ rfl)
    exact Keeps.refl _ _
  · exact Keeps.refl _ _

theorem execCommitApply_keeps {p : Sys2Proof.Page} {s : Sys2Proof.Machine.State} : ResKeeps tgtNext
    (kindBit p ||| 1315311439314669131756863559) s (execCommitApply p s) := by
  unfold execCommitApply
  refine ResKeeps.some rfl ?_
  refine Keeps.ite ?_ ?_
  · exact Keeps.refl _ _
  · refine Keeps.ite ?_ ?_
    · split
      · refine Keeps.step ?_ State.cgReset_keeps (kb_lit _ rfl)
        exact Keeps.refl _ _
      · refine Keeps.ite ?_ ?_
        · exact Keeps.refl _ _
        · refine Keeps.step ?_ State.wr_keeps (kb_kp _ 147573952589676412928 rfl rfl)
          exact Keeps.refl _ _
    · refine Keeps.step ?_ State.applyCommit_keeps (kb_self _ rfl)
      exact Keeps.refl _ _

theorem execPageCommitDrop_keeps {r : Sys2Proof.Requester} {p : Sys2Proof.Page} {s : Sys2Proof.Machine.State} :
    ResKeeps tgtNext (kindBit p ||| 1315311439314669131756863558) s (execPageCommitDrop r p s) := by
  unfold execPageCommitDrop
  refine ResKeeps.some rfl ?_
  refine Keeps.ite ?_ ?_
  · refine Keeps.step ?_ State.commitWrite_keeps (kb_self _ rfl)
    exact Keeps.refl _ _
  · exact Keeps.refl _ _

theorem execPageReset_keeps {r : Sys2Proof.Requester} {p : Sys2Proof.Page} {s : Sys2Proof.Machine.State} :
    ResKeeps tgtNext (kindBit p ||| 16678029447724389865166461886) s (execPageReset r p s) := by
  unfold execPageReset
  refine ResKeeps.some rfl ?_
  refine Keeps.ite ?_ ?_
  · refine Keeps.step ?_ State.pageCtlWrite_keeps (kb_self _ rfl)
    exact Keeps.refl _ _
  · exact Keeps.refl _ _

theorem execPageResetRelease_keeps {p : Sys2Proof.Page} {s : Sys2Proof.Machine.State} : ResKeeps tgtNext
    (kindBit p ||| 6503482781108586708916079374) s (execPageResetRelease p s) := by
  unfold execPageResetRelease
  refine ResKeeps.some rfl ?_
  refine Keeps.ite ?_ ?_
  · refine Keeps.ite ?_ ?_
    · refine Keeps.step ?_ State.pageUp_keeps (kb_self _ rfl)
      refine Keeps.step ?_ State.modPage_keeps (kb_lit _ rfl)
      exact Keeps.refl _ _
    · refine Keeps.step ?_ State.modPage_keeps (kb_lit _ rfl)
      exact Keeps.refl _ _
  · exact Keeps.refl _ _

theorem execPageEnableWrite_keeps {r : Sys2Proof.Requester} {p : Sys2Proof.Page} {en : Bool} {s :
    Sys2Proof.Machine.State} : ResKeeps tgtNext (kindBit p ||| 16678029447724389865166461886) s
    (execPageEnableWrite r p en s) := by
  unfold execPageEnableWrite
  refine ResKeeps.some rfl ?_
  refine Keeps.ite ?_ ?_
  · refine Keeps.step ?_ State.pageCtlWrite_keeps (kb_self _ rfl)
    exact Keeps.refl _ _
  · exact Keeps.refl _ _

theorem execPagePowerRequest_keeps {r : Sys2Proof.Requester} {p : Sys2Proof.Page} {on : Bool} {s :
    Sys2Proof.Machine.State} : ResKeeps tgtNext (kindBit p ||| 16678029447724389865166461886) s
    (execPagePowerRequest r p on s) := by
  unfold execPagePowerRequest
  refine ResKeeps.some rfl ?_
  refine Keeps.ite ?_ ?_
  · refine Keeps.step ?_ State.pageCtlWrite_keeps (kb_self _ rfl)
    exact Keeps.refl _ _
  · exact Keeps.refl _ _

theorem execPageFltlClear_keeps {r : Sys2Proof.Requester} {p : Sys2Proof.Page} {a : Bool} {b : Bool} {s :
    Sys2Proof.Machine.State} : ResKeeps tgtNext (kindBit p ||| 590295810358714040322) s
    (execPageFltlClear r p a b s) := by
  unfold execPageFltlClear
  refine ResKeeps.some rfl ?_
  refine Keeps.ite ?_ ?_
  · refine Keeps.step ?_ State.fltlWrite_keeps (kb_self _ rfl)
    exact Keeps.refl _ _
  · exact Keeps.refl _ _

theorem State.rcClear_keeps {s : Sys2Proof.Machine.State} {p : Sys2Proof.Page} {off : Nat} : Keeps
    (kindBit p ||| 2) s (State.rcClear s p off) := by
  unfold State.rcClear
  refine Keeps.ite ?_ ?_
  · exact Keeps.refl _ _
  · refine Keeps.foldl _ _ ?_ ?_
    · exact Keeps.refl _ _
    · intro y_ a_ h_
      refine Keeps.step ?_ State.wr_keeps (kb_self _ rfl)
      with_reducible assumption

theorem State.senseClamp_keeps {s : Sys2Proof.Machine.State} {c : Nat} : Keeps 9903520314283042199192993794 s
    (State.senseClamp s c) := by
  unfold State.senseClamp
  refine Keeps.ite ?_ ?_
  · refine Keeps.step ?_ State.wr_keeps (kb_k 9903520314283042199192993792 rfl rfl)
    exact Keeps.refl _ _
  · exact Keeps.refl _ _

theorem State.chStatRead_keeps {s : Sys2Proof.Machine.State} {p : Sys2Proof.Page} {off : Nat} : Keeps
    9903520314283042224962797570 s (State.chStatRead s p off) := by
  unfold State.chStatRead
  refine Keeps.ite ?_ ?_
  · refine Keeps.mkUpd ?_ ⟨Or.inr rfl, rfl, Or.inr rfl, Or.inr rfl, Or.inr rfl, Or.inr rfl, Or.inr rfl, Or.inr
      rfl, Or.inr rfl, Or.inr rfl, Or.inr rfl, Or.inr rfl, Or.inr rfl, Or.inr rfl, Or.inr rfl, Or.inr rfl, Or.inr
      rfl, Or.inr rfl, Or.inr rfl, Or.inr rfl, Or.inr rfl, Or.inr rfl, Or.inr rfl, Or.inr rfl, Or.inr rfl, Or.inr
      rfl, Or.inr rfl, Or.inr rfl, Or.inr rfl, Or.inr rfl, Or.inr rfl, Or.inr rfl, Or.inr rfl, Or.inr rfl, Or.inl
      rfl, Or.inr rfl, Or.inr rfl, Or.inr rfl, Or.inr rfl, Or.inr rfl, Or.inr rfl, Or.inr rfl, Or.inr rfl, Or.inr
      rfl, Or.inr rfl, Or.inr rfl, Nat.le_refl _, trivial, fun w => w, fun w => w, fun w => w, fun w => w, fun w =>
      w, fun w => w, fun w => w, fun w => w, fun w => w, fun w => w, fun w => w, fun w => w, fun w => w⟩
    exact Keeps.refl _ _
  · refine Keeps.mkUpd ?_ ⟨Or.inr rfl, rfl, Or.inr rfl, Or.inr rfl, Or.inr rfl, Or.inr rfl, Or.inr rfl, Or.inr
      rfl, Or.inr rfl, Or.inr rfl, Or.inr rfl, Or.inr rfl, Or.inr rfl, Or.inr rfl, Or.inr rfl, Or.inr rfl, Or.inr
      rfl, Or.inr rfl, Or.inr rfl, Or.inr rfl, Or.inr rfl, Or.inr rfl, Or.inr rfl, Or.inr rfl, Or.inr rfl, Or.inr
      rfl, Or.inr rfl, Or.inr rfl, Or.inr rfl, Or.inr rfl, Or.inr rfl, Or.inr rfl, Or.inr rfl, Or.inl rfl, Or.inl
      rfl, Or.inr rfl, Or.inr rfl, Or.inr rfl, Or.inr rfl, Or.inr rfl, Or.inr rfl, Or.inr rfl, Or.inr rfl, Or.inr
      rfl, Or.inr rfl, Or.inr rfl, Nat.le_refl _, trivial, fun w => w, fun w => w, fun w => w, fun w => w, fun w =>
      w, fun w => w, fun w => w, fun w => w, fun w => w, fun w => w, fun w => w, fun w => w, fun w => w⟩
    refine Keeps.step ?_ State.senseClamp_keeps rfl
    exact Keeps.refl _ _

theorem State.pageRead_keeps {s : Sys2Proof.Machine.State} {r : Sys2Proof.Requester} {p : Sys2Proof.Page} {off :
    Nat} : Keeps (kindBit p ||| 9903558093214905183198330882) s (State.pageRead s r p off) := by
  unfold State.pageRead
  refine Keeps.ite ?_ ?_
  · refine Keeps.mkUpd ?_ ⟨Or.inr rfl, rfl, Or.inr rfl, Or.inr rfl, Or.inr rfl, Or.inr rfl, Or.inr rfl, Or.inr
      rfl, Or.inr rfl, Or.inr rfl, Or.inr rfl, Or.inr rfl, Or.inr rfl, Or.inr rfl, Or.inr rfl, Or.inr rfl, Or.inr
      rfl, Or.inr rfl, Or.inr rfl, Or.inr rfl, Or.inr rfl, Or.inr rfl, Or.inr rfl, Or.inr rfl, Or.inr rfl, Or.inr
      rfl, Or.inr rfl, Or.inr rfl, Or.inr rfl, Or.inr rfl, Or.inr rfl, Or.inr rfl, Or.inr rfl, Or.inr rfl, Or.inl
      (kb_tb _ rfl), Or.inr rfl, Or.inr rfl, Or.inr rfl, Or.inr rfl, Or.inr rfl, Or.inr rfl, Or.inr rfl, Or.inr rfl,
      Or.inr rfl, Or.inr rfl, Or.inr rfl, Nat.le_refl _, trivial, fun w => w, fun w => w, fun w => w, fun w => w,
      fun w => w, fun w => w, fun w => w, fun w => w, fun w => w, fun w => w, fun w => w, fun w => w, fun w => w⟩
    exact Keeps.refl _ _
  · refine Keeps.ite ?_ ?_
    · split
      · refine Keeps.ite ?_ ?_
        · refine Keeps.step ?_ State.chStatRead_keeps (kb_lit _ rfl)
          exact Keeps.refl _ _
        · refine Keeps.mkUpd ?_ ⟨Or.inr rfl, rfl, Or.inr rfl, Or.inr rfl, Or.inr rfl, Or.inr rfl, Or.inr rfl,
            Or.inr rfl, Or.inr rfl, Or.inr rfl, Or.inr rfl, Or.inr rfl, Or.inr rfl, Or.inr rfl, Or.inr rfl, Or.inr
            rfl, Or.inr rfl, Or.inr rfl, Or.inr rfl, Or.inr rfl, Or.inr rfl, Or.inr rfl, Or.inr rfl, Or.inr rfl,
            Or.inr rfl, Or.inr rfl, Or.inr rfl, Or.inr rfl, Or.inr rfl, Or.inr rfl, Or.inr rfl, Or.inr rfl, Or.inr
            rfl, Or.inr rfl, Or.inl (kb_tb _ rfl), Or.inr rfl, Or.inr rfl, Or.inr rfl, Or.inr rfl, Or.inr rfl,
            Or.inr rfl, Or.inr rfl, Or.inr rfl, Or.inr rfl, Or.inr rfl, Or.inr rfl, Nat.le_refl _, trivial, fun w =>
            w, fun w => w, fun w => w, fun w => w, fun w => w, fun w => w, fun w => w, fun w => w, fun w => w, fun w
            => w, fun w => w, fun w => w, fun w => w⟩
          exact Keeps.refl _ _
      · refine Keeps.step ?_ State.glnRead_keeps (kb_lit _ rfl)
        exact Keeps.refl _ _
      · refine Keeps.ite ?_ ?_
        · refine Keeps.ite ?_ ?_
          · refine Keeps.step ?_ State.cntLowRead_keeps (kb_lit _ rfl)
            exact Keeps.refl _ _
          · refine Keeps.step ?_ State.cntHighRead_keeps (kb_lit _ rfl)
            exact Keeps.refl _ _
        · refine Keeps.mkUpd ?_ ⟨Or.inr rfl, rfl, Or.inr rfl, Or.inr rfl, Or.inr rfl, Or.inr rfl, Or.inr rfl,
            Or.inr rfl, Or.inr rfl, Or.inr rfl, Or.inr rfl, Or.inr rfl, Or.inr rfl, Or.inr rfl, Or.inr rfl, Or.inr
            rfl, Or.inr rfl, Or.inr rfl, Or.inr rfl, Or.inr rfl, Or.inr rfl, Or.inr rfl, Or.inr rfl, Or.inr rfl,
            Or.inr rfl, Or.inr rfl, Or.inr rfl, Or.inr rfl, Or.inr rfl, Or.inr rfl, Or.inr rfl, Or.inr rfl, Or.inr
            rfl, Or.inr rfl, Or.inl (kb_tb _ rfl), Or.inr rfl, Or.inr rfl, Or.inr rfl, Or.inr rfl, Or.inr rfl,
            Or.inr rfl, Or.inr rfl, Or.inr rfl, Or.inr rfl, Or.inr rfl, Or.inr rfl, Nat.le_refl _, trivial, fun w =>
            w, fun w => w, fun w => w, fun w => w, fun w => w, fun w => w, fun w => w, fun w => w, fun w => w, fun w
            => w, fun w => w, fun w => w, fun w => w⟩
          exact Keeps.refl _ _
      · refine Keeps.ite ?_ ?_
        · refine Keeps.step ?_ State.readNow_keeps (kb_lit _ rfl)
          exact Keeps.refl _ _
        · refine Keeps.mkUpd ?_ ⟨Or.inr rfl, rfl, Or.inr rfl, Or.inr rfl, Or.inr rfl, Or.inr rfl, Or.inr rfl,
            Or.inr rfl, Or.inr rfl, Or.inr rfl, Or.inr rfl, Or.inr rfl, Or.inr rfl, Or.inr rfl, Or.inr rfl, Or.inr
            rfl, Or.inr rfl, Or.inr rfl, Or.inr rfl, Or.inr rfl, Or.inr rfl, Or.inr rfl, Or.inr rfl, Or.inr rfl,
            Or.inr rfl, Or.inr rfl, Or.inr rfl, Or.inr rfl, Or.inr rfl, Or.inr rfl, Or.inr rfl, Or.inr rfl, Or.inr
            rfl, Or.inr rfl, Or.inl (kb_tb _ rfl), Or.inr rfl, Or.inr rfl, Or.inr rfl, Or.inr rfl, Or.inr rfl,
            Or.inr rfl, Or.inr rfl, Or.inr rfl, Or.inr rfl, Or.inr rfl, Or.inr rfl, Nat.le_refl _, trivial, fun w =>
            w, fun w => w, fun w => w, fun w => w, fun w => w, fun w => w, fun w => w, fun w => w, fun w => w, fun w
            => w, fun w => w, fun w => w, fun w => w⟩
          exact Keeps.refl _ _
      · refine Keeps.ite ?_ ?_
        · refine Keeps.mkUpd ?_ ⟨Or.inr rfl, rfl, Or.inr rfl, Or.inr rfl, Or.inr rfl, Or.inr rfl, Or.inr rfl,
            Or.inr rfl, Or.inr rfl, Or.inr rfl, Or.inr rfl, Or.inr rfl, Or.inr rfl, Or.inr rfl, Or.inr rfl, Or.inr
            rfl, Or.inr rfl, Or.inr rfl, Or.inr rfl, Or.inr rfl, Or.inr rfl, Or.inr rfl, Or.inr rfl, Or.inr rfl,
            Or.inr rfl, Or.inr rfl, Or.inr rfl, Or.inr rfl, Or.inr rfl, Or.inr rfl, Or.inr rfl, Or.inr rfl, Or.inr
            rfl, Or.inr rfl, Or.inl (kb_tb _ rfl), Or.inr rfl, Or.inr rfl, Or.inr rfl, Or.inr rfl, Or.inr rfl,
            Or.inr rfl, Or.inr rfl, Or.inr rfl, Or.inr rfl, Or.inr rfl, Or.inr rfl, Nat.le_refl _, trivial, fun w =>
            w, fun w => w, fun w => w, fun w => w, fun w => w, fun w => w, fun w => w, fun w => w, fun w => w, fun w
            => w, fun w => w, fun w => w, fun w => w⟩
          exact Keeps.refl _ _
        · refine Keeps.ite ?_ ?_
          · refine Keeps.mkUpd ?_ ⟨Or.inr rfl, rfl, Or.inr rfl, Or.inr rfl, Or.inr rfl, Or.inr rfl, Or.inr rfl,
              Or.inr rfl, Or.inr rfl, Or.inr rfl, Or.inr rfl, Or.inr rfl, Or.inr rfl, Or.inr rfl, Or.inr rfl, Or.inr
              rfl, Or.inr rfl, Or.inr rfl, Or.inr rfl, Or.inr rfl, Or.inr rfl, Or.inr rfl, Or.inr rfl, Or.inr rfl,
              Or.inr rfl, Or.inr rfl, Or.inr rfl, Or.inr rfl, Or.inr rfl, Or.inr rfl, Or.inr rfl, Or.inr rfl, Or.inr
              rfl, Or.inr rfl, Or.inl (kb_tb _ rfl), Or.inr rfl, Or.inr rfl, Or.inr rfl, Or.inr rfl, Or.inr rfl,
              Or.inr rfl, Or.inr rfl, Or.inr rfl, Or.inr rfl, Or.inr rfl, Or.inr rfl, Nat.le_refl _, trivial, fun w
              => w, fun w => w, fun w => w, fun w => w, fun w => w, fun w => w, fun w => w, fun w => w, fun w => w,
              fun w => w, fun w => w, fun w => w, fun w => w⟩
            exact Keeps.refl _ _
          · refine Keeps.mkUpd ?_ ⟨Or.inr rfl, rfl, Or.inr rfl, Or.inr rfl, Or.inr rfl, Or.inr rfl, Or.inr rfl,
              Or.inr rfl, Or.inr rfl, Or.inr rfl, Or.inr rfl, Or.inr rfl, Or.inr rfl, Or.inr rfl, Or.inr rfl, Or.inr
              rfl, Or.inr rfl, Or.inr rfl, Or.inr rfl, Or.inr rfl, Or.inr rfl, Or.inr rfl, Or.inr rfl, Or.inr rfl,
              Or.inr rfl, Or.inr rfl, Or.inr rfl, Or.inr rfl, Or.inr rfl, Or.inr rfl, Or.inr rfl, Or.inr rfl, Or.inr
              rfl, Or.inr rfl, Or.inl (kb_tb _ rfl), Or.inr rfl, Or.inr rfl, Or.inr rfl, Or.inr rfl, Or.inr rfl,
              Or.inr rfl, Or.inr rfl, Or.inr rfl, Or.inr rfl, Or.inr rfl, Or.inr rfl, Nat.le_refl _, trivial, fun w
              => w, fun w => w, fun w => w, fun w => w, fun w => w, fun w => w, fun w => w, fun w => w, fun w => w,
              fun w => w, fun w => w, fun w => w, fun w => w⟩
            exact Keeps.refl _ _
      · refine Keeps.mkUpd ?_ ⟨Or.inr rfl, rfl, Or.inr rfl, Or.inr rfl, Or.inr rfl, Or.inr rfl, Or.inr rfl,
          Or.inr rfl, Or.inr rfl, Or.inr rfl, Or.inr rfl, Or.inr rfl, Or.inr rfl, Or.inr rfl, Or.inr rfl, Or.inr
          rfl, Or.inr rfl, Or.inr rfl, Or.inr rfl, Or.inr rfl, Or.inr rfl, Or.inr rfl, Or.inr rfl, Or.inr rfl,
          Or.inr rfl, Or.inr rfl, Or.inr rfl, Or.inr rfl, Or.inr rfl, Or.inr rfl, Or.inr rfl, Or.inr rfl, Or.inr
          rfl, Or.inr rfl, Or.inl (kb_tb _ rfl), Or.inr rfl, Or.inr rfl, Or.inr rfl, Or.inr rfl, Or.inr rfl, Or.inr
          rfl, Or.inr rfl, Or.inr rfl, Or.inr rfl, Or.inr rfl, Or.inr rfl, Nat.le_refl _, trivial, fun w => w, fun w
          => w, fun w => w, fun w => w, fun w => w, fun w => w, fun w => w, fun w => w, fun w => w, fun w => w, fun
          w => w, fun w => w, fun w => w⟩
        exact Keeps.refl _ _
    · refine Keeps.step ?_ State.rcClear_keeps (kb_self _ rfl)
      split
      · refine Keeps.ite ?_ ?_
        · refine Keeps.step ?_ State.chStatRead_keeps (kb_lit _ rfl)
          exact Keeps.refl _ _
        · refine Keeps.mkUpd ?_ ⟨Or.inr rfl, rfl, Or.inr rfl, Or.inr rfl, Or.inr rfl, Or.inr rfl, Or.inr rfl,
            Or.inr rfl, Or.inr rfl, Or.inr rfl, Or.inr rfl, Or.inr rfl, Or.inr rfl, Or.inr rfl, Or.inr rfl, Or.inr
            rfl, Or.inr rfl, Or.inr rfl, Or.inr rfl, Or.inr rfl, Or.inr rfl, Or.inr rfl, Or.inr rfl, Or.inr rfl,
            Or.inr rfl, Or.inr rfl, Or.inr rfl, Or.inr rfl, Or.inr rfl, Or.inr rfl, Or.inr rfl, Or.inr rfl, Or.inr
            rfl, Or.inr rfl, Or.inl (kb_tb _ rfl), Or.inr rfl, Or.inr rfl, Or.inr rfl, Or.inr rfl, Or.inr rfl,
            Or.inr rfl, Or.inr rfl, Or.inr rfl, Or.inr rfl, Or.inr rfl, Or.inr rfl, Nat.le_refl _, trivial, fun w =>
            w, fun w => w, fun w => w, fun w => w, fun w => w, fun w => w, fun w => w, fun w => w, fun w => w, fun w
            => w, fun w => w, fun w => w, fun w => w⟩
          exact Keeps.refl _ _
      · refine Keeps.step ?_ State.glnRead_keeps (kb_lit _ rfl)
        exact Keeps.refl _ _
      · refine Keeps.ite ?_ ?_
        · refine Keeps.ite ?_ ?_
          · refine Keeps.step ?_ State.cntLowRead_keeps (kb_lit _ rfl)
            exact Keeps.refl _ _
          · refine Keeps.step ?_ State.cntHighRead_keeps (kb_lit _ rfl)
            exact Keeps.refl _ _
        · refine Keeps.mkUpd ?_ ⟨Or.inr rfl, rfl, Or.inr rfl, Or.inr rfl, Or.inr rfl, Or.inr rfl, Or.inr rfl,
            Or.inr rfl, Or.inr rfl, Or.inr rfl, Or.inr rfl, Or.inr rfl, Or.inr rfl, Or.inr rfl, Or.inr rfl, Or.inr
            rfl, Or.inr rfl, Or.inr rfl, Or.inr rfl, Or.inr rfl, Or.inr rfl, Or.inr rfl, Or.inr rfl, Or.inr rfl,
            Or.inr rfl, Or.inr rfl, Or.inr rfl, Or.inr rfl, Or.inr rfl, Or.inr rfl, Or.inr rfl, Or.inr rfl, Or.inr
            rfl, Or.inr rfl, Or.inl (kb_tb _ rfl), Or.inr rfl, Or.inr rfl, Or.inr rfl, Or.inr rfl, Or.inr rfl,
            Or.inr rfl, Or.inr rfl, Or.inr rfl, Or.inr rfl, Or.inr rfl, Or.inr rfl, Nat.le_refl _, trivial, fun w =>
            w, fun w => w, fun w => w, fun w => w, fun w => w, fun w => w, fun w => w, fun w => w, fun w => w, fun w
            => w, fun w => w, fun w => w, fun w => w⟩
          exact Keeps.refl _ _
      · refine Keeps.ite ?_ ?_
        · refine Keeps.step ?_ State.readNow_keeps (kb_lit _ rfl)
          exact Keeps.refl _ _
        · refine Keeps.mkUpd ?_ ⟨Or.inr rfl, rfl, Or.inr rfl, Or.inr rfl, Or.inr rfl, Or.inr rfl, Or.inr rfl,
            Or.inr rfl, Or.inr rfl, Or.inr rfl, Or.inr rfl, Or.inr rfl, Or.inr rfl, Or.inr rfl, Or.inr rfl, Or.inr
            rfl, Or.inr rfl, Or.inr rfl, Or.inr rfl, Or.inr rfl, Or.inr rfl, Or.inr rfl, Or.inr rfl, Or.inr rfl,
            Or.inr rfl, Or.inr rfl, Or.inr rfl, Or.inr rfl, Or.inr rfl, Or.inr rfl, Or.inr rfl, Or.inr rfl, Or.inr
            rfl, Or.inr rfl, Or.inl (kb_tb _ rfl), Or.inr rfl, Or.inr rfl, Or.inr rfl, Or.inr rfl, Or.inr rfl,
            Or.inr rfl, Or.inr rfl, Or.inr rfl, Or.inr rfl, Or.inr rfl, Or.inr rfl, Nat.le_refl _, trivial, fun w =>
            w, fun w => w, fun w => w, fun w => w, fun w => w, fun w => w, fun w => w, fun w => w, fun w => w, fun w
            => w, fun w => w, fun w => w, fun w => w⟩
          exact Keeps.refl _ _
      · refine Keeps.ite ?_ ?_
        · refine Keeps.mkUpd ?_ ⟨Or.inr rfl, rfl, Or.inr rfl, Or.inr rfl, Or.inr rfl, Or.inr rfl, Or.inr rfl,
            Or.inr rfl, Or.inr rfl, Or.inr rfl, Or.inr rfl, Or.inr rfl, Or.inr rfl, Or.inr rfl, Or.inr rfl, Or.inr
            rfl, Or.inr rfl, Or.inr rfl, Or.inr rfl, Or.inr rfl, Or.inr rfl, Or.inr rfl, Or.inr rfl, Or.inr rfl,
            Or.inr rfl, Or.inr rfl, Or.inr rfl, Or.inr rfl, Or.inr rfl, Or.inr rfl, Or.inr rfl, Or.inr rfl, Or.inr
            rfl, Or.inr rfl, Or.inl (kb_tb _ rfl), Or.inr rfl, Or.inr rfl, Or.inr rfl, Or.inr rfl, Or.inr rfl,
            Or.inr rfl, Or.inr rfl, Or.inr rfl, Or.inr rfl, Or.inr rfl, Or.inr rfl, Nat.le_refl _, trivial, fun w =>
            w, fun w => w, fun w => w, fun w => w, fun w => w, fun w => w, fun w => w, fun w => w, fun w => w, fun w
            => w, fun w => w, fun w => w, fun w => w⟩
          exact Keeps.refl _ _
        · refine Keeps.ite ?_ ?_
          · refine Keeps.mkUpd ?_ ⟨Or.inr rfl, rfl, Or.inr rfl, Or.inr rfl, Or.inr rfl, Or.inr rfl, Or.inr rfl,
              Or.inr rfl, Or.inr rfl, Or.inr rfl, Or.inr rfl, Or.inr rfl, Or.inr rfl, Or.inr rfl, Or.inr rfl, Or.inr
              rfl, Or.inr rfl, Or.inr rfl, Or.inr rfl, Or.inr rfl, Or.inr rfl, Or.inr rfl, Or.inr rfl, Or.inr rfl,
              Or.inr rfl, Or.inr rfl, Or.inr rfl, Or.inr rfl, Or.inr rfl, Or.inr rfl, Or.inr rfl, Or.inr rfl, Or.inr
              rfl, Or.inr rfl, Or.inl (kb_tb _ rfl), Or.inr rfl, Or.inr rfl, Or.inr rfl, Or.inr rfl, Or.inr rfl,
              Or.inr rfl, Or.inr rfl, Or.inr rfl, Or.inr rfl, Or.inr rfl, Or.inr rfl, Nat.le_refl _, trivial, fun w
              => w, fun w => w, fun w => w, fun w => w, fun w => w, fun w => w, fun w => w, fun w => w, fun w => w,
              fun w => w, fun w => w, fun w => w, fun w => w⟩
            exact Keeps.refl _ _
          · refine Keeps.mkUpd ?_ ⟨Or.inr rfl, rfl, Or.inr rfl, Or.inr rfl, Or.inr rfl, Or.inr rfl, Or.inr rfl,
              Or.inr rfl, Or.inr rfl, Or.inr rfl, Or.inr rfl, Or.inr rfl, Or.inr rfl, Or.inr rfl, Or.inr rfl, Or.inr
              rfl, Or.inr rfl, Or.inr rfl, Or.inr rfl, Or.inr rfl, Or.inr rfl, Or.inr rfl, Or.inr rfl, Or.inr rfl,
              Or.inr rfl, Or.inr rfl, Or.inr rfl, Or.inr rfl, Or.inr rfl, Or.inr rfl, Or.inr rfl, Or.inr rfl, Or.inr
              rfl, Or.inr rfl, Or.inl (kb_tb _ rfl), Or.inr rfl, Or.inr rfl, Or.inr rfl, Or.inr rfl, Or.inr rfl,
              Or.inr rfl, Or.inr rfl, Or.inr rfl, Or.inr rfl, Or.inr rfl, Or.inr rfl, Nat.le_refl _, trivial, fun w
              => w, fun w => w, fun w => w, fun w => w, fun w => w, fun w => w, fun w => w, fun w => w, fun w => w,
              fun w => w, fun w => w, fun w => w, fun w => w⟩
            exact Keeps.refl _ _
      · refine Keeps.mkUpd ?_ ⟨Or.inr rfl, rfl, Or.inr rfl, Or.inr rfl, Or.inr rfl, Or.inr rfl, Or.inr rfl,
          Or.inr rfl, Or.inr rfl, Or.inr rfl, Or.inr rfl, Or.inr rfl, Or.inr rfl, Or.inr rfl, Or.inr rfl, Or.inr
          rfl, Or.inr rfl, Or.inr rfl, Or.inr rfl, Or.inr rfl, Or.inr rfl, Or.inr rfl, Or.inr rfl, Or.inr rfl,
          Or.inr rfl, Or.inr rfl, Or.inr rfl, Or.inr rfl, Or.inr rfl, Or.inr rfl, Or.inr rfl, Or.inr rfl, Or.inr
          rfl, Or.inr rfl, Or.inl (kb_tb _ rfl), Or.inr rfl, Or.inr rfl, Or.inr rfl, Or.inr rfl, Or.inr rfl, Or.inr
          rfl, Or.inr rfl, Or.inr rfl, Or.inr rfl, Or.inr rfl, Or.inr rfl, Nat.le_refl _, trivial, fun w => w, fun w
          => w, fun w => w, fun w => w, fun w => w, fun w => w, fun w => w, fun w => w, fun w => w, fun w => w, fun
          w => w, fun w => w, fun w => w⟩
        exact Keeps.refl _ _

theorem State.regRead_keeps {s : Sys2Proof.Machine.State} {r : Sys2Proof.Requester} {a : Nat} : Keeps
    79228162495817593546678026242 s (State.regRead s r a) := by
  unfold State.regRead
  split
  · refine Keeps.step ?_ State.pageRead_keeps (kb_any rfl rfl)
    exact Keeps.refl _ _
  · refine Keeps.mkUpd ?_ ⟨Or.inr rfl, rfl, Or.inr rfl, Or.inr rfl, Or.inr rfl, Or.inr rfl, Or.inr rfl, Or.inr
      rfl, Or.inr rfl, Or.inr rfl, Or.inr rfl, Or.inr rfl, Or.inr rfl, Or.inr rfl, Or.inr rfl, Or.inr rfl, Or.inr
      rfl, Or.inr rfl, Or.inr rfl, Or.inr rfl, Or.inr rfl, Or.inr rfl, Or.inr rfl, Or.inr rfl, Or.inr rfl, Or.inr
      rfl, Or.inr rfl, Or.inr rfl, Or.inr rfl, Or.inr rfl, Or.inr rfl, Or.inr rfl, Or.inr rfl, Or.inr rfl, Or.inl
      rfl, Or.inr rfl, Or.inr rfl, Or.inr rfl, Or.inr rfl, Or.inr rfl, Or.inr rfl, Or.inr rfl, Or.inr rfl, Or.inr
      rfl, Or.inr rfl, Or.inr rfl, Nat.le_refl _, trivial, fun w => w, fun w => w, fun w => w, fun w => w, fun w =>
      w, fun w => w, fun w => w, fun w => w, fun w => w, fun w => w, fun w => w, fun w => w, fun w => w⟩
    exact Keeps.refl _ _

theorem State.barRead_keeps {s : Sys2Proof.Machine.State} {r : Sys2Proof.Requester} {a : Nat} {len : Nat} :
    Keeps 79228162495817593546678026242 s (State.barRead s r a len) := by
  unfold State.barRead
  refine Keeps.ite ?_ ?_
  · refine Keeps.mkUpd ?_ ⟨Or.inr rfl, rfl, Or.inr rfl, Or.inr rfl, Or.inr rfl, Or.inr rfl, Or.inr rfl, Or.inr
      rfl, Or.inr rfl, Or.inr rfl, Or.inr rfl, Or.inr rfl, Or.inr rfl, Or.inr rfl, Or.inr rfl, Or.inr rfl, Or.inr
      rfl, Or.inr rfl, Or.inr rfl, Or.inr rfl, Or.inr rfl, Or.inr rfl, Or.inr rfl, Or.inr rfl, Or.inr rfl, Or.inr
      rfl, Or.inr rfl, Or.inr rfl, Or.inr rfl, Or.inr rfl, Or.inr rfl, Or.inr rfl, Or.inr rfl, Or.inr rfl, Or.inl
      rfl, Or.inr rfl, Or.inr rfl, Or.inr rfl, Or.inr rfl, Or.inr rfl, Or.inr rfl, Or.inr rfl, Or.inr rfl, Or.inr
      rfl, Or.inr rfl, Or.inr rfl, Nat.le_refl _, trivial, fun w => w, fun w => w, fun w => w, fun w => w, fun w =>
      w, fun w => w, fun w => w, fun w => w, fun w => w, fun w => w, fun w => w, fun w => w, fun w => w⟩
    refine Keeps.step ?_ State.regRead_keeps rfl
    refine Keeps.step ?_ State.regRead_keeps rfl
    exact Keeps.refl _ _
  · refine Keeps.ite ?_ ?_
    · refine Keeps.mkUpd ?_ ⟨Or.inr rfl, rfl, Or.inr rfl, Or.inr rfl, Or.inr rfl, Or.inr rfl, Or.inr rfl, Or.inr
        rfl, Or.inr rfl, Or.inr rfl, Or.inr rfl, Or.inr rfl, Or.inr rfl, Or.inr rfl, Or.inr rfl, Or.inr rfl, Or.inr
        rfl, Or.inr rfl, Or.inr rfl, Or.inr rfl, Or.inr rfl, Or.inr rfl, Or.inr rfl, Or.inr rfl, Or.inr rfl, Or.inr
        rfl, Or.inr rfl, Or.inr rfl, Or.inr rfl, Or.inr rfl, Or.inr rfl, Or.inr rfl, Or.inr rfl, Or.inr rfl, Or.inl
        rfl, Or.inr rfl, Or.inr rfl, Or.inr rfl, Or.inr rfl, Or.inr rfl, Or.inr rfl, Or.inr rfl, Or.inr rfl, Or.inr
        rfl, Or.inr rfl, Or.inr rfl, Nat.le_refl _, trivial, fun w => w, fun w => w, fun w => w, fun w => w, fun w
        => w, fun w => w, fun w => w, fun w => w, fun w => w, fun w => w, fun w => w, fun w => w, fun w => w⟩
      refine Keeps.step ?_ State.regRead_keeps rfl
      exact Keeps.refl _ _
    · refine Keeps.mkUpd ?_ ⟨Or.inr rfl, rfl, Or.inr rfl, Or.inr rfl, Or.inr rfl, Or.inr rfl, Or.inr rfl, Or.inr
        rfl, Or.inr rfl, Or.inr rfl, Or.inr rfl, Or.inr rfl, Or.inr rfl, Or.inr rfl, Or.inr rfl, Or.inr rfl, Or.inr
        rfl, Or.inr rfl, Or.inr rfl, Or.inr rfl, Or.inr rfl, Or.inr rfl, Or.inr rfl, Or.inr rfl, Or.inr rfl, Or.inr
        rfl, Or.inr rfl, Or.inr rfl, Or.inr rfl, Or.inr rfl, Or.inr rfl, Or.inr rfl, Or.inr rfl, Or.inr rfl, Or.inl
        rfl, Or.inr rfl, Or.inr rfl, Or.inr rfl, Or.inr rfl, Or.inr rfl, Or.inr rfl, Or.inr rfl, Or.inr rfl, Or.inr
        rfl, Or.inr rfl, Or.inr rfl, Nat.le_refl _, trivial, fun w => w, fun w => w, fun w => w, fun w => w, fun w
        => w, fun w => w, fun w => w, fun w => w, fun w => w, fun w => w, fun w => w, fun w => w, fun w => w⟩
      exact Keeps.refl _ _

theorem execRcRead_keeps {r : Sys2Proof.Requester} {a : BitVec 26} {len : Nat} {s : Sys2Proof.Machine.State} :
    ResKeeps tgtNext 79228162495817593546678026242 s (execRcRead r a len s) := by
  unfold execRcRead
  refine ResKeeps.some rfl ?_
  refine Keeps.step ?_ State.barRead_keeps rfl
  exact Keeps.refl _ _

theorem execEntdaa_keeps {addr : BitVec 7} {s : Sys2Proof.Machine.State} : ResKeeps tgtNext 67108864 s
    (execEntdaa addr s) := by
  unfold execEntdaa
  refine ResKeeps.some rfl ?_
  refine Keeps.mkUpd ?_ ⟨Or.inr rfl, rfl, Or.inr rfl, Or.inr rfl, Or.inr rfl, Or.inr rfl, Or.inr rfl, Or.inr
      rfl, Or.inr rfl, Or.inr rfl, Or.inr rfl, Or.inr rfl, Or.inr rfl, Or.inr rfl, Or.inr rfl, Or.inr rfl, Or.inr
      rfl, Or.inr rfl, Or.inr rfl, Or.inr rfl, Or.inr rfl, Or.inr rfl, Or.inr rfl, Or.inr rfl, Or.inr rfl, Or.inr
      rfl, Or.inl rfl, Or.inr rfl, Or.inr rfl, Or.inr rfl, Or.inr rfl, Or.inr rfl, Or.inr rfl, Or.inr rfl, Or.inr
      rfl, Or.inr rfl, Or.inr rfl, Or.inr rfl, Or.inr rfl, Or.inr rfl, Or.inr rfl, Or.inr rfl, Or.inr rfl, Or.inr
      rfl, Or.inr rfl, Or.inr rfl, Nat.le_refl _, trivial, fun w => w, fun w => w, fun w => w, fun w => w, fun w =>
      w, fun w => w, fun w => w, fun w => w, fun w => w, fun w => w, fun w => w, fun w => w, fun w => w⟩
  exact Keeps.refl _ _

theorem execI3cSetOffset_keeps {off : Sys2Proof.Word} {s : Sys2Proof.Machine.State} : ResKeeps tgtNext 67108864
    s (execI3cSetOffset off s) := by
  unfold execI3cSetOffset
  refine ResKeeps.some rfl ?_
  refine Keeps.ite ?_ ?_
  · refine Keeps.mkUpd ?_ ⟨Or.inr rfl, rfl, Or.inr rfl, Or.inr rfl, Or.inr rfl, Or.inr rfl, Or.inr rfl, Or.inr
      rfl, Or.inr rfl, Or.inr rfl, Or.inr rfl, Or.inr rfl, Or.inr rfl, Or.inr rfl, Or.inr rfl, Or.inr rfl, Or.inr
      rfl, Or.inr rfl, Or.inr rfl, Or.inr rfl, Or.inr rfl, Or.inr rfl, Or.inr rfl, Or.inr rfl, Or.inr rfl, Or.inr
      rfl, Or.inl rfl, Or.inr rfl, Or.inr rfl, Or.inr rfl, Or.inr rfl, Or.inr rfl, Or.inr rfl, Or.inr rfl, Or.inr
      rfl, Or.inr rfl, Or.inr rfl, Or.inr rfl, Or.inr rfl, Or.inr rfl, Or.inr rfl, Or.inr rfl, Or.inr rfl, Or.inr
      rfl, Or.inr rfl, Or.inr rfl, Nat.le_refl _, trivial, fun w => w, fun w => w, fun w => w, fun w => w, fun w =>
      w, fun w => w, fun w => w, fun w => w, fun w => w, fun w => w, fun w => w, fun w => w, fun w => w⟩
    exact Keeps.refl _ _
  · exact Keeps.refl _ _

theorem execI3cWrite_keeps {off : Sys2Proof.Word} {v : Sys2Proof.Word} {s : Sys2Proof.Machine.State} : ResKeeps
    tgtNext 79228162495817646244852924415 s (execI3cWrite off v s) := by
  unfold execI3cWrite
  refine ResKeeps.some rfl ?_
  refine Keeps.ite ?_ ?_
  · refine Keeps.step ?_ State.barWrite_keeps rfl
    exact Keeps.refl _ _
  · exact Keeps.refl _ _

theorem execI3cRead_keeps {s : Sys2Proof.Machine.State} : ResKeeps tgtNext 79228162495817593546678026242 s
    (execI3cRead s) := by
  unfold execI3cRead
  refine ResKeeps.some rfl ?_
  refine Keeps.ite ?_ ?_
  · refine Keeps.step ?_ State.barRead_keeps rfl
    exact Keeps.refl _ _
  · exact Keeps.refl _ _

end Sys2Proof.Machine
end

