-- ==== Sys2Proof/Laws/FrameBrewer.lean ====
section
/-! SUPPORT. What each function of Machine/Brewer.lean may change: one mask of `Keeps` for each. -/

namespace Sys2Proof.Machine

open Reg

/-- The state that a Brewer's access leaves. -/
def tgtBAcc : BAcc → Option State
  | .val _ t => some t
  | .fault t => some t
  | .wait => none

/-- The state that a Brewer's instruction leaves. -/
def tgtBOut : BOut → Option State
  | .go t _ _ => some t
  | .trap t _ _ => some t
  | .debug t => some t
  | .stall t => some t
  | .wait => none

theorem State.bwSecded_keeps {s : State} {m : Nat} {e : Secded} : ResKeeps tgtSnd 2417851639229260496896002 s
    (State.bwSecded s m e) := by
  have h : Keeps 2417851639229260496896002 s ((s.wr (pBw m) BW_STAT_UE 1).pagePairs (pBw m)) :=
    Keeps.step (Keeps.step (Keeps.refl _ _) State.wr_keeps (kb_k 2417851639229258349412352 rfl rfl))
        State.pagePairs_keeps rfl
  cases e with
  | ok => exact ResKeeps.some rfl (Keeps.refl _ _)
  | corrected =>
    refine ResKeeps.some rfl ?_
    exact (Keeps.step (Keeps.refl _ _) State.satAdd_keeps (kb_k 2417851639229258349412352 rfl rfl))
  | bad => exact ResKeeps.some rfl h

theorem State.putTimers_keeps {s : Sys2Proof.Machine.State} {n : Nat} {off : Nat} {len : Nat} {v : Nat} : Keeps
    8388608 s (State.putTimers s n off len v) := by
  unfold State.putTimers
  refine Keeps.step ?_ State.modCore_keeps rfl
  exact Keeps.refl _ _

theorem State.bwLoad_keeps {s : Sys2Proof.Machine.State} {n : Nat} {a : Nat} {len : Nat} {user : Bool} {x :
    Sys2Proof.BrewerExt} : ResKeeps tgtBAcc 79228162495817602344918532098 s (State.bwLoad s n a len user x) := by
  unfold State.bwLoad
  split
  · refine ResKeeps.ite ?_ ?_
    · refine ResKeeps.some rfl ?_
      refine Keeps.ofRes (tgt := tgtSnd) ?_ rfl rfl
      refine ResKeeps.step ?_ State.bwSecded_keeps rfl
      exact Keeps.refl _ _
    · refine ResKeeps.some rfl ?_
      refine Keeps.ofRes (tgt := tgtSnd) ?_ rfl rfl
      refine ResKeeps.step ?_ State.bwSecded_keeps rfl
      exact Keeps.refl _ _
  · refine ResKeeps.ite ?_ ?_
    · refine ResKeeps.some rfl ?_
      exact Keeps.refl _ _
    · refine ResKeeps.ite ?_ ?_
      · refine ResKeeps.some rfl ?_
        exact Keeps.refl _ _
      · refine ResKeeps.ite ?_ ?_
        · refine ResKeeps.some rfl ?_
          exact Keeps.refl _ _
        · refine ResKeeps.ite ?_ ?_
          · refine ResKeeps.ite ?_ ?_
            · refine ResKeeps.some rfl ?_
              exact Keeps.refl _ _
            · refine ResKeeps.some rfl ?_
              refine Keeps.step ?_ State.regRead_keeps rfl
              exact Keeps.refl _ _
          · refine ResKeeps.ite ?_ ?_
            · refine ResKeeps.ite ?_ ?_
              · refine ResKeeps.some rfl ?_
                refine Keeps.ofRes (tgt := tgtSnd) ?_ rfl rfl
                refine ResKeeps.step ?_ State.ddrRead_keeps rfl
                exact Keeps.refl _ _
              · refine ResKeeps.some rfl ?_
                refine Keeps.ofRes (tgt := tgtSnd) ?_ rfl rfl
                refine ResKeeps.step ?_ State.ddrRead_keeps rfl
                exact Keeps.refl _ _
            · refine ResKeeps.ite ?_ ?_
              · refine ResKeeps.ite ?_ ?_
                · refine ResKeeps.some rfl ?_
                  exact Keeps.refl _ _
                · refine ResKeeps.ite ?_ ?_
                  · exact ResKeeps.none rfl
                  · refine ResKeeps.some rfl ?_
                    exact Keeps.refl _ _
              · refine ResKeeps.some rfl ?_
                exact Keeps.refl _ _

theorem State.bwStore_keeps {s : Sys2Proof.Machine.State} {n : Nat} {a : Nat} {len : Nat} {v : Nat} {user :
    Bool} {x : Sys2Proof.BrewerExt} : ResKeeps tgtBAcc 79228162495817716613597102079 s
    (State.bwStore s n a len v user x) := by
  unfold State.bwStore
  split
  · refine ResKeeps.ite ?_ ?_
    · refine ResKeeps.some rfl ?_
      refine Keeps.step ?_ State.bwPut_keeps rfl
      refine Keeps.ofRes (tgt := tgtSnd) ?_ rfl rfl
      refine ResKeeps.ite ?_ ?_
      · refine ResKeeps.some rfl ?_
        exact Keeps.refl _ _
      · refine ResKeeps.step ?_ State.bwSecded_keeps rfl
        exact Keeps.refl _ _
    · refine ResKeeps.some rfl ?_
      refine Keeps.ofRes (tgt := tgtSnd) ?_ rfl rfl
      refine ResKeeps.ite ?_ ?_
      · refine ResKeeps.some rfl ?_
        exact Keeps.refl _ _
      · refine ResKeeps.step ?_ State.bwSecded_keeps rfl
        exact Keeps.refl _ _
  · refine ResKeeps.ite ?_ ?_
    · refine ResKeeps.some rfl ?_
      refine Keeps.step ?_ State.putTimers_keeps rfl
      exact Keeps.refl _ _
    · refine ResKeeps.ite ?_ ?_
      · refine ResKeeps.some rfl ?_
        refine Keeps.step ?_ State.bar2Write_keeps rfl
        exact Keeps.refl _ _
      · refine ResKeeps.ite ?_ ?_
        · refine ResKeeps.ite ?_ ?_
          · refine ResKeeps.some rfl ?_
            exact Keeps.refl _ _
          · refine ResKeeps.some rfl ?_
            refine Keeps.step ?_ State.regWrite_keeps rfl
            exact Keeps.refl _ _
        · refine ResKeeps.ite ?_ ?_
          · refine ResKeeps.ite ?_ ?_
            · refine ResKeeps.some rfl ?_
              refine Keeps.ofRes (tgt := tgtSnd) ?_ rfl rfl
              refine ResKeeps.step ?_ State.ddrWrite_keeps rfl
              exact Keeps.refl _ _
            · refine ResKeeps.some rfl ?_
              refine Keeps.ofRes (tgt := tgtSnd) ?_ rfl rfl
              refine ResKeeps.step ?_ State.ddrWrite_keeps rfl
              exact Keeps.refl _ _
          · refine ResKeeps.ite ?_ ?_
            · refine ResKeeps.ite ?_ ?_
              · exact ResKeeps.none rfl
              · refine ResKeeps.some rfl ?_
                refine Keeps.step ?_ State.hostWrite_keeps rfl
                exact Keeps.refl _ _
            · refine ResKeeps.some rfl ?_
              exact Keeps.refl _ _

theorem State.csrPutCount_keeps {s : Sys2Proof.Machine.State} {n : Nat} {j : Nat} {hi : Bool} {v : Nat} : Keeps
    37778931862957161775106 s (State.csrPutCount s n j hi v) := by
  unfold State.csrPutCount
  refine Keeps.step ?_ State.putCounter_keeps rfl
  exact Keeps.refl _ _

theorem State.csrPut_keeps {s : Sys2Proof.Machine.State} {n : Nat} {r : Nat} {v : Nat} : Keeps
    37778931862957170163714 s (State.csrPut s n r v) := by
  unfold State.csrPut
  split
  · refine Keeps.step ?_ State.csrPutCount_keeps rfl
    exact Keeps.refl _ _
  · refine Keeps.step ?_ State.modCore_keeps rfl
    exact Keeps.refl _ _

theorem State.bwClocks_keeps {s : Sys2Proof.Machine.State} {n : Nat} {k : Nat} {d : Nat} : Keeps
    37778931862957170163714 s (State.bwClocks s n k d) := by
  unfold State.bwClocks
  refine Keeps.ite ?_ ?_
  · exact Keeps.refl _ _
  · refine Keeps.step ?_ State.modCore_keeps rfl
    refine Keeps.step ?_ State.count_keeps rfl
    refine Keeps.step ?_ State.count_keeps rfl
    exact Keeps.refl _ _

theorem State.bwRetire_keeps {s : Sys2Proof.Machine.State} {n : Nat} {skip : Option Nat} : Keeps
    37778931862957170163715 s (State.bwRetire s n skip) := by
  unfold State.bwRetire
  refine Keeps.step ?_ State.advanceTo_keeps rfl
  refine Keeps.step ?_ State.modCore_keeps rfl
  refine Keeps.ite ?_ ?_
  · refine Keeps.ite ?_ ?_
    · exact Keeps.refl _ _
    · refine Keeps.step ?_ State.count_keeps rfl
      exact Keeps.refl _ _
  · refine Keeps.step ?_ State.count_keeps rfl
    refine Keeps.ite ?_ ?_
    · exact Keeps.refl _ _
    · refine Keeps.step ?_ State.count_keeps rfl
      exact Keeps.refl _ _

theorem State.bwTrap_keeps {s : Sys2Proof.Machine.State} {n : Nat} {cause : Nat} {tval : Nat} : Keeps 8388608 s
    (State.bwTrap s n cause tval) := by
  unfold State.bwTrap
  refine Keeps.step ?_ State.modCore_keeps rfl
  exact Keeps.refl _ _

theorem State.bwDebug_keeps {s : Sys2Proof.Machine.State} {n : Nat} {cause : Nat} : Keeps 8421376 s
    (State.bwDebug s n cause) := by
  unfold State.bwDebug
  refine Keeps.step ?_ State.modCore_keeps rfl
  refine Keeps.step ?_ State.loadRun_keeps rfl
  exact Keeps.refl _ _

theorem State.setX_keeps {s : Sys2Proof.Machine.State} {n : Nat} {i : Nat} {v : Nat} : Keeps 8388608 s
    (State.setX s n i v) := by
  unfold State.setX
  refine Keeps.step ?_ State.modCore_keeps rfl
  exact Keeps.refl _ _

theorem State.doLoad_keeps {s : Sys2Proof.Machine.State} {n : Nat} {f3 : Nat} {rd : Nat} {a : Nat} {next : Nat}
    {x : Sys2Proof.BrewerExt} : ResKeeps tgtBOut 79228162495817602344926920706 s (State.doLoad s n f3 rd a next x)
    := by
  unfold State.doLoad
  refine ResKeeps.ite ?_ ?_
  · refine ResKeeps.some rfl ?_
    exact Keeps.refl _ _
  · refine ResKeeps.ite ?_ ?_
    · refine ResKeeps.some rfl ?_
      exact Keeps.refl _ _
    · split
      · rename_i h6_0
        refine ResKeeps.some rfl ?_
        refine Keeps.step ?_ State.setX_keeps rfl
        refine Keeps.ofRes (tgt := tgtBAcc) ?_ h6_0 rfl
        refine ResKeeps.step ?_ State.bwLoad_keeps rfl
        exact Keeps.refl _ _
      · rename_i h6_1
        refine ResKeeps.some rfl ?_
        refine Keeps.ofRes (tgt := tgtBAcc) ?_ h6_1 rfl
        refine ResKeeps.step ?_ State.bwLoad_keeps rfl
        exact Keeps.refl _ _
      · exact ResKeeps.none rfl

theorem State.doStore_keeps {s : Sys2Proof.Machine.State} {n : Nat} {f3 : Nat} {v : Nat} {a : Nat} {next : Nat}
    {x : Sys2Proof.BrewerExt} : ResKeeps tgtBOut 79228162495817716613597102079 s (State.doStore s n f3 v a next x)
    := by
  unfold State.doStore
  refine ResKeeps.ite ?_ ?_
  · refine ResKeeps.some rfl ?_
    exact Keeps.refl _ _
  · refine ResKeeps.ite ?_ ?_
    · refine ResKeeps.some rfl ?_
      exact Keeps.refl _ _
    · split
      · rename_i h6_0
        refine ResKeeps.some rfl ?_
        refine Keeps.ofRes (tgt := tgtBAcc) ?_ h6_0 rfl
        refine ResKeeps.step ?_ State.bwStore_keeps rfl
        exact Keeps.refl _ _
      · rename_i h6_1
        refine ResKeeps.some rfl ?_
        refine Keeps.ofRes (tgt := tgtBAcc) ?_ h6_1 rfl
        refine ResKeeps.step ?_ State.bwStore_keeps rfl
        exact Keeps.refl _ _
      · exact ResKeeps.none rfl

theorem State.doAmo_keeps {s : Sys2Proof.Machine.State} {n : Nat} {f5 : Nat} {rd : Nat} {a : Nat} {v : Nat}
    {next : Nat} {x : Sys2Proof.BrewerExt} : ResKeeps tgtBOut 2417851639233658551795714 s
    (State.doAmo s n f5 rd a v next x) := by
  unfold State.doAmo
  refine ResKeeps.ite ?_ ?_
  · refine ResKeeps.some rfl ?_
    exact Keeps.refl _ _
  · split
    · refine ResKeeps.some rfl ?_
      exact Keeps.refl _ _
    · refine ResKeeps.ite ?_ ?_
      · refine ResKeeps.some rfl ?_
        exact Keeps.refl _ _
      · refine ResKeeps.ite ?_ ?_
        · refine ResKeeps.ite ?_ ?_
          · refine ResKeeps.some rfl ?_
            refine Keeps.step ?_ State.setX_keeps rfl
            refine Keeps.step ?_ State.bwPut_keeps rfl
            refine Keeps.step ?_ State.modCore_keeps rfl
            exact Keeps.refl _ _
          · refine ResKeeps.some rfl ?_
            refine Keeps.step ?_ State.setX_keeps rfl
            refine Keeps.step ?_ State.modCore_keeps rfl
            exact Keeps.refl _ _
        · refine ResKeeps.ite ?_ ?_
          · refine ResKeeps.some rfl ?_
            refine Keeps.ofRes (tgt := tgtSnd) ?_ rfl rfl
            refine ResKeeps.step ?_ State.bwSecded_keeps rfl
            exact Keeps.refl _ _
          · refine ResKeeps.ite ?_ ?_
            · refine ResKeeps.some rfl ?_
              refine Keeps.step ?_ State.modCore_keeps rfl
              refine Keeps.step ?_ State.setX_keeps rfl
              refine Keeps.ofRes (tgt := tgtSnd) ?_ rfl rfl
              refine ResKeeps.step ?_ State.bwSecded_keeps rfl
              exact Keeps.refl _ _
            · refine ResKeeps.some rfl ?_
              refine Keeps.step ?_ State.setX_keeps rfl
              refine Keeps.step ?_ State.bwPut_keeps rfl
              refine Keeps.ofRes (tgt := tgtSnd) ?_ rfl rfl
              refine ResKeeps.step ?_ State.bwSecded_keeps rfl
              exact Keeps.refl _ _

theorem State.doTake_keeps {s : Sys2Proof.Machine.State} {n : Nat} {rd : Nat} {next : Nat} : ResKeeps tgtBOut
    2417851639229258357833731 s (State.doTake s n rd next) := by
  unfold State.doTake
  refine ResKeeps.ite ?_ ?_
  · refine ResKeeps.some rfl ?_
    refine Keeps.step ?_ State.setX_keeps rfl
    exact Keeps.refl _ _
  · refine ResKeeps.some rfl ?_
    refine Keeps.step ?_ State.loadRun_keeps rfl
    refine Keeps.step ?_ State.wr_keeps (kb_k 2417851639229258349412352 rfl rfl)
    refine Keeps.mkUpd ?_ ⟨Or.inr rfl, rfl, Or.inr rfl, Or.inr rfl, Or.inr rfl, Or.inr rfl, Or.inr rfl, Or.inr
        rfl, Or.inr rfl, Or.inr rfl, Or.inr rfl, Or.inr rfl, Or.inr rfl, Or.inr rfl, Or.inr rfl, Or.inl rfl, Or.inr
        rfl, Or.inr rfl, Or.inr rfl, Or.inr rfl, Or.inr rfl, Or.inr rfl, Or.inr rfl, Or.inr rfl, Or.inr rfl, Or.inr
        rfl, Or.inr rfl, Or.inr rfl, Or.inr rfl, Or.inr rfl, Or.inr rfl, Or.inr rfl, Or.inr rfl, Or.inr rfl, Or.inr
        rfl, Or.inr rfl, Or.inr rfl, Or.inr rfl, Or.inr rfl, Or.inr rfl, Or.inr rfl, Or.inr rfl, Or.inr rfl, Or.inr
        rfl, Or.inr rfl, Or.inr rfl, Nat.le_refl _, trivial, fun w => w, fun w => w, fun w => w, fun w => w, fun w
        => w, fun w => w, fun w => w, fun w => w, fun w => w, fun w => w, fun w => w, fun w => w, fun w => w⟩
    refine Keeps.step ?_ State.modCore_keeps rfl
    refine Keeps.step ?_ State.advanceTo_keeps rfl
    exact Keeps.refl _ _

theorem State.doTry_keeps {s : Sys2Proof.Machine.State} {n : Nat} {rd : Nat} {next : Nat} : ResKeeps tgtBOut
    113336795593269540126722 s (State.doTry s n rd next) := by
  unfold State.doTry
  split
  · refine ResKeeps.some rfl ?_
    refine Keeps.step ?_ State.setX_keeps rfl
    refine Keeps.step ?_ State.giveItem_keeps rfl
    exact Keeps.refl _ _
  · refine ResKeeps.some rfl ?_
    refine Keeps.step ?_ State.setX_keeps rfl
    exact Keeps.refl _ _

theorem State.doSub_keeps {s : Sys2Proof.Machine.State} {n : Nat} {rd : Nat} {a : Nat} {next : Nat} : ResKeeps
    tgtBOut 113336795588871493615618 s (State.doSub s n rd a next) := by
  unfold State.doSub
  refine ResKeeps.ite ?_ ?_
  · refine ResKeeps.some rfl ?_
    refine Keeps.step ?_ State.setX_keeps rfl
    exact Keeps.refl _ _
  · refine ResKeeps.ite ?_ ?_
    · refine ResKeeps.some rfl ?_
      refine Keeps.step ?_ State.setX_keeps rfl
      exact Keeps.refl _ _
    · refine ResKeeps.some rfl ?_
      refine Keeps.step ?_ State.setX_keeps rfl
      refine Keeps.ofRes (tgt := tgtSnd) ?_ rfl rfl
      refine ResKeeps.step ?_ State.submit_keeps rfl
      exact Keeps.refl _ _

theorem State.doBarista_keeps {s : Sys2Proof.Machine.State} {n : Nat} {f3 : Nat} {rd : Nat} {r : Nat} {rs1 :
    Nat} {src : Nat} {ill : Nat} {next : Nat} : ResKeeps tgtBOut 2531188434822527889539075 s
    (State.doBarista s n f3 rd r rs1 src ill next) := by
  unfold State.doBarista
  refine ResKeeps.ite ?_ ?_
  · refine ResKeeps.some rfl ?_
    exact Keeps.refl _ _
  · refine ResKeeps.ite ?_ ?_
    · refine ResKeeps.ite ?_ ?_
      · refine ResKeeps.some rfl ?_
        exact Keeps.refl _ _
      · refine ResKeeps.step ?_ State.doTake_keeps rfl
        exact Keeps.refl _ _
    · refine ResKeeps.ite ?_ ?_
      · refine ResKeeps.ite ?_ ?_
        · refine ResKeeps.some rfl ?_
          exact Keeps.refl _ _
        · refine ResKeeps.step ?_ State.doTry_keeps rfl
          exact Keeps.refl _ _
      · refine ResKeeps.ite ?_ ?_
        · refine ResKeeps.ite ?_ ?_
          · refine ResKeeps.some rfl ?_
            exact Keeps.refl _ _
          · refine ResKeeps.some rfl ?_
            refine Keeps.ite ?_ ?_
            · refine Keeps.step ?_ State.brstDone_keeps rfl
              exact Keeps.refl _ _
            · exact Keeps.refl _ _
        · refine ResKeeps.ite ?_ ?_
          · refine ResKeeps.some rfl ?_
            exact Keeps.refl _ _
          · refine ResKeeps.ite ?_ ?_
            · refine ResKeeps.step ?_ State.doSub_keeps rfl
              exact Keeps.refl _ _
            · refine ResKeeps.some rfl ?_
              refine Keeps.step ?_ State.setX_keeps rfl
              refine Keeps.ofRes (tgt := tgtSnd) ?_ rfl rfl
              refine ResKeeps.step ?_ State.cancel_keeps rfl
              exact Keeps.refl _ _

theorem State.doCsr_keeps {s : Sys2Proof.Machine.State} {n : Nat} {f3 : Nat} {rd : Nat} {r : Nat} {rs1 : Nat}
    {ill : Nat} {next : Nat} : ResKeeps tgtBOut 2531188434822527889539075 s (State.doCsr s n f3 rd r rs1 ill next)
    := by
  unfold State.doCsr
  refine ResKeeps.ite ?_ ?_
  · refine ResKeeps.step ?_ State.doBarista_keeps rfl
    exact Keeps.refl _ _
  · try extract_lets
    split
    · refine ResKeeps.some rfl ?_
      exact Keeps.refl _ _
    · refine ResKeeps.ite ?_ ?_
      · refine ResKeeps.some rfl ?_
        exact Keeps.refl _ _
      · refine ResKeeps.some rfl ?_
        refine Keeps.step ?_ State.setX_keeps rfl
        refine Keeps.ite ?_ ?_
        · refine Keeps.step ?_ State.csrPut_keeps rfl
          exact Keeps.refl _ _
        · exact Keeps.refl _ _

theorem State.bwExec_keeps {s : Sys2Proof.Machine.State} {n : Nat} {o : Sys2Proof.Machine.RvOp} {len : Nat} {ill
    : Nat} {x : Sys2Proof.BrewerExt} : ResKeeps tgtBOut 79228162495817716630776971263 s
    (State.bwExec s n o len ill x) := by
  unfold State.bwExec
  try extract_lets
  split
  · refine ResKeeps.some rfl ?_
    refine Keeps.step ?_ State.setX_keeps rfl
    exact Keeps.refl _ _
  · refine ResKeeps.some rfl ?_
    refine Keeps.step ?_ State.setX_keeps rfl
    exact Keeps.refl _ _
  · refine ResKeeps.some rfl ?_
    refine Keeps.step ?_ State.setX_keeps rfl
    exact Keeps.refl _ _
  · refine ResKeeps.some rfl ?_
    refine Keeps.step ?_ State.setX_keeps rfl
    exact Keeps.refl _ _
  · refine ResKeeps.some rfl ?_
    exact Keeps.refl _ _
  · refine ResKeeps.step ?_ State.doLoad_keeps rfl
    exact Keeps.refl _ _
  · refine ResKeeps.step ?_ State.doStore_keeps rfl
    exact Keeps.refl _ _
  · refine ResKeeps.some rfl ?_
    refine Keeps.step ?_ State.setX_keeps rfl
    exact Keeps.refl _ _
  · refine ResKeeps.some rfl ?_
    refine Keeps.step ?_ State.setX_keeps rfl
    exact Keeps.refl _ _
  · refine ResKeeps.some rfl ?_
    refine Keeps.step ?_ State.setX_keeps rfl
    exact Keeps.refl _ _
  · refine ResKeeps.step ?_ State.doAmo_keeps rfl
    exact Keeps.refl _ _
  · refine ResKeeps.step ?_ State.doAmo_keeps rfl
    exact Keeps.refl _ _
  · refine ResKeeps.step ?_ State.doAmo_keeps rfl
    exact Keeps.refl _ _
  · refine ResKeeps.some rfl ?_
    exact Keeps.refl _ _
  · refine ResKeeps.some rfl ?_
    exact Keeps.refl _ _
  · refine ResKeeps.ite ?_ ?_
    · refine ResKeeps.some rfl ?_
      exact Keeps.refl _ _
    · refine ResKeeps.some rfl ?_
      exact Keeps.refl _ _
  · refine ResKeeps.ite ?_ ?_
    · refine ResKeeps.some rfl ?_
      exact Keeps.refl _ _
    · refine ResKeeps.some rfl ?_
      refine Keeps.step ?_ State.modCore_keeps rfl
      exact Keeps.refl _ _
  · refine ResKeeps.ite ?_ ?_
    · refine ResKeeps.some rfl ?_
      exact Keeps.refl _ _
    · refine ResKeeps.ite ?_ ?_
      · refine ResKeeps.some rfl ?_
        exact Keeps.refl _ _
      · refine ResKeeps.some rfl ?_
        refine Keeps.step ?_ State.modCore_keeps rfl
        exact Keeps.refl _ _
  · refine ResKeeps.step ?_ State.doCsr_keeps rfl
    exact Keeps.refl _ _
  · refine ResKeeps.some rfl ?_
    exact Keeps.refl _ _

theorem State.bwFetchExec_keeps {s : Sys2Proof.Machine.State} {n : Nat} {x : Sys2Proof.BrewerExt} : ResKeeps
    tgtBOut 79228162495817716630776971263 s (State.bwFetchExec s n x) := by
  unfold State.bwFetchExec
  refine ResKeeps.ite ?_ ?_
  · refine ResKeeps.some rfl ?_
    exact Keeps.refl _ _
  · refine ResKeeps.ite ?_ ?_
    · refine ResKeeps.some rfl ?_
      refine Keeps.ofRes (tgt := tgtSnd) ?_ rfl rfl
      refine ResKeeps.step ?_ State.bwSecded_keeps rfl
      exact Keeps.refl _ _
    · refine ResKeeps.ite ?_ ?_
      · refine ResKeeps.step ?_ State.bwExec_keeps rfl
        refine Keeps.ofRes (tgt := tgtSnd) ?_ rfl rfl
        refine ResKeeps.step ?_ State.bwSecded_keeps rfl
        exact Keeps.refl _ _
      · refine ResKeeps.ite ?_ ?_
        · refine ResKeeps.some rfl ?_
          exact Keeps.refl _ _
        · refine ResKeeps.step ?_ State.bwExec_keeps rfl
          refine Keeps.ofRes (tgt := tgtSnd) ?_ rfl rfl
          refine ResKeeps.step ?_ State.bwSecded_keeps rfl
          exact Keeps.refl _ _

theorem State.bwStepped_keeps {s : Sys2Proof.Machine.State} {n : Nat} : Keeps 8421376 s (State.bwStepped s n) := by
  unfold State.bwStepped
  refine Keeps.ite ?_ ?_
  · exact Keeps.refl _ _
  · refine Keeps.ite ?_ ?_
    · refine Keeps.step ?_ State.bwDebug_keeps rfl
      exact Keeps.refl _ _
    · refine Keeps.step ?_ State.modCore_keeps rfl
      exact Keeps.refl _ _

theorem State.bwFinish_keeps {m : Nat} {s x : State} {n : Nat} {b : BOut} (h : Keeps m s x)
    (hb : ResKeeps tgtBOut m s b)
    (hm : 37778931862957170196483 ||| m = m) : Keeps m s (State.bwFinish x n b) := by
  cases b with
  | go t pc skip =>
    have ht : Keeps m s t := hb t rfl
    refine Keeps.ite ?_ ht
    exact ((ht.step State.modCore_keeps (or_trans rfl hm)).step State.bwRetire_keeps (or_trans rfl hm)).step
      State.bwStepped_keeps (or_trans rfl hm)
  | trap t cause tval =>
    exact ((hb t rfl).step State.bwTrap_keeps (or_trans rfl hm)).step State.bwStepped_keeps (or_trans rfl hm)
  | debug t => exact (hb t rfl).step State.bwDebug_keeps (or_trans rfl hm)
  | stall t => exact (hb t rfl).step State.bwStepped_keeps (or_trans rfl hm)
  | wait => exact h

theorem State.bwStep_keeps {s : Sys2Proof.Machine.State} {n : Nat} {x : Sys2Proof.BrewerExt} : Keeps
    79228162495817716630776971263 s (State.bwStep s n x) := by
  unfold State.bwStep
  refine Keeps.ite ?_ ?_
  · exact Keeps.refl _ _
  · refine Keeps.ite ?_ ?_
    · refine Keeps.step ?_ State.bwDebug_keeps rfl
      exact Keeps.refl _ _
    · split
      · refine Keeps.step ?_ State.bwStepped_keeps rfl
        refine Keeps.step ?_ State.bwTrap_keeps rfl
        exact Keeps.refl _ _
      · next s1 =>
        have h1 : Keeps 79228162495817716630776971263 s
            (((s.bwClocks n 1 x.wasted).bwClocks n 2 x.front).bwClocks n 3 x.back) :=
          (((Keeps.refl _ _).step State.bwClocks_keeps rfl).step State.bwClocks_keeps rfl).step State.bwClocks_keeps rfl
        dsimp only
        split
        · exact Keeps.refl _ _
        · exact State.bwFinish_keeps h1 (ResKeeps.step h1 State.bwFetchExec_keeps rfl) rfl

theorem execBrewerInstruction_keeps {n : Fin 16} {x : Sys2Proof.BrewerExt} {s : Sys2Proof.Machine.State} :
    ResKeeps tgtNext 79228162495817716630776971263 s (execBrewerInstruction n x s) := by
  unfold execBrewerInstruction
  refine ResKeeps.some rfl ?_
  refine Keeps.step ?_ State.bwStep_keeps rfl
  exact Keeps.refl _ _

theorem execBaristaTake_keeps {n : Fin 16} {x : Sys2Proof.BrewerExt} {s : Sys2Proof.Machine.State} : ResKeeps
    tgtNext 79228162495817716630776971263 s (execBaristaTake n x s) := by
  unfold execBaristaTake
  refine ResKeeps.some rfl ?_
  refine Keeps.ite ?_ ?_
  · refine Keeps.step ?_ State.bwStep_keeps rfl
    exact Keeps.refl _ _
  · exact Keeps.refl _ _

theorem execBaristaTry_keeps {n : Fin 16} {x : Sys2Proof.BrewerExt} {s : Sys2Proof.Machine.State} : ResKeeps
    tgtNext 79228162495817716630776971263 s (execBaristaTry n x s) := by
  unfold execBaristaTry
  refine ResKeeps.some rfl ?_
  refine Keeps.ite ?_ ?_
  · refine Keeps.step ?_ State.bwStep_keeps rfl
    exact Keeps.refl _ _
  · exact Keeps.refl _ _

theorem execBaristaDone_keeps {n : Fin 16} {x : Sys2Proof.BrewerExt} {s : Sys2Proof.Machine.State} : ResKeeps
    tgtNext 79228162495817716630776971263 s (execBaristaDone n x s) := by
  unfold execBaristaDone
  refine ResKeeps.some rfl ?_
  refine Keeps.ite ?_ ?_
  · refine Keeps.step ?_ State.bwStep_keeps rfl
    exact Keeps.refl _ _
  · exact Keeps.refl _ _

theorem execBaristaSub_keeps {n : Fin 16} {x : Sys2Proof.BrewerExt} {s : Sys2Proof.Machine.State} : ResKeeps
    tgtNext 79228162495817716630776971263 s (execBaristaSub n x s) := by
  unfold execBaristaSub
  refine ResKeeps.some rfl ?_
  refine Keeps.ite ?_ ?_
  · refine Keeps.step ?_ State.bwStep_keeps rfl
    exact Keeps.refl _ _
  · exact Keeps.refl _ _

theorem execBaristaCancel_keeps {n : Fin 16} {x : Sys2Proof.BrewerExt} {s : Sys2Proof.Machine.State} : ResKeeps
    tgtNext 79228162495817716630776971263 s (execBaristaCancel n x s) := by
  unfold execBaristaCancel
  refine ResKeeps.some rfl ?_
  refine Keeps.ite ?_ ?_
  · refine Keeps.step ?_ State.bwStep_keeps rfl
    exact Keeps.refl _ _
  · exact Keeps.refl _ _

theorem State.bwResume_keeps {s : Sys2Proof.Machine.State} {n : Nat} : Keeps 37778931862957170196482 s
    (State.bwResume s n) := by
  unfold State.bwResume
  refine Keeps.step ?_ State.loadRun_keeps rfl
  refine Keeps.step ?_ State.modCore_keeps rfl
  refine Keeps.step ?_ State.bwClocks_keeps rfl
  exact Keeps.refl _ _

theorem State.dmWrite_keeps {s : Sys2Proof.Machine.State} {n : Nat} {r : Nat} {v : Nat} : Keeps
    37778931862957170163714 s (State.dmWrite s n r v) := by
  unfold State.dmWrite
  refine Keeps.ite ?_ ?_
  · refine Keeps.step ?_ State.setX_keeps rfl
    exact Keeps.refl _ _
  · refine Keeps.ite ?_ ?_
    · refine Keeps.step ?_ State.modCore_keeps rfl
      exact Keeps.refl _ _
    · refine Keeps.ite ?_ ?_
      · refine Keeps.step ?_ State.modCore_keeps rfl
        exact Keeps.refl _ _
      · refine Keeps.ite ?_ ?_
        · refine Keeps.step ?_ State.csrPut_keeps rfl
          exact Keeps.refl _ _
        · exact Keeps.refl _ _

theorem State.dmStep_keeps {s : Sys2Proof.Machine.State} {n : Nat} {x : Sys2Proof.BrewerExt} : Keeps
    79228162495817716630776971263 s (State.dmStep s n x) := by
  unfold State.dmStep
  refine Keeps.ite ?_ ?_
  · refine Keeps.step ?_ State.bwStep_keeps rfl
    refine Keeps.step ?_ State.bwResume_keeps rfl
    exact Keeps.refl _ _
  · refine Keeps.ite ?_ ?_
    · refine Keeps.step ?_ State.bwDebug_keeps rfl
      refine Keeps.step ?_ State.bwStep_keeps rfl
      refine Keeps.step ?_ State.bwResume_keeps rfl
      exact Keeps.refl _ _
    · refine Keeps.step ?_ State.modCore_keeps rfl
      refine Keeps.step ?_ State.bwStep_keeps rfl
      refine Keeps.step ?_ State.bwResume_keeps rfl
      exact Keeps.refl _ _

theorem execDebugModuleRequest_keeps {n : Fin 16} {q : Sys2Proof.DmRequest} {s : Sys2Proof.Machine.State} :
    ResKeeps tgtNext 79228162495817716630776971263 s (execDebugModuleRequest n q s) := by
  unfold execDebugModuleRequest
  refine ResKeeps.some rfl ?_
  refine Keeps.ite ?_ ?_
  · exact Keeps.refl _ _
  · split
    · refine Keeps.ite ?_ ?_
      · exact Keeps.refl _ _
      · split
        · refine Keeps.step ?_ State.modCore_keeps rfl
          exact Keeps.refl _ _
        · refine Keeps.step ?_ State.bwDebug_keeps rfl
          refine Keeps.step ?_ State.modCore_keeps rfl
          exact Keeps.refl _ _
    · refine Keeps.ite ?_ ?_
      · refine Keeps.step ?_ State.bwResume_keeps rfl
        exact Keeps.refl _ _
      · exact Keeps.refl _ _
    · refine Keeps.ite ?_ ?_
      · refine Keeps.step ?_ State.dmStep_keeps rfl
        exact Keeps.refl _ _
      · exact Keeps.refl _ _
    · refine Keeps.ite ?_ ?_
      · refine Keeps.mkUpd ?_ ⟨Or.inr rfl, rfl, Or.inr rfl, Or.inr rfl, Or.inr rfl, Or.inr rfl, Or.inr rfl,
          Or.inr rfl, Or.inr rfl, Or.inr rfl, Or.inr rfl, Or.inr rfl, Or.inr rfl, Or.inr rfl, Or.inr rfl, Or.inr
          rfl, Or.inr rfl, Or.inr rfl, Or.inr rfl, Or.inr rfl, Or.inr rfl, Or.inr rfl, Or.inr rfl, Or.inr rfl,
          Or.inr rfl, Or.inr rfl, Or.inr rfl, Or.inr rfl, Or.inr rfl, Or.inr rfl, Or.inr rfl, Or.inr rfl, Or.inr
          rfl, Or.inr rfl, Or.inl rfl, Or.inr rfl, Or.inr rfl, Or.inr rfl, Or.inr rfl, Or.inr rfl, Or.inr rfl,
          Or.inr rfl, Or.inr rfl, Or.inr rfl, Or.inr rfl, Or.inr rfl, Nat.le_refl _, trivial, fun w => w, fun w =>
          w, fun w => w, fun w => w, fun w => w, fun w => w, fun w => w, fun w => w, fun w => w, fun w => w, fun w
          => w, fun w => w, fun w => w⟩
        exact Keeps.refl _ _
      · exact Keeps.refl _ _
    · refine Keeps.ite ?_ ?_
      · refine Keeps.step ?_ State.dmWrite_keeps rfl
        exact Keeps.refl _ _
      · exact Keeps.refl _ _

end Sys2Proof.Machine
end

