-- ==== Sys2Proof/Laws/FrameHostCommands.lean ====
section
/-! SUPPORT. What each function of Machine/HostCommands.lean may change: one mask of `Keeps` for each. -/

namespace Sys2Proof.Machine

open Reg

theorem State.hostReset_keeps {s : State} : Keeps 604462909807314855788546 s (State.hostReset s) := by
  unfold State.hostReset
  refine Keeps.step ?_ State.wr_keeps (kb_k 604462909807314587353088 rfl rfl)
  refine Keeps.step ?_ State.wr_keeps (kb_k 604462909807314587353088 rfl rfl)
  refine Keeps.mkUpd (x := { s with regs := s.regs.filter fun e => !keyInPage pHost e.1 })
      (Keeps.mkRegs (Keeps.refl _ _) rfl (tabRising_filter _ _ _) fun k h => tabFind_filter _ _ _ fun v => ?_)
      ⟨Or.inr rfl, rfl, Or.inr rfl, Or.inr rfl, Or.inr rfl, Or.inr rfl, Or.inr rfl, Or.inr rfl, Or.inr rfl, Or.inr
      rfl, Or.inr rfl, Or.inr rfl, Or.inr rfl, Or.inr rfl, Or.inr rfl, Or.inr rfl, Or.inr rfl, Or.inr rfl, Or.inr
      rfl, Or.inr rfl, Or.inr rfl, Or.inr rfl, Or.inr rfl, Or.inr rfl, Or.inr rfl, Or.inr rfl, Or.inr rfl, Or.inr
      rfl, Or.inl rfl, Or.inr rfl, Or.inr rfl, Or.inr rfl, Or.inr rfl, Or.inr rfl, Or.inr rfl, Or.inr rfl, Or.inr
      rfl, Or.inr rfl, Or.inr rfl, Or.inr rfl, Or.inr rfl, Or.inr rfl, Or.inr rfl, Or.inr rfl, Or.inr rfl, Or.inr
      rfl, Nat.le_refl _, trivial, fun w => w, fun w => w, fun w => w, fun w => w, fun w => w, fun w => w, fun w =>
      w, fun w => w, fun w => w, fun w => w, fun w => w, fun w => w, fun w => w⟩
  rw [keyInPage_ne pHost fun e => by rw [e] at h; exact absurd h (by decide)]
  rfl

theorem execFunctionLevelReset_keeps {s : Sys2Proof.Machine.State} : ResKeeps tgtNext 604462909807314855788546 s
    (execFunctionLevelReset s) := by
  unfold execFunctionLevelReset
  refine ResKeeps.some rfl ?_
  refine Keeps.step ?_ State.hostReset_keeps rfl
  exact Keeps.refl _ _

theorem State.linkSet_keeps {s : Sys2Proof.Machine.State} {speed : Nat} {width : Nat} : Keeps
    604462909807314855788546 s (State.linkSet s speed width) := by
  unfold State.linkSet
  refine Keeps.step ?_ State.msiFlush_keeps rfl
  refine Keeps.mkUpd ?_ ⟨Or.inr rfl, rfl, Or.inr rfl, Or.inr rfl, Or.inr rfl, Or.inr rfl, Or.inr rfl, Or.inr
      rfl, Or.inr rfl, Or.inr rfl, Or.inr rfl, Or.inr rfl, Or.inr rfl, Or.inr rfl, Or.inr rfl, Or.inr rfl, Or.inr
      rfl, Or.inr rfl, Or.inr rfl, Or.inr rfl, Or.inr rfl, Or.inr rfl, Or.inr rfl, Or.inr rfl, Or.inr rfl, Or.inr
      rfl, Or.inr rfl, Or.inr rfl, Or.inl rfl, Or.inr rfl, Or.inr rfl, Or.inr rfl, Or.inr rfl, Or.inr rfl, Or.inr
      rfl, Or.inr rfl, Or.inr rfl, Or.inr rfl, Or.inr rfl, Or.inr rfl, Or.inr rfl, Or.inr rfl, Or.inr rfl, Or.inr
      rfl, Or.inr rfl, Or.inr rfl, Nat.le_refl _, trivial, fun w => w, fun w => w, fun w => w, fun w => w, fun w =>
      w, fun w => w, fun w => w, fun w => w, fun w => w, fun w => w, fun w => w, fun w => w, fun w => w⟩
  refine Keeps.step ?_ State.wr_keeps (kb_k 604462909807314587353088 rfl rfl)
  refine Keeps.step ?_ State.wr_keeps (kb_k 604462909807314587353088 rfl rfl)
  exact Keeps.refl _ _

theorem execConventionalReset_keeps {s : Sys2Proof.Machine.State} : ResKeeps tgtNext 604462909807314855788546 s
    (execConventionalReset s) := by
  unfold execConventionalReset
  refine ResKeeps.some rfl ?_
  refine Keeps.step ?_ State.linkSet_keeps rfl
  refine Keeps.step ?_ State.hostReset_keeps rfl
  exact Keeps.refl _ _

theorem execPcieLinkChange_keeps {speed : Fin 6} {width : BitVec 4} {s : Sys2Proof.Machine.State} : ResKeeps
    tgtNext 604462909807314855788546 s (execPcieLinkChange speed width s) := by
  unfold execPcieLinkChange
  refine ResKeeps.some rfl ?_
  refine Keeps.step ?_ State.linkSet_keeps rfl
  exact Keeps.refl _ _

theorem execBusMasterEnableWrite_keeps {en : Bool} {s : Sys2Proof.Machine.State} : ResKeeps tgtNext 268435456 s
    (execBusMasterEnableWrite en s) := by
  unfold execBusMasterEnableWrite
  refine ResKeeps.some rfl ?_
  refine Keeps.ite ?_ ?_
  · refine Keeps.step ?_ State.msiFlush_keeps rfl
    refine Keeps.mkUpd ?_ ⟨Or.inr rfl, rfl, Or.inr rfl, Or.inr rfl, Or.inr rfl, Or.inr rfl, Or.inr rfl, Or.inr
        rfl, Or.inr rfl, Or.inr rfl, Or.inr rfl, Or.inr rfl, Or.inr rfl, Or.inr rfl, Or.inr rfl, Or.inr rfl, Or.inr
        rfl, Or.inr rfl, Or.inr rfl, Or.inr rfl, Or.inr rfl, Or.inr rfl, Or.inr rfl, Or.inr rfl, Or.inr rfl, Or.inr
        rfl, Or.inr rfl, Or.inr rfl, Or.inl rfl, Or.inr rfl, Or.inr rfl, Or.inr rfl, Or.inr rfl, Or.inr rfl, Or.inr
        rfl, Or.inr rfl, Or.inr rfl, Or.inr rfl, Or.inr rfl, Or.inr rfl, Or.inr rfl, Or.inr rfl, Or.inr rfl, Or.inr
        rfl, Or.inr rfl, Or.inr rfl, Nat.le_refl _, trivial, fun w => w, fun w => w, fun w => w, fun w => w, fun w
        => w, fun w => w, fun w => w, fun w => w, fun w => w, fun w => w, fun w => w, fun w => w, fun w => w⟩
    exact Keeps.refl _ _
  · exact Keeps.refl _ _

theorem State.bar4Read_keeps {s : Sys2Proof.Machine.State} {a : Nat} {len : Nat} {ecc : Sys2Proof.DdrEcc} :
    Keeps 10313648398596111979315202 s (State.bar4Read s a len ecc) := by
  unfold State.bar4Read
  refine Keeps.ite ?_ ?_
  · refine Keeps.mkUpd ?_ ⟨Or.inr rfl, rfl, Or.inr rfl, Or.inr rfl, Or.inr rfl, Or.inr rfl, Or.inr rfl, Or.inr
      rfl, Or.inr rfl, Or.inr rfl, Or.inr rfl, Or.inr rfl, Or.inr rfl, Or.inr rfl, Or.inr rfl, Or.inr rfl, Or.inr
      rfl, Or.inr rfl, Or.inr rfl, Or.inr rfl, Or.inr rfl, Or.inl rfl, Or.inr rfl, Or.inr rfl, Or.inr rfl, Or.inr
      rfl, Or.inr rfl, Or.inr rfl, Or.inr rfl, Or.inr rfl, Or.inr rfl, Or.inr rfl, Or.inr rfl, Or.inr rfl, Or.inr
      rfl, Or.inr rfl, Or.inr rfl, Or.inr rfl, Or.inr rfl, Or.inr rfl, Or.inr rfl, Or.inr rfl, Or.inr rfl, Or.inr
      rfl, Or.inr rfl, Or.inr rfl, Nat.le_refl _, trivial, fun w => w, fun w => w, fun w => w, fun w => w, fun w =>
      w, fun w => w, fun w => w, fun w => w, fun w => w, fun w => w, fun w => w, fun w => w, fun w => w⟩
    refine Keeps.ofRes (tgt := tgtSnd) ?_ rfl rfl
    refine ResKeeps.step ?_ State.ddrRead_keeps rfl
    exact Keeps.refl _ _
  · refine Keeps.mkUpd ?_ ⟨Or.inr rfl, rfl, Or.inr rfl, Or.inr rfl, Or.inr rfl, Or.inr rfl, Or.inr rfl, Or.inr
      rfl, Or.inr rfl, Or.inr rfl, Or.inr rfl, Or.inr rfl, Or.inr rfl, Or.inr rfl, Or.inr rfl, Or.inr rfl, Or.inr
      rfl, Or.inr rfl, Or.inr rfl, Or.inr rfl, Or.inr rfl, Or.inl rfl, Or.inr rfl, Or.inr rfl, Or.inr rfl, Or.inr
      rfl, Or.inr rfl, Or.inr rfl, Or.inr rfl, Or.inr rfl, Or.inr rfl, Or.inr rfl, Or.inr rfl, Or.inr rfl, Or.inr
      rfl, Or.inr rfl, Or.inr rfl, Or.inr rfl, Or.inr rfl, Or.inr rfl, Or.inr rfl, Or.inr rfl, Or.inr rfl, Or.inr
      rfl, Or.inr rfl, Or.inr rfl, Nat.le_refl _, trivial, fun w => w, fun w => w, fun w => w, fun w => w, fun w =>
      w, fun w => w, fun w => w, fun w => w, fun w => w, fun w => w, fun w => w, fun w => w, fun w => w⟩
    refine Keeps.step ?_ State.wr_keeps (kb_k 604462909807314587353088 rfl rfl)
    refine Keeps.ofRes (tgt := tgtSnd) ?_ rfl rfl
    refine ResKeeps.step ?_ State.ddrRead_keeps rfl
    exact Keeps.refl _ _

theorem State.bar4Write_keeps {s : Sys2Proof.Machine.State} {a : Nat} {bs : List Sys2Proof.Byte} {ecc :
    Sys2Proof.DdrEcc} : Keeps 10313648398596111977218050 s (State.bar4Write s a bs ecc) := by
  unfold State.bar4Write
  refine Keeps.ite ?_ ?_
  · exact Keeps.refl _ _
  · refine Keeps.ite ?_ ?_
    · refine Keeps.ofRes (tgt := tgtSnd) ?_ rfl rfl
      refine ResKeeps.step ?_ State.ddrWrite_keeps rfl
      exact Keeps.refl _ _
    · refine Keeps.step ?_ State.wr_keeps (kb_k 604462909807314587353088 rfl rfl)
      refine Keeps.ofRes (tgt := tgtSnd) ?_ rfl rfl
      refine ResKeeps.step ?_ State.ddrWrite_keeps rfl
      exact Keeps.refl _ _

theorem execBar4Access_keeps {a : BitVec 30} {len : Nat} {data : Option (List Sys2Proof.Byte)} {ecc :
    Sys2Proof.DdrEcc} {s : Sys2Proof.Machine.State} : ResKeeps tgtNext 10313648398596111979315202 s
    (execBar4Access a len data ecc s) := by
  unfold execBar4Access
  refine ResKeeps.some rfl ?_
  split
  · refine Keeps.step ?_ State.bar4Write_keeps rfl
    exact Keeps.refl _ _
  · refine Keeps.step ?_ State.bar4Read_keeps rfl
    exact Keeps.refl _ _

theorem execCommandFetch_keeps {n : Fin 8} {cmd : Option (BitVec 512)} {s : Sys2Proof.Machine.State} : ResKeeps
    tgtNext 604462909807323445723138 s (execCommandFetch n cmd s) := by
  unfold execCommandFetch
  refine ResKeeps.some rfl ?_
  refine Keeps.ite ?_ ?_
  · refine Keeps.step ?_ State.ringKick_keeps rfl
    refine Keeps.step ?_ State.modRing_keeps rfl
    refine Keeps.step ?_ State.wr_keeps (kb_k 604462909807314587353088 rfl rfl)
    exact Keeps.refl _ _
  · exact Keeps.refl _ _

theorem State.takeCmd_keeps {s : Sys2Proof.Machine.State} {n : Nat} {op : Nat} : ResKeeps tgtOptSnd 268435456 s
    (State.takeCmd s n op) := by
  unfold State.takeCmd
  split
  · refine ResKeeps.some rfl ?_
    refine Keeps.step ?_ State.modRing_keeps rfl
    exact Keeps.refl _ _
  · exact ResKeeps.none rfl

theorem State.runCmd_keeps {m : Nat} {s x : State} {n op : Nat} {f : List Byte → State → State} (h : Keeps m s x)
    (hm : 268435456 ||| m = m) (ha : ∀ c y, Keeps m s y → Keeps m s (f c y)) : Keeps m s (State.runCmd x n op f) := by
  unfold State.runCmd
  refine Keeps.ite h ?_
  split
  · next c t e => exact ha _ _ (h.step (State.takeCmd_keeps t (by rw [e]; rfl)) (or_trans rfl hm))
  · exact h

theorem State.startsDone_keeps {s : Sys2Proof.Machine.State} {n : Nat} : Keeps 268435456 s (State.startsDone s n) := by
  unfold State.startsDone
  refine Keeps.foldl _ _ ?_ ?_
  · refine Keeps.mkUpd ?_ ⟨Or.inr rfl, rfl, Or.inr rfl, Or.inr rfl, Or.inr rfl, Or.inr rfl, Or.inr rfl, Or.inr
      rfl, Or.inr rfl, Or.inr rfl, Or.inr rfl, Or.inr rfl, Or.inr rfl, Or.inr rfl, Or.inr rfl, Or.inr rfl, Or.inr
      rfl, Or.inr rfl, Or.inr rfl, Or.inr rfl, Or.inr rfl, Or.inr rfl, Or.inr rfl, Or.inr rfl, Or.inr rfl, Or.inr
      rfl, Or.inr rfl, Or.inr rfl, Or.inl rfl, Or.inr rfl, Or.inr rfl, Or.inr rfl, Or.inr rfl, Or.inr rfl, Or.inr
      rfl, Or.inr rfl, Or.inr rfl, Or.inr rfl, Or.inr rfl, Or.inr rfl, Or.inr rfl, Or.inr rfl, Or.inr rfl, Or.inr
      rfl, Or.inr rfl, Or.inr rfl, Nat.le_refl _, trivial, fun w => w, fun w => w, fun w => w, fun w => w, fun w =>
      w, fun w => w, fun w => w, fun w => w, fun w => w, fun w => w, fun w => w, fun w => w, fun w => w⟩
    exact Keeps.refl _ _
  · intro y_ a_ h_
    refine Keeps.step ?_ State.ringEnd_keeps rfl
    with_reducible assumption

theorem State.complete1_keeps {s : Sys2Proof.Machine.State} {n : Nat} {c : Sys2Proof.Machine.Compl} : Keeps
    604462909877692189900802 s (State.complete1 s n c) := by
  unfold State.complete1
  refine Keeps.step ?_ State.ringKick_keeps rfl
  refine Keeps.step ?_ State.raiseCause_keeps rfl
  refine Keeps.step ?_ State.modRing_keeps rfl
  refine Keeps.step ?_ State.wr_keeps (kb_k 604462909807314587353088 rfl rfl)
  refine Keeps.step ?_ State.hostWrite_keeps rfl
  refine Keeps.foldl _ _ ?_ ?_
  · exact Keeps.refl _ _
  · intro y_ a_ h_
    split
    · refine Keeps.step ?_ State.hostWrite_keeps rfl
      with_reducible assumption

theorem execCommandCompletion_keeps {n : Fin 8} {s : Sys2Proof.Machine.State} : ResKeeps tgtNext
    604462909877692189900802 s (execCommandCompletion n s) := by
  unfold execCommandCompletion
  refine ResKeeps.some rfl ?_
  refine Keeps.ite ?_ ?_
  · exact Keeps.refl _ _
  · split
    · refine Keeps.step ?_ State.complete1_keeps rfl
      refine Keeps.step ?_ State.startsDone_keeps rfl
      exact Keeps.refl _ _
    · exact Keeps.refl _ _

theorem execNopCommand_keeps {n : Fin 8} {s : Sys2Proof.Machine.State} : ResKeeps tgtNext 268435456 s
    (execNopCommand n s) := by
  unfold execNopCommand
  refine ResKeeps.some rfl ?_
  refine State.runCmd_keeps ?_ rfl ?_
  · exact Keeps.refl _ _
  · intro y0_ y1_ h_
    refine Keeps.step ?_ State.ringEnd_keeps rfl
    with_reducible assumption

theorem State.bsub_keeps {s : Sys2Proof.Machine.State} {n : Nat} {c : List Sys2Proof.Byte} : Keeps
    113336795588871753662466 s (State.bsub s n c) := by
  unfold State.bsub
  refine Keeps.step ?_ State.ringEnd_keeps rfl
  refine Keeps.ofRes (tgt := tgtSnd) ?_ rfl rfl
  refine ResKeeps.step ?_ State.submit_keeps rfl
  exact Keeps.refl _ _

theorem execBsubCommand_keeps {n : Fin 8} {s : Sys2Proof.Machine.State} : ResKeeps tgtNext
    113336795588871753662466 s (execBsubCommand n s) := by
  unfold execBsubCommand
  refine ResKeeps.some rfl ?_
  refine State.runCmd_keeps ?_ rfl ?_
  · exact Keeps.refl _ _
  · intro y0_ y1_ h_
    refine Keeps.step ?_ State.bsub_keeps rfl
    with_reducible assumption

theorem State.bcancel_keeps {s : Sys2Proof.Machine.State} {n : Nat} {c : List Sys2Proof.Byte} : Keeps
    113336795588871753662466 s (State.bcancel s n c) := by
  unfold State.bcancel
  refine Keeps.step ?_ State.ringEnd_keeps rfl
  refine Keeps.ofRes (tgt := tgtSnd) ?_ rfl rfl
  refine ResKeeps.step ?_ State.cancel_keeps rfl
  exact Keeps.refl _ _

theorem execBcancelCommand_keeps {n : Fin 8} {s : Sys2Proof.Machine.State} : ResKeeps tgtNext
    113336795588871753662466 s (execBcancelCommand n s) := by
  unfold execBcancelCommand
  refine ResKeeps.some rfl ?_
  refine State.runCmd_keeps ?_ rfl ?_
  · exact Keeps.refl _ _
  · intro y0_ y1_ h_
    refine Keeps.step ?_ State.bcancel_keeps rfl
    with_reducible assumption

theorem State.dmaDdr_keeps {s : State} {a : Nat} {bs : List Byte} {ecc : DdrEcc} {k : Nat} : ResKeeps tgtSnd
    9709185488788797389864962 s (State.dmaDdr s a bs ecc k) := by
  induction k generalizing s a bs ecc with
  | zero => exact ResKeeps.some rfl (Keeps.refl _ _)
  | succ k ih =>
    unfold State.dmaDdr
    refine ResKeeps.ite (ResKeeps.some rfl (Keeps.refl _ _)) ?_
    extract_lets j r
    have hr : Keeps 9709185488788797389864962 s r.2 := by
      refine Keeps.ofRes (tgt := tgtSnd) ?_ rfl rfl
      exact ResKeeps.step (Keeps.refl _ _) State.ddrAccess_keeps rfl
    split
    · exact ResKeeps.some rfl hr
    · refine ResKeeps.some rfl ?_
      refine Keeps.ofRes (tgt := tgtSnd) ?_ rfl rfl
      exact ResKeeps.step hr ih rfl

theorem State.dmaRead_keeps {s : Sys2Proof.Machine.State} {space : Nat} {a : Nat} {len : Nat} {u :
    Sys2Proof.DmaUnit} : ResKeeps tgtThird 628679205131478934839427074 s (State.dmaRead s space a len u) := by
  unfold State.dmaRead
  refine ResKeeps.ite ?_ ?_
  · refine ResKeeps.some rfl ?_
    refine Keeps.step ?_ State.count_keeps rfl
    exact Keeps.refl _ _
  · refine ResKeeps.ite ?_ ?_
    · dsimp only
      split
      · refine ResKeeps.some rfl ?_
        refine Keeps.step ?_ State.granCorrect_keeps rfl
        refine Keeps.step ?_ State.granAccessed_keeps rfl
        exact Keeps.refl _ _
      · refine ResKeeps.some rfl ?_
        refine Keeps.step ?_ State.granCorrect_keeps rfl
        refine Keeps.step ?_ State.granAccessed_keeps rfl
        exact Keeps.refl _ _
    · refine ResKeeps.some rfl ?_
      refine Keeps.ofRes (tgt := tgtSnd) ?_ rfl rfl
      refine ResKeeps.step ?_ State.ddrRead_keeps rfl
      exact Keeps.refl _ _

theorem State.dmaPut_keeps {s : Sys2Proof.Machine.State} {space : Nat} {a : Nat} {bs : List Sys2Proof.Byte} {ecc
    : Sys2Proof.DdrEcc} : ResKeeps tgtThird 5580439362273075282271338498 s (State.dmaPut s space a bs ecc) := by
  unfold State.dmaPut
  refine ResKeeps.ite ?_ ?_
  · refine ResKeeps.some rfl ?_
    refine Keeps.step ?_ State.dmaWrite_keeps rfl
    exact Keeps.refl _ _
  · refine ResKeeps.ite ?_ ?_
    · dsimp only
      split
      · refine ResKeeps.some rfl ?_
        refine Keeps.step ?_ State.bar2Put_keeps rfl
        exact Keeps.refl _ _
      · refine ResKeeps.some rfl ?_
        refine Keeps.step ?_ State.bar2Put_keeps rfl
        exact Keeps.refl _ _
    · refine ResKeeps.some rfl ?_
      refine Keeps.ofRes (tgt := tgtSnd) ?_ rfl rfl
      refine ResKeeps.step ?_ State.dmaDdr_keeps rfl
      exact Keeps.refl _ _

theorem State.dmaUnit_keeps {s : Sys2Proof.Machine.State} {u : Sys2Proof.DmaUnit} : ResKeeps tgtThird
    5580439362273075282271338498 s (State.dmaUnit s u) := by
  unfold State.dmaUnit
  refine ResKeeps.ite ?_ ?_
  · refine ResKeeps.some rfl ?_
    exact Keeps.refl _ _
  · refine ResKeeps.ite ?_ ?_
    · refine ResKeeps.some rfl ?_
      exact Keeps.refl _ _
    · refine ResKeeps.some rfl ?_
      refine Keeps.ofRes (tgt := tgtThird) ?_ rfl rfl
      refine ResKeeps.step ?_ State.dmaPut_keeps rfl
      refine Keeps.ofRes (tgt := tgtThird) ?_ rfl rfl
      refine ResKeeps.step ?_ State.dmaRead_keeps rfl
      exact Keeps.refl _ _

theorem State.dmaUnits_keeps {s : State} {k : Nat} {us : List DmaUnit} : ResKeeps tgtSnd
    5580439362273075282271338498 s (State.dmaUnits s k us) := by
  induction us generalizing s k with
  | nil => exact ResKeeps.some rfl (Keeps.refl _ _)
  | cons u us ih =>
    unfold State.dmaUnits
    refine ResKeeps.some rfl ?_
    refine Keeps.ofRes (tgt := tgtSnd) ?_ rfl rfl
    refine ResKeeps.step ?_ ih rfl
    refine Keeps.ofRes (tgt := tgtThird) ?_ rfl rfl
    exact ResKeeps.step (Keeps.refl _ _) State.dmaUnit_keeps rfl

theorem State.dma_keeps {s : Sys2Proof.Machine.State} {n : Nat} {units : Option (List Sys2Proof.DmaUnit)} {c :
    List Sys2Proof.Byte} : Keeps 5580439362273075282539773954 s (State.dma s n units c) := by
  unfold State.dma
  refine Keeps.ite ?_ ?_
  · refine Keeps.step ?_ State.ringEnd_keeps rfl
    exact Keeps.refl _ _
  · split
    · refine Keeps.step ?_ State.ringEnd_keeps rfl
      exact Keeps.refl _ _
    · refine Keeps.step ?_ State.ringEnd_keeps rfl
      refine Keeps.ofRes (tgt := tgtSnd) ?_ rfl rfl
      refine ResKeeps.step ?_ State.dmaUnits_keeps rfl
      exact Keeps.refl _ _

theorem execDmaCommand_keeps {n : Fin 8} {units : Option (List Sys2Proof.DmaUnit)} {s : Sys2Proof.Machine.State}
    : ResKeeps tgtNext 5580439362273075282539773954 s (execDmaCommand n units s) := by
  unfold execDmaCommand
  refine ResKeeps.some rfl ?_
  refine Keeps.ite ?_ ?_
  · exact Keeps.refl _ _
  · refine State.runCmd_keeps ?_ rfl ?_
    · exact Keeps.refl _ _
    · intro y0_ y1_ h_
      refine Keeps.ite ?_ ?_
      · refine Keeps.step ?_ State.dma_keeps rfl
        with_reducible assumption
      · exact Keeps.refl _ _

theorem State.progload_keeps {s : Sys2Proof.Machine.State} {n : Nat} {words : Option (List (BitVec 64))} {c :
    List Sys2Proof.Byte} : Keeps 5570767955716079075714990082 s (State.progload s n words c) := by
  unfold State.progload
  split
  · refine Keeps.step ?_ State.ringEnd_keeps rfl
    exact Keeps.refl _ _
  · try extract_lets
    split
    · refine Keeps.step ?_ State.ringEnd_keeps rfl
      exact Keeps.refl _ _
    · refine Keeps.step ?_ State.ringEnd_keeps rfl
      refine Keeps.step ?_ State.bar2Put_keeps rfl
      exact Keeps.refl _ _

theorem execProgloadCommand_keeps {n : Fin 8} {words : Option (List (BitVec 64))} {s : Sys2Proof.Machine.State}
    : ResKeeps tgtNext 5570767955716079075714990082 s (execProgloadCommand n words s) := by
  unfold execProgloadCommand
  refine ResKeeps.some rfl ?_
  refine Keeps.ite ?_ ?_
  · exact Keeps.refl _ _
  · refine State.runCmd_keeps ?_ rfl ?_
    · exact Keeps.refl _ _
    · intro y0_ y1_ h_
      split
      · refine Keeps.ite ?_ ?_
        · refine Keeps.step ?_ State.progload_keeps rfl
          with_reducible assumption
        · exact Keeps.refl _ _
      · refine Keeps.step ?_ State.progload_keeps rfl
        with_reducible assumption

theorem State.regwrStaged_keeps {s : Sys2Proof.Machine.State} {ps : List Sys2Proof.Page} {pairs : List
    (Nat × Nat)} {ok : Bool} : Keeps 79228162495817593521982013510 s (State.regwrStaged s ps pairs ok) := by
  unfold State.regwrStaged
  refine Keeps.ite ?_ ?_
  · refine Keeps.foldl _ _ ?_ ?_
    · refine Keeps.foldl _ _ ?_ ?_
      · exact Keeps.refl _ _
      · intro y_ a_ h_
        refine Keeps.foldl _ _ ?_ ?_
        · with_reducible assumption
        · intro y_ a_ h_
          refine Keeps.step ?_ State.writePlain_keeps (kb_any rfl rfl)
          with_reducible assumption
    · intro y_ a_ h_
      refine Keeps.step ?_ State.commitWrite_keeps (kb_any rfl rfl)
      with_reducible assumption
  · refine Keeps.foldl _ _ ?_ ?_
    · exact Keeps.refl _ _
    · intro y_ a_ h_
      refine Keeps.step ?_ State.commitWrite_keeps (kb_any rfl rfl)
      with_reducible assumption

theorem State.regwrDirect_keeps {s : Sys2Proof.Machine.State} {ps : List Sys2Proof.Page} {pairs : List
    (Nat × Nat)} {ok : Bool} : Keeps 79228162495817646244852924415 s (State.regwrDirect s ps pairs ok) := by
  unfold State.regwrDirect
  refine Keeps.ite ?_ ?_
  · refine Keeps.foldl _ _ ?_ ?_
    · exact Keeps.refl _ _
    · intro y_ a_ h_
      refine Keeps.foldl _ _ ?_ ?_
      · with_reducible assumption
      · intro y_ a_ h_
        refine Keeps.step ?_ State.pageWrite_keeps (kb_any rfl rfl)
        with_reducible assumption
  · exact Keeps.refl _ _

theorem State.regwr_keeps {s : Sys2Proof.Machine.State} {n : Nat} {c : List Sys2Proof.Byte} : Keeps
    79228162495817646244852924415 s (State.regwr s n c) := by
  unfold State.regwr
  try extract_lets
  split
  · refine Keeps.step ?_ State.ringEnd_keeps rfl
    exact Keeps.refl _ _
  · refine Keeps.ite ?_ ?_
    · refine Keeps.step ?_ State.ringEnd_keeps rfl
      exact Keeps.refl _ _
    · refine Keeps.step ?_ State.ringEnd_keeps rfl
      refine Keeps.ite ?_ ?_
      · refine Keeps.step ?_ State.regwrStaged_keeps rfl
        exact Keeps.refl _ _
      · refine Keeps.step ?_ State.regwrDirect_keeps rfl
        exact Keeps.refl _ _

theorem execRegwrCommand_keeps {n : Fin 8} {s : Sys2Proof.Machine.State} : ResKeeps tgtNext
    79228162495817646244852924415 s (execRegwrCommand n s) := by
  unfold execRegwrCommand
  refine ResKeeps.some rfl ?_
  refine State.runCmd_keeps ?_ rfl ?_
  · exact Keeps.refl _ _
  · intro y0_ y1_ h_
    refine Keeps.step ?_ State.regwr_keeps rfl
    with_reducible assumption

theorem State.startUnit_keeps {s : Sys2Proof.Machine.State} {k : Nat} : ResKeeps tgtSnd
    16480823128251847202080283543 s (State.startUnit s k) := by
  unfold State.startUnit
  refine ResKeeps.some rfl ?_
  refine Keeps.step ?_ State.sqCtlWrite_keeps rfl
  exact Keeps.refl _ _

theorem State.startUnits_keeps {s : State} {ks : List Nat} : ResKeeps tgtSnd 16480823128251847202080283543 s
    (State.startUnits s ks) := by
  induction ks generalizing s with
  | nil => exact ResKeeps.some rfl (Keeps.refl _ _)
  | cons k ks ih =>
    unfold State.startUnits
    refine ResKeeps.some rfl ?_
    refine Keeps.ofRes (tgt := tgtSnd) ?_ rfl rfl
    refine ResKeeps.step ?_ ih rfl
    refine Keeps.ofRes (tgt := tgtSnd) ?_ rfl rfl
    exact ResKeeps.step (Keeps.refl _ _) State.startUnit_keeps rfl

theorem State.multiStart_keeps {s : Sys2Proof.Machine.State} {n : Nat} {c : List Sys2Proof.Byte} : Keeps
    16480823128251847202080283543 s (State.multiStart s n c) := by
  unfold State.multiStart
  refine Keeps.ite ?_ ?_
  · refine Keeps.mkUpd ?_ ⟨Or.inr rfl, rfl, Or.inr rfl, Or.inr rfl, Or.inr rfl, Or.inr rfl, Or.inr rfl, Or.inr
      rfl, Or.inr rfl, Or.inr rfl, Or.inr rfl, Or.inr rfl, Or.inr rfl, Or.inr rfl, Or.inr rfl, Or.inr rfl, Or.inr
      rfl, Or.inr rfl, Or.inr rfl, Or.inr rfl, Or.inr rfl, Or.inr rfl, Or.inr rfl, Or.inr rfl, Or.inr rfl, Or.inr
      rfl, Or.inr rfl, Or.inr rfl, Or.inl rfl, Or.inr rfl, Or.inr rfl, Or.inr rfl, Or.inr rfl, Or.inr rfl, Or.inr
      rfl, Or.inr rfl, Or.inr rfl, Or.inr rfl, Or.inr rfl, Or.inr rfl, Or.inr rfl, Or.inr rfl, Or.inr rfl, Or.inr
      rfl, Or.inr rfl, Or.inr rfl, Nat.le_refl _, trivial, fun w => w, fun w => w, fun w => w, fun w => w, fun w =>
      w, fun w => w, fun w => w, fun w => w, fun w => w, fun w => w, fun w => w, fun w => w, fun w => w⟩
    refine Keeps.ofRes (tgt := tgtSnd) ?_ rfl rfl
    refine ResKeeps.step ?_ State.startUnits_keeps rfl
    exact Keeps.refl _ _
  · refine Keeps.step ?_ State.ringEnd_keeps rfl
    refine Keeps.ofRes (tgt := tgtSnd) ?_ rfl rfl
    refine ResKeeps.step ?_ State.startUnits_keeps rfl
    exact Keeps.refl _ _

theorem execMultiSiteStart_keeps {n : Fin 8} {s : Sys2Proof.Machine.State} : ResKeeps tgtNext
    16480823128251847202080283543 s (execMultiSiteStart n s) := by
  unfold execMultiSiteStart
  refine ResKeeps.some rfl ?_
  refine State.runCmd_keeps ?_ rfl ?_
  · exact Keeps.refl _ _
  · intro y0_ y1_ h_
    refine Keeps.step ?_ State.multiStart_keeps rfl
    with_reducible assumption

end Sys2Proof.Machine
end

