-- ==== Sys2Proof/Laws/FrameExec.lean ====
section
/-! SUPPORT. What each command may change, as a mask, and what the masks say of the parts of the state. -/

namespace Sys2Proof.Machine

/-- The mask of a command. -/
def changeMask : Instr → Nat
  | .registerWrite _ _ _ _ => 79228162495817646244852924415
  | .rcRead _ _ _ => 79228162495817593546678026242
  | .countLowRead _ => 17179885568
  | .pageCommitGo _ p => kindBit p ||| 1315311439314669131756863558
  | .commitApply p => kindBit p ||| 1315311439314669131756863559
  | .pageCommitDrop _ p => kindBit p ||| 1315311439314669131756863558
  | .pageReset _ p => kindBit p ||| 16678029447724389865166461886
  | .pageResetRelease p => kindBit p ||| 6503482781108586708916079374
  | .pageEnableWrite _ p _ => kindBit p ||| 16678029447724389865166461886
  | .pagePowerRequest _ p _ => kindBit p ||| 16678029447724389865166461886
  | .pageFltlClear _ p _ _ => kindBit p ||| 590295810358714040322
  | .overcurrentTrip _ => 16480965979837954012073417654
  | .ocConditionClear _ => 2147483664
  | .outOfRangeTrip _ => 16480965979837954012073417622
  | .oorConditionClear _ => 2147483664
  | .pmuCtlWrite _ _ _ => 9903520314283042201340477446
  | .pmuClampWrite _ _ _ => 9903520314283042201340477446
  | .openPinCheckStart _ _ _ => 9903520314283042201340477478
  | .opcSettleElapsed _ => 33
  | .opcSamplingEnd _ _ => 9903520314283042199192993827
  | .vectorStart _ => 12070047756867930622693858199
  | .edgeEvent _ _ => 37778931862957161782547
  | .clockGeneratorStart _ _ _ => 147573952591823896646
  | .clockGeneratorStop _ _ _ => 147573952591823896646
  | .cgPhaseReset _ => 147573952589676412999
  | .syncDetected _ => 39356349842188216914221443
  | .syncLost => 147573952591823896579
  | .syncGeneratorStart _ _ => 147573952591823896710
  | .syncGeneratorStop _ _ => 147573952591823896710
  | .syncPulseGenerate => 39356349842188216914221443
  | .sqCtlStart _ _ => 16480823128251847202080283543
  | .launch _ => 309541678219139505004304659
  | .sqCtlPause _ _ => 16480823128251847202080283543
  | .pauseApply _ => 257
  | .sqCtlResume _ _ => 16480823128251847202080283543
  | .resumeApply _ => 257
  | .sqCtlAbort _ _ => 16480823128251847202080283543
  | .sqCtlHtrig _ _ => 16480823128251847202080283543
  | .sqHjmpWrite _ _ _ => 309522788753208028034046214
  | .hjumpApply _ => 1547462975612540890462100355
  | .segmentBoundary _ => 1547557422942198283903802263
  | .segWord _ => 2166527442584888421353364371
  | .loopWord _ => 2166527442584888421353364371
  | .endlWord _ => 2166527442584888421353364371
  | .callWord _ => 2166527442584888421353364371
  | .retWord _ => 2166527442584888421353364371
  | .jmpWord _ => 2166527442584888421353364371
  | .jfWord _ => 2166527442584888421353364371
  | .jpWord _ => 2166527442584888421353364371
  | .jflWord _ => 2166527442584888421353364371
  | .matchWord _ => 2166527442584888421353364371
  | .waittWord _ => 2166527442584888421353364371
  | .rdvWord _ => 2166527442584888421353364371
  | .markWord _ => 2166527442584888421353364371
  | .flagWord _ => 2166527442584888421353364371
  | .tsetWord _ => 2166527442584888421353364371
  | .stopWord _ => 2166527442584888421353364371
  | .illegalOpcode _ => 2166527442584888423500848019
  | .drain _ => 16480737978081202955568234502
  | .waitResume _ => 257
  | .waittTimeout _ => 1547557422942198283903802259
  | .rdvTimeout _ => 1547557422942198283903802259
  | .rendezvousRelease _ => 147573952589676413315
  | .rendezvousStall => 147573952589676413186
  | .shSiteWrite _ _ _ => 9903520314283042201340477446
  | .siteFlagSet _ _ _ => 37926505815548985677958
  | .siteFlagClear _ _ _ => 37926505815548985677958
  | .sharedFlagApply => 147573952589676413059
  | .atPulse _ _ => 37926505815548985677958
  | .atLineApply => 8590590337
  | .hopperFetch _ => 512
  | .hopperDataArrival _ _ _ => 9709185488788797389865474
  | .baleCheck _ => 16480737978081202955568241414
  | .hostProducerWrite _ _ _ => 1237940039285380277046607878
  | .endToken _ _ => 16480737978081202955568241414
  | .litToken _ _ => 16480737978081202955568241414
  | .repToken _ _ => 16480737978081202955568241414
  | .dictToken _ _ => 16480737978081202955568241414
  | .xorToken _ _ => 16480737978081202955568241414
  | .reservedToken _ _ => 16480737978081202955568241414
  | .bar2Write _ _ => 5570767955716079075446554626
  | .compareResultArrival => 4951797936073384056758289410
  | .underrunMark => 16384
  | .recordWrite => 4951892383403041999955279874
  | .recordExport => 4951797936073454425502466050
  | .datalogConsumerWrite _ _ => 4951797936073384058905772038
  | .gleanerCountClear _ _ => 4951760157141521101744046086
  | .bitmapUpdate => 19380592045714618290618370
  | .qdrAddressParityError _ => 19380592045697026104557570
  | .bitmapReadoutStart _ _ => 4951760157141521101743980550
  | .bitmapReadoutDone => 4971140749187306095221211138
  | .scanStart _ => 116094657614867360081182726
  | .scanPeriodStart => 77409031387199224343101443
  | .scanTriggerStart => 77409031387199224343101443
  | .scanGroupStart => 116094657614867357933961219
  | .abusSwitchClose _ => 131073
  | .scanResultQueue _ => 116170215478593272257413127
  | .scanQueueCopy => 77975715365213950781292546
  | .scanAbort _ => 116094657614867360081182726
  | .referenceSelect _ _ _ => 77371252455336269328809990
  | .referenceSettled => 77371252455336267181195267
  | .extReferenceFallback => 77371252455336269328809986
  | .singleRunStart _ _ => 38685626227668135738343430
  | .singleRunStop _ _ => 38685626227668135738343430
  | .singleBlockWrite _ _ => 39327868069408774352601090
  | .urgentRequest _ _ _ _ => 38723405159531092900118534
  | .urgentResult _ _ => 38723405159531090752634883
  | .acqArm _ => 193465910070204726774398982
  | .armInstant => 154742504910672534362914823
  | .pretriggerFull => 154742504910672534362390531
  | .triggerAccept _ _ => 193484799536135104233275394
  | .acqForce _ => 193465910070204726774398982
  | .recordLastSample _ => 193465910070204724627177479
  | .recordOverflow => 193465910070204724626915334
  | .recordComplete => 155460304616070919727185922
  | .acqStop _ => 193465910070204726774398982
  | .acqAbort _ => 193465910070204726774398982
  | .acqRelease _ _ => 154742504910672536510398470
  | .heldItemAccept => 232227094161597673029484802
  | .timeNowRead => 18253611008
  | .stepRequest _ => 670576040567493646942214
  | .stepApply => 66113130760176643676163
  | .offsetSubmit _ _ => 670576040567493646948358
  | .adjWrite _ _ => 670576040567493646948358
  | .holdRequest _ => 670576040567493646942214
  | .watchdogExpire => 670576040567491499458562
  | .sharedAdjApply => 9444732965740364169219
  | .frameReceive _ _ _ _ => 661131307676517397495811
  | .frameTransmit _ _ _ => 661131307676517934366723
  | .ethLinkChange _ _ => 18889465931478580854786
  | .datagramSend _ => 56668397794444869435395
  | .convProcedure _ => 944473296573931475501070
  | .levelProcedure _ => 944473296573931475501070
  | .cmpProcedure _ => 944473296573931475501070
  | .impProcedure _ => 944473296573931475501070
  | .deskewProcedure _ => 944473296573931475501070
  | .loopCalibration _ => 944473296573931475501070
  | .mcskewProcedure _ => 944473296573931475501070
  | .eyeProcedure _ => 944473296573931475501070
  | .syszProcedure _ => 944473296573931475501070
  | .sysfProcedure _ => 944473296573931475501070
  | .unitCommit _ => 10329402360748110872838215682
  | .procedureEnd => 906694364710972166242314
  | .winnAbort _ => 944473296573931475501070
  | .autoLoop => 340010386766614472228866
  | .imgload _ => 302231454938843830026246
  | .flashload _ => 302231454938843830026246
  | .imgsave _ => 302231454938843830026246
  | .flashsave _ => 302231454938843830026246
  | .imageOperationDone _ _ => 79228162495817699073235877890
  | .nextWord _ _ _ _ _ _ => 151115727451839388450819
  | .branchMicroword _ _ _ _ _ _ => 151115727451839388450819
  | .cbranchMicroword _ _ _ _ _ _ => 151115727451839388450819
  | .microCall _ _ _ _ _ _ => 151115727451839388450819
  | .ccallMicroword _ _ _ _ _ _ => 151115727451839388450819
  | .microRet _ _ _ _ _ _ => 151115727451839388450819
  | .dispatchMicroword _ _ _ _ _ _ _ => 151115727451839388450819
  | .microEnd _ _ _ _ _ _ => 151115727451839388450819
  | .microwordWaitEnd _ _ _ _ _ _ _ => 151115727451830798516227
  | .brewerRun _ _ _ => 2531188434818131990511622
  | .brewerHold _ _ _ => 2531188434818131990511622
  | .brewerInstruction _ _ => 79228162495817716630776971263
  | .machineTimerInterrupt _ => 2455630571092215519608835
  | .baristaTake _ _ => 79228162495817716630776971263
  | .baristaTry _ _ => 79228162495817716630776971263
  | .baristaDone _ _ => 79228162495817716630776971263
  | .baristaSub _ _ => 79228162495817716630776971263
  | .baristaCancel _ _ => 79228162495817716630776971263
  | .brstSubgo _ => 113336795588873632710662
  | .brstCancel _ _ => 113336795588873632710662
  | .itemDispatch => 2531188434822527889539074
  | .completionReport => 680020773603597923418114
  | .dispatchTimeout => 113336795588873632710659
  | .bwDoor _ _ _ => 2455630571092217667092486
  | .peakClear _ => 75557863725916470902790
  | .histogramClear _ => 75557863725916470902790
  | .loadWindowEnd => 75557863725914323451907
  | .cntLRead _ => 37778931862982931578882
  | .counterWrite _ _ _ _ _ => 37778931862965751709698
  | .counterClearAll _ _ => 37778931862959309258758
  | .snapshotDemand _ => 37778931862959309258758
  | .snapshotInstant => 37778931862965751709699
  | .dumpComplete _ => 10314238694476839695482882
  | .ddrRequest _ => 9709185488788797391962114
  | .ddrAlert _ _ _ => 9671406556925840228089858
  | .ddrUnfreeze _ _ => 9860301216231821358989318
  | .refreshTick _ => 9709185488779990559424514
  | .refreshSet _ _ => 9709185488779990559424514
  | .mr4Read _ _ => 9671406556917035546181634
  | .selfRefreshEntry _ _ => 9860301216231821358989318
  | .srexit _ _ _ _ => 9860301216231821358989318
  | .ddrTrain _ _ => 9709185488779992707956738
  | .ddrRetrain _ _ => 9671406556917033397649410
  | .zqcal _ _ => 1048576
  | .ddrCfgWrite _ _ => 4835703278458518846308358
  | .dcCfgWrite _ _ _ => 9671406556917035545133062
  | .qdrTrain _ _ _ => 19342813113834068942782470
  | .bar4Access _ _ _ _ => 10313648398596111979315202
  | .conventionalReset => 604462909807314855788546
  | .functionLevelReset => 604462909807314855788546
  | .abiSelect _ _ => 604462909807316734836742
  | .ringEnable _ _ _ => 604462909807325593206790
  | .commandFetch _ _ => 604462909807323445723138
  | .nopCommand _ => 268435456
  | .dmaCommand _ _ => 5580439362273075282539773954
  | .regwrCommand _ => 79228162495817646244852924415
  | .bsubCommand _ => 113336795588871753662466
  | .bcancelCommand _ => 113336795588871753662466
  | .progloadCommand _ _ => 5570767955716079075714990082
  | .multiSiteStart _ => 16480823128251847202080283543
  | .commandCompletion _ => 604462909877692189900802
  | .amlTrain _ _ => 1851167661284901192271874
  | .amlRetrain _ _ => 1813388729421946177980422
  | .amlTrainRetry _ => 1813388729421944030496770
  | .amlLinkDown _ _ _ => 1549380256404585968315243411
  | .capxFlit _ _ _ _ _ _ => 1813536303374534780649858
  | .ackFlit _ _ _ => 1851167661284903339755522
  | .idleFlit _ _ _ => 1851167661284903339755522
  | .syncmFlit _ _ _ => 1851167661284903339763714
  | .trigFlit _ _ _ _ => 1851315235237493016176770
  | .flagFlit _ _ _ _ _ _ => 1851315235237493016176770
  | .rdvFlit _ _ _ _ _ => 1851315235237493016177026
  | .spanFlit _ _ _ _ _ => 16482174905657568636953164695
  | .timeFlit _ _ _ _ => 1879501860182122821658627
  | .calFlit _ _ _ => 1851167661284903356540930
  | .faultSourceAssert _ => 16686786190923156097075239871
  | .wireFault _ _ => 16686786190923156097075239871
  | .shadowWindowEnd _ => 16686786190923156097075239871
  | .faultSourceClear _ _ => 1918461383667940851714
  | .quietPeriodEnd _ _ => 79228162495817593665726700447
  | .lockClear _ _ => 590295810360853135366
  | .faultInjection _ _ => 16686786190923156097075239871
  | .injectionEnd => 590295810365148102659
  | .siloArm _ => 16686786190923156097075239871
  | .siloArmExpire => 1180591620721706270723
  | .siloForce _ _ => 16480965979837954012073417622
  | .safeN _ => 16686786190923156097075239871
  | .groupCurrentLimit _ _ => 16686786190923156097075239871
  | .thermalWarning _ => 16686786190923156097075239871
  | .thermalCritical _ => 16686786190923156097075239871
  | .lockstepMismatch => 16686786190923156097075239871
  | .supplyOutOfWindow => 16686786190923156097075239871
  | .pllUnlock _ => 16686786190923156097075239871
  | .idleRequest _ => 10465428208825794154266630
  | .standbyRequest _ => 10465428208825794154266630
  | .calRequest _ => 10465428208825794154266630
  | .factoryRequest _ => 10465428208825794154266630
  | .offRequest _ => 10465428208825794154266630
  | .restartRequest _ _ _ => 79228162495817611060480835583
  | .powerRequest _ _ _ => 295147905179419934722
  | .powerUpComplete => 79228162495817593528283400974
  | .powerDownComplete _ => 16705835331871352856885844918
  | .sealDevice _ _ => 7083549724787852968454
  | .zeroise _ => 7083549724787852968454
  | .zeroisationDone => 7083549724304534929410
  | .keyLoad _ => 2361183241437104308230
  | .debugLevelRequest _ _ => 4722366482871792697350
  | .tokenSubmit _ _ => 4722366482880449740806
  | .tokenVerified => 7083549724785705484802
  | .entdaa _ => 67108864
  | .i3cSetOffset _ => 67108864
  | .i3cWrite _ _ => 79228162495817646244852924415
  | .i3cRead => 79228162495817593546678026242
  | .bypass => 33554432
  | .idcode => 33554432
  | .samplePreload _ _ => 33554432
  | .extest _ => 33554432
  | .powerOnResetRelease _ _ => 79228162495817602264251489215
  | .vddaonLoss => 79228162495817611051890900990
  | .refclkDetect _ => 79228162495817602264251489215
  | .bootEnd _ => 16481268838482156175609289631
  | .trigInEdge _ _ _ => 56668397794444870097283
  | .trigOutPulseEnd _ => 129
  | .pcieLinkChange _ _ => 604462909807314855788546
  | .busMasterEnableWrite _ => 268435456
  | .flitCrcError _ => 37778931862957161777154
  | .debugModuleRequest _ _ => 79228162495817716630776971263

/-- No command changes a part that its mask does not name. -/
theorem exec_keeps (c : Instr) (s : State) : ResKeeps tgtNext (changeMask c) s (exec c s) := by
  cases c with
  | registerWrite r a len v => exact execRegisterWrite_keeps
  | rcRead r a len => exact execRcRead_keeps
  | countLowRead c => exact execCountLowRead_keeps
  | pageCommitGo r p => exact execPageCommitGo_keeps
  | commitApply p => exact execCommitApply_keeps
  | pageCommitDrop r p => exact execPageCommitDrop_keeps
  | pageReset r p => exact execPageReset_keeps
  | pageResetRelease p => exact execPageResetRelease_keeps
  | pageEnableWrite r p en => exact execPageEnableWrite_keeps
  | pagePowerRequest r p on => exact execPagePowerRequest_keeps
  | pageFltlClear r p a b => exact execPageFltlClear_keeps
  | overcurrentTrip ch => exact execOvercurrentTrip_keeps
  | ocConditionClear ch => exact execOcConditionClear_keeps
  | outOfRangeTrip ch => exact execOutOfRangeTrip_keeps
  | oorConditionClear ch => exact execOorConditionClear_keeps
  | pmuCtlWrite r ch v => exact execPmuCtlWrite_keeps
  | pmuClampWrite r ch v => exact execPmuClampWrite_keeps
  | openPinCheckStart r sh v => exact execOpenPinCheckStart_keeps
  | opcSettleElapsed sh => exact execOpcSettleElapsed_keeps
  | opcSamplingEnd sh samples => exact execOpcSamplingEnd_keeps
  | vectorStart n => exact execVectorStart_keeps
  | edgeEvent ch seen => exact execEdgeEvent_keeps
  | clockGeneratorStart r n v => exact execClockGeneratorStart_keeps
  | clockGeneratorStop r n v => exact execClockGeneratorStop_keeps
  | cgPhaseReset n => exact execCgPhaseReset_keeps
  | syncDetected refclk => exact execSyncDetected_keeps
  | syncLost => exact execSyncLost_keeps
  | syncGeneratorStart r v => exact execSyncGeneratorStart_keeps
  | syncGeneratorStop r v => exact execSyncGeneratorStop_keeps
  | syncPulseGenerate => exact execSyncPulseGenerate_keeps
  | sqCtlStart r n => exact execSqCtlStart_keeps
  | launch n => exact execLaunch_keeps
  | sqCtlPause r n => exact execSqCtlPause_keeps
  | pauseApply n => exact execPauseApply_keeps
  | sqCtlResume r n => exact execSqCtlResume_keeps
  | resumeApply n => exact execResumeApply_keeps
  | sqCtlAbort r n => exact execSqCtlAbort_keeps
  | sqCtlHtrig r n => exact execSqCtlHtrig_keeps
  | sqHjmpWrite r n v => exact execSqHjmpWrite_keeps
  | hjumpApply n => exact execHjumpApply_keeps
  | segmentBoundary n => exact execSegmentBoundary_keeps
  | segWord n => exact execSegWord_keeps
  | loopWord n => exact execLoopWord_keeps
  | endlWord n => exact execEndlWord_keeps
  | callWord n => exact execCallWord_keeps
  | retWord n => exact execRetWord_keeps
  | jmpWord n => exact execJmpWord_keeps
  | jfWord n => exact execJfWord_keeps
  | jpWord n => exact execJpWord_keeps
  | jflWord n => exact execJflWord_keeps
  | matchWord n => exact execMatchWord_keeps
  | waittWord n => exact execWaittWord_keeps
  | rdvWord n => exact execRdvWord_keeps
  | markWord n => exact execMarkWord_keeps
  | flagWord n => exact execFlagWord_keeps
  | tsetWord n => exact execTsetWord_keeps
  | stopWord n => exact execStopWord_keeps
  | illegalOpcode n => exact execIllegalOpcode_keeps
  | drain n => exact execDrain_keeps
  | waitResume n => exact execWaitResume_keeps
  | waittTimeout n => exact execWaittTimeout_keeps
  | rdvTimeout n => exact execRdvTimeout_keeps
  | rendezvousRelease g => exact execRendezvousRelease_keeps
  | rendezvousStall => exact execRendezvousStall_keeps
  | shSiteWrite r sh v => exact execShSiteWrite_keeps
  | siteFlagSet r k v => exact execSiteFlagSet_keeps
  | siteFlagClear r k v => exact execSiteFlagClear_keeps
  | sharedFlagApply => exact execSharedFlagApply_keeps
  | atPulse r v => exact execAtPulse_keeps
  | atLineApply => exact execAtLineApply_keeps
  | hopperFetch n => exact execHopperFetch_keeps
  | hopperDataArrival n data ecc => exact execHopperDataArrival_keeps
  | baleCheck n => exact execBaleCheck_keeps
  | hostProducerWrite r n v => exact execHostProducerWrite_keeps
  | endToken n lane => exact execEndToken_keeps
  | litToken n lane => exact execLitToken_keeps
  | repToken n lane => exact execRepToken_keeps
  | dictToken n lane => exact execDictToken_keeps
  | xorToken n lane => exact execXorToken_keeps
  | reservedToken n lane => exact execReservedToken_keeps
  | bar2Write a bytes => exact execBar2Write_keeps
  | compareResultArrival => exact execCompareResultArrival_keeps
  | underrunMark => exact execUnderrunMark_keeps
  | recordWrite => exact execRecordWrite_keeps
  | recordExport => exact execRecordExport_keeps
  | datalogConsumerWrite r v => exact execDatalogConsumerWrite_keeps
  | gleanerCountClear r n => exact execGleanerCountClear_keeps
  | bitmapUpdate => exact execBitmapUpdate_keeps
  | qdrAddressParityError port => exact execQdrAddressParityError_keeps
  | bitmapReadoutStart r v => exact execBitmapReadoutStart_keeps
  | bitmapReadoutDone => exact execBitmapReadoutDone_keeps
  | scanStart r => exact execScanStart_keeps
  | scanPeriodStart => exact execScanPeriodStart_keeps
  | scanTriggerStart => exact execScanTriggerStart_keeps
  | scanGroupStart => exact execScanGroupStart_keeps
  | abusSwitchClose bus => exact execAbusSwitchClose_keeps
  | scanResultQueue raw => exact execScanResultQueue_keeps
  | scanQueueCopy => exact execScanQueueCopy_keeps
  | scanAbort r => exact execScanAbort_keeps
  | referenceSelect r v inWindow => exact execReferenceSelect_keeps
  | referenceSettled => exact execReferenceSettled_keeps
  | extReferenceFallback => exact execExtReferenceFallback_keeps
  | singleRunStart r n => exact execSingleRunStart_keeps
  | singleRunStop r n => exact execSingleRunStop_keeps
  | singleBlockWrite n raw => exact execSingleBlockWrite_keeps
  | urgentRequest r n ch v => exact execUrgentRequest_keeps
  | urgentResult n raw => exact execUrgentResult_keeps
  | acqArm r => exact execAcqArm_keeps
  | armInstant => exact execArmInstant_keeps
  | pretriggerFull => exact execPretriggerFull_keeps
  | triggerAccept raws pats => exact execTriggerAccept_keeps
  | acqForce r => exact execAcqForce_keeps
  | recordLastSample raws => exact execRecordLastSample_keeps
  | recordOverflow => exact execRecordOverflow_keeps
  | recordComplete => exact execRecordComplete_keeps
  | acqStop r => exact execAcqStop_keeps
  | acqAbort r => exact execAcqAbort_keeps
  | acqRelease r v => exact execAcqRelease_keeps
  | heldItemAccept => exact execHeldItemAccept_keeps
  | timeNowRead => exact execTimeNowRead_keeps
  | stepRequest r => exact execStepRequest_keeps
  | stepApply => exact execStepApply_keeps
  | offsetSubmit r v => exact execOffsetSubmit_keeps
  | adjWrite r v => exact execAdjWrite_keeps
  | holdRequest r => exact execHoldRequest_keeps
  | watchdogExpire => exact execWatchdogExpire_keeps
  | sharedAdjApply => exact execSharedAdjApply_keeps
  | frameReceive p t frame good => exact execFrameReceive_keeps
  | frameTransmit p t slot => exact execFrameTransmit_keeps
  | ethLinkChange p up => exact execEthLinkChange_keeps
  | datagramSend p => exact execDatagramSend_keeps
  | convProcedure r => exact execConvProcedure_keeps
  | levelProcedure r => exact execLevelProcedure_keeps
  | cmpProcedure r => exact execCmpProcedure_keeps
  | impProcedure r => exact execImpProcedure_keeps
  | deskewProcedure r => exact execDeskewProcedure_keeps
  | loopCalibration r => exact execLoopCalibration_keeps
  | mcskewProcedure r => exact execMcskewProcedure_keeps
  | eyeProcedure r => exact execEyeProcedure_keeps
  | syszProcedure r => exact execSyszProcedure_keeps
  | sysfProcedure r => exact execSysfProcedure_keeps
  | unitCommit m => exact execUnitCommit_keeps
  | procedureEnd => exact execProcedureEnd_keeps
  | winnAbort r => exact execWinnAbort_keeps
  | autoLoop => exact execAutoLoop_keeps
  | imgload r => exact execImgload_keeps
  | flashload r => exact execFlashload_keeps
  | imgsave r => exact execImgsave_keeps
  | flashsave r => exact execFlashsave_keeps
  | imageOperationDone data readOk => exact execImageOperationDone_keeps
  | nextWord u k at_ w sig load => exact execNextWord_keeps
  | branchMicroword u k at_ w sig load => exact execBranchMicroword_keeps
  | cbranchMicroword u k at_ w sig load => exact execCbranchMicroword_keeps
  | microCall u k at_ w sig load => exact execMicroCall_keeps
  | ccallMicroword u k at_ w sig load => exact execCcallMicroword_keeps
  | microRet u k at_ w sig load => exact execMicroRet_keeps
  | dispatchMicroword u k at_ w sig disp load => exact execDispatchMicroword_keeps
  | microEnd u k at_ w sig load => exact execMicroEnd_keeps
  | microwordWaitEnd u k w cycles sig disp load => exact execMicrowordWaitEnd_keeps
  | brewerRun r n v => exact execBrewerRun_keeps
  | brewerHold r n v => exact execBrewerHold_keeps
  | brewerInstruction n x => exact execBrewerInstruction_keeps
  | machineTimerInterrupt n => exact execMachineTimerInterrupt_keeps
  | baristaTake n x => exact execBaristaTake_keeps
  | baristaTry n x => exact execBaristaTry_keeps
  | baristaDone n x => exact execBaristaDone_keeps
  | baristaSub n x => exact execBaristaSub_keeps
  | baristaCancel n x => exact execBaristaCancel_keeps
  | brstSubgo r => exact execBrstSubgo_keeps
  | brstCancel r token => exact execBrstCancel_keeps
  | itemDispatch => exact execItemDispatch_keeps
  | completionReport => exact execCompletionReport_keeps
  | dispatchTimeout => exact execDispatchTimeout_keeps
  | bwDoor r n v => exact execBwDoor_keeps
  | peakClear r => exact execPeakClear_keeps
  | histogramClear r => exact execHistogramClear_keeps
  | loadWindowEnd => exact execLoadWindowEnd_keeps
  | cntLRead id => exact execCntLRead_keeps
  | counterWrite r id hi v events => exact execCounterWrite_keeps
  | counterClearAll r coll => exact execCounterClearAll_keeps
  | snapshotDemand r => exact execSnapshotDemand_keeps
  | snapshotInstant => exact execSnapshotInstant_keeps
  | dumpComplete ecc => exact execDumpComplete_keeps
  | ddrRequest reqs => exact execDdrRequest_keeps
  | ddrAlert n a cls => exact execDdrAlert_keeps
  | ddrUnfreeze r n => exact execDdrUnfreeze_keeps
  | refreshTick n => exact execRefreshTick_keeps
  | refreshSet n waiting => exact execRefreshSet_keeps
  | mr4Read n ranks => exact execMr4Read_keeps
  | selfRefreshEntry r n => exact execSelfRefreshEntry_keeps
  | srexit r n ranks fits => exact execSrexit_keeps
  | ddrTrain n t => exact execDdrTrain_keeps
  | ddrRetrain n delays => exact execDdrRetrain_keeps
  | zqcal n status => exact execZqcal_keeps
  | ddrCfgWrite r v => exact execDdrCfgWrite_keeps
  | dcCfgWrite r n v => exact execDcCfgWrite_keeps
  | qdrTrain r qa qb => exact execQdrTrain_keeps
  | bar4Access a len data ecc => exact execBar4Access_keeps
  | conventionalReset => exact execConventionalReset_keeps
  | functionLevelReset => exact execFunctionLevelReset_keeps
  | abiSelect r v => exact execAbiSelect_keeps
  | ringEnable r n en => exact execRingEnable_keeps
  | commandFetch n cmd => exact execCommandFetch_keeps
  | nopCommand n => exact execNopCommand_keeps
  | dmaCommand n units => exact execDmaCommand_keeps
  | regwrCommand n => exact execRegwrCommand_keeps
  | bsubCommand n => exact execBsubCommand_keeps
  | bcancelCommand n => exact execBcancelCommand_keeps
  | progloadCommand n words => exact execProgloadCommand_keeps
  | multiSiteStart n => exact execMultiSiteStart_keeps
  | commandCompletion n => exact execCommandCompletion_keeps
  | amlTrain p t => exact execAmlTrain_keeps
  | amlRetrain r p => exact execAmlRetrain_keeps
  | amlTrainRetry p => exact execAmlTrainRetry_keeps
  | amlLinkDown p reason lost => exact execAmlLinkDown_keeps
  | capxFlit p chip chips major minor reach => exact execCapxFlit_keeps
  | ackFlit p ack nak => exact execAckFlit_keeps
  | idleFlit p ack nak => exact execIdleFlit_keeps
  | syncmFlit p h cnt => exact execSyncmFlit_keeps
  | trigFlit p h line f => exact execTrigFlit_keeps
  | flagFlit p h idx op rank f => exact execFlagFlit_keeps
  | rdvFlit p h g m f => exact execRdvFlit_keeps
  | spanFlit p h sp m f => exact execSpanFlit_keeps
  | timeFlit p h m f => exact execTimeFlit_keeps
  | calFlit p h m => exact execCalFlit_keeps
  | faultSourceAssert slots => exact execFaultSourceAssert_keeps
  | wireFault slot high => exact execWireFault_keeps
  | shadowWindowEnd slot => exact execShadowWindowEnd_keeps
  | faultSourceClear slot temps => exact execFaultSourceClear_keeps
  | quietPeriodEnd slot sr => exact execQuietPeriodEnd_keeps
  | lockClear r slot => exact execLockClear_keeps
  | faultInjection r v => exact execFaultInjection_keeps
  | injectionEnd => exact execInjectionEnd_keeps
  | siloArm v => exact execSiloArm_keeps
  | siloArmExpire => exact execSiloArmExpire_keeps
  | siloForce i3c v => exact execSiloForce_keeps
  | safeN active => exact execSafeN_keeps
  | groupCurrentLimit g meas => exact execGroupCurrentLimit_keeps
  | thermalWarning temps => exact execThermalWarning_keeps
  | thermalCritical temps => exact execThermalCritical_keeps
  | lockstepMismatch => exact execLockstepMismatch_keeps
  | supplyOutOfWindow => exact execSupplyOutOfWindow_keeps
  | pllUnlock absent => exact execPllUnlock_keeps
  | idleRequest r => exact execIdleRequest_keeps
  | standbyRequest r => exact execStandbyRequest_keeps
  | calRequest r => exact execCalRequest_keeps
  | factoryRequest r => exact execFactoryRequest_keeps
  | offRequest r => exact execOffRequest_keeps
  | restartRequest r ref b => exact execRestartRequest_keeps
  | powerRequest r w v => exact execPowerRequest_keeps
  | powerUpComplete => exact execPowerUpComplete_keeps
  | powerDownComplete d => exact execPowerDownComplete_keeps
  | sealDevice r key => exact execSealDevice_keeps
  | zeroise r => exact execZeroise_keeps
  | zeroisationDone => exact execZeroisationDone_keeps
  | keyLoad r => exact execKeyLoad_keeps
  | debugLevelRequest r level => exact execDebugLevelRequest_keeps
  | tokenSubmit r target => exact execTokenSubmit_keeps
  | tokenVerified => exact execTokenVerified_keeps
  | entdaa addr => exact execEntdaa_keeps
  | i3cSetOffset off => exact execI3cSetOffset_keeps
  | i3cWrite off v => exact execI3cWrite_keeps
  | i3cRead => exact execI3cRead_keeps
  | bypass => exact execBypass_keeps
  | idcode => exact execIdcode_keeps
  | samplePreload pins preload => exact execSamplePreload_keeps
  | extest pins => exact execExtest_keeps
  | powerOnResetRelease ref b => exact execPowerOnResetRelease_keeps
  | vddaonLoss => exact execVddaonLoss_keeps
  | refclkDetect c => exact execRefclkDetect_keeps
  | bootEnd us => exact execBootEnd_keeps
  | trigInEdge n t width => exact execTrigInEdge_keeps
  | trigOutPulseEnd k => exact execTrigOutPulseEnd_keeps
  | pcieLinkChange speed width => exact execPcieLinkChange_keeps
  | busMasterEnableWrite en => exact execBusMasterEnableWrite_keeps
  | flitCrcError p => exact execFlitCrcError_keeps
  | debugModuleRequest n q => exact execDebugModuleRequest_keeps

/-- The bit of a part in a mask. -/
def Part.bit : Part → Nat
  | .regs k => 64 + pageType k
  | .now => 0
  | .staged => 2
  | .pageOps => 3
  | .ch => 4
  | .sh => 5
  | .cg => 6
  | .clk => 7
  | .sq => 8
  | .hop => 9
  | .results => 10
  | .aml => 11
  | .amlOseq => 12
  | .amlSeen => 13
  | .gln => 14
  | .brst => 15
  | .cnt => 16
  | .scan => 17
  | .slice => 18
  | .acq => 19
  | .dc => 20
  | .ddrReplies => 21
  | .micro => 22
  | .bwc => 23
  | .winn => 24
  | .tap => 25
  | .mgmt => 26
  | .keys => 27
  | .host => 28
  | .eth => 29
  | .time => 30
  | .flt => 31
  | .safety => 32
  | .free => 33
  | .rdata => 34
  | .granary => 36
  | .granaryErrors => 37
  | .dictionaries => 38
  | .capture => 39
  | .recordMem => 40
  | .recordHeaders => 41
  | .localMem => 42
  | .dram => 43
  | .qdrMem => 44
  | .flash => 45
  | .hostMem => 46
  | .pending => 35

theorem veil_off {α : Type} {m i : Nat} {d a b : α} (h : m.testBit i = false)
    (e : (bif m.testBit i then d else a) = bif m.testBit i then d else b) : a = b := by
  rw [h] at e
  exact e

/-- A part that the mask does not name is as before. -/
theorem Keeps.same {m : Nat} {s t : State} (h : Keeps m s t) (q : Part) (hq : m.testBit q.bit = false) : q.same s t := by
  have e := h.frame
  simp only [State.veiled, State.mk.injEq, Mems.mk.injEq, veil] at e
  cases q with
  | regs k =>
    intro n f i j
    unfold State.rd tabGet
    rw [h.kinds]
    rw [fieldKey_kind]
    exact hq
  | now => exact veil_off hq (e.1)
  | staged => exact veil_off hq (e.2.2.1)
  | pageOps => exact veil_off hq (e.2.2.2.1)
  | ch => exact veil_off hq (e.2.2.2.2.1)
  | sh => exact veil_off hq (e.2.2.2.2.2.1)
  | cg => exact veil_off hq (e.2.2.2.2.2.2.1)
  | clk => exact veil_off hq (e.2.2.2.2.2.2.2.1)
  | sq => exact veil_off hq (e.2.2.2.2.2.2.2.2.1)
  | hop => exact veil_off hq (e.2.2.2.2.2.2.2.2.2.1)
  | results => exact veil_off hq (e.2.2.2.2.2.2.2.2.2.2.1)
  | granary => exact veil_off hq ((e.2.2.2.2.2.2.2.2.2.2.2.1).1)
  | granaryErrors => exact veil_off hq ((e.2.2.2.2.2.2.2.2.2.2.2.1).2.1)
  | dictionaries => exact veil_off hq ((e.2.2.2.2.2.2.2.2.2.2.2.1).2.2.1)
  | capture => exact veil_off hq ((e.2.2.2.2.2.2.2.2.2.2.2.1).2.2.2.1)
  | recordMem => exact veil_off hq ((e.2.2.2.2.2.2.2.2.2.2.2.1).2.2.2.2.1)
  | recordHeaders => exact veil_off hq ((e.2.2.2.2.2.2.2.2.2.2.2.1).2.2.2.2.2.1)
  | localMem => exact veil_off hq ((e.2.2.2.2.2.2.2.2.2.2.2.1).2.2.2.2.2.2.1)
  | dram => exact veil_off hq ((e.2.2.2.2.2.2.2.2.2.2.2.1).2.2.2.2.2.2.2.1)
  | qdrMem => exact veil_off hq ((e.2.2.2.2.2.2.2.2.2.2.2.1).2.2.2.2.2.2.2.2.1)
  | flash => exact veil_off hq ((e.2.2.2.2.2.2.2.2.2.2.2.1).2.2.2.2.2.2.2.2.2.1)
  | hostMem => exact veil_off hq ((e.2.2.2.2.2.2.2.2.2.2.2.1).2.2.2.2.2.2.2.2.2.2)
  | aml => exact veil_off hq (e.2.2.2.2.2.2.2.2.2.2.2.2.1)
  | amlOseq => exact veil_off hq (e.2.2.2.2.2.2.2.2.2.2.2.2.2.1)
  | amlSeen => exact veil_off hq (e.2.2.2.2.2.2.2.2.2.2.2.2.2.2.1)
  | gln => exact veil_off hq (e.2.2.2.2.2.2.2.2.2.2.2.2.2.2.2.1)
  | brst => exact veil_off hq (e.2.2.2.2.2.2.2.2.2.2.2.2.2.2.2.2.1)
  | cnt => exact veil_off hq (e.2.2.2.2.2.2.2.2.2.2.2.2.2.2.2.2.2.1)
  | scan => exact veil_off hq (e.2.2.2.2.2.2.2.2.2.2.2.2.2.2.2.2.2.2.1)
  | slice => exact veil_off hq (e.2.2.2.2.2.2.2.2.2.2.2.2.2.2.2.2.2.2.2.1)
  | acq => exact veil_off hq (e.2.2.2.2.2.2.2.2.2.2.2.2.2.2.2.2.2.2.2.2.1)
  | dc => exact veil_off hq (e.2.2.2.2.2.2.2.2.2.2.2.2.2.2.2.2.2.2.2.2.2.1)
  | ddrReplies => exact veil_off hq (e.2.2.2.2.2.2.2.2.2.2.2.2.2.2.2.2.2.2.2.2.2.2.1)
  | micro => exact veil_off hq (e.2.2.2.2.2.2.2.2.2.2.2.2.2.2.2.2.2.2.2.2.2.2.2.1)
  | bwc => exact veil_off hq (e.2.2.2.2.2.2.2.2.2.2.2.2.2.2.2.2.2.2.2.2.2.2.2.2.1)
  | winn => exact veil_off hq (e.2.2.2.2.2.2.2.2.2.2.2.2.2.2.2.2.2.2.2.2.2.2.2.2.2.1)
  | tap => exact veil_off hq (e.2.2.2.2.2.2.2.2.2.2.2.2.2.2.2.2.2.2.2.2.2.2.2.2.2.2.1)
  | mgmt => exact veil_off hq (e.2.2.2.2.2.2.2.2.2.2.2.2.2.2.2.2.2.2.2.2.2.2.2.2.2.2.2.1)
  | keys => exact veil_off hq (e.2.2.2.2.2.2.2.2.2.2.2.2.2.2.2.2.2.2.2.2.2.2.2.2.2.2.2.2.1)
  | host => exact veil_off hq (e.2.2.2.2.2.2.2.2.2.2.2.2.2.2.2.2.2.2.2.2.2.2.2.2.2.2.2.2.2.1)
  | eth => exact veil_off hq (e.2.2.2.2.2.2.2.2.2.2.2.2.2.2.2.2.2.2.2.2.2.2.2.2.2.2.2.2.2.2.1)
  | time => exact veil_off hq (e.2.2.2.2.2.2.2.2.2.2.2.2.2.2.2.2.2.2.2.2.2.2.2.2.2.2.2.2.2.2.2.1)
  | flt => exact veil_off hq (e.2.2.2.2.2.2.2.2.2.2.2.2.2.2.2.2.2.2.2.2.2.2.2.2.2.2.2.2.2.2.2.2.1)
  | safety => exact veil_off hq (e.2.2.2.2.2.2.2.2.2.2.2.2.2.2.2.2.2.2.2.2.2.2.2.2.2.2.2.2.2.2.2.2.2.1)
  | free => exact veil_off hq (e.2.2.2.2.2.2.2.2.2.2.2.2.2.2.2.2.2.2.2.2.2.2.2.2.2.2.2.2.2.2.2.2.2.2.1)
  | rdata => exact veil_off hq (e.2.2.2.2.2.2.2.2.2.2.2.2.2.2.2.2.2.2.2.2.2.2.2.2.2.2.2.2.2.2.2.2.2.2.2.1)
  | pending => exact veil_off hq (e.2.2.2.2.2.2.2.2.2.2.2.2.2.2.2.2.2.2.2.2.2.2.2.2.2.2.2.2.2.2.2.2.2.2.2.2)

end Sys2Proof.Machine
end

