-- ==== Sys2Proof/Laws/PerInstr.lean ====
section
/-! SUPPORT. What holds of every command as syntax, one lemma per constructor. -/

namespace Sys2Proof.Laws.PageNamed

open Sys2Proof.Machine

/-- The page index gives a page of the device back from its base. -/
theorem pageOf_base : ∀ p : Page, p.ok = true → pageOf (pageBase p) = some p := by
  intro ⟨k, n⟩ h
  have hn : n < pageCount k := by simpa [Page.ok] using h
  have all : ∀ k ∈ allKinds, ∀ n < pageCount k, pageOf (pageBase ⟨k, n⟩) = some ⟨k, n⟩ := by decide
  exact all k (by cases k <;> decide) n hn

/-- A well-formed command names pages of the device only: each is the page that holds its base. -/
def Statement (i : Instr) : Prop := i.wf = true → ∀ p ∈ i.pages, pageOf (pageBase p) = some p

theorem registerWrite r a len v : Statement (.registerWrite r a len v) := fun _ _ h => nomatch h
theorem rcRead r a len : Statement (.rcRead r a len) := fun _ _ h => nomatch h
theorem countLowRead c : Statement (.countLowRead c) := fun _ _ h => nomatch h
theorem pageCommitGo r p : Statement (.pageCommitGo r p) := by
  intro h q hq
  cases List.mem_singleton.mp hq
  exact pageOf_base p h

theorem commitApply p : Statement (.commitApply p) := by
  intro h q hq
  cases List.mem_singleton.mp hq
  exact pageOf_base p h

theorem pageCommitDrop r p : Statement (.pageCommitDrop r p) := by
  intro h q hq
  cases List.mem_singleton.mp hq
  exact pageOf_base p h

theorem pageReset r p : Statement (.pageReset r p) := by
  intro h q hq
  cases List.mem_singleton.mp hq
  exact pageOf_base p h

theorem pageResetRelease p : Statement (.pageResetRelease p) := by
  intro h q hq
  cases List.mem_singleton.mp hq
  exact pageOf_base p h

theorem pageEnableWrite r p en : Statement (.pageEnableWrite r p en) := by
  intro h q hq
  cases List.mem_singleton.mp hq
  exact pageOf_base p h

theorem pagePowerRequest r p on : Statement (.pagePowerRequest r p on) := by
  intro h q hq
  cases List.mem_singleton.mp hq
  exact pageOf_base p h

theorem pageFltlClear r p a b : Statement (.pageFltlClear r p a b) := by
  intro h q hq
  cases List.mem_singleton.mp hq
  exact pageOf_base p (Bool.and_eq_true_iff.mp h).1

theorem overcurrentTrip ch : Statement (.overcurrentTrip ch) := fun _ _ h => nomatch h
theorem ocConditionClear ch : Statement (.ocConditionClear ch) := fun _ _ h => nomatch h
theorem outOfRangeTrip ch : Statement (.outOfRangeTrip ch) := fun _ _ h => nomatch h
theorem oorConditionClear ch : Statement (.oorConditionClear ch) := fun _ _ h => nomatch h
theorem pmuCtlWrite r ch v : Statement (.pmuCtlWrite r ch v) := fun _ _ h => nomatch h
theorem pmuClampWrite r ch v : Statement (.pmuClampWrite r ch v) := fun _ _ h => nomatch h
theorem openPinCheckStart r sh v : Statement (.openPinCheckStart r sh v) := fun _ _ h => nomatch h
theorem opcSettleElapsed sh : Statement (.opcSettleElapsed sh) := fun _ _ h => nomatch h
theorem opcSamplingEnd sh samples : Statement (.opcSamplingEnd sh samples) := fun _ _ h => nomatch h
theorem vectorStart n : Statement (.vectorStart n) := fun _ _ h => nomatch h
theorem edgeEvent ch seen : Statement (.edgeEvent ch seen) := fun _ _ h => nomatch h
theorem clockGeneratorStart r n v : Statement (.clockGeneratorStart r n v) := fun _ _ h => nomatch h
theorem clockGeneratorStop r n v : Statement (.clockGeneratorStop r n v) := fun _ _ h => nomatch h
theorem cgPhaseReset n : Statement (.cgPhaseReset n) := fun _ _ h => nomatch h
theorem syncDetected refclk : Statement (.syncDetected refclk) := fun _ _ h => nomatch h
theorem syncLost : Statement .syncLost := fun _ _ h => nomatch h
theorem syncGeneratorStart r v : Statement (.syncGeneratorStart r v) := fun _ _ h => nomatch h
theorem syncGeneratorStop r v : Statement (.syncGeneratorStop r v) := fun _ _ h => nomatch h
theorem syncPulseGenerate : Statement .syncPulseGenerate := fun _ _ h => nomatch h
theorem sqCtlStart r n : Statement (.sqCtlStart r n) := fun _ _ h => nomatch h
theorem launch n : Statement (.launch n) := fun _ _ h => nomatch h
theorem sqCtlPause r n : Statement (.sqCtlPause r n) := fun _ _ h => nomatch h
theorem pauseApply n : Statement (.pauseApply n) := fun _ _ h => nomatch h
theorem sqCtlResume r n : Statement (.sqCtlResume r n) := fun _ _ h => nomatch h
theorem resumeApply n : Statement (.resumeApply n) := fun _ _ h => nomatch h
theorem sqCtlAbort r n : Statement (.sqCtlAbort r n) := fun _ _ h => nomatch h
theorem sqCtlHtrig r n : Statement (.sqCtlHtrig r n) := fun _ _ h => nomatch h
theorem sqHjmpWrite r n v : Statement (.sqHjmpWrite r n v) := fun _ _ h => nomatch h
theorem hjumpApply n : Statement (.hjumpApply n) := fun _ _ h => nomatch h
theorem segmentBoundary n : Statement (.segmentBoundary n) := fun _ _ h => nomatch h
theorem segWord n : Statement (.segWord n) := fun _ _ h => nomatch h
theorem loopWord n : Statement (.loopWord n) := fun _ _ h => nomatch h
theorem endlWord n : Statement (.endlWord n) := fun _ _ h => nomatch h
theorem callWord n : Statement (.callWord n) := fun _ _ h => nomatch h
theorem retWord n : Statement (.retWord n) := fun _ _ h => nomatch h
theorem jmpWord n : Statement (.jmpWord n) := fun _ _ h => nomatch h
theorem jfWord n : Statement (.jfWord n) := fun _ _ h => nomatch h
theorem jpWord n : Statement (.jpWord n) := fun _ _ h => nomatch h
theorem jflWord n : Statement (.jflWord n) := fun _ _ h => nomatch h
theorem matchWord n : Statement (.matchWord n) := fun _ _ h => nomatch h
theorem waittWord n : Statement (.waittWord n) := fun _ _ h => nomatch h
theorem rdvWord n : Statement (.rdvWord n) := fun _ _ h => nomatch h
theorem markWord n : Statement (.markWord n) := fun _ _ h => nomatch h
theorem flagWord n : Statement (.flagWord n) := fun _ _ h => nomatch h
theorem tsetWord n : Statement (.tsetWord n) := fun _ _ h => nomatch h
theorem stopWord n : Statement (.stopWord n) := fun _ _ h => nomatch h
theorem illegalOpcode n : Statement (.illegalOpcode n) := fun _ _ h => nomatch h
theorem drain n : Statement (.drain n) := fun _ _ h => nomatch h
theorem waitResume n : Statement (.waitResume n) := fun _ _ h => nomatch h
theorem waittTimeout n : Statement (.waittTimeout n) := fun _ _ h => nomatch h
theorem rdvTimeout n : Statement (.rdvTimeout n) := fun _ _ h => nomatch h
theorem rendezvousRelease g : Statement (.rendezvousRelease g) := fun _ _ h => nomatch h
theorem rendezvousStall : Statement .rendezvousStall := fun _ _ h => nomatch h
theorem shSiteWrite r sh v : Statement (.shSiteWrite r sh v) := fun _ _ h => nomatch h
theorem siteFlagSet r i v : Statement (.siteFlagSet r i v) := fun _ _ h => nomatch h
theorem siteFlagClear r i v : Statement (.siteFlagClear r i v) := fun _ _ h => nomatch h
theorem sharedFlagApply : Statement .sharedFlagApply := fun _ _ h => nomatch h
theorem atPulse r v : Statement (.atPulse r v) := fun _ _ h => nomatch h
theorem atLineApply : Statement .atLineApply := fun _ _ h => nomatch h
theorem hopperFetch n : Statement (.hopperFetch n) := fun _ _ h => nomatch h
theorem hopperDataArrival n data ecc : Statement (.hopperDataArrival n data ecc) := fun _ _ h => nomatch h
theorem baleCheck n : Statement (.baleCheck n) := fun _ _ h => nomatch h
theorem hostProducerWrite r n v : Statement (.hostProducerWrite r n v) := fun _ _ h => nomatch h
theorem endToken n lane : Statement (.endToken n lane) := fun _ _ h => nomatch h
theorem litToken n lane : Statement (.litToken n lane) := fun _ _ h => nomatch h
theorem repToken n lane : Statement (.repToken n lane) := fun _ _ h => nomatch h
theorem dictToken n lane : Statement (.dictToken n lane) := fun _ _ h => nomatch h
theorem xorToken n lane : Statement (.xorToken n lane) := fun _ _ h => nomatch h
theorem reservedToken n lane : Statement (.reservedToken n lane) := fun _ _ h => nomatch h
theorem bar2Write a bytes : Statement (.bar2Write a bytes) := fun _ _ h => nomatch h
theorem compareResultArrival : Statement .compareResultArrival := fun _ _ h => nomatch h
theorem underrunMark : Statement .underrunMark := fun _ _ h => nomatch h
theorem recordWrite : Statement .recordWrite := fun _ _ h => nomatch h
theorem recordExport : Statement .recordExport := fun _ _ h => nomatch h
theorem datalogConsumerWrite r v : Statement (.datalogConsumerWrite r v) := fun _ _ h => nomatch h
theorem gleanerCountClear r n : Statement (.gleanerCountClear r n) := fun _ _ h => nomatch h
theorem bitmapUpdate : Statement .bitmapUpdate := fun _ _ h => nomatch h
theorem qdrAddressParityError port : Statement (.qdrAddressParityError port) := fun _ _ h => nomatch h
theorem bitmapReadoutStart r v : Statement (.bitmapReadoutStart r v) := fun _ _ h => nomatch h
theorem bitmapReadoutDone : Statement .bitmapReadoutDone := fun _ _ h => nomatch h
theorem scanStart r : Statement (.scanStart r) := fun _ _ h => nomatch h
theorem scanPeriodStart : Statement .scanPeriodStart := fun _ _ h => nomatch h
theorem scanTriggerStart : Statement .scanTriggerStart := fun _ _ h => nomatch h
theorem scanGroupStart : Statement .scanGroupStart := fun _ _ h => nomatch h
theorem abusSwitchClose bus : Statement (.abusSwitchClose bus) := fun _ _ h => nomatch h
theorem scanResultQueue raw : Statement (.scanResultQueue raw) := fun _ _ h => nomatch h
theorem scanQueueCopy : Statement .scanQueueCopy := fun _ _ h => nomatch h
theorem scanAbort r : Statement (.scanAbort r) := fun _ _ h => nomatch h
theorem referenceSelect r v inWindow : Statement (.referenceSelect r v inWindow) := fun _ _ h => nomatch h
theorem referenceSettled : Statement .referenceSettled := fun _ _ h => nomatch h
theorem extReferenceFallback : Statement .extReferenceFallback := fun _ _ h => nomatch h
theorem singleRunStart r n : Statement (.singleRunStart r n) := fun _ _ h => nomatch h
theorem singleRunStop r n : Statement (.singleRunStop r n) := fun _ _ h => nomatch h
theorem singleBlockWrite n raw : Statement (.singleBlockWrite n raw) := fun _ _ h => nomatch h
theorem urgentRequest r n ch v : Statement (.urgentRequest r n ch v) := fun _ _ h => nomatch h
theorem urgentResult n raw : Statement (.urgentResult n raw) := fun _ _ h => nomatch h
theorem acqArm r : Statement (.acqArm r) := fun _ _ h => nomatch h
theorem armInstant : Statement .armInstant := fun _ _ h => nomatch h
theorem pretriggerFull : Statement .pretriggerFull := fun _ _ h => nomatch h
theorem triggerAccept raws pats : Statement (.triggerAccept raws pats) := fun _ _ h => nomatch h
theorem acqForce r : Statement (.acqForce r) := fun _ _ h => nomatch h
theorem recordLastSample raws : Statement (.recordLastSample raws) := fun _ _ h => nomatch h
theorem recordOverflow : Statement .recordOverflow := fun _ _ h => nomatch h
theorem recordComplete : Statement .recordComplete := fun _ _ h => nomatch h
theorem acqStop r : Statement (.acqStop r) := fun _ _ h => nomatch h
theorem acqAbort r : Statement (.acqAbort r) := fun _ _ h => nomatch h
theorem acqRelease r v : Statement (.acqRelease r v) := fun _ _ h => nomatch h
theorem heldItemAccept : Statement .heldItemAccept := fun _ _ h => nomatch h
theorem timeNowRead : Statement .timeNowRead := fun _ _ h => nomatch h
theorem stepRequest r : Statement (.stepRequest r) := fun _ _ h => nomatch h
theorem stepApply : Statement .stepApply := fun _ _ h => nomatch h
theorem offsetSubmit r v : Statement (.offsetSubmit r v) := fun _ _ h => nomatch h
theorem adjWrite r v : Statement (.adjWrite r v) := fun _ _ h => nomatch h
theorem holdRequest r : Statement (.holdRequest r) := fun _ _ h => nomatch h
theorem watchdogExpire : Statement .watchdogExpire := fun _ _ h => nomatch h
theorem sharedAdjApply : Statement .sharedAdjApply := fun _ _ h => nomatch h
theorem frameReceive p t frame good : Statement (.frameReceive p t frame good) := fun _ _ h => nomatch h
theorem frameTransmit p t slot : Statement (.frameTransmit p t slot) := fun _ _ h => nomatch h
theorem ethLinkChange p up : Statement (.ethLinkChange p up) := fun _ _ h => nomatch h
theorem datagramSend p : Statement (.datagramSend p) := fun _ _ h => nomatch h
theorem convProcedure r : Statement (.convProcedure r) := fun _ _ h => nomatch h
theorem levelProcedure r : Statement (.levelProcedure r) := fun _ _ h => nomatch h
theorem cmpProcedure r : Statement (.cmpProcedure r) := fun _ _ h => nomatch h
theorem impProcedure r : Statement (.impProcedure r) := fun _ _ h => nomatch h
theorem deskewProcedure r : Statement (.deskewProcedure r) := fun _ _ h => nomatch h
theorem loopCalibration r : Statement (.loopCalibration r) := fun _ _ h => nomatch h
theorem mcskewProcedure r : Statement (.mcskewProcedure r) := fun _ _ h => nomatch h
theorem eyeProcedure r : Statement (.eyeProcedure r) := fun _ _ h => nomatch h
theorem syszProcedure r : Statement (.syszProcedure r) := fun _ _ h => nomatch h
theorem sysfProcedure r : Statement (.sysfProcedure r) := fun _ _ h => nomatch h
theorem unitCommit m : Statement (.unitCommit m) := fun _ _ h => nomatch h
theorem procedureEnd : Statement .procedureEnd := fun _ _ h => nomatch h
theorem winnAbort r : Statement (.winnAbort r) := fun _ _ h => nomatch h
theorem autoLoop : Statement .autoLoop := fun _ _ h => nomatch h
theorem imgload r : Statement (.imgload r) := fun _ _ h => nomatch h
theorem flashload r : Statement (.flashload r) := fun _ _ h => nomatch h
theorem imgsave r : Statement (.imgsave r) := fun _ _ h => nomatch h
theorem flashsave r : Statement (.flashsave r) := fun _ _ h => nomatch h
theorem imageOperationDone data readOk : Statement (.imageOperationDone data readOk) := fun _ _ h => nomatch h
theorem nextWord u k at_ w sig load : Statement (.nextWord u k at_ w sig load) := fun _ _ h => nomatch h
theorem branchMicroword u k at_ w sig load : Statement (.branchMicroword u k at_ w sig load) := fun _ _ h => nomatch h
theorem cbranchMicroword u k at_ w sig load : Statement (.cbranchMicroword u k at_ w sig load) := fun _ _ h => nomatch h
theorem microCall u k at_ w sig load : Statement (.microCall u k at_ w sig load) := fun _ _ h => nomatch h
theorem ccallMicroword u k at_ w sig load : Statement (.ccallMicroword u k at_ w sig load) := fun _ _ h => nomatch h
theorem microRet u k at_ w sig load : Statement (.microRet u k at_ w sig load) := fun _ _ h => nomatch h
theorem dispatchMicroword u k at_ w sig disp load : Statement (.dispatchMicroword u k at_ w sig disp load) := fun _ _ h => nomatch h
theorem microEnd u k at_ w sig load : Statement (.microEnd u k at_ w sig load) := fun _ _ h => nomatch h
theorem microwordWaitEnd u k w cycles sig disp load : Statement (.microwordWaitEnd u k w cycles sig disp load) := fun _ _ h => nomatch h
theorem brewerRun r n v : Statement (.brewerRun r n v) := fun _ _ h => nomatch h
theorem brewerHold r n v : Statement (.brewerHold r n v) := fun _ _ h => nomatch h
theorem brewerInstruction n x : Statement (.brewerInstruction n x) := fun _ _ h => nomatch h
theorem machineTimerInterrupt n : Statement (.machineTimerInterrupt n) := fun _ _ h => nomatch h
theorem baristaTake n x : Statement (.baristaTake n x) := fun _ _ h => nomatch h
theorem baristaTry n x : Statement (.baristaTry n x) := fun _ _ h => nomatch h
theorem baristaDone n x : Statement (.baristaDone n x) := fun _ _ h => nomatch h
theorem baristaSub n x : Statement (.baristaSub n x) := fun _ _ h => nomatch h
theorem baristaCancel n x : Statement (.baristaCancel n x) := fun _ _ h => nomatch h
theorem brstSubgo r : Statement (.brstSubgo r) := fun _ _ h => nomatch h
theorem brstCancel r token : Statement (.brstCancel r token) := fun _ _ h => nomatch h
theorem itemDispatch : Statement .itemDispatch := fun _ _ h => nomatch h
theorem completionReport : Statement .completionReport := fun _ _ h => nomatch h
theorem dispatchTimeout : Statement .dispatchTimeout := fun _ _ h => nomatch h
theorem bwDoor r n v : Statement (.bwDoor r n v) := fun _ _ h => nomatch h
theorem peakClear r : Statement (.peakClear r) := fun _ _ h => nomatch h
theorem histogramClear r : Statement (.histogramClear r) := fun _ _ h => nomatch h
theorem loadWindowEnd : Statement .loadWindowEnd := fun _ _ h => nomatch h
theorem cntLRead id : Statement (.cntLRead id) := fun _ _ h => nomatch h
theorem counterWrite r id hi v events : Statement (.counterWrite r id hi v events) := fun _ _ h => nomatch h
theorem counterClearAll r coll : Statement (.counterClearAll r coll) := fun _ _ h => nomatch h
theorem snapshotDemand r : Statement (.snapshotDemand r) := fun _ _ h => nomatch h
theorem snapshotInstant : Statement .snapshotInstant := fun _ _ h => nomatch h
theorem dumpComplete ecc : Statement (.dumpComplete ecc) := fun _ _ h => nomatch h
theorem ddrRequest reqs : Statement (.ddrRequest reqs) := fun _ _ h => nomatch h
theorem ddrAlert n a cls : Statement (.ddrAlert n a cls) := fun _ _ h => nomatch h
theorem ddrUnfreeze r n : Statement (.ddrUnfreeze r n) := fun _ _ h => nomatch h
theorem refreshTick n : Statement (.refreshTick n) := fun _ _ h => nomatch h
theorem refreshSet n waiting : Statement (.refreshSet n waiting) := fun _ _ h => nomatch h
theorem mr4Read n ranks : Statement (.mr4Read n ranks) := fun _ _ h => nomatch h
theorem selfRefreshEntry r n : Statement (.selfRefreshEntry r n) := fun _ _ h => nomatch h
theorem srexit r n ranks fits : Statement (.srexit r n ranks fits) := fun _ _ h => nomatch h
theorem ddrTrain n t : Statement (.ddrTrain n t) := fun _ _ h => nomatch h
theorem ddrRetrain n delays : Statement (.ddrRetrain n delays) := fun _ _ h => nomatch h
theorem zqcal n status : Statement (.zqcal n status) := fun _ _ h => nomatch h
theorem ddrCfgWrite r v : Statement (.ddrCfgWrite r v) := fun _ _ h => nomatch h
theorem dcCfgWrite r n v : Statement (.dcCfgWrite r n v) := fun _ _ h => nomatch h
theorem qdrTrain r qa qb : Statement (.qdrTrain r qa qb) := fun _ _ h => nomatch h
theorem bar4Access a len data ecc : Statement (.bar4Access a len data ecc) := fun _ _ h => nomatch h
theorem conventionalReset : Statement .conventionalReset := fun _ _ h => nomatch h
theorem functionLevelReset : Statement .functionLevelReset := fun _ _ h => nomatch h
theorem abiSelect r v : Statement (.abiSelect r v) := fun _ _ h => nomatch h
theorem ringEnable r n en : Statement (.ringEnable r n en) := fun _ _ h => nomatch h
theorem commandFetch n cmd : Statement (.commandFetch n cmd) := fun _ _ h => nomatch h
theorem nopCommand n : Statement (.nopCommand n) := fun _ _ h => nomatch h
theorem dmaCommand n units : Statement (.dmaCommand n units) := fun _ _ h => nomatch h
theorem regwrCommand n : Statement (.regwrCommand n) := fun _ _ h => nomatch h
theorem bsubCommand n : Statement (.bsubCommand n) := fun _ _ h => nomatch h
theorem bcancelCommand n : Statement (.bcancelCommand n) := fun _ _ h => nomatch h
theorem progloadCommand n words : Statement (.progloadCommand n words) := fun _ _ h => nomatch h
theorem multiSiteStart n : Statement (.multiSiteStart n) := fun _ _ h => nomatch h
theorem commandCompletion n : Statement (.commandCompletion n) := fun _ _ h => nomatch h
theorem amlTrain p t : Statement (.amlTrain p t) := fun _ _ h => nomatch h
theorem amlRetrain r p : Statement (.amlRetrain r p) := fun _ _ h => nomatch h
theorem amlTrainRetry p : Statement (.amlTrainRetry p) := fun _ _ h => nomatch h
theorem amlLinkDown p reason lost : Statement (.amlLinkDown p reason lost) := fun _ _ h => nomatch h
theorem capxFlit p chip chips major minor reach : Statement (.capxFlit p chip chips major minor reach) := fun _ _ h => nomatch h
theorem ackFlit p ack nak : Statement (.ackFlit p ack nak) := fun _ _ h => nomatch h
theorem idleFlit p ack nak : Statement (.idleFlit p ack nak) := fun _ _ h => nomatch h
theorem syncmFlit p h cnt : Statement (.syncmFlit p h cnt) := fun _ _ h => nomatch h
theorem trigFlit p h line f : Statement (.trigFlit p h line f) := fun _ _ h => nomatch h
theorem flagFlit p h idx op rank f : Statement (.flagFlit p h idx op rank f) := fun _ _ h => nomatch h
theorem rdvFlit p h g m f : Statement (.rdvFlit p h g m f) := fun _ _ h => nomatch h
theorem spanFlit p h sp m f : Statement (.spanFlit p h sp m f) := fun _ _ h => nomatch h
theorem timeFlit p h m f : Statement (.timeFlit p h m f) := fun _ _ h => nomatch h
theorem calFlit p h m : Statement (.calFlit p h m) := fun _ _ h => nomatch h
theorem faultSourceAssert slots : Statement (.faultSourceAssert slots) := fun _ _ h => nomatch h
theorem wireFault slot high : Statement (.wireFault slot high) := fun _ _ h => nomatch h
theorem shadowWindowEnd slot : Statement (.shadowWindowEnd slot) := fun _ _ h => nomatch h
theorem faultSourceClear slot temps : Statement (.faultSourceClear slot temps) := fun _ _ h => nomatch h
theorem quietPeriodEnd slot sr : Statement (.quietPeriodEnd slot sr) := fun _ _ h => nomatch h
theorem lockClear r slot : Statement (.lockClear r slot) := fun _ _ h => nomatch h
theorem faultInjection r v : Statement (.faultInjection r v) := fun _ _ h => nomatch h
theorem injectionEnd : Statement .injectionEnd := fun _ _ h => nomatch h
theorem siloArm v : Statement (.siloArm v) := fun _ _ h => nomatch h
theorem siloArmExpire : Statement .siloArmExpire := fun _ _ h => nomatch h
theorem siloForce i3c v : Statement (.siloForce i3c v) := fun _ _ h => nomatch h
theorem safeN active : Statement (.safeN active) := fun _ _ h => nomatch h
theorem groupCurrentLimit g meas : Statement (.groupCurrentLimit g meas) := fun _ _ h => nomatch h
theorem thermalWarning temps : Statement (.thermalWarning temps) := fun _ _ h => nomatch h
theorem thermalCritical temps : Statement (.thermalCritical temps) := fun _ _ h => nomatch h
theorem lockstepMismatch : Statement .lockstepMismatch := fun _ _ h => nomatch h
theorem supplyOutOfWindow : Statement .supplyOutOfWindow := fun _ _ h => nomatch h
theorem pllUnlock absent : Statement (.pllUnlock absent) := fun _ _ h => nomatch h
theorem idleRequest r : Statement (.idleRequest r) := fun _ _ h => nomatch h
theorem standbyRequest r : Statement (.standbyRequest r) := fun _ _ h => nomatch h
theorem calRequest r : Statement (.calRequest r) := fun _ _ h => nomatch h
theorem factoryRequest r : Statement (.factoryRequest r) := fun _ _ h => nomatch h
theorem offRequest r : Statement (.offRequest r) := fun _ _ h => nomatch h
theorem restartRequest r ref b : Statement (.restartRequest r ref b) := fun _ _ h => nomatch h
theorem powerRequest r w v : Statement (.powerRequest r w v) := fun _ _ h => nomatch h
theorem powerUpComplete : Statement .powerUpComplete := fun _ _ h => nomatch h
theorem powerDownComplete d : Statement (.powerDownComplete d) := fun _ _ h => nomatch h
theorem sealDevice r key : Statement (.sealDevice r key) := fun _ _ h => nomatch h
theorem zeroise r : Statement (.zeroise r) := fun _ _ h => nomatch h
theorem zeroisationDone : Statement .zeroisationDone := fun _ _ h => nomatch h
theorem keyLoad r : Statement (.keyLoad r) := fun _ _ h => nomatch h
theorem debugLevelRequest r level : Statement (.debugLevelRequest r level) := fun _ _ h => nomatch h
theorem tokenSubmit r target : Statement (.tokenSubmit r target) := fun _ _ h => nomatch h
theorem tokenVerified : Statement .tokenVerified := fun _ _ h => nomatch h
theorem entdaa addr : Statement (.entdaa addr) := fun _ _ h => nomatch h
theorem i3cSetOffset off : Statement (.i3cSetOffset off) := fun _ _ h => nomatch h
theorem i3cWrite off v : Statement (.i3cWrite off v) := fun _ _ h => nomatch h
theorem i3cRead : Statement .i3cRead := fun _ _ h => nomatch h
theorem bypass : Statement .bypass := fun _ _ h => nomatch h
theorem idcode : Statement .idcode := fun _ _ h => nomatch h
theorem samplePreload pins preload : Statement (.samplePreload pins preload) := fun _ _ h => nomatch h
theorem extest pins : Statement (.extest pins) := fun _ _ h => nomatch h
theorem powerOnResetRelease ref b : Statement (.powerOnResetRelease ref b) := fun _ _ h => nomatch h
theorem vddaonLoss : Statement .vddaonLoss := fun _ _ h => nomatch h
theorem refclkDetect c : Statement (.refclkDetect c) := fun _ _ h => nomatch h
theorem bootEnd us : Statement (.bootEnd us) := fun _ _ h => nomatch h
theorem trigInEdge n t width : Statement (.trigInEdge n t width) := fun _ _ h => nomatch h
theorem trigOutPulseEnd k : Statement (.trigOutPulseEnd k) := fun _ _ h => nomatch h
theorem pcieLinkChange speed width : Statement (.pcieLinkChange speed width) := fun _ _ h => nomatch h
theorem busMasterEnableWrite en : Statement (.busMasterEnableWrite en) := fun _ _ h => nomatch h
theorem flitCrcError p : Statement (.flitCrcError p) := fun _ _ h => nomatch h
theorem debugModuleRequest n q : Statement (.debugModuleRequest n q) := fun _ _ h => nomatch h

end Sys2Proof.Laws.PageNamed
end

