-- ==== Sys2Proof/Laws/State.lean ====
section
/-! SUPPORT. Reads after the named updates of the state: what an update gives, and that it leaves everything else. -/

namespace Sys2Proof.Machine

/-! ### Register fields -/

theorem State.rd_lt (s : State) (p : Page) (f : Field) (i j : Nat) : s.rd p f i j < 2 ^ f.width :=
  Nat.mod_lt _ (Nat.two_pow_pos _)

/-- A field reads the same in states that hold the same under its key. -/
theorem State.rd_congr {s t : State} {p : Page} {f : Field} {i j : Nat}
    (h : tabFind t.regs (fieldKey p f i j) = tabFind s.regs (fieldKey p f i j)) : t.rd p f i j = s.rd p f i j := by
  simp [State.rd, tabGet, h]

@[simp] theorem State.rd_wr_same (s : State) (p : Page) (f : Field) (v i j : Nat) :
    (s.wr p f v i j).rd p f i j = v % 2 ^ f.width := by
  simp [State.rd, State.wr]

theorem State.rd_wr_ne (s : State) {p q : Page} {f g : Field} {i j k l : Nat} (v : Nat)
    (h : fieldKey p f i j ≠ fieldKey q g k l) : (s.wr q g v k l).rd p f i j = s.rd p f i j :=
  State.rd_congr (tabFind_tabPut_ne _ _ _ h)

theorem RegsKept.refl (s : State) (ks : List Nat) : RegsKept s s ks := fun _ _ => rfl

theorem RegsKept.trans {s x t : State} {ks : List Nat} (h : RegsKept s x ks) (g : RegsKept x t ks) : RegsKept s t ks :=
  fun k hk => (g k hk).trans (h k hk)

/-- A write of a field whose key is listed keeps the registers that are not. -/
theorem RegsKept.wr {s x : State} {ks : List Nat} (h : RegsKept s x ks) (p : Page) (f : Field) (v i j : Nat)
    (hk : fieldKey p f i j ∈ ks) : RegsKept s (x.wr p f v i j) ks :=
  fun k n => (tabFind_tabPut_ne _ _ _ (fun e : k = fieldKey p f i j => n (e ▸ hk))).trans (h k n)

/-- A field whose key is not listed reads as before. -/
theorem RegsKept.rd {s t : State} {ks : List Nat} (h : RegsKept s t ks) {p : Page} {f : Field} {i j : Nat}
    (hk : fieldKey p f i j ∉ ks) : t.rd p f i j = s.rd p f i j := State.rd_congr (h _ hk)

/-- Fields of pages of different kinds have different keys. -/
theorem fieldKey_ne_of_kind {p q : Page} {f g : Field} {i j k l : Nat} (h : pageType p.kind ≠ pageType q.kind) :
    fieldKey p f i j ≠ fieldKey q g k l := by
  have hp : pageType p.kind < 32 := by cases p.kind <;> decide
  have hq : pageType q.kind < 32 := by cases q.kind <;> decide
  unfold fieldKey
  omega

/-- A write leaves every field of the pages of another kind. -/
theorem State.rd_wr_kind (s : State) {p q : Page} {f g : Field} {i j k l : Nat} (v : Nat)
    (h : pageType p.kind ≠ pageType q.kind) : (s.wr q g v k l).rd p f i j = s.rd p f i j :=
  s.rd_wr_ne v (fieldKey_ne_of_kind h)

/-! ### Records -/

@[simp] theorem State.chan_modCh_same (s : State) (c : Nat) (f : ChOp → ChOp) : (s.modCh c f).chan c = f (s.chan c) :=
  tabGet_tabMod_same _ _ _ _

theorem State.chan_modCh_ne (s : State) {c d : Nat} (f : ChOp → ChOp) (h : d ≠ c) : (s.modCh c f).chan d = s.chan d :=
  tabGet_tabMod_ne _ _ _ _ h

@[simp] theorem State.sqo_modSq_same (s : State) (n : Nat) (f : SqOp → SqOp) : (s.modSq n f).sqo n = f (s.sqo n) :=
  tabGet_tabMod_same _ _ _ _

theorem State.sqo_modSq_ne (s : State) {n m : Nat} (f : SqOp → SqOp) (h : m ≠ n) : (s.modSq n f).sqo m = s.sqo m :=
  tabGet_tabMod_ne _ _ _ _ h

@[simp] theorem State.hopo_modHop_same (s : State) (n : Nat) (f : HopOp → HopOp) : (s.modHop n f).hopo n = f (s.hopo n) :=
  tabGet_tabMod_same _ _ _ _

@[simp] theorem State.flto_modFlt_same (s : State) (n : Nat) (f : FltOp → FltOp) : (s.modFlt n f).flto n = f (s.flto n) :=
  tabGet_tabMod_same _ _ _ _

theorem State.flto_modFlt_ne (s : State) {n m : Nat} (f : FltOp → FltOp) (h : m ≠ n) : (s.modFlt n f).flto m = s.flto m :=
  tabGet_tabMod_ne _ _ _ _ h

/-! ### One lemma per update and part -/

@[simp] theorem State.wr_now (s : State) (p : Page) (f : Field) (v i j : Nat) : (s.wr p f v i j).now = s.now := rfl
@[simp] theorem State.wr_staged (s : State) (p : Page) (f : Field) (v i j : Nat) : (s.wr p f v i j).staged = s.staged := rfl
@[simp] theorem State.wr_pageOps (s : State) (p : Page) (f : Field) (v i j : Nat) : (s.wr p f v i j).pageOps = s.pageOps := rfl
@[simp] theorem State.wr_ch (s : State) (p : Page) (f : Field) (v i j : Nat) : (s.wr p f v i j).ch = s.ch := rfl
@[simp] theorem State.wr_sh (s : State) (p : Page) (f : Field) (v i j : Nat) : (s.wr p f v i j).sh = s.sh := rfl
@[simp] theorem State.wr_cg (s : State) (p : Page) (f : Field) (v i j : Nat) : (s.wr p f v i j).cg = s.cg := rfl
@[simp] theorem State.wr_clk (s : State) (p : Page) (f : Field) (v i j : Nat) : (s.wr p f v i j).clk = s.clk := rfl
@[simp] theorem State.wr_sq (s : State) (p : Page) (f : Field) (v i j : Nat) : (s.wr p f v i j).sq = s.sq := rfl
@[simp] theorem State.wr_hop (s : State) (p : Page) (f : Field) (v i j : Nat) : (s.wr p f v i j).hop = s.hop := rfl
@[simp] theorem State.wr_results (s : State) (p : Page) (f : Field) (v i j : Nat) : (s.wr p f v i j).results = s.results := rfl
@[simp] theorem State.wr_mem (s : State) (p : Page) (f : Field) (v i j : Nat) : (s.wr p f v i j).mem = s.mem := rfl
@[simp] theorem State.wr_aml (s : State) (p : Page) (f : Field) (v i j : Nat) : (s.wr p f v i j).aml = s.aml := rfl
@[simp] theorem State.wr_amlOseq (s : State) (p : Page) (f : Field) (v i j : Nat) : (s.wr p f v i j).amlOseq = s.amlOseq := rfl
@[simp] theorem State.wr_amlSeen (s : State) (p : Page) (f : Field) (v i j : Nat) : (s.wr p f v i j).amlSeen = s.amlSeen := rfl
@[simp] theorem State.wr_gln (s : State) (p : Page) (f : Field) (v i j : Nat) : (s.wr p f v i j).gln = s.gln := rfl
@[simp] theorem State.wr_brst (s : State) (p : Page) (f : Field) (v i j : Nat) : (s.wr p f v i j).brst = s.brst := rfl
@[simp] theorem State.wr_cnt (s : State) (p : Page) (f : Field) (v i j : Nat) : (s.wr p f v i j).cnt = s.cnt := rfl
@[simp] theorem State.wr_scan (s : State) (p : Page) (f : Field) (v i j : Nat) : (s.wr p f v i j).scan = s.scan := rfl
@[simp] theorem State.wr_slice (s : State) (p : Page) (f : Field) (v i j : Nat) : (s.wr p f v i j).slice = s.slice := rfl
@[simp] theorem State.wr_acq (s : State) (p : Page) (f : Field) (v i j : Nat) : (s.wr p f v i j).acq = s.acq := rfl
@[simp] theorem State.wr_dc (s : State) (p : Page) (f : Field) (v i j : Nat) : (s.wr p f v i j).dc = s.dc := rfl
@[simp] theorem State.wr_ddrReplies (s : State) (p : Page) (f : Field) (v i j : Nat) : (s.wr p f v i j).ddrReplies = s.ddrReplies := rfl
@[simp] theorem State.wr_micro (s : State) (p : Page) (f : Field) (v i j : Nat) : (s.wr p f v i j).micro = s.micro := rfl
@[simp] theorem State.wr_bwc (s : State) (p : Page) (f : Field) (v i j : Nat) : (s.wr p f v i j).bwc = s.bwc := rfl
@[simp] theorem State.wr_winn (s : State) (p : Page) (f : Field) (v i j : Nat) : (s.wr p f v i j).winn = s.winn := rfl
@[simp] theorem State.wr_tap (s : State) (p : Page) (f : Field) (v i j : Nat) : (s.wr p f v i j).tap = s.tap := rfl
@[simp] theorem State.wr_mgmt (s : State) (p : Page) (f : Field) (v i j : Nat) : (s.wr p f v i j).mgmt = s.mgmt := rfl
@[simp] theorem State.wr_keys (s : State) (p : Page) (f : Field) (v i j : Nat) : (s.wr p f v i j).keys = s.keys := rfl
@[simp] theorem State.wr_host (s : State) (p : Page) (f : Field) (v i j : Nat) : (s.wr p f v i j).host = s.host := rfl
@[simp] theorem State.wr_eth (s : State) (p : Page) (f : Field) (v i j : Nat) : (s.wr p f v i j).eth = s.eth := rfl
@[simp] theorem State.wr_time (s : State) (p : Page) (f : Field) (v i j : Nat) : (s.wr p f v i j).time = s.time := rfl
@[simp] theorem State.wr_flt (s : State) (p : Page) (f : Field) (v i j : Nat) : (s.wr p f v i j).flt = s.flt := rfl
@[simp] theorem State.wr_safety (s : State) (p : Page) (f : Field) (v i j : Nat) : (s.wr p f v i j).safety = s.safety := rfl
@[simp] theorem State.wr_free (s : State) (p : Page) (f : Field) (v i j : Nat) : (s.wr p f v i j).free = s.free := rfl
@[simp] theorem State.wr_rdata (s : State) (p : Page) (f : Field) (v i j : Nat) : (s.wr p f v i j).rdata = s.rdata := rfl
@[simp] theorem State.wr_pending (s : State) (p : Page) (f : Field) (v i j : Nat) : (s.wr p f v i j).pending = s.pending := rfl

@[simp] theorem State.modCh_now (s : State) (c : Nat) (f : ChOp → ChOp) : (s.modCh c f).now = s.now := rfl
@[simp] theorem State.modCh_regs (s : State) (c : Nat) (f : ChOp → ChOp) : (s.modCh c f).regs = s.regs := rfl
@[simp] theorem State.modCh_staged (s : State) (c : Nat) (f : ChOp → ChOp) : (s.modCh c f).staged = s.staged := rfl
@[simp] theorem State.modCh_pageOps (s : State) (c : Nat) (f : ChOp → ChOp) : (s.modCh c f).pageOps = s.pageOps := rfl
@[simp] theorem State.modCh_sh (s : State) (c : Nat) (f : ChOp → ChOp) : (s.modCh c f).sh = s.sh := rfl
@[simp] theorem State.modCh_cg (s : State) (c : Nat) (f : ChOp → ChOp) : (s.modCh c f).cg = s.cg := rfl
@[simp] theorem State.modCh_clk (s : State) (c : Nat) (f : ChOp → ChOp) : (s.modCh c f).clk = s.clk := rfl
@[simp] theorem State.modCh_sq (s : State) (c : Nat) (f : ChOp → ChOp) : (s.modCh c f).sq = s.sq := rfl
@[simp] theorem State.modCh_hop (s : State) (c : Nat) (f : ChOp → ChOp) : (s.modCh c f).hop = s.hop := rfl
@[simp] theorem State.modCh_results (s : State) (c : Nat) (f : ChOp → ChOp) : (s.modCh c f).results = s.results := rfl
@[simp] theorem State.modCh_mem (s : State) (c : Nat) (f : ChOp → ChOp) : (s.modCh c f).mem = s.mem := rfl
@[simp] theorem State.modCh_aml (s : State) (c : Nat) (f : ChOp → ChOp) : (s.modCh c f).aml = s.aml := rfl
@[simp] theorem State.modCh_amlOseq (s : State) (c : Nat) (f : ChOp → ChOp) : (s.modCh c f).amlOseq = s.amlOseq := rfl
@[simp] theorem State.modCh_amlSeen (s : State) (c : Nat) (f : ChOp → ChOp) : (s.modCh c f).amlSeen = s.amlSeen := rfl
@[simp] theorem State.modCh_gln (s : State) (c : Nat) (f : ChOp → ChOp) : (s.modCh c f).gln = s.gln := rfl
@[simp] theorem State.modCh_brst (s : State) (c : Nat) (f : ChOp → ChOp) : (s.modCh c f).brst = s.brst := rfl
@[simp] theorem State.modCh_cnt (s : State) (c : Nat) (f : ChOp → ChOp) : (s.modCh c f).cnt = s.cnt := rfl
@[simp] theorem State.modCh_scan (s : State) (c : Nat) (f : ChOp → ChOp) : (s.modCh c f).scan = s.scan := rfl
@[simp] theorem State.modCh_slice (s : State) (c : Nat) (f : ChOp → ChOp) : (s.modCh c f).slice = s.slice := rfl
@[simp] theorem State.modCh_acq (s : State) (c : Nat) (f : ChOp → ChOp) : (s.modCh c f).acq = s.acq := rfl
@[simp] theorem State.modCh_dc (s : State) (c : Nat) (f : ChOp → ChOp) : (s.modCh c f).dc = s.dc := rfl
@[simp] theorem State.modCh_ddrReplies (s : State) (c : Nat) (f : ChOp → ChOp) : (s.modCh c f).ddrReplies = s.ddrReplies := rfl
@[simp] theorem State.modCh_micro (s : State) (c : Nat) (f : ChOp → ChOp) : (s.modCh c f).micro = s.micro := rfl
@[simp] theorem State.modCh_bwc (s : State) (c : Nat) (f : ChOp → ChOp) : (s.modCh c f).bwc = s.bwc := rfl
@[simp] theorem State.modCh_winn (s : State) (c : Nat) (f : ChOp → ChOp) : (s.modCh c f).winn = s.winn := rfl
@[simp] theorem State.modCh_tap (s : State) (c : Nat) (f : ChOp → ChOp) : (s.modCh c f).tap = s.tap := rfl
@[simp] theorem State.modCh_mgmt (s : State) (c : Nat) (f : ChOp → ChOp) : (s.modCh c f).mgmt = s.mgmt := rfl
@[simp] theorem State.modCh_keys (s : State) (c : Nat) (f : ChOp → ChOp) : (s.modCh c f).keys = s.keys := rfl
@[simp] theorem State.modCh_host (s : State) (c : Nat) (f : ChOp → ChOp) : (s.modCh c f).host = s.host := rfl
@[simp] theorem State.modCh_eth (s : State) (c : Nat) (f : ChOp → ChOp) : (s.modCh c f).eth = s.eth := rfl
@[simp] theorem State.modCh_time (s : State) (c : Nat) (f : ChOp → ChOp) : (s.modCh c f).time = s.time := rfl
@[simp] theorem State.modCh_flt (s : State) (c : Nat) (f : ChOp → ChOp) : (s.modCh c f).flt = s.flt := rfl
@[simp] theorem State.modCh_safety (s : State) (c : Nat) (f : ChOp → ChOp) : (s.modCh c f).safety = s.safety := rfl
@[simp] theorem State.modCh_free (s : State) (c : Nat) (f : ChOp → ChOp) : (s.modCh c f).free = s.free := rfl
@[simp] theorem State.modCh_rdata (s : State) (c : Nat) (f : ChOp → ChOp) : (s.modCh c f).rdata = s.rdata := rfl
@[simp] theorem State.modCh_pending (s : State) (c : Nat) (f : ChOp → ChOp) : (s.modCh c f).pending = s.pending := rfl
@[simp] theorem State.modCh_rd (s : State) (c : Nat) (f : ChOp → ChOp) (q : Page) (g : Field) (k l : Nat) : (s.modCh c f).rd q g k l = s.rd q g k l := rfl

@[simp] theorem State.modSq_now (s : State) (n : Nat) (f : SqOp → SqOp) : (s.modSq n f).now = s.now := rfl
@[simp] theorem State.modSq_regs (s : State) (n : Nat) (f : SqOp → SqOp) : (s.modSq n f).regs = s.regs := rfl
@[simp] theorem State.modSq_staged (s : State) (n : Nat) (f : SqOp → SqOp) : (s.modSq n f).staged = s.staged := rfl
@[simp] theorem State.modSq_pageOps (s : State) (n : Nat) (f : SqOp → SqOp) : (s.modSq n f).pageOps = s.pageOps := rfl
@[simp] theorem State.modSq_ch (s : State) (n : Nat) (f : SqOp → SqOp) : (s.modSq n f).ch = s.ch := rfl
@[simp] theorem State.modSq_sh (s : State) (n : Nat) (f : SqOp → SqOp) : (s.modSq n f).sh = s.sh := rfl
@[simp] theorem State.modSq_cg (s : State) (n : Nat) (f : SqOp → SqOp) : (s.modSq n f).cg = s.cg := rfl
@[simp] theorem State.modSq_clk (s : State) (n : Nat) (f : SqOp → SqOp) : (s.modSq n f).clk = s.clk := rfl
@[simp] theorem State.modSq_hop (s : State) (n : Nat) (f : SqOp → SqOp) : (s.modSq n f).hop = s.hop := rfl
@[simp] theorem State.modSq_results (s : State) (n : Nat) (f : SqOp → SqOp) : (s.modSq n f).results = s.results := rfl
@[simp] theorem State.modSq_mem (s : State) (n : Nat) (f : SqOp → SqOp) : (s.modSq n f).mem = s.mem := rfl
@[simp] theorem State.modSq_aml (s : State) (n : Nat) (f : SqOp → SqOp) : (s.modSq n f).aml = s.aml := rfl
@[simp] theorem State.modSq_amlOseq (s : State) (n : Nat) (f : SqOp → SqOp) : (s.modSq n f).amlOseq = s.amlOseq := rfl
@[simp] theorem State.modSq_amlSeen (s : State) (n : Nat) (f : SqOp → SqOp) : (s.modSq n f).amlSeen = s.amlSeen := rfl
@[simp] theorem State.modSq_gln (s : State) (n : Nat) (f : SqOp → SqOp) : (s.modSq n f).gln = s.gln := rfl
@[simp] theorem State.modSq_brst (s : State) (n : Nat) (f : SqOp → SqOp) : (s.modSq n f).brst = s.brst := rfl
@[simp] theorem State.modSq_cnt (s : State) (n : Nat) (f : SqOp → SqOp) : (s.modSq n f).cnt = s.cnt := rfl
@[simp] theorem State.modSq_scan (s : State) (n : Nat) (f : SqOp → SqOp) : (s.modSq n f).scan = s.scan := rfl
@[simp] theorem State.modSq_slice (s : State) (n : Nat) (f : SqOp → SqOp) : (s.modSq n f).slice = s.slice := rfl
@[simp] theorem State.modSq_acq (s : State) (n : Nat) (f : SqOp → SqOp) : (s.modSq n f).acq = s.acq := rfl
@[simp] theorem State.modSq_dc (s : State) (n : Nat) (f : SqOp → SqOp) : (s.modSq n f).dc = s.dc := rfl
@[simp] theorem State.modSq_ddrReplies (s : State) (n : Nat) (f : SqOp → SqOp) : (s.modSq n f).ddrReplies = s.ddrReplies := rfl
@[simp] theorem State.modSq_micro (s : State) (n : Nat) (f : SqOp → SqOp) : (s.modSq n f).micro = s.micro := rfl
@[simp] theorem State.modSq_bwc (s : State) (n : Nat) (f : SqOp → SqOp) : (s.modSq n f).bwc = s.bwc := rfl
@[simp] theorem State.modSq_winn (s : State) (n : Nat) (f : SqOp → SqOp) : (s.modSq n f).winn = s.winn := rfl
@[simp] theorem State.modSq_tap (s : State) (n : Nat) (f : SqOp → SqOp) : (s.modSq n f).tap = s.tap := rfl
@[simp] theorem State.modSq_mgmt (s : State) (n : Nat) (f : SqOp → SqOp) : (s.modSq n f).mgmt = s.mgmt := rfl
@[simp] theorem State.modSq_keys (s : State) (n : Nat) (f : SqOp → SqOp) : (s.modSq n f).keys = s.keys := rfl
@[simp] theorem State.modSq_host (s : State) (n : Nat) (f : SqOp → SqOp) : (s.modSq n f).host = s.host := rfl
@[simp] theorem State.modSq_eth (s : State) (n : Nat) (f : SqOp → SqOp) : (s.modSq n f).eth = s.eth := rfl
@[simp] theorem State.modSq_time (s : State) (n : Nat) (f : SqOp → SqOp) : (s.modSq n f).time = s.time := rfl
@[simp] theorem State.modSq_flt (s : State) (n : Nat) (f : SqOp → SqOp) : (s.modSq n f).flt = s.flt := rfl
@[simp] theorem State.modSq_safety (s : State) (n : Nat) (f : SqOp → SqOp) : (s.modSq n f).safety = s.safety := rfl
@[simp] theorem State.modSq_free (s : State) (n : Nat) (f : SqOp → SqOp) : (s.modSq n f).free = s.free := rfl
@[simp] theorem State.modSq_rdata (s : State) (n : Nat) (f : SqOp → SqOp) : (s.modSq n f).rdata = s.rdata := rfl
@[simp] theorem State.modSq_pending (s : State) (n : Nat) (f : SqOp → SqOp) : (s.modSq n f).pending = s.pending := rfl
@[simp] theorem State.modSq_rd (s : State) (n : Nat) (f : SqOp → SqOp) (q : Page) (g : Field) (k l : Nat) : (s.modSq n f).rd q g k l = s.rd q g k l := rfl

@[simp] theorem State.modHop_now (s : State) (n : Nat) (f : HopOp → HopOp) : (s.modHop n f).now = s.now := rfl
@[simp] theorem State.modHop_regs (s : State) (n : Nat) (f : HopOp → HopOp) : (s.modHop n f).regs = s.regs := rfl
@[simp] theorem State.modHop_staged (s : State) (n : Nat) (f : HopOp → HopOp) : (s.modHop n f).staged = s.staged := rfl
@[simp] theorem State.modHop_pageOps (s : State) (n : Nat) (f : HopOp → HopOp) : (s.modHop n f).pageOps = s.pageOps := rfl
@[simp] theorem State.modHop_ch (s : State) (n : Nat) (f : HopOp → HopOp) : (s.modHop n f).ch = s.ch := rfl
@[simp] theorem State.modHop_sh (s : State) (n : Nat) (f : HopOp → HopOp) : (s.modHop n f).sh = s.sh := rfl
@[simp] theorem State.modHop_cg (s : State) (n : Nat) (f : HopOp → HopOp) : (s.modHop n f).cg = s.cg := rfl
@[simp] theorem State.modHop_clk (s : State) (n : Nat) (f : HopOp → HopOp) : (s.modHop n f).clk = s.clk := rfl
@[simp] theorem State.modHop_sq (s : State) (n : Nat) (f : HopOp → HopOp) : (s.modHop n f).sq = s.sq := rfl
@[simp] theorem State.modHop_results (s : State) (n : Nat) (f : HopOp → HopOp) : (s.modHop n f).results = s.results := rfl
@[simp] theorem State.modHop_mem (s : State) (n : Nat) (f : HopOp → HopOp) : (s.modHop n f).mem = s.mem := rfl
@[simp] theorem State.modHop_aml (s : State) (n : Nat) (f : HopOp → HopOp) : (s.modHop n f).aml = s.aml := rfl
@[simp] theorem State.modHop_amlOseq (s : State) (n : Nat) (f : HopOp → HopOp) : (s.modHop n f).amlOseq = s.amlOseq := rfl
@[simp] theorem State.modHop_amlSeen (s : State) (n : Nat) (f : HopOp → HopOp) : (s.modHop n f).amlSeen = s.amlSeen := rfl
@[simp] theorem State.modHop_gln (s : State) (n : Nat) (f : HopOp → HopOp) : (s.modHop n f).gln = s.gln := rfl
@[simp] theorem State.modHop_brst (s : State) (n : Nat) (f : HopOp → HopOp) : (s.modHop n f).brst = s.brst := rfl
@[simp] theorem State.modHop_cnt (s : State) (n : Nat) (f : HopOp → HopOp) : (s.modHop n f).cnt = s.cnt := rfl
@[simp] theorem State.modHop_scan (s : State) (n : Nat) (f : HopOp → HopOp) : (s.modHop n f).scan = s.scan := rfl
@[simp] theorem State.modHop_slice (s : State) (n : Nat) (f : HopOp → HopOp) : (s.modHop n f).slice = s.slice := rfl
@[simp] theorem State.modHop_acq (s : State) (n : Nat) (f : HopOp → HopOp) : (s.modHop n f).acq = s.acq := rfl
@[simp] theorem State.modHop_dc (s : State) (n : Nat) (f : HopOp → HopOp) : (s.modHop n f).dc = s.dc := rfl
@[simp] theorem State.modHop_ddrReplies (s : State) (n : Nat) (f : HopOp → HopOp) : (s.modHop n f).ddrReplies = s.ddrReplies := rfl
@[simp] theorem State.modHop_micro (s : State) (n : Nat) (f : HopOp → HopOp) : (s.modHop n f).micro = s.micro := rfl
@[simp] theorem State.modHop_bwc (s : State) (n : Nat) (f : HopOp → HopOp) : (s.modHop n f).bwc = s.bwc := rfl
@[simp] theorem State.modHop_winn (s : State) (n : Nat) (f : HopOp → HopOp) : (s.modHop n f).winn = s.winn := rfl
@[simp] theorem State.modHop_tap (s : State) (n : Nat) (f : HopOp → HopOp) : (s.modHop n f).tap = s.tap := rfl
@[simp] theorem State.modHop_mgmt (s : State) (n : Nat) (f : HopOp → HopOp) : (s.modHop n f).mgmt = s.mgmt := rfl
@[simp] theorem State.modHop_keys (s : State) (n : Nat) (f : HopOp → HopOp) : (s.modHop n f).keys = s.keys := rfl
@[simp] theorem State.modHop_host (s : State) (n : Nat) (f : HopOp → HopOp) : (s.modHop n f).host = s.host := rfl
@[simp] theorem State.modHop_eth (s : State) (n : Nat) (f : HopOp → HopOp) : (s.modHop n f).eth = s.eth := rfl
@[simp] theorem State.modHop_time (s : State) (n : Nat) (f : HopOp → HopOp) : (s.modHop n f).time = s.time := rfl
@[simp] theorem State.modHop_flt (s : State) (n : Nat) (f : HopOp → HopOp) : (s.modHop n f).flt = s.flt := rfl
@[simp] theorem State.modHop_safety (s : State) (n : Nat) (f : HopOp → HopOp) : (s.modHop n f).safety = s.safety := rfl
@[simp] theorem State.modHop_free (s : State) (n : Nat) (f : HopOp → HopOp) : (s.modHop n f).free = s.free := rfl
@[simp] theorem State.modHop_rdata (s : State) (n : Nat) (f : HopOp → HopOp) : (s.modHop n f).rdata = s.rdata := rfl
@[simp] theorem State.modHop_pending (s : State) (n : Nat) (f : HopOp → HopOp) : (s.modHop n f).pending = s.pending := rfl
@[simp] theorem State.modHop_rd (s : State) (n : Nat) (f : HopOp → HopOp) (q : Page) (g : Field) (k l : Nat) : (s.modHop n f).rd q g k l = s.rd q g k l := rfl

@[simp] theorem State.modFlt_now (s : State) (n : Nat) (f : FltOp → FltOp) : (s.modFlt n f).now = s.now := rfl
@[simp] theorem State.modFlt_regs (s : State) (n : Nat) (f : FltOp → FltOp) : (s.modFlt n f).regs = s.regs := rfl
@[simp] theorem State.modFlt_staged (s : State) (n : Nat) (f : FltOp → FltOp) : (s.modFlt n f).staged = s.staged := rfl
@[simp] theorem State.modFlt_pageOps (s : State) (n : Nat) (f : FltOp → FltOp) : (s.modFlt n f).pageOps = s.pageOps := rfl
@[simp] theorem State.modFlt_ch (s : State) (n : Nat) (f : FltOp → FltOp) : (s.modFlt n f).ch = s.ch := rfl
@[simp] theorem State.modFlt_sh (s : State) (n : Nat) (f : FltOp → FltOp) : (s.modFlt n f).sh = s.sh := rfl
@[simp] theorem State.modFlt_cg (s : State) (n : Nat) (f : FltOp → FltOp) : (s.modFlt n f).cg = s.cg := rfl
@[simp] theorem State.modFlt_clk (s : State) (n : Nat) (f : FltOp → FltOp) : (s.modFlt n f).clk = s.clk := rfl
@[simp] theorem State.modFlt_sq (s : State) (n : Nat) (f : FltOp → FltOp) : (s.modFlt n f).sq = s.sq := rfl
@[simp] theorem State.modFlt_hop (s : State) (n : Nat) (f : FltOp → FltOp) : (s.modFlt n f).hop = s.hop := rfl
@[simp] theorem State.modFlt_results (s : State) (n : Nat) (f : FltOp → FltOp) : (s.modFlt n f).results = s.results := rfl
@[simp] theorem State.modFlt_mem (s : State) (n : Nat) (f : FltOp → FltOp) : (s.modFlt n f).mem = s.mem := rfl
@[simp] theorem State.modFlt_aml (s : State) (n : Nat) (f : FltOp → FltOp) : (s.modFlt n f).aml = s.aml := rfl
@[simp] theorem State.modFlt_amlOseq (s : State) (n : Nat) (f : FltOp → FltOp) : (s.modFlt n f).amlOseq = s.amlOseq := rfl
@[simp] theorem State.modFlt_amlSeen (s : State) (n : Nat) (f : FltOp → FltOp) : (s.modFlt n f).amlSeen = s.amlSeen := rfl
@[simp] theorem State.modFlt_gln (s : State) (n : Nat) (f : FltOp → FltOp) : (s.modFlt n f).gln = s.gln := rfl
@[simp] theorem State.modFlt_brst (s : State) (n : Nat) (f : FltOp → FltOp) : (s.modFlt n f).brst = s.brst := rfl
@[simp] theorem State.modFlt_cnt (s : State) (n : Nat) (f : FltOp → FltOp) : (s.modFlt n f).cnt = s.cnt := rfl
@[simp] theorem State.modFlt_scan (s : State) (n : Nat) (f : FltOp → FltOp) : (s.modFlt n f).scan = s.scan := rfl
@[simp] theorem State.modFlt_slice (s : State) (n : Nat) (f : FltOp → FltOp) : (s.modFlt n f).slice = s.slice := rfl
@[simp] theorem State.modFlt_acq (s : State) (n : Nat) (f : FltOp → FltOp) : (s.modFlt n f).acq = s.acq := rfl
@[simp] theorem State.modFlt_dc (s : State) (n : Nat) (f : FltOp → FltOp) : (s.modFlt n f).dc = s.dc := rfl
@[simp] theorem State.modFlt_ddrReplies (s : State) (n : Nat) (f : FltOp → FltOp) : (s.modFlt n f).ddrReplies = s.ddrReplies := rfl
@[simp] theorem State.modFlt_micro (s : State) (n : Nat) (f : FltOp → FltOp) : (s.modFlt n f).micro = s.micro := rfl
@[simp] theorem State.modFlt_bwc (s : State) (n : Nat) (f : FltOp → FltOp) : (s.modFlt n f).bwc = s.bwc := rfl
@[simp] theorem State.modFlt_winn (s : State) (n : Nat) (f : FltOp → FltOp) : (s.modFlt n f).winn = s.winn := rfl
@[simp] theorem State.modFlt_tap (s : State) (n : Nat) (f : FltOp → FltOp) : (s.modFlt n f).tap = s.tap := rfl
@[simp] theorem State.modFlt_mgmt (s : State) (n : Nat) (f : FltOp → FltOp) : (s.modFlt n f).mgmt = s.mgmt := rfl
@[simp] theorem State.modFlt_keys (s : State) (n : Nat) (f : FltOp → FltOp) : (s.modFlt n f).keys = s.keys := rfl
@[simp] theorem State.modFlt_host (s : State) (n : Nat) (f : FltOp → FltOp) : (s.modFlt n f).host = s.host := rfl
@[simp] theorem State.modFlt_eth (s : State) (n : Nat) (f : FltOp → FltOp) : (s.modFlt n f).eth = s.eth := rfl
@[simp] theorem State.modFlt_time (s : State) (n : Nat) (f : FltOp → FltOp) : (s.modFlt n f).time = s.time := rfl
@[simp] theorem State.modFlt_safety (s : State) (n : Nat) (f : FltOp → FltOp) : (s.modFlt n f).safety = s.safety := rfl
@[simp] theorem State.modFlt_free (s : State) (n : Nat) (f : FltOp → FltOp) : (s.modFlt n f).free = s.free := rfl
@[simp] theorem State.modFlt_rdata (s : State) (n : Nat) (f : FltOp → FltOp) : (s.modFlt n f).rdata = s.rdata := rfl
@[simp] theorem State.modFlt_pending (s : State) (n : Nat) (f : FltOp → FltOp) : (s.modFlt n f).pending = s.pending := rfl
@[simp] theorem State.modFlt_rd (s : State) (n : Nat) (f : FltOp → FltOp) (q : Page) (g : Field) (k l : Nat) : (s.modFlt n f).rd q g k l = s.rd q g k l := rfl

@[simp] theorem State.modPage_now (s : State) (p : Page) (f : PageOp → PageOp) : (s.modPage p f).now = s.now := rfl
@[simp] theorem State.modPage_regs (s : State) (p : Page) (f : PageOp → PageOp) : (s.modPage p f).regs = s.regs := rfl
@[simp] theorem State.modPage_staged (s : State) (p : Page) (f : PageOp → PageOp) : (s.modPage p f).staged = s.staged := rfl
@[simp] theorem State.modPage_ch (s : State) (p : Page) (f : PageOp → PageOp) : (s.modPage p f).ch = s.ch := rfl
@[simp] theorem State.modPage_sh (s : State) (p : Page) (f : PageOp → PageOp) : (s.modPage p f).sh = s.sh := rfl
@[simp] theorem State.modPage_cg (s : State) (p : Page) (f : PageOp → PageOp) : (s.modPage p f).cg = s.cg := rfl
@[simp] theorem State.modPage_clk (s : State) (p : Page) (f : PageOp → PageOp) : (s.modPage p f).clk = s.clk := rfl
@[simp] theorem State.modPage_sq (s : State) (p : Page) (f : PageOp → PageOp) : (s.modPage p f).sq = s.sq := rfl
@[simp] theorem State.modPage_hop (s : State) (p : Page) (f : PageOp → PageOp) : (s.modPage p f).hop = s.hop := rfl
@[simp] theorem State.modPage_results (s : State) (p : Page) (f : PageOp → PageOp) : (s.modPage p f).results = s.results := rfl
@[simp] theorem State.modPage_mem (s : State) (p : Page) (f : PageOp → PageOp) : (s.modPage p f).mem = s.mem := rfl
@[simp] theorem State.modPage_aml (s : State) (p : Page) (f : PageOp → PageOp) : (s.modPage p f).aml = s.aml := rfl
@[simp] theorem State.modPage_amlOseq (s : State) (p : Page) (f : PageOp → PageOp) : (s.modPage p f).amlOseq = s.amlOseq := rfl
@[simp] theorem State.modPage_amlSeen (s : State) (p : Page) (f : PageOp → PageOp) : (s.modPage p f).amlSeen = s.amlSeen := rfl
@[simp] theorem State.modPage_gln (s : State) (p : Page) (f : PageOp → PageOp) : (s.modPage p f).gln = s.gln := rfl
@[simp] theorem State.modPage_brst (s : State) (p : Page) (f : PageOp → PageOp) : (s.modPage p f).brst = s.brst := rfl
@[simp] theorem State.modPage_cnt (s : State) (p : Page) (f : PageOp → PageOp) : (s.modPage p f).cnt = s.cnt := rfl
@[simp] theorem State.modPage_scan (s : State) (p : Page) (f : PageOp → PageOp) : (s.modPage p f).scan = s.scan := rfl
@[simp] theorem State.modPage_slice (s : State) (p : Page) (f : PageOp → PageOp) : (s.modPage p f).slice = s.slice := rfl
@[simp] theorem State.modPage_acq (s : State) (p : Page) (f : PageOp → PageOp) : (s.modPage p f).acq = s.acq := rfl
@[simp] theorem State.modPage_dc (s : State) (p : Page) (f : PageOp → PageOp) : (s.modPage p f).dc = s.dc := rfl
@[simp] theorem State.modPage_ddrReplies (s : State) (p : Page) (f : PageOp → PageOp) : (s.modPage p f).ddrReplies = s.ddrReplies := rfl
@[simp] theorem State.modPage_micro (s : State) (p : Page) (f : PageOp → PageOp) : (s.modPage p f).micro = s.micro := rfl
@[simp] theorem State.modPage_bwc (s : State) (p : Page) (f : PageOp → PageOp) : (s.modPage p f).bwc = s.bwc := rfl
@[simp] theorem State.modPage_winn (s : State) (p : Page) (f : PageOp → PageOp) : (s.modPage p f).winn = s.winn := rfl
@[simp] theorem State.modPage_tap (s : State) (p : Page) (f : PageOp → PageOp) : (s.modPage p f).tap = s.tap := rfl
@[simp] theorem State.modPage_mgmt (s : State) (p : Page) (f : PageOp → PageOp) : (s.modPage p f).mgmt = s.mgmt := rfl
@[simp] theorem State.modPage_keys (s : State) (p : Page) (f : PageOp → PageOp) : (s.modPage p f).keys = s.keys := rfl
@[simp] theorem State.modPage_host (s : State) (p : Page) (f : PageOp → PageOp) : (s.modPage p f).host = s.host := rfl
@[simp] theorem State.modPage_eth (s : State) (p : Page) (f : PageOp → PageOp) : (s.modPage p f).eth = s.eth := rfl
@[simp] theorem State.modPage_time (s : State) (p : Page) (f : PageOp → PageOp) : (s.modPage p f).time = s.time := rfl
@[simp] theorem State.modPage_flt (s : State) (p : Page) (f : PageOp → PageOp) : (s.modPage p f).flt = s.flt := rfl
@[simp] theorem State.modPage_safety (s : State) (p : Page) (f : PageOp → PageOp) : (s.modPage p f).safety = s.safety := rfl
@[simp] theorem State.modPage_free (s : State) (p : Page) (f : PageOp → PageOp) : (s.modPage p f).free = s.free := rfl
@[simp] theorem State.modPage_rdata (s : State) (p : Page) (f : PageOp → PageOp) : (s.modPage p f).rdata = s.rdata := rfl
@[simp] theorem State.modPage_pending (s : State) (p : Page) (f : PageOp → PageOp) : (s.modPage p f).pending = s.pending := rfl
@[simp] theorem State.modPage_rd (s : State) (p : Page) (f : PageOp → PageOp) (q : Page) (g : Field) (k l : Nat) : (s.modPage p f).rd q g k l = s.rd q g k l := rfl

@[simp] theorem State.modRing_now (s : State) (n : Nat) (f : RingOp → RingOp) : (s.modRing n f).now = s.now := rfl
@[simp] theorem State.modRing_regs (s : State) (n : Nat) (f : RingOp → RingOp) : (s.modRing n f).regs = s.regs := rfl
@[simp] theorem State.modRing_staged (s : State) (n : Nat) (f : RingOp → RingOp) : (s.modRing n f).staged = s.staged := rfl
@[simp] theorem State.modRing_pageOps (s : State) (n : Nat) (f : RingOp → RingOp) : (s.modRing n f).pageOps = s.pageOps := rfl
@[simp] theorem State.modRing_ch (s : State) (n : Nat) (f : RingOp → RingOp) : (s.modRing n f).ch = s.ch := rfl
@[simp] theorem State.modRing_sh (s : State) (n : Nat) (f : RingOp → RingOp) : (s.modRing n f).sh = s.sh := rfl
@[simp] theorem State.modRing_cg (s : State) (n : Nat) (f : RingOp → RingOp) : (s.modRing n f).cg = s.cg := rfl
@[simp] theorem State.modRing_clk (s : State) (n : Nat) (f : RingOp → RingOp) : (s.modRing n f).clk = s.clk := rfl
@[simp] theorem State.modRing_sq (s : State) (n : Nat) (f : RingOp → RingOp) : (s.modRing n f).sq = s.sq := rfl
@[simp] theorem State.modRing_hop (s : State) (n : Nat) (f : RingOp → RingOp) : (s.modRing n f).hop = s.hop := rfl
@[simp] theorem State.modRing_results (s : State) (n : Nat) (f : RingOp → RingOp) : (s.modRing n f).results = s.results := rfl
@[simp] theorem State.modRing_mem (s : State) (n : Nat) (f : RingOp → RingOp) : (s.modRing n f).mem = s.mem := rfl
@[simp] theorem State.modRing_aml (s : State) (n : Nat) (f : RingOp → RingOp) : (s.modRing n f).aml = s.aml := rfl
@[simp] theorem State.modRing_amlOseq (s : State) (n : Nat) (f : RingOp → RingOp) : (s.modRing n f).amlOseq = s.amlOseq := rfl
@[simp] theorem State.modRing_amlSeen (s : State) (n : Nat) (f : RingOp → RingOp) : (s.modRing n f).amlSeen = s.amlSeen := rfl
@[simp] theorem State.modRing_gln (s : State) (n : Nat) (f : RingOp → RingOp) : (s.modRing n f).gln = s.gln := rfl
@[simp] theorem State.modRing_brst (s : State) (n : Nat) (f : RingOp → RingOp) : (s.modRing n f).brst = s.brst := rfl
@[simp] theorem State.modRing_cnt (s : State) (n : Nat) (f : RingOp → RingOp) : (s.modRing n f).cnt = s.cnt := rfl
@[simp] theorem State.modRing_scan (s : State) (n : Nat) (f : RingOp → RingOp) : (s.modRing n f).scan = s.scan := rfl
@[simp] theorem State.modRing_slice (s : State) (n : Nat) (f : RingOp → RingOp) : (s.modRing n f).slice = s.slice := rfl
@[simp] theorem State.modRing_acq (s : State) (n : Nat) (f : RingOp → RingOp) : (s.modRing n f).acq = s.acq := rfl
@[simp] theorem State.modRing_dc (s : State) (n : Nat) (f : RingOp → RingOp) : (s.modRing n f).dc = s.dc := rfl
@[simp] theorem State.modRing_ddrReplies (s : State) (n : Nat) (f : RingOp → RingOp) : (s.modRing n f).ddrReplies = s.ddrReplies := rfl
@[simp] theorem State.modRing_micro (s : State) (n : Nat) (f : RingOp → RingOp) : (s.modRing n f).micro = s.micro := rfl
@[simp] theorem State.modRing_bwc (s : State) (n : Nat) (f : RingOp → RingOp) : (s.modRing n f).bwc = s.bwc := rfl
@[simp] theorem State.modRing_winn (s : State) (n : Nat) (f : RingOp → RingOp) : (s.modRing n f).winn = s.winn := rfl
@[simp] theorem State.modRing_tap (s : State) (n : Nat) (f : RingOp → RingOp) : (s.modRing n f).tap = s.tap := rfl
@[simp] theorem State.modRing_mgmt (s : State) (n : Nat) (f : RingOp → RingOp) : (s.modRing n f).mgmt = s.mgmt := rfl
@[simp] theorem State.modRing_keys (s : State) (n : Nat) (f : RingOp → RingOp) : (s.modRing n f).keys = s.keys := rfl
@[simp] theorem State.modRing_eth (s : State) (n : Nat) (f : RingOp → RingOp) : (s.modRing n f).eth = s.eth := rfl
@[simp] theorem State.modRing_time (s : State) (n : Nat) (f : RingOp → RingOp) : (s.modRing n f).time = s.time := rfl
@[simp] theorem State.modRing_flt (s : State) (n : Nat) (f : RingOp → RingOp) : (s.modRing n f).flt = s.flt := rfl
@[simp] theorem State.modRing_safety (s : State) (n : Nat) (f : RingOp → RingOp) : (s.modRing n f).safety = s.safety := rfl
@[simp] theorem State.modRing_free (s : State) (n : Nat) (f : RingOp → RingOp) : (s.modRing n f).free = s.free := rfl
@[simp] theorem State.modRing_rdata (s : State) (n : Nat) (f : RingOp → RingOp) : (s.modRing n f).rdata = s.rdata := rfl
@[simp] theorem State.modRing_pending (s : State) (n : Nat) (f : RingOp → RingOp) : (s.modRing n f).pending = s.pending := rfl
@[simp] theorem State.modRing_rd (s : State) (n : Nat) (f : RingOp → RingOp) (q : Page) (g : Field) (k l : Nat) : (s.modRing n f).rd q g k l = s.rd q g k l := rfl

@[simp] theorem State.hostWrite_now (s : State) (a : Nat) (bs : List Byte) : (s.hostWrite a bs).now = s.now := rfl
@[simp] theorem State.hostWrite_regs (s : State) (a : Nat) (bs : List Byte) : (s.hostWrite a bs).regs = s.regs := rfl
@[simp] theorem State.hostWrite_staged (s : State) (a : Nat) (bs : List Byte) : (s.hostWrite a bs).staged = s.staged := rfl
@[simp] theorem State.hostWrite_pageOps (s : State) (a : Nat) (bs : List Byte) : (s.hostWrite a bs).pageOps = s.pageOps := rfl
@[simp] theorem State.hostWrite_ch (s : State) (a : Nat) (bs : List Byte) : (s.hostWrite a bs).ch = s.ch := rfl
@[simp] theorem State.hostWrite_sh (s : State) (a : Nat) (bs : List Byte) : (s.hostWrite a bs).sh = s.sh := rfl
@[simp] theorem State.hostWrite_cg (s : State) (a : Nat) (bs : List Byte) : (s.hostWrite a bs).cg = s.cg := rfl
@[simp] theorem State.hostWrite_clk (s : State) (a : Nat) (bs : List Byte) : (s.hostWrite a bs).clk = s.clk := rfl
@[simp] theorem State.hostWrite_sq (s : State) (a : Nat) (bs : List Byte) : (s.hostWrite a bs).sq = s.sq := rfl
@[simp] theorem State.hostWrite_hop (s : State) (a : Nat) (bs : List Byte) : (s.hostWrite a bs).hop = s.hop := rfl
@[simp] theorem State.hostWrite_results (s : State) (a : Nat) (bs : List Byte) : (s.hostWrite a bs).results = s.results := rfl
@[simp] theorem State.hostWrite_aml (s : State) (a : Nat) (bs : List Byte) : (s.hostWrite a bs).aml = s.aml := rfl
@[simp] theorem State.hostWrite_amlOseq (s : State) (a : Nat) (bs : List Byte) : (s.hostWrite a bs).amlOseq = s.amlOseq := rfl
@[simp] theorem State.hostWrite_amlSeen (s : State) (a : Nat) (bs : List Byte) : (s.hostWrite a bs).amlSeen = s.amlSeen := rfl
@[simp] theorem State.hostWrite_gln (s : State) (a : Nat) (bs : List Byte) : (s.hostWrite a bs).gln = s.gln := rfl
@[simp] theorem State.hostWrite_brst (s : State) (a : Nat) (bs : List Byte) : (s.hostWrite a bs).brst = s.brst := rfl
@[simp] theorem State.hostWrite_cnt (s : State) (a : Nat) (bs : List Byte) : (s.hostWrite a bs).cnt = s.cnt := rfl
@[simp] theorem State.hostWrite_scan (s : State) (a : Nat) (bs : List Byte) : (s.hostWrite a bs).scan = s.scan := rfl
@[simp] theorem State.hostWrite_slice (s : State) (a : Nat) (bs : List Byte) : (s.hostWrite a bs).slice = s.slice := rfl
@[simp] theorem State.hostWrite_acq (s : State) (a : Nat) (bs : List Byte) : (s.hostWrite a bs).acq = s.acq := rfl
@[simp] theorem State.hostWrite_dc (s : State) (a : Nat) (bs : List Byte) : (s.hostWrite a bs).dc = s.dc := rfl
@[simp] theorem State.hostWrite_ddrReplies (s : State) (a : Nat) (bs : List Byte) : (s.hostWrite a bs).ddrReplies = s.ddrReplies := rfl
@[simp] theorem State.hostWrite_micro (s : State) (a : Nat) (bs : List Byte) : (s.hostWrite a bs).micro = s.micro := rfl
@[simp] theorem State.hostWrite_bwc (s : State) (a : Nat) (bs : List Byte) : (s.hostWrite a bs).bwc = s.bwc := rfl
@[simp] theorem State.hostWrite_winn (s : State) (a : Nat) (bs : List Byte) : (s.hostWrite a bs).winn = s.winn := rfl
@[simp] theorem State.hostWrite_tap (s : State) (a : Nat) (bs : List Byte) : (s.hostWrite a bs).tap = s.tap := rfl
@[simp] theorem State.hostWrite_mgmt (s : State) (a : Nat) (bs : List Byte) : (s.hostWrite a bs).mgmt = s.mgmt := rfl
@[simp] theorem State.hostWrite_keys (s : State) (a : Nat) (bs : List Byte) : (s.hostWrite a bs).keys = s.keys := rfl
@[simp] theorem State.hostWrite_host (s : State) (a : Nat) (bs : List Byte) : (s.hostWrite a bs).host = s.host := rfl
@[simp] theorem State.hostWrite_eth (s : State) (a : Nat) (bs : List Byte) : (s.hostWrite a bs).eth = s.eth := rfl
@[simp] theorem State.hostWrite_time (s : State) (a : Nat) (bs : List Byte) : (s.hostWrite a bs).time = s.time := rfl
@[simp] theorem State.hostWrite_flt (s : State) (a : Nat) (bs : List Byte) : (s.hostWrite a bs).flt = s.flt := rfl
@[simp] theorem State.hostWrite_safety (s : State) (a : Nat) (bs : List Byte) : (s.hostWrite a bs).safety = s.safety := rfl
@[simp] theorem State.hostWrite_free (s : State) (a : Nat) (bs : List Byte) : (s.hostWrite a bs).free = s.free := rfl
@[simp] theorem State.hostWrite_rdata (s : State) (a : Nat) (bs : List Byte) : (s.hostWrite a bs).rdata = s.rdata := rfl
@[simp] theorem State.hostWrite_pending (s : State) (a : Nat) (bs : List Byte) : (s.hostWrite a bs).pending = s.pending := rfl
@[simp] theorem State.hostWrite_rd (s : State) (a : Nat) (bs : List Byte) (q : Page) (g : Field) (k l : Nat) : (s.hostWrite a bs).rd q g k l = s.rd q g k l := rfl

@[simp] theorem State.drivePair_now (s : State) (n : Nat) (b : Bool) : (s.drivePair n b).now = s.now := rfl
@[simp] theorem State.drivePair_regs (s : State) (n : Nat) (b : Bool) : (s.drivePair n b).regs = s.regs := rfl
@[simp] theorem State.drivePair_staged (s : State) (n : Nat) (b : Bool) : (s.drivePair n b).staged = s.staged := rfl
@[simp] theorem State.drivePair_pageOps (s : State) (n : Nat) (b : Bool) : (s.drivePair n b).pageOps = s.pageOps := rfl
@[simp] theorem State.drivePair_ch (s : State) (n : Nat) (b : Bool) : (s.drivePair n b).ch = s.ch := rfl
@[simp] theorem State.drivePair_sh (s : State) (n : Nat) (b : Bool) : (s.drivePair n b).sh = s.sh := rfl
@[simp] theorem State.drivePair_cg (s : State) (n : Nat) (b : Bool) : (s.drivePair n b).cg = s.cg := rfl
@[simp] theorem State.drivePair_clk (s : State) (n : Nat) (b : Bool) : (s.drivePair n b).clk = s.clk := rfl
@[simp] theorem State.drivePair_sq (s : State) (n : Nat) (b : Bool) : (s.drivePair n b).sq = s.sq := rfl
@[simp] theorem State.drivePair_hop (s : State) (n : Nat) (b : Bool) : (s.drivePair n b).hop = s.hop := rfl
@[simp] theorem State.drivePair_results (s : State) (n : Nat) (b : Bool) : (s.drivePair n b).results = s.results := rfl
@[simp] theorem State.drivePair_mem (s : State) (n : Nat) (b : Bool) : (s.drivePair n b).mem = s.mem := rfl
@[simp] theorem State.drivePair_aml (s : State) (n : Nat) (b : Bool) : (s.drivePair n b).aml = s.aml := rfl
@[simp] theorem State.drivePair_amlOseq (s : State) (n : Nat) (b : Bool) : (s.drivePair n b).amlOseq = s.amlOseq := rfl
@[simp] theorem State.drivePair_amlSeen (s : State) (n : Nat) (b : Bool) : (s.drivePair n b).amlSeen = s.amlSeen := rfl
@[simp] theorem State.drivePair_gln (s : State) (n : Nat) (b : Bool) : (s.drivePair n b).gln = s.gln := rfl
@[simp] theorem State.drivePair_brst (s : State) (n : Nat) (b : Bool) : (s.drivePair n b).brst = s.brst := rfl
@[simp] theorem State.drivePair_cnt (s : State) (n : Nat) (b : Bool) : (s.drivePair n b).cnt = s.cnt := rfl
@[simp] theorem State.drivePair_scan (s : State) (n : Nat) (b : Bool) : (s.drivePair n b).scan = s.scan := rfl
@[simp] theorem State.drivePair_slice (s : State) (n : Nat) (b : Bool) : (s.drivePair n b).slice = s.slice := rfl
@[simp] theorem State.drivePair_acq (s : State) (n : Nat) (b : Bool) : (s.drivePair n b).acq = s.acq := rfl
@[simp] theorem State.drivePair_dc (s : State) (n : Nat) (b : Bool) : (s.drivePair n b).dc = s.dc := rfl
@[simp] theorem State.drivePair_ddrReplies (s : State) (n : Nat) (b : Bool) : (s.drivePair n b).ddrReplies = s.ddrReplies := rfl
@[simp] theorem State.drivePair_micro (s : State) (n : Nat) (b : Bool) : (s.drivePair n b).micro = s.micro := rfl
@[simp] theorem State.drivePair_bwc (s : State) (n : Nat) (b : Bool) : (s.drivePair n b).bwc = s.bwc := rfl
@[simp] theorem State.drivePair_winn (s : State) (n : Nat) (b : Bool) : (s.drivePair n b).winn = s.winn := rfl
@[simp] theorem State.drivePair_tap (s : State) (n : Nat) (b : Bool) : (s.drivePair n b).tap = s.tap := rfl
@[simp] theorem State.drivePair_mgmt (s : State) (n : Nat) (b : Bool) : (s.drivePair n b).mgmt = s.mgmt := rfl
@[simp] theorem State.drivePair_keys (s : State) (n : Nat) (b : Bool) : (s.drivePair n b).keys = s.keys := rfl
@[simp] theorem State.drivePair_host (s : State) (n : Nat) (b : Bool) : (s.drivePair n b).host = s.host := rfl
@[simp] theorem State.drivePair_eth (s : State) (n : Nat) (b : Bool) : (s.drivePair n b).eth = s.eth := rfl
@[simp] theorem State.drivePair_time (s : State) (n : Nat) (b : Bool) : (s.drivePair n b).time = s.time := rfl
@[simp] theorem State.drivePair_safety (s : State) (n : Nat) (b : Bool) : (s.drivePair n b).safety = s.safety := rfl
@[simp] theorem State.drivePair_free (s : State) (n : Nat) (b : Bool) : (s.drivePair n b).free = s.free := rfl
@[simp] theorem State.drivePair_rdata (s : State) (n : Nat) (b : Bool) : (s.drivePair n b).rdata = s.rdata := rfl
@[simp] theorem State.drivePair_pending (s : State) (n : Nat) (b : Bool) : (s.drivePair n b).pending = s.pending := rfl
@[simp] theorem State.drivePair_rd (s : State) (n : Nat) (b : Bool) (q : Page) (g : Field) (k l : Nat) : (s.drivePair n b).rd q g k l = s.rd q g k l := rfl

/-! ### Time -/

@[simp] theorem State.advanceTo_now (s : State) (t : Nat) : (s.advanceTo t).now = max s.now t := by
  unfold State.advanceTo
  split
  · exact (Nat.max_eq_right (Nat.le_of_lt ‹_›)).symm
  · exact (Nat.max_eq_left (Nat.le_of_not_lt ‹_›)).symm

@[simp] theorem State.advanceTo_regs (s : State) (t : Nat) : (s.advanceTo t).regs = s.regs := by
  unfold State.advanceTo
  split <;> rfl

@[simp] theorem State.advanceTo_staged (s : State) (t : Nat) : (s.advanceTo t).staged = s.staged := by
  unfold State.advanceTo
  split <;> rfl

@[simp] theorem State.advanceTo_pageOps (s : State) (t : Nat) : (s.advanceTo t).pageOps = s.pageOps := by
  unfold State.advanceTo
  split <;> rfl

@[simp] theorem State.advanceTo_ch (s : State) (t : Nat) : (s.advanceTo t).ch = s.ch := by
  unfold State.advanceTo
  split <;> rfl

@[simp] theorem State.advanceTo_sh (s : State) (t : Nat) : (s.advanceTo t).sh = s.sh := by
  unfold State.advanceTo
  split <;> rfl

@[simp] theorem State.advanceTo_cg (s : State) (t : Nat) : (s.advanceTo t).cg = s.cg := by
  unfold State.advanceTo
  split <;> rfl

@[simp] theorem State.advanceTo_clk (s : State) (t : Nat) : (s.advanceTo t).clk = s.clk := by
  unfold State.advanceTo
  split <;> rfl

@[simp] theorem State.advanceTo_sq (s : State) (t : Nat) : (s.advanceTo t).sq = s.sq := by
  unfold State.advanceTo
  split <;> rfl

@[simp] theorem State.advanceTo_hop (s : State) (t : Nat) : (s.advanceTo t).hop = s.hop := by
  unfold State.advanceTo
  split <;> rfl

@[simp] theorem State.advanceTo_results (s : State) (t : Nat) : (s.advanceTo t).results = s.results := by
  unfold State.advanceTo
  split <;> rfl

@[simp] theorem State.advanceTo_mem (s : State) (t : Nat) : (s.advanceTo t).mem = s.mem := by
  unfold State.advanceTo
  split <;> rfl

@[simp] theorem State.advanceTo_aml (s : State) (t : Nat) : (s.advanceTo t).aml = s.aml := by
  unfold State.advanceTo
  split <;> rfl

@[simp] theorem State.advanceTo_amlOseq (s : State) (t : Nat) : (s.advanceTo t).amlOseq = s.amlOseq := by
  unfold State.advanceTo
  split <;> rfl

@[simp] theorem State.advanceTo_amlSeen (s : State) (t : Nat) : (s.advanceTo t).amlSeen = s.amlSeen := by
  unfold State.advanceTo
  split <;> rfl

@[simp] theorem State.advanceTo_gln (s : State) (t : Nat) : (s.advanceTo t).gln = s.gln := by
  unfold State.advanceTo
  split <;> rfl

@[simp] theorem State.advanceTo_brst (s : State) (t : Nat) : (s.advanceTo t).brst = s.brst := by
  unfold State.advanceTo
  split <;> rfl

@[simp] theorem State.advanceTo_cnt (s : State) (t : Nat) : (s.advanceTo t).cnt = s.cnt := by
  unfold State.advanceTo
  split <;> rfl

@[simp] theorem State.advanceTo_scan (s : State) (t : Nat) : (s.advanceTo t).scan = s.scan := by
  unfold State.advanceTo
  split <;> rfl

@[simp] theorem State.advanceTo_slice (s : State) (t : Nat) : (s.advanceTo t).slice = s.slice := by
  unfold State.advanceTo
  split <;> rfl

@[simp] theorem State.advanceTo_acq (s : State) (t : Nat) : (s.advanceTo t).acq = s.acq := by
  unfold State.advanceTo
  split <;> rfl

@[simp] theorem State.advanceTo_dc (s : State) (t : Nat) : (s.advanceTo t).dc = s.dc := by
  unfold State.advanceTo
  split <;> rfl

@[simp] theorem State.advanceTo_ddrReplies (s : State) (t : Nat) : (s.advanceTo t).ddrReplies = s.ddrReplies := by
  unfold State.advanceTo
  split <;> rfl

@[simp] theorem State.advanceTo_micro (s : State) (t : Nat) : (s.advanceTo t).micro = s.micro := by
  unfold State.advanceTo
  split <;> rfl

@[simp] theorem State.advanceTo_bwc (s : State) (t : Nat) : (s.advanceTo t).bwc = s.bwc := by
  unfold State.advanceTo
  split <;> rfl

@[simp] theorem State.advanceTo_winn (s : State) (t : Nat) : (s.advanceTo t).winn = s.winn := by
  unfold State.advanceTo
  split <;> rfl

@[simp] theorem State.advanceTo_tap (s : State) (t : Nat) : (s.advanceTo t).tap = s.tap := by
  unfold State.advanceTo
  split <;> rfl

@[simp] theorem State.advanceTo_mgmt (s : State) (t : Nat) : (s.advanceTo t).mgmt = s.mgmt := by
  unfold State.advanceTo
  split <;> rfl

@[simp] theorem State.advanceTo_keys (s : State) (t : Nat) : (s.advanceTo t).keys = s.keys := by
  unfold State.advanceTo
  split <;> rfl

@[simp] theorem State.advanceTo_host (s : State) (t : Nat) : (s.advanceTo t).host = s.host := by
  unfold State.advanceTo
  split <;> rfl

@[simp] theorem State.advanceTo_eth (s : State) (t : Nat) : (s.advanceTo t).eth = s.eth := by
  unfold State.advanceTo
  split <;> rfl

@[simp] theorem State.advanceTo_time (s : State) (t : Nat) : (s.advanceTo t).time = s.time := by
  unfold State.advanceTo
  split <;> rfl

@[simp] theorem State.advanceTo_flt (s : State) (t : Nat) : (s.advanceTo t).flt = s.flt := by
  unfold State.advanceTo
  split <;> rfl

@[simp] theorem State.advanceTo_safety (s : State) (t : Nat) : (s.advanceTo t).safety = s.safety := by
  unfold State.advanceTo
  split <;> rfl

@[simp] theorem State.advanceTo_free (s : State) (t : Nat) : (s.advanceTo t).free = s.free := by
  unfold State.advanceTo
  split <;> rfl

@[simp] theorem State.advanceTo_rdata (s : State) (t : Nat) : (s.advanceTo t).rdata = s.rdata := by
  unfold State.advanceTo
  split <;> rfl

@[simp] theorem State.advanceTo_pending (s : State) (t : Nat) : (s.advanceTo t).pending = s.pending := by
  unfold State.advanceTo
  split <;> rfl

@[simp] theorem State.advanceTo_rd (s : State) (t : Nat) (q : Page) (g : Field) (k l : Nat) :
    (s.advanceTo t).rd q g k l = s.rd q g k l := by
  unfold State.rd
  rw [State.advanceTo_regs]

/-! ### Counters -/

/-- Counting changes the counters and at most one overflow bit. -/
theorem State.count_counter (s : State) (id n : Nat) : (s.count id n).counter id = (s.counter id + n) % 2 ^ 48 := by
  unfold State.count State.counter
  dsimp only
  split
  · exact tabGet_tabPut_same _ _ _ _
  · exact tabGet_tabPut_same _ _ _ _

theorem State.count_counter_ne (s : State) {id k : Nat} (n : Nat) (h : k ≠ id) : (s.count id n).counter k = s.counter k := by
  unfold State.count State.counter
  dsimp only
  split
  · exact tabGet_tabPut_ne _ _ _ _ h
  · exact tabGet_tabPut_ne _ _ _ _ h

theorem State.count_rd (s : State) (id n : Nat) {q : Page} (g : Field) (k l : Nat) (h : q.kind ≠ .cnt) :
    (s.count id n).rd q g k l = s.rd q g k l := by
  unfold State.count
  dsimp only
  split
  · exact State.rd_wr_kind _ _ (by obtain ⟨c, m⟩ := q; cases c <;> simp_all [pCnt, pageType])
  · rfl

@[simp] theorem State.count_now (s : State) (id n : Nat) : (s.count id n).now = s.now := by
  unfold State.count
  dsimp only
  split <;> rfl

@[simp] theorem State.count_staged (s : State) (id n : Nat) : (s.count id n).staged = s.staged := by
  unfold State.count
  dsimp only
  split <;> rfl

@[simp] theorem State.count_pageOps (s : State) (id n : Nat) : (s.count id n).pageOps = s.pageOps := by
  unfold State.count
  dsimp only
  split <;> rfl

@[simp] theorem State.count_ch (s : State) (id n : Nat) : (s.count id n).ch = s.ch := by
  unfold State.count
  dsimp only
  split <;> rfl

@[simp] theorem State.count_sh (s : State) (id n : Nat) : (s.count id n).sh = s.sh := by
  unfold State.count
  dsimp only
  split <;> rfl

@[simp] theorem State.count_cg (s : State) (id n : Nat) : (s.count id n).cg = s.cg := by
  unfold State.count
  dsimp only
  split <;> rfl

@[simp] theorem State.count_clk (s : State) (id n : Nat) : (s.count id n).clk = s.clk := by
  unfold State.count
  dsimp only
  split <;> rfl

@[simp] theorem State.count_sq (s : State) (id n : Nat) : (s.count id n).sq = s.sq := by
  unfold State.count
  dsimp only
  split <;> rfl

@[simp] theorem State.count_hop (s : State) (id n : Nat) : (s.count id n).hop = s.hop := by
  unfold State.count
  dsimp only
  split <;> rfl

@[simp] theorem State.count_results (s : State) (id n : Nat) : (s.count id n).results = s.results := by
  unfold State.count
  dsimp only
  split <;> rfl

@[simp] theorem State.count_mem (s : State) (id n : Nat) : (s.count id n).mem = s.mem := by
  unfold State.count
  dsimp only
  split <;> rfl

@[simp] theorem State.count_aml (s : State) (id n : Nat) : (s.count id n).aml = s.aml := by
  unfold State.count
  dsimp only
  split <;> rfl

@[simp] theorem State.count_amlOseq (s : State) (id n : Nat) : (s.count id n).amlOseq = s.amlOseq := by
  unfold State.count
  dsimp only
  split <;> rfl

@[simp] theorem State.count_amlSeen (s : State) (id n : Nat) : (s.count id n).amlSeen = s.amlSeen := by
  unfold State.count
  dsimp only
  split <;> rfl

@[simp] theorem State.count_gln (s : State) (id n : Nat) : (s.count id n).gln = s.gln := by
  unfold State.count
  dsimp only
  split <;> rfl

@[simp] theorem State.count_brst (s : State) (id n : Nat) : (s.count id n).brst = s.brst := by
  unfold State.count
  dsimp only
  split <;> rfl

@[simp] theorem State.count_scan (s : State) (id n : Nat) : (s.count id n).scan = s.scan := by
  unfold State.count
  dsimp only
  split <;> rfl

@[simp] theorem State.count_slice (s : State) (id n : Nat) : (s.count id n).slice = s.slice := by
  unfold State.count
  dsimp only
  split <;> rfl

@[simp] theorem State.count_acq (s : State) (id n : Nat) : (s.count id n).acq = s.acq := by
  unfold State.count
  dsimp only
  split <;> rfl

@[simp] theorem State.count_dc (s : State) (id n : Nat) : (s.count id n).dc = s.dc := by
  unfold State.count
  dsimp only
  split <;> rfl

@[simp] theorem State.count_ddrReplies (s : State) (id n : Nat) : (s.count id n).ddrReplies = s.ddrReplies := by
  unfold State.count
  dsimp only
  split <;> rfl

@[simp] theorem State.count_micro (s : State) (id n : Nat) : (s.count id n).micro = s.micro := by
  unfold State.count
  dsimp only
  split <;> rfl

@[simp] theorem State.count_bwc (s : State) (id n : Nat) : (s.count id n).bwc = s.bwc := by
  unfold State.count
  dsimp only
  split <;> rfl

@[simp] theorem State.count_winn (s : State) (id n : Nat) : (s.count id n).winn = s.winn := by
  unfold State.count
  dsimp only
  split <;> rfl

@[simp] theorem State.count_tap (s : State) (id n : Nat) : (s.count id n).tap = s.tap := by
  unfold State.count
  dsimp only
  split <;> rfl

@[simp] theorem State.count_mgmt (s : State) (id n : Nat) : (s.count id n).mgmt = s.mgmt := by
  unfold State.count
  dsimp only
  split <;> rfl

@[simp] theorem State.count_keys (s : State) (id n : Nat) : (s.count id n).keys = s.keys := by
  unfold State.count
  dsimp only
  split <;> rfl

@[simp] theorem State.count_host (s : State) (id n : Nat) : (s.count id n).host = s.host := by
  unfold State.count
  dsimp only
  split <;> rfl

@[simp] theorem State.count_eth (s : State) (id n : Nat) : (s.count id n).eth = s.eth := by
  unfold State.count
  dsimp only
  split <;> rfl

@[simp] theorem State.count_time (s : State) (id n : Nat) : (s.count id n).time = s.time := by
  unfold State.count
  dsimp only
  split <;> rfl

@[simp] theorem State.count_flt (s : State) (id n : Nat) : (s.count id n).flt = s.flt := by
  unfold State.count
  dsimp only
  split <;> rfl

@[simp] theorem State.count_safety (s : State) (id n : Nat) : (s.count id n).safety = s.safety := by
  unfold State.count
  dsimp only
  split <;> rfl

@[simp] theorem State.count_free (s : State) (id n : Nat) : (s.count id n).free = s.free := by
  unfold State.count
  dsimp only
  split <;> rfl

@[simp] theorem State.count_rdata (s : State) (id n : Nat) : (s.count id n).rdata = s.rdata := by
  unfold State.count
  dsimp only
  split <;> rfl

@[simp] theorem State.count_pending (s : State) (id n : Nat) : (s.count id n).pending = s.pending := by
  unfold State.count
  dsimp only
  split <;> rfl

end Sys2Proof.Machine
end

