-- ==== Sys2Proof/Tests/Slice0.lean ====
section
/-! SUPPORT. The model's own tests: ill-formed commands are refused by the checks; a small state meets the hypotheses of
each clause of each statement and shows its conclusion on it; single steps give what the rules say. -/

namespace Sys2Proof.Tests

open Sys2Proof.Machine Sys2Proof.Machine.Reg

set_option Elab.async false

/-! ### Helpers -/

/-- The state that an outcome leads to. -/
def nx : Host.Outcome State Fault Refusal → State
  | .next t => t
  | _ => State.reset

/-- The outcome is a next state. -/
def goes : Host.Outcome State Fault Refusal → Bool
  | .next _ => true
  | _ => false

/-- The device in IDLE with every domain on and no channel held safe. -/
def up : State :=
  let s := (((State.reset.wr pMode MODE_STAT_MODE 3).wr pPwr PWR_STAT0_ON (2 ^ 32 - 1)).wr pPwr PWR_STAT1_ON
    (2 ^ 32 - 1)).wr pPwr PWR_STAT2_ON (2 ^ 16 - 1)
  { s with safety := { s.safety with allSafe := false } }

/-- The state after a command. -/
def act (c : Instr) (s : State) : State := nx (exec c s)

/-- Sheaf 0 belongs to site `n`, its channels enabled, with the site in state `st` and its sequencer's record. -/
def site (n st : Nat) (o : SqOp := {}) : State :=
  let s := ((((up.wr (pSh 0) SH_SITE_LO_EN 1).wr (pSh 0) SH_SITE_LO_SITE n).wr (pSh 0) CH_CTL_ENABLE 1 0).wr (pSh 0) CH_CTL_ENABLE 1 7).wr
    (pSq n) SQ_STAT_STATE st
  { s with sq := [(n, o)] }

/-! ### Ill-formed commands, one for each check -/

theorem test_ill_formed_accesses :
    (Instr.registerWrite .host 0x101 4 0).wf = false ∧ (Instr.registerWrite .host 0x100 2 0).wf = false
      ∧ (Instr.registerWrite .host 0x100 4 (2 ^ 32)).wf = false ∧ (Instr.rcRead .host 0x104 8).wf = false := by
  decide +kernel

theorem test_ill_formed_pages :
    (Instr.pageCommitGo .host ⟨.sh, 40⟩).wf = false ∧ (Instr.commitApply ⟨.sq, 32⟩).wf = false
      ∧ (Instr.pageCommitDrop .host ⟨.dev, 1⟩).wf = false ∧ (Instr.pageReset .host ⟨.bw, 16⟩).wf = false
      ∧ (Instr.pageResetRelease ⟨.dc, 4⟩).wf = false ∧ (Instr.pageEnableWrite .host ⟨.eth, 2⟩ true).wf = false
      ∧ (Instr.pagePowerRequest .host ⟨.asn, 4⟩ true).wf = false
      ∧ (Instr.pageFltlClear .host ⟨.aml, 4⟩ true true).wf = false
      ∧ (Instr.pageFltlClear .host ⟨.aml, 3⟩ false false).wf = false := by
  decide +kernel

theorem test_ill_formed_data :
    (Instr.opcSamplingEnd 0 []).wf = false
      ∧ (Instr.hopperDataArrival 0 (List.replicate 513 0) .ok).wf = false
      ∧ (Instr.bar2Write 0 []).wf = false ∧ (Instr.bar2Write 0x3FFFFFF [0, 0]).wf = false
      ∧ (Instr.scanResultQueue []).wf = false ∧ (Instr.singleBlockWrite 0 []).wf = false
      ∧ (Instr.urgentResult 0 []).wf = false ∧ (Instr.frameReceive 0 0 [] true).wf = false
      ∧ (Instr.frameTransmit 0 0 [0]).wf = false := by
  decide +kernel

theorem test_ill_formed_measurements :
    (Instr.unitCommit (.conv [] none)).wf = false
      ∧ (Instr.unitCommit (.conv (List.replicate 5 ⟨0, 0, 0, 0, 0, 0, 0, 0⟩) none)).wf = false
      ∧ (Instr.unitCommit (.deskew 0 false [] 0)).wf = false ∧ (Instr.unitCommit (.loop 0 [])).wf = false
      ∧ (Instr.microwordWaitEnd 0 0 0 (2 ^ 18 + 1) false 0 none).wf = false
      ∧ (Instr.counterClearAll .host [1, 1]).wf = false := by
  decide +kernel

theorem test_ill_formed_memory :
    (Instr.ddrRequest []).wf = false ∧ (Instr.ddrRequest [⟨.host, 0, some [], .ok⟩]).wf = false
      ∧ (Instr.ddrRequest [⟨.host, 63, some [0, 0], .ok⟩]).wf = false
      ∧ (Instr.mr4Read 0 []).wf = false ∧ (Instr.srexit .host 0 [] true).wf = false
      ∧ (Instr.ddrTrain 0 ⟨false, false, 0, 0, 0, []⟩).wf = false ∧ (Instr.ddrRetrain 0 []).wf = false
      ∧ (Instr.bar4Access 0 0 none .ok).wf = false ∧ (Instr.bar4Access 0 4 (some [0]) .ok).wf = false
      ∧ (Instr.dmaCommand 0 (some (List.replicate 65 ⟨0, [], .ok⟩))).wf = false := by
  decide +kernel

theorem test_ill_formed_events :
    (Instr.spanFlit 0 { origin := 0, oseq := 0, lseq := 0, hops := 0, ack := 0, nak := false } 0 (.fail (2 ^ 48)) ⟨0, 0⟩).wf = false
      ∧ (Instr.faultSourceAssert []).wf = false ∧ (Instr.faultSourceAssert [3, 3]).wf = false
      ∧ (Instr.thermalWarning []).wf = false ∧ (Instr.thermalCritical []).wf = false
      ∧ (Instr.restartRequest .host none default).wf = false ∧ (Instr.powerOnResetRelease none default).wf = false
      ∧ (Instr.trigInEdge 0 0 0).wf = false := by
  decide +kernel

theorem test_well_formed :
    (Instr.registerWrite .host 0x100 8 (2 ^ 63)).wf = true ∧ (Instr.pageReset .host ⟨.sh, 39⟩).wf = true
      ∧ (Instr.bar2Write 0x3FFFFFF [0]).wf = true ∧ (Instr.trigInEdge 0 0 1).wf = true := by
  decide +kernel
/-! ### The step and the stores -/

theorem test_step_takes_the_front : step { up with pending := [.syncLost, .stepApply] } = exec .syncLost { up with pending := [.stepApply] } := by
  rfl

theorem test_step_witnesses :
    up.pending = [] ∧ up.storesWf = true ∧ goes (step { up with pending := [.syncLost] }) = true
      ∧ goes (exec .syncLost up) = true ∧ Part.pending ∉ changes .syncLost
      ∧ ({ up with mgmt := { up.mgmt with sealed := true }, pending := [.syncLost] }).mgmt.sealed = true := by
  decide +kernel

/-! ### Register accesses (R5, R9, R11, R22) -/

/-- Ethernet port 0 is enabled, so that its QUIET fields are held. -/
def ethOn : State := up.wr (pEth 0) ETH_CFG_EN 1

theorem test_write_quiet_idle :
    pageOf 0x90058 = some (pEth 0) ∧ plainRegister .eth 0x58 = true ∧ WriteActs up .host (pEth 0) 0x58 0xFFFFFFFF
      ∧ fieldsApart .eth 0x58 ∧ up.quietBusy (pEth 0) ⟨ETH_MACL_MAC, 0, 0⟩ = false
      ∧ (act (.registerWrite .host 0x90058 4 0xFFFFFFFF) up).rd (pEth 0) ETH_MACL_MAC = 0xFFFFFFFF := by
  unfold WriteActs fieldsApart; decide +kernel

theorem test_write_quiet_busy :
    WriteActs ethOn .host (pEth 0) 0x58 1 ∧ ethOn.quietBusy (pEth 0) ⟨ETH_MACL_MAC, 0, 0⟩ = true
      ∧ act (.registerWrite .host 0x90058 4 1) ethOn = ethOn.wr (pEth 0) PAGE_STAT_WERR 1 := by
  unfold WriteActs; decide +kernel

theorem test_write_staged :
    pageOf 0x1000108 = some (pSh 0) ∧ plainRegister .sh 0x108 = true ∧ fieldsApart .sh 0x108
      ∧ WriteActs up .host (pSh 0) 0x108 14000 ∧ (act (.registerWrite .host 0x1000108 4 14000) up).rd (pSh 0) CH_VIL_LVL = 0x7d0
      ∧ tabFind (act (.registerWrite .host 0x1000108 4 14000) up).staged (fieldKey (pSh 0) CH_VIL_LVL 0 0) = some 14000 := by
  unfold WriteActs fieldsApart; decide +kernel

theorem test_write_live_and_w1c :
    pageOf 0x60 = some pDev ∧ plainRegister .dev 0x60 = true ∧ fieldsApart .dev 0x60 ∧ WriteActs up .host pDev 0x60 5
      ∧ (act (.registerWrite .host 0x60 4 5) up).rd pDev DEV_SCRATCH_SCRATCH = 5
      ∧ pageOf 0x90044 = some (pEth 0) ∧ plainRegister .eth 0x44 = true ∧ fieldsApart .eth 0x44
      ∧ (let s := up.wr (pEth 0) ETH_STAT_LINKCHG 1
        WriteActs s .host (pEth 0) 0x44 2 ∧ (act (.registerWrite .host 0x90044 4 2) s).rd (pEth 0) ETH_STAT_LINKCHG = 0
          ∧ (act (.registerWrite .host 0x90044 4 1) s).rd (pEth 0) ETH_STAT_LINKCHG = 1) := by
  unfold WriteActs fieldsApart; decide +kernel

theorem test_write_reserved_value :
    up.writeReserved (pSh 0) (fieldsAt .sh 0x108) 14001 = true ∧ ¬ WriteActs up .host (pSh 0) 0x108 14001
      ∧ fieldsAt .sh 0x108 ≠ [] ∧ Discarded up (act (.registerWrite .host 0x1000108 4 14001) up) (pSh 0) := by
  unfold WriteActs Discarded; decide +kernel

theorem test_write_nowhere :
    pageOf 0x1FC = some pDev ∧ plainRegister .dev 0x1FC = true ∧ fieldsAt .dev 0x1FC = []
      ∧ act (.registerWrite .host 0x1FC 4 1) up = up
      ∧ pageOf 0x3FFFFFC = none ∧ act (.registerWrite .host 0x3FFFFFC 4 1) up = up := by
  decide +kernel

theorem test_write_lengths :
    pageOf 0x62 = some pDev ∧ Discarded up (act (.registerWrite .host 0x62 2 1) up) pDev
      ∧ Discarded up (act (.registerWrite .host 0x64 8 1) up) pDev := by
  unfold Discarded; decide +kernel
theorem test_reads_clear :
    (let s := up.wr (pEth 0) ETH_RXDROP_RXDROP 7
    pageOf 0x90064 = some (pEth 0) ∧ plainRead .eth 0x64 = true ∧ fieldsApart .eth 0x64 ∧ s.mayRead .host (pEth 0) = true
      ∧ s.pageState (pEth 0) = 4 ∧ (act (.rcRead .host 0x90064 4) s).rdata = 7
      ∧ (act (.rcRead .host 0x90064 4) s).rd (pEth 0) ETH_RXDROP_RXDROP = 0)
      ∧ (let s := up.wr pDbg DBG_LEVEL_LEVEL 0
        s.mayRead .jtag (pEth 0) = false ∧ act (.rcRead .jtag 0x90064 4) { s with rdata := 9 } = s) := by
  unfold fieldsApart; decide +kernel

theorem test_read_of_a_block_in_reset :
    (let s := (up.wr (pEth 0) PAGE_CTL_EN 0).wr (pEth 0) ETH_RXDROP_RXDROP 7
    s.pageState (pEth 0) ≠ 4 ∧ s.mayRead .host (pEth 0) = true
      ∧ (act (.rcRead .host 0x90064 4) s).rd (pEth 0) ETH_RXDROP_RXDROP = 7)
      ∧ (let s := (up.wr pDbg DBG_LEVEL_LEVEL 1).wr (pEth 0) ETH_RXDROP_RXDROP 7
        s.mayRead .jtag (pEth 0) = true ∧ (act (.rcRead .jtag 0x90064 4) s).rdata = 7
          ∧ (act (.rcRead .jtag 0x90064 4) s).rd (pEth 0) ETH_RXDROP_RXDROP = 7) := by
  decide +kernel

theorem test_channel_status_read :
    up.mayRead .host (pSh 39) = true ∧ up.pageState (pSh 39) = 4
      ∧ bitAt (act (.rcRead .host (BitVec.ofNat 26 (pageBase (pSh 39) + 0x124 + 0x40 * 7)) 4) (up.wr (pSh 39) CH_STAT_OOR 1 7)).rdata 1
        = true := by
  decide +kernel

theorem test_count_reads :
    (let s := { up with cnt := { up.cnt with vals := [(0x400 + 319, 0xABC00000001)] } }
    s.pageState pGln = 4 ∧ (act (.countLowRead (.fc 319)) s).rdata = 1
      ∧ (act (.countLowRead (.fc 319)) s).view pGln GLN_FCH_FC 319 0 = 0xABC)
      ∧ (let s := { up with cnt := { up.cnt with vals := [(0x55F, 0x100000002), (0x57F, 0x200000003)] } }
        (act (.countLowRead (.sfv 31)) s).rdata = 2 ∧ (act (.countLowRead (.scv 31)) s).rdata = 3) := by
  decide +kernel

theorem test_counter_read :
    (let s := { up with cnt := { up.cnt with vals := [(0x204, 0x500000006)] } }
    s.pageState pCnt = 4 ∧ countsOutside 0x204 = false ∧ (act (.cntLRead 0x204) s).rdata = 6
      ∧ (act (.cntLRead 0x204) s).view pCnt CNT_H_VAL 0x204 0 = 5)
      ∧ (State.reset.pageState pCnt ≠ 4 ∧ act (.cntLRead 0) { State.reset with rdata := 3 } = State.reset) := by
  decide +kernel

theorem test_time_now_read :
    up.pageState pTime = 4 ∧ (act .timeNowRead { up with now := 3000 * 1024 }).rdata = 0x3E80000
      ∧ State.reset.pageState pTime ≠ 4 ∧ act .timeNowRead { State.reset with rdata := 3 } = State.reset := by
  decide +kernel
/-! ### Commits and page control (R11, R15, R587, R588, R591) -/

/-- A copy of CH_VIL of sheaf 0 waits. -/
def staged0 : State := act (.registerWrite .host 0x1000108 4 14000) up

/-- Sheaf 0 belongs to site 0, which runs. -/
def busy0 : State := (staged0.wr (pSh 0) SH_SITE_LO_EN 1).wr (pSq 0) SQ_STAT_STATE stRun

theorem test_commit_go_idle :
    tabRising 0 staged0.staged = true ∧ staged0.admits .host (pSh 0) true = true ∧ staged0.commitIdle (pSh 0) = true
      ∧ keyInPage (pSh 0) (fieldKey (pSh 0) CH_VIL_LVL 0 0) = true
      ∧ fieldAtKey (pSh 0) (fieldKey (pSh 0) CH_VIL_LVL 0 0) = some ⟨CH_VIL_LVL, 0, 0⟩
      ∧ (act (.pageCommitGo .host (pSh 0)) staged0).rd (pSh 0) CH_VIL_LVL = 14000
      ∧ (act (.pageCommitGo .host (pSh 0)) staged0).staged = [] := by
  decide +kernel

theorem test_commit_go_busy :
    busy0.admits .host (pSh 0) true = true ∧ busy0.commitIdle (pSh 0) = false
      ∧ (act (.pageCommitGo .host (pSh 0)) busy0).rd (pSh 0) CH_VIL_LVL = 0x7d0
      ∧ act (.commitApply (pSh 0)) busy0 = busy0 := by
  decide +kernel

theorem test_commit_apply :
    (let s := staged0.wr (pSh 0) PAGE_COMMIT_PEND 1
    s.commitIdle (pSh 0) = true ∧ s.bit (pSh 0) PAGE_COMMIT_PEND = true
      ∧ (act (.commitApply (pSh 0)) s).rd (pSh 0) CH_VIL_LVL = 14000 ∧ (act (.commitApply (pSh 0)) s).rd (pSh 0) PAGE_COMMIT_PEND = 0)
      ∧ staged0.bit (pSh 0) PAGE_COMMIT_PEND = false ∧ act (.commitApply (pSh 0)) staged0 = staged0 := by
  decide +kernel

theorem test_commit_drop :
    (act (.pageCommitDrop .host (pSh 0)) staged0).staged = []
      ∧ (act (.pageCommitDrop .host (pSh 0)) staged0).rd (pSh 0) CH_VIL_LVL = 0x7d0 := by
  decide +kernel

theorem test_commit_hop_per_site :
    (let s := act (.registerWrite .host 0xA11094 4 0x0501) (act (.registerWrite .host 0xA10114 4 0x0501) up)
    let t := s.wr (pSq 31) SQ_STAT_STATE stRun
    t.admits .host pHop true = true ∧ tabRising 0 t.staged = true ∧ t.siteBusy 31 = true
      ∧ (act (.pageCommitGo .host pHop) t).rd pHop HOP_THR_START 0 = 1
      ∧ (act (.pageCommitGo .host pHop) t).rd pHop HOP_THR_START 31 = 0x10
      ∧ tabFind (act (.pageCommitGo .host pHop) t).staged (fieldKey pHop HOP_THR_START 31 0) = some 1) := by
  decide +kernel

theorem test_commit_clk_waits :
    (let s := act (.registerWrite .host 0x202E4 4 0x1000) up
    s.admits .host pClk true = true ∧ s.cgStaged 7 = true
      ∧ ((act (.pageCommitGo .host pClk) s).cgo 7).commit = true ∧ (act (.pageCommitGo .host pClk) s).rd pClk CG_PER_VAL 7 = 0xc00) := by
  decide +kernel

theorem test_commit_refused :
    up.admits .i3c (pSh 0) true = false ∧ Discarded up (act (.pageCommitGo .i3c (pSh 0)) up) (pSh 0)
      ∧ Discarded up (act (.pageCommitDrop .i3c (pSh 0)) up) (pSh 0)
      ∧ up.admits .host pDev true = true ∧ capCommit pDev.kind = false ∧ act (.pageCommitGo .host pDev) up = up := by
  unfold Discarded; decide +kernel

theorem test_page_reset :
    capRst (pSh 0).kind = true ∧ staged0.pageBusy (pSh 0) = false ∧ staged0.pageState (pSh 0) = 4
      ∧ ((act (.pageReset .host (pSh 0)) staged0).pageo (pSh 0)).rst = true
      ∧ (act (.pageReset .host (pSh 0)) staged0).hasStaged (pSh 0) = false
      ∧ (act (.pageEnableWrite .host (pSh 0) false) staged0).rd (pSh 0) PAGE_CTL_EN = 0
      ∧ (act (.pageEnableWrite .host (pSh 0) true) (staged0.wr (pSh 0) PAGE_CTL_EN 0)).rd (pSh 0) PAGE_CTL_EN = 1 := by
  decide +kernel

theorem test_page_reset_refused :
    busy0.pageBusy (pSh 0) = true ∧ Discarded busy0 (act (.pageReset .host (pSh 0)) busy0) (pSh 0)
      ∧ Discarded busy0 (act (.pageEnableWrite .host (pSh 0) false) busy0) (pSh 0)
      ∧ State.reset.pageState (pSh 39) = 0 ∧ Discarded State.reset (act (.pageReset .host (pSh 39)) State.reset) (pSh 39) := by
  unfold Discarded; decide +kernel

theorem test_page_reset_release :
    (let s := (act (.pageReset .host (pSh 0)) up).wr (pSh 0) SH_OPC_RES_DONE 1
    (s.pageo (pSh 0)).rst = true ∧ s.bit (pSh 0) PAGE_CTL_EN = true ∧ (s.pageo (pSh 0)).iso = false
      ∧ (∀ d ∈ pageDomains (pSh 0), s.domainOn d = true) ∧ keepsOnReset .sh SH_OPC_RES_DONE = false
      ∧ (act (.pageResetRelease (pSh 0)) s).rd (pSh 0) SH_OPC_RES_DONE = 0
      ∧ ((act (.pageResetRelease (pSh 0)) s).pageo (pSh 0)).rst = false)
      ∧ (up.pageo (pSh 0)).rst = false ∧ act (.pageResetRelease (pSh 0)) up = up := by
  decide +kernel

theorem test_page_power :
    pageDomains (pSh 39) = [39] ∧ capPwr (pSh 39).kind = true ∧ up.admits .host (pSh 39) true = true
      ∧ up.rd (pSh 39) PAGE_CTL_EN = 1 ∧ up.requested 39 = true ∧ up.offRefused 39 = false
      ∧ (act (.pagePowerRequest .host (pSh 39) false) up).requested 39 = false
      ∧ (act (.pagePowerRequest .host (pSh 39) true) (act (.pagePowerRequest .host (pSh 39) false) up)).requested 39 = true
      ∧ busy0.requested 0 = true ∧ busy0.offRefused 0 = true
      ∧ (act (.pagePowerRequest .host (pSh 0) false) busy0).requested 0 = true := by
  decide +kernel

theorem test_page_fltl_clear :
    (let s := up.wr pFlt FLT_LATCH_LATCH (2 ^ 32 - 1) 2
    (act (.pageFltlClear .host (pBw 7) true false) s).rd pFlt FLT_LATCH_LATCH 2 = 2 ^ 32 - 1 - 2 ^ 27) := by
  decide +kernel
/-! ### Trips, open pins, force and measure (R58, R60, R68 to R73, R51, R52, R160) -/

theorem test_overcurrent_trip :
    (let s := site 31 0
    s.chanOff 7 = false ∧ s.chanSafe 7 = false ∧ s.siteOf 7 = some 31
      ∧ (act (.overcurrentTrip 7) s).rd (pSh 0) CH_STAT_OC 7 = 1
      ∧ bitAt ((act (.overcurrentTrip 7) s).rd pSilo SILO_SCAUSE_CAUSE 31) 0 = true
      ∧ bitAt ((act (.overcurrentTrip 7) s).rd pSilo SILO_SAFE_SAFE) 31 = true)
      ∧ (let s := up.wr (pSh 39) CH_CTL_ENABLE 1 7
        s.chanOff 319 = false ∧ s.chanSafe 319 = false ∧ s.siteOf 319 = none
          ∧ bitAt (tabGet 0 (act (.overcurrentTrip 319) s).safety.lone 319) 0 = true)
      ∧ up.chanOff 1 = true ∧ act (.overcurrentTrip 1) up = up := by
  decide +kernel

theorem test_out_of_range_trip :
    (let s := (site 31 0).wr (pSh 0) SH_PROT_OOR_SAFE 0
    s.chanOff 0 = false ∧ s.bit (pSh 0) SH_PROT_OOR_EN = true ∧ s.bit (pSh 0) SH_PROT_OOR_SAFE = false
      ∧ (act (.outOfRangeTrip 0) s).rd (pSh 0) CH_STAT_OOR 0 = 1 ∧ (act (.outOfRangeTrip 0) s).safety = s.safety)
      ∧ (let s := site 31 0
        s.bit (pSh 0) SH_PROT_OOR_SAFE = true ∧ bitAt ((act (.outOfRangeTrip 0) s).rd pSilo SILO_SCAUSE_CAUSE 31) 1 = true)
      ∧ (let s := up.wr (pSh 39) CH_CTL_ENABLE 1 7
        bitAt (tabGet 0 (act (.outOfRangeTrip 319) s).safety.lone 319) 1 = true)
      ∧ (let s := (site 31 0).wr (pSh 0) SH_PROT_OOR_EN 0
        act (.outOfRangeTrip 0) s = s) := by
  decide +kernel

theorem test_conditions_clear :
    (let s := act (.outOfRangeTrip 0) (act (.overcurrentTrip 7) (site 31 0))
    (s.flto 0).pair = true ∧ ((act (.ocConditionClear 7) s).flto 0).pair = true
      ∧ ((act (.oorConditionClear 0) (act (.ocConditionClear 7) s)).flto 0).pair = false) := by
  decide +kernel

/-- The open-pin check of sheaf 0 runs on channels 0 and 7. -/
def opc0 : State := { site 31 0 with sh := [(0, { opc := some ⟨false, false, 1000, 0x81, 0⟩ })] }

theorem test_open_pin_start :
    (let s := (site 31 0).wr (pSh 0) SH_OPC_RES_DONE 1
    WriteActs s .host (pSh 0) 0x50 0x03FF01 ∧ s.pageBusy (pSh 0) = false ∧ (tabGet {} s.sh 0).opc = none
      ∧ ((tabGet {} (act (.openPinCheckStart .host 0 0x03FF01) s).sh 0).opc.map fun o => (o.mask, o.due)) = some (0x81, 3 * usG)
      ∧ (act (.openPinCheckStart .host 0 0x03FF01) s).rd (pSh 0) SH_OPC_RES_DONE = 0)
      ∧ WriteActs opc0 .host (pSh 0) 0x50 0x03FF01
      ∧ (act (.openPinCheckStart .host 0 0x03FF01) opc0).rd (pSh 0) SH_OPC_CTL_REFUSED = 1 := by
  unfold WriteActs; decide +kernel

theorem test_open_pin_passes :
    (act (.opcSettleElapsed 0) opc0).now = 1000
      ∧ (let s := act (.opcSettleElapsed 0) opc0
        act (.opcSettleElapsed 0) s = s
          ∧ ((tabGet {} s.sh 0).opc.map fun o => o.sampling) = some true ∧ s.bit (pSh 0) SH_OPC_CTL_ADJ = false
          ∧ (act (.opcSamplingEnd 0 [(0, 0x80), (0, 0x80)]) s).rd (pSh 0) SH_OPC_RES_DONE = 1
          ∧ bitsAt ((act (.opcSamplingEnd 0 [(0, 0x80), (0, 0x80)]) s).rd (pSh 0) SH_OPC_RES_RES) 0 3 = 1
          ∧ bitsAt ((act (.opcSamplingEnd 0 [(0, 0x80), (0, 0x80)]) s).rd (pSh 0) SH_OPC_RES_RES) 21 3 = 3
          ∧ (let a := s.wr (pSh 0) SH_OPC_CTL_ADJ 1
            ((tabGet {} (act (.opcSamplingEnd 0 []) a).sh 0).opc.map fun o => (o.second, o.sampling)) = some (true, false)))
      ∧ act (.opcSamplingEnd 0 []) opc0 = opc0 ∧ act (.opcSettleElapsed 0) up = up := by
  decide +kernel

theorem test_pmu_writes :
    WriteActs up .host (pSh 39) (0x118 + 7 * 0x40) 0x11
      ∧ (act (.pmuCtlWrite .host 319 0x11) up).rd (pSh 39) CH_PMU_FORCE_FORCE 7 = 2000
      ∧ (act (.pmuCtlWrite .host 319 0x11) up).rd (pSh 39) CH_PMU_CTL_CONNECT 7 = 1
      ∧ ¬ WriteActs State.reset .host (pSh 39) (0x118 + 7 * 0x40) 0x11
      ∧ Discarded State.reset (act (.pmuCtlWrite .host 319 0x11) State.reset) (pSh 39)
      ∧ up.admits .host (pSh 39) false = true
      ∧ (act (.pmuClampWrite .host 319 0x3E803E80) up).rd (pSh 39) CH_PMU_CLAMP_VCLL 7 = 16000
      ∧ Discarded up (act (.pmuClampWrite .host 319 1) up) (pSh 39) := by
  unfold WriteActs Discarded; decide +kernel

theorem test_sheaf_routing :
    WriteActs up .host (pSh 39) 0x80 0x13F3E ∧ up.siteWriteTouches 39 0x13F3E = false ∧ up.pageBusy (pSh 39) = false
      ∧ (act (.shSiteWrite .host 39 0x13F3E) up).siteOf 315 = some 30 ∧ (act (.shSiteWrite .host 39 0x13F3E) up).siteOf 316 = some 31
      ∧ (site 30 stRun).siteWriteTouches 39 0x13F3E = true
      ∧ Discarded (site 30 stRun) (act (.shSiteWrite .host 39 0x13F3E) (site 30 stRun)) (pSh 39) := by
  unfold WriteActs Discarded; decide +kernel
/-! ### Vectors and edges (R77 to R99, R118, R208, R210) -/

/-- Site 31 on sheaf 0 runs a resident segment of two vectors whose tile stands first in the vector region. -/
def vec31 (o : SqOp) : State :=
  ((((site 31 stRun o).wr pGran GRAN_CFG_PSIZE 1).wr pGran GRAN_VBASE_BASE 2048 31).wr pGran GRAN_VTILES_TILES 1 31)

/-- Its sequencer at the first vector of the segment. -/
def seg31 : SqOp := { seg := some ⟨false, 0, 2, 0⟩, next := 5000 }

theorem test_vector_of_a_resident_segment :
    (let s := vec31 seg31
    s.sqRunning 31 = true ∧ s.boundaryDue 31 = false ∧ s.held 31 = false ∧ s.vecAccess 31 0 = .ok
      ∧ ((act (.vectorStart 31) s).sqo 31).vec = 1 ∧ ((act (.vectorStart 31) s).sqo 31).next = 5000 + 0xc00
      ∧ ((act (.vectorStart 31) s).sqo 31).seg = some ⟨false, 0, 2, 1⟩ ∧ (act (.vectorStart 31) s).sqState 31 = stRun) := by
  decide +kernel

theorem test_keep_alive_vectors :
    (let s := vec31 { wait := some ⟨.sync, 0, 0, 0, 0, none, false⟩, next := 5000 }
    s.sqRunning 31 = true ∧ s.boundaryDue 31 = false ∧ s.held 31 = false
      ∧ (act (.vectorStart 31) s).sqState 31 = stWait ∧ (act (.vectorStart 31) s).rd (pSq 31) SQ_STAT_KEEPING = 1)
      ∧ (let s := vec31 { paused := true, next := 5000 }
        s.boundaryDue 31 = false ∧ s.held 31 = false ∧ (act (.vectorStart 31) s).sqState 31 = stPaused
          ∧ ((act (.vectorStart 31) s).sqo 31).vec = 1) := by
  decide +kernel

/-- The same site in a streamed segment whose Hopper has no bale. -/
def under31 : State := (vec31 { seg := some ⟨true, 0, 2, 0⟩, next := 5000 }).wr pHop HOP_NBALE_NBALE 1 31

theorem test_underrun :
    under31.sqRunning 31 = true ∧ under31.boundaryDue 31 = false ∧ under31.held 31 = false
      ∧ (under31.hopo 31).failed = none ∧ under31.baleAt 31 (under31.hopPos 31) = none
      ∧ under31.hopPos 31 < under31.rd pHop HOP_NBALE_NBALE 31
      ∧ (act (.vectorStart 31) under31).rd pHop HOP_STAT_UNDER 31 = 1
      ∧ ((act (.vectorStart 31) under31).sqo 31).seg = some ⟨true, 0, 2, 0⟩
      ∧ (act (.vectorStart 31) (under31.wr (pSq 31) SQ_CFG_UPOL 1)).rd (pSq 31) SQ_CAUSE_CAUSE = 0x06
      ∧ (act (.vectorStart 31) (under31.wr (pSq 31) SQ_CFG_UPOL 1)).sqState 31 = stEnding
      ∧ up.sqRunning 31 = false ∧ act (.vectorStart 31) up = up := by
  decide +kernel

/-- Channel 7 of the running site has one edge left. -/
def edge7 (g : Gen) (actn : Nat) (win : Bool := false) (pos : PairPos := .single) : State :=
  let e : Edge := { gen := g, t := 9000, site := 31, vec := 0, act := actn, fmt := 0, pair := pos, window := win,
                    pass := 0, ts := 0, seg := 0, inst := 1 }
  { vec31 seg31 with ch := [(7, { edges := [e] })] }

theorem test_drive_edges :
    (firstEdge ((edge7 .d1 2).chan 7).edges).isSome = true ∧ (edge7 .d1 2).sqRunning 31 = true ∧ (edge7 .d1 2).cgOf 7 = none
      ∧ ((act (.edgeEvent 7 []) (edge7 .d1 2)).chan 7).drv = true ∧ (act (.edgeEvent 7 []) (edge7 .d1 2)).now = 9000
      ∧ ((act (.edgeEvent 7 []) (edge7 .d2 2)).chan 7).lvl = true
      ∧ ((act (.edgeEvent 7 []) (edge7 .d3 2 false .second)).chan 7).lvl = true
      ∧ ((act (.edgeEvent 7 []) (edge7 .d4 3)).chan 7).drv = false
      ∧ act (.edgeEvent 6 []) (edge7 .d4 3) = edge7 .d4 3 := by
  decide +kernel

theorem test_strobes :
    ((act (.edgeEvent 7 [(true, false)]) (edge7 .c1 4)).results.map fun r => (r.fail, r.above, r.below)) = [(true, true, false)]
      ∧ ((act (.edgeEvent 7 [(true, false)]) (edge7 .c1 5)).results.map fun r => r.fail) = [false]
      ∧ ((act (.edgeEvent 7 [(true, true)]) (edge7 .c1 7)).results.map fun r => r.fail) = [true]
      ∧ ((act (.edgeEvent 7 [(false, false)]) (edge7 .c1 6)).results.map fun r => r.fail) = [false]
      ∧ (act (.edgeEvent 7 []) (edge7 .c1 4 true)).results = []
      ∧ ((act (.edgeEvent 7 [(false, true), (true, false), (false, true)]) (edge7 .c2 4 true)).results.map fun r => r.fail) = [true]
      ∧ (edge7 .c2 4 true).chanOff 7 = false ∧ (edge7 .c2 4 true).bit (pSh 0) CH_CTL_CMP_EN 7 = true := by
  decide +kernel

/-! ### Clock generators and SYNC (R103, R105, R177 to R179) -/

theorem test_clock_generator_start_stop :
    WriteActs up .host pClk (0x200 + 0x20 * 7) (setBit 0 0 true) ∧ up.rd pClk CG_CTL_EN 7 = 0
      ∧ ((act (.clockGeneratorStart .host 7 0) up).cgo 7).start = true
      ∧ (let s := up.wr pClk CG_CTL_EN 1 7
        WriteActs s .host pClk (0x200 + 0x20 * 7) (setBit 0 0 true) ∧ (act (.clockGeneratorStart .host 7 0) s).cg = s.cg
          ∧ WriteActs s .host pClk (0x200 + 0x20 * 7) (setBit 0 0 false)
          ∧ (act (.clockGeneratorStop .host 7 0) s).rd pClk CG_CTL_EN 7 = 0) := by
  unfold WriteActs; decide +kernel

theorem test_clock_generator_phase_reset :
    (let s := { up.wr pClk CG_CTL_EN 1 7 with cg := [(7, { start := true })] }
    s.cgBoundary 7 ≠ none ∧ (act (.cgPhaseReset 7) s).rd pClk CG_STAT_RUN 7 = 1)
      ∧ (let s := { (up.wr pClk CG_CTL_EN 1 7).stage pClk CG_PER_VAL 1024 7 0 with cg := [(7, { commit := true })] }
        s.cgBoundary 7 ≠ none ∧ tabRising 0 s.staged = true ∧ (act (.cgPhaseReset 7) s).rd pClk CG_STAT_BADCFG 7 = 1
          ∧ (act (.cgPhaseReset 7) (s.stage pClk CG_HIGH_VAL 512 7 0)).rd pClk CG_PER_VAL 7 = 1024)
      ∧ up.cgBoundary 7 = none ∧ act (.cgPhaseReset 7) up = up := by
  decide +kernel

theorem test_sync_detected :
    (let s := (up.wr pClk SYNC_CTL_SRC 0).modSq 31 fun o => { o with wait := some ⟨.sync, 0, 0, 0, 0, none, false⟩ }
    s.rd pClk SYNC_CTL_SRC = 0 ∧ (act (.syncDetected 5) s).clk.lastSync = some (5 * 30 * 1024)
      ∧ ((act (.syncDetected 5) s).sqo 31).wait.map (·.released) = some (some (5 * 30 * 1024)))
      ∧ (let s := (up.wr pClk SYNC_CTL_CHK_EN 1).wr pClk SYNC_CTL_SRC 0
        let t := { s with clk := { s.clk with chkSeen := true, lastSync := some 0 } }
        (act (.syncDetected 5) t).rd pClk SYNC_STAT_IRREG = 1 ∧ (act (.syncDetected 5) s).rd pClk SYNC_STAT_IRREG = 0)
      ∧ act (.syncDetected 5) (up.wr pClk SYNC_CTL_SRC 1) = up.wr pClk SYNC_CTL_SRC 1 := by
  decide +kernel

theorem test_sync_lost :
    (act .syncLost (up.wr pClk SYNC_CTL_CHK_EN 1)).rd pClk SYNC_STAT_LOST = 1
      ∧ (act .syncLost (up.wr pClk SYNC_CTL_CHK_EN 1)).now = 2 * (10000 * (30 * 1024))
      ∧ up.rd pClk SYNC_CTL_CHK_EN = 0 ∧ act .syncLost up = up := by
  decide +kernel

theorem test_sync_generator :
    up.pageBusy pClk = false ∧ WriteActs up .host pClk 0x40 (setBit 2 2 true)
      ∧ (act (.syncGeneratorStart .host 2) up).clk.genNext = some (30 * 1024)
      ∧ (let s := act (.syncGeneratorStart .host 3) up
        WriteActs s .host pClk 0x40 (setBit 0 2 false) ∧ (act (.syncGeneratorStop .host 0) s).clk.genNext = none
          ∧ (act .syncPulseGenerate s).clk.syncOutEnd = 4 * (30 * 1024)
          ∧ (act .syncPulseGenerate s).clk.lastSync = some (30 * 1024)
          ∧ (act .syncPulseGenerate s).clk.genNext = some (10001 * (30 * 1024)))
      ∧ (act .syncPulseGenerate (act (.syncGeneratorStart .host 2) up)).clk.lastSync = none
      ∧ act .syncPulseGenerate up = up := by
  unfold WriteActs; decide +kernel
/-! ### Site starts and requests (R149 to R155) -/

/-- A requester's write to SQ_CTL or SQ_HJMP acts. -/
def sqWriteActs (s : State) (n off word : Nat) : Bool :=
  s.admits .host (pSq n) (decide (off < 0x40)) && !s.writeReserved (pSq n) (fieldsAt .sq off) word

theorem test_sq_write_acts (s : State) (n off word : Nat) (h : sqWriteActs s n off word = true) :
    WriteActs s .host (pSq n) off word := by
  simpa [sqWriteActs, WriteActs, Bool.and_eq_true, pSq] using h

theorem test_site_start :
    sqWriteActs up 31 0x40 1 = true ∧ up.startRefused 31 = false ∧ up.armedSeg 31 = none
      ∧ (act (.sqCtlStart .host 31) up).sqState 31 = stArmed ∧ (act (.sqCtlStart .host 31) up).rd (pSq 31) SQ_CTL_HTRIG = 0
      ∧ sqWriteActs (site 31 stRun) 31 0x40 1 = true ∧ (site 31 stRun).startRefused 31 = true
      ∧ act (.sqCtlStart .host 31) (site 31 stRun) = (site 31 stRun).wr (pSq 31) SQ_STAT_SREF 1 := by
  decide +kernel

theorem test_launch :
    (let s := site 31 stArmed
    s.dataReady 31 = true ∧ s.inSpan 31 = false ∧ s.rd (pSq 31) SQ_CFG_STARTMODE = 0
      ∧ (act (.launch 31) s).sqState 31 = stRun ∧ ((act (.launch 31) s).sqo 31).startAt = 512 * 1024
      ∧ ((act (.launch 31) s).chan 7).burst = true ∧ ((act (.launch 31) s).chan 7).drv = false)
      ∧ (let s := (site 31 stArmed).wr (pSq 31) SQ_CFG_STARTMODE 1
        let t := { s with clk := { s.clk with lastSync := some (512 * 1024) } }
        t.dataReady 31 = true ∧ ((act (.launch 31) t).sqo 31).startAt = 512 * 1024 ∧ act (.launch 31) s = s)
      ∧ up.sqState 31 ≠ stArmed ∧ act (.launch 31) up = up := by
  decide +kernel

theorem test_pause_and_resume_requests :
    (let s := site 31 stRun
    s.inSpan 31 = false ∧ sqWriteActs s 31 0x40 2 = true ∧ s.sqRunning 31 = true
      ∧ (act (.sqCtlPause .host 31) s).sqo 31 = { pauseReq := some 0 }
      ∧ act (.sqCtlPause .host 31) (act (.sqCtlPause .host 31) s) = act (.sqCtlPause .host 31) s
      ∧ sqWriteActs s 31 0x40 4 = true ∧ act (.sqCtlResume .host 31) s = s)
      ∧ (let s := site 31 stPaused { paused := true }
        sqWriteActs s 31 0x40 4 = true ∧ (act (.sqCtlResume .host 31) s).sqo 31 = { paused := true, resumeReq := some 0 }) := by
  decide +kernel

theorem test_abort_requests :
    (let s := site 31 stRun { next := 9000 }
    sqWriteActs s 31 0x40 8 = true ∧ (act (.sqCtlAbort .host 31) s).sqState 31 = stEnding
      ∧ (act (.sqCtlAbort .host 31) s).rd (pSq 31) SQ_CAUSE_CAUSE = 2 ∧ ((act (.sqCtlAbort .host 31) s).sqo 31).endAt = 9000)
      ∧ (act (.sqCtlAbort .host 31) (site 31 stArmed)).sqState 31 = stIdle
      ∧ act (.sqCtlAbort .host 31) (site 31 stEnding) = site 31 stEnding := by
  decide +kernel

theorem test_host_trigger_and_jump :
    (let s := site 31 stWait { wait := some ⟨.trig 0x20 true, 0, 0, 0, 0, none, false⟩ }
    sqWriteActs s 31 0x40 16 = true ∧ ((act (.sqCtlHtrig .host 31) s).sqo 31).wait.map (·.released) = some (some 0)
      ∧ (act (.sqCtlHtrig .host 31) s).rd (pSq 31) SQ_CTL_HTRIG = 0)
      ∧ (act (.sqCtlHtrig .host 31) (site 31 stRun)).rd (pSq 31) SQ_CTL_HTRIG = 1
      ∧ sqWriteActs (site 31 stRun) 31 0x5C 0xFFFFFF = true
      ∧ ((act (.sqHjmpWrite .host 31 0xFFFFFF) (site 31 stRun)).sqo 31).hjump = some (0xFFFFFF, 0)
      ∧ sqWriteActs up 31 0x5C 0 = true ∧ (act (.sqHjmpWrite .host 31 0) up).rd (pSq 31) SQ_JSTAT_REFUSED = 1 := by
  decide +kernel

theorem test_site_requests_discarded :
    State.reset.inSpan 31 = false ∧ State.reset.admits .host (pSq 31) false = false
      ∧ act (.sqCtlAbort .host 31) State.reset = State.reset.werr (pSq 31) := by
  decide +kernel

/-! ### Boundaries and waits (R114, R142, R143, R150, R154, R174) -/

theorem test_boundaries :
    (let o : SqOp := { next := 300000, pauseReq := some 0, atBoundary := true }
    (site 31 stRun o).sqRunning 31 = true ∧ o.pauseDue = true ∧ ((act (.pauseApply 31) (site 31 stRun o)).sqo 31).paused = true
      ∧ (act (.pauseApply 31) (site 31 stRun o)).now = 300000 - 8 * 1024)
      ∧ (let o : SqOp := { next := 300000, paused := true, resumeReq := some 0 }
        o.resumeDue = true ∧ ((act (.resumeApply 31) (site 31 stPaused o)).sqo 31).paused = false)
      ∧ (let o : SqOp := { next := 300000, hjump := some (77, 0), atBoundary := true, jumped := true, loops := [⟨0, 9, 1, 0⟩] }
        o.hjumpDue = true ∧ ((act (.hjumpApply 31) (site 31 stRun o)).sqo 31).pc = 77
          ∧ ((act (.hjumpApply 31) (site 31 stRun o)).sqo 31).loops = []
          ∧ (act (.hjumpApply 31) (site 31 stRun o)).rd (pSq 31) SQ_JSTAT_OVR = 1)
      ∧ (let o : SqOp := { next := 300000, hjump := some (77, 200000), seg := some ⟨false, 0, 2, 2⟩ }
        ((act (.segmentBoundary 31) (site 31 stRun o)).sqo 31).hjumpPassed = true
          ∧ (act (.segmentBoundary 31) (site 31 stRun o)).rd (pSq 31) SQ_JSTAT_DEFER = 0
          ∧ (act (.hjumpApply 31) (site 31 stRun { next := 300000, hjump := some (77, 0), atBoundary := true, hjumpPassed := true })).rd
            (pSq 31) SQ_JSTAT_DEFER = 1)
      ∧ (let o : SqOp := { next := 300000, seg := some ⟨false, 0, 2, 2⟩ }
        (site 31 stRun o).boundaryDue 31 = true ∧ ((act (.segmentBoundary 31) (site 31 stRun o)).sqo 31).seg = none
          ∧ ((act (.segmentBoundary 31) (site 31 stRun o)).sqo 31).atBoundary = true) := by
  decide +kernel

theorem test_no_boundary :
    up.sqRunning 31 = false ∧ act (.pauseApply 31) up = up ∧ act (.resumeApply 31) up = up ∧ act (.hjumpApply 31) up = up
      ∧ act (.segmentBoundary 31) up = up ∧ act (.waitResume 31) up = up ∧ act (.waittTimeout 31) up = up
      ∧ act (.rdvTimeout 31) up = up ∧ act (.drain 31) up = up := by
  decide +kernel

theorem test_waits_end :
    (let o : SqOp := { next := 300000, wait := some ⟨.sync, 0, 0, 0, 0, some (300000 - 32 * 1024), false⟩ }
    o.releaseDue = true ∧ ((act (.waitResume 31) (site 31 stWait o)).sqo 31).wait = none)
      ∧ (let o : SqOp := { next := 300000, wait := some ⟨.trig 0 true, 3, 2, 3, 0, none, false⟩ }
        o.timeoutDue = true ∧ (act (.waittTimeout 31) (site 31 stWait o)).rd (pSq 31) SQ_CAUSE_CAUSE = 0x11)
      ∧ (let o : SqOp := { next := 300000, wait := some ⟨.trig 0 true, 3, 0, 3, 0, none, false⟩ }
        (act (.waittTimeout 31) (site 31 stWait o)).sqo 31 = { next := 300000 })
      ∧ (let o : SqOp := { next := 300000, wait := some ⟨.rdv 15, 3, 2, 3, 0, none, true⟩ }
        (act (.rdvTimeout 31) (site 31 stWait o)).rd (pSq 31) SQ_CAUSE_CAUSE = 0x12)
      ∧ (let o : SqOp := { next := 300000, wait := some ⟨.sync, 3, 0, 3, 0, none, false⟩ }
        (act (.rdvTimeout 31) (site 31 stWait o)).sqo 31 = { next := 300000 }) := by
  decide +kernel

theorem test_drain :
    (let s := site 31 stEnding { endAt := 5000 }
    s.sqState 31 = stEnding ∧ s.draining 31 = false ∧ (act (.drain 31) s).sqState 31 = stIdle)
      ∧ (let s := { edge7 .c1 4 with regs := (site 31 stEnding).regs }
        s.draining 31 = true ∧ act (.drain 31) s = s) := by
  decide +kernel

/-- Site 31 alone is a member of group 15 and waits there. -/
def rdv31 (arrived : Bool) : State :=
  let s := (site 31 stWait { wait := some ⟨.rdv 15, 0, 0, 0, 0, none, false⟩ }).wr pClk RG_MEM_RG_MEM (2 ^ 31) 15
  if arrived then { s with clk := { s.clk with arrivals := [(15, (0, 31), 700)] } } else s

theorem test_rendezvous_release :
    (rdv31 true).rgReady 15 = true ∧ (rdv31 true).hasArrived 15 31 = true ∧ (act (.rendezvousRelease 15) (rdv31 true)).now = 700
      ∧ ((act (.rendezvousRelease 15) (rdv31 true)).sqo 31).wait.map (·.released) = some (some 700)
      ∧ (act (.rendezvousRelease 15) (rdv31 true)).clk.arrivals = []
      ∧ (rdv31 false).rgReady 15 = false ∧ act (.rendezvousRelease 15) (rdv31 false) = rdv31 false := by
  decide +kernel

/-- Sites 0 and 1 wait for each other at groups 0 and 1. -/
def stalled : State :=
  let w (g : Nat) : SqOp := { wait := some ⟨.rdv g, 0, 0, 0, 0, none, false⟩ }
  let s := (((up.wr (pSq 0) SQ_STAT_STATE stWait).wr (pSq 1) SQ_STAT_STATE stWait).wr pClk RG_MEM_RG_MEM 3 0).wr pClk RG_MEM_RG_MEM 3 1
  { s with
    sq := [(0, w 0), (1, w 1)],
    clk := { s.clk with arrivals := [(0, (0, 0), 0), (1, (0, 1), 0)] } }

theorem test_rendezvous_stall :
    ((0, 0), 0) ∈ stalled.stallSet ∧ (act .rendezvousStall stalled).rd pClk RG_STAT_STALL 0 = 1
      ∧ ((act .rendezvousStall stalled).sqo 0).wait.map (·.forced) = some true
      ∧ up.stallSet = [] ∧ act .rendezvousStall up = up := by
  decide +kernel
/-! ### Program words (R119 to R148) -/

/-- Site 31 runs and decodes the word of opcode `op` with operand bits `w` at its pc next. -/
def word31 (op w : Nat) (o : SqOp := {}) : State :=
  let s := (site 31 stRun { next := 300000, pc := o.pc, loops := o.loops, calls := o.calls, watchNext := o.watchNext,
                            vec := o.vec, firstFail := o.firstFail, arrivals := o.arrivals }).wr pGran GRAN_CFG_PSIZE 1
  { s with mem := { s.mem with gran := memPutNat s.mem.gran (8 * o.pc) 8 (op * 2 ^ 58 + w) } }

/-- The word at its pc is one of that opcode. -/
def at31 (s : State) (op : Nat) : Bool := (s.wordAt 31 op).isSome && !(s.sqo 31).mustSeg

/-- The burst ends at the next vector with a cause. -/
def ends31 (t : State) (cause : Nat) : Bool :=
  t.sqState 31 = stEnding && t.rd (pSq 31) SQ_CAUSE_CAUSE = cause && (t.sqo 31).endAt = 300000

theorem test_seg_word :
    (let s := word31 0x01 (2 ^ 32 - 1 + (2 ^ 24 - 1) * 2 ^ 32) { pc := 8191 }
    at31 s 0x01 = true ∧ ((act (.segWord 31) s).sqo 31).seg = some ⟨false, 2 ^ 32 - 1, 2 ^ 24, 0⟩
      ∧ ((act (.segWord 31) s).sqo 31).pc = 8192 ∧ (act (.segWord 31) s).rd (pSq 31) SQ_PC_ADDR = 8191) := by
  decide +kernel

theorem test_loop_word :
    at31 (word31 0x02 (7 * 2 ^ 32)) 0x02 = true ∧ ((act (.loopWord 31) (word31 0x02 (7 * 2 ^ 32))).sqo 31).pc = 8
      ∧ ((act (.loopWord 31) (word31 0x02 (7 * 2 ^ 32 + 3))).sqo 31).loops = [⟨1, 7, 3, 0⟩]
      ∧ ((act (.loopWord 31) (word31 0x02 (7 * 2 ^ 32 + 3) { loops := List.replicate 7 ⟨0, 9, 1, 0⟩ })).sqo 31).loops.length = 8
      ∧ ends31 (act (.loopWord 31) (word31 0x02 (7 * 2 ^ 32 + 3) { loops := List.replicate 8 ⟨0, 9, 1, 0⟩ })) 0x0C = true := by
  decide +kernel

theorem test_endl_word :
    at31 (word31 0x03 0 { pc := 9, loops := [⟨4, 9, 2, 0⟩] }) 0x03 = true
      ∧ ((act (.endlWord 31) (word31 0x03 0 { pc := 9, loops := [⟨4, 9, 2, 0⟩] })).sqo 31).pc = 4
      ∧ ((act (.endlWord 31) (word31 0x03 0 { pc := 9, loops := [⟨4, 9, 2, 0⟩] })).sqo 31).loops = [⟨4, 9, 1, 0⟩]
      ∧ ((act (.endlWord 31) (word31 0x03 0 { pc := 9, loops := [⟨4, 9, 1, 0⟩] })).sqo 31).pc = 10
      ∧ ((act (.endlWord 31) (word31 0x03 0 { pc := 9, loops := [⟨4, 9, 1, 0⟩] })).sqo 31).loops = []
      ∧ ends31 (act (.endlWord 31) (word31 0x03 0 { pc := 8, loops := [⟨4, 9, 1, 0⟩] })) 0x0C = true
      ∧ ends31 (act (.endlWord 31) (word31 0x03 0)) 0x0C = true := by
  decide +kernel

theorem test_call_word :
    at31 (word31 0x04 0xFFFFFF { calls := List.replicate 15 3 }) 0x04 = true
      ∧ ((act (.callWord 31) (word31 0x04 0xFFFFFF { calls := List.replicate 15 3 })).sqo 31).pc = 0xFFFFFF
      ∧ ((act (.callWord 31) (word31 0x04 0xFFFFFF { calls := [3] })).sqo 31).calls = [1, 3]
      ∧ ends31 (act (.callWord 31) (word31 0x04 5 { calls := List.replicate 16 3 })) 0x0B = true := by
  decide +kernel

theorem test_ret_word :
    at31 (word31 0x05 0 { calls := [5, 3], loops := [⟨0, 9, 1, 1⟩] }) 0x05 = true
      ∧ ((act (.retWord 31) (word31 0x05 0 { calls := [5, 3], loops := [⟨0, 9, 1, 1⟩] })).sqo 31).pc = 5
      ∧ ((act (.retWord 31) (word31 0x05 0 { calls := [5, 3] })).sqo 31).calls = [3]
      ∧ ends31 (act (.retWord 31) (word31 0x05 0)) 0x0B = true
      ∧ ends31 (act (.retWord 31) (word31 0x05 0 { calls := [5], loops := [⟨0, 9, 1, 1⟩] })) 0x0C = true := by
  decide +kernel

theorem test_jmp_word :
    (let s := word31 0x06 9 { pc := 5, loops := [⟨9, 12, 1, 0⟩, ⟨4, 9, 1, 0⟩, ⟨0, 8, 1, 0⟩] }
    at31 s 0x06 = true ∧ ((act (.jmpWord 31) s).sqo 31).pc = 9
      ∧ ((act (.jmpWord 31) s).sqo 31).loops = [⟨9, 12, 1, 0⟩, ⟨4, 9, 1, 0⟩]) := by
  decide +kernel

theorem test_conditional_words_taken :
    at31 (word31 0x07 9 { vec := 500, firstFail := some 0 }) 0x07 = true
      ∧ (word31 0x07 9 { vec := 500, firstFail := some 0 }).fsSeen 31 499 = true
      ∧ (word31 0x07 9 { vec := 500, firstFail := some 0 }).fsLate 31 499 = false
      ∧ ((act (.jfWord 31) (word31 0x07 9 { vec := 500, firstFail := some 0 })).sqo 31).pc = 9
      ∧ (act (.jfWord 31) (word31 0x07 9 { vec := 500, firstFail := some 0 })).rd pHop HOP_STAT_DISC 31 = 1
      ∧ ((act (.jpWord 31) (word31 0x08 9)).sqo 31).pc = 9 ∧ ((act (.jflWord 31) (word31 0x09 9)).sqo 31).pc = 9 := by
  decide +kernel

theorem test_conditional_words_not_taken :
    ((act (.jfWord 31) (word31 0x07 9 { vec := 500 })).sqo 31).pc = 1
      ∧ ((act (.jpWord 31) (word31 0x08 9 { vec := 500, firstFail := some 0 })).sqo 31).pc = 1
      ∧ ((act (.jflWord 31) (word31 0x09 (9 + 2 ^ 56))).sqo 31).pc = 1
      ∧ ends31 (act (.jfWord 31) (word31 0x07 9 { vec := 500, arrivals := [⟨0, 0, 300000⟩] })) 0x0E = true
      ∧ ((act (.jpWord 31) (word31 0x08 (9 + 2 ^ 57 + 2 ^ 56 + 63 * 2 ^ 48))).sqo 31).watchNext = some ⟨8, 63, true, 9⟩ := by
  decide +kernel

theorem test_match_word :
    at31 (word31 0x0A (9 + (2 ^ 24 - 1) * 2 ^ 32 + 2 * 2 ^ 56)) 0x0A = true
      ∧ ((act (.matchWord 31) (word31 0x0A (9 + (2 ^ 24 - 1) * 2 ^ 32 + 2 * 2 ^ 56))).sqo 31).matchNext = some (2 ^ 24 - 1, 2, 9)
      ∧ ends31 (act (.matchWord 31) (word31 0x0A 9)) 0x09 = true
      ∧ ends31 (act (.matchWord 31) (word31 0x0A (9 + 2 ^ 32 + 3 * 2 ^ 56))) 0x09 = true := by
  decide +kernel

/-- A WAITT word: source, edge, timeout action. -/
def waitt (src : Nat) (edge : Bool) (toact : Nat) : State :=
  word31 0x0B (5 + b2n edge * 2 ^ 48 + src * 2 ^ 50 + toact * 2 ^ 56)

theorem test_waitt_word :
    at31 (waitt 3 true 2) 0x0B = true ∧ ((act (.waittWord 31) (waitt 3 true 2)).sqo 31).wait = some ⟨.trig 3 true, 5, 2, 0, 0, none, false⟩
      ∧ (let s := (waitt 0x20 false 0).wr (pSq 31) SQ_CTL_HTRIG 1
        s.trigActive 31 0x20 = true ∧ ((act (.waittWord 31) s).sqo 31).wait.map (·.released) = some (some 0)
          ∧ (act (.waittWord 31) s).rd (pSq 31) SQ_CTL_HTRIG = 0)
      ∧ ends31 (act (.waittWord 31) (waitt 4 true 0)) 0x09 = true ∧ ends31 (act (.waittWord 31) (waitt 0x0F true 0)) 0x09 = true
      ∧ goes (exec (.waittWord 31) (waitt 0x10 true 0)) = true ∧ ((act (.waittWord 31) (waitt 0x1F true 0)).sqo 31).wait.isSome = true
      ∧ ends31 (act (.waittWord 31) (waitt 0x21 true 0)) 0x09 = true ∧ ends31 (act (.waittWord 31) (waitt 0 true 1)) 0x09 = true
      ∧ ends31 (act (.waittWord 31) ((waitt 0x20 true 0).wr pClk SPAN_CFG_EN 1 31)) 0x09 = true := by
  decide +kernel

theorem test_rdv_word :
    at31 (word31 0x0C (2 ^ 55 + 15 * 2 ^ 48)) 0x0C = true
      ∧ ends31 (act (.rdvWord 31) (word31 0x0C (2 ^ 55 + 15 * 2 ^ 48))) 0x09 = true
      ∧ ((act (.rdvWord 31) ((word31 0x0C (2 ^ 55 + 15 * 2 ^ 48)).wr pClk RG_MEM_RG_MEM (2 ^ 31) 15)).sqo 31).wait.map (·.kind)
        = some (.rdv 15)
      ∧ ((act (.rdvWord 31) (word31 0x0C 0)).sqo 31).wait.map (·.kind) = some .sync
      ∧ ends31 (act (.rdvWord 31) (word31 0x0C (2 ^ 56))) 0x09 = true := by
  decide +kernel

theorem test_action_words :
    at31 (word31 0x0D 0x42) 0x0D = true ∧ ((act (.markWord 31) (word31 0x0D 0x42)).sqo 31).acts = [0x0D * 2 ^ 58 + 0x42]
      ∧ ((act (.flagWord 31) (word31 0x0E (2 * 2 ^ 56))).sqo 31).acts = [0x0E * 2 ^ 58 + 2 * 2 ^ 56]
      ∧ ends31 (act (.flagWord 31) (word31 0x0E (3 * 2 ^ 56))) 0x09 = true
      ∧ ((act (.tsetWord 31) (word31 0x0F 0)).sqo 31).acts = [0x0F * 2 ^ 58]
      ∧ ends31 (act (.tsetWord 31) (word31 0x0F (3 * 2 ^ 56))) 0x09 = true := by
  decide +kernel

theorem test_stop_and_illegal_words :
    ends31 (act (.stopWord 31) (word31 0x10 0x1FFFF)) 0x01 = true
      ∧ (act (.stopWord 31) (word31 0x10 0x1FFFF)).rd (pSq 31) SQ_CAUSE_CODE = 0xFFFF
      ∧ at31 (word31 0x11 0) 0x11 = true ∧ ends31 (act (.illegalOpcode 31) (word31 0x11 0)) 0x09 = true
      ∧ ends31 (act (.illegalOpcode 31) (word31 0 0)) 0x09 = true ∧ ends31 (act (.illegalOpcode 31) (word31 63 0)) 0x09 = true
      ∧ (let s := word31 0x06 9 { watchNext := some ⟨7, 0, false, 9⟩ }
        (s.wordAt 31 0x06).isSome = true ∧ (s.sqo 31).mustSeg = true ∧ ends31 (act (.jmpWord 31) s) 0x09 = true)
      ∧ up.wordAt 31 0x06 = none ∧ act (.jmpWord 31) up = up := by
  decide +kernel
/-! ### Flags and trigger lines (R147, R165 to R168, R181, R574, R575) -/

theorem test_site_flags :
    WriteActs up .host pClk (0x108 + 4 * 1) (2 ^ 31) ∧ up.flagShared 63 = false
      ∧ (act (.siteFlagSet .host 1 (2 ^ 31)) up).flag 63 = true ∧ (act (.siteFlagSet .host 1 (2 ^ 31)) up).flag 31 = false
      ∧ (act (.siteFlagClear .host 1 (2 ^ 31)) (act (.siteFlagSet .host 1 (2 ^ 31)) up)).flag 63 = false
      ∧ WriteActs up .host pClk (0x110 + 4 * 1) (2 ^ 31)
      ∧ (let s := up.wr pClk SF_SHARE1_FLAGS (2 ^ 31)
        s.flagShared 63 = true ∧ (act (.siteFlagSet .host 1 (2 ^ 31)) s).flag 63 = false
          ∧ (act (.siteFlagSet .host 1 (2 ^ 31)) s).clk.sharedFlags.map (fun e => (e.idx, e.op, e.t)) = [(63, 1, 64 * 1024)]
          ∧ (act (.siteFlagClear .host 1 (2 ^ 31)) s).clk.sharedFlags.map (fun e => (e.idx, e.op, e.t)) = [(63, 0, 64 * 1024)]) := by
  unfold WriteActs; decide +kernel

theorem test_shared_flag_apply :
    (let s := { up with clk := { up.clk with sharedFlags := [⟨63, 2, 9000, 0, 32⟩] } }
    firstShared (s.rd pClk GRP_CFG_CHIP_ID) s.clk.sharedFlags = some ⟨63, 2, 9000, 0, 32⟩
      ∧ (act .sharedFlagApply s).flag 63 = true ∧ (act .sharedFlagApply s).now = 9000
      ∧ (act .sharedFlagApply s).clk.sharedFlags = [])
      ∧ up.clk.sharedFlags = [] ∧ act .sharedFlagApply up = up := by
  decide +kernel

theorem test_trigger_lines :
    WriteActs up .host pClk 0x1C8 0x8001
      ∧ (act (.atPulse .host 0x8001) up).clk.atPulses.map (fun e => (e.idx, e.t)) = [(0, 64 * 1024), (15, 64 * 1024)] := by
  unfold WriteActs; decide +kernel

theorem test_trigger_line_applies :
    (let s0 := site 31 stWait { wait := some ⟨.trig 0x1F false, 0, 0, 0, 0, none, false⟩ }
    let s := { s0 with clk := { s0.clk with atPulses := [⟨15, 0, 9000, 0, 32⟩] } }
    firstShared (s.rd pClk GRP_CFG_CHIP_ID) s.clk.atPulses = some ⟨15, 0, 9000, 0, 32⟩
      ∧ tabFind (act .atLineApply s).clk.atLast 15 = some 9000
      ∧ ((act .atLineApply s).sqo 31).wait.map (·.released) = some (some 9000))
      ∧ act .atLineApply up = up := by
  decide +kernel

theorem test_trigger_pins :
    tabGet 0 up.clk.trigLast 3 = 0 ∧ tabGet 0 (act (.trigInEdge 3 9000 1) up).clk.trigLast 3 = 9001
      ∧ (act (.trigInEdge 3 9000 1) up).now = 9000
      ∧ (let s := { up with clk := { up.clk with trigLast := [(3, 9001)], trigPulses := [(3, 73000, 74000)] } }
        9000 + 16 * 1024 - 1 < tabGet 0 s.clk.trigLast 3 - 1 + 16 * 1024
          ∧ tabGet 0 (act (.trigInEdge 3 (9000 + 16 * 1024 - 1) 1) s).clk.trigLast 3 = 9000 + 16 * 1024
          ∧ (act (.trigInEdge 3 (9000 + 16 * 1024 - 1) 1) s).clk.trigPulses.length = 1)
      ∧ (let s := { up with clk := { up.clk with toutEnd := [(3, 5000)] } }
        (act (.trigOutPulseEnd 3) s).clk.toutEnd = [] ∧ (act (.trigOutPulseEnd 3) s).now = 5000)
      ∧ act (.trigOutPulseEnd 3) up = up := by
  decide +kernel

/-! ### Hopper and Grinder (R200 to R223) -/

/-- Hopper 31 streams one bale of 4,096 vectors on no pins; its header, body and CRC. -/
def bale31 (did nv : Nat) : List Byte :=
  let h := leBytes 4 0x314C4142 ++ leBytes 4 1 ++ leBytes 4 0 ++ leBytes 2 nv ++ leBytes 2 0 ++ leBytes 4 64 ++ leBytes 2 did
    ++ List.replicate 38 0#8
  let body := List.replicate 64 0#8
  h ++ leBytes 4 (crc32c (h ++ body)) ++ body

/-- Hopper 31 with a record. -/
def hop31 (h : HopOp) : State := { up.wr pHop HOP_NBALE_NBALE 1 31 with hop := [(31, h)] }

theorem test_hopper_fetch :
    (let s := hop31 { on := true, addr := 0x4000 }
    s.pageState (pSq 31) = 4 ∧ s.nextLen 31 = 512 ∧ (act (.hopperFetch 31) s).hopo 31
      = { on := true, addr := 0x4200, reqs := [⟨0, 0x4000, 512, false⟩] })
      ∧ (let s := (hop31 { on := true, needTable := true }).wr pHop HOP_ITAB_ITAB 3 31
        s.pastEnd 31 0 = false ∧ ((act (.hopperFetch 31) s).hopo 31).reqs = [⟨0, 192, 4, true⟩])
      ∧ act (.hopperFetch 31) up = up := by
  decide +kernel

theorem test_hopper_data :
    (let s := (hop31 { on := true, reqs := [⟨0, 0, 3, false⟩] }).wr pHop HOP_CFG_SRC 1 31
    s.hostFed 31 = true ∧ ((act (.hopperDataArrival 31 [1, 2] .ok) s).hopo 31).cur = [1, 2, 0]
      ∧ ((act (.hopperDataArrival 31 [1, 2] (.bad 0 0)) s).hopo 31).curErr = true)
      ∧ (let s := (hop31 { on := true, epoch := 1, reqs := [⟨0, 0, 3, false⟩] }).wr pHop HOP_CFG_SRC 1 31
        ((act (.hopperDataArrival 31 [1, 2] .ok) s).hopo 31).cur = [])
      ∧ act (.hopperDataArrival 31 [] .ok) up = up := by
  decide +kernel

theorem test_bale_passes :
    (let s := hop31 { on := true, cur := bale31 0 4095 ++ [7] }
    (s.hopo 31).failed = none ∧ headerReason (s.hopo 31).cur 0 (s.channelsOf 31).length = 0 ∧ bodyLen (s.hopo 31).cur = 64
      ∧ s.checkBale 31 ((bale31 0 4095).take 64) ((bale31 0 4095).drop 64) = .inr (List.replicate 64 0)
      ∧ ((act (.baleCheck 31) s).hopo 31).bales.map (fun b => (b.idx, b.nv, b.bytes)) = [(0, 4096, 128)]
      ∧ ((act (.baleCheck 31) s).hopo 31).cur = [7]) := by
  decide +kernel

theorem test_bale_fails :
    (let s := hop31 { on := true, cur := bale31 1 0 }
    s.checkBale 31 ((bale31 1 0).take 64) ((bale31 1 0).drop 64) = .inl (7, 0) ∧ s.sqState 31 ≠ stArmed
      ∧ ((act (.baleCheck 31) s).hopo 31).failed = some (0, 7) ∧ (act (.baleCheck 31) s).rd pHop HOP_ERR_REASON 31 = 7)
      ∧ (let s := hop31 { on := true, cur := List.replicate 64 0 }
        headerReason (s.hopo 31).cur 0 0 = 1 ∧ ((act (.baleCheck 31) s).hopo 31).failed = some (0, 1))
      ∧ (let s := hop31 { on := true, cur := (bale31 0 0).take 127 }
        act (.baleCheck 31) s = s)
      ∧ act (.baleCheck 31) up = up := by
  decide +kernel

theorem test_host_producer :
    WriteActs up .host pHop (0x11C + 0x80 * 31) 0x3FFFFFF
      ∧ (act (.hostProducerWrite .host 31 0x3FFFFFF) up).rd pHop HOP_HPROD_PROD 31 = 0x3FFFFFF := by
  unfold WriteActs; decide +kernel

/-- Hopper 31 holds a bale of one lane of 400 vectors, 100 unit bytes; its tokens follow the lane table. -/
def lane31 (tokens : List Byte) (l : Lane := {}) : State :=
  let body := leBytes 2 tokens.length ++ List.replicate 6 0#8 ++ tokens
  { hop31 { bales := [⟨0, 400, 1, false, 0, body, 128, 0, tabPut {} [] 0 l⟩] } with
    mem := { up.mem with dict := memPutBytes [] ((320 + 31) * 0x800) [1, 2, 3, 4, 5, 6, 7, 8] } }

/-- The lane after a token. -/
def laneOf (s : State) : Lane := ((s.hopo 31).bales.head?.map fun b => b.lane 0).getD {}

theorem test_lit_and_rep_tokens :
    ((lane31 [0x21, 9, 8]).grinding 31 0).isSome = true ∧ laneOf (act (.litToken 31 0) (lane31 [0x21, 9, 8])) = ⟨3, [8, 9], false, 0⟩
      ∧ act (.repToken 31 0) (lane31 [0x21, 9, 8]) = lane31 [0x21, 9, 8]
      ∧ laneOf (act (.repToken 31 0) (lane31 [0x40, 2] { pos := 0, out := [5] })) = ⟨2, [5, 5, 5, 5], false, 0⟩
      ∧ laneOf (act (.repToken 31 0) (lane31 [0x40, 99])) = ⟨2, List.replicate 100 0#8, false, 0⟩
      ∧ laneOf (act (.repToken 31 0) (lane31 [0x40, 100])) = ⟨0, [], false, 8⟩ := by
  decide +kernel

theorem test_dict_and_xor_tokens :
    (let s := { lane31 [0x60, 0] with mem := { up.mem with dict := memPutBytes [] 0 [1, 2, 3, 4, 5, 6, 7, 8] } }
    laneOf (act (.dictToken 31 0) (s.wr (pSh 0) SH_SITE_LO_EN 1 |>.wr (pSh 0) SH_SITE_LO_SITE 31))
      = ⟨2, [8, 7, 6, 5, 4, 3, 2, 1], false, 0⟩)
      ∧ (let s := { lane31 [0x80, 0] { out := [3, 1] } with mem := { up.mem with dict := memPutBytes [] 0 [1, 2, 3, 4, 5, 6, 7, 8] } }
        laneOf (act (.xorToken 31 0) (s.wr (pSh 0) SH_SITE_LO_EN 1 |>.wr (pSh 0) SH_SITE_LO_SITE 31))
          = ⟨2, [11, 6, 6, 5, 4, 3, 2, 1, 3, 1], false, 0⟩) := by
  decide +kernel

theorem test_end_and_reserved_tokens :
    laneOf (act (.endToken 31 0) (lane31 [0] { out := List.replicate 100 0#8 })) = ⟨1, List.replicate 100 0#8, true, 0⟩
      ∧ laneOf (act (.endToken 31 0) (lane31 [0])) = ⟨0, [], false, 8⟩
      ∧ laneOf (act (.endToken 31 0) (lane31 [1] { out := List.replicate 100 0#8 })) = ⟨0, List.replicate 100 0#8, false, 9⟩
      ∧ laneOf (act (.reservedToken 31 0) (lane31 [0xA0])) = ⟨0, [], false, 9⟩
      ∧ (act (.reservedToken 31 0) (lane31 [0xFF])).rd pHop HOP_STAT_ERR 31 = 1
      ∧ laneOf (act (.litToken 31 0) (lane31 [0x20] { pos := 1 })) = ⟨1, [], false, 8⟩
      ∧ (lane31 [0]).sqState 31 ≠ stArmed ∧ act (.endToken 31 320) (lane31 [0]) = lane31 [0] := by
  decide +kernel
/-! ### BAR2, the Gleaner and the bitmap (R197 to R199, R219, R229 to R258) -/

theorem test_bar2_granary :
    State.reset.mode ≤ 1 ∧ act (.bar2Write 0 [1]) State.reset = State.reset ∧ 1 < up.mode ∧ up.rd pSec SEC_KSTAT_ZBUSY = 0
      ∧ (act (.bar2Write 0x2FFFFFE [1, 2]) up).mem.gran = [(0x2FFFFFE, 1), (0x2FFFFFF, 2)]
      ∧ (act (.bar2Write 0 [1]) (up.wr pPwr PWR_STAT1_ON (2 ^ 32 - 1 - 2 ^ 8))).rd pGran GRAN_STAT_WDROP = 1 := by
  decide +kernel

/-- Two bits of the first quarter of the Granary are in error. -/
def broken0 : State := { up with mem := { up.mem with granErr := [(0, 1)] } }

theorem test_bar2_granary_error :
    wholeQuarter 0 1 0 = false ∧ broken0.granGone 0 = false ∧ tabGet 0 broken0.mem.granErr 0 = 1
      ∧ (act (.bar2Write 0 [1]) broken0).mem.gran = [] ∧ (act (.bar2Write 0 [1]) broken0).rd pGran GRAN_STAT_UE = 1
      ∧ (act (.bar2Write 0 (List.replicate 8 1)) broken0).mem.granErr = [] := by
  decide +kernel

theorem test_bar2_other_memories :
    (act (.bar2Write 0x30AFFFF [1]) up).mem.dict = [(0xAFFFF, 1)]
      ∧ (act (.bar2Write 0x30AFFFF [1]) (site 31 stRun)).mem.dict = []
      ∧ up.domainOn 75 = true ∧ (act (.bar2Write 0x313FFFF [1]) up).mem.bw = [(0x3FFFF, 1)]
      ∧ (let s := up.wr pPwr PWR_STAT2_ON (2 ^ 16 - 1 - 2 ^ 11)
        s.domainOn 75 = false ∧ act (.bar2Write 0x313FFFF [1]) s = s)
      ∧ act (.bar2Write 0x3FFFFFF [1]) up = up.werr pGln := by
  decide +kernel

/-- A compare result of channel 7 waits to reach the Gleaner; site 31 logs in CONTINUOUS mode. -/
def res7 (fail : Bool) : State :=
  { (site 31 stRun).wr pGln GLN_SCFG_MODE 3 31 with results := [⟨31, 5, 7, fail, 9000, 0, true, false, 0, 63, 4, 1⟩] }

theorem test_compare_result :
    (res7 true).pageState pGln = 4 ∧ ({ res7 true with results := [] } : State).resultsOutstanding 31 5 = false
      ∧ (act .compareResultArrival (res7 true)).counter (0x400 + 7) = 1 ∧ (act .compareResultArrival (res7 true)).counter 0x2C1 = 1
      ∧ (act .compareResultArrival (res7 true)).counter (0x540 + 31) = 1
      ∧ (act .compareResultArrival (res7 true)).gln.queue.map (fun x => (x.typ, x.bytes.take 4)) = [(1, [1, 31, 0, 63])]
      ∧ (act .compareResultArrival (res7 false)).counter (0x560 + 31) = 1
      ∧ (act .compareResultArrival (res7 false)).counter (0x540 + 31) = 0
      ∧ (act .compareResultArrival ((res7 true).wr pGln GLN_PMASK_MASK (2 ^ 7) 0)).counter (0x400 + 7) = 0
      ∧ (act .compareResultArrival ((res7 true).wr pGln PAGE_CTL_EN 0)).cnt = up.cnt
      ∧ act .compareResultArrival up = up := by
  decide +kernel

theorem test_underrun_mark :
    (let s := { up.wr pGln GLN_SCFG_MODE 1 31 with gln := { up.gln with marks := [⟨31, 9, 2, 4095, 9000, 63, 4⟩] } }
    s.glnUp 31 = true ∧ (act .underrunMark s).gln.queue.map (fun x => (x.typ, x.bytes.take 4)) = [(3, [3, 31, 0, 63])]
      ∧ (act .underrunMark (s.wr pGln GLN_SCFG_MODE 0 31)).gln.queue = [])
      ∧ act .underrunMark up = up := by
  decide +kernel

/-- A record of site 31 waits; its region of 256 slots holds `used` records. -/
def rec31 (typ used : Nat) (stopped : Bool := false) : State :=
  { up with gln := { up.gln with
      queue := [⟨31, typ, List.replicate 32 7, 1, 5, 9, false⟩],
      sites := [(31, { used := used, wpos := used % 256, stopped := stopped })] } }

theorem test_record_write :
    (rec31 1 254).regionSize 31 = 256 ∧ (act .recordWrite (rec31 1 254)).rd pGln GLN_SWR_CNT 31 = 1
      ∧ memGet (act .recordWrite (rec31 1 254)).mem.cap (32 * 254 + 31) = 7
      ∧ ((act .recordWrite (rec31 1 255)).glnSite 31).used = 256 ∧ (act .recordWrite (rec31 1 255)).rd pGln GLN_SSTAT_FULL 31 = 1
      ∧ memGet (act .recordWrite (rec31 1 255)).mem.cap (32 * 255) = 6
      ∧ ((act .recordWrite (rec31 4 255)).glnSite 31).used = 1 ∧ memGet (act .recordWrite (rec31 4 255)).mem.cap 0 = 7
      ∧ (act .recordWrite (rec31 1 9 true)).mem = up.mem ∧ act .recordWrite up = up := by
  decide +kernel

theorem test_record_export :
    (let s0 := (up.wr pGln GLN_DL_SIZE_SIZE 64).wr pGln GLN_DL_PROD_PROD 63
    let s := { s0 with
      gln := { s0.gln with exports := [(31, 2)] }, host := { s0.host with link := true, bme := true },
      mem := { s0.mem with cap := [(64, 9)] } }
    s.hostOk = true ∧ act .recordExport s = s.wr pGln GLN_DL_STAT_STALL 1
      ∧ (let t := s.wr pGln GLN_DL_CONS_CONS 1
        (act .recordExport t).rd pGln GLN_DL_PROD_PROD = 0 ∧ (act .recordExport t).gln.inRing = [32]
          ∧ (act .recordExport t).mem.host = [(t.dlAddr 63, 9)]))
      ∧ act .recordExport up = up := by
  decide +kernel

theorem test_datalog_consumer :
    (let s := { rec31 1 2 with gln := { (rec31 1 2).gln with inRing := [31, 32, 31] } }.wr pGln GLN_DL_SIZE_SIZE 64
    WriteActs s .host pGln 0x90 2 ∧ (act (.datalogConsumerWrite .host 2) s).gln.inRing = [31]
      ∧ ((act (.datalogConsumerWrite .host 2) s).glnSite 31).used = 1) := by
  unfold WriteActs; decide +kernel

theorem test_gleaner_count_clear :
    (let s := { site 31 0 with cnt := { up.cnt with vals := [(0x407, 5), (0x408, 6), (0x55F, 7)] } }
    WriteActs s .host pGln (0x13C + 0x40 * 31) 1 ∧ s.siteBusy 31 = false
      ∧ (act (.gleanerCountClear .host 31) s).cnt.vals = [(0x408, 6)])
      ∧ act (.gleanerCountClear .host 31) (site 31 stRun) = (site 31 stRun).werr pGln := by
  unfold WriteActs; decide +kernel

theorem test_bitmap_update :
    (let s := { up with gln := { up.gln with updates := [(0, 31), (0, 0)] } }
    s.pageState pGln = 4 ∧ (act .bitmapUpdate s).gln.updates = []
      ∧ qdrDecode (tabGet 0 (act .bitmapUpdate s).mem.qdr (qdrKey (s.qdrPlace 0).1 (s.qdrPlace 0).2)) = (false, 2 ^ 31 + 1))
      ∧ act .bitmapUpdate up = up
      ∧ (act (.qdrAddressParityError 1) up).rd pQdr QDR_STAT_APERR = 1 ∧ (act (.qdrAddressParityError 1) up).counter 0x366 = 1 := by
  decide +kernel

theorem test_bitmap_readout :
    WriteActs up .host pGln 0x70 3 ∧ (act (.bitmapReadoutStart .host 3) up).rd pGln GLN_BRD_CTL_BUSY = 1
      ∧ (act (.bitmapReadoutStart .host 3) up).rd pGln GLN_BRD_CTL_CLR = 1
      ∧ (let s := up.wr pGln GLN_BRD_CTL_BUSY 1
        (act (.bitmapReadoutStart .host 1) s).rd pGln GLN_BRD_CTL_REFUSED = 1)
      ∧ act .bitmapReadoutDone up = up
      ∧ (let s0 := (act .bitmapUpdate { up with gln := { up.gln with updates := [(0, 31)] } }).wr pQdr QDR_STAT_QARDY 1
        let s := { (s0.wr pGln GLN_BRD_LEN_N 1).wr pGln GLN_BRD_CTL_BUSY 1 with host := { s0.host with link := true, bme := true } }
        s.qdrFitted (s.qdrPlace 0).1 (s.qdrPlace 0).2 = true ∧ s.hostOk = true
          ∧ (act .bitmapReadoutDone s).mem.host = [(3, 0x80)] ∧ (act .bitmapReadoutDone s).rd pGln GLN_BRD_CTL_DONE = 1) := by
  unfold WriteActs; decide +kernel
/-! ### Scans, the reference, runs and urgent conversions (R264 to R291) -/

/-- Slice 0 belongs to the scan sequencer, whose list is the one entry 0. -/
def scan0 : State := up.wr (pAs 0) AS_CFG_OWNER 2

/-- The scan runs and its group has started. -/
def scan1 : State := act .scanGroupStart (act (.scanStart .host) scan0)

theorem test_scan_start :
    WriteActs scan0 .host pAscan 0x40 1 ∧ scan0.scanBad = false ∧ scan0.bit pAscan ASCAN_STAT_RUN = false
      ∧ (act (.scanStart .host) scan0).rd pAscan ASCAN_STAT_RUN = 1 ∧ (act (.scanStart .host) scan0).scan.due = 1
      ∧ up.scanBad = true ∧ (act (.scanStart .host) up).rd pAscan ASCAN_STAT_CFGERR = 1
      ∧ scan1.bit pAscan ASCAN_STAT_RUN = true ∧ (act (.scanStart .host) scan1).rd pAscan ASCAN_SDROP_SDROP = 1 := by
  unfold WriteActs; decide +kernel

theorem test_scan_period_and_trigger :
    (let s := scan0.wr pAscan ASCAN_CFG_SSRC 1
    s.pageState pAscan = 4 ∧ s.rd pAscan ASCAN_CFG_SSRC = 1 ∧ (act .scanPeriodStart s).rd pAscan ASCAN_STAT_RUN = 1
      ∧ (act .scanPeriodStart s).scan.perNext = 1500 * 2048)
      ∧ act .scanPeriodStart up = up
      ∧ (let s := { scan0.wr pAscan ASCAN_CFG_SSRC 31 with scan := { scan0.scan with trigs := [(31, 9000)] } }
        (act .scanTriggerStart s).rd pAscan ASCAN_STAT_RUN = 1 ∧ (act .scanTriggerStart s).now = 9000
          ∧ (act .scanTriggerStart (s.wr pAscan ASCAN_CFG_SSRC 0)).rd pAscan ASCAN_STAT_RUN = 0)
      ∧ act .scanTriggerStart up = up := by
  decide +kernel

theorem test_scan_group :
    scan1.scan.out = [⟨0, 0, 1, 1, none, false, false⟩] ∧ scan1.scan.next = 1 ∧ scan1.rd (pAs 0) AS_STAT_ACT = 2
      ∧ act .scanGroupStart scan1 = scan1
      ∧ (let s := act (.scanStart .host) scan0
        let f := { s with scan := { s.scan with queue := List.replicate 256 [] } }
        act .scanGroupStart f = f.wr pAscan ASCAN_STAT_QWAIT 1
          ∧ act .scanGroupStart { f with scan := { f.scan with queue := List.replicate 255 [] } }
            ≠ f.wr pAscan ASCAN_STAT_QWAIT 1
          ∧ (let u := s.modAs 0 fun o => { o with urg := some ⟨0, 0, 9, 0, 0, 0⟩ }
            act .scanGroupStart u = u.wr pAscan ASCAN_STAT_DELAYED 1)) := by
  decide +kernel

theorem test_abus_switch :
    (let s0 := ((site 31 0).wr (pSh 0) CH_PMU_CTL_CONNECT 1 7).wr (pSh 0) CH_PMU_CTL_MODE 1 7
    let s := { s0 with scan := { s0.scan with out := [⟨0, 0, 1, 17, some (0, 7), false, false⟩] } }
    (act (.abusSwitchClose 0) s).scan.closed = [(0, 8)] ∧ (act (.abusSwitchClose 0) s).now = 17 * 2048
      ∧ (act (.abusSwitchClose 0) (s.wr (pSh 0) CH_PMU_CTL_MODE 0 7)).scan.out = [⟨0, 0, 1, 17, some (0, 7), true, true⟩]
      ∧ act (.abusSwitchClose 7) s = s) := by
  decide +kernel

theorem test_scan_result :
    (act (.scanResultQueue [(0x1FFF, false)]) scan1).scan.queue.map (fun e => e.take 4) = [[0xFF, 0x1F, 0, 0x0A]]
      ∧ (act (.scanResultQueue [(0x1FFF, false)]) scan1).rd pAscan ASCAN_STAT_RUN = 0
      ∧ (act (.scanResultQueue [(0x1FFF, false)]) scan1).counter 0x321 = 1
      ∧ act (.scanResultQueue []) scan1 = scan1 ∧ act (.scanResultQueue []) up = up := by
  decide +kernel

theorem test_scan_copy_and_abort :
    (let s := { up with
      scan := { up.scan with queue := [[9, 8]] }, host := { up.host with link := true, bme := true } }
    (act .scanQueueCopy (s.wr pAscan ASCAN_QCONS_CONS 5)).mem.host = [(0, 9), (1, 8)]
      ∧ (act .scanQueueCopy (s.wr pAscan ASCAN_QCONS_CONS 5)).rd pAscan ASCAN_QPROD_PROD = 1
      ∧ act .scanQueueCopy (s.wr pAscan ASCAN_QCONS_CONS 1) = s.wr pAscan ASCAN_QCONS_CONS 1)
      ∧ act .scanQueueCopy up = up
      ∧ WriteActs scan1 .host pAscan 0x40 2 ∧ (act (.scanAbort .host) scan1).rd pAscan ASCAN_STAT_ABORTED = 1
      ∧ (act (.scanAbort .host) scan1).rd (pAs 0) AS_STAT_ACT = 0 ∧ (act (.scanAbort .host) up).regs = up.regs := by
  unfold WriteActs; decide +kernel

theorem test_reference_select :
    WriteActs up .host pAscan 0x80 1 ∧ up.pageBusy pAscan = false ∧ (act (.referenceSelect .host 1 true) up).rd pAscan AREF_STAT_ACTIVE = 1
      ∧ (act (.referenceSelect .host 1 true) up).scan.refDue = 500 * 3072000
      ∧ (act (.referenceSelect .host 1 false) up).rd pAscan AREF_STAT_EXTBAD = 1
      ∧ (act (.referenceSelect .host 1 false) up).rd pAscan AREF_STAT_ACTIVE = 0
      ∧ scan1.pageBusy pAscan = true ∧ (act (.referenceSelect .host 1 true) scan1).rd pAscan PAGE_STAT_WERR = 1 := by
  unfold WriteActs; decide +kernel

theorem test_reference_events :
    up.rd pAscan AREF_STAT_SETTLED = 0 ∧ (act .referenceSettled up).rd pAscan AREF_STAT_SETTLED = 1
      ∧ (act .referenceSettled up).now = 614400000
      ∧ act .referenceSettled (act .referenceSettled up) = act .referenceSettled up
      ∧ (act .extReferenceFallback (up.wr pAscan AREF_STAT_ACTIVE 1)).rd pAscan AREF_STAT_EXTBAD = 1
      ∧ act .extReferenceFallback up = up := by
  decide +kernel

/-- Slice 3 is for single-channel runs, and runs. -/
def run3 : State := act (.singleRunStart .host 3) (up.wr (pAs 3) AS_CFG_OWNER 1)

theorem test_single_run_start_stop :
    (let s := up.wr (pAs 3) AS_CFG_OWNER 1
    WriteActs s .host (pAs 3) 0x44 1 ∧ run3.rd (pAs 3) AS_STAT_ACT = 1 ∧ (run3.aso 3).single = some { wait := none, start := 1 }
      ∧ ((act (.singleRunStart .host 3) (s.wr (pAs 3) AS_CFG_STARTMODE 1)).aso 3).single = some { wait := some 0, start := 0 })
      ∧ act (.singleRunStart .host 3) up = up
      ∧ WriteActs run3 .host (pAs 3) 0x44 2 ∧ (act (.singleRunStop .host 3) run3).rd (pAs 3) AS_STAT_ACT = 0
      ∧ ((act (.singleRunStop .host 3) run3).aso 3).single.map (·.stop) = some (some 1)
      ∧ act (.singleRunStop .host 3) up = up := by
  unfold WriteActs; decide +kernel

theorem test_single_block :
    (let s := { run3 with now := 128 * 2048, host := { run3.host with link := true, bme := true } }
    ((act (.singleBlockWrite 3 (List.replicate 128 (1, false))) s).aso 3).single.map (fun o => (o.seen, o.inBuf)) = some (128, 0)
      ∧ (act (.singleBlockWrite 3 (List.replicate 128 (1, false))) s).rd (pAs 3) AS_SC_WPTR_WPTR = 256
      ∧ ((act (.singleBlockWrite 3 [(1, false)]) s).aso 3).single.map (fun o => (o.seen, o.inBuf)) = some (128, 128))
      ∧ (let s := { run3 with now := 32769 * 2048 }
        (act (.singleBlockWrite 3 [(1, false)]) s).rd (pAs 3) AS_SC_LOST_LOST = 1
          ∧ (act (.singleBlockWrite 3 [(1, false)]) s).rd (pAs 3) AS_STAT_GAP = 1)
      ∧ act (.singleBlockWrite 3 [(1, false)]) up = up := by
  decide +kernel

theorem test_urgent_request :
    (let s := up.wr (pAs 3) AS_CFG_OWNER 1
    WriteActs s .host (pAs 3) (0x80 + 0x10 * 1) (setBit 5 31 true) ∧ s.urgRefused 3 5 = false ∧ s.sliceRuns 3 = false
      ∧ ((act (.urgentRequest .host 3 1 5) s).aso 3).urg.map (fun u => (u.chan, u.req, u.insel)) = some (1, 0, 5)
      ∧ (act (.urgentRequest .host 3 1 5) s).rd (pAs 3) AS_URES_STAT 1 = 1
      ∧ (let t := act (.urgentRequest .host 3 1 5) s
        t.sliceRuns 3 = true ∧ (act (.urgentRequest .host 3 0 5) t).rd (pAs 3) AS_URES_STAT 1 = 3
          ∧ ((act (.urgentRequest .host 3 0 5) t).aso 3).urg.map (·.chan) = some 0
          ∧ (act (.urgentRequest .host 3 1 5) t).rd (pAs 3) AS_DROP_DROP = 1
          ∧ (act (.urgentRequest .host 3 0 5) { t with now := 2048 }).rd (pAs 3) AS_URES_STAT 0 = 3)) := by
  unfold WriteActs; decide +kernel

theorem test_urgent_refused_and_result :
    (let s := up.wr pPwr PWR_STAT2_ON (2 ^ 16 - 1 - 2 ^ 4)
    WriteActs s .host (pAs 0) 0x80 (setBit 5 31 true) ∧ s.urgRefused 0 5 = true
      ∧ (act (.urgentRequest .host 0 0 5) s).rd (pAs 0) AS_URES_STAT 0 = 4)
      ∧ (let s := up.modAs 3 fun o => { o with urg := some ⟨1, 0, 4, 5, 1, 1⟩ }
        (act (.urgentResult 3 [(3, false), (4, true)]) s).rd (pAs 3) AS_URES_RESULT 1 = 4
          ∧ (act (.urgentResult 3 [(3, false), (4, true)]) s).rd (pAs 3) AS_URES_OVR 1 = 1
          ∧ (act (.urgentResult 3 [(3, false), (4, true)]) s).now = 6 * 2048
          ∧ act (.urgentResult 3 [(3, false)]) s = s)
      ∧ act (.urgentResult 3 []) up = up := by
  unfold WriteActs; decide +kernel
/-! ### Acquisition (R294 to R311) -/

/-- Slice 0 is enabled for acquisition, and unit 0 fires on a forced trigger. -/
def acq0 : State := ((up.wr (pAs 0) AS_CFG_OWNER 3).wr pAcq ACQ_CFG_SEN 1).wr pAcq ACQ_TSEL_SRC 0x60 0

/-- The engine armed, then waiting for a trigger. -/
def acq1 : State := act (.acqArm .host) acq0
def acq2 : State := act .armInstant acq1

/-- A sample per enabled stream, and the patterns. -/
def oneSample : List (List RawSample) := [[(1, false)]]

theorem test_acq_arm :
    WriteActs acq0 .host pAcq 0x40 (acq0.acqWord 0) ∧ acq0.acqState = 0 ∧ acq0.armReason = 0 ∧ acq1.acqState = 1
      ∧ acq1.rd (pAs 0) AS_STAT_ACT = 3 ∧ up.armReason = 1 ∧ (act (.acqArm .host) up).rd pAcq ACQ_STAT_REASON = 1
      ∧ WriteActs acq1 .host pAcq 0x40 (acq1.acqWord 0) ∧ (act (.acqArm .host) acq1).acq = acq1.acq := by
  unfold WriteActs; decide +kernel

theorem test_arm_instant :
    acq2.acqState = 2 ∧ acq2.now = 64 * 2048 ∧ (acq2.acq.cur.map fun r => (r.armAt, r.period, r.post)) = some (64 * 2048, 2048, 1)
      ∧ act .armInstant acq0 = acq0
      ∧ (let s := { acq1 with acq := { acq1.acq with recs := List.replicate 64 (0, 0) } }
        act .armInstant s = s.wr pAcq ACQ_STAT_MEMWAIT 1)
      ∧ (act .pretriggerFull acq2).acqState = 3 ∧ (act .pretriggerFull acq2).now = 64 * 2048 ∧ act .pretriggerFull acq1 = acq1 := by
  decide +kernel

theorem test_trigger_accept :
    (acq2.acq.cur.map fun r => r.fits oneSample) = some true
      ∧ (act (.triggerAccept oneSample []) acq2).acqState = 2
      ∧ (let s := act (.acqForce .host) acq2
        s.acq.evs = [(0x60, 64 * 2048)] ∧ (act (.triggerAccept oneSample []) s).acqState = 4
          ∧ (act (.triggerAccept oneSample []) s).rd pAcq ACQ_TSTAT_FIRED = 1
          ∧ (act (.triggerAccept oneSample []) s).rd pAcq ACQ_TIDXL_TIDX = 0)
      ∧ act (.triggerAccept [] []) acq2 = acq2 ∧ act (.triggerAccept [] []) acq0 = acq0
      ∧ (act (.triggerAccept [] []) acq1).acqState = 1 := by
  decide +kernel

theorem test_acq_stop_abort_force :
    WriteActs acq2 .host pAcq 0x40 (acq2.acqWord 3) ∧ WriteActs acq2 .host pAcq 0x40 (acq2.acqWord 1)
      ∧ WriteActs acq2 .host pAcq 0x40 (acq2.acqWord 2) ∧ acq2.acqState ≠ 4
      ∧ (act (.acqStop .host) acq2).acqState = 0 ∧ (act (.acqAbort .host) acq2).acqState = 0
      ∧ (act (.acqForce .host) acq0).acq = acq0.acq := by
  unfold WriteActs; decide +kernel

/-- The engine captures: the trigger is accepted and its sample taken. -/
def acq4 : State := act (.triggerAccept oneSample []) (act (.acqForce .host) acq2)

theorem test_record_last_sample :
    acq4.acqState = 4 ∧ (act (.recordLastSample [[]]) acq4).acqState = 0
      ∧ (act (.recordLastSample [[]]) acq4).acq.finishing.map (fun x => (x.1.nout, x.1.ovfl)) = [(1, false)]
      ∧ (act (.recordLastSample [[]]) acq4).now = (64 + 32) * 2048
      ∧ memNat (act (.recordLastSample [[]]) acq4).mem.record 0 2 = 5 := by
  decide +kernel

theorem test_record_waits_for_samples :
    (let s := acq4.wr pAcq ACQ_POST_POST 1
    let r := { s.acq.cur.getD (s.recordOf 0) with post := 2 }
    let u := { s with acq := { s.acq with cur := some r } }
    u.acqState = 4 ∧ r.fits [[]] = true ∧ (act (.recordLastSample [[]]) u).acqState = 4
      ∧ (act (.recordLastSample [[(2, false)]]) u).acqState = 0
      ∧ act (.recordLastSample []) u = u) ∧ act (.recordLastSample []) acq2 = acq2 := by
  decide +kernel

theorem test_record_overflow :
    (let s := { acq4 with acq := { acq4.acq with recs := [(7, 0)], cur := acq4.acq.cur.map fun r => { r with base := 8388606, post := 2 } } }
    (s.acq.cur.map fun r => (s.postRoom r, s.outSoFar r)) = some (1, 1) ∧ (act .recordOverflow s).rd pAcq ACQ_STAT_OVFL = 1
      ∧ (act .recordOverflow s).acqState = 0) ∧ act .recordOverflow acq4 = acq4 ∧ act .recordOverflow acq2 = acq2 := by
  decide +kernel

theorem test_record_stop_abort :
    WriteActs acq4 .host pAcq 0x40 (acq4.acqWord 1) ∧ (act (.acqStop .host) acq4).acq.stop = true
      ∧ (act (.acqAbort .host) acq4).acq.finishing.map (fun x => (x.1.nout, x.1.aborted)) = [(1, true)]
      ∧ (act (.acqAbort .host) acq4).acqState = 0 := by
  unfold WriteActs; decide +kernel

theorem test_record_complete_and_release :
    (let s := act (.recordLastSample [[]]) acq4
    (act .recordComplete s).acq.finishing = [] ∧ (act .recordComplete s).rd pAcq ACQ_RDONE_RDONE = 1
      ∧ bitAt ((act .recordComplete s).rd pHost HOST_ISTAT_PEND) 11 = true
      ∧ (let t := act .recordComplete s
        WriteActs t .host pAcq 0x78 1 ∧ (act (.acqRelease .host 1) t).acq.recs = []
          ∧ t.admits .host pAcq false = true ∧ act (.acqRelease .host 2) t = t.werr pAcq))
      ∧ act .recordComplete acq4 = acq4 := by
  unfold WriteActs; decide +kernel

/-! ### Time (R318 to R330) -/

theorem test_step_request :
    WriteActs up .host pTime 0x44 1 ∧ up.stepRefused = false ∧ (act (.stepRequest .host) up).time.step = some (0, false)
      ∧ (site 31 stRun).stepRefused = true
      ∧ act (.stepRequest .host) (site 31 stRun) = (site 31 stRun).wr pTime TIME_STAT_SREF 1 := by
  unfold WriteActs; decide +kernel

theorem test_step_apply :
    (let s := act (.stepRequest .host) ((up.wr pTime TIME_DLT1_DNS 5).wr pTime TIME_DLT0_DFRAC 7)
    s.stepCycle = some 64 ∧ (act .stepApply s).now = 64 * 1024 ∧ (act .stepApply s).rd pTime TIME_STAT_STEPPED = 1
      ∧ (act .stepApply s).timeUnits (64 * 1024) = s.timeUnits (64 * 1024) + (5 * 65536 + 7) * 2 ^ 32
      ∧ (act .stepApply s).rd pTime TIME_DLOG0_W 0 = 0x13 ∧ (act .stepApply s).rd pTime TIME_EPOCH_EPOCH = 1)
      ∧ up.stepCycle = none ∧ act .stepApply up = up := by
  decide +kernel

theorem test_holdover :
    WriteActs up .host pTime 0x44 2 ∧ (act (.holdRequest .host) up).rd pTime TIME_STAT_HOLDOVER = 1
      ∧ (act (.holdRequest .host) up).rd pTime TIME_STAT_HCAUSE = 1
      ∧ (act (.holdRequest .host) (up.wr pTime TIME_STAT_HOLDOVER 1)).counter 0x383 = 0
      ∧ (act .watchdogExpire (up.wr pTime TIME_STAT_STEPPED 1)).rd pTime TIME_STAT_HCAUSE = 3
      ∧ act .watchdogExpire up = up := by
  unfold WriteActs; decide +kernel

theorem test_offset :
    WriteActs up .host pTime 0x68 0 ∧ (act (.offsetSubmit .host 0) up).rd pTime TIME_STAT_OIGN = 1
      ∧ (let s := (up.wr pTime TIME_STAT_STEPPED 1).wr pTime TIME_OFS0_OFS 65536
        (act (.offsetSubmit .host 0) s).integrator = -0x1253 ∧ ((act (.offsetSubmit .host 0) s).piece 1).inc = incNom - 0x1253 - 0xb740
          ∧ (act (.offsetSubmit .host 0) s).counter 0x381 = 1
          ∧ (act (.offsetSubmit .host 0x7FFF) s).rd pTime TIME_STAT_DISC = 1
          ∧ (act (.offsetSubmit .host 0x7FFF) s).rd pTime TIME_STAT_HCAUSE = 2
          ∧ (act (.offsetSubmit .host 0) (s.wr pTime TIME_CFG_ROLE 1)).time.adjQ = [(-0x1253 - 0xb740, 64 * 1024)]) := by
  unfold WriteActs; decide +kernel

theorem test_adj_write :
    WriteActs up .host pTime 0x78 0xFF ∧ up.adjOpen = false ∧ act (.adjWrite .host 0xFF) up = up
      ∧ (let s := (up.wr pTime TIME_CFG_SMODE 1).wr pTime TIME_ADJ0_ADJ (2 ^ 32 - 1)
        s.adjOpen = true ∧ ((act (.adjWrite .host 0xFF) s).piece 1).inc = incNom - 1)
      ∧ (let s := { up with time := { up.time with adjQ := [(-1, 64 * 1024)] } }
        ((act .sharedAdjApply s).piece 64).inc = incNom - 1 ∧ (act .sharedAdjApply s).now = 64 * 1024)
      ∧ act .sharedAdjApply up = up := by
  unfold WriteActs; decide +kernel

/-! ### Ethernet (R336 to R343) -/

/-- Port 1 is enabled with its link up, and the host can be reached. -/
def eth1 : State :=
  let s := ((up.wr (pEth 1) ETH_CFG_EN 1).wr (pEth 1) ETH_STAT_LINK 1)
  { s with host := { s.host with link := true, bme := true } }

/-- A PTP frame to a multicast address, of 60 bytes. -/
def ptp60 : List Byte := [0x01, 0x1B, 0x19, 0, 0, 0, 0, 0, 0, 0, 0, 0, 0x88, 0xF7] ++ List.replicate 46 0

theorem test_frame_receive :
    eth1.ethUp 1 = true ∧ ptpAt ptp60 = some (14, 0) ∧ eth1.rxFull 1 = false
      ∧ (act (.frameReceive 1 9000 ptp60 true) eth1).rd (pEth 1) ETH_RXPROD_PROD = 1
      ∧ memNat (act (.frameReceive 1 9000 ptp60 true) eth1).mem.host 0 2 = 60
      ∧ memNat (act (.frameReceive 1 9000 ptp60 true) eth1).mem.host 44 2 = 0xF788
      ∧ (act (.frameReceive 1 9000 (ptp60.take 59) true) eth1).rd (pEth 1) ETH_RXDROP_RXDROP = 1
      ∧ (act (.frameReceive 1 9000 ptp60 false) eth1).rd (pEth 1) ETH_RXDROP_RXDROP = 1
      ∧ up.ethUp 1 = false ∧ act (.frameReceive 1 9000 ptp60 true) up = up := by
  decide +kernel

theorem test_frame_transmit :
    (let s := eth1.wr (pEth 1) ETH_TXPROD_PROD 1
    eth1.ethReach 1 = true ∧ (act (.frameTransmit 1 9000 (List.replicate 2048 0)) s).rd (pEth 1) ETH_TXCONS_CONS = 1
      ∧ ((act (.frameTransmit 1 9000 (List.replicate 2048 0)) s).etho 1).sent.length = 1
      ∧ memGet (act (.frameTransmit 1 9000 (List.replicate 2048 0)) s).mem.host 2 = 128)
      ∧ act (.frameTransmit 1 9000 (List.replicate 2048 0)) eth1 = eth1 := by
  decide +kernel

theorem test_eth_link :
    eth1.ethOn 1 = true ∧ (act (.ethLinkChange 1 false) eth1).rd (pEth 1) ETH_STAT_LINK = 0
      ∧ (act (.ethLinkChange 1 false) eth1).rd (pEth 1) ETH_STAT_LINKCHG = 1 ∧ act (.ethLinkChange 1 true) eth1 = eth1 := by
  decide +kernel

theorem test_datagram :
    (let s0 := eth1.wr (pEth 1) EXP_CTL_EN 1
    let s := { s0 with eth := [(1, { queue := List.replicate 45 (List.replicate 32 0#8), firstAt := 7 })] }
    s.ethUp 1 = true ∧ ((act (.datagramSend 1) s).etho 1).queue.length = 1 ∧ (act (.datagramSend 1) s).now = 0
      ∧ ((act (.datagramSend 1) s).etho 1).seq = 1
      ∧ (let u := { s0 with eth := [(1, { queue := List.replicate 43 (List.replicate 32 0#8), firstAt := 7 })] }
        (act (.datagramSend 1) u).now = 7 + 100 * 3072000))
      ∧ act (.datagramSend 1) eth1 = eth1 := by
  decide +kernel
/-! ### Calibration (R346 to R376) -/

/-- A procedure and its argument are named. -/
def named (proc arg : Nat) (s : State := up) : State := (s.wr pWinn WINN_PROC_PROC proc).wr pWinn WINN_ARG0_ARG arg 0

/-- A procedure runs over some units. -/
def running (proc : Nat) (us : List Nat) (s : State := up) : State :=
  let t := (s.wr pWinn WINN_STAT_STATE 1).wr pWinn WINN_STAT_PROC proc
  { t with winn := { t.winn with todo := us } }

def loopStart : State := named 6 3

theorem test_procedure_starts :
    WriteActs loopStart .host pWinn 0x40 1 ∧ loopStart.winnBadArg 6 = false ∧ loopStart.winnMode 6 = true
      ∧ (act (.loopCalibration .host) loopStart).rd pWinn WINN_STAT_STATE = 1
      ∧ (act (.loopCalibration .host) loopStart).winn.sites = 3
      ∧ (act (.loopCalibration .host) loopStart).winn.todo = [0, 1]
      ∧ act (.eyeProcedure .host) loopStart = loopStart := by
  unfold WriteActs; decide +kernel

theorem test_convert_and_channel_procedures :
    (act (.convProcedure .host) (named 1 0b101)).winn.slices = 0b101
      ∧ (act (.impProcedure .host) (named 4 1)).rd pWinn WINN_NFAIL_NFAIL = 8
      ∧ (act (.impProcedure .host) (named 4 1)).rd pWinn WINN_STAT_REASON = 2
      ∧ (act (.impProcedure .host) ((named 4 1).wr pWinn WINN_CRES_VALID 2 5)).winn.todo = [5]
      ∧ (act (.cmpProcedure .host) ((named 3 1).wr pWinn WINN_CRES_VALID 1 5)).winn.sheaves = 1 := by
  decide +kernel

theorem test_procedure_refusals :
    (let s := { loopStart with winn := { loopStart.winn with due := 1 } }
    WriteActs s .host pWinn 0x40 1 ∧ (act (.loopCalibration .host) s).rd pWinn WINN_STAT_REASON = 1)
      ∧ (act (.eyeProcedure .host) (named 8 1024)).rd pWinn WINN_STAT_REASON = 9
      ∧ (act (.deskewProcedure .host) (named 5 1)).rd pWinn WINN_STAT_REASON = 11
      ∧ (act (.deskewProcedure .host) (named 5 1)).rd pWinn WINN_STAT_SREF = 1
      ∧ (act (.eyeProcedure .host) (named 8 1023)).winn.todo = List.range 10 := by
  unfold WriteActs; decide +kernel

theorem test_auto_loop :
    (let s := { up with winn := { up.winn with due := 5 } }
    s.winnMode 6 = true ∧ s.pageState pWinn = 4 ∧ (act .autoLoop s).winn.todo = [0, 2] ∧ (act .autoLoop s).winn.due = 0)
      ∧ act .autoLoop up = up := by
  decide +kernel

theorem test_procedure_end_and_abort :
    (act .procedureEnd (running 6 [])).rd pWinn WINN_STAT_STATE = 2
      ∧ (act .procedureEnd ((running 6 []).wr pWinn WINN_NFAIL_NFAIL 1)).rd pWinn WINN_STAT_STATE = 3
      ∧ act .procedureEnd (running 6 [1]) = running 6 [1]
      ∧ WriteActs (running 6 [1]) .host pWinn 0x40 2
      ∧ (act (.winnAbort .host) (running 6 [1])).rd pWinn WINN_NFAIL_NFAIL = 1
      ∧ (act (.winnAbort .host) (running 6 [1])).rd pWinn WINN_STAT_STATE = 3
      ∧ act (.winnAbort .host) up = up := by
  unfold WriteActs; decide +kernel

/-- The state after a measurement of the running procedure. -/
def measured (m : UnitMeas) (us : List Nat) (s : State := up) : State := act (.unitCommit m) (running (measProc m) us s)

theorem test_cmp_unit :
    (let t := measured (.cmp 9 384 (-384) 1000 500) [9]
    t.rd (pSh 1) CH_CALC_OFSA 1 = 384 ∧ t.rd (pSh 1) CH_CALC_OFSB 1 = 640 ∧ t.winn.todo = []
        ∧ t.rd pWinn WINN_CRES_VALID 9 = 2)
      ∧ bitsAt ((measured (.cmp 9 385 0 0 0) [9]).rd pWinn WINN_CRES_REASON 9) 4 4 = 4
      ∧ bitsAt ((measured (.cmp 9 0 0 1001 0) [9]).rd pWinn WINN_CRES_REASON 9) 4 4 = 5
      ∧ (measured (.cmp 9 0 0 0 501) [9]).rd pWinn WINN_NFAIL_NFAIL = 1
      ∧ act (.unitCommit (.cmp 9 0 0 0 0)) up = up := by
  decide +kernel

theorem test_imp_and_level_units :
    (measured (.imp 0 5 8 40000 200) [0]).rd (pSh 0) CH_CALZ_ZTRIM 0 = 5
      ∧ bitsAt ((measured (.imp 0 5 0 60001 0) [0]).rd pWinn WINN_CRES_REASON 0) 8 4 = 4
      ∧ (measured (.imp 0 5 9 50000 0) [0]).rd pWinn WINN_STAT_REASON = 6
      ∧ (measured (.level 0 98 0x60 1 76 500 1000 none) [0]).rd (pSh 0) CH_CALL_DOFS 0 = 0x60
      ∧ (measured (.level 0 99 0 0 0 0 0 none) [0]).rd pWinn WINN_STAT_REASON = 4
      ∧ (measured (.level 0 0 0 0 0 0 0 none) [0] (up.wr pWinn WINN_PROC_EXTREF 1)).rd pWinn WINN_STAT_REASON = 3 := by
  decide +kernel

theorem test_loop_and_eye_units :
    (measured (.loop 2 []) [2]).rd (pSq 2) SQ_TLOOP_T = 49152 ∧ up.channelsOf 2 = [] ∧ up.inSpan 2 = false
      ∧ (measured (.loop 0 [[65536, 1], [65536]]) [0] (site 0 0)).rd (pSq 0) SQ_TLOOP_T = 65536
      ∧ (measured (.loop 0 [[65537]]) [0] (site 0 0)).rd pWinn WINN_LRES_REASON 0 = 4
      ∧ (measured (.loop 0 [[50000], [50002]]) [0] (site 0 0)).rd pWinn WINN_LRES_REASON 0 = 5
      ∧ (measured (.eye 8 307) [8] (up.wr (pEth 0) ETH_STAT_LINK 1)).rd pWinn WINN_EYE_LOW 8 = 1
      ∧ (measured (.eye 8 308) [8] (up.wr (pEth 0) ETH_STAT_LINK 1)).rd pWinn WINN_EYE_LOW 8 = 0
      ∧ (measured (.eye 8 308) [8]).rd pWinn WINN_EYE_VALID 8 = 0 := by
  decide +kernel

theorem test_system_units :
    (let s := measured (.sysz (-64) 64) [2] (named 9 2)
    tabGet 0 s.winn.zeros 2 = -64 ∧ s.rd pWinn WINN_YRES_ZDONE 2 = 1
        ∧ (act (.unitCommit (.sysf 262080 64)) (running 10 [2] (s.wr pWinn WINN_SFULL_SFULL 1024))).rd pAscan ASYS_GAIN_GAIN 2 = 131072
        ∧ (act (.unitCommit (.sysf 262079 64)) (running 10 [2] (s.wr pWinn WINN_SFULL_SFULL 1024))).rd pWinn WINN_YRES_REASON 2 = 4)
      ∧ (measured (.sysz 0 65) [2] (named 9 2)).rd pWinn WINN_YRES_REASON 2 = 5 := by
  decide +kernel

/-- An image operation runs, with the host reachable. -/
def imaging (k : Nat) : State :=
  let t := up.wr pWinn WINN_IMG_STAT_BUSY 1
  { t with winn := { t.winn with img := some k }, host := { t.host with link := true, bme := true } }

theorem test_image_operations_start :
    WriteActs up .host pWinn 0x100 8 ∧ (act (.flashsave .host) up).winn.img = some 3
      ∧ (act (.imgload .host) up).rd pWinn WINN_IMG_STAT_BUSY = 1 ∧ (act (.imgsave .host) (imaging 0)).rd pWinn WINN_IMG_STAT_REASON = 7
      ∧ (act (.flashload .host) up).mem = up.mem := by
  unfold WriteActs; decide +kernel

theorem test_image_operation_done :
    up.hostOk = false ∧ (imaging 1).hostOk = true
      ∧ (act (.imageOperationDone [] true) (imaging 1)).rd pWinn WINN_IMG_STAT_REASON = 5
      ∧ (act (.imageOperationDone [] true) (imaging 1)).winn.img = none
      ∧ (act (.imageOperationDone [] false) (imaging 2)).rd pWinn WINN_IMG_STAT_REASON = 8
      ∧ act (.imageOperationDone [1] true) (imaging 1) = imaging 1 ∧ act (.imageOperationDone [] true) up = up := by
  decide +kernel

/-- The header of an image without sections. -/
def bareHead (flags : Nat) : List Byte :=
  leBytes 4 0x4E495754 ++ leBytes 2 1 ++ leBytes 2 flags ++ leBytes 4 64 ++ leBytes 4 0
    ++ leBytes 4 (up.rd pDev DEV_SERL_SER) ++ leBytes 4 (up.rd pDev DEV_SERH_SER) ++ leBytes 2 0xA1 ++ leBytes 34 0

def bareImage (flags : Nat) : List Byte := bareHead flags ++ leBytes 4 (crc32c (bareHead flags))

theorem test_image_loads :
    (bareImage 1).length = 64
      ∧ (act (.imageOperationDone (bareImage 1) true) ((imaging 1).wr pWinn WINN_IMG_LEN_LEN 64)).rd pWinn WINN_IMG_STAT_ORIGIN = 1
      ∧ (act (.imageOperationDone (bareImage 1) true) ((imaging 1).wr pWinn WINN_IMG_LEN_LEN 64)).rd pWinn WINN_IMG_STAT_REASON = 0
      ∧ (act (.imageOperationDone (bareHead 0 ++ leBytes 4 0) true) ((imaging 1).wr pWinn WINN_IMG_LEN_LEN 64)).rd pWinn
          WINN_IMG_STAT_REASON = 3 := by
  decide +kernel
/-! ### Control ROMs (R377 to R396) -/

/-- Context 0 of ROM 8 stands at word 5 with one return address. -/
def uc5 (stack : List Nat := [9]) : State := up.modUctx 8 0 fun _ => { active := true, upc := 5, stack := stack, timer0 := 2 }

/-- A word with a SEQ, a TARGET and the other bits of its top half. -/
def mw (seq target : Nat) (rest : Nat := 0) : BitVec 128 := BitVec.ofNat 128 (target * 2 ^ 116 + seq * 2 ^ 113 + rest)

theorem test_microwords :
    ((act (.nextWord 8 0 5 (mw 0 0) true none) (uc5)).uctx 8 0).upc = 6
      ∧ ((act (.branchMicroword 8 0 5 (mw 1 4095) true none) (uc5)).uctx 8 0).upc = 4095
      ∧ ((act (.cbranchMicroword 8 0 5 (mw 2 77 (2 ^ 106)) true none) (uc5)).uctx 8 0).upc = 77
      ∧ ((act (.cbranchMicroword 8 0 5 (mw 2 77) true none) (uc5)).uctx 8 0).upc = 6
      ∧ ((act (.microCall 8 0 5 (mw 3 77) true none) (uc5 [1, 2, 3])).uctx 8 0).stack = [6, 1, 2, 3]
      ∧ ((act (.ccallMicroword 8 0 5 (mw 4 77 (2 ^ 106)) true none) (uc5)).uctx 8 0).stack = [6, 9]
      ∧ ((act (.microRet 8 0 5 (mw 5 0) true none) (uc5)).uctx 8 0).upc = 9
      ∧ ((act (.dispatchMicroword 8 0 5 (mw 6 16) true 15 none) (uc5)).uctx 8 0).upc = 31 := by
  decide +kernel

theorem test_microword_ends_and_errors :
    ((act (.microEnd 8 0 5 (mw 7 0) true none) (uc5 [])).uctx 8 0).active = false
      ∧ (act (.microEnd 8 0 5 (mw 7 0) true none) (uc5)).rd pUc UC_STAT_STKERR 8 = 1
      ∧ (act (.microRet 8 0 5 (mw 5 0) true none) (uc5 [])).rd pUc UC_LASTAB_UPC 8 = 5
      ∧ (act (.microCall 8 0 5 (mw 3 77) true none) (uc5 [1, 2, 3, 4])).rd pUc UC_STAT_STKERR 8 = 1
      ∧ (act (.dispatchMicroword 8 0 5 (mw 6 4095) true 1 none) (uc5)).rd pUc UC_STAT_ADDRERR 8 = 1
      ∧ act (.nextWord 8 0 6 (mw 0 0) true none) (uc5) = uc5 ∧ act (.nextWord 8 1 5 (mw 0 0) true none) (uc5) = uc5
      ∧ act (.nextWord 0 3 2047 (mw 1 0) true none) up = up
      ∧ ((act (.nextWord 0 3 2046 (mw 0 0) true none) up).uctx 0 3).upc = 2047 := by
  decide +kernel

/-- WAIT with CPOL 1 on timer 0, and a timeout of 2^4 microcycles. -/
def waitWord : BitVec 128 := mw 0 0 (4 * 2 ^ 107 + 2 ^ 106 + 2 ^ 105 + 2 ^ 100)

theorem test_microword_waits :
    (let s := act (.nextWord 8 0 5 waitWord true none) (uc5)
    (s.uctx 8 0).waiting = true ∧ (s.uctx 8 0).upc = 5
      ∧ ((act (.microwordWaitEnd 8 0 waitWord 2 true 0 none) s).uctx 8 0).upc = 6
      ∧ ((act (.microwordWaitEnd 8 0 waitWord 16 true 0 none) s).uctx 8 0).waiting = false
      ∧ act (.microwordWaitEnd 8 0 waitWord 17 true 0 none) s = s ∧ act (.microwordWaitEnd 8 0 waitWord 1 true 0 none) s = s)
      ∧ ((act (.nextWord 8 0 5 (mw 0 0) true (some 1)) (uc5)).uctx 8 0).timer0 = 1 := by
  decide +kernel

/-! ### Brewers (R397 to R402, R427 to R430, R548) -/

/-- Nothing happens beside the instruction. -/
def quietExt : BrewerExt :=
  { wasted := 0, back := 0, front := 0, fetch := .ok, data := .ok, ddr := .ok, host := 0, scFails := false }

/-- BW0 runs at 0x100 with an instruction there, x1 = 7 and x2 = -1. -/
def bw (w : Nat) (f : BwOp → BwOp := id) : State :=
  let s := up.wr (pBw 0) BW_STAT_RESET 0
  { s with mem := { s.mem with bw := memPutNat s.mem.bw 0x100 4 w }, bwc := [(0, f { x := [(1, 7), (2, 2 ^ 32 - 1)], pc := 0x100 })] }

/-- The core after its next instruction. -/
def ran (w : Nat) (f : BwOp → BwOp := id) : BwOp := (act (.brewerInstruction 0 quietExt) (bw w f)).core 0

-- The words are those of the RISC-V instruction set: add x3, x1, x2; addi x3, x1, -8; mulhu x3, x2, x2; lui x3, 0xFFFFF;
-- jal x3, -256; jalr x3, 1(x2); bne x1, x2, 4094; c.li x3, -1.
theorem test_brewer_alu :
    (ran 0x002081B3).get 3 = 6 ∧ (ran 0x002081B3).pc = 0x104 ∧ (ran 0xFF808193).get 3 = 2 ^ 32 - 1
      ∧ (ran 0x022131B3).get 3 = 2 ^ 32 - 2 ∧ (ran 0xFFFFF1B7).get 3 = 0xFFFFF000
      ∧ (ran 0xF01FF1EF).get 3 = 0x104 ∧ (ran 0xF01FF1EF).pc = 0
      ∧ (ran 0x001101E7).pc = 0 ∧ (ran 0x00209463).pc = 0x108
      ∧ (ran 0x51FD).get 3 = 2 ^ 32 - 1 ∧ (ran 0x51FD).pc = 0x102 := by
  decide +kernel

-- lw x3, 0xF9(x1); sw x2, 0x3FF(x1) with x1 = 0x3FBFD; ecall; mret.
theorem test_brewer_memory_and_traps :
    (ran 0x0F90A183).get 3 = 0x0F90A183
      ∧ memNat (act (.brewerInstruction 0 quietExt) (bw 0x3E20AFA3 fun c => { c with x := [(1, 0x3FBFD), (2, 5)] })).mem.bw 0x3FFFC 4 = 5
      ∧ (ran 0x00000073).mcause = 11 ∧ (ran 0x00000073).mepc = 0x100
      ∧ (ran 0x00000073 fun c => { c with user := true, pmpcfg := [(0, 0x1F)], pmpaddr := [(0, 2 ^ 32 - 1)], mtvec := 0x201 }).mcause = 8
      ∧ (ran 0 fun c => { c with mtvec := 0x201 }).pc = 0x200 ∧ (ran 0).mcause = 2
      ∧ (ran 0x30200073 fun c => { c with mepc := 0x80, mstatus := 0x80 }).pc = 0x80
      ∧ (ran 0x30200073 fun c => { c with mepc := 0x80, mstatus := 0x80 }).user = true
      ∧ (ran 0x30200073 fun c => { c with mepc := 0x80, mstatus := 0x80 }).mstatus = 0x88 := by
  decide +kernel

theorem test_brewer_run_and_hold :
    WriteActs up .host (pBw 0) 0x40 1 ∧ (act (.brewerRun .host 0 0) up).rd (pBw 0) BW_STAT_RESET = 0
      ∧ ((act (.brewerRun .host 0 0) (up.wr (pBw 0) BW_RESETVEC_VEC 0x40)).core 0).pc = 0x40
      ∧ (act (.brewerRun .host 0 0) (bw 0)).bwc = (bw 0).bwc
      ∧ (act (.brewerHold .host 0 1) (bw 0 fun c => { c with reserved := some 4 })).rd (pBw 0) BW_STAT_RESET = 1
      ∧ ((act (.brewerHold .host 0 1) (bw 0 fun c => { c with reserved := some 4 })).core 0).reserved = none
      ∧ (act (.brewerHold .host 0 1) up).bwc = up.bwc := by
  unfold WriteActs; decide +kernel

theorem test_brewer_stops_and_interrupts :
    act (.brewerInstruction 0 quietExt) up = up ∧ (ran 0 fun c => { c with haltReq := true }).halted = true
      ∧ (bw 0 fun c => { c with mie := 128, mstatus := 8 }).bwInterrupt 0 = some (2 ^ 31 + 7)
      ∧ (ran 0 fun c => { c with mie := 128, mstatus := 8, mtvec := 0x201 }).pc = 0x21C
      ∧ ((act (.machineTimerInterrupt 0) (bw 0 fun c => { c with stall := .wfi, mie := 128, mtimecmp := 5 })).core 0).stall = .none
      ∧ (act (.machineTimerInterrupt 0) (bw 0 fun c => { c with mtimecmp := 5 })).now = 5 * 2048
      ∧ act (.machineTimerInterrupt 0) up = up := by
  decide +kernel

theorem test_debug_module :
    (let s := fun f => (bw 0 f).wr pDbg DBG_LEVEL_LEVEL 2
    ((act (.debugModuleRequest 0 .halt) (s id)).core 0).dpc = 0x100
      ∧ ((act (.debugModuleRequest 0 .resume) (s fun c => { c with halted := true, dpc := 0x41 })).core 0).pc = 0x40
      ∧ ((act (.debugModuleRequest 0 .resume) (s fun c => { c with halted := true, dpc := 0x41 })).core 0).user = false
      ∧ act (.debugModuleRequest 0 .resume) (s id) = s id
      ∧ (act (.debugModuleRequest 0 (.readReg 0x1001)) (s fun c => { c with halted := true })).rdata = 7
      ∧ ((act (.debugModuleRequest 0 (.writeReg 0x101F 9)) (s fun c => { c with halted := true })).core 0).get 31 = 9
      ∧ ((act (.debugModuleRequest 0 (.writeReg 0x1000 9)) (s fun c => { c with halted := true })).core 0).get 0 = 0)
      ∧ act (.debugModuleRequest 0 .halt) (bw 0) = bw 0 := by
  decide +kernel
/-! ### The Barista (R403 to R423) -/

/-- An item of a level from the host or a Brewer. -/
def item (src token pl : Nat) : Item :=
  { typ := 0x40, pl := pl, notify := true, src := src, site := 0, nosite := true, token := token, arg := 0, data := 0, origin := none }

def entry (src token pl order : Nat) (st : EntryState) : Entry := { item := item src token pl, enq := 0, enqAt := 0, order := order, st := st }

/-- BW0 at an instruction, the Barista with three queued items, of which entry 2 is the oldest of the highest level. -/
def brst (w : Nat) (es : List (Nat × Entry) := [(0, entry 0x30 10 3 0 .queued), (1, entry 0x30 11 1 7 .queued), (2, entry 0x30 12 1 5 .queued)])
    (f : BwOp → BwOp := id) : State :=
  let s := (bw w f).wr (pBw 0) BW_TMASK_LEVELS 0xFF
  { s with brst := { s.brst with entries := es }, host := { s.host with link := true, bme := true } }

theorem test_barista_take_and_try :
    (brst 0x801021F3).nextIsCsr 0 0x801 = true ∧ ((brst 0x801021F3).nextItem 0).map (·.1) = some 2
      ∧ ((act (.baristaTry 0 quietExt) (brst 0x801021F3)).core 0).get 3 = 2 + 2 ^ 20 + 0x40 * 2 ^ 23 + 2 ^ 31
      ∧ (tabFind (act (.baristaTry 0 quietExt) (brst 0x801021F3)).brst.entries 2).map (·.st) = some (.dispatched 0 0)
      ∧ memNat (act (.baristaTry 0 quietExt) (brst 0x801021F3)).mem.bw (up.rd (pBw 0) BW_IBUF_ADDR + 4) 4 = 12
      ∧ ((act (.baristaTry 0 quietExt) (brst 0x801021F3 [])).core 0).get 3 = 0
      ∧ ((act (.baristaTake 0 quietExt) (brst 0x800021F3 [])).core 0).stall = .take 3
      ∧ (act (.baristaTake 0 quietExt) (brst 0x800021F3 [])).brst.takers = [(0, 0)]
      ∧ act (.baristaTake 0 quietExt) (brst 0x801021F3) = brst 0x801021F3 := by
  decide +kernel

/-- x1 in a core. -/
def x1 (v : Nat) (c : BwOp) : BwOp := { c with x := [(1, v)] }

theorem test_barista_done :
    (tabFind (act (.baristaDone 0 quietExt) (brst 0x80209073 [(5, entry 0x30 1 0 0 (.dispatched 0 0))] (x1 (5 + 7 * 2 ^ 24)))).brst.entries 5).map
        (fun e => e.st matches .reporting 7 0 _) = some true
      ∧ tabFind (act (.baristaDone 0 quietExt) (brst 0x80209073 [(5, entry 0 1 0 0 (.dispatched 0 0))] (x1 5))).brst.entries 5 = none
      ∧ (act (.baristaDone 0 quietExt) (brst 0x80209073 [(5, entry 0x30 1 0 0 (.dispatched 1 0))] (x1 5))).rd pBrst BRST_STAT_STALE = 1
      ∧ (act (.baristaDone 0 quietExt) (brst 0x80209073 [(5, entry 0x30 1 0 0 (.dispatched 0 0))] (x1 (5 + 4096)))).rd pBrst BRST_STALE_STALE = 1 := by
  decide +kernel

theorem test_barista_submit_and_cancel :
    ((act (.baristaSub 0 quietExt) (brst 0x803091F3 [] (x1 0x101))).core 0).get 3 = 3
      ∧ ((act (.baristaSub 0 quietExt) (brst 0x803091F3 [] (x1 0x3FFE0))).core 0).get 3 = 3
      ∧ (let s := (brst 0x803091F3 [] (x1 0x200)).bwPut 0x200 [0x40, 0]
        ((act (.baristaSub 0 quietExt) (s.wr pBrst BRST_LIM_LIMIT 1 0)).core 0).get 3 = 1
          ∧ (tabFind (act (.baristaSub 0 quietExt) (s.wr pBrst BRST_LIM_LIMIT 1 0)).brst.entries 0).map (·.item.src) = some 0x40
          ∧ ((act (.baristaSub 0 quietExt) (s.wr pBrst BRST_LIM_LIMIT 0 0)).core 0).get 3 = 2)
      ∧ ((act (.baristaCancel 0 quietExt) (brst 0x804091F3 [(0, entry 0x40 9 0 0 .queued)] (x1 9))).core 0).get 3 = 1
      ∧ ((act (.baristaCancel 0 quietExt) (brst 0x804091F3 [(0, entry 0x40 9 0 0 (.dispatched 0 0))] (x1 9))).core 0).get 3 = 2
      ∧ ((act (.baristaCancel 0 quietExt) (brst 0x804091F3 [] (x1 9))).core 0).get 3 = 3 := by
  decide +kernel

theorem test_item_dispatch :
    (let s := act (.baristaTake 0 quietExt) (brst 0x800021F3)
    s.nextTaker = some (0, 0) ∧ ((act .itemDispatch s).core 0).pc = 0x104 ∧ ((act .itemDispatch s).core 0).stall = .none
      ∧ ((act .itemDispatch s).core 0).get 3 = s.handle 2 (item 0x30 12 1) ∧ (act .itemDispatch s).brst.takers = [])
      ∧ act .itemDispatch (brst 0) = brst 0 := by
  decide +kernel

/-- A completion waits for a ring of 4. -/
def reporting : State :=
  let s := ((brst 0 [(5, entry 0x30 0xABCD 0 0 (.reporting 7 0 9))]).wr pBrst BRST_CQSIZE_SIZE 4).wr pBrst BRST_CQPROD_PROD 3
  { s.wr pBrst BRST_CQCONS_CONS 1 with brst := { s.brst with reports := [5] } }

theorem test_completion_report :
    (act .completionReport reporting).brst.reports = [] ∧ (act .completionReport reporting).rd pBrst BRST_CQPROD_PROD = 0
      ∧ memNat (act .completionReport reporting).mem.host 48 8 = 0x400030070000ABCD
      ∧ memNat (act .completionReport reporting).mem.host 56 8 = 9
      ∧ (act .completionReport (reporting.wr pBrst BRST_CQCONS_CONS 0)).rd pBrst BRST_STAT_CQFULL = 1
      ∧ act .completionReport up = up := by
  decide +kernel

theorem test_dispatch_timeout :
    (let s := (brst 0 [(5, entry 0x30 1 2 0 (.dispatched 0 4))]).wr pBrst BRST_DLIM_DLIM 1 2
    (s.nextTimeout).map (·.2.2.2) = some 3072004 ∧ (act .dispatchTimeout s).now = 3072004 ∧ (act .dispatchTimeout s).brst.reports = [5]
      ∧ (act .dispatchTimeout s).rd pBrst BRST_STAT_TMO = 1) ∧ act .dispatchTimeout up = up := by
  decide +kernel

theorem test_host_submit_and_cancel :
    WriteActs up .host pBrst 0x80 1 ∧ WriteActs up .host pBrst 0x88 9
      ∧ (act (.brstSubgo .host) up).rd pBrst BRST_SUBRES_RES = 3
      ∧ (act (.brstSubgo .host) ((up.wr pBrst BRST_SUB_W 0x40 0).wr pBrst BRST_LIM_LIMIT 1 0)).rd pBrst BRST_SUBRES_RES = 1
      ∧ (act (.brstSubgo .host) ((up.wr pBrst BRST_SUB_W 0x40 0).wr pBrst BRST_LIM_LIMIT 0 0)).rd pBrst BRST_SUBRES_RES = 2
      ∧ (act (.brstCancel .host 12) (brst 0)).rd pBrst BRST_CANRES_RES = 1
      ∧ (act (.brstCancel .host 13) (brst 0)).rd pBrst BRST_CANRES_RES = 3 := by
  unfold WriteActs; decide +kernel

theorem test_doorbell_and_held_items :
    WriteActs up .host (pBw 0) 0x54 5 ∧ (act (.bwDoor .host 0 5) (up.wr (pBw 0) BW_DOOR_DOOR 2)).rd (pBw 0) BW_DOOR_DOOR = 7
      ∧ ((act (.bwDoor .host 0 1) ((bw 0 fun c => { c with stall := .wfi, mie := 0x800 }).wr (pBw 0) BW_IE_DOOR 1)).core 0).stall = .none
      ∧ (let s := (up.wr pBrst BRST_LIM_LIMIT 1 2).modSq 31 fun o => { o with held := some (item 31 8 2) }
        (List.range 66).find? s.canAcceptHeld = some 31 ∧ (act .heldItemAccept s).heldItem 31 = none
          ∧ (tabFind (act .heldItemAccept s).brst.entries 0).map (·.item.token) = some 8)
      ∧ act .heldItemAccept up = up := by
  unfold WriteActs; decide +kernel

theorem test_barista_observation :
    WriteActs up .host pBrst 0x44 1 ∧ WriteActs up .host pBrst 0x44 2
      ∧ (act (.peakClear .host) (brst 0)).rd pBrst BRST_DEPTH_PEAK 1 = 2
      ∧ (act (.histogramClear .host) (up.wr pBrst BRST_HIST_BIN 4 15)).rd pBrst BRST_HIST_BIN 15 = 0
      ∧ (let s := up.wr pBrst BRST_LWIN_LWIN 2
        (act .loadWindowEnd { s with brst := { s.brst with runSince := [(3, 3072001)] } }).rd pBrst BRST_BLOAD_LOAD 3 = 32768
          ∧ (act .loadWindowEnd { s with brst := { s.brst with runSince := [(3, 1)] } }).rd pBrst BRST_BLOAD_LOAD 3 = 65535
          ∧ (act .loadWindowEnd s).now = 6144000) := by
  unfold WriteActs; decide +kernel
/-! ### Counters and snapshots (R423 to R439) -/

theorem test_counter_reads :
    up.pageState pCnt = 4 ∧ countsOutside 0 = false ∧ countsOutside 0x105 = true ∧ up.counterOn 0x105 = true
      ∧ (let s := { up with cnt := { up.cnt with vals := [(0, 2 ^ 48 - 1)] } }
        (act (.cntLRead 0) s).rdata = 2 ^ 32 - 1 ∧ tabFind (act (.cntLRead 0) s).cnt.readShadow 0 = some 65535
          ∧ (act (.rcRead .host (BitVec.ofNat 26 (pageBase pCnt + 0x1004)) 4) (act (.cntLRead 0) s)).rdata = 65535
          ∧ tabFind (act (.rcRead .host (BitVec.ofNat 26 (pageBase pCnt + 0x1004)) 4) (act (.cntLRead 0) s)).cnt.readShadow 0 = none) := by
  decide +kernel

theorem test_counter_writes :
    up.admits .host pCnt false = true ∧ cntWritable 0x3D5 = true ∧ cntWritable 0x3D6 = false ∧ cntWritable 0x107 = false
      ∧ tabFind (act (.counterWrite .host 3 false 9 0) up).cnt.heldLow 3 = some 9
      ∧ (act (.counterWrite .host 3 true 0x1FFFF 2) (act (.counterWrite .host 3 false 9 0) up)).counter 3 = 65535 * 2 ^ 32 + 9
      ∧ (act (.counterWrite .host 35 true 0 1) up).rd pCnt CNT_COLL_COLL 1 = 8
      ∧ (act (.counterWrite .host 3 true 2 0) { up with cnt := { up.cnt with vals := [(3, 5)] } }).counter 3 = 2 * 2 ^ 32 + 5
      ∧ act (.counterWrite .host 0x107 true 2 0) up = up := by
  decide +kernel

theorem test_counter_clear_all :
    WriteActs up .host pCnt 0x40 (4 + up.rd pCnt CNT_CTL_USER)
      ∧ (let s := { up with cnt := { up.cnt with vals := [(0x3FF, 5), (0x400, 6)] } }
        (act (.counterClearAll .host [64]) s).counter 0x3FF = 0 ∧ (act (.counterClearAll .host [64]) s).counter 0x400 = 6
          ∧ (act (.counterClearAll .host [64]) s).rd pCnt CNT_COLL_COLL 2 = 1) := by
  unfold WriteActs; decide +kernel

/-- A snapshot is demanded. -/
def demanded : State := act (.snapshotDemand .host) up

theorem test_snapshot_demand :
    WriteActs up .host pCnt 0x40 (2 + up.rd pCnt CNT_CTL_USER) ∧ demanded.cnt.demand = some 65536000
      ∧ (act (.snapshotDemand .host) demanded).rd pCnt CNT_STAT_SREF = 1
      ∧ act .snapshotInstant up = up ∧ demanded.snapshotDue = some (2, 65536000) ∧ demanded.pageState pCnt = 4
      ∧ (demanded.wr pCnt CNT_DSIZE_SIZE 4).dumpFull = false := by
  unfold WriteActs; decide +kernel

theorem test_snapshot_skipped :
    (let s := { demanded with cnt := { demanded.cnt with dump := some (1, 0) } }
    (act .snapshotInstant s).rd pCnt CNT_STAT_SKIP = 1 ∧ (act .snapshotInstant s).cnt.demand = none
      ∧ (act .snapshotInstant s).rd pCnt CNT_SKIP_SKIP = 1) := by
  decide +kernel

/-- A dump runs, with the host reachable and a ring of 4 slots. -/
def dumping : State :=
  let s := (up.wr pCnt CNT_DSIZE_SIZE 4).wr pCnt CNT_DPROD_PROD 3
  { s with cnt := { s.cnt with dump := some (1, 0), seq := 6 }, host := { s.host with link := true, bme := true } }

theorem test_dump_complete :
    (act (.dumpComplete .ok) dumping).rd pCnt CNT_DPROD_PROD = 0 ∧ (act (.dumpComplete .ok) dumping).cnt.dump = none
      ∧ dumping.dumpAddr = 36864 ∧ (dumping.dumpBytes 1 0).length = 11328
      ∧ (act (.dumpComplete .ok) dumping).mem.ddr = dumping.mem.ddr
      ∧ ((dumping.wr pCnt CNT_CFG_DEST 1).ddrWrite .host 36864 (dumping.dumpBytes 1 0) .ok).1 = false
      ∧ (act (.dumpComplete .ok) (dumping.wr pCnt CNT_CFG_DEST 1)).rd pCnt CNT_DPROD_PROD = 3
      ∧ act (.dumpComplete .ok) up = up := by
  decide +kernel

/-! ### External memories (R440 to R468) -/

/-- DC0 is the one subchannel in service; its state is `st`. -/
def dc (st : Nat) : State := ((up.wr pDdr DDR_CFG_SCEN 1).wr pDdr DDR_CFG_MAP 0).wr (pDc 0) DC_STAT_STATE st

/-- A request to an address. -/
def req (a : Nat) (w : Option (List Byte)) (e : DdrEcc) : DdrReq := { cls := .host, addr := BitVec.ofNat 37 a, write := w, ecc := e }

theorem test_ddr_place :
    (dc 2).dcBursts 0 * 64 = (dc 2).ddrMiB * 2 ^ 20 ∧ ((dc 2).ddrPlace ((dc 2).ddrMiB * 2 ^ 20)) = none
      ∧ ((dc 2).ddrPlace ((dc 2).ddrMiB * 2 ^ 20 - 1)).isSome = true ∧ (dc 2).ddrPlace 63 = some (0, 0)
      ∧ (dc 2).dcReady 0 = true ∧ (dc 1).dcReady 0 = false := by
  decide +kernel

theorem test_ddr_requests :
    (act (.ddrRequest [req 2 (some [7, 8]) .ok]) (dc 2)).ddrReplies = [(0, some [])]
      ∧ memNat (act (.ddrRequest [req 2 (some [7, 8]) .ok]) (dc 2)).mem.ddr 0 4 = 0x8070000
      ∧ (act (.ddrRequest [req 64 none .corrected]) (dc 2)).rd (pDc 0) DC_CEADDRL_CEADDR = 64
      ∧ (act (.ddrRequest [req 64 none .ok]) (dc 2)).ddrReplies.map (fun x => x.2.map (·.length)) = [some 64]
      ∧ (act (.ddrRequest [req 65 none (.bad 15 3)]) (dc 2)).rd (pDc 0) DC_UESYN_BEAT = 15
      ∧ (act (.ddrRequest [req 65 none (.bad 15 3)]) (dc 2)).rd (pDc 0) DC_STAT_STATE = 4
      ∧ (act (.ddrRequest [req 2 none .ok]) (dc 1)).ddrReplies = [(0, none)]
      ∧ (act (.ddrRequest [req (2 ^ 37 - 1) none .ok]) (dc 2)).ddrReplies = [(0, none)]
      ∧ act (.ddrAlert 0 0 .host) (dc 1) = dc 1 := by
  decide +kernel

theorem test_ddr_unfreeze :
    WriteActs (dc 4) .host (pDc 0) 0x44 8 ∧ WriteActs (dc 4) .host (pDc 0) 0x44 2 ∧ WriteActs (dc 3) .host (pDc 0) 0x44 4
      ∧ (act (.ddrUnfreeze .host 0) (dc 4)).rd (pDc 0) DC_STAT_STATE = 2
      ∧ (act (.ddrUnfreeze .host 0) (dc 3)).rd (pDc 0) PAGE_STAT_WERR = 1 ∧ (act (.ddrUnfreeze .host 0) (dc 1)).regs = (dc 1).regs := by
  unfold WriteActs; decide +kernel

theorem test_refresh :
    (dc 2).dcRefreshes 0 = true ∧ up.dcRefreshes 0 = false
      ∧ (act (.refreshTick 0) ((dc 2).wr (pDc 0) DC_REF_DEBT 31)).rd (pDc 0) DC_REF_DEBT = 31
      ∧ (act (.refreshSet 0 true) ((dc 2).wr (pDc 0) DC_REF_DEBT 9)).rd (pDc 0) DC_REF_DEBT = 7
      ∧ act (.refreshSet 0 true) ((dc 2).wr (pDc 0) DC_REF_DEBT 8) = (dc 2).wr (pDc 0) DC_REF_DEBT 8
      ∧ (act (.refreshSet 0 false) ((dc 2).wr (pDc 0) DC_REF_DEBT 2)).rd (pDc 0) DC_REF_DEBT = 0
      ∧ act (.refreshSet 0 false) ((dc 2).wr (pDc 0) DC_REF_DEBT 1) = (dc 2).wr (pDc 0) DC_REF_DEBT 1
      ∧ act (.refreshTick 0) up = up := by
  decide +kernel

theorem test_mr4 :
    (dc 2).dcRanks 0 = 1 ∧ (act (.mr4Read 0 [(.limit, 7)]) (dc 2)).rd (pDc 0) DC_STAT_LIMIT = 1
      ∧ (act (.mr4Read 0 [(.hot, 5)]) (dc 2)).rd (pDc 0) DC_REF_RATE = 1
      ∧ (act (.mr4Read 0 [(.normal, 2)]) ((dc 2).wr (pDc 0) DC_REF_RATE 1)).rd (pDc 0) DC_REF_RATE = 0
      ∧ act (.mr4Read 0 []) (dc 2) = dc 2 := by
  decide +kernel

theorem test_self_refresh :
    (act (.selfRefreshEntry .host 0) (dc 4)).rd (pDc 0) DC_STAT_STATE = 3
      ∧ (tabGet {} (act (.selfRefreshEntry .host 0) (dc 4)).dc 0).frozen = true
      ∧ (act (.srexit .host 0 [(.normal, 2)] true) (act (.selfRefreshEntry .host 0) (dc 4))).rd (pDc 0) DC_STAT_STATE = 4
      ∧ (act (.srexit .host 0 [(.normal, 2)] true) (dc 3)).rd (pDc 0) DC_STAT_STATE = 2
      ∧ (act (.srexit .host 0 [(.normal, 2)] false) (dc 3)).rd (pDc 0) DC_STAT_STATE = 1 ∧ (dc 3).trainerUp = true := by
  decide +kernel

def trained (eye vm : BitVec 8) : DdrTraining :=
  { nodev := false, limit := false, rdEye := eye, wrEye := 64, vmarg := vm, lanes := List.replicate 40 (3, 4) }

theorem test_ddr_training :
    (act (.ddrTrain 0 (trained 64 20)) (dc 1)).rd (pDc 0) DC_STAT_STATE = 2
      ∧ (act (.ddrTrain 0 (trained 64 20)) (dc 1)).rd (pDc 0) DC_DLY_WDLY 0 39 = 4
      ∧ (act (.ddrTrain 0 (trained 63 20)) (dc 1)).rd (pDc 0) DC_TRQ_REASON = 2
      ∧ (act (.ddrTrain 0 (trained 64 19)) (dc 1)).rd (pDc 0) DC_STAT_STATE = 5
      ∧ act (.ddrTrain 0 (trained 64 20)) (dc 2) = dc 2
      ∧ (act (.ddrRetrain 0 (List.replicate 40 9)) (dc 2)).rd (pDc 0) DC_DLY_RDLY 0 39 = 9
      ∧ act (.ddrRetrain 0 []) (dc 2) = dc 2 ∧ (tabGet {} (act (.zqcal 0 5) (dc 2)).dc 0).zq = 5 ∧ act (.zqcal 0 5) (dc 1) = dc 1 := by
  decide +kernel

/-- Every subchannel is ready. -/
def dcs : State := (List.range 4).foldl (fun s n => s.wr (pDc n) DC_STAT_STATE 2) up

theorem test_ddr_configuration :
    WriteActs dcs .host pDdr 0x40 0xF1 ∧ dcs.pageBusy pDdr = false
      ∧ (act (.ddrCfgWrite .host 0xF1) dcs).rd pDdr DDR_CFG_MAP = 1 ∧ (act (.ddrCfgWrite .host 0x02) up).rd pDdr PAGE_STAT_WERR = 1
      ∧ (act (.ddrCfgWrite .host 0x73) up).rd pDdr PAGE_STAT_WERR = 1
      ∧ WriteActs (dc 2) .host (pDc 0) 0x40 1 ∧ (dc 2).pageBusy (pDc 0) = false
      ∧ (act (.dcCfgWrite .host 0 1) (dc 2)).rd (pDc 0) DC_STAT_STATE = 1 ∧ (act (.dcCfgWrite .host 0 1) (dc 2)).dcCfgWord 0 = 1
      ∧ (act (.dcCfgWrite .host 0 1) (dc 3)).rd (pDc 0) PAGE_STAT_WERR = 1
      ∧ (act (.dcCfgWrite .host 0 1) (up.wr pDdr DDR_CFG_MAP 3)).rd (pDc 0) PAGE_STAT_WERR = 1 := by
  unfold WriteActs; decide +kernel

theorem test_qdr_training :
    (let s := (up.wr pQdr QDR_CFG_QAEN 1).wr pQdr QDR_CFG_QBEN 1
    WriteActs s .host pQdr 0x44 1 ∧ s.busyCond pGln = false
      ∧ (act (.qdrTrain .host 64 63) s).rd pQdr QDR_STAT_QARDY = 1 ∧ (act (.qdrTrain .host 64 63) s).rd pQdr QDR_STAT_QBRDY = 0
      ∧ (act (.qdrTrain .host 64 63) s).rd pQdr QDR_STAT_TRFAIL = 1
      ∧ (act (.qdrTrain .host 64 63) up).rd pQdr QDR_STAT_TRFAIL = 0) := by
  unfold WriteActs; decide +kernel

theorem test_bar4 :
    (let s := dc 2
    ((act (.bar4Access 2 2 (some [7, 8]) .ok) s).mem.ddr.map (·.2)) = [7, 8]
      ∧ (act (.bar4Access 60 8 none .ok) s).ddrReplies.map (fun x => x.2.map (·.length)) = [some 8]
      ∧ (act (.bar4Access 60 8 none .ok) (dc 1)).rd pHost HOST_STAT_DWERR = 1
      ∧ act (.bar4Access 2 2 (some [7, 8]) .ok) (s.wr pMode MODE_STAT_MODE 1) = s.wr pMode MODE_STAT_MODE 1) := by
  decide +kernel
/-! ### The host interface (R469 to R487) -/

/-- The host is connected, ring 0 has a completion queue of 4 and a submission queue of 8. -/
def host : State :=
  let s := (((up.wr pHost HOST_CR_CQSIZE_CQSIZE 4 0).wr pHost HOST_CR_SQSIZE_SQSIZE 8 0).wr pHost HOST_ABISEL_MAJOR 1).wr pHost HOST_ABISEL_MINOR 2
  { s with host := { s.host with link := true, bme := true } }

theorem test_resets_and_link :
    (act .conventionalReset host).host.link = false ∧ (act .conventionalReset host).rd pHost HOST_ABISEL_MAJOR = 0
      ∧ (act .functionLevelReset host).host.link = true ∧ (act .functionLevelReset host).rd pHost HOST_CR_SQSIZE_SQSIZE 0 ≠ 8
      ∧ (act (.pcieLinkChange 5 8) up).rd pHost HOST_LINK_SPEED = 5 ∧ (act (.pcieLinkChange 0 8) host).host.link = false
      ∧ (act (.pcieLinkChange 5 8) State.reset).rd pHost HOST_LINK_SPEED = b2n (State.reset.domainOn 79) * 5
      ∧ act (.busMasterEnableWrite true) up = up := by
  decide +kernel

theorem test_bus_master_flushes :
    (let s := { host with host := { host.host with bme := false, pba := 6, msix := [(7, 0)] } }
    (act (.busMasterEnableWrite true) s).host.sent = [1] ∧ (act (.busMasterEnableWrite true) s).host.pba = 4
      ∧ (act (.busMasterEnableWrite false) host).host.bme = false) := by
  decide +kernel

theorem test_abi_and_ring_enable :
    WriteActs host .host pHost 0x48 0x102 ∧ up.pageBusy pHost = false ∧ (act (.abiSelect .host 0x102) up).rd pHost HOST_ABISEL_MINOR = 2
      ∧ (act (.abiSelect .host 0x103) up).rd pHost PAGE_STAT_WERR = 1
      ∧ up.admits .host pHost false = true ∧ (act (.ringEnable .host 0 true) up).rd pHost HOST_CR_STAT_REFUSED 0 = 1
      ∧ WriteActs host .host pHost 0x200 1 ∧ WriteActs host .host pHost 0x3C0 0
      ∧ (act (.ringEnable .host 0 true) host).rd pHost HOST_CR_CFG_EN 0 = 1
      ∧ (act (.ringEnable .host 7 false) (host.wr pHost HOST_CR_CFG_EN 1 7)).rd pHost HOST_CR_CFG_EN 7 = 0 := by
  unfold WriteActs; decide +kernel

/-- Ring 0 is enabled and has a command at index 7, its last. -/
def fetching : State :=
  (((host.wr pHost HOST_CR_CFG_EN 1 0).wr pHost HOST_CR_SQCONS_SQCONS 7 0).wr pHost HOST_CR_SQPROD_SQPROD 1 0)

theorem test_command_fetch :
    (act (.commandFetch 0 (some 1)) fetching).rd pHost HOST_CR_SQCONS_SQCONS 0 = 0
      ∧ ((act (.commandFetch 0 (some 1)) fetching).ring 0).running.length = 1
      ∧ ((act (.commandFetch 0 (some 8)) fetching).ring 0).ended.map (·.status) = [3]
      ∧ (let s := fetching.modRing 0 fun o => { o with running := [[1]] }
        ((act (.commandFetch 0 (some 0x101)) s).ring 0).waiting.length = 1)
      ∧ (let s := fetching.wr pHost HOST_CR_CQPROD_CQPROD 3 0
        (act (.commandFetch 0 (some 1)) s).rd pHost HOST_CR_STAT_CQFULL 0 = 1)
      ∧ (fetching.ringRoom 0 = true) ∧ act (.commandFetch 0 none) host = host := by
  decide +kernel

/-- Ring 0 runs one command, given by its first bytes. -/
def cmd (bs : List Byte) (s : State := host) : State := s.modRing 0 fun o => { o with running := [bs ++ List.replicate (64 - bs.length) 0] }

/-- The completion of the one command of ring 0 that ended: status, reason and count. -/
def ended (s : State) : List (Nat × Nat × Nat) := (s.ring 0).ended.map fun c => (c.status, c.reason, c.count)

theorem test_command_completion :
    (let s := act (.nopCommand 0) (cmd [1, 0, 0, 0, 5, 6, 7, 8])
    let t := act (.commandCompletion 0) s
    ended s = [(0, 0, 0)] ∧ (s.ring 0).running = [] ∧ memNat t.mem.host 0 8 = 0x108070605 ∧ t.rd pHost HOST_CR_CQPROD_CQPROD 0 = 1
      ∧ bitAt (t.rd pHost HOST_ISTAT_PEND) 0 = true ∧ (t.ring 0).ended = [])
      ∧ act (.commandCompletion 0) host = host ∧ act (.nopCommand 0) (cmd [2]) = cmd [2] := by
  decide +kernel

theorem test_item_commands :
    ended (act (.bsubCommand 0) (cmd [4, 0, 0, 0, 0, 0, 0, 0, 0x40] (host.wr pBrst BRST_LIM_LIMIT 1 0))) = [(0, 0, 0)]
      ∧ ended (act (.bsubCommand 0) (cmd [4])) = [(3, 0, 0)]
      ∧ ended (act (.bcancelCommand 0) (cmd [5, 0, 0, 0, 0, 0, 0, 0, 9])) = [(0, 3, 0)] := by
  decide +kernel

/-- A descriptor: source, destination, length and the spaces. -/
def dsc (src dst len spaces : Nat) : DmaUnit :=
  { desc := BitVec.ofNat 256 (src + dst * 2 ^ 64 + len * 2 ^ 128 + spaces * 2 ^ 160), data := [1, 2, 3, 4], ecc := .ok }

def dma (n : Nat) : State := cmd [2, 0, 0, 0, 9, 0, 0, 0, 0, 0, 0, 0, 0, 0, 0, 0, BitVec.ofNat 8 n, 0]

theorem test_dma_commands :
    ended (act (.dmaCommand 0 none) (dma 0)) = [(3, 0, 0)] ∧ ended (act (.dmaCommand 0 none) (dma 65)) = [(3, 0, 0)]
      ∧ ended (act (.dmaCommand 0 none) (dma 64)) = [(5, 0, 0)] ∧ act (.dmaCommand 0 (some [])) (dma 1) = dma 1
      ∧ ended (act (.dmaCommand 0 (some [dsc 0 0 0 1])) (dma 1)) = [(2, 5, 0)]
      ∧ ended (act (.dmaCommand 0 (some [dsc 0 0 4 0])) (dma 1)) = [(2, 8, 0)]
      ∧ ended (act (.dmaCommand 0 (some [dsc 0x2FFFFFC 8 4 1])) (dma 1)) = [(0, 0, 4)]
      ∧ ended (act (.dmaCommand 0 (some [dsc 8 16 4 0x10])) (dma 1)) = [(0, 0, 4)]
      ∧ memNat (act (.dmaCommand 0 (some [dsc 8 16 4 0x10])) (dma 1)).mem.gran 16 4 = 0x04030201
      ∧ act (.dmaCommand 0 none) (cmd [2] up) = cmd [2] up := by
  decide +kernel

/-- PROGLOAD of `n` words to word address 2. -/
def load (n : Nat) : State := cmd [6, 0, 0, 0, 9, 0, 0, 0, 0, 0, 0, 0, 0, 0, 0, 0, 2, 0, 0, 0, BitVec.ofNat 8 n] (host.wr pGran GRAN_CFG_PSIZE 1)

theorem test_progload_commands :
    ended (act (.progloadCommand 0 none) (load 1)) = [(2, 7, 0)]
      ∧ ended (act (.progloadCommand 0 (some [BitVec.ofNat 64 (1 * 2 ^ 58), 7])) (load 2)) = [(0, 0, 2)]
      ∧ memNat (act (.progloadCommand 0 (some [BitVec.ofNat 64 (1 * 2 ^ 58), 7])) (load 2)).mem.gran 24 8 = 7
      ∧ ended (act (.progloadCommand 0 (some [BitVec.ofNat 64 (2 * 2 ^ 58)])) (load 1)) = [(2, 8, 0)]
      ∧ act (.progloadCommand 0 (some [])) (load 1) = load 1 := by
  decide +kernel

/-- REGWR of one pair to units of a class. -/
def regwr (cls units count off v : Nat) : State :=
  cmd ([3, 0, 0, 0, 9, 0, 0, 0] ++ leBytes 8 units ++ leBytes 1 cls ++ leBytes 1 count ++ leBytes 6 0 ++ leBytes 4 off ++ leBytes 4 v)

theorem test_regwr_commands :
    ended (act (.regwrCommand 0) (regwr 6 1 1 0x40 0)) = [(3, 0, 0)] ∧ ended (act (.regwrCommand 0) (regwr 4 1 6 0x40 0)) = [(3, 0, 0)]
      ∧ ended (act (.regwrCommand 0) (regwr 4 0x10000 1 0x40 0)) = [(3, 0, 0)]
      ∧ ended (act (.regwrCommand 0) (regwr 4 0x8000 1 BW_RESETVEC_VEC.off 0x80)) = [(0, 0, 1)]
      ∧ (act (.regwrCommand 0) (regwr 4 0x8000 1 BW_RESETVEC_VEC.off 0x80)).rd (pBw 15) BW_RESETVEC_VEC = 0x80
      ∧ ended (act (.regwrCommand 0) (regwr 4 1 1 0xFFC 0)) = [(2, 4, 0)] := by
  decide +kernel

theorem test_regwr_commits :
    (let s := regwr 0 1 1 CH_VIH_LVL.off 1
    s.commitIdle (pSh 0) = true ∧ s.admits .host (pSh 0) false = true ∧ tabRising 0 s.staged = true
      ∧ ended (act (.regwrCommand 0) s) = [(0, 0, 1)] ∧ (act (.regwrCommand 0) s).rd (pSh 0) CH_VIH_LVL 0 = 1
      ∧ (act (.regwrCommand 0) s).rd (pSh 1) CH_VIH_LVL 0 = 2000) := by
  decide +kernel

/-- START of site 3, with WAITEND or not. -/
def start (w : Nat) : State := cmd [7, 0, 0, 0, 9, 0, 0, 0, 8, 0, 0, 0, BitVec.ofNat 8 w]

theorem test_start_commands :
    cmdNat (((start 1).ring 0).running.headD []) 8 4 = 2 ^ 3
      ∧ (start 1).siteBusy 3 = false
      ∧ (act (.multiSiteStart 0) (start 1)).host.starts.length + (ended (act (.multiSiteStart 0) (start 1))).length = 1
      ∧ (act (.multiSiteStart 0) (start 0)).host.starts = []
      ∧ ended (act (.multiSiteStart 0) ((start 1).wr pPwr PWR_STAT1_ON 0)) = [(2, 2, 0)] := by
  decide +kernel
/-! ### The Abamora Link (R488 to R496) -/

/-- Port 1 is enabled, in a state, and negotiated minor 2. -/
def amlIn (st : Nat) (f : AmlOp → AmlOp := id) : State :=
  ((((up.wr (pAml 1) AML_CFG_EN 1).wr (pAml 1) AML_STAT_STATE st).wr (pAml 1) AML_NEG_MINOR 2).wr pClk GRP_CFG_CHIP_ID 2).modAml 1 f

def training (reason : Fin 5) (skew : BitVec 16) : AmlTraining := { reason := reason, polinv := 1, swap := true, skew := skew }

theorem test_aml_train :
    (amlIn 1).amlOn 1 = true ∧ (act (.amlTrain 1 (training 0 33000)) (amlIn 1)).amlState 1 = 2
      ∧ (act (.amlTrain 1 (training 0 33000)) (amlIn 1)).rd (pAml 1) AML_STAT_POLINV = 1
      ∧ (act (.amlTrain 1 (training 0 33001)) (amlIn 1)).rd (pAml 1) AML_STAT_REASON = 4
      ∧ (act (.amlTrain 1 (training 2 0)) (amlIn 1)).amlState 1 = 0 ∧ act (.amlTrain 1 (training 0 0)) (amlIn 2) = amlIn 2 := by
  decide +kernel

theorem test_aml_retrain_and_down :
    WriteActs (amlIn 3) .host (pAml 1) 0x44 1 ∧ (act (.amlRetrain .host 1) (amlIn 3)).amlState 1 = 1
      ∧ (act (.amlRetrain .host 1) up).amlState 1 = up.amlState 1 ∧ (act (.amlTrainRetry 1) (amlIn 0)).amlState 1 = 1
      ∧ act (.amlTrainRetry 1) (amlIn 3) = amlIn 3 ∧ (act (.amlLinkDown 1 3 6) (amlIn 4)).amlState 1 = 0
      ∧ (act (.amlLinkDown 1 3 6) (amlIn 4)).clk.unreachable = 6 ∧ (act (.amlLinkDown 1 3 0) (amlIn 5)).amlState 1 = 5 := by
  unfold WriteActs; decide +kernel

theorem test_capx :
    (let s := (amlIn 2).wr pClk GRP_CFG_CHIPS 7
    let v := BitVec.ofNat 8 (s.rd (pAml 1) AML_VER_MAJOR)
    (act (.capxFlit 1 3 7 v 0 0) s).amlState 1 = 3 ∧ (act (.capxFlit 1 3 7 (v + 1) 0 0) s).amlState 1 = 4
      ∧ (act (.capxFlit 1 2 7 v 0 0) s).rd (pAml 1) AML_STAT_REASON = 5
      ∧ (act (.capxFlit 1 3 6 v 0 0) s).rd (pAml 1) AML_STAT_REASON = 6
      ∧ (act (.capxFlit 1 3 7 v 255 0) s).rd (pAml 1) AML_NEG_MINOR = s.rd (pAml 1) AML_VER_MINOR)
      ∧ act (.capxFlit 1 3 7 0 0 0) (amlIn 3) = amlIn 3 := by
  decide +kernel

/-- A flit that waits for its acknowledgement. -/
def flit (n : Nat) : Flit := { origin := 2, oseq := n, lseq := n, hops := 0, ack := 0, nak := false, msg := .ack }

theorem test_acknowledgement :
    (let s := amlIn 3 fun o => { o with unacked := (List.range 32).map flit, waiting := [flit 40, flit 41] }
    s.amlLive 1 = true ∧ ((act (.ackFlit 1 0 false) s).amlo 1).unacked.length = 32 ∧ ((act (.ackFlit 1 0 false) s).amlo 1).waiting = [flit 41]
      ∧ ((act (.idleFlit 1 31 false) s).amlo 1).unacked = [flit 40, flit 41] ∧ (act (.idleFlit 1 50 false) s).amlo 1 = s.amlo 1
      ∧ ((act (.idleFlit 1 50 true) s).amlo 1).replays = 1)
      ∧ (act (.ackFlit 1 50 true) (amlIn 3 fun o => { o with replays := 16 })).amlState 1 = 1
      ∧ (act (.ackFlit 1 50 true) (amlIn 3 fun o => { o with replays := 15 })).amlState 1 = 3
      ∧ (act (.flitCrcError 1) (amlIn 3)).counter 0x3A6 = 1 ∧ act (.flitCrcError 1) (amlIn 2) = amlIn 2 := by
  decide +kernel

/-- The header of a flit of a chip that goes no further. -/
def hdr (origin : Fin 16) (hops : Fin 4 := 2) : FlitHdr := { origin := origin, oseq := 9, lseq := 5, hops := hops, ack := 0, nak := false }

/-- A SYNC came at grain 100, so that a flit can name an instant after it. -/
def synced : State := let s := amlIn 3; { s with clk := { s.clk with lastSync := some 100 } }

def at0 : FlitTime := { sync := 0, cycles := 3 }

theorem test_flits_act_once :
    synced.amlCarries 1 (.syncm 5) = true ∧ (act (.syncmFlit 1 (hdr 3) 5) synced).amlSeen = [(3, 9)]
      ∧ (act (.syncmFlit 1 (hdr 3) 5) synced).rd (pAml 1) AML_STAT_SYNCMIS = 1
      ∧ (act (.syncmFlit 1 (hdr 3) 0) synced).rd (pAml 1) AML_STAT_SYNCMIS = 0
      ∧ (act (.syncmFlit 1 (hdr 2) 5) synced).rd (pAml 1) AML_STAT_SYNCMIS = 0
      ∧ (act (.syncmFlit 1 (hdr 3) 5) (act (.syncmFlit 1 (hdr 3) 0) synced)).rd (pAml 1) AML_STAT_SYNCMIS = 0
      ∧ (let s := (synced.wr (pAml 0) AML_STAT_STATE 3).wr (pAml 0) AML_CFG_EN 1
        ((act (.syncmFlit 1 (hdr 3 1) 0) s).amlo 0).unacked.length = 1 ∧ ((act (.syncmFlit 1 (hdr 3 2) 0) s).amlo 0).unacked = []) := by
  decide +kernel

theorem test_trigger_and_flag_flits :
    synced.flitAt at0 = 100 + 3 * 1024
      ∧ (act (.trigFlit 1 (hdr 3) 15 at0) synced).clk.atPulses.map (fun e => (e.idx, e.t, e.chip)) = [(15, 100 + 67 * 1024, 3)]
      ∧ (act (.trigFlit 1 (hdr 3) 15 at0) { synced with now := 10 ^ 6 }).rd pClk GRP_STAT_AMLLATE = 1
      ∧ (act (.flagFlit 1 (hdr 3) 63 2 33 at0) synced).clk.sharedFlags.map (fun e => (e.idx, e.op, e.rank)) = [(63, 2, 33)]
      ∧ act (.flagFlit 1 (hdr 3) 63 2 33 at0) (amlIn 1) = amlIn 1 := by
  decide +kernel

theorem test_rendezvous_and_span_flits :
    (act (.rdvFlit 1 (hdr 3) 15 (.arrive 31) at0) synced).clk.arrivals = [(15, (3, 31), 100 + 67 * 1024)]
      ∧ (act (.rdvFlit 1 (hdr 3) 15 (.withdraw 31) at0) (act (.rdvFlit 1 { hdr 3 with oseq := 8 } 15 (.arrive 31) at0) synced)).clk.arrivals = []
      ∧ tabGet 0 (act (.rdvFlit 1 (hdr 3) 15 (.members 6) at0) synced).clk.remMembers 243 = 6
      ∧ tabGet 0 (act (.rdvFlit 1 (hdr 3) 15 (.excused 4 true) at0) synced).clk.remExcused 243 = 16
      ∧ tabGet 0 (act (.rdvFlit 1 (hdr 3) 15 (.chips 6) at0) synced).clk.remChips 243 = 7
      ∧ tabGet 0 (act (.spanFlit 1 (hdr 3) 15 .ready at0) synced).clk.spanParts 243 = 102 + 3 * 1024
      ∧ tabGet 0 (act (.spanFlit 1 (hdr 3) 15 .gone at0) synced).clk.spanParts 243 = 0 := by
  decide +kernel

theorem test_span_fail_time_and_cal_flits :
    (let s := ((synced.wr (pSq 4) SQ_STAT_STATE stRun).wr pClk SPAN_CFG_EN 1 4).wr pClk SPAN_CFG_SPAN 15 4
    s.spanSite 15 = some 4 ∧ s.sqRunning 4 = true ∧ ((act (.spanFlit 1 (hdr 3) 15 (.fail 7) at0) s).sqo 4).remoteFail = some 7)
      ∧ (let s := synced.wr pTime TIME_CFG_ROLE 2
        s.pageState pTime = 4 ∧ (act (.timeFlit 1 (hdr 3) (.adj (-5)) at0) s).time.adjQ = [(-5, 100 + 67 * 1024)]
          ∧ (act (.timeFlit 1 (hdr 3) (.at_ 77 true) at0) s).time.leadTime = some 77)
      ∧ (act (.calFlit 1 (hdr 3) (.mcskew (-2) 0)) synced).winn.farPhase = [(3, -2, 0)]
      ∧ tabFind (act (.calFlit 1 (hdr 3) (.loop 15 9)) synced).winn.farLoop 243 = some 9 := by
  decide +kernel
/-! ### The fault collector (R497 to R515) -/

/-- A state whose first-fault record is already filled, from an earlier AON clock. -/
def ffr : State := let s := up.wr pFlt FLT_FFR_VALID 1; { s with safety := { s.safety with ffrClock := 7 } }

/-- A source of a severity. -/
def sev (n v : Nat) (s : State := ffr) : State := s.wr pFlt FLT_CFG_SEV v n

theorem test_source_asserts :
    slotInternal 40 = true ∧ (sev 40 1).isLive 40 = false ∧ (sev 40 1).shadower 40 = none
      ∧ (act (.faultSourceAssert [40]) (sev 40 1)).isLive 40 = true
      ∧ (act (.faultSourceAssert [40]) (sev 40 1)).rd pFlt FLT_LATCH_LATCH 1 = 256
      ∧ (sev 40 3).sevOf 40 = 3 ∧ (sev 40 3).shadower 40 = none ∧ (sev 40 3).isLive 40 = false
      ∧ slotInternal 70 = true ∧ (act (.faultSourceAssert [70]) (sev 70 2)).unitIso (unitOf 70) = true
      ∧ act (.faultSourceAssert []) up = up.advanceTo (aonCeil up.now) := by
  decide +kernel

theorem test_source_shadowed :
    (let s := (sev 40 1).modFlt 100 fun o => { o with winEnd := some (10 ^ 6), halt := true }
    s.shadower 40 = some 100 ∧ (act (.faultSourceAssert [40]) s).rd pFlt FLT_SHAD_SHAD 1 = 256
      ∧ (act (.faultSourceAssert [40]) s).rd pFlt FLT_LATCH_LATCH 1 = 0
      ∧ (let t := act (.faultSourceAssert [40]) s
        (act (.shadowWindowEnd 100) t).rd pFlt FLT_SSTAT_CAUSE 40 = 100 ∧ (act (.shadowWindowEnd 100) t).rd pFlt FLT_LATCH_LATCH 1 = 256
          ∧ act (.shadowWindowEnd 99) t = t)) := by
  decide +kernel

theorem test_first_fault_record :
    (let s := (up.wr pFlt FLT_CFG_SEV 1 3).wr pFlt FLT_CFG_SEV 0 255
    let t := act (.wireFault 3 true) s
    s.rd pFlt FLT_FFR_VALID = 0 ∧ t.rd pFlt FLT_FFR_SRC = 3 ∧ t.rd pFlt FLT_FFR_VALID = 1 ∧ t.rd pFlt FLT_WIRE_SLOT = 3
      ∧ t.rd pFlt FLT_WIRE_VAL = 3 ∧ t.isLive 255 = true ∧ act (.wireFault 3 true) t = t)
      ∧ act (.wireFault 121 true) up = up ∧ (act (.wireFault 120 false) (sev 120 1 (sev 255 1))).rd pFlt FLT_WIRE_VALID = 1 := by
  decide +kernel

/-- An internal source that reacted. -/
def reacted (st : Nat) : State := ((ffr.putSlot FLT_LIVE_LIVE 40 true).wr pFlt FLT_SSTAT_STATE st 40).modFlt 40 fun o => { o with pair := true }

theorem test_source_clears :
    (act (.faultSourceClear 40 []) (reacted 1)).slotState 40 = 2 ∧ (act (.faultSourceClear 40 []) (reacted 1)).isLive 40 = false
      ∧ (act (.faultSourceClear 40 []) (reacted 3)).slotState 40 = 3 ∧ act (.faultSourceClear 40 []) up = up := by
  decide +kernel

/-- A source in its quiet period, with recoveries counted. -/
def quiet (w : Nat) : State :=
  (((reacted 2).putSlot FLT_LIVE_LIVE 40 false).wr pFlt FLT_RLIM_LIMIT 2 40).modFlt 40 fun o =>
    { o with pair := false, wcnt := w, wstart := 0, quietAt := 5, halt := true }

theorem test_quiet_period :
    (act (.quietPeriodEnd 40 default) ((quiet 1).wr pFlt FLT_RLIM_WIN 1 40)).slotState 40 = 0
      ∧ (act (.quietPeriodEnd 40 default) (((quiet 1).wr pFlt FLT_RLIM_WIN 1 40).wr pMode MODE_STAT_MODE 6)).mode = 3
      ∧ (quiet 2).slotState 40 = 2 ∧ (quiet 2).rd pFlt FLT_RLIM_LIMIT 40 < ((quiet 2).flto 40).wcnt + 1
      ∧ (((act (.quietPeriodEnd 40 default) ((quiet 2).wr pFlt FLT_RLIM_WIN 0 40)).flto 40).wcnt) = 1
      ∧ act (.quietPeriodEnd 40 default) up = up := by
  decide +kernel

theorem test_lock_clear :
    (let s := (((reacted 3).putSlot FLT_LIVE_LIVE 40 false).wr pFlt FLT_SSTAT_LOCK 1 40)
    WriteActs s .host pFlt (0x1008 + 16 * 40) 16 ∧ (act (.lockClear .host 40) s).slotState 40 = 2
      ∧ (act (.lockClear .host 40) s).rd pFlt FLT_SSTAT_LOCK 40 = 0)
      ∧ (act (.lockClear .host 40) (reacted 3)).slotState 40 = 1 ∧ (act (.lockClear .host 40) (reacted 1)).slotState 40 = 1 := by
  unfold WriteActs; decide +kernel

theorem test_injection :
    (let s := (sev 40 1 (sev 255 1)).wr pMode MODE_STAT_MODE 7
    WriteActs s .host pFlt 0x48 (0x828 + 5 * 65536) ∧ (act (.faultInjection .host (40 + 5 * 65536)) s).isLive 40 = true
      ∧ (act (.faultInjection .host (40 + 5 * 65536)) s).safety.inj = some (40, 0, 5 * usG)
      ∧ (act .injectionEnd (act (.faultInjection .host (40 + 5 * 65536)) s)).isLive 40 = false
      ∧ (act (.faultInjection .host 121) s).rd pFlt PAGE_STAT_WERR = 1)
      ∧ (act (.faultInjection .host 40) up).rd pFlt PAGE_STAT_WERR = 1 ∧ act .injectionEnd up = up := by
  unfold WriteActs; decide +kernel
/-! ### The Silo (R516 to R524) -/

/-- The first step of arming has been taken, with a nonce. -/
def step1 : State := let s := (sev 120 1).wr pSilo SILO_NONCE_NONCE 0x1234; { s with safety := { s.safety with armStep := some 9 } }

theorem test_silo_arms :
    (act (.siloArm 0x5AA5EDCB) step1).rd pSilo SILO_STAT_ARMED = 1 ∧ (act (.siloArm 0x5AA5EDCB) step1).safety.armedUntil = secG
      ∧ (act (.siloArm 0) step1).safety.armStep = none ∧ (act (.siloArm 0xA55A) up).safety.armStep = some (10 * msG)
      ∧ (act (.siloArm 0x5AA5EDCB) { step1 with now := 10 }).rd pSilo SILO_STAT_ARMFAIL = 1
      ∧ act (.siloArm 1) (up.wr pSilo SILO_STAT_ARMFAIL 8) = up.wr pSilo SILO_STAT_ARMFAIL 8
      ∧ (act (.siloArm 1) (up.wr pMode MODE_STAT_MODE 1)).rd pSilo PAGE_STAT_WERR = 1 := by
  decide +kernel

theorem test_silo_arm_expires :
    (act .siloArmExpire step1).now = 9 ∧ (act .siloArmExpire step1).safety.armStep = none
      ∧ (act .siloArmExpire (up.wr pSilo SILO_STAT_ARMED 1)).rd pSilo SILO_STAT_ARMED = 0 ∧ act .siloArmExpire up = up := by
  decide +kernel

theorem test_silo_force :
    (act (.siloForce true 5) up).rd pSilo PAGE_STAT_WERR = 1
      ∧ (act (.siloForce false 0x80000001) up).rd pSilo SILO_FORCE_FORCE = 0x80000001
      ∧ bitAt ((act (.siloForce false 1) up).rd pSilo SILO_SCAUSE_CAUSE 0) 6 = true
      ∧ (act (.siloForce true 0) (up.wr pSilo SILO_STAT_ARMED 1)).rd pSilo SILO_FORCE_FORCE = 0 := by
  decide +kernel

theorem test_safe_n :
    (let s := (ffr.wr pSilo SILO_STAT_SAFEN 1).putSlot FLT_LIVE_LIVE 115 true
    act (.safeN true) s = s ∧ (act (.safeN false) s).rd pSilo SILO_STAT_SAFEN = 0 ∧ (act (.safeN false) s).isLive 115 = false)
      ∧ up.isLive 115 = false ∧ (act (.safeN false) up).safety = up.safety := by
  decide +kernel

theorem test_group_current :
    (let s := (sev 105 1 (site 0 0)).wr pFlt FLT_FFR_VALID 1
    (act (.groupCurrentLimit 0 201) (s.wr pSilo SILO_ILIM_LIMIT 200 0)).rd pSilo SILO_ILIM_MEAS 0 = 201
      ∧ (act (.groupCurrentLimit 0 201) (s.wr pSilo SILO_ILIM_LIMIT 200 0)).isLive 105 = true
      ∧ (act (.groupCurrentLimit 0 200) (s.wr pSilo SILO_ILIM_LIMIT 200 0)).isLive 105 = false
      ∧ s.siteOf 0 = some 0 ∧ bitAt ((act (.groupCurrentLimit 0 201) (s.wr pSilo SILO_ILIM_LIMIT 200 0)).rd pSilo SILO_SCAUSE_CAUSE 0) 4 = true) := by
  decide +kernel

theorem test_temperatures :
    (let s := (sev 113 1 (sev 114 1)).wr pSilo SILO_THR_WARN 90
    (act (.thermalWarning [90, 80, 80, 80]) s).rd pSilo SILO_STAT_WARN = 1
      ∧ (act (.thermalWarning [89, 80, 80, 80]) s).rd pSilo SILO_STAT_WARN = 0
      ∧ (act (.thermalWarning [96, 80, 80, 80]) s).rd pSilo SILO_STAT_TSENS = 1
      ∧ (act (.thermalCritical [0, 60, 120, 0]) s).rd pSilo SILO_STAT_CRIT = 1
      ∧ act (.thermalCritical [0]) s = s) := by
  decide +kernel

theorem test_monitors :
    (act .supplyOutOfWindow (sev 116 1)).isLive 116 = true ∧ (act (.pllUnlock false) (sev 117 1)).isLive 117 = true
      ∧ act (.pllUnlock false) (up.wr pMode MODE_STAT_MODE 0) = up.wr pMode MODE_STAT_MODE 0 := by
  decide +kernel
/-! ### Modes and power (R528 to R542, R556 to R564) -/

/-- The device in another mode. -/
def mode (m : Nat) : State := up.wr pMode MODE_STAT_MODE m

/-- A site runs. -/
def busy : State := site 0 stRun

theorem test_mode_refusals :
    transOk 2 4 = false ∧ (mode 2).modeReason 4 = 1 ∧ busy.anySiteBusy = true ∧ busy.modeReason 4 = 2
      ∧ WriteActs (mode 2) .host pMode 0x40 3 ∧ (act (.calRequest .host) (mode 2)).rd pMode MODE_STAT_REASON = 1
      ∧ (act (.calRequest .host) busy).rd pMode MODE_STAT_REF = 1 ∧ (act (.calRequest .host) busy).mode = busy.mode
      ∧ (act (.factoryRequest .host) (up.wr pSec SEC_LIFE_STATE 1)).rd pMode MODE_STAT_REASON = 3
      ∧ (act (.restartRequest .host none default) busy).rd pMode MODE_STAT_REASON = 2 := by
  unfold WriteActs; decide +kernel

theorem test_mode_changes :
    up.modeReason 4 = 0 ∧ (act (.calRequest .host) up).mode = 4 ∧ (act (.calRequest .host) up).rd pMode MODE_STAT_PREV = 3
      ∧ (act (.factoryRequest .host) up).mode = 7 ∧ (act (.idleRequest .host) (mode 4)).mode = 3
      ∧ WriteActs up .host pMode 0x40 4 ∧ WriteActs (mode 4) .host pMode 0x40 1 := by
  unfold WriteActs; decide +kernel

theorem test_standby_and_off :
    up.modeReason 2 = 0 ∧ WriteActs up .host pMode 0x40 2 ∧ WriteActs up .host pMode 0x40 5 ∧ up.modeReason 0 = 0
      ∧ (act (.standbyRequest .host) (up.wr pPwr PWR_STBY0_STBY 3)).mgmt.target = some 2
      ∧ (act (.standbyRequest .host) (up.wr pPwr PWR_STBY0_STBY 3)).mode = 3
      ∧ (act (.offRequest .host) (dc 2)).mgmt.target = some 0 ∧ (act (.offRequest .host) (dc 2)).rd (pDc 0) DC_STAT_STATE = 3
      ∧ bitAt (act (.offRequest .host) up).mgmt.down 79 = true
      ∧ (mode 2).modeReason 3 = 0 ∧ (act (.idleRequest .host) ((mode 2).wr pPwr PWR_STAT0_ON 0)).mgmt.target = some 3
      ∧ (act (.idleRequest .host) ((mode 2).wr pPwr PWR_STAT0_ON 0)).mode = 2 := by
  unfold WriteActs; decide +kernel

theorem test_restart_is_taken : WriteActs up .host pMode 0x40 6 ∧ up.modeReason 1 = 0 := by unfold WriteActs; decide +kernel

theorem test_power_requests :
    up.admits .host pPwr false = true
      ∧ (act (.powerRequest .host 0 0xFFFFFFFE) up).requested 0 = false ∧ (act (.powerRequest .host 0 0xFFFFFFFE) up).mgmt.down = 1
      ∧ (act (.powerRequest .host 2 0x7FFF) up).rd pPwr PWR_ERR_DOM = 79 ∧ (act (.powerRequest .host 2 0x7FFF) up).requested 79 = true
      ∧ (let s := (up.wr pPwr PWR_STAT1_ON 0).wr pPwr PWR_REQ1_REQ 0
        (act (.powerRequest .host 1 0x80000000) s).mgmt.up = 2 ^ 63)
      ∧ (act (.powerRequest .host 0 1) (State.reset.wr pMode MODE_STAT_MODE 1)).mode = 1 := by
  decide +kernel

theorem test_power_completes :
    (let s : State := { up.wr pPwr PWR_STAT0_ON 0xFFFFFFFE with mgmt := { up.mgmt with up := 1 } }
    s.upBatch = [0] ∧ (act .powerUpComplete s).domainOn 0 = true ∧ (act .powerUpComplete s).mgmt.up = 0)
      ∧ (let s : State := { up with mgmt := { up.mgmt with down := 2 ^ 68 }, mem := { up.mem with record := [(3, 1)] } }
        (act (.powerDownComplete 68) s).mem.record = [] ∧ (act (.powerDownComplete 68) s).domainOn 68 = false
          ∧ bitAt (act (.powerDownComplete 68) s).mgmt.up 68 = true)
      ∧ (let s : State := { up.wr pMode MODE_STAT_PEND 1 with mgmt := { up.mgmt with down := 1, target := some 2 } }
        (act (.powerDownComplete 0) s).mode = 2 ∧ (act (.powerDownComplete 0) s).mgmt.target = none)
      ∧ (let s : State := { (mode 2).wr pPwr PWR_STAT0_ON 0xFFFFFFFE with mgmt := { up.mgmt with up := 1, target := some 3 } }
        (act .powerUpComplete s).mode = 3)
      ∧ act (.powerDownComplete 68) up = up ∧ act .powerUpComplete up = up := by
  decide +kernel

theorem test_boot_begins :
    State.reset.mode = 1 ∧ State.reset.rd pDev DEV_BOOT_STEP = 0 ∧ act (.powerOnResetRelease none default) up = up
      ∧ act (.refclkDetect .rising) up = up
      ∧ (let s : State := { State.reset.wr pDev DEV_BOOT_STEP 2 with mgmt := { State.reset.mgmt with boot := some default } }
        s.mgmt.boot = some default ∧ s.mode = 1) := by
  decide +kernel

theorem test_boot_ends :
    (let s := State.reset.wr pDev DEV_BOOT_STEP 9
    (act (.bootEnd 5) s).mode = 3 ∧ (act (.bootEnd 5) s).now = 5 * usG ∧ (act (.bootEnd 5) s).rd pDev DEV_BOOTT_TIME = 5
      ∧ (act (.bootEnd 5) s).winn.due = 2 ^ 32 - 1
      ∧ ((s.modFlt 3 fun o => { o with halt := true }).wr pFlt FLT_SSTAT_STATE 1 3).haltStands = true)
      ∧ act (.bootEnd 5) up = up ∧ (act .vddaonLoss up).mode = 1 := by
  decide +kernel

/-! ### Lifecycle, keys and tokens (R543 to R553) -/

theorem test_seal_and_zeroise :
    WriteActs up .host pSec 0x44 0x5EA10001 ∧ WriteActs up .host pSec 0x44 2 ∧ (act (.sealDevice .host 0x5EA1) up).mgmt.sealed = true
      ∧ (act (.sealDevice .host 0x5EA1) up).rd pSec SEC_LIFE_STATE = 1
      ∧ (act (.sealDevice .host 0x5EA0) up).rd pSec PAGE_STAT_WERR = 1
      ∧ (act (.sealDevice .host 0x5EA1) (mode 4)).rd pSec PAGE_STAT_WERR = 1
      ∧ (act (.zeroise .host) { up with keys := [(1, 5)] }).keys = [] ∧ (act (.zeroise .host) busy).rd pSec PAGE_STAT_WERR = 1
      ∧ (act .zeroisationDone (act (.zeroise .host) up)).rd pSec SEC_KSTAT_ZBUSY = 0 ∧ act .zeroisationDone up = up := by
  unfold WriteActs; decide +kernel

theorem test_zeroisation_ends_a_token :
    (let s : State := { up.wr pSec SEC_KSTAT_ZBUSY 1 with mgmt := { up.mgmt with afterZero := some 2 } }
    (act .zeroisationDone s).rd pDbg DBG_LEVEL_LEVEL = 2)
      ∧ (let s : State := { up.wr pSec SEC_KSTAT_ZBUSY 1 with mgmt := { up.mgmt with afterZero := some 3 } }
        (act .zeroisationDone s).rd pSec SEC_LIFE_STATE = 2 ∧ (act .zeroisationDone s).mgmt.afterZero = none) := by
  decide +kernel

/-- Slot 3 is selected, without wrapping. -/
def keySlot : State := ((up.wr pSec SEC_KSEL_SLOT 3).wr pSec SEC_KDATA_DATA 7 0).wr pSec SEC_KDATA_DATA 1 15

theorem test_key_load :
    WriteActs keySlot .host pSec 0xC8 1 ∧ tabFind (act (.keyLoad .host) keySlot).keys 3 = some (7 + 2 ^ 480 + 1)
      ∧ (act (.keyLoad .host) keySlot).rd pSec SEC_KSTAT_LOADED = 8 ∧ (act (.keyLoad .host) keySlot).rd pSec SEC_KDATA_DATA 0 = 0
      ∧ (act (.keyLoad .host) (keySlot.wr pSec SEC_LIFE_STATE 1)).rd pSec SEC_KSTAT_KREASON = 2
      ∧ (act (.keyLoad .host) (keySlot.wr pMode MODE_STAT_MODE 5)).rd pSec SEC_KSTAT_KREASON = 1
      ∧ (keySlot.wr pSec SEC_KSEL_WRAP 1).bit pSec SEC_KSEL_WRAP = true := by
  unfold WriteActs; decide +kernel

theorem test_debug_level :
    WriteActs up .host pDbg 0x44 2 ∧ (act (.debugLevelRequest .host 2) up).rd pDbg DBG_LEVEL_LEVEL = 2 ∧ (act (.debugLevelRequest .host 3) up).rd pDbg PAGE_STAT_WERR = 1
      ∧ (act (.debugLevelRequest .host 2) ((up.wr pSec SEC_LIFE_STATE 1).wr pDbg DBG_LEVEL_LEVEL 1)).rd pDbg DBG_STAT_REASON = 4 := by
  unfold WriteActs; decide +kernel

theorem test_tokens :
    WriteActs up .host pDbg 0x160 (256 + 3) ∧ up.tokenReason 3 = 4 ∧ (up.wr pSec SEC_LIFE_STATE 1).tokenReason 3 = 0
      ∧ (mode 2).tokenReason 3 = 3 ∧ busy.tokenReason 2 = 2
      ∧ ((up.wr pSec SEC_LIFE_STATE 1).wr pDbg DBG_STAT_FAILS 4).tokenReason 2 = 5
      ∧ (let s := fun ok (u : State) => { u with mgmt := { u.mgmt with token := some (ok, 2) } }
        (act .tokenVerified (s false up)).rd pDbg DBG_STAT_FAILS = 1 ∧ (act .tokenVerified (s true busy)).rd pDbg DBG_STAT_REASON = 2
          ∧ (act .tokenVerified (s true up)).mgmt.afterZero = some 2 ∧ act .tokenVerified up = up) := by
  unfold WriteActs; decide +kernel

/-! ### The I3C target and the TAP (R548, R549, R554) -/

theorem test_i3c :
    act (.i3cSetOffset 4) up = up ∧ act .i3cRead up = up
      ∧ (let s := act (.entdaa 9) up
        s.mgmt.i3cAddr = some 9 ∧ (act (.i3cSetOffset 0x40) s).mgmt.i3cOff = 0x40
          ∧ pageOf (pageBase (pSh 0)) = some (pSh 0) ∧ (act .i3cRead (act (.i3cSetOffset (BitVec.ofNat 32 (pageBase (pSh 0)))) s)).rdata = 0
          ∧ act (.i3cWrite 0x4000000 1) s = s) := by
  decide +kernel

theorem test_tap :
    (act (.samplePreload 5 6) up).tap.captured = 5 ∧ (act (.samplePreload 5 6) up).tap.cells = 6
      ∧ (act (.extest 7) up).tap.extest = true ∧ act (.extest 7) (mode 2) = mode 2
      ∧ (act .bypass (act (.extest 7) up)).tap.extest = false := by
  decide +kernel

end Sys2Proof.Tests
end

section
/-! Register writes that hold a reserved value (R9). The registers that have reserved values, as rows of offsets; the
state that a discarded write gives; and that each page discards such a write before any action of it. -/

namespace Sys2Proof.Machine

open Reg

/-! ### Pages -/

/-- The page index names pages of the device only (R581). -/
theorem pageOf_inst_lt {a : Nat} {p : Page} (h : pageOf a = some p) : p.inst < pageCount p.kind := by
  obtain ⟨k, -, hk⟩ := List.exists_of_findSome?_eq_some h
  unfold pageIn at hk
  split at hk
  · next hin =>
    cases hk
    exact Nat.div_lt_of_lt_mul (by rw [Nat.mul_comm (pageSize k)]; show a - kindBase k < pageCount k * pageSize k; omega)
  · cases hk

/-! ### Registers with reserved values -/

/-- Fields whose reserved values a rule names in the light of the state or of another part of the word. -/
def ruledFields : PKind → List Field
  | .sh => [SH_CGSEL_SEL, CH_PMU_FORCE_FORCE, CH_PMU_CLAMP_VCLL]
  | .clk => [AT_MAP0_MAP, AT_MAP1_MAP]
  | .gln => [GLN_SN_N, GLN_SCFG_MODE, GLN_SCFG_RECYCLE, GLN_SREG_BASE]
  | .silo => [SILO_THR_CRIT]
  | .eth => [ETH_CFG_FEC]
  | .time => [TIME_ADJ1_ADJ]
  | .flt => [FLT_CFG_SEV, FLT_RLIM_LIMIT]
  | .asn => [AS_SC_IN_INSEL]
  | .acq => [ACQ_SIN_INSEL]
  | _ => []

/-- A field that a write sets, and of which some value is reserved. -/
def reservable (k : PKind) (f : Field) : Bool :=
  (f.acc = .rw || f.acc = .wo || f.acc = .w1s) && (!f.legal.isEmpty || (ruledFields k).contains f)

/-- The registers of a page that hold a reservable field: rows of a first offset, a last one and a stride. -/
def reservableRows : PKind → List (Nat × Nat × Nat)
  | .mode => [(0x40, 0x40, 0)]
  | .clk => [(0x44, 0x44, 0), (0x48, 0x48, 0), (0x1C0, 0x1C0, 0), (0x1C4, 0x1C4, 0)]
  | .flt => [(0x40, 0x40, 0), (0x48, 0x48, 0), (0x1000, 0x1FF0, 0x10), (0x1004, 0x1FF4, 0x10)]
  | .silo => [(0x54, 0x54, 0), (0x80, 0x9C, 4)]
  | .dbg => [(0x44, 0x44, 0), (0x160, 0x160, 0)]
  | .time => [(0x40, 0x40, 0), (0x78, 0x78, 0), (0x8C, 0x8C, 0)]
  | .eth => [(0x40, 0x40, 0), (0x88, 0x88, 0), (0xA8, 0xA8, 0), (0xD8, 0xD8, 0)]
  | .cnt => [(0x48, 0x48, 0), (0x88, 0x88, 0)]
  | .brst => [(0x5C, 0x5C, 0), (0xA8, 0xA8, 0), (0x100, 0x170, 0x10)]
  | .winn => [(0x44, 0x44, 0), (0x5C, 0x5C, 0), (0x60, 0x60, 0)]
  | .host => [(0x20C, 0x3CC, 0x40), (0x220, 0x3E0, 0x40)]
  | .dc => [(0x40, 0x40, 0), (0x50, 0x50, 0)]
  | .qdr => [(0x40, 0x40, 0)]
  | .asn => [(0x48, 0x48, 0), (0x54, 0x54, 0), (0x80, 0x90, 0x10), (0xC4, 0xC4, 0)]
  | .ascan => [(0x44, 0x44, 0), (0x48, 0x48, 0), (0x58, 0x58, 0), (0x80, 0x80, 0), (0x8C, 0x8C, 0), (0x104, 0x17C, 8),
      (0x200, 0x5F0, 0x10), (0x208, 0x5F8, 0x10)]
  | .acq => [(0x48, 0x48, 0), (0x4C, 0x4C, 0), (0x50, 0x50, 0), (0x80, 0xB0, 0x10), (0x84, 0xB4, 0x10), (0xD0, 0xDC, 4),
      (0x100, 0x1FC, 4)]
  | .sq => [(0x50, 0x50, 0), (0x8000, 0x80FC, 4)]
  | .gran => [(0x40, 0x40, 0)]
  | .hop => [(0x114, 0x1094, 0x80)]
  | .gln => [(0x40, 0x40, 0), (0x64, 0x64, 0), (0x88, 0x88, 0), (0x100, 0x8C0, 0x40), (0x104, 0x8C4, 0x40),
      (0x108, 0x8C8, 0x40), (0x2000, 0x2FEC, 4)]
  | .sh => [(0x50, 0x50, 0), (0x54, 0x54, 0), (0x104, 0x2C4, 0x40), (0x108, 0x2C8, 0x40), (0x10C, 0x2CC, 0x40),
      (0x110, 0x2D0, 0x40), (0x114, 0x2D4, 0x40), (0x11C, 0x2DC, 0x40), (0x120, 0x2E0, 0x40), (0x4018, 0x7FF8, 0x20),
      (0x8000, 0x8000, 0)]
  | _ => []

/-- The row of offsets that the elements of a field span. -/
def Field.row (f : Field) : Nat × Nat × Nat :=
  (f.off, f.off + (f.n1 - 1) * f.s1 + (f.n2 - 1) * f.s2, Nat.gcd f.s1 f.s2)

theorem row_mem_of_reservable (k : PKind) : ∀ f ∈ blockFields k, reservable k f = true → f.row ∈ reservableRows k := by
  cases k <;> decide +kernel

theorem header_not_reservable (k : PKind) : ∀ f ∈ headerFields, reservable k f = false := by
  cases k <;> decide +kernel

/-- The offset is that of a register of one of the rows. -/
def InRows (off : Nat) : List (Nat × Nat × Nat) → Prop
  | [] => False
  | (first, last, stride) :: rs => first ≤ off ∧ off ≤ last ∧ off % stride = first % stride ∨ InRows off rs

/-- The register at an offset of a page has reserved values. -/
def ReservableAt (k : PKind) (off : Nat) : Prop := InRows off (reservableRows k)

theorem inRows_of_mem {off : Nat} {r : Nat × Nat × Nat} (h : InRows off [r]) : ∀ {rs}, r ∈ rs → InRows off rs
  | _ :: _, .head _ => .inl (h.resolve_right id)
  | _ :: _, .tail _ hm => .inr (inRows_of_mem h hm)

/-- An element of a field lies at the field's offset and its strides. -/
theorem fieldElem_off {f : Field} {off i j : Nat} (h : fieldElem f off = some (i, j)) :
    i < f.n1 ∧ j < f.n2 ∧ off = f.off + i * f.s1 + j * f.s2 := by
  simp only [fieldElem, Option.ite_none_left_eq_some, Option.ite_none_right_eq_some, Option.some.injEq, Prod.mk.injEq] at h
  obtain ⟨hoff, ⟨hi, hj, hq⟩, rfl, rfl⟩ := h
  refine ⟨hi, hj, ?_⟩
  by_cases h1 : f.s1 = 0 <;> by_cases h2 : f.s2 = 0 <;> simp only [h1, h2, if_true, if_false] at hq ⊢
  · omega
  · have := Nat.div_add_mod' (off - f.off) f.s2
    omega
  · have := Nat.div_add_mod' (off - f.off) f.s1
    omega
  · have := Nat.div_add_mod' (off - f.off) f.s1
    have := Nat.div_add_mod' ((off - f.off) % f.s1) f.s2
    omega

/-- The elements of a field lie in its row. -/
theorem inRows_of_fieldElem {f : Field} {off i j : Nat} (h : fieldElem f off = some (i, j)) : InRows off [f.row] := by
  obtain ⟨hi, hj, rfl⟩ := fieldElem_off h
  have h1 : i * f.s1 ≤ (f.n1 - 1) * f.s1 := Nat.mul_le_mul_right _ (by omega)
  have h2 : j * f.s2 ≤ (f.n2 - 1) * f.s2 := Nat.mul_le_mul_right _ (by omega)
  have hd : Nat.gcd f.s1 f.s2 ∣ i * f.s1 + j * f.s2 :=
    Nat.dvd_add (Nat.dvd_mul_left_of_dvd (Nat.gcd_dvd_left _ _) i) (Nat.dvd_mul_left_of_dvd (Nat.gcd_dvd_right _ _) j)
  refine .inl ⟨by omega, by omega, ?_⟩
  rw [Nat.add_assoc, Nat.add_mod, Nat.mod_eq_zero_of_dvd hd, Nat.add_zero, Nat.mod_mod]

/-- A field without a reserved value of its own, and of which no rule reserves one, never holds a reserved value. -/
theorem State.fieldReserved_of_unruled (s : State) (p : Page) (fa : FieldAt) (word v : Nat) (hl : fa.f.legal = [])
    (hr : fa.f ∉ ruledFields p.kind) : s.fieldReserved p fa word v = false := by
  obtain ⟨k, n⟩ := p
  cases k <;> simp_all [State.fieldReserved, inRanges, ruledFields]

/-- A field that a write sets and that holds a reserved value is reservable. -/
theorem State.reservable_of_fieldReserved {s : State} {p : Page} {fa : FieldAt} {word v : Nat}
    (hacc : (fa.f.acc = .rw || fa.f.acc = .wo || fa.f.acc = .w1s) = true) (hv : s.fieldReserved p fa word v = true) :
    reservable p.kind fa.f = true := by
  unfold reservable
  rw [hacc, Bool.true_and, Bool.or_eq_true]
  by_cases hl : fa.f.legal = []
  · by_cases hr : fa.f ∈ ruledFields p.kind
    · exact .inr (List.contains_iff_mem.mpr hr)
    · rw [s.fieldReserved_of_unruled p fa word v hl hr] at hv
      cases hv
  · exact .inl (by rw [Bool.not_eq_true', List.isEmpty_eq_false_iff]; exact hl)

/-- A word holds a reserved value only in a register that has reserved values, which none of the header has (R9). -/
theorem State.reservableAt_of_writeReserved {s : State} {p : Page} {off word : Nat}
    (h : s.writeReserved p (fieldsAt p.kind off) word = true) : 0x40 ≤ off ∧ ReservableAt p.kind off := by
  obtain ⟨fa, hmem, hfa⟩ := List.any_eq_true.mp h
  obtain ⟨hacc, hv⟩ := Bool.and_eq_true_iff.mp hfa
  have hres : reservable p.kind fa.f = true := State.reservable_of_fieldReserved hacc hv
  obtain ⟨f, hf, he⟩ := List.mem_filterMap.mp hmem
  obtain ⟨⟨i, j⟩, hij, rfl⟩ := Option.map_eq_some_iff.mp he
  by_cases hoff : off < 0x40
  · rw [if_pos hoff] at hf
    exact absurd hres (by simp [header_not_reservable p.kind f hf])
  · rw [if_neg hoff] at hf
    exact ⟨by omega, inRows_of_mem (inRows_of_fieldElem hij) (row_mem_of_reservable p.kind f hf hres)⟩

/-! ### Discarded writes -/

/-- PAGE_STAT.WERR of a page is set, and beside it at most the number of free values drawn differs. -/
def WerrAlone (s t : State) (p : Page) : Prop :=
  t.rd p PAGE_STAT_WERR = 1 ∧ RegsKept s t [fieldKey p PAGE_STAT_WERR 0 0] ∧ { t with regs := s.regs, free := s.free } = s

theorem werrAlone_werr (s : State) (p : Page) : WerrAlone s (s.werr p) p :=
  ⟨s.rd_wr_same p PAGE_STAT_WERR 1 0 0, (RegsKept.refl s _).wr p _ _ _ _ (List.mem_singleton_self _), rfl⟩

theorem WerrAlone.of_eq {s t : State} {p : Page} (h : t = s.werr p) : WerrAlone s t p := h ▸ werrAlone_werr s p

/-- A value of WERR that stood before does not matter. -/
theorem WerrAlone.of_wr {s t : State} {p : Page} {v : Nat} (h : WerrAlone (s.wr p PAGE_STAT_WERR v) t p) :
    WerrAlone s t p := by
  obtain ⟨hrd, hregs, hrest⟩ := h
  refine ⟨hrd, ((RegsKept.refl s _).wr p PAGE_STAT_WERR v 0 0 (List.mem_singleton_self _)).trans hregs, ?_⟩
  simpa [State.wr] using congrArg (fun x : State => { x with regs := s.regs }) hrest

/-- A free value drawn before does not matter. -/
theorem WerrAlone.of_draw {s t : State} {p : Page} (h : WerrAlone s.draw.2 t p) : WerrAlone s t p := by
  obtain ⟨hrd, hregs, hrest⟩ := h
  exact ⟨hrd, hregs, by simpa [State.draw] using congrArg (fun x : State => { x with free := s.free }) hrest⟩

/-- WERR set again changes nothing more. -/
theorem WerrAlone.werr {s t : State} {p : Page} (h : WerrAlone s t p) : WerrAlone s (t.werr p) p := by
  obtain ⟨-, hregs, hrest⟩ := h
  exact ⟨t.rd_wr_same p PAGE_STAT_WERR 1 0 0, hregs.wr p _ _ _ _ (List.mem_singleton_self _), hrest⟩

/-- A write with actions of its own is discarded before them. -/
theorem State.writeWith_reserved {s : State} {r : Requester} {p : Page} {off off' word : Nat} {act : State → State}
    (h : s.writeReserved p (fieldsAt p.kind off) word = true) (e : off' = off := by rfl) :
    s.writeWith r p off' word act = s.werr p := by
  subst e
  simp [State.writeWith, h]

theorem State.writePlain_reserved {s : State} {r : Requester} {p : Page} {off off' word : Nat}
    (h : s.writeReserved p (fieldsAt p.kind off) word = true) (e : off' = off := by rfl) :
    s.writePlain r p off' word = s.werr p := by
  subst e
  have hne : (fieldsAt p.kind off').isEmpty = false := by
    rw [Bool.eq_false_iff]
    intro hn
    rw [List.isEmpty_iff.mp hn] at h
    cases h
  simp [State.writePlain, h, hne]

/-! ### What a discarded write leaves for a read to see -/

/-- WERR has a key of its own among the fields of its page. -/
theorem State.rd_wr_werr (s : State) {p : Page} {f : Field} {i j : Nat} (v : Nat)
    (h : f.off < 0x10 ∧ f.lo < 8 ∧ i = 0 ∧ j = 0 ∨ 0x40 ≤ f.off) :
    (s.wr p PAGE_STAT_WERR v).rd p f i j = s.rd p f i j := by
  refine s.rd_wr_ne v fun e => ?_
  simp only [fieldKey, PAGE_STAT_WERR, Nat.zero_mul, Nat.add_zero] at e
  rcases h with ⟨ho, hl, rfl, rfl⟩ | ho <;> omega

/-- The fields of a block lie above the page header. -/
theorem block_off (k : PKind) : ∀ f ∈ blockFields k, 0x40 ≤ f.off := by
  cases k <;> decide +kernel

/-- A write of WERR leaves the state of a converter page. -/
theorem State.pageState_wr_werr (s : State) {p : Page} (v : Nat) (hk : p.kind = .asn ∨ p.kind = .ascan) :
    (s.wr p PAGE_STAT_WERR v).pageState p = s.pageState p := by
  have hpwr : pageType pPwr.kind ≠ pageType p.kind := by rcases hk with hk | hk <;> rw [hk] <;> decide
  have hdom : (s.wr p PAGE_STAT_WERR v).domainOn = s.domainOn := funext fun d => by
    simp only [State.domainOn, s.rd_wr_kind v hpwr]
  have hen : (s.wr p PAGE_STAT_WERR v).bit p PAGE_CTL_EN = s.bit p PAGE_CTL_EN := by
    simp only [State.bit, s.rd_wr_werr (f := PAGE_CTL_EN) (i := 0) (j := 0) v (.inl (by decide))]
  have hrom : ∀ x : State, x.romHolds p = false := fun x => by
    rcases hk with hk | hk <;> simp only [State.romHolds, hk]
  have hops : (s.wr p PAGE_STAT_WERR v).pageo p = s.pageo p := rfl
  unfold State.pageState
  rw [hdom, hen, hrom, hrom, hops]

/-- A field of a converter page shows the same after a write of WERR. -/
theorem State.view_wr_werr (s : State) {p : Page} {f : Field} {i j : Nat} (v : Nat) (hk : p.kind = .asn ∨ p.kind = .ascan)
    (hf : 0x40 ≤ f.off) : (s.wr p PAGE_STAT_WERR v).view p f i j = s.view p f i j := by
  have hrd : (s.wr p PAGE_STAT_WERR v).rd p f i j = s.rd p f i j := s.rd_wr_werr v (.inr hf)
  have hrd0 : (s.wr p PAGE_STAT_WERR v).rd p f = s.rd p f := s.rd_wr_werr v (.inr hf)
  have hhdr : ¬ f.off < 0x40 := by omega
  rcases hk with hk | hk <;> simp only [State.view, State.viewOther, if_neg hhdr, hk]
  · rw [hrd0, hrd, State.wr_now, State.wr_scan]
  · rw [hrd]

/-- A register of a converter page reads the same after a write of WERR. -/
theorem State.readReg_wr_werr (s : State) {p : Page} {off : Nat} (v : Nat) (hk : p.kind = .asn ∨ p.kind = .ascan)
    (hoff : 0x40 ≤ off) : (s.wr p PAGE_STAT_WERR v).readReg p off = s.readReg p off := by
  have hview : ∀ fa ∈ fieldsAt p.kind off,
      (s.wr p PAGE_STAT_WERR v).view p fa.f fa.i fa.j = s.view p fa.f fa.i fa.j := fun fa hfa => by
    obtain ⟨f, hf, he⟩ := List.mem_filterMap.mp hfa
    obtain ⟨⟨i, j⟩, -, rfl⟩ := Option.map_eq_some_iff.mp he
    rw [if_neg (by omega)] at hf
    exact s.view_wr_werr v hk (block_off _ f hf)
  unfold State.readReg
  rw [s.pageState_wr_werr v hk]
  split
  · rfl
  · exact congrArg List.sum (List.map_congr_left fun fa hfa => by rw [hview fa hfa])

/-- No reserved value lies in a calibration register of a sheaf or of the calibration block. -/
theorem not_isCal_of_reservableAt {p : Page} {off : Nat} (hk : p.kind = .sh ∨ p.kind = .winn)
    (h : ReservableAt p.kind off) : isCal p off = false := by
  unfold isCal
  rcases hk with hk | hk <;> rw [hk] at h ⊢ <;> simp only [ReservableAt, reservableRows, InRows, or_false] at h
  all_goals exact decide_eq_false (by omega)

/-- A write of a calibration register is discarded with the value's origin as it was (R374). -/
theorem State.calWrite_reserved {s : State} {r : Requester} {p : Page} {off word : Nat}
    (hk : (p.kind = .asn ∨ p.kind = .ascan) ∨ p.kind = .sh ∨ p.kind = .winn)
    (h : s.writeReserved p (fieldsAt p.kind off) word = true) : s.calWrite r p off word = s.werr p := by
  obtain ⟨hoff, ho⟩ := State.reservableAt_of_writeReserved h
  have hcal : (isCal p off && (s.werr p).readReg p off ≠ s.readReg p off) = false := by
    rcases hk with hk | hk
    · simp [State.werr, s.readReg_wr_werr 1 hk hoff]
    · simp [not_isCal_of_reservableAt hk ho]
  simp only [State.calWrite, State.writePlain_reserved h, hcal, Bool.false_eq_true, if_false]

/-! ### The pages -/

/-- A write of CH_PMU_CLAMP of a channel (R52). -/
theorem State.pmuClampWrite_reserved {s : State} {r : Requester} {n i off word : Nat} (hi : i < 8)
    (hoff : 0x120 + i * 0x40 = off) (h : s.writeReserved (pSh n) (fieldsAt .sh off) word = true) :
    s.pmuClampWrite r (8 * n + i) word = s.werr (pSh n) := by
  unfold State.pmuClampWrite
  rw [show (8 * n + i) / 8 = n by omega, show (8 * n + i) % 8 = i by omega]
  exact State.writePlain_reserved h hoff

/-- A write of a sheaf page. -/
theorem State.shWrite_reserved {s : State} {r : Requester} {n off word : Nat}
    (h : s.writeReserved (pSh n) (fieldsAt .sh off) word = true) : s.shWrite r (pSh n) off word = s.werr (pSh n) := by
  have ho : ReservableAt .sh off := (State.reservableAt_of_writeReserved h).2
  simp only [ReservableAt, reservableRows, InRows, or_false] at ho
  unfold State.shWrite
  dsimp only
  by_cases hopc : off = 0x50
  · rw [if_pos hopc]
    exact State.writeWith_reserved h hopc.symm
  · rw [if_neg hopc, if_neg (by omega), if_neg (by omega)]
    split
    · exact State.pmuClampWrite_reserved (by omega) (by omega) h
    · exact State.calWrite_reserved (.inr (.inl rfl)) h

/-- A write of the CLK page: its registers with reserved values are plain ones. -/
theorem State.clkWrite_reserved {s : State} {r : Requester} {off word : Nat}
    (h : s.writeReserved pClk (fieldsAt .clk off) word = true) : s.clkWrite r off word = s.werr pClk := by
  have ho : ReservableAt .clk off := (State.reservableAt_of_writeReserved h).2
  simp only [ReservableAt, reservableRows, InRows, or_false] at ho
  rw [← State.writePlain_reserved (r := r) h]
  simp (disch := omega) only [State.clkWrite, if_neg]

/-- A write of FLT_INJ, in any mode (R526). -/
theorem State.injWrite_reserved {s : State} {r : Requester} {word : Nat}
    (h : s.writeReserved pFlt (fieldsAt .flt 0x48) word = true) : s.injWrite r word = s.werr pFlt := by
  unfold State.injWrite
  split
  · rfl
  · exact State.writeWith_reserved h

/-- A write of the FLT page. -/
theorem State.fltWrite_reserved {s : State} {r : Requester} {off word : Nat}
    (h : s.writeReserved pFlt (fieldsAt .flt off) word = true) : s.fltWrite r off word = s.werr pFlt := by
  have ho : ReservableAt .flt off := (State.reservableAt_of_writeReserved h).2
  simp only [ReservableAt, reservableRows, InRows, or_false] at ho
  unfold State.fltWrite
  by_cases hinj : off = 0x48
  · rw [if_pos hinj]
    exact State.injWrite_reserved (hinj ▸ h)
  · rw [if_neg hinj, if_neg (by omega), if_neg (by omega)]
    exact State.writePlain_reserved h

/-- A write of the SILO page, whoever writes it (R516, R517). -/
theorem State.siloWrite_reserved {s : State} {r : Requester} {off word : Nat}
    (h : s.writeReserved pSilo (fieldsAt .silo off) word = true) : s.siloWrite r off word = s.werr pSilo := by
  have ho : ReservableAt .silo off := (State.reservableAt_of_writeReserved h).2
  simp only [ReservableAt, reservableRows, InRows, or_false] at ho
  have harm : off ≠ 0x4C := by omega
  have hforce : off ≠ 0x48 := by omega
  cases r with
  | i3c => simp [State.siloWrite, harm, hforce, State.writePlain_reserved h]
  | jtag => rfl
  | host => simp [State.siloWrite, harm]
  | brewer n => simp [State.siloWrite, harm]

/-- A write of the DBG page (R550). -/
theorem State.dbgWrite_reserved {s : State} {r : Requester} {off word : Nat}
    (h : s.writeReserved pDbg (fieldsAt .dbg off) word = true) : s.dbgWrite r off word = s.werr pDbg := by
  have ho : ReservableAt .dbg off := (State.reservableAt_of_writeReserved h).2
  simp only [ReservableAt, reservableRows, InRows, or_false] at ho
  unfold State.dbgWrite
  have hreg : off = 0x44 ∨ off = 0x160 := by omega
  rcases hreg with rfl | rfl
  · rw [if_pos rfl]
    exact State.writeWith_reserved h
  · rw [if_neg (by decide), if_pos rfl]
    exact State.writeWith_reserved h

/-- A write of TIME_CFG: the role stays, and so the copy (R331). -/
theorem State.timeCfgWrite_reserved {s : State} {r : Requester} {word : Nat}
    (h : s.writeReserved pTime (fieldsAt .time 0x40) word = true) : s.timeCfgWrite r word = s.werr pTime := by
  have hrole : (s.werr pTime).rd pTime TIME_CFG_ROLE = s.rd pTime TIME_CFG_ROLE :=
    s.rd_wr_werr 1 (.inr (by decide))
  have hplain : s.writePlain r pTime 0x40 word = s.werr pTime := State.writePlain_reserved h
  simp [State.timeCfgWrite, hplain, hrole]

/-- A write of TIME_ADJ1, also while adj is not open (R326). -/
theorem State.adjWrite_reserved {s : State} {r : Requester} {word : Nat}
    (h : s.writeReserved pTime (fieldsAt .time 0x78) word = true) : s.adjWrite r word = s.werr pTime := by
  unfold State.adjWrite
  rw [h, Bool.not_true, Bool.and_false, if_neg Bool.false_ne_true]
  exact State.writeWith_reserved h

/-- A write of the TIME page. -/
theorem State.timeWrite_reserved {s : State} {r : Requester} {off word : Nat}
    (h : s.writeReserved pTime (fieldsAt .time off) word = true) : s.timeWrite r off word = s.werr pTime := by
  have ho : ReservableAt .time off := (State.reservableAt_of_writeReserved h).2
  simp only [ReservableAt, reservableRows, InRows, or_false] at ho
  unfold State.timeWrite
  have hreg : off = 0x40 ∨ off = 0x78 ∨ off = 0x8C := by omega
  rcases hreg with rfl | rfl | rfl
  · rw [if_pos rfl]
    exact State.timeCfgWrite_reserved h
  · rw [if_neg (by decide), if_neg (by decide), if_neg (by decide), if_neg (by decide), if_pos rfl]
    exact State.adjWrite_reserved h
  · rw [if_neg (by decide), if_neg (by decide), if_neg (by decide), if_neg (by decide), if_neg (by decide)]
    exact State.writePlain_reserved h

/-- A write of AREF_CTL; the active reference stays (R264). -/
theorem State.refWrite_reserved {s : State} {r : Requester} {word : Nat} {inWindow : Bool}
    (h : s.writeReserved pAscan (fieldsAt .ascan 0x80) word = true) :
    WerrAlone s (s.refWrite r word inWindow) pAscan := by
  have h0 : (s.wr pAscan PAGE_STAT_WERR 0).writeReserved pAscan (fieldsAt .ascan 0x80) word = true := h
  have hset : ((s.wr pAscan PAGE_STAT_WERR 0).werr pAscan).bit pAscan PAGE_STAT_WERR = true := by
    simp [State.bit, State.werr, PAGE_STAT_WERR]
  have hwerr : WerrAlone s ((s.wr pAscan PAGE_STAT_WERR 0).werr pAscan) pAscan := (werrAlone_werr _ _).of_wr
  simp only [State.refWrite, State.writePlain_reserved h0, hset, Bool.not_true, Bool.not_false, if_true]
  split
  · exact hwerr
  · exact hwerr.werr

/-- A write of the ASCAN page; AREF_CTL may draw whether the reference lies in its window. -/
theorem State.ascanWrite_reserved {s : State} {r : Requester} {off word : Nat}
    (h : s.writeReserved pAscan (fieldsAt .ascan off) word = true) : WerrAlone s (s.ascanWrite r off word) pAscan := by
  have ho : ReservableAt .ascan off := (State.reservableAt_of_writeReserved h).2
  simp only [ReservableAt, reservableRows, InRows, or_false] at ho
  by_cases href : off = 0x80
  · subst href
    unfold State.ascanWrite
    rw [if_neg (by decide), if_pos rfl]
    split
    · exact .of_draw (State.refWrite_reserved h)
    · exact State.refWrite_reserved h
  · apply WerrAlone.of_eq
    rw [← State.calWrite_reserved (r := r) (.inl (.inr rfl)) h]
    simp (disch := omega) only [State.ascanWrite, if_neg]

/-- A write of DC_CFG, whether or not another rule discards it too (R442, R454). -/
theorem State.dcCfgWrite_reserved {s : State} {r : Requester} {n word : Nat}
    (h : s.writeReserved (pDc n) (fieldsAt .dc 0x40) word = true) : s.dcCfgWrite r n word = s.werr (pDc n) := by
  unfold State.dcCfgWrite
  dsimp only
  split
  · rfl
  · exact State.writeWith_reserved h

/-- A write of a DC page. -/
theorem State.dcWrite_reserved {s : State} {r : Requester} {n off word : Nat}
    (h : s.writeReserved (pDc n) (fieldsAt .dc off) word = true) : s.dcWrite r n off word = s.werr (pDc n) := by
  have ho : ReservableAt .dc off := (State.reservableAt_of_writeReserved h).2
  simp only [ReservableAt, reservableRows, InRows, or_false] at ho
  unfold State.dcWrite
  by_cases hcfg : off = 0x40
  · rw [if_pos hcfg]
    exact State.dcCfgWrite_reserved (hcfg ▸ h)
  · rw [if_neg hcfg, if_neg (by omega)]
    split
    · rfl
    · exact State.writePlain_reserved h

/-- A write of the MODE page; what a RESTART draws first changes nothing else. -/
theorem State.modeWrite_reserved {s : State} {r : Requester} {off word : Nat}
    (h : s.writeReserved pMode (fieldsAt .mode off) word = true) : WerrAlone s (s.modeWrite r off word) pMode := by
  have ho : ReservableAt .mode off := (State.reservableAt_of_writeReserved h).2
  simp only [ReservableAt, reservableRows, InRows, or_false] at ho
  obtain rfl : off = 0x40 := by omega
  unfold State.modeWrite
  rw [if_pos rfl]
  split
  · exact .of_draw (.of_eq (State.writeWith_reserved h))
  · exact .of_eq (State.writeWith_reserved h)

/-- A write of the CNT page. -/
theorem State.cntWrite_reserved {s : State} {r : Requester} {off word : Nat}
    (h : s.writeReserved pCnt (fieldsAt .cnt off) word = true) : s.cntWrite r off word = s.werr pCnt := by
  have ho : ReservableAt .cnt off := (State.reservableAt_of_writeReserved h).2
  simp only [ReservableAt, reservableRows, InRows, or_false] at ho
  rw [← State.writePlain_reserved (r := r) h]
  simp (disch := omega) only [State.cntWrite, if_neg]

/-- A write of the GLN page. -/
theorem State.glnWrite_reserved {s : State} {r : Requester} {off word : Nat}
    (h : s.writeReserved pGln (fieldsAt .gln off) word = true) : s.glnWrite r off word = s.werr pGln := by
  have ho : ReservableAt .gln off := (State.reservableAt_of_writeReserved h).2
  simp only [ReservableAt, reservableRows, InRows, or_false] at ho
  rw [← State.writePlain_reserved (r := r) h]
  simp (disch := omega) only [State.glnWrite, if_neg]

/-- A write of the HOST page. -/
theorem State.hostRegWrite_reserved {s : State} {r : Requester} {off word : Nat}
    (h : s.writeReserved pHost (fieldsAt .host off) word = true) : s.hostRegWrite r off word = s.werr pHost := by
  have ho : ReservableAt .host off := (State.reservableAt_of_writeReserved h).2
  simp only [ReservableAt, reservableRows, InRows, or_false] at ho
  rw [← State.writePlain_reserved (r := r) h]
  simp (disch := omega) only [State.hostRegWrite, if_neg]

/-- A write of a block register that holds a reserved value of a field is discarded as a whole (R9). -/
theorem State.blockWrite_reserved {s : State} {r : Requester} {p : Page} {off word : Nat} (hp : p.inst < pageCount p.kind)
    (h : s.writeReserved p (fieldsAt p.kind off) word = true) : WerrAlone s (s.blockWrite r p off word) p := by
  obtain ⟨-, ho⟩ := State.reservableAt_of_writeReserved h
  obtain ⟨k, n⟩ := p
  have single : pageCount k = 1 → n = 0 := fun e => by
    have : n < pageCount k := hp
    omega
  cases k with
  | sh => exact .of_eq (State.shWrite_reserved h)
  | clk => obtain rfl := single rfl; exact .of_eq (State.clkWrite_reserved h)
  | gln => obtain rfl := single rfl; exact .of_eq (State.glnWrite_reserved h)
  | time => obtain rfl := single rfl; exact .of_eq (State.timeWrite_reserved h)
  | ascan => obtain rfl := single rfl; exact State.ascanWrite_reserved h
  | dc => exact .of_eq (State.dcWrite_reserved h)
  | cnt => obtain rfl := single rfl; exact .of_eq (State.cntWrite_reserved h)
  | flt => obtain rfl := single rfl; exact .of_eq (State.fltWrite_reserved h)
  | silo => obtain rfl := single rfl; exact .of_eq (State.siloWrite_reserved h)
  | mode => obtain rfl := single rfl; exact State.modeWrite_reserved h
  | dbg => obtain rfl := single rfl; exact .of_eq (State.dbgWrite_reserved h)
  | host => obtain rfl := single rfl; exact .of_eq (State.hostRegWrite_reserved h)
  | eth =>
    simp only [ReservableAt, reservableRows, InRows, or_false] at ho
    unfold State.blockWrite
    dsimp only
    by_cases hcfg : off = 0x40
    · rw [if_pos hcfg]
      exact .of_eq (State.writeWith_reserved h hcfg.symm)
    · rw [if_neg hcfg, if_neg (by omega)]
      exact .of_eq (State.writePlain_reserved h)
  | asn =>
    simp only [ReservableAt, reservableRows, InRows, or_false] at ho
    unfold State.blockWrite
    dsimp only
    rw [if_neg (by omega)]
    split
    · exact .of_eq (State.writeWith_reserved h (by omega))
    · exact .of_eq (State.calWrite_reserved (.inl (.inl rfl)) h)
  | winn =>
    simp only [ReservableAt, reservableRows, InRows, or_false] at ho
    apply WerrAlone.of_eq
    rw [← State.calWrite_reserved (r := r) (.inr (.inr rfl)) h]
    simp (disch := omega) only [State.blockWrite, if_neg]
  | sq | hop | acq | qdr | brst =>
    simp only [ReservableAt, reservableRows, InRows, or_false] at ho
    apply WerrAlone.of_eq
    rw [← State.writePlain_reserved (r := r) h]
    simp (disch := omega) only [State.blockWrite, if_neg]
  | gran => exact .of_eq (State.writePlain_reserved h)
  | dev | pwr | sec | ucode | aml | bw | ddr | grnd => exact ho.elim

/-- Settles O10: the header has no register with a reserved value, every register of a block that has one is judged
before any of its actions, and a value drawn for AREF_CTL (assumption log entry 7) is drawn all the same. -/
theorem reservedValuesAreDiscarded : Obligations.ReservedValuesAreDiscarded := by
  intro r a v p s hp ha h
  obtain ⟨hoff, -⟩ := State.reservableAt_of_writeReserved h
  refine ⟨_, rfl, ?_⟩
  have hbar : s.barWrite r a.toNat 4 v.toNat = s.blockWrite r p (a.toNat - pageBase p) (v.toNat % 2 ^ 32) := by
    simp only [State.barWrite, ha, and_self, if_true, State.regWrite, hp, State.pageWrite, if_neg (Nat.not_lt.mpr hoff)]
  rw [hbar]
  exact State.blockWrite_reserved (pageOf_inst_lt hp) h

end Sys2Proof.Machine
end

section
/-! The end of a burst as its own sequencer shows it (R115, R153, R158): the record and the registers that `endBurst`
leaves, and that the waiting words, which still act then, leave SQ_PC. -/

namespace Sys2Proof.Machine

open Reg

/-! ### SQ_PC while waiting words act -/

/-- Fields of a page that begin at different bits do not share a key. -/
theorem State.rd_wr_apart (s : State) (p : Page) {f g : Field} (v : Nat) (h : f.off * 8 + f.lo ≠ g.off * 8 + g.lo) :
    (s.wr p g v).rd p f = s.rd p f := by
  refine s.rd_wr_ne v ?_
  unfold fieldKey
  omega

/-- An item offered to the Barista leaves the sequencers' registers. -/
theorem State.offer_rd_sq {s : State} {it : Item} {t : State} (h : tgtOffer (s.offer it) = some t) (n : Nat) (f : Field)
    (i j : Nat) : t.rd (pSq n) f i j = s.rd (pSq n) f i j :=
  (State.offer_keeps t h).same (.regs .sq) rfl n f i j

theorem State.exportEvent_rd_sq (s : State) (src : Nat) (e : List Byte) (n : Nat) (f : Field) (i j : Nat) :
    (s.exportEvent src e).rd (pSq n) f i j = s.rd (pSq n) f i j :=
  State.exportEvent_keeps.same (.regs .sq) rfl n f i j

/-- A MARK item changes of the sequencer's registers the count of dropped items at most. -/
theorem State.markSubmit_rd_pc (s : State) (n word vec tset seg t : Nat) :
    (s.markSubmit n word vec tset seg t).rd (pSq n) SQ_PC_ADDR = s.rd (pSq n) SQ_PC_ADDR := by
  unfold State.markSubmit
  dsimp only
  split
  · exact (State.rd_wr_apart _ _ _ (by decide)).trans (State.exportEvent_rd_sq ..)
  · split
    · next h => exact (State.offer_rd_sq (congrArg tgtOffer h) ..).trans (State.exportEvent_rd_sq ..)
    · next h => exact (State.offer_rd_sq (congrArg tgtOffer h) ..).trans (State.exportEvent_rd_sq ..)
    · exact State.exportEvent_rd_sq ..

theorem State.doMark_rd_pc (s : State) (n word vec tset seg t : Nat) :
    (s.doMark n word vec tset seg t).rd (pSq n) SQ_PC_ADDR = s.rd (pSq n) SQ_PC_ADDR := by
  unfold State.doMark
  extract_lets s1 s2 s3
  have hmark : s1.rd (pSq n) SQ_PC_ADDR = s.rd (pSq n) SQ_PC_ADDR := by
    unfold s1
    split
    · exact State.modSq_rd ..
    · rfl
  have hitem : s2.rd (pSq n) SQ_PC_ADDR = s.rd (pSq n) SQ_PC_ADDR := by
    unfold s2
    split
    · exact (s1.markSubmit_rd_pc ..).trans hmark
    · exact hmark
  have hevent : s3.rd (pSq n) SQ_PC_ADDR = s.rd (pSq n) SQ_PC_ADDR := by
    unfold s3
    split
    · exact (State.acqEvent_keeps.same (.regs .sq) rfl n _ 0 0).trans hitem
    · exact hitem
  exact List.foldlRecOn (motive := fun x : State => x.rd (pSq n) SQ_PC_ADDR = s.rd (pSq n) SQ_PC_ADDR) _ _ hevent
    fun x hx _ _ => (State.pulseTout_keeps.same (.regs .sq) rfl n _ 0 0).trans hx

theorem State.doAct_rd_pc (s : State) (n word vec tset seg t : Nat) :
    (s.doAct n word vec tset seg t).rd (pSq n) SQ_PC_ADDR = s.rd (pSq n) SQ_PC_ADDR := by
  unfold State.doAct
  dsimp only
  split
  · exact s.doMark_rd_pc ..
  · split
    · exact State.changeFlag_keeps.same (.regs .sq) rfl n _ 0 0
    · exact State.doTset_keeps.same (.regs .sq) rfl n _ 0 0

theorem State.doActs_rd_pc (s : State) (n vec tset seg t : Nat) :
    (s.doActs n vec tset seg t).rd (pSq n) SQ_PC_ADDR = s.rd (pSq n) SQ_PC_ADDR :=
  List.foldlRecOn (motive := fun x : State => x.rd (pSq n) SQ_PC_ADDR = s.rd (pSq n) SQ_PC_ADDR) _ _ rfl
    fun x hx _ _ => (x.doAct_rd_pc ..).trans hx

/-! ### The registers and the record at an end -/

/-- The registers of an end: SQ_PC stays, the cause and the state are recorded, no other cause is yet. -/
theorem State.endRegs_rd (s : State) (n cause code t st : Nat) :
    (s.endRegs n cause code t st).sqState n = st % 2 ^ 3
      ∧ (s.endRegs n cause code t st).rd (pSq n) SQ_CAUSE_CAUSE = cause % 2 ^ 8
      ∧ (s.endRegs n cause code t st).rd (pSq n) SQ_CAUSE_ALSO = 0
      ∧ (s.endRegs n cause code t st).rd (pSq n) SQ_PC_ADDR = s.rd (pSq n) SQ_PC_ADDR := by
  unfold State.endRegs State.sqState State.wr3
  simp (disch := decide) only [State.rd_wr_apart, State.rd_wr_same, and_true]
  exact ⟨rfl, rfl, rfl⟩

/-- The record of a sequencer whose burst has ended at an instant. -/
def SqOp.ended (o : SqOp) (t : Nat) : SqOp :=
  { o with
    endAt := t, seg := none, atBoundary := false, loops := [], calls := [], acts := [], tsHold := none,
    tsSeg := none, mtch := none, watch := none, watchNext := none, matchNext := none, wait := none, pauseReq := none,
    paused := false, heldPause := false, resumeReq := none, hjump := none, pairTs := none, under := false }

/-- The waiting words have acted at an end, but not at an isolation. -/
def State.endActed (s : State) (n cause t : Nat) : State :=
  if cause = 4 then s else s.doActs n (s.sqo n).vec (s.sqo n).lastTs (s.sqo n).segPc t

theorem State.endActed_rd_pc (s : State) (n cause t : Nat) :
    (s.endActed n cause t).rd (pSq n) SQ_PC_ADDR = s.rd (pSq n) SQ_PC_ADDR := by
  unfold State.endActed
  split
  · rfl
  · exact s.doActs_rd_pc ..

/-- The sequencer itself has recorded the end; the withdrawal, the Hopper's discard, the channels and the messages to
other parts are still to come. -/
def State.endSq (s : State) (n cause code t : Nat) : State :=
  (((s.endActed n cause t).endRegs n cause code t stEnding).wr (pSq n) SQ_CTL_HTRIG 0).modSq n fun o => o.ended t

/-- The state of an end once the Hopper's contents are gone and the channels have left the burst. -/
def State.endPins (s : State) (n cause code t : Nat) : State :=
  let x := (((s.endSq n cause code t).withdraw n).hopDiscard n).count (8 * n + 6)
  if causeAtOnce cause then x.dropEdges n else (x.channelsOf n).foldl (fun s c => s.idleChannel c) x

theorem State.endBurst_eq (s : State) (n cause code t : Nat) : s.endBurst n cause code t =
    (if cause ≠ 1 then (s.endPins n cause code t).spanTell n (.ended cause) t
      else s.endPins n cause code t).tellExcused n true t := rfl

/-- What follows the record of an end changes channels, the clock page, the Hopper, links and counts, but no sequencer. -/
theorem State.endSq_endBurst_keeps (s : State) (n cause code t : Nat) :
    Keeps 1237977965791195821737319058 (s.endSq n cause code t) (s.endBurst n cause code t) := by
  have hdrop : Keeps 1237977965791195821737319058 (s.endSq n cause code t)
      ((((s.endSq n cause code t).withdraw n).hopDiscard n).count (8 * n + 6)) :=
    (((Keeps.refl _ _).step State.withdraw_keeps rfl).step State.hopDiscard_keeps rfl).step State.count_keeps rfl
  have hpins : Keeps 1237977965791195821737319058 (s.endSq n cause code t) (s.endPins n cause code t) :=
    (hdrop.step State.dropEdges_keeps rfl).ite (hdrop.foldl _ _ fun y c hy => hy.step State.idleChannel_keeps rfl)
  rw [State.endBurst_eq]
  exact ((hpins.step State.spanTell_keeps rfl).ite hpins).step State.tellExcused_keeps rfl

theorem State.sqo_congr {s t : State} (h : t.sq = s.sq) (n : Nat) : t.sqo n = s.sqo n := by
  unfold State.sqo
  rw [h]

theorem State.endSq_sqo (s : State) (n cause code t : Nat) :
    (s.endSq n cause code t).sqo n = ((s.endActed n cause t).sqo n).ended t := by
  have hregs : (((s.endActed n cause t).endRegs n cause code t stEnding).wr (pSq n) SQ_CTL_HTRIG 0).sq
      = (s.endActed n cause t).sq := (State.wr_sq ..).trans (State.endRegs_keeps.same .sq rfl)
  rw [State.endSq, State.sqo_modSq_same, State.sqo_congr hregs]

theorem State.endBurst_sqo (s : State) (n cause code t : Nat) :
    (s.endBurst n cause code t).sqo n = ((s.endActed n cause t).sqo n).ended t :=
  (State.sqo_congr ((s.endSq_endBurst_keeps n cause code t).same .sq rfl) n).trans (s.endSq_sqo n cause code t)

/-- Of the sequencer's fields but the host trigger, the end leaves what `endRegs` wrote. -/
theorem State.endBurst_rd_sq (s : State) (n cause code t : Nat) (f : Field)
    (h : f.off * 8 + f.lo ≠ SQ_CTL_HTRIG.off * 8 + SQ_CTL_HTRIG.lo) :
    (s.endBurst n cause code t).rd (pSq n) f = ((s.endActed n cause t).endRegs n cause code t stEnding).rd (pSq n) f := by
  have hsame : (s.endBurst n cause code t).rd (pSq n) f = (s.endSq n cause code t).rd (pSq n) f :=
    (s.endSq_endBurst_keeps n cause code t).same (.regs .sq) rfl n f 0 0
  rw [hsame, State.endSq, State.modSq_rd, State.rd_wr_apart _ _ _ h]

/-- A burst that ends at its next vector start, after a word that SQ_PC shows. -/
theorem BurstEnds.of_endNext {s x : State} {n cause code : Nat} (hc : cause < 2 ^ 8)
    (hnext : (x.sqo n).next = (s.sqo n).next) (hpc : x.rd (pSq n) SQ_PC_ADDR = (s.sqo n).pc % 2 ^ 24) :
    BurstEnds s (x.endNext n cause code) n cause := by
  obtain ⟨hst, hcause, halso, haddr⟩ :=
    (State.endActed (x.advanceTo (x.sqo n).next) n cause (x.sqo n).next).endRegs_rd n cause code (x.sqo n).next stEnding
  unfold State.endNext BurstEnds
  simp only [State.endBurst_sqo, SqOp.ended, hnext, true_and] at *
  refine ⟨?_, ?_, ?_, ?_⟩
  · exact (State.endBurst_rd_sq _ _ _ _ _ _ (by decide)).trans hst
  · exact (State.endBurst_rd_sq _ _ _ _ _ _ (by decide)).trans (hcause.trans (Nat.mod_eq_of_lt hc))
  · exact (State.endBurst_rd_sq _ _ _ _ _ _ (by decide)).trans halso
  · rw [State.endBurst_rd_sq _ _ _ _ _ _ (by decide), haddr, State.endActed_rd_pc, State.advanceTo_rd, hpc]

end Sys2Proof.Machine
end

section
/-! What decoding a word of a vector program leaves (R115, R159, R187, R198, R423): the record of its own sequencer, SQ_PC,
and counts; and the state after a word whose burst goes on or ends. -/

namespace Sys2Proof.Machine

open Reg

/-! ### States that differ as a word makes them differ -/

/-- Beside the record of sequencer n, counts, and register fields whose keys are listed, nothing has changed. -/
def OnlyWord (s t : State) (n : Nat) (ks : List Nat) : Prop :=
  { t with regs := s.regs, sq := s.sq, cnt := s.cnt } = s ∧ (∀ m, m ≠ n → t.sqo m = s.sqo m) ∧ RegsKept s t ks

theorem OnlyWord.refl (s : State) (n : Nat) (ks : List Nat) : OnlyWord s s n ks := ⟨rfl, fun _ _ => rfl, .refl s ks⟩

section

variable {s x : State} {n : Nat} {ks : List Nat}

theorem OnlyWord.wr (h : OnlyWord s x n ks) (p : Page) (f : Field) (v i j : Nat) (hk : fieldKey p f i j ∈ ks) :
    OnlyWord s (x.wr p f v i j) n ks :=
  let ⟨hframe, hsq, hregs⟩ := h
  ⟨hframe, hsq, hregs.wr p f v i j hk⟩

theorem OnlyWord.modSq (h : OnlyWord s x n ks) (f : SqOp → SqOp) : OnlyWord s (x.modSq n f) n ks :=
  let ⟨hframe, hsq, hregs⟩ := h
  ⟨hframe, fun m hm => (State.sqo_modSq_ne x f hm).trans (hsq m hm), hregs⟩

/-- Counting changes of the registers the overflow bits beside the counter's at most. -/
theorem OnlyWord.count (h : OnlyWord s x n ks) (id k : Nat) (hk : fieldKey pCnt CNT_OVF_OVF (id / 32) 0 ∈ ks) :
    OnlyWord s (x.count id k) n ks := by
  obtain ⟨hframe, hsq, hregs⟩ := h
  unfold State.count
  dsimp only
  split
  · exact ⟨hframe, hsq, RegsKept.wr (x := { x with cnt := _ }) hregs _ _ _ _ _ hk⟩
  · exact ⟨hframe, hsq, hregs⟩

end

/-! ### The Granary word that holds a program word -/

/-- A word below the largest vector region that GRAN_CFG can name lies in one of 24 banks, so the counters of its cluster
share a register of overflow bits. -/
theorem State.granBank_lt (s : State) {w : Nat} (h : w < 2 ^ 10 * 2048) : s.granBank w < 24 := by
  unfold State.granBank
  split <;> omega

theorem State.vecRegion_le (s : State) : s.vecRegion ≤ 2 ^ 10 * 2048 :=
  Nat.mul_le_mul_right 2048 (Nat.le_of_lt (s.rd_lt pGran GRAN_CFG_PSIZE 0 0))

theorem State.lt_of_progAccess {s : State} {n a : Nat} (h : s.progAccess n a = .ok) : s.progAddr n a / 4 < 2 ^ 10 * 2048 := by
  refine Nat.lt_of_lt_of_le (Nat.lt_of_not_le fun hle => ?_) s.vecRegion_le
  simp [State.progAccess, State.granAccess, hle] at h

/-- Counting a read of a program word, or the errors corrected in it, changes `CNT_OVF` beside those counters only. -/
theorem State.readCounter_key (s : State) {w c : Nat} (hw : w < 2 ^ 10 * 2048) (hc : c < 4) :
    fieldKey pCnt CNT_OVF_OVF ((0x3C0 + c + 4 * (s.granBank w / 4)) / 32) 0 = fieldKey pCnt CNT_OVF_OVF 30 0 := by
  have := s.granBank_lt hw
  rw [show (0x3C0 + c + 4 * (s.granBank w / 4)) / 32 = 30 by omega]

/-- The keys of the registers that the decoding of a word of site n may change (`WordKeeps`). -/
def wordKeys (n : Nat) : List Nat :=
  [fieldKey (pSq n) SQ_PC_ADDR 0 0, fieldKey pCnt CNT_OVF_OVF ((8 * n + 4) / 32) 0, fieldKey pCnt CNT_OVF_OVF 30 0,
    fieldKey pGran GRAN_CECNT_CNT 0 0]

theorem OnlyWord.granCorrect {s x : State} {n w : Nat} (h : OnlyWord s x n (wordKeys n)) (hw : w < 2 ^ 10 * 2048) :
    OnlyWord s (x.granCorrect (quartersOf w)) n (wordKeys n) := by
  refine List.foldlRecOn (motive := fun y => OnlyWord s y n (wordKeys n)) _ _ h fun y hy q hq => ?_
  have hword : q / 4 = w := by
    have := (List.mem_filter.mp hq).1
    simp only [quartersOf, List.mem_cons, List.not_mem_nil, or_false] at this
    omega
  refine (hy.wr pGran GRAN_CECNT_CNT _ 0 0 (by simp [wordKeys])).count _ _ ?_
  rw [State.readCounter_key (c := 2) _ (hword ▸ hw) (by decide)]
  simp [wordKeys]

theorem OnlyWord.touch {s x : State} {n w : Nat} (h : OnlyWord s x n (wordKeys n)) (hw : w < 2 ^ 10 * 2048) :
    OnlyWord s (x.touch n w) n (wordKeys n) := by
  refine ((h.modSq _).count _ _ ?_).granCorrect hw
  rw [State.readCounter_key (c := 0) _ hw (by decide)]
  simp [wordKeys]

/-! ### The decoding of a word -/

/-- A word is fetched: SQ_PC shows it, its Granary word is read, and the boundary before it is past. -/
def State.wordRead (s : State) (n : Nat) : State :=
  ((s.wr (pSq n) SQ_PC_ADDR (s.sqo n).pc).touch n (s.progAddr n (s.sqo n).pc / 4)).modSq n
    fun o => { o with atBoundary := false, jumped := false }

theorem State.decoded_eq (s : State) (n : Nat) (counted : Bool) :
    s.decoded n counted = if counted then (s.wordRead n).count (8 * n + 4) else s.wordRead n := rfl

theorem State.wordRead_onlyWord {s : State} {n : Nat} (h : s.progAccess n (s.sqo n).pc = .ok) :
    OnlyWord s (s.wordRead n) n (wordKeys n) :=
  (((OnlyWord.refl s n (wordKeys n)).wr (pSq n) SQ_PC_ADDR _ 0 0 (by simp [wordKeys])).touch
    (State.lt_of_progAccess h)).modSq _

theorem State.decoded_onlyWord {s : State} {n : Nat} (counted : Bool) (h : s.progAccess n (s.sqo n).pc = .ok) :
    OnlyWord s (s.decoded n counted) n (wordKeys n) := by
  rw [State.decoded_eq]
  split
  · exact (State.wordRead_onlyWord h).count _ _ (by simp [wordKeys])
  · exact State.wordRead_onlyWord h

theorem State.touch_sqo (s : State) (n w : Nat) :
    (s.touch n w).sqo n = { s.sqo n with clusters := setBit (s.sqo n).clusters (s.granBank w / 4) true } := by
  unfold State.touch
  rw [State.sqo_congr (State.granCorrect_keeps.same .sq rfl), State.sqo_congr (State.count_sq ..), State.sqo_modSq_same]

theorem State.granBank_wr_sq (s : State) (n w : Nat) (f : Field) (v : Nat) :
    (s.wr (pSq n) f v).granBank w = s.granBank w := by
  unfold State.granBank
  rw [State.rd_wr_kind s v (show pageType .gran ≠ pageType .sq by decide)]

theorem State.wordRead_sqo (s : State) (n : Nat) : (s.wordRead n).sqo n = s.decodedSq n := by
  unfold State.wordRead State.decodedSq
  rw [State.sqo_modSq_same, State.touch_sqo, State.sqo_congr (State.wr_sq ..), State.granBank_wr_sq]

@[simp] theorem State.decoded_sqo (s : State) (n : Nat) (counted : Bool) : (s.decoded n counted).sqo n = s.decodedSq n := by
  rw [State.decoded_eq]
  split
  · exact (State.sqo_congr (State.count_sq ..) n).trans (s.wordRead_sqo n)
  · exact s.wordRead_sqo n

theorem State.wordRead_rd_pc (s : State) (n : Nat) : (s.wordRead n).rd (pSq n) SQ_PC_ADDR = (s.sqo n).pc % 2 ^ 24 := by
  unfold State.wordRead
  rw [State.modSq_rd]
  exact (State.touch_keeps.same (.regs .sq) rfl n _ 0 0).trans (State.rd_wr_same ..)

/-- SQ_PC shows the word that was decoded (R159; assumption log entry 32). -/
theorem State.decoded_rd_pc (s : State) (n : Nat) (counted : Bool) :
    (s.decoded n counted).rd (pSq n) SQ_PC_ADDR = (s.sqo n).pc % 2 ^ 24 := by
  rw [State.decoded_eq]
  split
  · exact (State.count_rd _ _ _ _ _ _ (show PKind.sq ≠ .cnt by decide)).trans (s.wordRead_rd_pc n)
  · exact s.wordRead_rd_pc n

/-! ### The words themselves -/

theorem State.access_of_wordAt {s : State} {n op w : Nat} (h : s.wordAt n op = some w) : s.progAccess n (s.sqo n).pc = .ok := by
  unfold State.wordAt at h
  dsimp only at h
  split at h
  · next hc =>
    simp only [Bool.and_eq_true, decide_eq_true_eq] at hc
    obtain ⟨⟨-, hok⟩, -⟩ := hc
    exact hok
  · cases h

/-- A word other than SEG acts on the state that its decoding left. -/
theorem State.word_act {s : State} {n op w : Nat} {act : State → Nat → State} (h : s.wordAt n op = some w)
    (hs : (s.sqo n).mustSeg = false) : s.word n op act = act (s.decoded n true) w := by
  unfold State.word
  rw [h]
  exact if_neg (Bool.eq_false_iff.mp hs)

/-- A word that only gives its sequencer another record. -/
theorem wordKeeps_modSq {s : State} {n op w : Nat} (counted : Bool) (h : s.wordAt n op = some w) (f : SqOp → SqOp) :
    WordKeeps s ((s.decoded n counted).modSq n f) n
      ∧ ((s.decoded n counted).modSq n f).sqo n = f (s.decodedSq n) := by
  obtain ⟨hframe, hsq, hregs⟩ := (State.decoded_onlyWord counted (State.access_of_wordAt h)).modSq f
  exact ⟨⟨hframe, hsq, s.decoded_rd_pc n counted, hregs⟩, by rw [State.sqo_modSq_same, State.decoded_sqo]⟩

/-- A control-flow word that goes on gives its sequencer the record that it says. -/
theorem wordKeeps_ctl {s : State} {n op w : Nat} (counted : Bool) (h : s.wordAt n op = some w) {c : Ctl} {o : SqOp}
    (hc : c = .go o) : WordKeeps s ((s.decoded n counted).ctl n c) n ∧ ((s.decoded n counted).ctl n c).sqo n = o :=
  hc ▸ wordKeeps_modSq counted h fun _ => o

/-- A control-flow word that stops ends the burst with its cause. -/
theorem burstEnds_ctl {s : State} {n : Nat} (counted : Bool) {c : Ctl} {cause : Nat} (hc : c = .stop cause)
    (hlt : cause < 2 ^ 8) : BurstEnds s ((s.decoded n counted).ctl n c) n cause :=
  hc ▸ .of_endNext hlt (by rw [State.decoded_sqo]; rfl) (s.decoded_rd_pc n counted)

end Sys2Proof.Machine
end

section
/-! The control-flow words (R119 to R127): what SEG, LOOP, ENDL, CALL, RET and JMP make of their sequencer's record, and
how each ends the burst. -/

namespace Sys2Proof.Machine

open Reg

/-! ### What the stack operations lead to -/

theorem ctlLoop_of_count_zero {o : SqOp} {w : Nat} (h : bitsAt w 0 32 = 0) :
    ctlLoop o w = .go { o with pc := bitsAt w 32 24 + 1 } := if_pos h

theorem ctlLoop_of_full {o : SqOp} {w : Nat} (h : bitsAt w 0 32 ≠ 0) (hl : 8 ≤ o.loops.length) :
    ctlLoop o w = .stop 0x0C := (if_neg h).trans (if_pos hl)

theorem ctlLoop_of_room {o : SqOp} {w : Nat} (h : bitsAt w 0 32 ≠ 0) (hl : o.loops.length < 8) :
    ctlLoop o w = .go { o with
      loops := ⟨o.pc + 1, bitsAt w 32 24, bitsAt w 0 32, o.calls.length⟩ :: o.loops, pc := o.pc + 1 } :=
  (if_neg h).trans (if_neg (Nat.not_le.mpr hl))

section

variable {o : SqOp} {e : LoopEntry} {es : List LoopEntry} (hl : o.loops = e :: es)

include hl

theorem ctlEndl_of_passes_left (he : e.enda = o.pc) (hc : 1 < e.count) :
    ctlEndl o = .go { o with loops := { e with count := e.count - 1 } :: es, pc := e.body } := by
  simp [ctlEndl, hl, he, Nat.not_le.mpr hc]

theorem ctlEndl_of_last_pass (he : e.enda = o.pc) (hc : e.count ≤ 1) :
    ctlEndl o = .go { o with loops := es, pc := o.pc + 1 } := by
  simp [ctlEndl, hl, he, hc]

end

theorem ctlEndl_of_no_loop_here {o : SqOp} (h : ∀ e es, o.loops = e :: es → e.enda ≠ o.pc) : ctlEndl o = .stop 0x0C := by
  unfold ctlEndl
  split
  · rfl
  · next e es hl => exact if_pos (h e es hl)

theorem ctlCall_of_full {o : SqOp} (w : Nat) (h : 16 ≤ o.calls.length) : ctlCall o w = .stop 0x0B := if_pos h

theorem ctlCall_of_room {o : SqOp} (w : Nat) (h : o.calls.length < 16) :
    ctlCall o w = .go { o with calls := (o.pc + 1) :: o.calls, pc := bitsAt w 0 24 } := if_neg (Nat.not_le.mpr h)

theorem ctlRet_of_no_call {o : SqOp} (h : o.calls = []) : ctlRet o = .stop 0x0B := by simp [ctlRet, h]

theorem ctlRet_of_loop_inside {o : SqOp} (hc : o.calls ≠ []) (h : ∃ e ∈ o.loops, o.calls.length ≤ e.depth) :
    ctlRet o = .stop 0x0C := by
  unfold ctlRet
  split
  · contradiction
  · exact if_pos (List.any_eq_true.mpr (by simpa using h))

theorem ctlRet_of_call {o : SqOp} {a : Nat} {as : List Nat} (hc : o.calls = a :: as)
    (h : ∀ e ∈ o.loops, e.depth < o.calls.length) : ctlRet o = .go { o with calls := as, pc := a } := by
  unfold ctlRet
  split
  · next hn => cases hn.symm.trans hc
  · next b bs hb =>
    obtain ⟨rfl, rfl⟩ := List.cons.inj (hb.symm.trans hc)
    exact if_neg (by simpa using h)

/-! ### The beginning of a segment -/

theorem SqOp.nothing_waits {o : SqOp} (h : o.mustSeg = false) : o.watchNext = none ∧ o.matchNext = none := by
  simpa [SqOp.mustSeg] using h

/-- The record of a sequencer that begins a segment which is no MATCH body. -/
def SqOp.beginSeg (o : SqOp) (g : Seg) : SqOp :=
  { o with
    seg := some g, segPc := o.pc, pc := o.pc + 1, inst := o.inst + 1, watch := o.watchNext, watchNext := none,
    mtch := none, matchNext := none, passRes := [] }

/-- Where no word waits for its segment, the segment begins without a watch. -/
theorem SqOp.beginSeg_of_nothing_waits {o : SqOp} (g : Seg) (h : o.mustSeg = false) : o.beginSeg g = { o with
    seg := some g, segPc := o.pc, pc := o.pc + 1, inst := o.inst + 1, watch := none, mtch := none, passRes := [] } := by
  obtain ⟨hw, hm⟩ := SqOp.nothing_waits h
  unfold SqOp.beginSeg
  rw [hw, hm]

/-! ### The commands on the state that the decoding leaves -/

section

variable {n : Fin 32} {w : Nat} {s : State}

/-- A resident SEG gives its sequencer the record of the segment and does nothing else (R121). -/
theorem exec_segWord (h : s.wordAt n 0x01 = some w) (hs : (s.sqo n).mustSeg = false) (hg : (segOf w).strm = false) :
    exec (.segWord n) s = .next ((s.decoded n true).modSq n fun o => o.beginSeg (segOf w)) := by
  obtain ⟨-, hm⟩ := SqOp.nothing_waits hs
  have hact : s.segWord n w = (s.decoded n true).modSq n fun o => o.beginSeg (segOf w) := by
    simp [State.segWord, hg, hm, SqOp.beginSeg]
  rw [← hact, show exec (.segWord n) s = execSegWord n s from rfl, execSegWord, h]

theorem exec_loopWord (h : s.wordAt n 0x02 = some w) (hs : (s.sqo n).mustSeg = false) :
    exec (.loopWord n) s = .next ((s.decoded n true).ctl n (ctlLoop (s.decodedSq n) w)) := by
  rw [← s.decoded_sqo n true]
  exact congrArg Host.Outcome.next (State.word_act h hs)

/-- A taken ENDL is not counted, the others are (R123). -/
theorem exec_endlWord (h : s.wordAt n 0x03 = some w) (hs : (s.sqo n).mustSeg = false) :
    exec (.endlWord n) s = .next ((s.decoded n (!endlTaken (s.sqo n))).ctl n (ctlEndl (s.decodedSq n))) := by
  have hact : s.endlWord n = (s.decoded n (!endlTaken (s.sqo n))).ctl n (ctlEndl (s.decodedSq n)) := by
    simp [State.endlWord, hs]
  rw [← hact, show exec (.endlWord n) s = execEndlWord n s from rfl, execEndlWord, h]

theorem exec_callWord (h : s.wordAt n 0x04 = some w) (hs : (s.sqo n).mustSeg = false) :
    exec (.callWord n) s = .next ((s.decoded n true).ctl n (ctlCall (s.decodedSq n) w)) := by
  rw [← s.decoded_sqo n true]
  exact congrArg Host.Outcome.next (State.word_act h hs)

theorem exec_retWord (h : s.wordAt n 0x05 = some w) (hs : (s.sqo n).mustSeg = false) :
    exec (.retWord n) s = .next ((s.decoded n true).ctl n (ctlRet (s.decodedSq n))) := by
  rw [← s.decoded_sqo n true]
  exact congrArg Host.Outcome.next (State.word_act h hs)

theorem exec_jmpWord (h : s.wordAt n 0x06 = some w) (hs : (s.sqo n).mustSeg = false) :
    exec (.jmpWord n) s = .next ((s.decoded n true).modSq n fun o => ctlJump o (bitsAt w 0 24)) :=
  congrArg Host.Outcome.next (State.word_act h hs)

end

/-! ### The statements -/

/-- Settles O23: each word is its stack operation on the record that the decoding left, so its clauses are the cases of
`ctlLoop` and `ctlEndl`, and SEG's is the record of the new segment. -/
theorem segmentAndLoopWords : Obligations.SegmentAndLoopWords := by
  intro n w s hs
  refine ⟨fun h hg => ?seg, fun h => ⟨fun h0 => ?skip, fun h0 hl => ?opens, fun h0 hl => ?full⟩,
    fun h => ⟨fun e es hl he => ⟨fun hc => ?again, fun hc => ?last⟩, fun hno => ?nowhere⟩⟩
  case seg =>
    obtain ⟨hkeep, hrec⟩ := wordKeeps_modSq true h fun o => o.beginSeg (segOf w)
    exact ⟨_, exec_segWord h hs hg, hkeep, rfl, rfl, rfl, hrec.trans (SqOp.beginSeg_of_nothing_waits _ hs)⟩
  case skip => exact ⟨_, exec_loopWord h hs, wordKeeps_ctl true h (ctlLoop_of_count_zero h0)⟩
  case opens => exact ⟨_, exec_loopWord h hs, wordKeeps_ctl true h (ctlLoop_of_room h0 hl)⟩
  case full => exact ⟨_, exec_loopWord h hs, burstEnds_ctl true (ctlLoop_of_full h0 hl) (by decide)⟩
  case again => exact ⟨_, exec_endlWord h hs, wordKeeps_ctl _ h (ctlEndl_of_passes_left hl he hc)⟩
  case last => exact ⟨_, exec_endlWord h hs, wordKeeps_ctl _ h (ctlEndl_of_last_pass hl he hc)⟩
  case nowhere => exact ⟨_, exec_endlWord h hs, burstEnds_ctl _ (ctlEndl_of_no_loop_here hno) (by decide)⟩

/-- Settles O24: CALL and RET are the cases of `ctlCall` and `ctlRet` on the record that the decoding left, and JMP is
`ctlJump` on it. -/
theorem callReturnAndJumpWords : Obligations.CallReturnAndJumpWords := by
  intro n w s hs
  refine ⟨fun h => ⟨fun hl => ?call, fun hl => ?callFull⟩,
    fun h => ⟨fun a as hc hl => ?ret, fun hc => ?retEmpty, fun hc hl => ?retInLoop⟩, fun h => ?jmp⟩
  case call => exact ⟨_, exec_callWord h hs, wordKeeps_ctl true h (ctlCall_of_room w hl)⟩
  case callFull => exact ⟨_, exec_callWord h hs, burstEnds_ctl true (ctlCall_of_full w hl) (by decide)⟩
  case ret => exact ⟨_, exec_retWord h hs, wordKeeps_ctl true h (ctlRet_of_call hc hl)⟩
  case retEmpty => exact ⟨_, exec_retWord h hs, burstEnds_ctl true (ctlRet_of_no_call hc) (by decide)⟩
  case retInLoop => exact ⟨_, exec_retWord h hs, burstEnds_ctl true (ctlRet_of_loop_inside hc hl) (by decide)⟩
  case jmp => exact ⟨_, exec_jmpWord h hs, wordKeeps_modSq true h fun o => ctlJump o (bitsAt w 0 24)⟩

end Sys2Proof.Machine
end

section
/-! The accesses of the CNT page (R423, R429 to R433): the sticky bits of its OVF and COLL words, what accruing and writing
leave of a counter, the register CNT_H, and that CLRALL clears the page's counters. -/

namespace Sys2Proof.Machine

open Reg

/-! ### Bits of a number -/

theorem bitAt_eq_testBit (v k : Nat) : bitAt v k = v.testBit k := Nat.testBit_eq_decide_div_mod_eq.symm

theorem testBit_add_two_pow {v k : Nat} (h : v.testBit k = false) (j : Nat) :
    (v + 2 ^ k).testBit j = (v.testBit j || decide (j = k)) := by
  induction k generalizing v j with
  | zero =>
    have hv : v % 2 = 0 := by simpa using h
    cases j with
    | zero => simp only [Nat.testBit_zero, decide_true, Bool.or_true, decide_eq_true_eq]; omega
    | succ j => simp [Nat.testBit_succ, show (v + 1) / 2 = v / 2 by omega]
  | succ k ih =>
    cases j with
    | zero => simp [Nat.pow_succ]
    | succ j =>
      have hdiv : (v + 2 ^ (k + 1)) / 2 = v / 2 + 2 ^ k := by omega
      rw [Nat.testBit_succ] at h
      simp [Nat.testBit_succ, hdiv, ih h]

theorem bitAt_setBit_true (v k j : Nat) : bitAt (setBit v k true) j = (bitAt v j || decide (j = k)) := by
  unfold setBit
  split
  · next h =>
    by_cases hj : j = k
    · simp [hj, h]
    · simp [hj]
  · next h =>
    simp only [if_true, bitAt_eq_testBit] at h ⊢
    exact testBit_add_two_pow (by simpa using h) j

/-- Bit `k` of a field set: a read shows it, and the other bits as they were. -/
theorem State.bitAt_rd_wrBit (s : State) (p : Page) (f : Field) (i j : Nat) {k b : Nat} (hb : b < f.width) :
    bitAt ((s.wrBit p f k true i j).rd p f i j) b = (bitAt (s.rd p f i j) b || decide (b = k)) := by
  rw [State.wrBit, State.rd_wr_same, ← bitAt_setBit_true, bitAt_eq_testBit, bitAt_eq_testBit, Nat.testBit_mod_two_pow]
  simp [hb]

/-! ### The OVF and COLL words -/

/-- The words of COLL and of OVF of the page's counters lie apart. -/
theorem State.rd_coll_wrBit_ovf (s : State) (i k : Nat) (b : Bool) {id : Nat} (hid : id < 0x400) :
    (s.wrBit pCnt CNT_OVF_OVF k b (id / 32)).rd pCnt CNT_COLL_COLL i = s.rd pCnt CNT_COLL_COLL i := by
  refine s.rd_wr_ne _ ?_
  simp only [fieldKey, CNT_COLL_COLL, CNT_OVF_OVF]
  omega

theorem State.rd_coll_wrBit_coll_ne (s : State) (k : Nat) (b : Bool) {i m : Nat} (h : i ≠ m) :
    (s.wrBit pCnt CNT_COLL_COLL k b m).rd pCnt CNT_COLL_COLL i = s.rd pCnt CNT_COLL_COLL i := by
  refine s.rd_wr_ne _ ?_
  simp only [fieldKey, CNT_COLL_COLL]
  omega

/-- The COLL bit of a counter set: that bit of its word is 1, and every other bit of the array is as it was. -/
theorem State.bitAt_rd_coll_wrBit (s : State) (id i : Nat) {b : Nat} (hb : b < 32) :
    bitAt ((s.wrBit pCnt CNT_COLL_COLL (id % 32) true (id / 32)).rd pCnt CNT_COLL_COLL i) b
      = (bitAt (s.rd pCnt CNT_COLL_COLL i) b || decide (id = 32 * i + b)) := by
  by_cases hi : i = id / 32
  · subst hi
    rw [s.bitAt_rd_wrBit pCnt CNT_COLL_COLL _ _ hb]
    congr 2
    exact propext ⟨fun h => by omega, fun h => by omega⟩
  · rw [s.rd_coll_wrBit_coll_ne _ _ hi, decide_eq_false (by omega), Bool.or_false]

/-! ### Accruing -/

theorem State.count_heldLow (s : State) (id n : Nat) : (s.count id n).cnt.heldLow = s.cnt.heldLow := by
  unfold State.count
  dsimp only
  split <;> rfl

theorem State.count_rd_coll (s : State) {id : Nat} (n i : Nat) (hid : id < 0x400) :
    (s.count id n).rd pCnt CNT_COLL_COLL i = s.rd pCnt CNT_COLL_COLL i := by
  unfold State.count
  dsimp only
  split
  · exact State.rd_coll_wrBit_ovf _ _ _ _ hid
  · rfl

theorem State.accrue_of_inside (s : State) {id : Nat} (h : countsOutside id = false) : s.accrue id = s := by
  simp [State.accrue, h]

theorem State.accrue_of_outside {s : State} {id : Nat} (h : countsOutside id = true) (hon : s.counterOn id = true) :
    s.accrue id = s.draw.2.count id (s.draw.1 % 2 ^ 48) := by
  simp [State.accrue, h, hon]

/-- What accruing keeps: every other counter, the held low halves, and COLL. -/
theorem State.accrue_keeps_rest (s : State) {id : Nat} (hid : id < 0x400) :
    (∀ k, k ≠ id → (s.accrue id).counter k = s.counter k) ∧ (s.accrue id).cnt.heldLow = s.cnt.heldLow
      ∧ ∀ i, (s.accrue id).rd pCnt CNT_COLL_COLL i = s.rd pCnt CNT_COLL_COLL i := by
  unfold State.accrue
  split
  · exact ⟨fun k hk => State.count_counter_ne _ _ hk, State.count_heldLow _ _ _, fun i => State.count_rd_coll _ _ _ hid⟩
  · exact ⟨fun _ _ => rfl, rfl, fun _ => rfl⟩

theorem State.accrue_counter (s : State) {id : Nat} (h : countsOutside id = true) (hon : s.counterOn id = true) :
    (s.accrue id).counter id = (s.counter id + Config.freeValue s.free) % 2 ^ 48 := by
  rw [State.accrue_of_outside h hon, State.count_counter]
  exact Nat.add_mod_mod _ _ _

theorem State.cntLowRead_ready {s : State} (id : Nat) (h : s.pageState pCnt = 4) : s.cntLowRead id = { s.accrue id with
    rdata := (s.accrue id).counter id % 2 ^ 32,
    cnt := { (s.accrue id).cnt with
      readShadow := tabInsert (s.accrue id).cnt.readShadow id ((s.accrue id).counter id / 2 ^ 32) } } := by
  simp [State.cntLowRead, h]

/-! ### Writing a counter -/

theorem State.putCounter_cnt (s : State) (id v events : Nat) :
    (s.putCounter id v events).cnt = { s.cnt with vals := tabPut 0 s.cnt.vals id (v % 2 ^ 48) } := by
  unfold State.putCounter
  dsimp only
  split <;> split <;> rfl

theorem State.putCounter_counter_same (s : State) (id v events : Nat) :
    (s.putCounter id v events).counter id = v % 2 ^ 48 := by
  simp [State.counter, State.putCounter_cnt]

theorem State.putCounter_counter_ne (s : State) {id k : Nat} (v events : Nat) (h : k ≠ id) :
    (s.putCounter id v events).counter k = s.counter k := by
  simp only [State.counter, State.putCounter_cnt]
  exact tabGet_tabPut_ne _ _ _ _ h

/-- A write sets the COLL bit of its counter where the counter had an event (R432), and no other. -/
theorem State.putCounter_coll (s : State) {id : Nat} (v events i : Nat) {b : Nat} (hid : id < 0x400) (hb : b < 32) :
    bitAt ((s.putCounter id v events).rd pCnt CNT_COLL_COLL i) b
      = (bitAt (s.rd pCnt CNT_COLL_COLL i) b || (decide (events ≠ 0) && decide (id = 32 * i + b))) := by
  have hcoll : (s.putCounter id v events).rd pCnt CNT_COLL_COLL i
      = (if events = 0 then s else s.wrBit pCnt CNT_COLL_COLL (id % 32) true (id / 32)).rd pCnt CNT_COLL_COLL i := by
    unfold State.putCounter
    dsimp only
    split
    · rw [State.rd_coll_wrBit_ovf _ _ _ _ hid]
      split <;> rfl
    · split <;> rfl
  rw [hcoll]
  by_cases he : events = 0
  · simp [he]
  · simp [he, s.bitAt_rd_coll_wrBit id i hb]

/-- The state in which a write of CNT_H writes its counter: the low half is the held one where there is one, else the
counter's own as it has accrued (R429). -/
def State.highWriteBase (s : State) (id : Nat) : State :=
  let s0 := if (tabFind s.cnt.heldLow id).isSome then s else s.accrue id
  { s0 with cnt := { s0.cnt with heldLow := tabErase s0.cnt.heldLow id } }

/-- The low half that a write of CNT_H writes. -/
def State.lowToWrite (s : State) (id : Nat) : Nat :=
  (tabFind s.cnt.heldLow id).getD ((s.highWriteBase id).counter id % 2 ^ 32)

/-- What a write of CNT_H finds beside its own counter: the other counters and their held halves, and COLL, as they were. -/
theorem State.highWriteBase_keeps_rest (s : State) {id : Nat} (hid : id < 0x400) :
    (∀ k, k ≠ id → (s.highWriteBase id).counter k = s.counter k)
      ∧ (s.highWriteBase id).cnt.heldLow = tabErase s.cnt.heldLow id
      ∧ ∀ i, (s.highWriteBase id).rd pCnt CNT_COLL_COLL i = s.rd pCnt CNT_COLL_COLL i := by
  obtain ⟨hcounters, hheld, hcoll⟩ := s.accrue_keeps_rest hid
  unfold State.highWriteBase
  dsimp only
  split
  · exact ⟨fun _ _ => rfl, rfl, fun _ => rfl⟩
  · exact ⟨hcounters, congrArg (tabErase · id) hheld, hcoll⟩

section

variable {s : State} {r : Requester} {id : Nat}

theorem State.counterWrite_refused (ha : s.admits r pCnt false = false) (id : Nat) (hi : Bool) (word events : Nat) :
    s.counterWrite r id hi word events = s.werr pCnt := by
  simp [State.counterWrite, ha]

/-- A reserved id and a counter whose island is off ignore the write (R423, R424). -/
theorem State.counterWrite_absent (ha : s.admits r pCnt false = true)
    (hout : cntWritable id = false ∨ s.counterOn id = false) (hi : Bool) (word events : Nat) :
    s.counterWrite r id hi word events = s := by
  rcases hout with h | h <;> simp [State.counterWrite, ha, h]

theorem State.counterWrite_low (ha : s.admits r pCnt false = true) (hw : cntWritable id = true)
    (hon : s.counterOn id = true) (word events : Nat) : s.counterWrite r id false word events
      = { s with cnt := { s.cnt with heldLow := tabInsert s.cnt.heldLow id (word % 2 ^ 32) } } := by
  simp [State.counterWrite, ha, hw, hon]

theorem State.counterWrite_high (ha : s.admits r pCnt false = true) (hw : cntWritable id = true)
    (hon : s.counterOn id = true) (word events : Nat) : s.counterWrite r id true word events
      = (s.highWriteBase id).putCounter id (word % 65536 * 2 ^ 32 + s.lowToWrite id) events := by
  simp only [State.counterWrite, ha, hw, hon, Bool.not_true, Bool.or_self, Bool.false_eq_true, if_false]
  rfl

/-- A write of CNT_H uses the held low half up, writes its own counter alone, and sets COLL for an event of the cycle. -/
theorem State.counterWrite_high_rest (ha : s.admits r pCnt false = true) (hw : cntWritable id = true)
    (hon : s.counterOn id = true) (hid : id < 0x400) (word events : Nat) :
    let t := s.counterWrite r id true word events
    (∀ k, k ≠ id → t.counter k = s.counter k) ∧ t.cnt.heldLow = tabErase s.cnt.heldLow id
      ∧ ∀ i b, b < 32 → bitAt (t.rd pCnt CNT_COLL_COLL i) b
        = (bitAt (s.rd pCnt CNT_COLL_COLL i) b || (decide (events ≠ 0) && decide (id = 32 * i + b))) := by
  obtain ⟨hcounters, hheld, hcoll⟩ := s.highWriteBase_keeps_rest hid
  intro t
  have ht : t = (s.highWriteBase id).putCounter id (word % 65536 * 2 ^ 32 + s.lowToWrite id) events :=
    State.counterWrite_high ha hw hon word events
  rw [ht]
  refine ⟨fun k hk => ?_, ?_, fun i b hb => ?_⟩
  · rw [State.putCounter_counter_ne _ _ _ hk, hcounters k hk]
  · rw [State.putCounter_cnt, ← hheld]
  · rw [State.putCounter_coll _ _ _ _ hid hb, hcoll]

/-- A held low half is written with the word's high half. -/
theorem State.counterWrite_high_held {low : Nat} (ha : s.admits r pCnt false = true) (hw : cntWritable id = true)
    (hon : s.counterOn id = true) (hh : tabFind s.cnt.heldLow id = some low) (hlow : low < 2 ^ 32) (word events : Nat) :
    (s.counterWrite r id true word events).counter id = word % 2 ^ 16 * 2 ^ 32 + low := by
  rw [State.counterWrite_high ha hw hon, State.putCounter_counter_same, State.lowToWrite, hh, Option.getD_some]
  omega

/-- With no held low half the counter keeps its own. -/
theorem State.counterWrite_high_alone (ha : s.admits r pCnt false = true) (hw : cntWritable id = true)
    (hon : s.counterOn id = true) (hh : tabFind s.cnt.heldLow id = none) (word events : Nat) :
    (s.counterWrite r id true word events).counter id = word % 2 ^ 16 * 2 ^ 32 + (s.accrue id).counter id % 2 ^ 32 := by
  have hown : s.lowToWrite id = (s.accrue id).counter id % 2 ^ 32 := by
    simp [State.lowToWrite, State.highWriteBase, State.counter, hh]
  rw [State.counterWrite_high ha hw hon, State.putCounter_counter_same, hown]
  omega

end

/-! ### Clearing the page -/

/-- The counters that a CLRALL meets in a cycle of theirs: each takes the write of 0 with its event. -/
def State.clearMet (s : State) (coll : List (Fin 1024)) : State :=
  coll.foldl (fun s id => if counterValid id.val then s.putCounter id.val 0 1 else s) s

theorem State.clearMet_counter (coll : List (Fin 1024)) (s : State) {k : Nat} (hk : 0x400 ≤ k) :
    (s.clearMet coll).counter k = s.counter k := by
  induction coll generalizing s with
  | nil => rfl
  | cons id ids ih =>
    refine (ih _).trans ?_
    dsimp only
    split
    · exact s.putCounter_counter_ne _ _ (by omega)
    · rfl

theorem State.clearMet_coll (coll : List (Fin 1024)) (s : State) (i : Nat) {b : Nat} (hb : b < 32) :
    bitAt ((s.clearMet coll).rd pCnt CNT_COLL_COLL i) b = (bitAt (s.rd pCnt CNT_COLL_COLL i) b
      || coll.any fun id => counterValid id && decide (id.val = 32 * i + b)) := by
  induction coll generalizing s with
  | nil => simp [State.clearMet]
  | cons id ids ih =>
    refine (ih _).trans ?_
    rw [List.any_cons, ← Bool.or_assoc]
    congr 1
    dsimp only
    split
    · next hv => simp [s.putCounter_coll 0 1 i id.isLt hb, hv]
    · next hv => simp [hv]

theorem tabFind_tabDrop {α : Type} (m : Tab α) (p : Nat → Bool) (k : Nat) :
    tabFind (tabDrop m p) k = if p k then none else tabFind m k := by
  split
  · next h =>
    induction m with
    | nil => rfl
    | cons e t ih =>
      obtain ⟨a, v⟩ := e
      by_cases ha : p a = true
      · simpa [tabDrop, ha] using ih
      · have hne : a ≠ k := fun hk => ha (hk ▸ h)
        simpa [tabDrop, ha, tabFind, hne] using ih
  · next h => exact tabFind_filter _ _ _ fun _ => by simpa using h

theorem State.clearAll_counter (s : State) (coll : List (Fin 1024)) (k : Nat) :
    (s.clearAll coll).counter k = if k < 0x400 then 0 else s.counter k := by
  have hdrop : (s.clearAll coll).counter k
      = tabGet 0 (tabDrop (s.clearMet coll).cnt.vals fun id => decide (id < 0x400)) k := rfl
  rw [hdrop, tabGet, tabFind_tabDrop]
  split
  · next h => simp [of_decide_eq_true h]
  · next h =>
    have hk : ¬ k < 0x400 := by simpa using h
    rw [if_neg hk]
    exact State.clearMet_counter coll s (by omega)

theorem State.clearAll_coll (coll : List (Fin 1024)) (s : State) (i : Nat) {b : Nat} (hb : b < 32) :
    bitAt ((s.clearAll coll).rd pCnt CNT_COLL_COLL i) b = (bitAt (s.rd pCnt CNT_COLL_COLL i) b
      || coll.any fun id => counterValid id && decide (id.val = 32 * i + b)) :=
  State.clearMet_coll coll s i hb

/-- Writing USER leaves every field of the page above CNT_CTL. -/
theorem State.rd_wr_user (s : State) (v : Nat) {f : Field} (hf : CNT_CTL_USER.off < f.off) (i : Nat) :
    (s.wr pCnt CNT_CTL_USER v).rd pCnt f i = s.rd pCnt f i := by
  refine s.rd_wr_ne _ ?_
  rw [show CNT_CTL_USER.off = 0x40 from rfl] at hf
  simp only [fieldKey, CNT_CTL_USER]
  omega

theorem State.writeWith_of_acts {s : State} {r : Requester} {p : Page} {off word : Nat} (h : WriteActs s r p off word)
    (act : State → State) :
    s.writeWith r p off word act = act ((s.writeFields p (fieldsAt p.kind off) word).pagePairs p) := by
  obtain ⟨hadm, hres⟩ := h
  simp [State.writeWith, hadm, hres]

/-- The word of a CLRALL writes USER as it is, and clears the counters; it demands no snapshot. -/
theorem exec_counterClearAll {s : State} {r : Requester} (coll : List (Fin 1024))
    (h : WriteActs s r pCnt 0x40 (4 + s.rd pCnt CNT_CTL_USER)) : exec (.counterClearAll r coll) s
      = .next ((s.wr pCnt CNT_CTL_USER (s.rd pCnt CNT_CTL_USER)).clearAll coll) := by
  have huser : s.rd pCnt CNT_CTL_USER < 2 := State.rd_lt s pCnt CNT_CTL_USER 0 0
  have hval : bitsAt (4 + s.rd pCnt CNT_CTL_USER) 0 1 / 2 ^ 0 * 2 ^ 0 = s.rd pCnt CNT_CTL_USER := by
    unfold bitsAt
    omega
  have hfields : s.writeFields pCnt (fieldsAt .cnt 0x40) (4 + s.rd pCnt CNT_CTL_USER)
      = s.wr pCnt CNT_CTL_USER (s.rd pCnt CNT_CTL_USER) := congrArg (s.wr pCnt CNT_CTL_USER) hval
  have hsnap : bitAt (4 + s.rd pCnt CNT_CTL_USER) 1 = false := decide_eq_false (by omega)
  have hclr : bitAt (4 + s.rd pCnt CNT_CTL_USER) 2 = true := decide_eq_true (by omega)
  calc exec (.counterClearAll r coll) s
      = .next (s.cntCtlWrite r (4 + s.rd pCnt CNT_CTL_USER) coll) := rfl
    _ = .next ((s.writeFields pCnt (fieldsAt .cnt 0x40) (4 + s.rd pCnt CNT_CTL_USER)).clearAll coll) := by
        rw [State.cntCtlWrite, State.writeWith_of_acts h, hsnap, hclr]
        rfl
    _ = _ := by rw [hfields]

/-! ### The register CNT_H -/

/-- No element of a field lies below its first or above its last. -/
theorem fieldElem_eq_none {f : Field} {off : Nat}
    (h : off < f.off ∨ f.off + (f.n1 - 1) * f.s1 + (f.n2 - 1) * f.s2 < off) : fieldElem f off = none := by
  cases hf : fieldElem f off with
  | none => rfl
  | some e =>
    obtain ⟨hi, hj, hoff⟩ := fieldElem_off hf
    have h1 : e.1 * f.s1 ≤ (f.n1 - 1) * f.s1 := Nat.mul_le_mul_right _ (by omega)
    have h2 : e.2 * f.s2 ≤ (f.n2 - 1) * f.s2 := Nat.mul_le_mul_right _ (by omega)
    omega

/-- CNT_H is a register of its own (R439). -/
theorem fieldsAt_cntH {id : Nat} (hid : id < 0x400) : fieldsAt .cnt (0x1004 + 8 * id) = [⟨CNT_H_VAL, id, 0⟩] := by
  have hapart : ∀ f ∈ cntFields.take 24 ++ cntFields.drop 26,
      f.off + (f.n1 - 1) * f.s1 + (f.n2 - 1) * f.s2 < 0x1004 ∨ 0x3004 ≤ f.off := by decide
  have hrest : ∀ fs ⊆ cntFields.take 24 ++ cntFields.drop 26, (fs.filterMap fun f =>
      (fieldElem f (0x1004 + 8 * id)).map fun (i, j) => (⟨f, i, j⟩ : FieldAt)) = [] := by
    intro fs hfs
    refine List.filterMap_eq_nil_iff.mpr fun f hf => ?_
    rw [fieldElem_eq_none (by have := hapart f (hfs hf); omega), Option.map_none]
  have hlow : fieldElem CNT_L_VAL (0x1004 + 8 * id) = none := by
    have hodd : ¬ (0x1004 + 8 * id - 0x1000) % 8 = 0 := by omega
    simp [fieldElem, CNT_L_VAL, hodd]
  have hhigh : fieldElem CNT_H_VAL (0x1004 + 8 * id) = some (id, 0) := by
    simp [fieldElem, CNT_H_VAL, hid]
  have hsplit : cntFields = cntFields.take 24 ++ ([CNT_L_VAL, CNT_H_VAL] ++ cntFields.drop 26) := rfl
  rw [fieldsAt, if_neg (by omega), blockFields, hsplit, List.filterMap_append, List.filterMap_append,
    hrest _ (List.subset_append_left _ _), hrest _ (List.subset_append_right _ _)]
  simp [hlow, hhigh]

/-- No page before CNT in the index reaches its offsets (R596). -/
theorem pageOf_cnt {off : Nat} (h : off < 0x10000) : pageOf (pageBase pCnt + off) = some pCnt := by
  have hbefore : ∀ k ∈ allKinds.take 10, kindBase k + pageCount k * pageSize k ≤ 0xB0000 := by decide
  refine List.findSome?_eq_some_iff.mpr ⟨allKinds.take 10, .cnt, allKinds.drop 11, rfl, ?_, fun k hk => ?_⟩
  · show (if 0xB0000 ≤ 0xB0000 + off ∧ 0xB0000 + off < 0xB0000 + 0x10000 then
      some (⟨.cnt, (0xB0000 + off - 0xB0000) / 0x10000⟩ : Page) else none) = some pCnt
    rw [if_pos (by omega), show (0xB0000 + off - 0xB0000) / 0x10000 = 0 by omega]
    rfl
  · have := hbefore k hk
    have hbase : pageBase pCnt = 0xB0000 := rfl
    exact if_neg (by omega)

/-- A read of CNT_H while a shadow is held returns the shadow. -/
theorem State.readReg_cntH {s : State} {id h : Nat} (hid : id < 0x400) (hready : s.pageState pCnt = 4)
    (hs : tabFind s.cnt.readShadow id = some h) : s.readReg pCnt (0x1004 + 8 * id) = h % 2 ^ 16 := by
  have hview : s.view pCnt CNT_H_VAL id 0 = h := by
    show (match tabFind s.cnt.readShadow id with | some v => v | none => s.counter id / 2 ^ 32) = h
    rw [hs]
  rw [State.readReg, if_neg (by simp [hready]), show pCnt.kind = .cnt from rfl, fieldsAt_cntH hid]
  simp [hview, show CNT_H_VAL.acc ≠ .wo by decide, show CNT_H_VAL.lo = 0 from rfl, show CNT_H_VAL.width = 16 from rfl]

theorem State.cntHighRead_held {s : State} {id h : Nat} (hid : id < 0x400) (hready : s.pageState pCnt = 4)
    (hs : tabFind s.cnt.readShadow id = some h) : s.cntHighRead id
      = { s with rdata := h % 2 ^ 16, cnt := { s.cnt with readShadow := tabErase s.cnt.readShadow id } } := by
  simp [State.cntHighRead, hready, hs, State.readReg_cntH hid hready hs]

/-- CNT_H has no field that a read clears. -/
theorem State.rcClear_cntH (s : State) {id : Nat} (hid : id < 0x400) : s.rcClear pCnt (0x1004 + 8 * id) = s := by
  rw [State.rcClear, show pCnt.kind = .cnt from rfl, fieldsAt_cntH hid]
  exact ite_self s

theorem State.pageRead_cntH {s : State} {r : Requester} {id : Nat} (hid : id < 0x400) (hr : s.mayRead r pCnt = true) :
    s.pageRead r pCnt (0x1004 + 8 * id) = s.cntHighRead id := by
  have hidx : (0x1004 + 8 * id - 0x1000) / 8 = id := by omega
  have hin : 0x1000 ≤ 0x1004 + 8 * id ∧ 0x1004 + 8 * id < 0x3000 := by omega
  have hodd : ¬ (0x1004 + 8 * id) % 8 = 0 := by omega
  simp only [State.pageRead, hr, Bool.not_true, Bool.false_eq_true, if_false]
  rw [show pCnt.kind = .cnt from rfl]
  simp only [hin, and_self, if_true, hodd, if_false, hidx, State.rcClear_cntH _ hid, ite_self]

theorem State.rcRead_cntH {s : State} {r : Requester} {id h : Nat} (hid : id < 0x400) (hready : s.pageState pCnt = 4)
    (hr : s.mayRead r pCnt = true) (hs : tabFind s.cnt.readShadow id = some h) :
    s.barRead r (BitVec.ofNat 26 (pageBase pCnt + 0x1004 + 8 * id)).toNat 4
      = { s with rdata := h % 2 ^ 16, cnt := { s.cnt with readShadow := tabErase s.cnt.readShadow id } } := by
  have hbase : pageBase pCnt = 0xB0000 := rfl
  have haddr : (BitVec.ofNat 26 (pageBase pCnt + 0x1004 + 8 * id)).toNat = pageBase pCnt + (0x1004 + 8 * id) := by
    rw [BitVec.toNat_ofNat]
    omega
  have hword : (pageBase pCnt + (0x1004 + 8 * id)) % 4 = 0 := by omega
  have hat : (pageBase pCnt + (0x1004 + 8 * id)) / 4 * 4 = pageBase pCnt + (0x1004 + 8 * id) := by omega
  have hreg : s.regRead r (pageBase pCnt + (0x1004 + 8 * id)) = s.cntHighRead id := by
    rw [State.regRead, pageOf_cnt (by omega)]
    dsimp only
    rw [Nat.add_sub_cancel_left, State.pageRead_cntH hid hr]
  have hbits : bitsAt (h % 65536) 0 32 = h % 65536 := by
    unfold bitsAt
    omega
  rw [haddr, State.barRead, hat, hreg, hword, State.cntHighRead_held hid hready hs]
  simp [hbits]

/-! ### The statement -/

/-- Settles O49: a read of CNT_L shadows its accrued counter and a read of CNT_H uses that shadow up; a write of CNT_H is one
`putCounter` on the held half; and CLRALL drops the counters of the page after one `putCounter` for each that it meets. -/
theorem countersReadWrittenAndCleared : Obligations.CountersReadWrittenAndCleared := by
  refine ⟨fun id s hready => ?lowRead, fun r id h s hready hr hs => ?highRead,
    fun r id v events s ha hw hon => ⟨?lowWrite, ?highWrite⟩,
    fun r id hi v events s => ⟨fun ha => ?refused, fun ha hout => ?absent⟩, fun r coll s hact => ?clear⟩
  case lowRead =>
    refine ⟨_, congrArg Host.Outcome.next (State.cntLowRead_ready _ hready), rfl, tabFind_tabInsert_same _ _ _, rfl, rfl,
      fun hin => ?_, fun hout hon => State.accrue_counter s hout hon⟩
    rw [s.accrue_of_inside hin]
    exact ⟨rfl, rfl, rfl⟩
  case highRead =>
    exact ⟨_, congrArg Host.Outcome.next (State.rcRead_cntH id.isLt hready hr hs), rfl, tabFind_tabErase_same _ _,
      rfl, rfl⟩
  case lowWrite =>
    refine ⟨_, congrArg Host.Outcome.next (State.counterWrite_low ha hw hon _ _), ?_, rfl, rfl⟩
    exact (tabFind_tabInsert_same _ _ _).trans (congrArg some (Nat.mod_eq_of_lt v.isLt))
  case highWrite =>
    obtain ⟨hcounters, hheld, hcoll⟩ := State.counterWrite_high_rest ha hw hon id.isLt v.toNat events
    refine ⟨_, rfl, ?_, fun low hh hlow => State.counterWrite_high_held ha hw hon hh hlow _ _,
      fun hh => State.counterWrite_high_alone ha hw hon hh _ _, fun k hk => ⟨hcounters k hk, ?_⟩, ?_⟩
    · rw [hheld, tabFind_tabErase_same]
    · rw [hheld, tabFind_tabErase_ne _ hk]
    · rw [hcoll _ _ (Nat.mod_lt _ (by decide)), decide_eq_true (Nat.div_add_mod _ _).symm, Bool.and_true]
  case refused =>
    exact ⟨_, congrArg Host.Outcome.next (State.counterWrite_refused ha _ _ _ _), rfl⟩
  case absent => exact congrArg Host.Outcome.next (State.counterWrite_absent ha hout _ _ _)
  case clear =>
    refine ⟨_, exec_counterClearAll coll hact, fun id hid => ?_, fun id hid => ?_, ?_, fun i b hi hb => ?_⟩
    · rw [State.clearAll_counter, if_pos hid]
    · rw [State.clearAll_counter, if_neg (by omega)]
      rfl
    · rintro rfl i hi
      exact State.rd_wr_user s _ (by decide) i
    · rw [State.clearAll_coll coll _ i hb, State.rd_wr_user s _ (by decide) i]

end Sys2Proof.Machine
end
